-- ==== Sys2Proof/Word.lean ====
section
/-! DEFINITION. The word types of the GN-1536 model: a byte, a 32-bit register or packet word (DW), and a 64-bit register.
Identifiers, counters and addresses are `Nat`; what the specification masks or shifts as a register is a bit vector. -/

namespace Sys2Proof

/-- A byte of host or pool memory. -/
abbrev Byte := BitVec 8
/-- A 32-bit register, or one DW of a command packet (R369). -/
abbrev Word := BitVec 32
/-- A 64-bit register (R532). -/
abbrev DWord := BitVec 64

end Sys2Proof
end

