-- ==== Sys2Proof/Syntax.lean ====
section
/-! DEFINITION. The commands of the GN-1536 as spec/opcode_table.json lists them: one constructor of `Instr` for each row,
with the operands that the row's rules give it. -/

namespace Sys2Proof

/-- A command packet as the intake keeps it: its words up to the end mark, and whether a word was dropped (R371). -/
structure Packet where
  words : List Word := []
  dropped : Bool := false
  deriving DecidableEq, Repr, Inhabited

/-- How a directory request reached the part (R69): on a Trellis port with its AGT (R274), through the request window of a
function (R328), as line `piece` of BAR4 request `id` (R325), or as the decision for an engine measure (R148). -/
inductive Via where
  | trellis (port agent : Nat)
  | slot (fn : Nat)
  | bar4 (fn id piece : Nat)
  | engine
  deriving DecidableEq, Repr, Inhabited

/-- The fields of a directory request besides its code (Table 3.4). -/
structure DirReq where
  flags : Nat := 0
  txid : Nat := 0
  pva : Nat := 0
  gen : Nat := 0
  dest : Nat := 0
  atop : Nat := 0
  wide : Bool := false
  operands : List Byte := []
  mask : Nat := 0
  data : List Byte := []
  deriving DecidableEq, Repr, Inhabited


/-- A slot of the Lutik image in the external flash (R399): whether both of its signatures verify, and its SVN. -/
structure ImageSlot where
  ok : Bool := true
  svn : Nat := 0
  deriving DecidableEq, Repr, Inhabited

/-- A slot of the configuration blob (R317, R320, R399, R456, R512): each port's division code, the VFs of each link, the offset
of the lifetime store, and the first contract entry (ENERGY, AVG, PEAK) where it carries one. -/
structure BlobSlot where
  ok : Bool := true
  svn : Nat := 0
  divs : List Nat := [0, 0, 0, 0, 0, 0, 0, 0]
  vfs : List (Nat × Nat) := []
  lifeOff : Nat := 0x01400000
  entry : Option (Nat × Nat × Nat) := none
  deriving DecidableEq, Repr, Inhabited

/-- A lane of a stack's channel: a data lane, or a command-address lane (R247). -/
structure Lane where
  ch : Nat := 0
  ca : Bool := false
  lane : Nat := 0
  deriving DecidableEq, Repr, Inhabited

/-- What a cold boot finds outside the modelled state (Table 18.2): straps, flash, PUFs and the outcome of training. `COLD_BOOT`
carries it because the boot reads it and not the part's own registers. -/
structure BootInfo where
  strap : Nat := 0
  erased : Bool := false           -- the identity area is erased (R513)
  enrolOk : Bool := true           -- an enrolment can finish
  seedA : Bool := true             -- HUB-A recovers the device seed (R398)
  seedB : Bool := true
  lutikA : ImageSlot := {}
  lutikB : ImageSlot := {}
  blobA : BlobSlot := {}
  blobB : BlobSlot := {}
  flashBytes : Nat := 0x08000000
  rpmc : Bool := true              -- the flash has replay-protected counters (R401)
  lutikCtr : Option Nat := some 0  -- none: its authenticated read fails
  blobCtr : Option Nat := some 0
  agree : Bool := true             -- both hubs chose a Lutik of one digest (R400)
  lutik : Word := 0                -- the version that CMD_LUTIK reports
  stacksFailed : List Nat := []    -- stacks whose training fails (R246)
  lanes : List (Nat × Lane) := []  -- failed lanes found by training: stack, lane (R247)
  timeMs : Nat := 0
  deriving DecidableEq, Repr, Inhabited

/-- The commands of the block, one constructor for each row of spec/opcode_table.json. -/
inductive Instr where
  /-- HELLO (R386) -/
  | hello (fn : Nat) (p : Packet)
  /-- CAPS (R387) -/
  | caps (fn : Nat) (p : Packet)
  /-- REGION_CREATE (R61) -/
  | regionCreate (fn : Nat) (p : Packet)
  /-- REGION_DESTROY (R60) -/
  | regionDestroy (fn : Nat) (p : Packet)
  /-- BIN_ADD (R62) -/
  | binAdd (fn : Nat) (p : Packet)
  /-- BIN_REVOKE (R54) -/
  | binRevoke (fn : Nat) (p : Packet)
  /-- REGION_ATTACH (R43) -/
  | regionAttach (fn : Nat) (p : Packet)
  /-- REGION_DETACH (R44) -/
  | regionDetach (fn : Nat) (p : Packet)
  /-- PUBLISH (R48) -/
  | publish (fn : Nat) (p : Packet)
  /-- REGION_INFO (R62) -/
  | regionInfo (fn : Nat) (p : Packet)
  /-- MAP_UPDATE (R112) -/
  | mapUpdate (fn : Nat) (p : Packet)
  /-- MAP_DIGEST (R116) -/
  | mapDigest (fn : Nat) (p : Packet)
  /-- FAULT_RESOLVE (R125) -/
  | faultResolve (fn : Nat) (p : Packet)
  /-- JOB_SUBMIT (R136) -/
  | jobSubmit (fn : Nat) (p : Packet)
  /-- JOB_ABORT (R141) -/
  | jobAbort (fn : Nat) (p : Packet)
  /-- JOB_QUERY (R142) -/
  | jobQuery (fn : Nat) (p : Packet)
  /-- MODEL_LOAD (R209) -/
  | modelLoad (fn : Nat) (p : Packet)
  /-- LAYER_PLACE (R212) -/
  | layerPlace (fn : Nat) (p : Packet)
  /-- MODEL_UNLOAD (R211) -/
  | modelUnload (fn : Nat) (p : Packet)
  /-- MODEL_USERS (R211) -/
  | modelUsers (fn : Nat) (p : Packet)
  /-- DECODE_STEP (R224) -/
  | decodeStep (fn : Nat) (p : Packet)
  /-- METER_SET (R354) -/
  | meterSet (fn : Nat) (p : Packet)
  /-- SCHED_SET (R359) -/
  | schedSet (fn : Nat) (p : Packet)
  /-- GATE_LIST_LOAD (R363) -/
  | gateListLoad (fn : Nat) (p : Packet)
  /-- TENANT_CREATE (R405) -/
  | tenantCreate (fn : Nat) (p : Packet)
  /-- TENANT_REMOVE (R412) -/
  | tenantRemove (fn : Nat) (p : Packet)
  /-- KEY_ROTATE (R410) -/
  | keyRotate (fn : Nat) (p : Packet)
  /-- BIND_WEIGHTS (R418) -/
  | bindWeights (fn : Nat) (p : Packet)
  /-- CONTRACT_LOAD (R457) -/
  | contractLoad (fn : Nat) (p : Packet)
  /-- POWER_READ (R466) -/
  | powerRead (fn : Nat) (p : Packet)
  /-- FAULT_READ (R434) -/
  | faultRead (fn : Nat) (p : Packet)
  /-- HISTORY_READ (R434) -/
  | historyRead (fn : Nat) (p : Packet)
  /-- FAULT_PIN_HOLD (R434) -/
  | faultPinHold (fn : Nat) (p : Packet)
  /-- ROUTE_SET (R302) -/
  | routeSet (fn : Nat) (p : Packet)
  /-- MCAST_GROUP_SET (R306) -/
  | mcastGroupSet (fn : Nat) (p : Packet)
  /-- FUNC_BIND (R332) -/
  | funcBind (fn : Nat) (p : Packet)
  /-- COMMAND_SHED (R377) -/
  | commandShed (fn : Nat)
  /-- ACCEPTED_DEADLINE (R545) -/
  | acceptedDeadline (id : Nat)
  /-- LOAD (R73) -/
  | load (via : Via) (r : DirReq)
  /-- STORE (R73) -/
  | store (via : Via) (r : DirReq)
  /-- ATOMIC (R83) -/
  | atomic (via : Via) (r : DirReq)
  /-- SWAP_IN_SHARED (R73) -/
  | swapInShared (via : Via) (r : DirReq)
  /-- SWAP_IN_HELD (R73) -/
  | swapInHeld (via : Via) (r : DirReq)
  /-- SWAP_OUT (R73) -/
  | swapOut (via : Via) (r : DirReq)
  /-- RELEASE (R73) -/
  | release (via : Via) (r : DirReq)
  /-- INV_ACK (R71) -/
  | invAck (via : Via) (r : DirReq)
  /-- JOB_PACKET (R136) -/
  | jobPacket (port agent tid : Nat) (words : List Word)
  /-- JOB_ABORT_PACKET (R141) -/
  | jobAbortPacket (port agent tid : Nat) (words : List Word)
  /-- STEP_PACKET (R223) -/
  | stepPacket (port agent tid : Nat) (words : List Word)
  /-- MCPL (R277) -/
  | mcpl (port agent tag status : Nat) (data : List Byte)
  /-- BAD_PACKET_RX (R281): the bytes received, whether their first flit is tagged CTRL, and whether a FEC codeword was uncorrectable -/
  | badPacketRx (port : Nat) (flits : List Byte) (ctrl uncorrectable : Bool)
  /-- ACK (R283) -/
  | ack (port seq : Nat)
  /-- NAK (R283) -/
  | nak (port seq : Nat)
  /-- XOFF (R287) -/
  | xoff (port mask : Nat)
  /-- XON (R288) -/
  | xon (port mask : Nat)
  /-- ACK_TIMER (R282) -/
  | ackTimer (port : Nat)
  /-- REPLAY_TIMER (R283) -/
  | replayTimer (port : Nat)
  /-- XOFF_REPEAT (R286) -/
  | xoffRepeat (port vc : Nat)
  /-- XOFF_TIMEOUT (R288) -/
  | xoffTimeout (port vc : Nat)
  /-- PARTNER_TRAINING_SIGNAL (R267) -/
  | partnerTrainingSignal (port : Nat)
  /-- TRAINING_COMPLETE (R269): the partner's CAPS, the 16 round trips measured in ns, and the stamps of the partner's PROBE flits -/
  | trainingComplete (port versions : Nat) (trips : List Nat) (peerEnc peerReq peerKeys : Bool) (ctr0 ctr1 : Nat) (stamps : List Nat := [])
  /-- TRAINING_TIMEOUT (R267) -/
  | trainingTimeout (port cause : Nat)
  /-- RETRAIN_ATTEMPT_FAIL (R292) -/
  | retrainAttemptFail (port cause : Nat)
  /-- LINK_BREAK (R290) -/
  | linkBreak (port cause : Nat)
  /-- BAR4_READ (R326) -/
  | bar4Read (fn off len id : Nat) (tbit : Bool)
  /-- BAR4_WRITE (R325) -/
  | bar4Write (fn off : Nat) (data : List Byte) (tbit : Bool)
  /-- BAR4_ATOMICOP (R325) -/
  | bar4Atomicop (fn off op width id : Nat) (operands : List Byte) (tbit : Bool)
  /-- WIN_WAIT_TIMEOUT (R326) -/
  | winWaitTimeout (fn id : Nat)
  /-- READ_COMPLETION_TIMEOUT (R329) -/
  | readCompletionTimeout (tag : Nat)
  /-- FLR (R341) -/
  | flr (fn : Nat)
  /-- PERST_N_ASSERT (R495) -/
  | perstNAssert (port : Nat)
  /-- PERST_N_RELEASE (R492) -/
  | perstNRelease (port : Nat)
  /-- HOST_LINK_DOWN (R334) -/
  | hostLinkDown (l : Nat)
  /-- IDE_INTEGRITY_FAIL (R337) -/
  | ideIntegrityFail (l stream : Nat)
  /-- LOCK_INTERFACE (R338) -/
  | lockInterface (fn : Nat)
  /-- START_INTERFACE (R338) -/
  | startInterface (fn : Nat)
  /-- STOP_INTERFACE (R338) -/
  | stopInterface (fn : Nat)
  /-- LOCKED_CONFIG_WRITE (R338) -/
  | lockedConfigWrite (fn : Nat)
  /-- SPDM_GET_MEASUREMENTS (R403) -/
  | spdmGetMeasurements (link : Nat) (req : List Byte)
  /-- PQ_SIGN (R404) -/
  | pqSign (link : Nat) (req : List Byte)
  /-- PQ_CERT (R404) -/
  | pqCert (link offset len : Nat)
  /-- TLK_KEY_PROG (R415) -/
  | tlkKeyProg (link port dir num : Nat) (key : List Byte) (salt : Nat)
  /-- TLK_KEY_GO (R415) -/
  | tlkKeyGo (link port num : Nat)
  /-- PTM_REQUEST (R475) -/
  | ptmRequest
  /-- PTM_RESPONSE (R476) -/
  | ptmResponse (t : Nat)
  /-- PTM_TIMEOUT (R475) -/
  | ptmTimeout
  /-- PPS_EDGE (R477) -/
  | ppsEdge (tod : Nat)
  /-- TIME_HOLDOVER (R476) -/
  | timeHoldover
  /-- CMD_WORD (R369) -/
  | cmdWord (fn : Nat) (w : Word) (tbit : Bool := false)
  /-- CMD_LAST (R369) -/
  | cmdLast (fn : Nat) (w : Word) (tbit : Bool := false)
  /-- CMD_FLUSH (R372) -/
  | cmdFlush (fn : Nat) (tbit : Bool := false)
  /-- BANK_SWAP (R370) -/
  | bankSwap (fn : Nat)
  /-- COMPLETION_BUFFER_DRAIN (R381) -/
  | completionBufferDrain (fn : Nat)
  /-- EVENT_BUFFER_DRAIN (R383) -/
  | eventBufferDrain (fn : Nat)
  /-- RESPONSE_RING_DRAIN (R331) -/
  | responseRingDrain (fn : Nat)
  /-- TLK_TRAIN (R267) -/
  | tlkTrain (fn port : Nat)
  /-- TLK_RETRAIN (R290) -/
  | tlkRetrain (fn port : Nat)
  /-- TLK_DISABLE_SET (R267) -/
  | tlkDisableSet (fn port : Nat)
  /-- TLK_DISABLE_CLEAR (R267) -/
  | tlkDisableClear (fn port : Nat)
  /-- TRT_FREEZE (R313) -/
  | trtFreeze (fn : Nat)
  /-- TRT_RELEASE (R313) -/
  | trtRelease (fn : Nat)
  /-- TRT_PEAK_CLR (R312) -/
  | trtPeakClr (fn ports : Nat)
  /-- ENG_OFFLINE (R152) -/
  | engOffline (fn engine : Nat)
  /-- ENGINE_RESET (R496) -/
  | engineReset (fn engine : Nat)
  /-- ENGINE_SELF_TEST_END (R496) -/
  | engineSelfTestEnd (engine : Nat) (pass : Bool)
  /-- PSTATE_DOZE (R497) -/
  | pstateDoze (fn : Nat)
  /-- DOZE_EXIT (R498) -/
  | dozeExit (fn : Nat)
  /-- PSTATE_CELLAR (R499) -/
  | pstateCellar (fn : Nat)
  /-- CELLAR_ENTRY_COMPLETE (R500) -/
  | cellarEntryComplete
  /-- CELLAR_EXIT (R502) -/
  | cellarExit (fn target : Nat)
  /-- CELLAR_EXIT_READY (R502) -/
  | cellarExitReady
  /-- GLB_TIME_SET (R478) -/
  | glbTimeSet (fn : Nat) (up : Word)
  /-- GLB_LIFE_SEL (R487) -/
  | glbLifeSel (fn : Nat) (v : Word)
  /-- DIR_ENTRY_SEL (R100) -/
  | dirEntrySel (fn : Nat) (v : Word)
  /-- OWNER_FN_WRITE (R110) -/
  | ownerFnWrite (fn agent owner : Nat)
  /-- FAULT_STATUS_CLEAR (R428) -/
  | faultStatusClear (fn block inst : Nat) (v : Word)
  /-- FLT_OVF_CLEAR (R436) -/
  | fltOvfClear (fn block w : Nat) (v : Word)
  /-- FLT_PIN_HOLD_WRITE (R433) -/
  | fltPinHoldWrite (fn : Nat) (v : Word)
  /-- VIEW_DATA_READ (R537) -/
  | viewDataRead (fn : Nat) (tbit : Bool := false)
  /-- VINTAGE_LO_READ (R63) -/
  | vintageLoRead (fn : Nat)
  /-- LOW_WORD_READ (R532) -/
  | lowWordRead (fn bar off : Nat) (tbit : Bool := false)
  /-- LOW_WORD_WRITE (R532) -/
  | lowWordWrite (fn bar off : Nat) (v : Word) (tbit : Bool := false)
  /-- REGISTER_WRITE (R8) -/
  | registerWrite (fn bar off width : Nat) (v : DWord) (tbit : Bool := false)
  /-- SMBUS_READ (R509) -/
  | smbusRead (off : Nat) (pecOk : Bool)
  /-- RESET_N (R489) -/
  | resetN (ns : Nat)
  /-- COLD_BOOT (R490) -/
  | coldBoot (b : BootInfo)
  /-- SYSCLK_LOSS (R472) -/
  | sysclkLoss
  /-- REFCLK_LOSS (R472) -/
  | refclkLoss
  /-- REFCLK_RETURN (R472) -/
  | refclkReturn
  /-- VIN_RISE (R522) -/
  | vinRise
  /-- INPUT_LOSS (R526) -/
  | inputLoss
  /-- POWER_SAMPLE (R459) -/
  | powerSample (mw mv : Nat)
  /-- RAIL_FAULT (R524) -/
  | railFault (rail : Nat)
  /-- THROTTLE_N_ASSERT (R464) -/
  | throttleNAssert
  /-- THROTTLE_N_RELEASE (R464) -/
  | throttleNRelease
  /-- STACK_TEMP_READING (R244) -/
  | stackTempReading (stack t : Nat)
  /-- JUNCTION_READING (R464) -/
  | junctionReading (die t : Nat)
  /-- TICK_BOUNDARY (R21) -/
  | tickBoundary
  /-- TILE_PRECHECK (R122) -/
  | tilePrecheck (agent jobid : Nat)
  /-- MEASURE_COMPLETE (R22) -/
  | measureComplete (engine : Nat)
  /-- WRITE_BACK_COMPLETE (R87) -/
  | writeBackComplete (page : Nat)
  /-- COW_COPY_COMPLETE (R47) -/
  | cowCopyComplete (page : Nat)
  /-- SCRUB_COMPLETE (R40) -/
  | scrubComplete (id : Nat)
  /-- DRAIN_COMPLETE (R39) -/
  | drainComplete (region : Nat)
  /-- PUBLISH_SWITCH (R52) -/
  | publishSwitch (region : Nat)
  /-- RACK_PAGE_SWITCH (R173) -/
  | rackPageSwitch (region page : Nat)
  /-- RACK_REWRITE_DONE (R174) -/
  | rackRewriteDone (region : Nat)
  /-- RACK_COMPLETE (R174) -/
  | rackComplete (region : Nat)
  /-- DIGEST_COMPLETE (R117) -/
  | digestComplete (agent : Nat)
  /-- ROTATION_SWEEP_COMPLETE (R406) -/
  | rotationSweepComplete (tenant : Nat)
  /-- OLD_KEY_OVERWRITE (R406) -/
  | oldKeyOverwrite (tenant : Nat)
  /-- PAGE_SCRUB_COMPLETE (R413) -/
  | pageScrubComplete (page : Nat)
  /-- TENANT_SCRUB_COMPLETE (R413) -/
  | tenantScrubComplete (tenant : Nat)
  /-- RATE_CHANGE_COMPLETE (R250) -/
  | rateChangeComplete (stack : Nat)
  /-- LOFT_ACK (R16) -/
  | loftAck
  /-- DELTA_FRAME (R440) -/
  | deltaFrame (good : Bool)
  /-- REFRESH (R244) -/
  | refresh (stack : Nat)
  /-- PERIODIC_RETRAIN (R248) -/
  | periodicRetrain (stack : Nat) (good : Bool) (lanes : List Lane := [])
  /-- CA_PARITY_ERROR (R249) -/
  | caParityError (stack : Nat) (reissueOk : Bool)
  /-- PATROL (R255) -/
  | patrol (stack line symbols : Nat)
  /-- GATE_ENTRY_EXPIRY (R361) -/
  | gateEntryExpiry (port : Nat)
  /-- RECALL_DEADLINE (R78) -/
  | recallDeadline (page : Nat)
  /-- AGENT_LOSS (R98) -/
  | agentLoss (agent : Nat)
  /-- LOST_AGENT_RETURN (R99) -/
  | lostAgentReturn (agent : Nat)
  /-- FAULT_RECORD_EXPIRY (R126) -/
  | faultRecordExpiry (slot : Nat)
  /-- IDEM_RECORD_EXPIRY (R91) -/
  | idemRecordExpiry (agent : Nat)
  /-- JOB_RECORD_EXPIRY (R138) -/
  | jobRecordExpiry (agent : Nat)
  /-- ACCESS_DECAY (R129) -/
  | accessDecay
  /-- WARM_UP_END (R131) -/
  | warmUpEnd
  /-- SKEW_WINDOW_END (R256) -/
  | skewWindowEnd (stack : Nat)
  /-- GOVERNOR_EVALUATION (R463) -/
  | governorEvaluation
  /-- MINUTE_BOUNDARY (R454) -/
  | minuteBoundary
  /-- FAULT_N_PULSE_END (R433) -/
  | faultNPulseEnd
  /-- STACK_FAILURE (R260) -/
  | stackFailure (stack cause : Nat)
  /-- DIE_FAILURE (R452) -/
  | dieFailure (die cause : Nat)
  /-- BRIDGE_LOSS (R451) -/
  | bridgeLoss (die hub : Nat)
  /-- ENGINE_FAULT (R152) -/
  | engineFault (engine : Nat) (afterWrite : Bool)
  /-- HUB_FAILURE (R426) -/
  | hubFailure (hub block cause : Nat)
  /-- STANDBY_LOST (R442) -/
  | standbyLost (cause : Nat)
  /-- SWITCHOVER (R443) -/
  | switchover (cause : Nat)
  /-- RAIL_MISMATCH (R432) -/
  | railMismatch (block inst : Nat)
  /-- PART_FAILED (R448) -/
  | partFailed (cause : Nat)
  /-- HOST_LINK_UP (R334) -/
  | hostLinkUp (l rate width : Nat) (flit : Bool := true)
  /-- CONFIG_WRITE (R334) -/
  | configWrite (fn kind v : Nat)
  /-- READ_COMPLETION (R329) -/
  | readCompletion (tag status : Nat) (data : List Byte)
  /-- SPDM_REQUEST (R402) -/
  | spdmRequest (link code : Nat) (req : List Byte)
  /-- IDE_KM_KEY_PROG (R337) -/
  | ideKmKeyProg (l stream fn : Nat)
  /-- JTAG_INSTRUCTION (R510) -/
  | jtagInstruction (code : Nat) (on : Bool)
  /-- ACCESS_ERROR (R11) -/
  | accessError (hub off : Nat) (read : Bool := false)
  /-- LOG_RECORD_WRITE (R485) -/
  | logRecordWrite (good : Bool)
  /-- PACKET_START (R356) -/
  | packetStart (port : Nat) (link : Nat := 0)
  /-- PREFETCH_WALK_COMPLETE (R119) -/
  | prefetchWalkComplete (hub agent pva : Nat)
  deriving DecidableEq, Repr, Inhabited

end Sys2Proof
end

