-- ==== Sys2Proof/Machine/Bits.lean ====
section
/-! DEFINITION. Bit fields of numbers, byte order, and list helpers used by every block. -/

namespace Sys2Proof.Machine

/-- Bits `[hi:lo]` of `n`, as the specification writes a field. -/
def bits (n hi lo : Nat) : Nat := n / 2 ^ lo % 2 ^ (hi + 1 - lo)

/-- Bit `k` of `n`. -/
def bit (n k : Nat) : Bool := n / 2 ^ k % 2 == 1

/-- One as a number for true, zero for false. -/
def b2n (b : Bool) : Nat := if b then 1 else 0

/-- A field of `width` bits holding `v`, moved to bit `lo`; excess bits of `v` are cut off. -/
def place (v width lo : Nat) : Nat := v % 2 ^ width * 2 ^ lo

/-- The number without its bit `k`. -/
def clearBit (n k : Nat) : Nat := if bit n k then n - 2 ^ k else n

/-- The number with its bit `k` set. -/
def setBit (n k : Nat) : Nat := if bit n k then n else n + 2 ^ k

/-- `n` little-endian bytes of `v`; every multi-byte field of the part has its lowest byte first (R6). -/
def leBytes : Nat → Nat → List Byte
  | 0, _ => []
  | n + 1, v => BitVec.ofNat 8 v :: leBytes n (v / 256)

/-- The number that little-endian bytes spell. -/
def leNat : List Byte → Nat
  | [] => 0
  | b :: bs => b.toNat + 256 * leNat bs

/-- The number that little-endian 32-bit words spell. -/
def leNatW : List Word → Nat
  | [] => 0
  | w :: ws => w.toNat + 2 ^ 32 * leNatW ws

/-- `n` little-endian 32-bit words of `v`. -/
def leWords : Nat → Nat → List Word
  | 0, _ => []
  | n + 1, v => BitVec.ofNat 32 v :: leWords n (v / 2 ^ 32)

/-- Words as little-endian bytes. -/
def bytesOfWords (ws : List Word) : List Byte := ws.flatMap fun w => leBytes 4 w.toNat

/-- Exactly `n` items of `l`, filled up with `d`. -/
def padTo {α : Type} (n : Nat) (d : α) (l : List α) : List α :=
  l.take n ++ List.replicate (n - l.length) d

/-- `l` with item `i` put to `v`; an index past the end changes nothing. -/
def setAt {α : Type} (l : List α) (i : Nat) (v : α) : List α := l.set i v

/-- The first index in `l` whose item meets `p`. -/
def firstIdx {α : Type} (p : α → Bool) (l : List α) : Option Nat :=
  let k := (l.takeWhile fun a => !p a).length
  if k < l.length then some k else none

/-- The set bits of `n` below `w`, lowest first. -/
def maskBits (w n : Nat) : List Nat := (List.range w).filter fun k => bit n k

/-- The mask of a list of distinct bit numbers. -/
def maskOf (ks : List Nat) : Nat := ks.foldl setBit 0

/-- Number of bits set among the low `w`. -/
def popcount (w n : Nat) : Nat := (maskBits w n).length

/-- Bitwise and, or and and-not of masks. -/
def maskAnd (a b : Nat) : Nat := a &&& b
def maskOr (a b : Nat) : Nat := a ||| b
def maskDiff (a b : Nat) : Nat := a ^^^ (a &&& b)

/-- Rounding up: the number of `n`-sized units that cover `a`. -/
def ceilDiv (a n : Nat) : Nat := (a + n - 1) / n

/-- `n` saturated at `top`. -/
def satAt (top n : Nat) : Nat := if n ≤ top then n else top

/-- The smallest item by a key, the first one among equals. -/
def argMin {α : Type} (key : α → Nat) : List α → Option α
  | [] => none
  | a :: as => match argMin key as with
    | none => some a
    | some b => if key a ≤ key b then some a else some b

/-- The largest item by a key, the first one among equals. -/
def argMax {α : Type} (key : α → Nat) : List α → Option α
  | [] => none
  | a :: as => match argMax key as with
    | none => some a
    | some b => if key b ≤ key a then some a else some b

/-- Insertion by an ascending key, after equal keys. -/
def insertBy {α : Type} (key : α → Nat) (a : α) : List α → List α
  | [] => [a]
  | b :: bs => if key a < key b then a :: b :: bs else b :: insertBy key a bs

/-- Stable sort by an ascending key. -/
def sortBy {α : Type} (key : α → Nat) (l : List α) : List α := l.foldl (fun acc a => insertBy key a acc) []

/-- Do two half-open ranges `[a, a+n)` and `[b, b+m)` meet? -/
def overlaps (a n b m : Nat) : Bool := a < b + m && b < a + n

/-- The largest number whose n-th power is at most x, by its bits from bit k - 1 down. -/
def nthRoot (n x : Nat) : Nat → Nat → Nat
  | 0, r => r
  | k + 1, r => nthRoot n x k (if (r + 2 ^ k) ^ n ≤ x then r + 2 ^ k else r)

end Sys2Proof.Machine
end

