-- ==== Sys2Proof/Machine/Aes.lean ====
section
/-! DEFINITION. AES-256 (FIPS 197) and the two modes that the part uses: XTS for lines and bound weights (R407, R416) and GCM for Trellis
packets (R293). The standards are taken from outside the specification, which names them. -/

namespace Sys2Proof.Machine

/-! ### The block cipher -/

/-- The product of two bytes in GF(2^8), x^8 + x^4 + x^3 + x + 1 being zero. -/
def gfMul (a b : Nat) : Nat :=
  ((List.range 8).foldl (fun (x : Nat × Nat) k =>
    let acc := if bit b k then x.1 ^^^ x.2 else x.1
    let twice := x.2 * 2
    (acc, if 256 ≤ twice then twice ^^^ 0x11B else twice)) (0, a)).1

/-- A byte raised to the power 254: its inverse, and zero for zero. -/
def gfInv (a : Nat) : Nat := ([7, 6, 5, 4, 3, 2, 1].foldl (fun (x : Nat × Nat) _ =>
  let sq := gfMul x.1 x.1; (sq, gfMul x.2 sq)) (a, 1)).2

/-- The substitution of one byte: the inverse, then the affine map. -/
def subOf (a : Nat) : Nat :=
  let v := gfInv a
  [1, 2, 3, 4].foldl (fun acc k => acc ^^^ (v * 2 ^ k % 256 + v / 2 ^ (8 - k))) v ^^^ 0x63

def subTable : Array Nat := ((List.range 256).map subOf).toArray
def invTable : Array Nat := ((List.range 256).map fun y => ((List.range 256).find? fun x => subOf x == y).getD 0).toArray

def sub8 (a : Nat) : Nat := subTable.getD a 0
def inv8 (a : Nat) : Nat := invTable.getD a 0

/-- Bytes combined by exclusive or. -/
def xorAll (a b : List Nat) : List Nat := List.zipWith (fun x y => x ^^^ y) a b

/-- The words of the key schedule after the first eight, the last eight being `win`, oldest first. -/
def expand : Nat → Nat → Nat → List (List Nat) → List (List Nat)
  | 0, _, _, _ => []
  | n + 1, i, rc, win =>
    let t := win.getLastD []
    let t := if i % 8 = 0 then
        (match (t.drop 1 ++ t.take 1).map sub8 with
         | b :: r => (b ^^^ rc) :: r
         | [] => [])
      else if i % 8 = 4 then t.map sub8 else t
    let w := xorAll (win.headD []) t
    w :: expand n (i + 1) (if i % 8 = 0 then gfMul rc 2 else rc) (win.drop 1 ++ [w])

/-- Lists of n from a list. -/
def groupsOf {α : Type} (n : Nat) : Nat → List α → List (List α)
  | 0, _ => []
  | k + 1, l => l.take n :: groupsOf n k (l.drop n)

/-- The fifteen round keys of a 256-bit key. -/
def roundKeys (key : List Nat) : List (List Nat) :=
  let ws := groupsOf 4 8 key
  groupsOf 16 15 ((ws ++ expand 52 8 1 ws).flatMap id)

/-- The block's bytes with row r, column c taken from column c + d r (columns are four bytes each). -/
def shiftRows (d : Nat) (b : List Nat) : List Nat := (List.range 16).map fun i => b.getD ((i + 4 * d * (i % 4)) % 16) 0

/-- Every column multiplied by the circulant matrix whose first row is `m`. -/
def mixWith (m : List Nat) (b : List Nat) : List Nat :=
  (List.range 16).map fun i =>
    (List.range 4).foldl (fun acc j => acc ^^^ gfMul (m.getD ((j + 4 - i % 4) % 4) 0) (b.getD (i / 4 * 4 + j) 0)) 0

/-- A block enciphered. -/
def aesEnc (rks : List (List Nat)) (b : List Nat) : List Nat :=
  match rks with
  | [] => b
  | k0 :: ks =>
    let b := ks.dropLast.foldl (fun b k => xorAll (mixWith [2, 3, 1, 1] (shiftRows 1 (b.map sub8))) k) (xorAll b k0)
    xorAll (shiftRows 1 (b.map sub8)) (ks.getLastD [])

/-- A block deciphered: every step undone in the opposite order. -/
def aesDec (rks : List (List Nat)) (b : List Nat) : List Nat :=
  match rks with
  | [] => b
  | k0 :: ks =>
    let b := (shiftRows 3 (xorAll b (ks.getLastD []))).map inv8
    xorAll (ks.dropLast.reverse.foldl (fun b k => (shiftRows 3 (mixWith [14, 11, 13, 9] (xorAll b k))).map inv8) b) k0

/-- The key schedule of a key in bytes. -/
def keysOf (key : List Byte) : List (List Nat) := roundKeys ((padTo 32 0 key).map BitVec.toNat)

/-! ### XTS (IEEE 1619) -/

/-- A number as sixteen bytes, the first the least. -/
def block16 (n : Nat) : List Nat := (List.range 16).map fun i => n / 256 ^ i % 256

/-- A tweak multiplied by α: the number its bytes spell doubled, x^128 being x^7 + x^2 + x + 1. -/
def alpha (t : List Nat) : List Nat :=
  let n := t.foldr (fun b n => b + 256 * n) 0 * 2
  block16 (if 2 ^ 128 ≤ n then n ^^^ (2 ^ 128 + 0x87) else n)

/-- The blocks of a data unit run through the cipher, each between two additions of its tweak. -/
def xtsBlocks (f : List Nat → List Nat) : Nat → List Nat → List Nat → List Nat
  | 0, _, _ => []
  | k + 1, t, bs => xorAll (f (xorAll (bs.take 16) t)) t ++ xtsBlocks f k (alpha t) (bs.drop 16)

/-- A data unit, a multiple of 16 bytes, through XTS: the data key, the tweak key, the unit's number and its bytes. -/
def xtsUnit (dec : Bool) (k1 k2 : List Byte) (unit : Nat) (bs : List Byte) : List Byte :=
  let ks := keysOf k1
  (xtsBlocks (if dec then aesDec ks else aesEnc ks) (bs.length / 16) (aesEnc (keysOf k2) (block16 unit)) (bs.map BitVec.toNat)).map
    (BitVec.ofNat 8)

/-! ### GCM (SP 800-38D) -/

/-- A block of bytes as GCM's element of GF(2^128): the first bit of the first byte is the coefficient of 1, kept as bit 127. -/
def gcmElt (b : List Nat) : Nat := b.foldl (fun n x => n * 256 + x) 0

/-- The product of two elements; bit 127 - i is the coefficient of x^i. -/
def gcmMul (x y : Nat) : Nat :=
  ((List.range 128).foldl (fun (a : Nat × Nat) i =>
    let acc := if bit x (127 - i) then a.1 ^^^ a.2 else a.1
    (acc, if a.2 % 2 = 1 then a.2 / 2 ^^^ (0xE1 * 2 ^ 120) else a.2 / 2)) (0, y)).1

/-- Bytes as blocks of sixteen, the last filled with zeros. -/
def blocksPad (bs : List Nat) : List (List Nat) :=
  (groupsOf 16 ((bs.length + 15) / 16) bs).map fun b => b ++ List.replicate (16 - b.length) 0

/-- GHASH under h of additional data and ciphertext. -/
def ghash (h : Nat) (aad ct : List Nat) : Nat :=
  let step := fun (y : Nat) (b : List Nat) => gcmMul (y ^^^ gcmElt b) h
  let y := (blocksPad aad ++ blocksPad ct).foldl step 0
  gcmMul (y ^^^ (8 * aad.length * 2 ^ 64 + 8 * ct.length)) h

/-- A counter block as bytes: the 96-bit IV and a 32-bit counter, most significant byte first. -/
def ctrBlock (iv : List Nat) (n : Nat) : List Nat := iv ++ (List.range 4).map fun i => n / 256 ^ (3 - i) % 256

/-- Bytes combined with the key stream from counter n on. -/
def gcmStream (ks : List (List Nat)) (iv : List Nat) (n : Nat) (bs : List Nat) : List Nat :=
  xorAll bs ((List.range ((bs.length + 15) / 16)).flatMap fun i => aesEnc ks (ctrBlock iv (n + i)))

/-- The 16-byte tag of additional data and ciphertext. -/
def gcmTag (ks : List (List Nat)) (iv aad ct : List Nat) : List Nat :=
  let h := gcmElt (aesEnc ks (List.replicate 16 0))
  let y := ghash h aad ct
  xorAll ((List.range 16).map fun i => y / 256 ^ (15 - i) % 256) (aesEnc ks (ctrBlock iv 1))

/-- Encryption: the ciphertext and its tag. -/
def gcmSeal (key iv aad pt : List Byte) : List Byte × List Byte :=
  let n := fun (l : List Byte) => l.map BitVec.toNat
  let ks := keysOf key
  let ct := gcmStream ks (n iv) 2 (n pt)
  (ct.map (BitVec.ofNat 8), (gcmTag ks (n iv) (n aad) ct).map (BitVec.ofNat 8))

/-- Decryption: the plaintext, none where the tag does not verify. -/
def gcmOpen (key iv aad ct tag : List Byte) : Option (List Byte) :=
  let n := fun (l : List Byte) => l.map BitVec.toNat
  let ks := keysOf key
  if gcmTag ks (n iv) (n aad) (n ct) == n tag then some ((gcmStream ks (n iv) 2 (n ct)).map (BitVec.ofNat 8)) else none

end Sys2Proof.Machine
end

