-- ==== Sys2Proof/Machine/Hash.lean ====
section
/-! DEFINITION. CRC-32C (R157) and SHA-384 (FIPS 180-4; the standard is taken from outside the specification, which names it
in R116, R158 and R214), its constants formed as it defines them. -/

namespace Sys2Proof.Machine

/-! ### CRC-32C -/

/-- Eight steps of the reflected CRC register; 0x82F63B78 is polynomial 0x1EDC6F41 reflected. -/
def crcBits : Nat → Nat → Nat
  | 0, c => c
  | k + 1, c => crcBits k (if c % 2 = 1 then (c / 2) ^^^ 0x82F63B78 else c / 2)

/-- The register after more bytes. -/
def crcFold (c : Nat) (bs : List Byte) : Nat := bs.foldl (fun c b => crcBits 8 (c ^^^ b.toNat)) c

/-- CRC-32C of a byte string (R157). -/
def crc32c (bs : List Byte) : Nat := crcFold 0xFFFFFFFF bs ^^^ 0xFFFFFFFF

/-! ### SHA-384 -/

/-- Has the number no divisor from 2 up to itself? -/
def isPrime (n : Nat) : Bool := 2 ≤ n && (List.range (n - 2)).all fun d => n % (d + 2) != 0

/-- The first 80 primes. -/
def primes80 : List Nat := (List.range 410).filter isPrime

/-- The first 64 fraction bits of the k-th root of a small number. -/
def rootBits (k p : Nat) : Nat := nthRoot k (p * 2 ^ (64 * k)) 72 0 % 2 ^ 64

/-- The round constants: of the cube roots of the first 80 primes. -/
def shaK : List Nat := primes80.map (rootBits 3)

/-- The initial hash value of SHA-384: of the square roots of the ninth to the sixteenth prime. -/
def sha384Init : List Nat := ((primes80.drop 8).take 8).map (rootBits 2)

def w64 (n : Nat) : Nat := n % 2 ^ 64

/-- A word rotated right by each of some amounts, the results combined by exclusive or. -/
def spin (ks : List Nat) (x : Nat) : Nat := ks.foldl (fun acc k => acc ^^^ (x / 2 ^ k + x % 2 ^ k * 2 ^ (64 - k))) 0

/-- The number that big-endian bytes spell. -/
def beNat (bs : List Byte) : Nat := bs.foldl (fun n b => n * 256 + b.toNat) 0

/-- `n` big-endian bytes. -/
def beBytes (n v : Nat) : List Byte := (leBytes n v).reverse

/-- One round on the eight working words, `kw` being the sum of its constant and its message word. -/
def shaRound (v : List Nat) (kw : Nat) : List Nat :=
  match v with
  | [a, b, c, d, e, f, g, h] =>
    let choose := g ^^^ (e &&& (f ^^^ g))
    let most := (a &&& (b ||| c)) ||| (b &&& c)
    let t := kw + h + choose + spin [14, 18, 41] e
    [w64 (t + most + spin [28, 34, 39] a), a, b, c, w64 (d + t), e, f, g]
  | v => v

/-- The rounds, one for each constant, run along the message schedule; `win` holds its next sixteen words. -/
def shaRounds : List Nat → List Nat → List Nat → List Nat
  | k :: ks, w :: win, v =>
    let at_ := fun i => win.getD (i - 1) 0
    let next := w + at_ 9 + (spin [1, 8] (at_ 1) ^^^ at_ 1 / 2 ^ 7) + (spin [19, 61] (at_ 14) ^^^ at_ 14 / 2 ^ 6)
    shaRounds ks (win ++ [w64 next]) (shaRound v (k + w))
  | _, _, v => v

/-- One 128-byte block. -/
def shaBlock (h : List Nat) (b : List Byte) : List Nat :=
  let ws := (List.range 16).map fun i => beNat ((b.drop (8 * i)).take 8)
  let v := shaRounds shaK ws h
  (h.zip v).map fun p => w64 (p.1 + p.2)

/-- Whole blocks hashed; `fuel` bounds their number. -/
def shaBlocks : Nat → List Nat → List Byte → List Nat
  | 0, h, _ => h
  | k + 1, h, bs => if bs.length < 128 then h else shaBlocks k (shaBlock h (bs.take 128)) (bs.drop 128)

/-- The digest of a message. -/
def sha384 (m : List Byte) : List Byte :=
  let n := m.length
  let z := (239 - n % 128) % 128
  let p := m ++ [0x80] ++ List.replicate z 0 ++ beBytes 16 (8 * n)
  ((shaBlocks (p.length / 128) sha384Init p).take 6).flatMap fun w => beBytes 8 w

end Sys2Proof.Machine
end

