-- ==== Sys2Proof/Machine/Cask.lean ====
section
/-! DEFINITION. The lossless cask format (R162 to R165): coded planes, blocks, the header and the index. -/

namespace Sys2Proof.Machine

/-- Input bytes of a whole block (R162). -/
abbrev CBLK : Nat := 65536

/-- Length of the run of bytes equal to `b` at the front, at most `n`. -/
def runLen (b : Byte) : Nat → List Byte → Nat
  | 0, _ => 0
  | _, [] => 0
  | n + 1, x :: xs => if x == b then runLen b n xs + 1 else 0

/-- Run at the front of a plane, at most 130. -/
def frontRun (bs : List Byte) : Nat := match bs with | [] => 0 | b :: _ => runLen b 130 bs

/-- The longest literal at the front: up to `n` bytes, stopping before the next run of three. -/
def litLen : Nat → List Byte → Nat
  | 0, _ => 0
  | _, [] => 0
  | n + 1, x :: xs => if 3 ≤ runLen x 3 (x :: xs) then 0 else litLen n xs + 1

/-- A plane's tokens (R164, R165 rule 1); `fuel` is its length. -/
def encPlane : Nat → List Byte → List Byte
  | 0, _ => []
  | fuel + 1, bs =>
    match bs with
    | [] => []
    | b :: _ =>
      let r := frontRun bs
      if 3 ≤ r then BitVec.ofNat 8 (0x80 + r - 3) :: b :: encPlane fuel (bs.drop r)
      else
        let k := litLen 128 bs
        BitVec.ofNat 8 (k - 1) :: (bs.take k ++ encPlane fuel (bs.drop k))

/-- The plane that tokens spell (R164); none when a token is cut short. -/
def decPlane : Nat → List Byte → Option (List Byte)
  | 0, bs => if bs.isEmpty then some [] else none
  | fuel + 1, bs =>
    match bs with
    | [] => some []
    | t :: rest =>
      if t.toNat < 0x80 then
        if rest.length < t.toNat + 1 then none
        else (decPlane fuel (rest.drop (t.toNat + 1))).map fun r => rest.take (t.toNat + 1) ++ r
      else
        match rest with
        | [] => none
        | b :: rest => (decPlane fuel rest).map fun r => List.replicate (t.toNat - 0x80 + 3) b ++ r

/-- Every `w`-th byte of whole elements, starting at byte `j`. -/
def planeOf (w j : Nat) (bs : List Byte) : List Byte :=
  (List.range (bs.length / w)).map fun i => bs.getD (i * w + j) 0

/-- A coded block (R163, R165). -/
def encBlock (w : Nat) (bs : List Byte) : List Byte :=
  let head := fun (kind : Nat) =>
    leBytes 1 kind ++ leBytes 1 w ++ [0, 0] ++ leBytes 4 bs.length ++ leBytes 4 (crc32c bs) ++ [0, 0, 0, 0]
  if bs.all fun b => b == 0 then head 1
  else
    let ps := (List.range w).map fun j => encPlane (bs.length + 1) (planeOf w j bs)
    let body := ps.flatMap (fun p => leBytes 4 p.length) ++ ps.flatten ++ bs.drop (bs.length / w * w)
    if body.length < bs.length then head 2 ++ body else head 0 ++ bs

/-- Planes read one after the other by their lengths. -/
def takePlanes : List Nat → List Byte → Option (List (List Byte) × List Byte)
  | [], bs => some ([], bs)
  | n :: ns, bs =>
    if bs.length < n then none
    else match decPlane (n + 1) (bs.take n), takePlanes ns (bs.drop n) with
      | some p, some (ps, r) => some (p :: ps, r)
      | _, _ => none

/-- The input of a coded block, checked by its CRC (R168); none when a check fails. -/
def decBlock (bs : List Byte) : Option (List Byte) :=
  let kind := leNat (bs.take 1)
  let w := leNat ((bs.drop 1).take 1)
  let n := leNat ((bs.drop 4).take 4)
  let body := bs.drop 16
  let out :=
    if kind = 0 then some (body.take n)
    else if kind = 1 then some (List.replicate n 0)
    else if kind = 2 && (w == 1 || w == 2 || w == 4) then
      let lens := (List.range w).map fun j => leNat ((body.drop (4 * j)).take 4)
      match takePlanes lens (body.drop (4 * w)) with
      | some (ps, tail) =>
        if ps.all fun p => p.length == n / w then
          some (((List.range (n / w)).flatMap fun i => ps.map fun p => p.getD i 0) ++ tail.take (n % w))
        else none
      | none => none
    else none
  match out with
  | some o => if o.length = n ∧ crc32c o = leNat ((bs.drop 8).take 4) then some o else none
  | none => none

/-- Blocks of an input of `n` bytes. -/
def caskBlocks (n : Nat) : Nat := ceilDiv n CBLK

/-- Bytes of the header and the padded index. -/
def caskHeadLen (blocks : Nat) : Nat := 64 + 64 * ceilDiv (8 * blocks) 64

/-- The bound that DCAP must reach (R166). -/
def caskBound (blocks : Nat) : Nat := caskHeadLen blocks + blocks * (16 + CBLK)

/-- Header and index of a cask from its blocks' coded lengths (Table 5.9). -/
def caskHead (w ulen : Nat) (lens : List Nat) : List Byte :=
  let b := lens.length
  let start := caskHeadLen b
  let offs := lens.foldl (fun (acc : List Nat × Nat) l => (acc.1 ++ [acc.2], acc.2 + l)) ([], start)
  let h := [0x43, 0x41, 0x53, 0x4B] ++ leBytes 2 1 ++ leBytes 1 w ++ [0] ++ leBytes 8 ulen ++ leBytes 4 b ++
    leBytes 8 offs.2 ++ List.replicate 32 0
  h ++ leBytes 4 (crc32c h) ++
    padTo (start - 64) 0 ((offs.1.zip lens).flatMap fun p => leBytes 8 (p.1 % 2 ^ 40 + 2 ^ 40 * (p.2 % 2 ^ 17)))

/-- The fields of a cask header: input length, blocks and cask length; none when a check of R168 fails. -/
def caskOpen (h : List Byte) : Option (Nat × Nat × Nat) :=
  if h.take 4 == [0x43, 0x41, 0x53, 0x4B] && leNat ((h.drop 4).take 2) == 1 &&
      crc32c (h.take 60) == leNat ((h.drop 60).take 4) then
    some (leNat ((h.drop 8).take 8), leNat ((h.drop 16).take 4), leNat ((h.drop 20).take 8))
  else none

/-- Offset and coded length of an index entry. -/
def caskEntry (e : Nat) : Nat × Nat := (bits e 39 0, bits e 56 40)

end Sys2Proof.Machine
end

