-- ==== Sys2Proof/Machine/Fp.lean ====
section
/-! DEFINITION. The part's arithmetic on numbers: exact dyadic values, their encodings in the element formats of Table 6.2,
and binary32 arithmetic with one rounding to nearest-even (R84, R179, R182 to R186). -/

namespace Sys2Proof.Machine

/-- A decoded value: `fin neg m e` is m × 2^e with a sign. -/
inductive FV where
  | nan
  | inf (neg : Bool)
  | fin (neg : Bool) (m : Nat) (e : Int)
  deriving DecidableEq, Repr, Inhabited

/-- A binary format: exponent and fraction bits, whether the all-ones exponent is special (IEEE), whether only the all-ones
pattern is NaN (E4M3), the largest magnitude pattern kept finite, whether larger ones saturate, and the NaN written. -/
structure FpFmt where
  eb : Nat
  mb : Nat
  ieee : Bool
  e4m3 : Bool := false
  top : Nat
  sat : Bool
  nanOut : Nat
  deriving DecidableEq, Repr, Inhabited

def f32 : FpFmt := { eb := 8, mb := 23, ieee := true, top := 0x7F7FFFFF, sat := false, nanOut := 0x7FC00000 }
def bf16 : FpFmt := { eb := 8, mb := 7, ieee := true, top := 0x7F7F, sat := false, nanOut := 0x7FC0 }
def f16 : FpFmt := { eb := 5, mb := 10, ieee := true, top := 0x7BFF, sat := false, nanOut := 0x7E00 }
def e4m3 : FpFmt := { eb := 4, mb := 3, ieee := false, e4m3 := true, top := 0x7E, sat := true, nanOut := 0x7F }
def e5m2 : FpFmt := { eb := 5, mb := 2, ieee := true, top := 0x7B, sat := true, nanOut := 0x7E }
def e2m3 : FpFmt := { eb := 2, mb := 3, ieee := false, top := 0x1F, sat := true, nanOut := 0 }
def e3m2 : FpFmt := { eb := 3, mb := 2, ieee := false, top := 0x1F, sat := true, nanOut := 0 }
def e2m1 : FpFmt := { eb := 2, mb := 1, ieee := false, top := 0x7, sat := true, nanOut := 0 }

/-- Exponent bias of a format. -/
def FpFmt.bias (f : FpFmt) : Int := 2 ^ (f.eb - 1) - 1

/-- Exponent of the format's smallest unit. -/
def FpFmt.emin (f : FpFmt) : Int := 1 - f.bias - f.mb

/-- The value of a bit pattern. -/
def FpFmt.dec (f : FpFmt) (b : Nat) : FV :=
  let neg := bit b (f.eb + f.mb)
  let E := bits b (f.eb + f.mb - 1) f.mb
  let F := bits b (f.mb - 1) 0
  let full := 2 ^ f.eb - 1
  if f.ieee && E == full then (if F = 0 then .inf neg else .nan)
  else if f.e4m3 && E == full && F == 2 ^ f.mb - 1 then .nan
  else if E = 0 then .fin neg F f.emin
  else .fin neg (F + 2 ^ f.mb) (f.emin + (E - 1 : Nat))

/-- Number of bits of m. -/
def bitLen (m : Nat) : Nat := if m = 0 then 0 else Nat.log2 m + 1

/-- m / 2^k rounded to nearest-even. -/
def rneShift (m k : Nat) : Nat :=
  let q := m / 2 ^ k
  let r := m % 2 ^ k
  if 2 * r > 2 ^ k || (2 * r == 2 ^ k && q % 2 == 1) then q + 1 else q

/-- m / 2^k rounded by R186's random value r. -/
def srShift (m k r : Nat) : Nat :=
  let q := m / 2 ^ k
  if m % 2 ^ k * 65536 / 2 ^ k + r ≥ 65536 then q + 1 else q

/-- The magnitude pattern of m × 2^e in a format, before saturation; `rnd` none is to nearest-even, some r is stochastic. -/
def FpFmt.mag (f : FpFmt) (rnd : Option Nat) (m : Nat) (e : Int) : Nat :=
  if m = 0 then 0
  else
    let q := max f.emin (e + bitLen m - (f.mb + 1))
    let n := if q ≤ e then m * 2 ^ (e - q).toNat
      else match rnd with
        | none => rneShift m (q - e).toNat
        | some r => srShift m (q - e).toNat r
    (q - f.emin).toNat * 2 ^ f.mb + n

/-- The pattern of a value (R183): beyond the largest finite magnitude it saturates or becomes infinity. -/
def FpFmt.enc (f : FpFmt) (rnd : Option Nat) (v : FV) : Nat :=
  let sgn := fun (neg : Bool) => b2n neg * 2 ^ (f.eb + f.mb)
  match v with
  | .nan => f.nanOut
  | .inf neg => sgn neg + (if f.sat then f.top else f.top + 1)
  | .fin neg m e =>
    let k := f.mag rnd m e
    sgn neg + (if k ≤ f.top then k else if f.sat then f.top else f.top + 1)

/-- Rounded to binary32 once. -/
def r32 (v : FV) : Nat := f32.enc none v

def FV.neg : FV → FV | .nan => .nan | .inf n => .inf !n | .fin n m e => .fin (!n) m e

/-- The exact sum; a zero sum of nonzero or unlike operands is +0. -/
def FV.add (a b : FV) : FV :=
  match a, b with
  | .nan, _ => .nan
  | _, .nan => .nan
  | .inf x, .inf y => if x == y then .inf x else .nan
  | .inf x, _ => .inf x
  | _, .inf y => .inf y
  | .fin x m e, .fin y n f =>
    let q := min e f
    let m' := m * 2 ^ (e - q).toNat
    let n' := n * 2 ^ (f - q).toNat
    if x == y then .fin x (m' + n') q
    else if m' > n' then .fin x (m' - n') q
    else if n' > m' then .fin y (n' - m') q
    else .fin false 0 q

/-- The exact product. -/
def FV.mul (a b : FV) : FV :=
  match a, b with
  | .nan, _ => .nan
  | _, .nan => .nan
  | .inf x, .inf y => .inf (x != y)
  | .inf x, .fin y n _ => if n = 0 then .nan else .inf (x != y)
  | .fin x m _, .inf y => if m = 0 then .nan else .inf (x != y)
  | .fin x m e, .fin y n f => .fin (x != y) (m * n) (e + f)

/-- A quotient precise enough to round once: 64 extra bits and a sticky bit. -/
def FV.div (a b : FV) : FV :=
  match a, b with
  | .nan, _ => .nan
  | _, .nan => .nan
  | .inf _, .inf _ => .nan
  | .inf x, .fin y _ _ => .inf (x != y)
  | .fin x _ _, .inf y => .fin (x != y) 0 0
  | .fin x m e, .fin y n f =>
    if n = 0 then (if m = 0 then .nan else .inf (x != y))
    else
      let k := 64 + bitLen n
      let q := m * 2 ^ k / n
      let st := if m * 2 ^ k % n = 0 then 0 else 1
      .fin (x != y) (2 * q + st) (e - f - k - 1)

def FV.isNan : FV → Bool | .nan => true | _ => false
def FV.isZero : FV → Bool | .fin _ m _ => m == 0 | _ => false

/-- Strictly less, on values that are not NaN; zeros of both signs are equal. -/
def FV.lt (a b : FV) : Bool :=
  match FV.add a b.neg with
  | .fin n m _ => n && m != 0
  | .inf n => n
  | .nan => match a, b with
    | .inf x, .inf y => x && !y
    | _, _ => false

def dec32 (b : Nat) : FV := f32.dec (b % 2 ^ 32)

/-- binary32 addition, multiplication, division and fused multiply-add on bit patterns (R179). -/
def add32 (a b : Nat) : Nat := r32 ((dec32 a).add (dec32 b))
def sub32 (a b : Nat) : Nat := r32 ((dec32 a).add (dec32 b).neg)
def mul32 (a b : Nat) : Nat := r32 ((dec32 a).mul (dec32 b))
def div32 (a b : Nat) : Nat := r32 ((dec32 a).div (dec32 b))
def fma32 (a b c : Nat) : Nat := r32 (((dec32 a).mul (dec32 b)).add (dec32 c))

/-- binary32 of a natural number. -/
def nat32 (n : Nat) : Nat := r32 (.fin false n 0)

def isNan32 (b : Nat) : Bool := (dec32 b).isNan
def isInf32 (b : Nat) : Bool := match dec32 b with | .inf _ => true | _ => false
def lt32 (a b : Nat) : Bool := (dec32 a).lt (dec32 b)

/-- One BF16 lane of FADD_BF16 (R84): the FP32 sum, rounded to BF16. -/
def addBf16 (a b : Nat) : Nat :=
  let x := r32 ((bf16.dec a).add (bf16.dec b))
  bf16.enc none (dec32 x)

/-- A value rounded to INT8: nearest integer, ties to even, saturated; NaN gives 0 (R183). -/
def encInt8 (v : FV) : Nat :=
  match v with
  | .nan => 0
  | .inf n => if n then 0x80 else 0x7F
  | .fin n m e =>
    let k := if 0 ≤ e then m * 2 ^ e.toNat else rneShift m (-e).toNat
    if n then (256 - min k 128) % 256 else min k 127

/-- The value of an INT8 element. -/
def decInt8 (b : Nat) : FV := if b % 256 < 128 then .fin false (b % 256) 0 else .fin true (256 - b % 256) 0

end Sys2Proof.Machine
end

