-- ==== Sys2Proof/Machine/Atomic.lean ====
section
/-! DEFINITION. The atomic operations of Table 3.8 on the bytes of one field (R83, R84). -/

namespace Sys2Proof.Machine

/-- A 64-bit pattern as a signed integer. -/
def signed64 (n : Nat) : Int := if n < 2 ^ 63 then (n : Int) else (n : Int) - 2 ^ 64

/-- One lane of an operation on `n` bytes, old value and operand as numbers. -/
def atomLane (atop a b : Nat) : Nat :=
  match atop with
  | 0 => (a + b) % 2 ^ 64
  | 3 => if signed64 b < signed64 a then b else a
  | 4 => if signed64 a < signed64 b then b else a
  | 5 => add32 a b
  | 6 => addBf16 a b
  | _ => b

/-- Bytes of a lane: one integer, one FP32, one BF16. -/
def laneBytes (atop : Nat) : Nat := if atop = 5 then 4 else if atop = 6 then 2 else 8

/-- Lanes of `n` bytes combined pairwise; `fuel` is the number of lanes. -/
def atomLanes (atop n : Nat) : Nat → List Byte → List Byte → List Byte
  | 0, _, _ => []
  | k + 1, old, op =>
    leBytes n (atomLane atop (leNat (old.take n)) (leNat (op.take n))) ++ atomLanes atop n k (old.drop n) (op.drop n)

/-- The new bytes of a field of 8 or 16 B (Table 3.8). CAS compares operand bytes 0 onward and swaps in bytes 16 onward
(Table 9.9). -/
def atomOp (atop : Nat) (old operands : List Byte) : List Byte :=
  let w := old.length
  let ops := padTo 32 0 operands
  match atop with
  | 1 => ops.take w
  | 2 => if old == ops.take w then (ops.drop 16).take w else old
  | _ => atomLanes atop (laneBytes atop) (w / laneBytes atop) old ops

end Sys2Proof.Machine
end

