-- ==== Sys2Proof/Config.lean ====
section
/-! DEFINITION. What the specification leaves open: free values, each an opaque constant that no proof can evaluate.
A counter argument is `State.fresh`, which the step advances; other arguments are the operands the value may depend on. -/

namespace Sys2Proof

/-- Which of the possible placements of a bin RGN chooses (R28, R30: "RGN chooses the bins"). -/
opaque Config.binChoice : Nat → Nat
/-- Which free slot a new fault record takes (R124). -/
opaque Config.faultSlot : Nat → Nat
/-- How many changes beyond the first one tick's delta can carry (R440 gives the budget in bytes only). -/
opaque Config.deltaRoom : Nat
/-- The bytes of the delta sent for a tick (R440). -/
opaque Config.deltaBytes : Nat → Nat

/-- The number of a block's dual-rail pair, carried as INFO of a RAIL_MISMATCH (Table 15.3 names no numbering). -/
opaque Config.pairNo : Nat → Nat → Nat
/-- The CLASS code that a RAIL_MISMATCH entry carries (Table 15.2 gives none). -/
opaque Config.railClass : Nat

/-- The stamps of a training's PROBE flits (Table 9.12), by its draw and the flit's number. -/
opaque Config.stamp : Nat → Nat → Nat

/-- Which of the patterns within 2 units in the last place of the exact value an exp, erf, tanh, rsqrt, sine or cosine gives (R218), by
its function and operands: one method on every engine. -/
opaque Config.ulps : Nat → List Nat → Nat
/-- What those functions give where no value exists (rsqrt of zero or of a negative number, a power of a θ that is not positive). -/
opaque Config.noReal : Nat → List Nat → Nat
/-- The data key and the tweak key of AES-256-XTS for a content key: 32 bytes are all that a bundle carries of both (R416, R417). -/
opaque Config.xtsKeys : List Byte → List Byte × List Byte
/-- A key of the random bit generator of SEC (Table 14.1, R405, R410), by its draw: the data key and the tweak key of XTS. -/
opaque Config.newKey : Nat → List Byte × List Byte

/-- Bytes that a measure stopped after its first write leaves in its destination (R152): the draw and the byte's number. -/
opaque Config.tornByte : Nat → Nat → Byte

/-- The 48 bytes of IDENT (R397), of the device's own key. -/
opaque Config.ident : List Byte
/-- RSAES-OAEP unwrapping under DEV_WRAP: the payload, none where it fails (R417). -/
opaque Config.unwrap : List Byte → Option (List Byte)
/-- RSASSA-PSS verification: modulus, exponent, digest, signature (R417). -/
opaque Config.rsaVerify : List Byte → List Byte → List Byte → List Byte → Bool
/-- SLH-DSA verification: public key, digest, signature (R417). -/
opaque Config.slhVerify : List Byte → List Byte → List Byte → Bool
/-- A measurement block of Table 14.3 from its index and the values it covers. -/
opaque Config.measBlock : Nat → List Nat → List Byte
/-- DEV_SIGN_R's signature over a transcript, and DEV_SIGN_Q's (R402, R404). -/
opaque Config.signR : List Byte → List Byte
opaque Config.signQ : List Byte → List Byte
/-- Bytes of DEV_SIGN_Q's certificate chain: offset and length (R404). -/
opaque Config.pqChain : Nat → Nat → List Byte
/-- The body of an SPDM response that no rule of the specification spells: request code and request (R402). -/
opaque Config.spdmBody : Nat → List Byte → List Byte

/-- HUB cycles of a tick in which a packet was ready for a port on a VC that the partner held off, and in which one waited in the crossbar
(R312), by the tick's draw and the port. -/
opaque Config.xoffCycles : Nat → Nat → Nat
opaque Config.xbarCycles : Nat → Nat → Nat

/-- Where a translation table lies, by the mark of its allocation and its key: its first copy's place among the 2^20 of 8 KiB that the
stacks keep for tables, and its second copy's among the 65,536 of the stack that R107 gives it. -/
opaque Config.tableSlot : Nat → Nat → Nat
opaque Config.tableCopy : Nat → Nat → Nat

/-- Lines in which symbols go wrong in a tick (R252), by its draw: the line's PA / 64, how many are wrong, and their pattern. -/
opaque Config.lineErrors : Nat → List (Nat × Nat × Nat)
/-- Errors that blocks find in their own stores during a tick, by its draw: block, instance, cause of Table 15.2, INFO, and what else the
error names. Nothing in the specification says when one arises. -/
opaque Config.ownErrors : Nat → List (Nat × Nat × Nat × Nat × Nat)
/-- Whether a line with three or more wrong symbols is reported as corrected, and what its data then differs by (R252): both depend
on the pattern of errors only; the second argument is the byte's number. -/
opaque Config.threeCorrected : Nat → Bool
opaque Config.wrongBits : Nat → Nat → Byte
/-- Does a bank-queue entry outlast a tick (R240, R241): the draw, the stack, and the entry's place? -/
opaque Config.bankStays : Nat → Nat → Nat → Bool

/-- Network time from the last tick boundary to the instant at which a PTM response is measured, in ns (R475). -/
opaque Config.phase : Nat → Nat
/-- What a flash program cut by an input loss leaves (R526): 0 nothing, 1 the whole write, 2 a torn one. -/
opaque Config.tornProgram : Nat → Nat

/-- Readings that the specification does not tie to another quantity (R528): the 6 V bus, and rail k, after a number of samples. -/
opaque Config.busRead : Nat → Nat
opaque Config.railRead : Nat → Nat → Nat

end Sys2Proof
end

