-- ==== Sys2Proof/Machine/Codes.lean ====
section
/-! DEFINITION. The closed code tables of the specification: status codes (Table 13.7), block indices (Table 1.4) and
event numbers (Table 13.4 and the chapters it names). -/

namespace Sys2Proof.Machine

/-- The status codes of Table 13.7 (R390); codes not listed are never sent. -/
inductive Status where
  | ok | accepted | busy | malformed | badVersion | unknownOpcode | deniedRights | unmapped | accessRevoked
  | keyRetired | quota | heldElsewhere | recallTimeout | staleGrant | publishConflict | vintageExhausted
  | regionLost | linkLost | timeout | failoverRetry | internal
  deriving DecidableEq, Repr, Inhabited

/-- The code of a status (Table 13.7). -/
def Status.code : Status → Nat
  | .ok => 0x00 | .accepted => 0x01 | .busy => 0x02 | .malformed => 0x10 | .badVersion => 0x11
  | .unknownOpcode => 0x12 | .deniedRights => 0x20 | .unmapped => 0x21 | .accessRevoked => 0x22
  | .keyRetired => 0x23 | .quota => 0x24 | .heldElsewhere => 0x30 | .recallTimeout => 0x31 | .staleGrant => 0x32
  | .publishConflict => 0x33 | .vintageExhausted => 0x34 | .regionLost => 0x40 | .linkLost => 0x41
  | .timeout => 0x42 | .failoverRetry => 0x43 | .internal => 0x50

/-- Block indices of Table 1.4 (R20). -/
abbrev blkGLB : Nat := 0x00
abbrev blkPCI : Nat := 0x01
abbrev blkTLK : Nat := 0x02
abbrev blkTRT : Nat := 0x03
abbrev blkMTR : Nat := 0x04
abbrev blkSCH : Nat := 0x05
abbrev blkXLT : Nat := 0x06
abbrev blkDIR : Nat := 0x07
abbrev blkRGN : Nat := 0x08
abbrev blkENG : Nat := 0x09
abbrev blkOPU : Nat := 0x0A
abbrev blkMCX : Nat := 0x0B
abbrev blkSPH : Nat := 0x0C
abbrev blkLDR : Nat := 0x0D
abbrev blkMEC : Nat := 0x0E
abbrev blkSEC : Nat := 0x0F
abbrev blkCMD : Nat := 0x10
abbrev blkFLT : Nat := 0x11
abbrev blkMIR : Nat := 0x12
abbrev blkPWR : Nat := 0x13

/-- Severity classes of Table 15.1 (R424). -/
inductive FClass where | corrected | degraded | fatal
  deriving DecidableEq, Repr, Inhabited

/-- The code of a class in history entries and FAULT events. -/
def FClass.code : FClass → Nat | .corrected => 0 | .degraded => 1 | .fatal => 2

/-- The class that Table 15.2 gives cause `c` of block `blk`; none for a cause the table does not list (R425). -/
def faultClass (blk c : Nat) : Option FClass :=
  let C := some FClass.corrected; let D := some FClass.degraded; let F := some FClass.fatal
  let row : List (Option FClass) :=
    if blk = blkGLB then [C, D, D] else if blk = blkPCI then [D, D, C, C]
    else if blk = blkTLK then [D, D, D]
    else if blk = blkTRT ∨ blk = blkMTR ∨ blk = blkSCH then [C, F]
    else if blk = blkXLT then [C, C, D, C] else if blk = blkDIR then [C, F, C]
    else if blk = blkRGN then [C, D] else if blk = blkENG then [D, C] else if blk = blkOPU then [C, D]
    else if blk = blkMCX then [C, D, C, F, D] else if blk = blkSPH then [C, D] else if blk = blkLDR then [C]
    else if blk = blkMEC then [C, F] else if blk = blkSEC then [F, F, C] else if blk = blkCMD then [C, F]
    else if blk = blkFLT then [D, F, C] else if blk = blkMIR then [C, F, F, F]
    else if blk = blkPWR then [D, F, D, C] else []
  row.getD c none

/-- Does Table 15.2 give block `blk` an instance `j`? Hub blocks have 0 and 1, cellar-die blocks 0 to 3, FLT 0 to 5. -/
def faultInstOk (blk j : Nat) : Bool :=
  if blk = blkFLT then j < 6
  else if blkENG ≤ blk && blk ≤ blkMEC then j < 4
  else blk ≤ blkPWR && j < 2

/-- Event numbers (Tables 13.4, 15.4 and the power and security chapters). -/
abbrev evFAULT_T : Nat := 0x0001
abbrev evHOT_PAGE : Nat := 0x0002
abbrev evREGION_LOST : Nat := 0x0003
abbrev evREGION_DEGRADED : Nat := 0x0004
abbrev evRACKED : Nat := 0x0005
abbrev evBANK_SKEW : Nat := 0x0006
abbrev evAGENT_LOST : Nat := 0x0007
abbrev evTORN : Nat := 0x0008
abbrev evFAULT : Nat := 0x0010
abbrev evCOUNTER_SATURATED : Nat := 0x0011
abbrev evSWITCHOVER : Nat := 0x0012
abbrev evSTANDBY_LOST : Nat := 0x0013
abbrev evPART_FAILED : Nat := 0x0014
abbrev evCONTRACT_EXCEEDED : Nat := 0x0020
abbrev evCONTRACT_HOLDING : Nat := 0x0021
abbrev evSTAGE_CHANGE : Nat := 0x0022

end Sys2Proof.Machine
end

