-- ==== Sys2Proof/Machine/Table.lean ====
section
/-! DEFINITION. Sparse tables: a list of keys and values in strictly rising key order. An unlisted key holds what the
table's user names as its default. Also the byte memory of the pool in its one canonical form. -/

namespace Sys2Proof.Machine

/-- A sparse table keyed by numbers. -/
abbrev Tbl (α : Type) := List (Nat × α)

variable {α : Type}

/-- The value listed at `k`. -/
def Tbl.find (t : Tbl α) (k : Nat) : Option α :=
  match t with
  | [] => none
  | (j, v) :: r => if j = k then some v else if k < j then none else Tbl.find r k

/-- The value at `k`, with `d` for an unlisted key. -/
def Tbl.getD (t : Tbl α) (k : Nat) (d : α) : α := (Tbl.find t k).getD d

/-- The table with `v` at `k`. -/
def Tbl.put (t : Tbl α) (k : Nat) (v : α) : Tbl α :=
  match t with
  | [] => [(k, v)]
  | (j, w) :: r =>
    if j = k then (k, v) :: r
    else if k < j then (k, v) :: (j, w) :: r
    else (j, w) :: Tbl.put r k v

/-- The table without `k`. -/
def Tbl.del (t : Tbl α) (k : Nat) : Tbl α :=
  match t with
  | [] => []
  | (j, w) :: r => if j = k then r else if k < j then (j, w) :: r else (j, w) :: Tbl.del r k

/-- The table with the value at `k` changed, starting from `d` where nothing is listed. -/
def Tbl.modD (t : Tbl α) (k : Nat) (d : α) (f : α → α) : Tbl α := Tbl.put t k (f (Tbl.getD t k d))

/-- The table with the listed value at `k` changed; an unlisted key stays unlisted. -/
def Tbl.upd (t : Tbl α) (k : Nat) (f : α → α) : Tbl α :=
  match t with
  | [] => []
  | (j, w) :: r => if j = k then (j, f w) :: r else if k < j then (j, w) :: r else (j, w) :: Tbl.upd r k f

/-- Every listed value changed, with its key in hand. -/
def Tbl.mapKV (t : Tbl α) (f : Nat → α → α) : Tbl α := List.map (fun p => (p.1, f p.1 p.2)) t

/-- The listed entries that meet `p`. -/
def Tbl.keep (t : Tbl α) (p : Nat → α → Bool) : Tbl α := List.filter (fun e => p e.1 e.2) t

/-- Keys strictly rising. -/
def Tbl.wf (t : Tbl α) : Bool :=
  match t with
  | [] => true
  | (j, _) :: r => (match r with | [] => true | (k, _) :: _ => decide (j < k)) && Tbl.wf r

end Sys2Proof.Machine
end

