-- ==== Sys2Proof/Machine/MsgTypes.lean ====
section
/-! DEFINITION. The data that crosses the part's boundary or waits inside it: responses, records, packets, outputs, and
the measures into which all engine work is cut. -/

namespace Sys2Proof.Machine

/-- Codes of a directory request (Table 3.5). -/
inductive ReqCode where
  | load | store | atomic | swapInShared | swapInHeld | swapOut | release | invAck
  deriving DecidableEq, Repr, Inhabited

/-- The REQ code of Table 3.5. -/
def ReqCode.code : ReqCode → Nat
  | .load => 0 | .store => 1 | .atomic => 2 | .swapInShared => 3 | .swapInHeld => 4 | .swapOut => 5
  | .release => 6 | .invAck => 7

/-- LOAD, STORE and ATOMIC are direct requests (R72, R82). -/
def ReqCode.direct : ReqCode → Bool | .load => true | .store => true | .atomic => true | _ => false

/-- Requests that write the page: parked by a pending publication (R50) and, in a versioned region, confined to the
draft view (R46, Table 2.7). -/
def ReqCode.writes : ReqCode → Bool | .store => true | .atomic => true | .swapInHeld => true | _ => false

/-- A response or message to an agent (R70, R71); it becomes a DRSP or DMSG (Table 9.9) or a ring record (Table 11.6). -/
structure Resp where
  kind : Nat := 0            -- 0 response, 1 message, 2 DATA_DONE (Table 11.6)
  code : ReqCode := .load    -- the request answered, which names the egress class (Table 12.5)
  status : Status := .ok
  detail : Nat := 0
  load : Nat := 0
  hint : Nat := 0
  txid : Nat := 0
  gen : Nat := 0
  msg : Nat := 0             -- 0 RECALL, 1 INVALIDATE, 2 GRANT_ENDED, 3 LOST_NOTICE
  cause : Nat := 0
  region : Nat := 0
  page : Nat := 0
  left : Nat := 0
  vintage : Nat := 0
  old : List Byte := []
  data : List Byte := []
  deriving DecidableEq, Repr, Inhabited

/-- A completion record (Table 13.2) without its PHASE, which the ring index gives. -/
structure CplRec where
  status : Status := .ok
  detail : Nat := 0
  final : Bool := true
  tag : Nat := 0
  res0 : Nat := 0
  res1 : Nat := 0
  deriving DecidableEq, Repr, Inhabited

/-- An event record (Table 13.3) without PHASE and LOSS; payload bytes run from byte 8. -/
structure EvtRec where
  event : Nat := 0
  tick : Nat := 0
  payload : List Byte := []
  deriving DecidableEq, Repr, Inhabited

/-- A transaction layer packet the part sends through a host function (R329, R330, R380, R384, R326). -/
inductive HostTlp where
  | write (fn addr : Nat) (data : List Byte)             -- a posted memory write
  | cells (fn addr : Nat) (data : List Host.Cell) (len : Nat)  -- a run of memory writes; unlisted bytes are zero
  | read (fn addr len tag : Nat)                         -- a memory read request
  | msix (fn vec : Nat)                                  -- an MSI-X message
  | cpl (fn id status : Nat) (data : List Byte)          -- a completion: 0 successful, 1 Unsupported Request, 2 Completer Abort
  deriving DecidableEq, Repr, Inhabited

/-- The function a TLP belongs to. -/
def HostTlp.fn : HostTlp → Nat
  | .write fn _ _ => fn | .cells fn _ _ _ => fn | .read fn _ _ _ => fn | .msix fn _ => fn | .cpl fn _ _ _ => fn

/-- Payload bytes of a TLP. -/
def HostTlp.len : HostTlp → Nat
  | .write _ _ d => d.length | .cells _ _ _ n => n | .read _ _ _ _ => 0 | .msix _ _ => 4 | .cpl _ _ _ d => d.length

/-- What a packet sent by the part carries: a Trellis body (Tables 9.8 and 9.9) or a host TLP. -/
inductive PktBody where
  | tlp (t : HostTlp)
  | drsp (r : Resp)
  | dmsg (r : Resp)
  | jobDone (status : Status) (detail res0 res1 : Nat)
  | mwr (addr : Nat) (data : List Host.Cell) (flits : Nat)
  | mrd (addr flits : Nat)
  | pushDone (agent : Nat)
  deriving DecidableEq, Repr, Inhabited

/-- A packet waiting for or in transmission on a port; for a host port, `agt` is the function's agent. -/
structure Pkt where
  agt : Nat := 0
  tid : Nat := 0
  body : PktBody := .mrd 0 0
  cls : Nat := 0             -- 0 DIRECT, 1 SWAP, 2 ENGINE, 3 MGMT, 4 bypass (Table 12.5)
  vc : Nat := 0
  flits : Nat := 1
  tlps : Nat := 1            -- on a host port, the transaction layer packets it is cut into (R311)
  job : Nat := 0             -- agent * 2^16 + JOBID of the push whose data it carries (R161)
  deriving DecidableEq, Repr, Inhabited

/-- Control flits of Table 9.12. -/
inductive Ctl where
  | ack (seq : Nat) | nak (seq : Nat) | xoff (mask : Nat) | xon (mask : Nat) | probe (stamp : Nat) | echo (stamp : Nat)
  | caps (versions enc : Nat) (ctr0 ctr1 : Nat)
  deriving DecidableEq, Repr, Inhabited

/-- What leaves the part. `State.out` keeps it, newest first, so that claims can speak of it. -/
inductive Out where
  | tlp (t : HostTlp) (stream : Option Nat)              -- TLPs on a host link; in an IDE selective stream, with the T bit set (R337)
  | packet (port seq keysel : Nat) (p : Pkt) (wire : List Byte)   -- a packet and the bytes of its flits (R272, R280)
  | ctl (port : Nat) (c : Ctl) (wire : List Byte)        -- a control flit and its bytes (R285)
  | regData (val : Nat)                                  -- data of a register read
  | regUr                                                -- Unsupported Request, to a register read (R318, R339, Table 11.8)
  | smbus (bytes : List Byte)                            -- an SMBus reply (R509)
  | spdm (link : Nat) (kind : Nat) (data : List Byte)    -- an SPDM response through a DOE mailbox
  | ptmReq (link : Nat)                                  -- a PTM request (R475)
  | delta (tick : Nat)                                   -- a loft delta on the mirror lanes (R439)
  | note (kind a b : Nat)                                -- anything else the specification has the part emit, named at its use
  deriving DecidableEq, Repr, Inhabited

/-- The work a measure belongs to (R135): a submitted job, a decode step, or internal work of agent 0. -/
inductive Work where
  | job (agent jobid : Nat)
  | step (agent stepid : Nat)
  | swapIn (id : Nat)          -- data of a granted swap-in
  | writeBack (idx : Nat)      -- the write-back of the page at directory index `idx`
  | cow (idx : Nat)            -- the copy-on-write copy into the page at `idx` (R47)
  | scrub (id : Nat)           -- a scrub of new or released bins (R40, R59)
  | rack (region : Nat)
  | pageScrub (idx : Nat)      -- the background scrub of a SCRUB_PENDING page (R413)
  | sweep (tenant : Nat)       -- a key rotation sweep (R410)
  deriving DecidableEq, Repr, Inhabited

/-- Measure classes of Table 5.1 in the order of R149. -/
inductive MClass where | swap | urgent | engine | mgmt
  deriving DecidableEq, Repr, Inhabited

/-- What a measure does with its bytes. -/
inductive MKind where
  | copy                       -- bytes from the source to every destination
  | zero                       -- zeros to every destination
  | toAgent                    -- bytes from the source to the agent's port
  | fromAgent                  -- bytes received from the agent to every destination
  | tile (k : Nat)             -- a piece of tile `k` of a job, by the job's operation
  | reencrypt                  -- read and written back in place (R410)
  | layer                      -- a measure of a decode step, by its place in the recipe
  deriving DecidableEq, Repr, Inhabited

/-- What an operand's offsets count from: a region page through its translation, decided when the measure is taken
(R148, R105); the memory of one directory index; or plain physical addresses of internal work (R135). -/
inductive MAt where
  | page (region home : Nat) (draft : Bool)
  | idx (region i : Nat)
  | raw
  deriving DecidableEq, Repr, Inhabited

/-- One operand of a measure: runs of (offset, length). -/
structure MSide where
  at_ : MAt := .raw
  runs : List (Nat × Nat) := []
  deriving DecidableEq, Repr, Inhabited

/-- One measure (R22): at most 128 KiB read and at most 128 KiB written. `pos` is its first byte's number in its work. -/
structure Meas where
  work : Work := .scrub 0
  kind : MKind := .zero
  cls : MClass := .mgmt
  agent : Nat := 0
  src : List MSide := []
  ops : List Nat := []         -- how many of `src` each operand takes, where one lies on several pages; empty when each takes one
  dst : List MSide := []
  len : Nat := 0
  pos : Nat := 0
  stack : Nat := 0             -- the stack whose home engines it is queued on (R146)
  noSteal : Bool := false
  sub : Nat := 0               -- of a job: 0 a piece of a tile, 1 digest, 2 cask data, 3 cask header, 4 header read, 5 block expanded
  aux : List Nat := []         -- the operation's own numbers, named where it is cut
  data : List Byte := []       -- bytes staged in scratch for a write measure (R167)
  deriving DecidableEq, Repr, Inhabited

/-- A measure that an engine has taken: the physical runs of each operand that it reads, those that it writes, and those of
second copies. -/
structure Run where
  m : Meas := {}
  nsrc : Nat := 0              -- source operands it was cut with, before gathered rows joined them
  rd : List (List (Nat × Nat)) := []
  wr : List (List (Nat × Nat)) := []
  wr2 : List (List (Nat × Nat)) := []
  ports : List Nat := []       -- of a push: the ports that have been UP since it was taken (R161)
  tags : List (Option (Nat × Nat)) := []   -- of each operand: slot and generation of its page's owner when it was taken (R409)
  deriving DecidableEq, Repr, Inhabited

/-- The measure as it was queued. -/
def Run.meas (r : Run) : Meas := { r.m with src := r.m.src.take r.nsrc }

/-- A contiguous run still to be cut into measures: held back by Lutik (R147). -/
structure Seg where
  kind : MKind := .zero
  src : List (MAt × Nat) := []
  dst : List (MAt × Nat) := []
  len : Nat := 0
  pos : Nat := 0
  deriving DecidableEq, Repr, Inhabited

/-- Internal bulk work in progress: its segments not yet cut, and its measures cut and not yet complete. -/
structure Act where
  work : Work := .scrub 0
  cls : MClass := .mgmt
  agent : Nat := 0             -- whose meter and link the measures use, 0 for none
  segs : List Seg := []
  cut : Nat := 0               -- measures cut and not yet complete
  done : Nat := 0              -- bytes of completed measures
  deriving DecidableEq, Repr, Inhabited

end Sys2Proof.Machine
end

