-- ==== Sys2Proof/Machine/PoolTypes.lean ====
section
/-! DEFINITION. The state of RGN (regions, bins, publications), DIR (page entries, parked requests, idempotency records)
and XLT (translation entries, caches, fault records). -/

namespace Sys2Proof.Machine

/-- Who issued a command that has still to be answered. -/
structure Issuer where
  fn : Nat := 0
  tag : Nat := 0
  deriving DecidableEq, Repr, Inhabited

/-- Region states of Table 2.5. -/
inductive RgnState where | free | creating | active | degraded | lost | destroying
  deriving DecidableEq, Repr, Inhabited

/-- The STATE code of Table 2.5. -/
def RgnState.code : RgnState → Nat
  | .free => 0 | .creating => 1 | .active => 2 | .degraded => 3 | .lost => 4 | .destroying => 5

/-- A bin (R28): a contiguous range of one stack. Page j of a data bin is region page `first + j * step` (R30). -/
structure RBin where
  pa : Nat := 0
  units : Nat := 0                 -- length in 2 MiB units
  first : Nat := 0
  step : Nat := 1
  reserve : Bool := false          -- copy-on-write reserve (R47)
  mirrorOf : Option Nat := none    -- the bin this one mirrors (R33)
  removed : Bool := false          -- removed under R59; the index is not reused (R62)
  ready : Bool := false            -- its scrub has completed (R40)
  lost : Bool := false             -- its stack has failed
  gone : Bool := false             -- its memory has been returned to free capacity
  hash : Nat := 0                  -- the hash set it was placed under (R258)
  deriving DecidableEq, Repr, Inhabited

/-- One entry of a region's access list (R41). -/
structure Acc where
  r : Bool := false
  w : Bool := false
  a : Bool := false
  pub : Bool := false
  draft : Bool := false
  deriving DecidableEq, Repr, Inhabited

/-- Phases of a publication (Table 2.9). -/
inductive PubPhase where
  | recalling      -- R50: other holders of draft pages are being recalled
  | collecting     -- steps 1 to 3: invalidations of published-view sharers open
  | switched       -- step 4 done; old pages held back until step 6
  deriving DecidableEq, Repr, Inhabited

/-- A pending publication (R48 to R52). -/
structure Pub where
  phase : PubPhase := .collecting
  publisher : Option Nat := none
  vintage : Nat := 0               -- the new vintage v + 1
  by_ : Issuer := {}
  openId : Nat := 0                -- the waiting command's number (R545)
  accepted : Bool := false         -- ACCEPTED has been written
  since : Nat := 0                 -- boundary of step 1, or of the switch
  olds : List Nat := []            -- directory indices of old published pages, released at step 6
  deriving DecidableEq, Repr, Inhabited

/-- A page of a RACK: the directory index of its old place, those of its new one and of the new second copy, and the bytes of
its copy not yet done. -/
structure RackPage where
  old : Nat := 0
  new_ : Nat := 0
  mir : Option Nat := none
  left : Nat := 0
  deriving DecidableEq, Repr, Inhabited

/-- A RACK in progress on a region (R169 to R175). -/
structure Rack where
  agent : Nat := 0
  jobid : Nat := 0
  oldBins : List Nat := []
  newBins : List Nat := []
  todo : List RackPage := []       -- pages still to be copied, in ascending page number
  copying : List RackPage := []    -- at most one of each source stack (R171)
  done : List RackPage := []       -- switched (R173)
  rewritten : Bool := false        -- the leaf rewrite has ended (R174)
  rebuild : Bool := false          -- the region was DEGRADED at acceptance
  ending : Option Bool := none     -- stopped: it ends with its last running measure; whether its new bins are released (R175)
  was : List Nat := []             -- HASH, PLACE, STACK_MASK, DIE and MIRROR_DIE before it
  deriving DecidableEq, Repr, Inhabited

/-- A region of the region table. -/
structure Region where
  state : RgnState := .free
  owner : Nat := 0
  versioned : Bool := false
  mirror : Bool := false
  hash : Nat := 0
  placeMode : Nat := 0
  psz : Nat := 0                   -- PAGE code of Table 2.1
  dieNo : Nat := 0
  mirrorDie : Nat := 0
  stackMask : Nat := 0
  name : List Word := []
  vintage : Nat := 0
  bins : List RBin := []
  nextPage : Nat := 0              -- the page number after the highest ever used (R59)
  acl : Tbl Acc := []
  revoked : List (Nat × Nat) := [] -- (agent, bin) withdrawn by BIN_REVOKE
  cur : Tbl Nat := []              -- home index of a page -> index of its published image, where they differ
  pub : Option Pub := none
  rack : Option Rack := none
  createBy : Option Issuer := none
  destroyBy : Option Issuer := none
  removing : Bool := false         -- DESTROYING through tenant removal (R413)
  deriving DecidableEq, Repr, Inhabited

/-- What a scrub of bins is for. -/
inductive ScrubFor where | create | add | destroy | binRemove | rackOld
  deriving DecidableEq, Repr, Inhabited

/-- A scrub in progress (R40): its region, its bins and the command it ends. -/
structure Scrub where
  region : Nat := 0
  why : ScrubFor := .create
  bins : List Nat := []
  by_ : Option Issuer := none
  res0 : Nat := 0
  res1 : Nat := 0
  deriving DecidableEq, Repr, Inhabited

/-- A withdrawal that waits for the agents' requests in flight (R57): the agents, the bin (none for all of them, R44), and
whether the bin is removed at its end (R59). -/
structure Revoke where
  by_ : Issuer := {}
  region : Nat := 0
  bin : Option Nat := none
  agents : List Nat := []
  remove : Bool := false
  deriving DecidableEq, Repr, Inhabited

/-- RGN (chapter Regions, bins and vintages). -/
structure Rgn where
  regions : Tbl Region := []
  incarn : Tbl Nat := []           -- 16-bit incarnation of each ID (R115)
  ovf : Tbl Nat := []              -- copy-on-write overflow pages in use: k -> region + 1 (R542)
  scrubs : Tbl Scrub := []
  nextScrub : Nat := 0
  revokes : List Revoke := []      -- withdrawals not yet complete (R57)
  sel : Nat := 0                   -- RGN_REGION_SEL
  vintageHi : Nat := 0             -- RGN_REGION_VINTAGE_HI latch (R63)
  deriving DecidableEq, Repr, Inhabited

/-- Page states of Table 3.3. -/
inductive PageState where | free | home | shared | held | recalling | scrubPending
  deriving DecidableEq, Repr, Inhabited

/-- The STATE code of Table 3.3. -/
def PageState.code : PageState → Nat
  | .free => 0 | .home => 1 | .shared => 2 | .held => 3 | .recalling => 4 | .scrubPending => 5

/-- A directory request as admitted: who asked, how it came, and what its translation gave. -/
structure PReq where
  agent : Nat := 0
  via : Via := .engine
  code : ReqCode := .load
  r : DirReq := {}
  region : Nat := 0
  home : Nat := 0                  -- directory index of the page's home frame (R105)
  draft : Bool := false            -- translated through a draft-view leaf
  write : Bool := false            -- counts as a write request for R50
  also : List Via := []            -- held reissues of the same TXID (R93)
  at_ : Nat := 0                   -- tick of arrival
  meas : Option (Nat × Meas) := none   -- the engine, and its measure parked under R148
  early : Bool := false            -- parked before the open recall was sent: no answer to it (R79)
  tag : Option (Nat × Nat) := none -- slot and generation of the page's owner at admission (R409)
  deriving DecidableEq, Repr, Inhabited

/-- A write-back running into a page (R87). -/
structure WriteBack where
  q : PReq := {}
  keep : Bool := false
  early : Bool := false            -- admitted before the open recall was sent (R79)
  total : Nat := 0
  got : List Host.Cell := []       -- data received from the agent and not yet written (offset in the page, byte)
  recv : List (Nat × Nat) := []    -- ranges received (offset, length)
  sent : Nat := 0                  -- bytes requested from the agent
  cut : Nat := 0                   -- bytes for which measures have been queued
  deriving DecidableEq, Repr, Inhabited

/-- A copy-on-write copy running into a page (R47). -/
structure CowCopy where
  src : Nat := 0                   -- index of the published page
  fresh : Bool := false            -- a fresh draft for the publisher's HELD page (R51)
  waiters : List PReq := []
  deriving DecidableEq, Repr, Inhabited

/-- A directory entry (Table 3.2) with what the directory keeps beside it: the parked queue (R76), the open deadline in
full, the GEN of the open invalidation (R71), and the page's running write-backs and copy. LINK none is its own index. -/
structure DirEntry where
  state : PageState := .free
  region : Nat := 0
  access : Nat := 0
  gen : Nat := 0
  deadline : Option Nat := none
  holder : Nat := 0
  view : Nat := 0
  prior : Bool := false
  torn : Bool := false
  sharers : List Nat := []
  pending : List Nat := []         -- in RECALLING with PRIOR 0: sharers that have not acknowledged
  met : Bool := false              -- the holder's answer to the open recall has been admitted (R79)
  link : Option Nat := none
  invGen : Nat := 0
  parked : List PReq := []
  wb : Option WriteBack := none
  nextWb : Option WriteBack := none
  cow : Option CowCopy := none
  deadField : Nat := 0             -- the DEADLINE field as last written
  deriving DecidableEq, Repr, Inhabited

/-- An idempotency record (R91). -/
structure IdemRec where
  txid : Nat := 0
  code : Nat := 0
  page : Option Nat := none
  status : Status := .ok
  detail : Nat := 0
  result : List Byte := []
  at_ : Nat := 0                   -- the agent's link-up tick count at completion (R92)
  deriving DecidableEq, Repr, Inhabited

/-- What DIR knows of an agent (Table 3.13, R92, R97 to R99). -/
structure AgentSt where
  known : Bool := false            -- the agent has had a link: STATE is not 0
  up : Bool := false
  lost : Bool := false
  downAt : Nat := 0                -- tick count when the link went down
  lossMs : Nat := 50               -- AGENT_LOSS_MS in force for this link-down period (R100)
  flr : Bool := false              -- down by function-level reset only: R98's time does not run (Table 11.9)
  notice : Bool := false           -- LOST_NOTICE owed before any response (R99)
  upTicks : Nat := 0               -- ticks with the link up, the age clock of R92
  recs : List IdemRec := []        -- newest first
  hotAt : Option Nat := none       -- tick of the last HOT_PAGE event (R130)
  deriving DecidableEq, Repr, Inhabited

/-- What waits for step 1 of the next tick boundary (R5): directory requests that are decided there (R72), commands that apply
there (R378), owners written (R110), deadlines that end there (R78), the pin's hold (R536), records that end (R126), a request
for G-CELLAR (R499) and a function-level reset (R341). -/
inductive Due where
  | req (q : PReq)
  | cmd (fn : Nat) (p : Packet)
  | owner (agent owner : Nat)
  | expire (page : Nat)
  | hold (b : Bool)
  | faultEnd (slot seq : Nat)
  | pstate (fn target : Nat)
  | flr (fn : Nat)
  | stack (k cause : Nat)
  | die (d : Nat)
  deriving DecidableEq, Repr, Inhabited

/-- DIR (chapter The Cellarer). -/
structure Dir where
  entries : Tbl DirEntry := []
  agents : Tbl AgentSt := []
  ctrl : Word := 0x003200A0        -- DIR_CTRL: AGENT_LOSS_MS 50, RECALL_TICKS 160
  peak : Nat := 0                  -- DIR_PARK.PEAK
  sel : Nat := 0                   -- DIR_ENTRY_SEL
  data : List Word := [0, 0, 0, 0, 0, 0, 0, 0]   -- DIR_ENTRY_DATA, latched by the write of SEL
  due : List Due := []             -- what waits for step 1 of the next tick boundary, in order of arrival (R5)
  transfers : Tbl (PReq × Nat) := []  -- granted swap-ins whose data is still owed: id -> request, page's directory index
  stopping : Tbl (Status × Nat) := []  -- of those, the ones stopped whose last measures still run (R23, R55): status, DETAIL
  nextTransfer : Nat := 0
  deriving DecidableEq, Repr, Inhabited

/-- A leaf of a translation table (Table 4.2), V and LEAF set. -/
structure Leaf where
  swtag : Nat := 0
  incarn : Nat := 0
  region : Nat := 0
  frame : Nat := 0
  psize : Nat := 0
  view : Bool := false             -- false published, true draft
  hot : Bool := false
  a : Bool := false
  w : Bool := false
  r : Bool := false
  deriving DecidableEq, Repr, Inhabited

/-- One line of a hub's translation cache (R118). -/
structure CLine where
  agent : Nat := 0
  base : Nat := 0                  -- PVA of the page base
  psize : Nat := 0
  pf : Bool := false               -- filled by prefetch and not yet used
  deriving DecidableEq, Repr, Inhabited

/-- The history of one tile stream (R121). -/
structure Stream where
  agent : Nat := 0
  stream : Nat := 0
  last : Nat := 0
  prev : Option Nat := none
  deriving DecidableEq, Repr, Inhabited

/-- The per-hub half of XLT. -/
structure XHub where
  sets : Tbl (List CLine) := []    -- set -> lines, most recently used first, at most 16
  ptrs : List (Nat × Nat × Nat) := []  -- cached pointers (agent, level, index), most recent first, at most 4096
  streams : List Stream := []      -- most recent first, at most 256
  walks : List (Nat × Nat) := []   -- prefetch walks running: (agent, PVA)
  deriving DecidableEq, Repr, Inhabited

/-- A fault record (R124). -/
structure FaultRec where
  seq : Nat := 0
  agent : Nat := 0
  pva : Nat := 0
  high : Nat := 0
  cause : Nat := 0
  kind : Nat := 0
  tick : Nat := 0
  life : Nat := 0                  -- lifetime in ticks, fixed at opening (R126)
  waiters : List (Nat × Nat) := [] -- waiting jobs (agent, JOBID)
  deriving DecidableEq, Repr, Inhabited

/-- A MAP_DIGEST running (R117). -/
structure Digest where
  by_ : Issuer := {}
  agent : Nat := 0
  level : Nat := 0
  pva : Nat := 0
  count : Nat := 0
  buf : Nat := 0
  start : Nat := 0
  bytes : List Byte := []          -- the entries as they stood at its start
  leaves : Nat := 0
  deriving DecidableEq, Repr, Inhabited

/-- A MAP_UPDATE with SYNC whose older tiles still run (R113). -/
structure SyncWait where
  by_ : Issuer := {}
  openId : Nat := 0
  agent : Nat := 0
  tiles : List (Nat × Nat × Nat) := []   -- (agent, JOBID, tile) pre-checked before the boundary
  accepted : Bool := false
  deriving DecidableEq, Repr, Inhabited

/-- XLT (chapter Pool virtual addresses and translation). -/
structure Xlt where
  l0 : Tbl Leaf := []              -- agent * 2^31 + PVA[51:21]
  l1 : Tbl Leaf := []              -- agent * 2^22 + PVA[51:30]
  place : Tbl Nat := []            -- where each L1 and L0 table lies: the mark of its allocation (R107)
  hubs : Tbl XHub := []
  faults : Tbl FaultRec := []      -- open records by slot
  slotSeq : Tbl Nat := []          -- uses of each slot since cold reset
  faultPeak : Nat := 0
  owner : Tbl Nat := []            -- XLT_AGENT_CFG: agent -> OWNER_FN while OWNED
  ownerField : Tbl Nat := []       -- the OWNER_FN field as last written
  firstMap : List Nat := []        -- agents for which a MAP_UPDATE has been accepted since they came up
  ctrl : Word := 0x00040064        -- XLT_CTRL: PF_DEPTH 4, FAULT_MS 100
  hot : Word := 0x00011000         -- XLT_HOT_CTRL: DECAY 1, THRESHOLD 0x1000
  warm : Bool := true              -- XLT_HOT_CTRL.WARM
  decayed : Nat := 0               -- tick of the last halving of the access counters (R129)
  digests : List Digest := []
  heldMaps : List (Issuer × Packet) := []   -- commands held behind a digest (R114), oldest first
  syncs : List SyncWait := []
  deriving DecidableEq, Repr, Inhabited

end Sys2Proof.Machine
end

