-- ==== Sys2Proof/Machine/PortTypes.lean ====
section
/-! DEFINITION. The state of CMD (intakes and rings), PCI (links, functions), TLK (Trellis ports), TRT (routes, groups,
telemetry), MTR (meters), SCH (schedules, gate lists), FLT (fault registers) and MIR (loft). -/

namespace Sys2Proof.Machine

/-- A whole packet in an intake bank, with the tick in which it became whole (R376). -/
structure QPkt where
  p : Packet := {}
  dws : Nat := 0
  at_ : Nat := 0
  deriving DecidableEq, Repr, Inhabited

/-- A ring in host memory: completion, event or response ring (R380, R382, R330). -/
structure Ring where
  addr : Nat := 0
  ctrl : Word := 0
  head : Nat := 0
  tail : Nat := 0
  signal : Bool := false           -- a record has been written since the ring's last message (R384)
  deriving DecidableEq, Repr, Inhabited

/-- The intake, the rings and the buffers of one function (chapter Commands and Lutik). -/
structure Intake where
  fill : List QPkt := []           -- whole packets of the filling bank, oldest first
  drain : List QPkt := []          -- whole packets of the draining bank
  part : Option Packet := none     -- the packet being written
  flush : Bool := false            -- CMD_FLUSH.PENDING
  discarded : Nat := 0
  overflow : Bool := false
  framing : Bool := false
  hello : Bool := false
  minor : Nat := 0
  cpl : Ring := { ctrl := 8 }
  evt : Ring := { ctrl := 6 }
  cplBuf : List CplRec := []       -- oldest first
  evtBuf : List EvtRec := []
  evtLost : Nat := 0
  loss : Bool := false
  cplNext : Option Word := none    -- CMD_CPL_CTRL value that applies at the next boundary (R394)
  evtNext : Option Word := none
  kept : List CplRec := []         -- completions kept in the records after FLR (R342)
  deriving DecidableEq, Repr, Inhabited

/-- A command answered ACCEPTED only when its 200 ticks end (R545): PUBLISH, or MAP_UPDATE with SYNC. -/
structure OpenCmd where
  by_ : Issuer := {}
  op : Nat := 0
  begun : Nat := 0
  accepted : Bool := false
  deriving DecidableEq, Repr, Inhabited

/-- CMD. Statistic counters are in `State.stats`. -/
structure Cmd where
  fns : Tbl Intake := []
  opens : Tbl OpenCmd := []
  nextOpen : Nat := 0
  deriving DecidableEq, Repr, Inhabited

/-- TDI states (Table 11.8). -/
inductive Tdi where | unlocked | locked | run | error
  deriving DecidableEq, Repr, Inhabited

/-- The TDI code of R338. -/
def Tdi.code : Tdi → Nat | .unlocked => 0 | .locked => 1 | .run => 2 | .error => 3

/-- A function (R320) and its BAR0 registers (Table 11.10). -/
structure Func where
  link : Nat := 0
  vf : Nat := 0                    -- 0 for the PF, else the VF number
  bme : Bool := false              -- Bus Master Enable
  d3 : Bool := false               -- D3hot
  vfEnable : Bool := false         -- PF only
  numVfs : Nat := 0                -- PF only
  totalVfs : Nat := 0              -- PF only
  msixEn : Bool := false
  msixMask : Nat := 2 ^ 64 - 1     -- one bit a vector, set: masked
  msixPend : Nat := 0
  msixTbl : Tbl Word := []         -- MSI-X table by 32-bit word, vector control excluded
  tdi : Tdi := .unlocked
  reset : Option Nat := none       -- FLR in progress: the boundary count at which it completes
  tenant : Nat := 0
  agent : Nat := 0                 -- 0 for none
  winBase : Nat := 0
  winNext : Option Nat := none     -- PCI_FN_WIN value that applies at the next boundary
  ring : Ring := { ctrl := 6 }
  ringBuf : List Resp := []        -- at most 256 (R331)
  winErr : Bool := false
  winPva : Nat := 0
  winStatus : Nat := 0
  slots : Tbl Byte := []           -- the request window's bytes; unlisted zero (R328)
  viewAddr : Nat := 0              -- PCI_FN_VIEW_ADDR.OFFSET as a BAR2 offset (R537)
  viewDenied : Bool := false       -- PCI_FN_VIEW_ADDR.DENIED
  mps : Nat := 0                   -- Max_Payload_Size: 0 128 B, 1 256 B, 2 512 B
  deriving DecidableEq, Repr, Inhabited

/-- Link states of R319. -/
inductive LinkState where | absent | down | training | up | recovery
  deriving DecidableEq, Repr, Inhabited

/-- The STATE code of R319. -/
def LinkState.code : LinkState → Nat | .absent => 0 | .down => 1 | .training => 2 | .up => 3 | .recovery => 4

/-- An IDE stream: the function whose TLPs it carries, none for the link stream. -/
structure Ide where
  fn : Option Nat := none
  keyed : Bool := false
  secure : Bool := false           -- false once Insecure (R337)
  deriving DecidableEq, Repr, Inhabited

/-- A PCI Express link. -/
structure PLink where
  state : LinkState := .absent
  rate : Nat := 0
  width : Nat := 0
  fnBase : Nat := 0
  nfn : Nat := 0
  cause : Nat := 0
  ide : Tbl Ide := []              -- stream 0 is the link stream, 1 to 8 selective
  deriving DecidableEq, Repr, Inhabited

/-- A BAR4 read or AtomicOp not yet answered (R326). -/
structure WinReq where
  fn : Nat := 0
  id : Nat := 0
  off : Nat := 0                   -- BAR4 offset of the request
  len : Nat := 0
  atomic : Bool := false
  pieces : List (Nat × Status × Nat × List Byte) := []   -- decided lines: piece, status, PVA, data
  total : Nat := 0
  at_ : Nat := 0
  deriving DecidableEq, Repr, Inhabited

/-- What data read from an agent or a host is for: a write-back of the page at a directory index, or a binding bundle. -/
inductive ReadFor where
  | page (idx off : Nat)
  | bundle (region off : Nat)
  deriving DecidableEq, Repr, Inhabited

/-- A host read outstanding (R329). -/
structure HostRead where
  tag : Nat := 0
  fn : Nat := 0
  why : ReadFor := .page 0 0
  len : Nat := 0
  at_ : Nat := 0
  deriving DecidableEq, Repr, Inhabited

/-- PCI. -/
structure Pci where
  divs : Tbl Nat := []             -- PCI_PORT_CFG DIV
  links : Tbl PLink := []
  funcs : Tbl Func := []
  ctrl : Word := 0x000A0014        -- PCI_CTRL: CTO_MS 10, WIN_WAIT_MS 20
  wins : List WinReq := []
  reads : List HostRead := []      -- host reads outstanding (R329)
  nextTag : Nat := 0
  deriving DecidableEq, Repr, Inhabited

/-- Trellis link states (Table 9.1). -/
inductive TlkState where | disabled | training | up | retrain | down
  deriving DecidableEq, Repr, Inhabited

/-- The STATE code of Table 9.1. -/
def TlkState.code : TlkState → Nat | .disabled => 0 | .training => 1 | .up => 2 | .retrain => 3 | .down => 4

/-- A packet held for replay, with the SEQ and key it was sent under (R280, R293). -/
structure HeldPkt where
  seq : Nat := 0
  keysel : Nat := 0
  p : Pkt := {}
  wire : List Byte := []           -- its flits as first sent, which a replay sends again (R293)
  deriving DecidableEq, Repr, Inhabited

/-- A Trellis port. -/
structure Port where
  state : TlkState := .disabled
  started : Bool := false          -- boot step 5 has been reached: TLK_PORT_STATUS.STATE reads 1 from there
  tl : Nat := 0
  enc : Bool := false
  xoffRx : Nat := 0                -- VCs the part holds off
  xoffTx : Nat := 0                -- VCs the partner holds off
  xoffAt : Tbl Nat := []           -- VC -> tick at which its XOFF timer started (R288)
  attempt : Nat := 0
  cause : Nat := 0
  brokeAt : Nat := 0
  alloc : Word := 0x18040180       -- TLK_VC_ALLOC: 384, 256, 384
  allocUse : Word := 0x18040180    -- the value in force since the last training
  tlMax : Nat := 2
  encReq : Bool := false
  loopNs : Nat := 0
  head : Nat := 0
  e : Nat := 0                     -- next SEQ expected (R281)
  sinceAck : Nat := 0              -- flits accepted since the last ACK
  unacked : Bool := false          -- a packet accepted and not yet acknowledged
  nakSent : Bool := false          -- NAK sent while E is unchanged
  dupAcked : Bool := false         -- a duplicate has been acknowledged in the last 64 ns (R282)
  next : Nat := 0                  -- next SEQ to send
  held : List HeldPkt := []        -- replay buffer, oldest first
  replay : Option Nat := none      -- SEQ from which a replay goes on
  replays : Nat := 0               -- replays in a row without a packet freed
  off : Bool := false              -- TLK_PORT_CTRL.DISABLE
  rx : List (Nat × Nat × Instr) := []   -- packets accepted and not yet taken by MTR: VC, flits, the packet as its command
  deriving DecidableEq, Repr, Inhabited

/-- TLK. -/
structure Tlk where
  ports : Tbl Port := []
  timers : Word := 0x07D001F4      -- TLK_TIMERS: REPLAY_NS 2000, XOFF_US 500
  retry : Word := 8                -- TLK_RETRY
  mrds : List (Nat × Nat × Nat × Nat × Nat) := []   -- MRDs outstanding: port, tag, page index, offset, flits
  nextMrd : Nat := 0
  deriving DecidableEq, Repr, Inhabited

/-- A route entry (R298). -/
structure Route where
  ports : Nat := 0
  pref : Nat := 31
  msg : Option Nat := none         -- message port (R299)
  waitOn : Option Nat := none      -- new DMSGs wait until this port holds none (R300)
  waiting : List Pkt := []         -- DMSGs that so wait, oldest first
  deriving DecidableEq, Repr, Inhabited

/-- A multicast group (R305). -/
structure Group where
  owner : Nat := 0
  mask : Nat := 0
  members : List Nat := List.replicate 16 0
  deriving DecidableEq, Repr, Inhabited

/-- TRT. -/
structure Trt where
  routes : Tbl Route := []
  groups : Tbl Group := []
  groupSel : Nat := 0
  frozen : Bool := false
  freezeNext : Option Bool := none -- FREEZE or RELEASE that acts at the next boundary
  latched : Tbl Nat := []          -- telemetry values while frozen, by offset; PEAK and NOW words included
  peaks : Tbl Nat := []            -- TRT_QDEPTH PEAK by 4 p + v
  deriving DecidableEq, Repr, Inhabited

/-- A meter (R345). -/
structure Meter where
  active : Bool := false
  home : Nat := 0                  -- home hub (R346)
  cir : Nat := 0
  pir : Nat := 0
  cbs : Nat := 0
  pbs : Nat := 0
  tc : Nat := 0
  tp : Nat := 0
  tcAt : Nat := 0                  -- Tc and Tp at the last boundary, as MTR_TC and MTR_TP show them
  tpAt : Nat := 0
  deriving DecidableEq, Repr, Inhabited

/-- A gate list (R360): entries (GATES, DURATION). -/
structure GateList where
  entries : List (Nat × Nat) := []
  base : Nat := 0
  deriving DecidableEq, Repr, Inhabited

/-- The deficits and turns of the two round robins of a Trellis port or a host link (R356). -/
structure Drr where
  clsDef : Tbl Nat := []           -- service-level deficits
  subDef : Tbl Nat := []           -- subscriber-level deficits by class * 128 + agent
  clsTurn : Nat := 3
  subTurn : Tbl Nat := []          -- class -> agent whose turn it is
  deriving DecidableEq, Repr, Inhabited

/-- One port of SCH. -/
structure SchPort where
  weights : List Nat := [4, 4, 2, 1]   -- DIRECT, SWAP, ENGINE, MGMT
  oper : GateList := {}
  pendingList : Option GateList := none
  entry : Nat := 0
  left : Nat := 0                  -- boundaries until the entry ends
  gates : Nat := 0xFF
  resync : Bool := false           -- go to the entry network time names at the entry's end (R364)
  expire : Bool := false           -- the entry's duration ends at the coming boundary (R361)
  queue : List Pkt := []           -- egress queue, oldest first (R358)
  drr : Tbl Drr := []              -- by link: 0 for a Trellis port, 0 to 3 for a host port's links
  deriving DecidableEq, Repr, Inhabited

/-- SCH. -/
structure Sch where
  ports : Tbl SchPort := []
  subs : Tbl (Nat × Nat) := []     -- agent -> (GATE, WEIGHT), default (0, 16)
  sel : Word := 0                  -- SCH_GATE_SEL
  deriving DecidableEq, Repr, Inhabited

/-- One block instance's fault registers (Table 15.13). -/
structure FltInst where
  cause : Nat := 0
  rail : Bool := false
  mask : Nat := 0                  -- bit 16 RAIL, bits 15:0 CAUSE
  hist : List DWord := []          -- valid entries, oldest first, at most 8
  next : Nat := 0                  -- HNEXT
  written : Nat := 0               -- entries written since cold reset
  lastC : Tbl Nat := []            -- corrected cause -> tick of its last entry (R429)
  deriving DecidableEq, Repr, Inhabited

/-- FLT. -/
structure Flt where
  insts : Tbl FltInst := []        -- block * 8 + instance
  test : Bool := false
  recovery : Bool := false
  rail : Bool := true
  pulse : Bool := false            -- FAULT_N pulse running
  hold : Bool := false
  fatal : Bool := false            -- a fatal event has set HOLD since the last boundary (R536)
  ovf : Tbl Unit := []             -- overflow flags by block * 2^16 + offset (R436)
  zeroNext : List Nat := []        -- counters to zero at the next boundary (R436)
  deriving DecidableEq, Repr, Inhabited

/-- MIR states. -/
inductive MirState where | paired | solo | switching | failed
  deriving DecidableEq, Repr, Inhabited

/-- The STATE code of Table 15.15. -/
def MirState.code : MirState → Nat | .paired => 0 | .solo => 1 | .switching => 2 | .failed => 3

end Sys2Proof.Machine
end

