-- ==== Sys2Proof/Machine/EngTypes.lean ====
section
/-! DEFINITION. The state of the engines: queues, running measures, the job table, completed job records, casks. -/

namespace Sys2Proof.Machine

/-- Job states of Table 5.7. -/
inductive JobState where | queued | running | faulted | stopping | done
  deriving DecidableEq, Repr, Inhabited

/-- The code of Table 5.7. -/
def JobState.code : JobState → Nat | .queued => 0 | .running => 1 | .faulted => 2 | .stopping => 3 | .done => 4

/-- A page of a tile as its pre-check found it (R145): PVA of the page base, and the leaf. -/
structure TPage where
  pva : Nat := 0
  leaf : Leaf := {}
  deriving DecidableEq, Repr, Inhabited

/-- A tile pre-checked and not yet complete. -/
structure Tile where
  k : Nat := 0
  pages : List TPage := []
  todo : List Meas := []           -- measures not yet queued (R147)
  queued : Nat := 0                -- measures queued, parked or running
  started : Bool := false          -- its first measure has been taken
  startAt : Nat := 0
  half : Bool := false             -- GATHER_REDUCE: its offsets have been read, its ranges not yet checked (R199)
  offs : List Nat := []            -- GATHER_REDUCE: its YCNT + 1 offsets
  deriving DecidableEq, Repr, Inhabited

/-- SHA-384 in progress: the eight chaining words, the bytes not yet hashed, and the length so far. -/
structure ShaSt where
  h : List Nat := []
  rest : List Byte := []
  total : Nat := 0
  deriving DecidableEq, Repr, Inhabited

/-- A coded COMPRESS block waiting in scratch for its offset (R167). -/
structure CaskBlk where
  no : Nat := 0
  engine : Nat := 0
  bytes : List Byte := []
  left : Nat := 0                  -- bytes of its write measures not yet complete
  deriving DecidableEq, Repr, Inhabited

/-- An output that several measures combine in staging (R193). -/
structure OutAcc where
  left : Nat := 0                  -- measures not yet complete
  vals : List Nat := []            -- FP32 accumulators; empty until the first partial result arrives
  cands : List (Nat × Nat) := []   -- TOP_K candidates (R204)
  die : Nat := 0
  stage : Nat := 0                 -- staging bytes, 0 until allocated
  deriving DecidableEq, Repr, Inhabited

/-- Where a decode step stands (R226 to R228). -/
inductive StepPhase where
  | pre                            -- IN or OUT not yet pre-checked
  | queued                         -- waiting at the die of its layer for its turn and store room (R225, R228)
  | reading                        -- measures read IN into B0
  | layer                          -- the recipe entry `entry` of layer `layer` runs
  | leaving (ticks : Nat)          -- B0 crosses to another die
  | writing                        -- the output is written to OUT
  | ended
  deriving DecidableEq, Repr, Inhabited

/-- The run of a decode step (R223 to R228). -/
structure StepRun where
  model : Nat := 0
  seqs : List (Nat × Nat) := []    -- (SLOT, POS) of each sequence
  inPva : Nat := 0
  outPva : Nat := 0
  inPages : List TPage := []
  outPages : List TPage := []
  phase : StepPhase := .pre
  layer : Nat := 0
  entry : Nat := 0
  die : Nat := 0
  home : Option Nat := none        -- the die that holds its buffers, B0 among them (R226, R229)
  claimed : Tbl Nat := []          -- store held on each die, in bytes (R225)
  waited : Bool := false           -- counted in OPU_STEP_WAITS at this die
  bufs : Tbl (List Nat) := []      -- B0 to B15, the rows one after the other; FP32 patterns, B15 in FMT_OUT
  todo : List Meas := []           -- measures not yet queued
  queued : Nat := 0                -- measures queued, parked or running
  got : Tbl (List Byte) := []      -- bytes of IN read so far, by position
  sat : Bool := false
  nan : Bool := false
  deriving DecidableEq, Repr, Inhabited

/-- A live job: an engine job (Table 5.3) or, with `step` set, a decode step. -/
structure Job where
  agent : Nat := 0
  jobid : Nat := 0
  by_ : Option Issuer := none      -- a host function's command, to be answered
  port : Option Nat := none        -- a Trellis port, to be answered by JOB_DONE
  waiters : List (Option Issuer × Option Nat) := []   -- reissues that share its completion (R138)
  aborts : List Issuer := []       -- JOB_ABORT commands answered once the job is DONE (R141)
  held : Bool := false             -- FAULTED on a gathered row or a piece of a cask's range: none of its measures is taken
  desc : List Word := []
  state : JobState := .queued
  status : Status := .ok
  detail : Nat := 0
  silent : Bool := false           -- no completion is sent
  tiles : List Tile := []
  next : Nat := 0                  -- next tile to pre-check
  ends : Tbl Nat := []             -- tick counts at which its last tiles completed, by tile number (R145)
  acceptedAt : Nat := 0
  tilesDone : Nat := 0
  bytes : Nat := 0                 -- bytes written (or read) by completed measures
  crcs : List (Nat × Nat × Nat) := []   -- partial CRCs: position in the job, length, CRC
  sha : ShaSt := {}
  digestDue : Bool := false        -- SHA-384 digest still to be stored (R158)
  push : Option (Nat × List Nat) := none   -- MULTICAST_PUSH: port mask and members read once (R159, R308)
  dropMask : Nat := 0              -- ports that dropped push data (R161)
  covered : List (Nat × Nat) := []   -- SCRUB: ranges zeroed, by the home frames' addresses (R155)
  cask : List CaskBlk := []
  lens : Tbl Nat := []             -- coded length of each block known so far
  laid : Nat := 0                  -- blocks whose write measures have been formed
  caskOut : Nat := 0               -- offset of the next block to be laid out
  dstPages : List TPage := []      -- destination pages pre-checked in pieces (R166)
  dstDone : Nat := 0               -- bytes of the destination pre-checked
  srcPages : List TPage := []      -- EXPAND: the cask's pages
  closing : Bool := false          -- its last measures, after every tile, have been formed
  extra : List Meas := []          -- measures outside tiles not yet queued
  extraOut : Nat := 0              -- measures outside tiles queued, parked or running
  ulen : Nat := 0                  -- EXPAND: ULEN of the cask's header
  index : List (Nat × Nat) := []   -- EXPAND: offset and length of each block
  engine : Option Nat := none      -- the one engine of a SHA-384 checksum (R158)
  outs : Tbl OutAcc := []          -- outputs in staging by number (R193)
  elems : Nat := 0                 -- destination elements written (R195)
  sat : Bool := false
  nan : Bool := false
  srcList : List Nat := []         -- REDUCE source list, read once (R196)
  listRead : Bool := false
  pages : Nat := 0                 -- RACK: pages racked
  step : Option StepRun := none
  deriving DecidableEq, Repr, Inhabited

/-- A completed job's record (R138). -/
structure JobRec where
  jobid : Nat := 0
  step : Bool := false
  status : Status := .ok
  detail : Nat := 0
  res0 : Nat := 0
  res1 : Nat := 0
  at_ : Nat := 0
  deriving DecidableEq, Repr, Inhabited

/-- One engine (R133, R152). -/
structure EngUnit where
  offline : Bool := false
  failed : Bool := false
  queue : List Meas := []          -- oldest first, at most 256 (R147)
  running : Option Run := none
  rot : Nat := 0                   -- place in the rotation of R149
  moving : Bool := false           -- its queue moves at the next boundary (R152)
  testLeft : Option Nat := none    -- boundaries left of the self-test (R496)
  deriving DecidableEq, Repr, Inhabited

/-- ENG. -/
structure Eng where
  units : Tbl EngUnit := []
  turn : Tbl Nat := []             -- stack -> home engine used last (R146)
  acts : List Act := []
  jobs : Tbl Job := []             -- agent * 2^16 + JOBID
  recs : Tbl (List JobRec) := []   -- agent -> completed jobs, newest first (R138)
  ctrl : Word := 0x00100131        -- ENG_CTRL: XDIE_LIMIT 16, WEIGHT_M 1, WEIGHT_E 3, STEAL 1
  peak : Nat := 0                  -- ENG_JOBS.PEAK
  deriving DecidableEq, Repr, Inhabited

end Sys2Proof.Machine
end

