-- ==== Sys2Proof/Machine/SysTypes.lean ====
section
/-! DEFINITION. The state of OPU, MCX, SEC, MEC, PWR, GLB and the pins. -/

namespace Sys2Proof.Machine

/-- Model states (R210). -/
inductive ModelState where | free | loading | ready | broken | unloading
  deriving DecidableEq, Repr, Inhabited

/-- The STATE code of R210. -/
def ModelState.code : ModelState → Nat | .free => 0 | .loading => 1 | .ready => 2 | .broken => 3 | .unloading => 4

/-- A placed layer (R212): its recipe is the eight words of each entry. -/
structure Layer where
  die : Nat := 0
  wreg : Nat := 0
  kvreg : Option Nat := none
  recipe : List (List Word) := []
  lost : Bool := false             -- lost with its die or stack; counts as unplaced (Table 7.2)
  deriving DecidableEq, Repr, Inhabited

/-- A model (R208, Table 7.1). -/
structure Model where
  state : ModelState := .free
  owner : Nat := 0
  layers : Nat := 0
  fmtOut : Nat := 0
  fmtIn : Nat := 0
  hid : Nat := 0
  outlen : Nat := 0
  slots : Nat := 0
  ctxMax : Nat := 0
  buflen : List Nat := []          -- B1 to B14
  users : Nat := 0
  usersNext : Option Nat := none   -- MODEL_USERS applies from the next boundary (R211)
  placed : Tbl Layer := []
  unloadBy : Option Issuer := none
  deriving DecidableEq, Repr, Inhabited

/-- OPU. -/
structure Opu where
  models : Tbl Model := []
  stepCtrl : Word := 16            -- OPU_STEP_CTRL: STEP_MIB 16
  queues : Tbl (List Nat) := []    -- die -> steps in order of arrival, by job key (R228)
  crossing : List Nat := []        -- steps whose B0 is on its way to another die, in the order in which they left (R226)
  used : Tbl Nat := []             -- step store in use on each die, in bytes
  peak : Tbl Nat := []             -- OPU_STEP_STORE.PEAK, in bytes
  ctrl : Word := 8                 -- OPU_CTRL: STAGE_MIB 8
  stage : Tbl Nat := []            -- staging in use on each die, in bytes
  stagePeak : Tbl Nat := []
  deriving DecidableEq, Repr, Inhabited

/-- Stack states of MCX_STACK_STATUS. -/
inductive StackState where | training | ready | retrain | rateChange | selfRefresh | failed
  deriving DecidableEq, Repr, Inhabited

/-- A direct request in a stack's queues (R240). -/
structure BankReq where
  pc : Nat := 0
  bank : Nat := 0
  region : Nat := 0
  deriving DecidableEq, Repr, Inhabited

/-- A skew window (R256): the sums of P and Q, its samples, how often each region stood first (R257), and its limit. -/
structure Window where
  sumP : Nat := 0
  sumQ : Nat := 0
  samples : Nat := 0
  tops : Tbl Nat := []
  limit : Nat := 0x0400
  deriving DecidableEq, Repr, Inhabited

/-- A DRAM stack. Its tick capacity is `Stack.capacity`. -/
structure Stack where
  state : StackState := .training
  granted : Nat := 0               -- bytes granted at the last boundary (R365)
  slow : Bool := false             -- MCX_STACK_STATUS.RATE: 6.4 Gb/s
  hot : Bool := false              -- HOT (R244)
  hotDue : Bool := false           -- a reading above 85 °C since the last boundary
  warmAt : Nat := 0                -- tick of the last reading above 82 °C
  temp : Nat := 0                  -- TEMP
  cause : Nat := 0                 -- CAUSE (Table 8.8)
  lanes : List Lane := []          -- lanes mapped onto spares; their number is SPARES (R247)
  busyTo : Nat := 0                -- RETRAIN or RATE_CHANGE ends at this tick count
  plan : Option (Bool × List Lane) := none   -- a retrain that starts at the next boundary, and what it finds (R248)
  rateEnd : Bool := false          -- RATE_CHANGE ends at the next boundary (R250)
  refAt : Option Nat := none       -- the last boundary whose refresh has been counted (R245)
  fails : Nat := 0                 -- retrains in a row that have failed (R249)
  caErrs : Nat := 0                -- parity errors in tick `caTick` (R249)
  caTick : Nat := 0
  capped : Bool := false           -- budget capped at C × 8 ÷ 16 (R464)
  capDue : Bool := false           -- a reading above 95 °C since the last boundary
  sec85 : Bool := false            -- a reading above 85 °C in the running second (Table 17.4)
  sec95 : Bool := false
  coolFrom : Option Nat := none    -- tick from which every reading was at or below 92 °C
  skew : Bool := false             -- SKEW (R257)
  skewLast : Bool := false         -- the last window raised BANK_SKEW
  ratio : Nat := 0                 -- MCX_SKEW.RATIO
  skewRegion : Nat := 0            -- MCX_SKEW.REGION
  bankQ : List BankReq := []       -- the bank queues in order of arrival (R240)
  holdQ : List BankReq := []       -- the hold lists
  bridgeQ : List BankReq := []     -- direct requests that the cellar bridge holds back
  win : Window := {}               -- the running window
  closed : Option Window := none   -- the window that has ended and is not yet evaluated
  patrolled : Nat := 0             -- lines that the patrol has read since its period began (R255)
  deriving DecidableEq, Repr, Inhabited

/-- Tick capacity (R237): 2,228,224 B at 8.0 Gb/s, 1,782,528 B at 6.4 Gb/s, 0 while the stack is not READY. -/
def Stack.capacity (k : Stack) : Nat := if k.state != .ready then 0 else if k.slow then 1782528 else 2228224

/-- MCX. -/
structure Mcx where
  stk : Tbl Stack := []
  poison : List Nat := []          -- lines with no good copy (R254), by PA / 64, rising
  errs : Tbl (Nat × Nat) := []     -- lines with wrong symbols, by PA / 64: their number and their pattern (R252)
  ctrl : Word := 0x00400400        -- MCX_CTRL: PATROL_EPOCHS 64, SKEW_LIMIT 4.0
  wakeAt : Option Nat := none      -- tick at which an exit from G-CELLAR takes the stacks out of self-refresh (R251)
  deriving DecidableEq, Repr, Inhabited

/-- Key slot states (chapter Identity, attestation and tenant isolation). -/
inductive SlotState where | empty | active | rotating | draining | zeroized
  deriving DecidableEq, Repr, Inhabited

/-- A key of AES-256-XTS: its data key and its tweak key; both empty where the slot holds none. -/
structure XtsKey where
  data : List Byte := []
  tweak : List Byte := []
  deriving DecidableEq, Repr, Inhabited

/-- A tenant slot. -/
structure Tenant where
  state : SlotState := .empty
  gen : Nat := 0                   -- current key generation
  genAt : Nat := 0                 -- tick at which it last changed (R409)
  key : XtsKey := {}               -- the slot's key, and beside it the old one while both are in use (R406, R407)
  old : XtsKey := {}
  quota : Nat := 0
  deriving DecidableEq, Repr, Inhabited

/-- A weight binding (R418). -/
structure Binding where
  region : Nat := 0
  key : List Byte := []            -- the content key
  recipes : List (List Byte) := [] -- the recipe digests the binding lists
  digest : List Byte := []         -- SHA-384 of the bundle
  deriving DecidableEq, Repr, Inhabited

/-- A BIND_WEIGHTS under way (R418): what has been read of the bundle. -/
structure Binder where
  by_ : Issuer := {}
  buf : Nat := 0
  len : Nat := 0
  asked : Nat := 0
  got : Tbl (List Byte) := []      -- bundle bytes received, by offset
  sealed : Bool := false           -- its checks have passed; it applies at the next boundary
  deriving DecidableEq, Repr, Inhabited

/-- A key rotation (R410, R411). -/
structure Rotation where
  tenant : Nat := 0
  by_ : Issuer := {}
  cut : Tbl Nat := []              -- stack -> end of the ranges already given to sweep measures
  deriving DecidableEq, Repr, Inhabited

/-- A tenant removal between its acceptance and step 9 (Table 14.8), then its scrub (R413). -/
structure Removal where
  by_ : Option Issuer := none
  at_ : Nat := 0                   -- tick count of the boundary that closed the tick of acceptance
  step : Nat := 0                  -- last step of Table 14.8 taken
  agents : List Nat := []
  fns : List Nat := []
  waiting : List Issuer := []      -- provider commands on its regions that had not ended (R413)
  units : List (Nat × Nat) := []   -- bins without SCRUB_PENDING pages that its scrub also covers
  deriving DecidableEq, Repr, Inhabited

/-- A link key: the 256-bit key, its salt and its packet counter (R293, R294, R415). -/
structure LinkKey where
  set : Bool := false
  key : List Byte := []
  salt : Nat := 0
  ctr : Nat := 0
  deriving DecidableEq, Repr, Inhabited

/-- The four link keys of a Trellis port: TX 0 and 1, RX 0 and 1. -/
structure LinkKeys where
  sel : Nat := 0                   -- SEC_TLK_KEYS.TX_SEL
  rxSel : Nat := 0                 -- the key under which the partner sends
  tx0 : LinkKey := {}
  tx1 : LinkKey := {}
  rx0 : LinkKey := {}
  rx1 : LinkKey := {}
  deriving DecidableEq, Repr, Inhabited

/-- The SPDM responder of a PF (R402): whether a signed response has been given in the connection and whether a secured
session stands. -/
structure Spdm where
  version : Nat := 0               -- negotiated version, 0 none
  signed : Option (List Byte) := none   -- the request whose signed response was the last one (R404)
  session : Bool := false
  doeErr : Bool := false           -- the mailbox error bit (R336)
  deriving DecidableEq, Repr, Inhabited

/-- SEC. -/
structure Sec where
  bindings : Tbl Binding := []
  binding : List Nat := []         -- regions whose BIND_WEIGHTS refuses writes (R418)
  binders : Tbl Binder := []       -- region -> BIND_WEIGHTS under way
  tenants : Tbl Tenant := []
  agentTenant : Tbl Nat := []
  rot : Option Rotation := none
  oldKey : Tbl Nat := []           -- tenant -> tick count at which its sweep completed (Table 14.7)
  removals : Tbl Removal := []
  keys : Tbl LinkKeys := []
  spdm : Tbl Spdm := []            -- by link
  identOk : Bool := false          -- SEC_STATUS
  rollback : Bool := false
  debug : Bool := false
  lutikB : Bool := false
  cfgB : Bool := false
  lutikSvn : Nat := 0
  cfgSvn : Nat := 0
  lutikCtr : Nat := 0
  cfgCtr : Nat := 0
  live : Bool := false             -- the device and INT keys stand (overwritten in FAILED, R449)
  int : XtsKey := {}               -- INT (Table 14.1)
  deriving DecidableEq, Repr, Inhabited

/-- Power state of Table 18.5; G-TRIM is G-ACTIVE with a throttle level above 0. -/
inductive PState where | active | doze | cellar
  deriving DecidableEq, Repr, Inhabited

/-- A change of power state under way (R500, R502). -/
inductive PChange where | none | entering | exiting (target : Nat)
  deriving DecidableEq, Repr, Inhabited

/-- Time states (Table 17.3). -/
inductive TimeState where | unsynced | locked | holdover | free
  deriving DecidableEq, Repr, Inhabited

/-- The STATE code of Table 17.3. -/
def TimeState.code : TimeState → Nat | .unsynced => 0 | .locked => 1 | .holdover => 2 | .free => 3

/-- Network time and its source (R473 to R480). -/
structure Time where
  now : Nat := 0                   -- network time at the last tick boundary, in ns
  state : TimeState := .unsynced
  err : Int := 0                   -- last e in ns
  rate : Int := 0                  -- correction in parts per billion (R476)
  ctrl : Word := 0x04000000        -- GLB_TIME_CTRL: PTM_TICKS 1024
  step : Word := 1000              -- GLB_TIME_STEP
  setDn : Word := 0                -- GLB_TIME_SET_DN
  pending : Option Nat := none     -- value of GLB_TIME_SET waiting for an edge or a boundary (R478)
  next : Option Nat := none        -- after a step: network time of the next boundary (R480)
  asked : Option Nat := none       -- tick of the PTM request not yet answered
  lastReq : Nat := 0               -- tick of the last PTM request
  lastMeas : Option Nat := none    -- tick of the last measurement
  gap : Nat := 0                   -- measurement interval of the source that measured last, in ticks
  ppsAt : Option Nat := none       -- tick of the last PPS_IN edge
  ptmOk : Bool := false            -- the last PTM request succeeded
  odd : List Nat := []             -- rejected edges in a row, newest first (R477)
  deriving DecidableEq, Repr, Inhabited

/-- A log record of the lifetime store (Table 17.5). -/
structure LogRec where
  kind : Nat := 0                  -- TYPE
  seq : Nat := 0
  time : Nat := 0
  body : List Byte := []           -- bytes 16 to 51
  good : Bool := true              -- its CRC is good
  deriving DecidableEq, Repr, Inhabited

/-- The external flash's lifetime store: it outlives every reset (R484). -/
structure Flash where
  block : Nat := 0                 -- sequence number of the newest counter block, 0 none
  counters : Tbl Nat := []         -- that block's counters (Table 17.4)
  badBlock : Option Nat := none    -- a later block that fails its CRC (R486)
  log : List LogRec := []          -- newest first, at most 196,608
  logSeq : Nat := 0
  deriving DecidableEq, Repr, Inhabited

/-- GLB. -/
structure Glb where
  tick : Nat := 0                  -- tick count (R481)
  lutik : Word := 0                -- CMD_LUTIK
  pstate : PState := .active       -- GLB_PSTATE.STATE
  change : PChange := .none        -- GLB_PSTATE.CHANGING
  target : Nat := 0                -- GLB_PSTATE.TARGET
  refuse : Nat := 0                -- GLB_PSTATE.REFUSE
  grace : Option Nat := none       -- tick until which no agent-loss time counts (R501)
  regNext : List (Nat × Nat) := [] -- register values that apply from the next boundary: BAR2 offset, value
  hiLatch : Tbl Nat := []          -- high words latched by reads of low words (R532)
  loHold : Tbl Nat := []           -- low words held until the high word is written (R532)
  boot : Nat := 0                  -- GLB_BOOT_STATUS.STEP; 7 READY
  bootErr : Nat := 0               -- ERROR
  hubA : Bool := false             -- HUB_A
  hubB : Bool := false
  timeMs : Nat := 0                -- TIME_MS
  strap : Nat := 0                 -- GLB_STRAP
  readyAt : Nat := 0               -- tick count at READY
  time : Time := {}
  life : Tbl Nat := []             -- lifetime counters in use (Table 17.4)
  logQ : List LogRec := []         -- records not yet written, oldest first, at most 256 (R485)
  lifeSel : Word := 0
  lifeValid : Bool := false
  lifeData : List Nat := [0, 0, 0, 0, 0, 0, 0, 0]
  saveDue : Bool := false          -- the flash refused a write: tried again at the next minute boundary (R485)
  refclk : Bool := true            -- REFCLK present (R472)
  sysclk : Bool := true            -- SYSCLK present
  deriving DecidableEq, Repr, Inhabited

/-- A contract entry (R455): its minute's network time, its limits, and its number. -/
structure Entry where
  start : Nat := 0                 -- ns
  energy : Nat := 96000            -- J
  avg : Nat := 1600                -- W
  peak : Nat := 1600               -- W
  idx : Nat := 0xFF
  deriving DecidableEq, Repr, Inhabited

/-- The accounts of a contract minute (R467). -/
structure Minute where
  start : Nat := 0                 -- ns
  used : Nat := 0                  -- energy so far, in units of 0.1 µJ (mW × 100 µs)
  n : Nat := 0                     -- samples since it began
  w1 : Nat := 0                    -- largest sum of 10,000 samples within it, in mW
  w10 : Nat := 0                   -- largest sum of 100,000 samples within it, in mW
  top : Nat := 0                   -- largest L
  stages : List Nat := [0, 0, 0, 0]
  throttled : Bool := false
  reported : Bool := false         -- PWR cause 2 has been set in it (R465)
  deriving DecidableEq, Repr, Inhabited

/-- A rail of a power domain (Table 20.9). -/
inductive RailState where | off | ramp | good | fault
  deriving DecidableEq, Repr, Inhabited

/-- The STATE code of Table 20.9. -/
def RailState.code : RailState → Nat | .off => 0 | .ramp => 1 | .good => 2 | .fault => 3

/-- PWR. -/
structure Pwr where
  ctrl : Word := 0x00000CF8        -- PWR_CTRL: THR_LEVEL 12, GUARD 0xF8
  level : Nat := 0                 -- L
  still : Nat := 0                 -- evaluations since L last changed
  evalAt : Option Nat := none      -- tick of the last evaluation
  contract : List Entry := []      -- stored entries by rising START
  holding : Bool := false          -- HOLDING
  inForce : Entry := {}            -- the entry in force
  minute : Minute := {}
  samples : List Nat := []         -- input power in mW, newest first, at most 100,000
  vin : Nat := 0                   -- last sample's voltage in mV
  iin : Nat := 0                   -- last sample's current in mA
  count : Nat := 0                 -- samples taken, for the free readings of the 6 V bus and the rails
  acc10 : Nat × Nat := (0, 0)      -- sum and number of the samples of the running 10 ms interval
  slot10 : Nat := 0                -- number of that interval
  p10s : List Nat := []            -- P10MS values in 0.1 W, newest first, at most 100
  p10At : Nat := 0                 -- network time at the end of the newest interval
  accS : Nat × Nat := (0, 0)       -- the same over the running second
  slotS : Nat := 0
  lastS : Nat := 0                 -- mean over the last whole second, in mW
  thrLow : Bool := false           -- THROTTLE_N low at two samples
  thrAct : Option Nat := none      -- tick at which its floor acts
  thrFloor : Bool := false         -- its floor is in force
  jAt : Nat := 0                   -- tick of the last junction reading above 100 °C
  jAlert : Bool := false           -- a junction reading at or above 103 °C has not been released
  jFloor : Bool := false           -- its floor is in force
  jDue : Bool := false             -- acts at the next boundary
  rate : Bool := false             -- RATE_CHG: a change of the stacks' data rate is under way
  down : Bool := false             -- it goes down to 6.4 Gb/s
  rateLast : Option Nat := none    -- tick at which the last stack's change started
  rails : Tbl RailState := []
  low : Bool := false              -- PWR_INPUT.LOW
  tooHigh : Bool := false             -- OVER
  vmin : Nat := 0xFFFF             -- VMIN in 10 mV
  okRun : Nat := 0                 -- samples in a row at or above 61 V
  armed : Bool := false            -- VIN has been at or above 61 V for 1 s (R525)
  input : Bool := true             -- VIN within its band
  retLost : Bool := false          -- RET has faulted in G-CELLAR (Table 20.6)
  deriving DecidableEq, Repr, Inhabited

/-- Pins that the part reads or drives and no other field gives. -/
structure Pins where
  perst : List Nat := []           -- ports whose PERST_N is low
  pgOut : Bool := false
  tempAlert : Bool := false        -- TEMP_ALERT_N driven low
  deriving DecidableEq, Repr, Inhabited

/-- A response or record held under R16 until the loft acknowledges. -/
inductive HeldItem where
  | record (fn : Nat) (r : CplRec)
  | resp (q : PReq) (stack : Option Nat) (r : Resp)
  | packet (port : Nat) (p : Pkt)
  deriving DecidableEq, Repr, Inhabited

/-- What the loft keeps of the state that the primary alone decides (R439). -/
structure Loft where
  rgn : Rgn := {}
  dir : Dir := {}
  xlt : Xlt := {}
  eng : Eng := {}
  opu : Opu := {}
  sec : Sec := {}
  opens : Tbl OpenCmd := []
  hold : Bool := false
  deriving DecidableEq, Repr, Inhabited

/-- A store or atomic in a cellar die's log (R444). -/
structure DieLog where
  tick : Nat := 0
  agent : Nat := 0
  record : IdemRec := {}
  q : PReq := {}
  deriving DecidableEq, Repr, Inhabited

/-- MIR. -/
structure Mir where
  state : MirState := .paired
  primary : Nat := 0               -- MIR_STATUS.PRIMARY: 0 HUB-A, 1 HUB-B
  fcause : Nat := 0
  cause : Nat := 0
  held : List (Nat × HeldItem) := []   -- (tick of the change, what waits), oldest first
  changes : Nat := 0               -- changes in the running tick's delta (R440)
  sent : Option (Nat × Loft) := none   -- the delta sent and not yet acknowledged: its tick and content
  loft : Loft := {}                -- the last applied delta
  badFrames : Nat := 0             -- frames of the running delta that failed their CRC
  frameFails : Nat := 0            -- times in a row that its current frame has failed
  deltaPeak : Nat := 0             -- MIR_DELTA_PEAK in 64 B units
  hubsLost : List Nat := []        -- hubs that have failed
  diesLost : List Nat := []
  bridgesLost : List (Nat × Nat) := []   -- (die, hub)
  logs : List DieLog := []         -- the cellar dies' logs of the last 4 ticks, newest first
  deriving DecidableEq, Repr, Inhabited

end Sys2Proof.Machine
end

