-- ==== Sys2Proof/Machine/State.lean ====
section
/-! DEFINITION. The state of the GN-1536 as one plain datum, the reasons a step can stop, and the state after reset. -/

namespace Sys2Proof.Machine

/-- The whole block: every register, queue, buffer, mode and pin, the pool's memory, and the commands that wait. -/
structure State where
  pending : List Instr := []       -- commands waiting, first in, first out
  mem : List Host.Cell := []       -- the pool's memory by physical address; unlisted bytes read zero
  rgn : Rgn := {}
  dir : Dir := {}
  xlt : Xlt := {}
  eng : Eng := {}
  opu : Opu := {}
  mcx : Mcx := {}
  sec : Sec := {}
  cmd : Cmd := {}
  pci : Pci := {}
  tlk : Tlk := {}
  trt : Trt := {}
  mtr : Tbl Meter := []
  sch : Sch := {}
  flt : Flt := {}
  mir : Mir := {}
  glb : Glb := {}
  pwr : Pwr := {}
  pins : Pins := {}
  flash : Flash := {}
  latched : Tbl Nat := []          -- statistic counters at the last boundary of R420, as tenants see them
  stats : Tbl Nat := []            -- statistic counters by block * 2^16 + offset (R435)
  out : List Out := []             -- what has left the part, newest first
  fresh : Nat := 0                 -- the model's own counter for free values
  deriving DecidableEq, Repr, Inhabited

/-- Why the block stops. It never does: the specification gives every command of its table an effect or says that it has none,
so no constructor is needed, and a fault cannot be raised. -/
inductive Fault
  deriving DecidableEq, Repr

/-- Why the model has no answer. -/
inductive Refusal where
  /-- A command whose meaning is not written: raised by an arm of `exec` alone. Safe: nothing is claimed of it. -/
  | notModelled (mnemonic : String)
  deriving DecidableEq, Repr, Inhabited

/-- The block right after power-up, in cold reset and before its boot: every field at its reset value, PG_OUT high (R489, R522). -/
def State.reset : State := { pins := { pgOut := true } }

end Sys2Proof.Machine
end

