-- ==== Sys2Proof/Machine/Base.lean ====
section
/-! DEFINITION. Reading and changing one part of the state: modifiers for each block, lookups of functions, agents, ports,
and the facts the specification derives from them (tenant of an agent, hub of a port, provider functions). -/

namespace Sys2Proof.Machine

def State.onRgn (s : State) (f : Rgn → Rgn) : State := { s with rgn := f s.rgn }
def State.onDir (s : State) (f : Dir → Dir) : State := { s with dir := f s.dir }
def State.onXlt (s : State) (f : Xlt → Xlt) : State := { s with xlt := f s.xlt }
def State.onEng (s : State) (f : Eng → Eng) : State := { s with eng := f s.eng }
def State.onOpu (s : State) (f : Opu → Opu) : State := { s with opu := f s.opu }
def State.onMcx (s : State) (f : Mcx → Mcx) : State := { s with mcx := f s.mcx }
def State.onSec (s : State) (f : Sec → Sec) : State := { s with sec := f s.sec }
def State.onCmd (s : State) (f : Cmd → Cmd) : State := { s with cmd := f s.cmd }
def State.onPci (s : State) (f : Pci → Pci) : State := { s with pci := f s.pci }
def State.onTlk (s : State) (f : Tlk → Tlk) : State := { s with tlk := f s.tlk }
def State.onTrt (s : State) (f : Trt → Trt) : State := { s with trt := f s.trt }
def State.onSch (s : State) (f : Sch → Sch) : State := { s with sch := f s.sch }
def State.onFlt (s : State) (f : Flt → Flt) : State := { s with flt := f s.flt }
def State.onMir (s : State) (f : Mir → Mir) : State := { s with mir := f s.mir }
def State.onPwr (s : State) (f : Pwr → Pwr) : State := { s with pwr := f s.pwr }
def State.onPins (s : State) (f : Pins → Pins) : State := { s with pins := f s.pins }
def State.onFlash (s : State) (f : Flash → Flash) : State := { s with flash := f s.flash }
def State.onGlb (s : State) (f : Glb → Glb) : State := { s with glb := f s.glb }

def State.onMtr (s : State) (f : Tbl Meter → Tbl Meter) : State := { s with mtr := f s.mtr }
def State.onStats (s : State) (f : Tbl Nat → Tbl Nat) : State := { s with stats := f s.stats }
def State.onLatched (s : State) (f : Tbl Nat → Tbl Nat) : State := { s with latched := f s.latched }

/-- The pool's memory replaced. -/
def State.setMem (s : State) (m : List Host.Cell) : State := { s with mem := m }

def State.onTime (s : State) (f : Time → Time) : State := s.onGlb fun g => { g with time := f g.time }

/-- Something leaves the part. -/
def State.emit (s : State) (o : Out) : State := { s with out := o :: s.out }

/-- The counter of free values, and the state with it advanced. -/
def State.draw (s : State) : Nat × State := (s.fresh, { s with fresh := s.fresh + 1 })

/-- The tick count (R4, R481). -/
def State.tick (s : State) : Nat := s.glb.tick

/-- Ticks that cover `ms` milliseconds at 1.28 µs a tick, rounded up (50 ms is 39,063 ticks in R98). -/
def msTicks (ms : Nat) : Nat := ceilDiv (1000000 * ms) 1280

/-! ### Functions and links -/

/-- Host port of link index l (R317). -/
def portOfLink (l : Nat) : Nat := l / 4

/-- Hub of a host port: P0 to P3 lie on HUB-A (R13). -/
def hubOfHostPort (n : Nat) : Nat := if n < 4 then 0 else 1

/-- Hub of crossbar port index p (Table 10.1). -/
def hubOfPort (p : Nat) : Nat := if p < 8 then 0 else if p < 16 then 1 else if p < 20 then 0 else 1

def State.link (s : State) (l : Nat) : PLink := Tbl.getD s.pci.links l {}

/-- The function FN if boot has given the part one of that number, whether or not it exists now. -/
def State.func? (s : State) (fn : Nat) : Option Func := Tbl.find s.pci.funcs fn

def State.func (s : State) (fn : Nat) : Func := (s.func? fn).getD {}

/-- The PF of a function's link. -/
def State.pfOf (s : State) (f : Func) : Func := s.func (s.link f.link).fnBase

/-- Does the function exist (R320)? A VF only while VF Enable is set and its number is at most NumVFs. -/
def State.fnExists (s : State) (fn : Nat) : Bool :=
  match s.func? fn with
  | none => false
  | some f => f.vf == 0 || ((s.pfOf f).vfEnable && f.vf ≤ (s.pfOf f).numVfs)

def State.setFn (s : State) (fn : Nat) (f : Func → Func) : State :=
  s.onPci fun p => { p with funcs := Tbl.upd p.funcs fn f }

/-- The alternate provider function, PF0 of P4 (R321). -/
def State.altProvider (s : State) : Nat := (s.link 16).fnBase

/-- Is `fn` a provider function (R321)? -/
def State.isProvider (s : State) (fn : Nat) : Bool :=
  fn == 0 || ((s.func? fn).isSome && fn == s.altProvider && (s.func fn).link == 16 && (s.func fn).vf == 0)

/-- The provider's functions, ascending. -/
def State.providers (s : State) : List Nat := (s.pci.funcs.map Prod.fst).filter fun fn => s.isProvider fn

/-- Crossbar port index of a function's host port (Table 10.1). -/
def State.fnPort (s : State) (fn : Nat) : Nat := 16 + portOfLink (s.func fn).link

/-- Hub of a function's host port. -/
def State.fnHub (s : State) (fn : Nat) : Nat := hubOfPort (s.fnPort fn)

/-- May the part write host memory for the function: it exists, masters the bus, is not under reset and its link is UP? -/
def State.dmaOk (s : State) (fn : Nat) : Bool :=
  s.fnExists fn && (s.func fn).bme && (s.func fn).reset.isNone && (s.link (s.func fn).link).state == .up

/-- A function is enabled while it masters the bus and is not under reset. -/
def State.fnEnabled (s : State) (fn : Nat) : Bool :=
  s.fnExists fn && (s.func fn).bme && (s.func fn).reset.isNone

def State.intake (s : State) (fn : Nat) : Intake := Tbl.getD s.cmd.fns fn {}

def State.setIntake (s : State) (fn : Nat) (f : Intake → Intake) : State :=
  s.onCmd fun c => { c with fns := Tbl.modD c.fns fn {} f }

/-! ### Agents -/

/-- Functions bound to an agent, ascending. -/
def State.fnsOf (s : State) (agent : Nat) : List Nat :=
  (s.pci.funcs.filter fun p => p.2.agent == agent && agent != 0).map Prod.fst

/-- Is the agent bound to host functions? -/
def State.hostAgent (s : State) (agent : Nat) : Bool := !(s.fnsOf agent).isEmpty

/-- The agent's tenant: that of its functions (R333), else the one the provider gave it (R405). -/
def State.tenantOf (s : State) (agent : Nat) : Nat :=
  match s.fnsOf agent with
  | fn :: _ => (s.func fn).tenant
  | [] => Tbl.getD s.sec.agentTenant agent 0

def State.agentSt (s : State) (agent : Nat) : AgentSt := Tbl.getD s.dir.agents agent {}

def State.setAgent (s : State) (agent : Nat) (f : AgentSt → AgentSt) : State :=
  s.onDir fun d => { d with agents := Tbl.modD d.agents agent {} f }

def State.route (s : State) (agent : Nat) : Route := Tbl.getD s.trt.routes agent {}

def State.setRoute (s : State) (agent : Nat) (f : Route → Route) : State :=
  s.onTrt fun t => { t with routes := Tbl.modD t.routes agent {} f }

def State.port (s : State) (p : Nat) : Port := Tbl.getD s.tlk.ports p {}

def State.setPort (s : State) (p : Nat) (f : Port → Port) : State :=
  s.onTlk fun t => { t with ports := Tbl.modD t.ports p {} f }

def State.portUp (s : State) (p : Nat) : Bool := (s.port p).state == .up

def State.schPort (s : State) (p : Nat) : SchPort := Tbl.getD s.sch.ports p {}

def State.setSch (s : State) (p : Nat) (f : SchPort → SchPort) : State :=
  s.onSch fun c => { c with ports := Tbl.modD c.ports p {} f }

/-- Does a function of the agent keep its link up (R334)? TDI ERROR takes it down (Table 11.8). -/
def State.fnLinkUp (s : State) (fn : Nat) : Bool :=
  s.dmaOk fn && (s.func fn).tdi != .error

/-- Is the agent's link up: by R334 for an agent bound to host functions, by R268 for any other? -/
def State.linkUpNow (s : State) (agent : Nat) : Bool :=
  match s.fnsOf agent with
  | [] => (maskBits 16 (s.route agent).ports).any fun p => s.portUp p
  | fns => fns.any fun fn => s.fnLinkUp fn

/-- Functions of a tenant that exist, ascending. -/
def State.fnsOfTenant (s : State) (t : Nat) : List Nat :=
  (s.pci.funcs.filter fun p => p.2.tenant == t && s.fnExists p.1).map Prod.fst

/-- Has the agent a link at all: a route or a bound function? -/
def State.agentKnown (s : State) (agent : Nat) : Bool :=
  s.hostAgent agent || (s.route agent).ports != 0

/-! ### Directory entries, regions, engines -/

def State.entry (s : State) (i : Nat) : DirEntry := Tbl.getD s.dir.entries i {}

def State.setEntry (s : State) (i : Nat) (f : DirEntry → DirEntry) : State :=
  s.onDir fun d => { d with entries := Tbl.modD d.entries i {} f }

def State.region (s : State) (r : Nat) : Region := Tbl.getD s.rgn.regions r {}

def State.setRegion (s : State) (r : Nat) (f : Region → Region) : State :=
  s.onRgn fun g => { g with regions := Tbl.modD g.regions r {} f }

def State.unit (s : State) (n : Nat) : EngUnit := Tbl.getD s.eng.units n {}

def State.setUnit (s : State) (n : Nat) (f : EngUnit → EngUnit) : State :=
  s.onEng fun e => { e with units := Tbl.modD e.units n {} f }

/-- Key of the job table (R138). -/
def jobKey (agent jobid : Nat) : Nat := 65536 * agent + jobid % 65536

def State.job? (s : State) (agent jobid : Nat) : Option Job := Tbl.find s.eng.jobs (jobKey agent jobid)

def State.setJob (s : State) (agent jobid : Nat) (f : Job → Job) : State :=
  s.onEng fun e => { e with jobs := Tbl.upd e.jobs (jobKey agent jobid) f }

def State.stack (s : State) (k : Nat) : Stack := Tbl.getD s.mcx.stk k {}

def State.stackFailed (s : State) (k : Nat) : Bool := (s.stack k).state == .failed

def State.poisoned (s : State) (line : Nat) : Bool := s.mcx.poison.contains line

def State.tenant (s : State) (t : Nat) : Tenant := Tbl.getD s.sec.tenants t {}

/-! ### Physical addresses (R17 to R19) and directory indices (Table 3.1) -/

/-- 2 MiB. -/
abbrev MIB2 : Nat := 2097152

/-- Bytes of a stack slot (Table 1.3). -/
abbrev SLOT : Nat := 137438953472

/-- First byte of the reserved area of a stack (R19). -/
abbrev RSV_OFF : Nat := 0x17C0000000

/-- First byte of the hole of a slot (R18). -/
abbrev HOLE_OFF : Nat := 0x1800000000

/-- Global stack number of a PA: 4 × DIE + STK (R17). -/
def stackOf (pa : Nat) : Nat := pa / SLOT % 16

/-- Cellar die of a stack. -/
def dieOfStack (k : Nat) : Nat := k / 4

/-- OFFSET of a PA in its slot. -/
def offOf (pa : Nat) : Nat := pa % SLOT

/-- Does the PA fall in the hole (R18)? -/
def inHole (pa : Nat) : Bool := HOLE_OFF ≤ offOf pa || 16 * SLOT ≤ pa

/-- Bytes of a page by its PAGE code (Table 2.1). -/
def pageBytes (c : Nat) : Nat := match c with | 0 => MIB2 | 1 => 16 * MIB2 | 2 => 512 * MIB2 | _ => 8192 * MIB2

/-- A page in 2 MiB units. -/
def pageUnits (c : Nat) : Nat := match c with | 0 => 1 | 1 => 16 | 2 => 512 | _ => 8192

/-- First directory index of the copy-on-write overflow pages (Table 3.1). -/
abbrev OVF0 : Nat := 778240

/-- PA of overflow page k (R542). -/
def ovfPa (k : Nat) : Nat := 0x17E4000000 + (SLOT * (k % 16) + MIB2 * (k / 16))

/-- Directory index of the 2 MiB that hold a PA; none where Table 3.1 gives none. -/
def paIdx (pa : Nat) : Option Nat :=
  let k := stackOf pa; let o := offOf pa
  if o < RSV_OFF then some (48640 * k + o / MIB2)
  else if 0x17E4000000 ≤ o ∧ o < 0x17FC000000 then some (OVF0 + (o - 0x17E4000000) / MIB2 * 16 + k)
  else none

/-- PA of the first byte that a directory index covers (Table 3.1). -/
def idxPa (i : Nat) : Nat :=
  if i < OVF0 then SLOT * (i / 48640) + MIB2 * (i % 48640) else ovfPa (i - OVF0)

end Sys2Proof.Machine
end

