-- ==== Sys2Proof/Machine/Ops.lean ====
section
/-! DEFINITION. The shared operations of the part: statistic counters, host writes, MSI-X, the three rings, events, fault
causes, and the hold of R16. -/

namespace Sys2Proof.Machine

/-! ### Statistic counters (R435, R436, R438) -/

/-- Key of the counter at offset `off` of block `blk`. -/
def statKey (blk off : Nat) : Nat := 65536 * blk + off

/-- Is the counter 64 bits wide? TRT telemetry at 0x1000 to 0x1BFF and 0x1E00 to 0x1FFF, and MIR_DELTA_BYTES. -/
def statWide (blk off : Nat) : Bool :=
  (blk == blkTRT && (0x1000 ≤ off && off < 0x1C00 || 0x1E00 ≤ off)) || (blk == blkMIR && off == 0x0500)

/-- All ones of the counter's width. -/
def statMax (blk off : Nat) : Nat := if statWide blk off then 2 ^ 64 - 1 else 2 ^ 32 - 1

def State.stat (s : State) (blk off : Nat) : Nat := Tbl.getD s.stats (statKey blk off) 0

/-- The counter raised by n and saturated, its overflow flag set when it saturates, and whether it saturated just now. -/
def State.bumpRaw (s : State) (blk off n : Nat) : State × Bool :=
  let k := statKey blk off
  let v := satAt (statMax blk off) (s.stat blk off + n)
  let s := s.onStats fun t => Tbl.put t k v
  if v == statMax blk off && (Tbl.find s.flt.ovf k).isNone then
    (s.onFlt fun f => { f with ovf := Tbl.put f.ovf k () }, true)
  else (s, false)

/-! ### Telemetry of TRT (R311) and host writes -/

/-- Started 64 B units of host TLPs that carry `n` bytes, `z` at most in each, with a header of 16 B each (R311; the header's size is
PRESUMED). -/
def tlpUnits (z n : Nat) : Nat := n / z * ceilDiv (16 + z) 64 + (if n % z = 0 ∧ n ≠ 0 then 0 else ceilDiv (16 + n % z) 64)

/-- Bytes of a function's Max_Payload_Size (Table 11.1). -/
def Func.payload (f : Func) : Nat := 128 * 2 ^ min 2 f.mps

/-- Packets and their flits counted as sent on port p, VC v. -/
def State.countTx (s : State) (p v flits : Nat) (n : Nat := 1) : State :=
  let i := 4 * p + v
  ((s.bumpRaw blkTRT (0x1000 + 8 * i) n).1.bumpRaw blkTRT (0x1300 + 8 * i) flits).1

/-- Packets and their flits counted as taken from port p, VC v. -/
def State.countRx (s : State) (p v flits : Nat) (n : Nat := 1) : State :=
  let i := 4 * p + v
  ((s.bumpRaw blkTRT (0x1600 + 8 * i) n).1.bumpRaw blkTRT (0x1900 + 8 * i) flits).1

/-- `n` payload bytes taken from the host port of a function, in TLPs of its Max_Payload_Size (R311). -/
def State.hostRx (s : State) (fn v n : Nat) : State :=
  s.countRx (s.fnPort fn) v (tlpUnits (s.func fn).payload n) (max 1 (ceilDiv n (s.func fn).payload))

/-- Flits waiting in the egress queue of port p for VC v (R312). -/
def State.qdepth (s : State) (p v : Nat) : Nat :=
  ((s.schPort p).queue.filter fun k => k.vc == v).foldl (fun n k => n + k.flits) 0

/-- A packet queued for egress on a port; the peak depth of its VC follows (R312, R358). -/
def State.enqueue (s : State) (p : Nat) (k : Pkt) : State :=
  let s := s.setSch p fun q => { q with queue := q.queue ++ [k] }
  s.onTrt fun t => { t with peaks := Tbl.modD t.peaks (4 * p + k.vc) 0 fun m => max m (satAt 65535 (s.qdepth p k.vc)) }

/-- What is sent through a function queued on its host port in an egress class (Table 12.5), counted under VC `v` (R311) as the TLPs
that its Max_Payload_Size cuts it into (R329). -/
def State.hostTlp (s : State) (cls v : Nat) (t : HostTlp) : State :=
  let f := s.func t.fn
  s.enqueue (s.fnPort t.fn)
    { agt := f.agent, body := .tlp t, cls := cls, vc := v, flits := tlpUnits f.payload t.len
      tlps := max 1 (ceilDiv t.len f.payload) }

/-- A host write of bytes through a function. -/
def State.hostWrite (s : State) (fn cls addr : Nat) (data : List Byte) : State :=
  s.hostTlp cls 1 (.write fn (addr % 2 ^ 64) data)

/-- An MSI-X vector signalled: a message when enabled and unmasked, else its pending bit when masked (R384). -/
def State.msix (s : State) (fn cls vec : Nat) : State :=
  let f := s.func fn
  if !f.msixEn then s
  else if bit f.msixMask vec then s.setFn fn fun f => { f with msixPend := setBit f.msixPend vec }
  else s.hostTlp cls 1 (.msix fn vec)

/-! ### Rings (R380 to R383, R330, R331) -/

/-- Records of a ring, as a power of two; values below `lo` act as `lo` and above 16 as 16. -/
def Ring.size (r : Ring) (lo : Nat) : Nat := 2 ^ max lo (min 16 (bits r.ctrl.toNat 4 0))

def Ring.en (r : Ring) : Bool := bit r.ctrl.toNat 31

def Ring.vec (r : Ring) : Nat := bits r.ctrl.toNat 21 16

/-- A ring with EN clear counts as full. -/
def Ring.full (r : Ring) (lo : Nat) : Bool := !r.en || (r.tail + 2 ^ 17 - r.head) % 2 ^ 17 == r.size lo

/-- PHASE of the next record: 1 on the first pass, flipped at each wrap. -/
def Ring.phase (r : Ring) (lo : Nat) : Nat := 1 - r.tail / r.size lo % 2

/-- Address of the next record of `n` bytes. -/
def Ring.slot (r : Ring) (lo n : Nat) : Nat := r.addr + n * (r.tail % r.size lo)

/-- One more record written. -/
def Ring.step (r : Ring) : Ring := { r with tail := (r.tail + 1) % 2 ^ 17, signal := true }

/-- The words of a completion record (Table 13.2). -/
def CplRec.words (c : CplRec) (phase : Nat) : Nat × Nat × Nat × Nat :=
  (c.status.code + place c.detail 24 8, place phase 1 31 + place (b2n c.final) 1 16 + c.tag % 65536,
    c.res0 % 2 ^ 32, c.res1 % 2 ^ 32)

/-- A completion record written to the ring: DW0, DW2 and DW3 first and DW1 second (R380). -/
def State.writeCpl (s : State) (fn : Nat) (c : CplRec) : State :=
  let r := (s.intake fn).cpl
  let a := r.slot 8 16
  let (d0, d1, d2, d3) := c.words (r.phase 8)
  let s := s.hostWrite fn 3 a (leBytes 4 d0)
  let s := s.hostWrite fn 3 (a + 8) (leBytes 4 d2 ++ leBytes 4 d3)
  let s := s.hostWrite fn 3 (a + 4) (leBytes 4 d1)
  s.setIntake fn fun i => { i with cpl := i.cpl.step }

/-- Room for a completion record now: ring enabled and not full, and the function's DMA possible (R376, R381). -/
def State.cplRoom (s : State) (fn : Nat) : Bool := s.dmaOk fn && !(s.intake fn).cpl.full 8

/-- A completion record given: written when nothing waits before it and there is room, else buffered in order (R381). -/
def State.putCpl (s : State) (fn : Nat) (c : CplRec) : State :=
  if !s.fnExists fn then s
  else if (s.func fn).reset.isSome then s.setIntake fn fun i => { i with kept := i.kept ++ [c] }
  else if (s.intake fn).cplBuf.isEmpty && s.cplRoom fn then s.writeCpl fn c
  else s.setIntake fn fun i => { i with cplBuf := i.cplBuf ++ [c] }

/-- An event record written to the event ring: bytes 4 to 63 first, bytes 0 to 3 second (R382). -/
def State.writeEvt (s : State) (fn : Nat) (e : EvtRec) : State :=
  let i := s.intake fn
  let r := i.evt
  let a := r.slot 6 64
  let s := s.hostWrite fn 3 (a + 4) (leBytes 4 e.tick ++ padTo 56 0 e.payload)
  let s := s.hostWrite fn 3 a (leBytes 2 e.event ++ leBytes 1 (b2n i.loss) ++ leBytes 1 (place (r.phase 6) 1 7))
  s.setIntake fn fun i => { i with evt := i.evt.step, loss := false }

def State.evtRoom (s : State) (fn : Nat) : Bool := s.dmaOk fn && !(s.intake fn).evt.full 6

/-- An event given to a function: written, buffered in its 64 places, or discarded and counted (R383). The flag says
that it was discarded. -/
def State.putEvt (s : State) (fn : Nat) (e : EvtRec) : State × Bool :=
  if !s.fnExists fn then (s, false)
  else
    let i := s.intake fn
    if i.evtBuf.isEmpty && s.evtRoom fn then (s.writeEvt fn e, false)
    else if i.evtBuf.length < 64 then (s.setIntake fn fun i => { i with evtBuf := i.evtBuf ++ [e] }, false)
    else
      let s := s.setIntake fn fun i => { i with evtLost := satAt (2 ^ 32 - 1) (i.evtLost + 1), loss := true }
      ((s.bumpRaw blkCMD 0x050C 1).1, true)

/-- An event given to several functions in turn; the flag says that some discarded it. -/
def State.putEvts (s : State) (fns : List Nat) (ev : Nat) (payload : List Byte) : State × Option Nat :=
  fns.foldl (fun (acc : State × Option Nat) fn =>
    let (s, lost) := acc.1.putEvt fn { event := ev, tick := acc.1.tick % 2 ^ 32, payload := payload }
    (s, if lost then some fn else acc.2)) (s, none)

/-! ### Fault causes (R427 to R433) -/

def State.fltInst (s : State) (blk j : Nat) : FltInst := Tbl.getD s.flt.insts (blk * 8 + j) {}

def State.setFlt (s : State) (blk j : Nat) (f : FltInst → FltInst) : State :=
  s.onFlt fun t => { t with insts := Tbl.modD t.insts (blk * 8 + j) {} f }

/-- A history entry (Table 15.3). -/
def histEntry (tick cls cause info : Nat) : DWord :=
  BitVec.ofNat 64 (place tick 32 32 + place cls 2 27 + place cause 5 22 + info % 65536)

/-- An entry written to a history queue of eight; the ninth overwrites the oldest (R429). -/
def FltInst.write (f : FltInst) (e : DWord) : FltInst :=
  { f with hist := (f.hist ++ [e]).drop (f.hist.length - 7), next := (f.next + 1) % 8,
           written := satAt (2 ^ 32 - 1) (f.written + 1) }

/-- A fatal event: FAULT_N pulses, restarting a running pulse, and HOLD is set (R433). -/
def State.fatalPin (s : State) : State := s.onFlt fun f => { f with pulse := true, hold := true, fatal := true }

/-- The payload of a FAULT event (Table 15.4). -/
def faultPayload (blk j cause cls info : Nat) : List Byte :=
  leBytes 1 blk ++ leBytes 1 j ++ leBytes 1 cause ++ leBytes 1 cls ++ leBytes 2 info

/-- A cause arises (R427): its bit, its history entry, the event unless masked, and FAULT_N for a fatal one. A corrected
cause writes an entry and sends an event at most once in 1024 ticks (R429). Answers the state and the functions that
discarded the event. -/
def State.raiseCore (s : State) (blk j cause info : Nat) : State × Option Nat :=
  match faultClass blk cause with
  | none => (s, none)
  | some cls =>
    let f := s.fltInst blk j
    let quiet := cls == .corrected && (match Tbl.find f.lastC cause with
      | some t => s.tick < t + 1024
      | none => false)
    let s := s.setFlt blk j fun f => { f with cause := setBit f.cause cause }
    let s := if cls == .fatal then s.fatalPin else s
    if quiet then (s, none)
    else
      let s := s.setFlt blk j fun f =>
        { f.write (histEntry s.tick cls.code cause info) with lastC := Tbl.put f.lastC cause s.tick }
      if bit f.mask cause then (s, none)
      else s.putEvts s.providers evFAULT (faultPayload blk j cause cls.code info)

/-- An event that could not be kept raises cause 2 of FLT on the hub of the function that lost it (Table 15.2). -/
def State.afterEvt (p : State × Option Nat) : State :=
  match p.2 with
  | none => p.1
  | some fn => (p.1.raiseCore blkFLT (p.1.fnHub fn) 2 0).1

/-- A fault cause raised (R427). -/
def State.raise (s : State) (blk j cause info : Nat) : State := State.afterEvt (s.raiseCore blk j cause info)

/-- An event sent to the listed functions (R382, R383). -/
def State.event (s : State) (fns : List Nat) (ev : Nat) (payload : List Byte) : State :=
  State.afterEvt (s.putEvts fns ev payload)

/-- A statistic counter raised by n (R435); when it saturates, one COUNTER_SATURATED event (R438). -/
def State.bump (s : State) (blk off : Nat) (n : Nat := 1) : State :=
  let (s, sat) := s.bumpRaw blk off n
  if sat then s.event s.providers evCOUNTER_SATURATED (leBytes 1 blk ++ [0] ++ leBytes 2 (off / 4)) else s

/-- RAIL_MISMATCH raised on an instance (R432): the RAIL bit, the entry, and the event under R427. -/
def State.raiseRail (s : State) (blk j : Nat) : State :=
  let m := (s.fltInst blk j).mask
  let s := s.setFlt blk j fun f => { f.write (histEntry s.tick Config.railClass 16 (Config.pairNo blk j)) with rail := true }
  if bit m 16 then s else s.event s.providers evFAULT (faultPayload blk j 16 Config.railClass (Config.pairNo blk j))

/-- ALERT_N is driven low while some instance has a CAUSE or RAIL bit set whose mask bit is clear (R428). -/
def State.alertLow (s : State) : Bool :=
  s.flt.insts.any fun p => maskDiff p.2.cause (p.2.mask % 65536) != 0 || (p.2.rail && !bit p.2.mask 16)

/-- FAULT_N is driven low during a pulse, while HOLD is 1, and in FAILED (R433). -/
def State.faultLow (s : State) : Bool := s.flt.pulse || s.flt.hold || s.mir.state == .failed

/-! ### Completion records of commands and the hold of R16 -/

/-- Does a loft take deltas now? In G-CELLAR the standby's core is off (Table 20.4). -/
def State.paired (s : State) : Bool := s.mir.state == .paired && s.glb.pstate != .cellar

/-- A change that the tick's delta carries (R439). -/
def State.change (s : State) : State := if s.paired then s.onMir fun m => { m with changes := m.changes + 1 } else s

/-- A record that reports a change waits for the loft (R16); with no loft it leaves at once (R442). -/
def State.answerHeld (s : State) (fn : Nat) (c : CplRec) : State :=
  if s.paired then s.change.onMir fun m => { m with held := m.held ++ [(s.tick, .record fn c)] } else s.putCpl fn c

/-- The final record of a command. -/
def State.answer (s : State) (i : Issuer) (st : Status) (detail : Nat := 0) (res0 : Nat := 0) (res1 : Nat := 0) : State :=
  s.putCpl i.fn { status := st, detail := detail, final := st != .accepted, tag := i.tag, res0 := res0, res1 := res1 }

/-- The final record of a command that leaves under R16. -/
def State.answerR16 (s : State) (i : Issuer) (st : Status) (detail : Nat := 0) (res0 : Nat := 0) (res1 : Nat := 0) : State :=
  s.answerHeld i.fn { status := st, detail := detail, final := st != .accepted, tag := i.tag, res0 := res0, res1 := res1 }

end Sys2Proof.Machine
end

