-- ==== Sys2Proof/Machine/Egress.lean ====
section
/-! DEFINITION. Responses and messages to agents (R70, R71): their form on Trellis and in a response ring, the LOAD and
CREDIT_HINT they carry, the message port, and what waits for the loft under R16. -/

namespace Sys2Proof.Machine

/-- Egress class of the response to a request (Table 12.5). -/
def ReqCode.cls : ReqCode → Nat
  | .swapInShared => 1 | .swapInHeld => 1 | .swapOut => 1 | _ => 0

/-- floor(16 × a / b), at most 15. -/
def sixteenth (a b : Nat) : Nat := if b = 0 then 0 else min 15 (16 * a / b)

/-- LOAD (R365), coarsened to four levels for agents of a tenant other than 0 (R367). `stack` is the stack that served
the request, none for a response that needed none. -/
def State.loadOf (s : State) (agent p v : Nat) (stack : Option Nat) : Nat :=
  let share := match stack with
    | some k => sixteenth (s.stack k).granted (s.stack k).capacity
    | none => 0
  let l := max share (sixteenth (s.qdepth p v) 32768)
  if s.tenantOf agent == 0 then l else l / 4 * 4

/-- CREDIT_HINT of an agent's meter (R366). -/
def State.hintOf (s : State) (agent : Nat) : Nat :=
  let m := Tbl.getD s.mtr agent {}
  if !m.active then 0xF
  else min 3 (if m.cbs = 0 then 3 else 4 * m.tc / m.cbs) + 4 * min 3 (if m.pbs = 0 then 3 else 4 * m.tp / m.pbs)

/-- The 128 bytes of a response ring record (Table 11.6). -/
def Resp.ringBytes (r : Resp) (phase : Nat) : List Byte :=
  leBytes 1 (place phase 1 7 + r.kind) ++ leBytes 1 r.status.code ++ leBytes 3 r.detail ++
  leBytes 1 (r.load + 16 * r.hint) ++ leBytes 2 r.txid ++ leBytes 3 r.gen ++ leBytes 1 r.msg ++ leBytes 1 r.cause ++
  [0] ++ leBytes 2 r.region ++ leBytes 4 r.page ++ leBytes 4 r.left ++ leBytes 6 r.vintage ++ [0, 0] ++
  padTo 16 0 r.old ++ List.replicate 16 0 ++ padTo 64 0 r.data

/-- A record written to a function's response ring: bytes 8 to 127 first, bytes 0 to 7 second, then its vector (R330). -/
def State.writeRing (s : State) (fn : Nat) (r : Resp) : State :=
  let g := (s.func fn).ring
  let a := g.slot 6 128
  let b := r.ringBytes (g.phase 6)
  let cls := if r.kind == 1 then 4 else if r.kind == 2 then 1 else r.code.cls
  let s := s.hostWrite fn cls (a + 8) (b.drop 8)
  let s := s.hostWrite fn cls a (b.take 8)
  let s := s.setFn fn fun f => { f with ring := { g.step with signal := false } }
  s.msix fn cls g.vec

def State.ringRoom (s : State) (fn : Nat) : Bool := s.dmaOk fn && !(s.func fn).ring.full 6

/-- A record given to a response ring: written, or buffered in its 256 places; a message that finds the buffer full is
discarded and counted (R331). -/
def State.putRing (s : State) (fn : Nat) (r : Resp) : State :=
  if !s.fnEnabled fn then s
  else if (s.func fn).ringBuf.isEmpty && s.ringRoom fn then s.writeRing fn r
  else if (s.func fn).ringBuf.length < 256 || r.kind != 1 then
    s.setFn fn fun f => { f with ringBuf := f.ringBuf ++ [r] }
  else s.bump blkTRT 0x0700

/-- Bytes of data that one packet on a port may carry: 16 data flits, or 15 under TL1 (R272). -/
def State.packetData (s : State) (p : Nat) : Nat := if (s.port p).tl = 1 then 960 else 1024

/-- A packet queued on a Trellis port, or dropped when the port is not UP (R97, R301). -/
def State.sendPkt (s : State) (p : Nat) (k : Pkt) : State := if s.portUp p then s.enqueue p k else s

/-- The line that a BAR4 request's piece ended with, kept until every piece has been decided (R326). -/
def State.barPiece (s : State) (id fn piece : Nat) (r : Resp) : State :=
  s.onPci fun c => { c with wins := c.wins.map fun w =>
    if w.fn == fn && w.id == id then
      { w with pieces := w.pieces ++ [(piece, r.status, r.detail, if w.atomic then r.old else r.data)] } else w }

/-- The PCI Express completion status of a line's outcome (Table 11.4). -/
def cplStatus (st : Status) : Nat := if st == .ok then 0 else if st == .unmapped then 1 else 2

/-- A failed BAR4 line recorded in PCI_FN_WIN_ERR and counted (R326). -/
def State.winError (s : State) (fn pva : Nat) (st : Status) : State :=
  let s := s.setFn fn fun f =>
    { f with winErr := true, winPva := pva / 64 % 2 ^ 46 * 64, winStatus := st.code }
  s.bump blkPCI (0x0800 + 4 * (s.func fn).link)

/-- PVA of byte `off` of a function's BAR4 (R324). -/
def State.barPva (s : State) (fn off : Nat) : Nat := (2 ^ 36 * (s.func fn).winBase + off) % 2 ^ 52

/-- BAR4 reads and AtomicOps whose every line is decided are answered with one completion, in request order (R326). -/
def State.barFinish (s : State) : State :=
  let (done, rest) := s.pci.wins.partition fun w => w.pieces.length == w.total
  let s := s.onPci fun c => { c with wins := rest }
  done.foldl (fun s w =>
    let ps := sortBy (fun (x : Nat × Status × Nat × List Byte) => x.1) w.pieces
    match ps.find? fun x => x.2.1 != .ok with
    | some x =>
      let s := s.winError w.fn (s.barPva w.fn ((w.off / 64 + x.1) * 64)) x.2.1
      s.hostTlp 0 1 (.cpl w.fn w.id (cplStatus x.2.1) [])
    | none =>
      let d := ps.flatMap fun x => x.2.2.2
      s.hostTlp 0 1 (.cpl w.fn w.id 0 (if w.atomic then d else (d.drop (w.off % 64)).take w.len))) s

/-- A response sent by the way its request came (R278, R330, R326), with LOAD and CREDIT_HINT formed now. A BAR4 write is
posted: only its failure is recorded. -/
def State.respondVia (s : State) (agent : Nat) (via : Via) (stack : Option Nat) (r : Resp) : State :=
  match via with
  | .trellis p _ =>
    let r := { r with load := s.loadOf agent p 1 stack, hint := s.hintOf agent }
    s.sendPkt p { agt := agent, tid := r.txid, body := .drsp r, cls := r.code.cls, vc := 1,
                  flits := if r.code == .load && r.status == .ok then 2 else 1 }
  | .slot fn =>
    s.putRing fn { r with load := s.loadOf agent (s.fnPort fn) 1 stack, hint := s.hintOf agent }
  | .bar4 fn id piece =>
    if s.pci.wins.any fun w => w.fn == fn && w.id == id then (s.barPiece id fn piece r).barFinish
    else if r.status == .ok then s
    else s.winError fn r.detail r.status
  | .engine => s

/-- A response to a request and to every held reissue of its TXID (R93). A request whose agent's link is down has its
response dropped (R97). INV_ACK never receives one (R70). -/
def State.respondNow (s : State) (q : PReq) (stack : Option Nat) (r : Resp) : State :=
  if q.code == .invAck then s
  else
    let r := { r with txid := q.r.txid, code := q.code }
    (q.via :: q.also).foldl (fun s v => match v with
      | .bar4 _ _ _ => s.respondVia q.agent v stack (if r.status == .ok then r else { r with detail := q.r.pva })
      | _ => if (s.agentSt q.agent).up then s.respondVia q.agent v stack r else s) s

/-- A response that reports a change: held until the loft has the change (R16), with the stack that served it. -/
def State.respondHeld (s : State) (q : PReq) (stack : Option Nat) (r : Resp) : State :=
  if s.paired then s.change.onMir fun m => { m with held := m.held ++ [(s.tick, .resp q stack r)] }
  else s.respondNow q stack r

/-- Held items leave: those of ticks at or before `t`, oldest first. -/
def State.release (s : State) (t : Nat) : State :=
  let (go, stay) := s.mir.held.partition fun h => h.1 ≤ t
  let s := s.onMir fun m => { m with held := stay }
  go.foldl (fun s h => match h.2 with
    | .record fn c => s.putCpl fn c
    | .resp q k r => s.respondNow q k r
    | .packet p k => s.sendPkt p k) s

/-- A packet that reports a change leaves under R16. -/
def State.sendHeld (s : State) (p : Nat) (k : Pkt) : State :=
  if s.paired then s.change.onMir fun m => { m with held := m.held ++ [(s.tick, .packet p k)] } else s.sendPkt p k

/-! ### Messages (R71, R299 to R301, R330) -/

/-- Is a DMSG for the agent queued on VC1 of port p? -/
def State.dmsgQueued (s : State) (p agent : Nat) : Bool :=
  (s.schPort p).queue.any fun k => k.agt == agent && k.vc == 1 && (match k.body with | .dmsg _ => true | _ => false)

/-- The message port by R299: PREF while UP, else the lowest-numbered port of PORTS that is UP. -/
def State.pickMsgPort (s : State) (agent : Nat) : Option Nat :=
  let rt := s.route agent
  if rt.pref < 16 && bit rt.ports rt.pref && s.portUp rt.pref then some rt.pref
  else (maskBits 16 rt.ports).find? fun p => s.portUp p

/-- The message port of one agent chosen again (R299), with the wait of R300 begun or ended. -/
def State.selectMsgPort (s : State) (agent : Nat) : State :=
  if s.hostAgent agent then s
  else
    let rt := s.route agent
    let p := s.pickMsgPort agent
    let waitOn := match rt.msg with
      | some a => if p != some a && p.isSome && s.portUp a then some a else rt.waitOn
      | none => rt.waitOn
    let waitOn := match waitOn with
      | some a => if s.portUp a && s.dmsgQueued a agent then some a else none
      | none => none
    let s := s.setRoute agent fun rt => { rt with msg := p, waitOn := waitOn }
    match waitOn, p with
    | none, some b =>
      let ks := (s.route agent).waiting
      let s := s.setRoute agent fun rt => { rt with waiting := [] }
      ks.foldl (fun s k => s.sendPkt b k) s
    | none, none =>
      let n := (s.route agent).waiting.length
      let s := s.setRoute agent fun rt => { rt with waiting := [] }
      if n = 0 then s else s.bump blkTRT 0x0700 n
    | _, _ => s

/-- A message to an agent: a ring record of its lowest-numbered enabled function, or a DMSG on its message port (R299),
waiting while an earlier port still holds one (R300). With no way to it, it is discarded and counted (R301). -/
def State.message (s : State) (agent : Nat) (r : Resp) : State :=
  let r := { r with kind := 1, load := 0, hint := 0 }
  if s.hostAgent agent then
    match (s.fnsOf agent).find? fun fn => s.fnEnabled fn with
    | some fn => s.putRing fn r
    | none => s.bump blkTRT 0x0700
  else
    let s := s.selectMsgPort agent
    let rt := s.route agent
    let k : Pkt := { agt := agent, tid := 0, body := .dmsg r, cls := 4, vc := 1, flits := 1 }
    match rt.msg with
    | some p =>
      if !s.portUp p then s.bump blkTRT 0x0700
      else if rt.waitOn.isSome then s.setRoute agent fun rt => { rt with waiting := rt.waiting ++ [k] }
      else s.sendPkt p k
    | none => s.bump blkTRT 0x0700

end Sys2Proof.Machine
end

