-- ==== Sys2Proof/Machine/Memory.lean ====
section
/-! DEFINITION. The pool's byte memory: a list of address and byte pairs with strictly rising addresses and no zero byte
listed, since an unlisted byte reads zero (a model's choice for memory no one has written, and what R40 gives regions). -/

namespace Sys2Proof.Machine

/-- The pool's memory. -/
abbrev Memory := List Host.Cell

/-- The canonical form: addresses strictly rising, no entry zero. -/
def Memory.wf (m : Memory) : Bool :=
  match m with
  | [] => true
  | (a, b) :: r => b != 0 && (match r with | [] => true | (c, _) :: _ => decide (a < c)) && Memory.wf r

/-- The byte at an address. -/
def Memory.get (m : Memory) (a : Nat) : Byte := Tbl.getD m a 0

/-- The memory with byte `b` at `a`: a zero is stored by listing nothing. -/
def Memory.set (m : Memory) (a : Nat) (b : Byte) : Memory := if b = 0 then Tbl.del m a else Tbl.put m a b

/-- Bytes `a` to `a + n - 1`. -/
def Memory.read (m : Memory) (a n : Nat) : List Byte := (List.range n).map fun i => Memory.get m (a + i)

/-- Bytes written from `a` upward. -/
def Memory.write (m : Memory) (a : Nat) : List Byte → Memory
  | [] => m
  | b :: bs => Memory.write (Memory.set m a b) (a + 1) bs

/-- Bytes written where the enable mask has a one (Table 3.4). -/
def Memory.writeMasked (m : Memory) (a mask : Nat) : List Byte → Memory
  | [] => m
  | b :: bs => Memory.writeMasked (if mask % 2 = 1 then Memory.set m a b else m) (a + 1) (mask / 2) bs

/-- The listed cells of a range, with addresses counted from its start. -/
def Memory.cells (m : Memory) (a n : Nat) : List Host.Cell :=
  (List.filter (fun c => a ≤ c.1 && c.1 < a + n) m).map fun c => (c.1 - a, c.2)

/-- The memory with a range zeroed. -/
def Memory.zero (m : Memory) (a n : Nat) : Memory := List.filter (fun c => !(a ≤ c.1 && c.1 < a + n)) m

/-- The memory with a range replaced by cells counted from its start. -/
def Memory.paste (m : Memory) (a n : Nat) (cs : List Host.Cell) : Memory :=
  (cs.filter fun c => c.1 < n).foldl (fun m c => Memory.set m (a + c.1) c.2) (Memory.zero m a n)

/-- `n` bytes copied from `src` to `dst`, read before any is written (R134). -/
def Memory.copy (m : Memory) (src dst n : Nat) : Memory := Memory.paste m dst n (Memory.cells m src n)

end Sys2Proof.Machine
end

