-- ==== Sys2Proof/Machine/Xlt.lean ====
section
/-! DEFINITION. XLT: the translation entry, the walk, the admission checks of Table 4.4, the table store's count, the
translation caches with prefetch, and the access counters of hot pages (chapter Pool virtual addresses and translation). -/

namespace Sys2Proof.Machine

/-! ### Entries and walks (R102 to R107) -/

/-- The 128 bits of a leaf (Table 4.2). -/
def Leaf.toNat (l : Leaf) : Nat :=
  place l.swtag 32 96 + place l.incarn 16 64 + place l.region 12 48 + place l.frame 20 24 + place l.psize 2 7 +
  place (b2n l.view) 1 6 + place (b2n l.hot) 1 5 + place (b2n l.a) 1 4 + place (b2n l.w) 1 3 + place (b2n l.r) 1 2 + 3

/-- The leaf that 128 bits spell (Table 4.2). -/
def Leaf.ofNat (n : Nat) : Leaf :=
  { swtag := bits n 127 96, incarn := bits n 79 64, region := bits n 59 48, frame := bits n 43 24, psize := bits n 8 7,
    view := bit n 6, hot := bit n 5, a := bit n 4, w := bit n 3, r := bit n 2 }

/-- Key of an L0 entry: agent and PVA[51:21]. -/
def l0Key (agent pva : Nat) : Nat := 2 ^ 31 * agent + pva % 2 ^ 52 / 2 ^ 21

/-- Bytes that one entry of a level spans (Table 4.1). -/
def lvlSpan (l : Nat) : Nat := match l with | 0 => 2 ^ 21 | 1 => 2 ^ 30 | _ => 2 ^ 39

/-- Key of an L1 entry: agent and PVA[51:30]. -/
def l1Key (agent pva : Nat) : Nat := 2 ^ 22 * agent + pva % 2 ^ 52 / 2 ^ 30

/-- Does the agent have an L0 table under the L1 entry of `pva`? Tables live while they hold a valid entry (R107). -/
def Xlt.l0Table (x : Xlt) (agent pva : Nat) : Bool :=
  x.l0.any fun e => e.1 / 512 == l1Key agent pva

/-- Does the agent have an L1 table under the L2 entry of `pva`? -/
def Xlt.l1Table (x : Xlt) (agent pva : Nat) : Bool :=
  let k := 2 ^ 13 * agent + pva % 2 ^ 52 / 2 ^ 39
  x.l1.any (fun e => e.1 / 512 == k) || x.l0.any fun e => e.1 / 2 ^ 18 == k

/-- The walk of R103: a leaf, or the cause of Table 4.8 (1 invalid at L2, 2 at L1, 3 at L0). -/
def Xlt.walk (x : Xlt) (agent pva : Nat) : Nat × Option Leaf :=
  if agent = 0 ∨ !x.l1Table agent pva then (1, none)
  else if x.l0Table agent pva then
    match Tbl.find x.l0 (l0Key agent pva) with
    | some l => (0, some l)
    | none => (3, none)
  else match Tbl.find x.l1 (l1Key agent pva) with
    | some l => (0, some l)
    | none => (2, none)

/-- Distinct values in a rising list. -/
def distinct : List Nat → List Nat
  | [] => []
  | a :: r => match r with
    | [] => [a]
    | b :: _ => if a = b then distinct r else a :: distinct r

/-- Tables of 8 KiB in use: L0 tables and L1 tables (R107). -/
def Xlt.tables (x : Xlt) : Nat :=
  let t0 := distinct (x.l0.map fun e => e.1 / 512)
  let u0 := distinct (t0.map fun k => k / 512)
  let u1 := distinct (x.l1.map fun e => e.1 / 512)
  t0.length + u1.length + (u0.filter fun k => !u1.contains k).length

/-- Tables of the table store (R107). -/
abbrev TABLES : Nat := 522240

/-- Key of the table that holds the entry of `pva` at a level; an L2 table counts in its parts of 8 KiB. -/
def tableKey (lvl agent pva : Nat) : Nat :=
  2 ^ 40 * lvl + (match lvl with
    | 0 => l1Key agent pva
    | 1 => 2 ^ 13 * agent + pva % 2 ^ 52 / 2 ^ 39
    | _ => 16 * agent + pva % 2 ^ 52 / 2 ^ 48)

/-- Is there an L1 or L0 table with this key? -/
def Xlt.hasTable (x : Xlt) (k : Nat) : Bool :=
  if k < 2 ^ 40 then x.l0.any fun e => e.1 / 512 == k
  else x.l1.any (fun e => e.1 / 512 == k % 2 ^ 40) || x.l0.any fun e => e.1 / 2 ^ 18 == k % 2 ^ 40

/-- The places of emptied tables given up (R107). -/
def Xlt.freed (x : Xlt) : Xlt := { x with place := x.place.filter fun e => x.hasTable e.1 }

/-- PA of a leaf for a PVA (Table 4.3). -/
def Leaf.pa (l : Leaf) (pva : Nat) : Nat :=
  MIB2 * l.frame / pageBytes l.psize * pageBytes l.psize + pva % pageBytes l.psize

/-- PVA of the page base. -/
def Leaf.base (l : Leaf) (pva : Nat) : Nat := pva / pageBytes l.psize * pageBytes l.psize

/-! ### Regions and bins that an address lies in -/

/-- Incarnation of a region ID (R115). -/
def State.incarn (s : State) (r : Nat) : Nat := Tbl.getD s.rgn.incarn r 0

/-- Bytes of a region's page. -/
def Region.pageSize (r : Region) : Nat := pageBytes r.psz

/-- Pages that a bin holds. -/
def Region.binPages (r : Region) (b : RBin) : Nat := b.units / pageUnits r.psz

/-- The bin index, the bin and the region page of a PA in a region's data bins; removed bins are skipped (R59). -/
def Region.locate (r : Region) (pa : Nat) : Option (Nat × RBin × Nat) :=
  match firstIdx (fun (b : RBin) => !b.reserve && b.mirrorOf.isNone && !b.removed && b.pa ≤ pa && pa < b.pa + MIB2 * b.units)
      r.bins with
  | none => none
  | some i =>
    let b := r.bins.getD i {}
    some (i, b, b.first + (pa - b.pa) / r.pageSize * b.step)

/-- Is bin `b`, or the mirror bin that pairs with it, withdrawn from the agent (R54, R56)? -/
def Region.revokedBin (r : Region) (agent b : Nat) : Bool :=
  r.revoked.contains (agent, b) ||
  (List.range r.bins.length).any fun m => (r.bins.getD m {}).mirrorOf == some b && r.revoked.contains (agent, m)

/-- The bin that a PA lies in, of any kind. -/
def Region.binAt (r : Region) (pa : Nat) : Option Nat :=
  firstIdx (fun (b : RBin) => !b.removed && b.pa ≤ pa && pa < b.pa + MIB2 * b.units) r.bins

/-- Is the draft copy at directory index `d` in a reserve bin withdrawn from the agent (R56)? -/
def Region.revokedDraft (r : Region) (agent d : Nat) : Bool :=
  match r.binAt (idxPa d) with
  | some b => (r.bins.getD b {}).reserve && r.revoked.contains (agent, b)
  | none => false

/-- Does the region hold bound weights (R214)? -/
def State.bound (s : State) (r : Nat) : Bool := s.sec.bindings.any fun b => b.2.region == r

/-! ### The table store's two copies (R107) -/

/-- First bytes of a table's two copies: in stack S, and in stack (S + 4) mod 16. -/
def State.tablePlace (s : State) (k : Nat) : Nat × Nat :=
  let c := Tbl.getD s.xlt.place k 0
  let n := Config.tableSlot c k
  let at_ := fun (st m : Nat) => SLOT * st + RSV_OFF + 8192 * (m % 65536)
  (at_ (n % 16) (n / 16), at_ ((n + 4) % 16) (Config.tableCopy c k))

/-- The two copies of the entry of `pva` at a level. -/
def State.entryPas (s : State) (lvl agent pva : Nat) : Nat × Nat :=
  let (a, b) := s.tablePlace (tableKey lvl agent pva)
  let o := 16 * (pva % 2 ^ 52 / lvlSpan lvl % 512)
  (a + o, b + o)

/-- Can a line no longer be read: its stack has failed, or it has no good data? -/
def State.dead (s : State) (pa : Nat) : Bool := s.stackFailed (stackOf pa) || s.poisoned (pa / 64)

def State.xhub (s : State) (h : Nat) : XHub := Tbl.getD s.xlt.hubs h {}

/-- Set of a page: agent xor the low 12 bits of its page number (R118). -/
def cacheSet (agent base psize : Nat) : Nat := (agent ^^^ (base / pageBytes psize % 4096)) % 4096

/-- The cached line of a page on hub h. -/
def State.cached (s : State) (h agent base psize : Nat) : Option CLine :=
  (Tbl.getD (s.xhub h).sets (cacheSet agent base psize) []).find? fun c =>
    c.agent == agent && c.base == base && c.psize == psize

/-- Is the leaf of a PVA in a hub's cache? -/
def State.leafCached (s : State) (h agent pva : Nat) : Bool :=
  match (s.xlt.walk agent pva).2 with
  | some l => (s.cached h agent (l.base pva) l.psize).isSome
  | none => false

/-- Levels of the tables that a walk on a hub reads, from below the pointers that its cache holds (R103, R118, R119). -/
def State.levelsRead (s : State) (h agent pva : Nat) : List Nat :=
  let ps := (s.xhub h).ptrs
  (if ps.contains (agent, 1, pva / 2 ^ 30) then [0] else if ps.contains (agent, 2, pva / 2 ^ 39) then [1, 0] else [2, 1, 0]).filter
    fun l => l == 2 || (if l == 1 then s.xlt.l1Table agent pva else s.xlt.l0Table agent pva)

/-- The level at which a walk finds both copies of its table unreadable, if it does (Table 15.3). -/
def State.deadLevel (s : State) (h agent pva : Nat) : Option Nat :=
  if agent == 0 || (s.mcx.poison.isEmpty && s.mcx.stk.all fun e => e.2.state != .failed) || s.leafCached h agent pva then none
  else (s.levelsRead h agent pva).find? fun l => s.dead (s.entryPas l agent pva).1 && s.dead (s.entryPas l agent pva).2

/-- The walk of R103 on a hub. One through a table with no readable copy ends UNMAPPED (Table 15.3), as invalid at that level (DEDUCED:
Table 4.8 gives such a walk no cause of its own). -/
def State.walk (s : State) (h agent pva : Nat) : Nat × Option Leaf :=
  match s.deadLevel h agent pva with
  | some l => (3 - l, none)
  | none => s.xlt.walk agent pva

/-! ### Admission checks (R108, Table 4.4) -/

/-- What an access does (Table 2.7): a directory request, or an operand page of an engine job. -/
inductive Use where | req (c : ReqCode) | src | dst
  deriving DecidableEq, Repr, Inhabited

/-- Rights a use needs (Table 2.7), as R, W and A. -/
def Use.need (u : Use) : Bool × Bool × Bool :=
  match u with
  | .req .load => (true, false, false)
  | .req .store => (false, true, false)
  | .req .atomic => (false, false, true)
  | .req .swapInShared => (true, false, false)
  | .req .swapInHeld => (true, true, false)
  | .req .swapOut => (false, true, false)
  | .req .release => (false, false, false)
  | .req .invAck => (false, false, false)
  | .src => (true, false, false)
  | .dst => (false, true, false)

/-- Uses that a versioned region confines to the draft view (R46, Table 2.7). -/
def Use.draftOnly (u : Use) : Bool :=
  match u with
  | .req c => c.writes
  | .src => false
  | .dst => true

/-- A translation that found a leaf. -/
structure Tr where
  leaf : Leaf := {}
  pva : Nat := 0
  region : Nat := 0
  pa : Nat := 0
  bin : Nat := 0
  page : Nat := 0
  home : Nat := 0                  -- directory index of the home frame (R105)
  draft : Bool := false
  hot : Bool := false
  deriving DecidableEq, Repr, Inhabited

/-- Does the access list grant a view? -/
def Acc.viewOk (a : Acc) (draft : Bool) : Bool := if draft then a.draft else a.pub

/-- Do rights cover a need? -/
def rightsCover (n : Bool × Bool × Bool) (r w a : Bool) : Bool := (!n.1 || r) && (!n.2.1 || w) && (!n.2.2 || a)

/-- Check 6 of Table 4.4 under R41, R43, R46 and R214. -/
def State.rightsOk (s : State) (agent : Nat) (u : Use) (t : Tr) : Bool :=
  let g := s.region t.region
  let a := Tbl.getD g.acl agent {}
  let n := u.need
  let any := n.1 || n.2.1 || n.2.2
  !any || (!s.bound t.region && rightsCover n (a.r && t.leaf.r) (a.w && t.leaf.w) (a.a && t.leaf.a) &&
    (!g.versioned || (a.viewOk t.leaf.view && (t.leaf.view || !u.draftOnly))))

/-- The checks of Table 4.4 in order, on a hub: status, the translation as far as it goes, and the fault cause of Table 4.8. Tile pages
are translated on the primary hub (R119). -/
def State.check (s : State) (agent pva : Nat) (u : Use) (h : Nat := s.mir.primary) : Status × Option Tr × Nat :=
  let pva := pva % 2 ^ 52
  match s.walk h agent pva with
  | (c, none) => (.unmapped, none, c)
  | (_, some l) =>
    let g := s.region l.region
    if g.state == .free || s.incarn l.region != l.incarn then (.unmapped, none, 4)
    else
      let pa := l.pa pva
      if inHole pa then (.unmapped, none, 5)
      else
        let hit := match g.locate pa with
          | none => none
          | some (i, b, p) =>
            match paIdx (b.pa + (pa - b.pa) / g.pageSize * g.pageSize) with
            | none => none
            | some h => some { leaf := l, pva := pva, region := l.region, pa := pa, bin := i, page := p, home := h,
                               draft := g.versioned && l.view, hot := l.hot && g.owner == s.tenantOf agent : Tr }
        if g.state == .lost then (.regionLost, hit, 0)
        else match hit with
          | none => (.accessRevoked, none, 0)
          | some t =>
            if g.state == .destroying && !g.removing then (.accessRevoked, hit, 0)
            else if g.revokedBin agent t.bin then (.accessRevoked, hit, 0)
            else if !s.rightsOk agent u t then (.deniedRights, hit, 0)
            else (.ok, hit, 0)

/-- The table owner's functions for events (R110): the owner while one is recorded, else the provider's functions. -/
def State.ownerFns (s : State) (agent : Nat) : List Nat :=
  match Tbl.find s.xlt.owner agent with
  | some fn => [fn]
  | none => s.providers

/-- Every enabled function of an agent, or its table owner, or the provider (R544). -/
def State.agentEventFns (s : State) (agent : Nat) : List Nat :=
  if s.hostAgent agent then (s.fnsOf agent).filter fun fn => s.fnEnabled fn else s.ownerFns agent

/-! ### Translation caches and prefetch (R118 to R121) -/

def State.setXhub (s : State) (h : Nat) (f : XHub → XHub) : State :=
  s.onXlt fun x => { x with hubs := Tbl.modD x.hubs h {} f }

/-- A leaf entered into the hub's cache as its set's most recent line; a seventeenth line drops the least recent, counted
when it was prefetched and never used. -/
def State.cacheFill (s : State) (h : Nat) (c : CLine) : State :=
  let k := cacheSet c.agent c.base c.psize
  let old := (Tbl.getD (s.xhub h).sets k []).filter fun d =>
    !(d.agent == c.agent && d.base == c.base && d.psize == c.psize)
  let s := s.setXhub h fun x => { x with sets := Tbl.put x.sets k ((c :: old).take 16) }
  let lost := ((c :: old).drop 16).filter fun d => d.pf
  if lost.isEmpty then s else s.bump blkXLT (0x0318 + 4 * h) lost.length

/-- The pointers of a walk, remembered most recent first (R118). -/
def State.ptrFill (s : State) (h agent pva : Nat) : State :=
  let p2 := (agent, 2, pva / 2 ^ 39)
  let p1 := (agent, 1, pva / 2 ^ 30)
  let ps := if s.xlt.l0Table agent pva then [p1, p2] else if s.xlt.l1Table agent pva then [p2] else []
  s.setXhub h fun x => { x with ptrs := (ps ++ x.ptrs.filter fun q => !ps.contains q).take 4096 }

/-- A translation used on hub h: a hit moves its line to the front, and a miss walks and fills. `pre` marks a pre-check,
which uses up a prefetched line. -/
def State.cacheUse (s : State) (h agent pva : Nat) (pre : Bool) : State :=
  let pva := pva % 2 ^ 52
  match (s.walk h agent pva).2 with
  | none => (s.ptrFill h agent pva).bump blkXLT (0x0308 + 4 * h)
  | some l =>
    match s.cached h agent (l.base pva) l.psize with
    | some c =>
      let s := s.cacheFill h { c with pf := c.pf && !pre }
      let s := if c.pf && pre then s.bump blkXLT (0x0310 + 4 * h) else s
      s.bump blkXLT (0x0300 + 4 * h)
    | none =>
      let s := s.ptrFill h agent pva
      let s := s.cacheFill h { agent := agent, base := l.base pva, psize := l.psize }
      s.bump blkXLT (0x0308 + 4 * h)

/-- Translations of a page range removed from both caches (R113). -/
def State.cacheDrop (s : State) (agent lo len : Nat) : State :=
  [0, 1].foldl (fun s h => s.setXhub h fun x =>
    { x with
      sets := Tbl.mapKV x.sets fun _ ls => ls.filter fun c => !(c.agent == agent && overlaps c.base (pageBytes c.psize) lo len)
      ptrs := x.ptrs.filter fun p => !(p.1 == agent &&
        overlaps (p.2.2 * 2 ^ (if p.2.1 = 1 then 30 else 39)) (2 ^ (if p.2.1 = 1 then 30 else 39)) lo len) }) s

/-- Prefetch walks for the pages of predicted tiles that are not cached, at most 32 running on the hub (R119, R120). DESIGN CHOICE:
a page found while 32 walks run is dropped. -/
def State.prefetch (s : State) (h agent : Nat) (pvas : List Nat) : State :=
  s.setXhub h fun x =>
    pvas.foldl (fun (x : XHub) p =>
      if s.leafCached h agent p || x.walks.contains (agent, p) || 32 ≤ x.walks.length then x
      else { x with walks := x.walks ++ [(agent, p)] }) x

/-- What a finished prefetch walk makes of its page (R119, R121): a mapped page is cached, an unmapped one is not. -/
def State.prefetchFill (s : State) (h agent pva : Nat) : State :=
  if !(s.xhub h).walks.contains (agent, pva) then s
  else
    let s := s.setXhub h fun x => { x with walks := x.walks.erase (agent, pva) }
    match (s.walk h agent pva).2 with
    | none => s
    | some l =>
      if (s.cached h agent (l.base pva) l.psize).isSome then s
      else (s.ptrFill h agent pva).cacheFill h { agent := agent, base := l.base pva, psize := l.psize, pf := true }

/-- Stream history after tile base `b` of a stream (R121): its last two bases, most recently used first, at most 256. -/
def State.streamUse (s : State) (h agent stream b : Nat) : State :=
  s.setXhub h fun x =>
    let prev := (x.streams.find? fun t => t.agent == agent && t.stream == stream).map fun t => t.last
    let rest := x.streams.filter fun t => !(t.agent == agent && t.stream == stream)
    { x with streams := ({ agent := agent, stream := stream, last := b, prev := prev } :: rest).take 256 }

/-! ### Access counters (R128 to R131) -/

/-- The HOT threshold; 0 acts as 1 (Table 4.12). -/
def State.hotThreshold (s : State) : Nat := max 1 (bits s.xlt.hot.toNat 15 0)

/-- A HOT_PAGE event's payload from byte 8 (R130, Table 13.4). -/
def hotPayload (agent region base psize : Nat) (write : Bool) : List Byte :=
  leBytes 1 agent ++ leBytes 1 (psize + 4 * b2n write) ++ leBytes 2 region ++ [0, 0, 0, 0] ++ leBytes 8 base

/-- A direct access admitted through a HOT leaf counts on the entry it is decided on; the access that reaches the threshold
sends one HOT_PAGE event, unless the warm-up window or the 64-tick limit silences it. -/
def State.countHot (s : State) (agent idx region base psize : Nat) (write : Bool) : State :=
  let n := (s.entry idx).access
  if 65535 ≤ n then s
  else
    let s := s.setEntry idx fun e => { e with access := n + 1 }
    if n + 1 != s.hotThreshold then s
    else
      let recent := match (s.agentSt agent).hotAt with
        | some t => s.tick < t + 64
        | none => false
      if s.xlt.warm || recent then s.bump blkXLT 0x0334
      else
        let s := s.setAgent agent fun a => { a with hotAt := some s.tick }
        let s := s.bump blkXLT 0x0330
        s.event (s.ownerFns agent) evHOT_PAGE (hotPayload agent region base psize write)

end Sys2Proof.Machine
end

