-- ==== Sys2Proof/Machine/Pool.lean ====
section
/-! DEFINITION. The pool's memory as regions see it: second copies (R33, R34), poisoned lines (R253, R254), free capacity and
the placement of bins (R27 to R38), and the copy-on-write pages (R47, R542). -/

namespace Sys2Proof.Machine

/-! ### Poisoned lines -/

/-- Lines of a list kept rising. -/
def State.setPoison (s : State) (line : Nat) : State :=
  if s.poisoned line then s else s.onMcx fun m => { m with poison := insertBy id line m.poison }

/-- Poison and wrong symbols cleared from every line that a range covers whole (R254). -/
def State.clearPoison (s : State) (pa n : Nat) : State :=
  let out := fun (l : Nat) => !(pa ≤ l * 64 && l * 64 + 64 ≤ pa + n)
  s.onMcx fun m => { m with poison := m.poison.filter out, errs := m.errs.filter fun e => out e.1 }

/-- Is some line that meets the range poisoned? -/
def State.poisonIn (s : State) (pa n : Nat) : Bool := s.mcx.poison.any fun l => overlaps (l * 64) 64 pa n

/-- The poison of a range copied to another one that it is copied to (R254). -/
def State.copyPoison (s : State) (src dst n : Nat) : State :=
  let ls := s.mcx.poison.filter fun l => overlaps (l * 64) 64 src n
  let s := s.clearPoison dst n
  ls.foldl (fun s l => s.setPoison ((dst + l * 64 - src) / 64)) s

/-! ### Second copies -/

/-- The second copy of a PA: in the paired bin, or for an overflow page at the same offset of stack (s + 4) mod 16. -/
def State.mirrorPa (_s : State) (g : Region) (pa : Nat) : Option Nat :=
  if !g.mirror then none
  else match g.binAt pa with
    | some b =>
      match firstIdx (fun (m : RBin) => m.mirrorOf == some b && !m.removed) g.bins with
      | some m => some ((g.bins.getD m {}).pa + (pa - (g.bins.getD b {}).pa))
      | none => none
    | none => if 0x17E4000000 ≤ offOf pa then some (SLOT * ((stackOf pa + 4) % 16) + offOf pa) else none

/-- The copies of a PA that lie on stacks still served, the first copy first. -/
def State.copies (s : State) (g : Region) (pa : Nat) : List Nat :=
  (pa :: (s.mirrorPa g pa).toList).filter fun a => !s.stackFailed (stackOf a)

/-- A line found uncorrectable: counted (Table 8.7). -/
def State.foundUe (s : State) (pa : Nat) : State := s.bump blkMCX (0x0540 + 4 * stackOf pa)

/-- A line corrected: counted and reported (R253, Table 15.3). -/
def State.foundCe (s : State) (k : Nat) : State := (s.bump blkMCX (0x0500 + 4 * k)).raise blkMCX (dieOfStack k) 0 k

/-- The symbol code's check of a line that is read (R252, R253): one wrong symbol is corrected and written back; three or more can
be taken for one, and the wrong data then stands; any other errors make the line uncorrectable. -/
def State.checkLine (s : State) (line : Nat) : State :=
  match Tbl.find s.mcx.errs line with
  | none => s
  | some (n, p) =>
    let s := s.onMcx fun m => { m with errs := Tbl.del m.errs line }
    if n == 1 then s.foundCe (stackOf (line * 64))
    else if 3 ≤ n && Config.threeCorrected p then
      (s.setMem (Memory.write s.mem (line * 64) ((List.range 64).map fun i => Memory.get s.mem (line * 64 + i) ^^^ Config.wrongBits p i))).foundCe
        (stackOf (line * 64))
    else s.setPoison line

/-- A line read: checked, and counted where it is uncorrectable. The flag is false where it gives no data. -/
def State.tryLine (s : State) (pa : Nat) : State × Bool :=
  if s.stackFailed (stackOf pa) then (s, false)
  else
    let s := s.checkLine (pa / 64)
    if s.poisoned (pa / 64) then (s.foundUe pa, false) else (s, true)

/-- A table entry read by a walk on a hub: from the second copy where the first gives none (R107, Table 15.3). -/
def State.readEntry (s : State) (h agent : Nat) (pas : Nat × Nat) : State :=
  match s.tryLine pas.1 with
  | (s, true) => s
  | (s, false) =>
    let x := s.tryLine pas.2
    x.1.raise blkXLT h (if x.2 then 1 else 2) agent

/-- The tables that a walk reads, down to the first of which no copy can be read. A translation in the hub's cache takes no walk. -/
def State.readTables (s : State) (h agent pva : Nat) : State :=
  let pva := pva % 2 ^ 52
  if agent == 0 || s.leafCached h agent pva then s
  else ((s.levelsRead h agent pva).foldl (fun (x : State × Bool) l =>
    if x.2 then x
    else
      let pas := x.1.entryPas l agent pva
      let s := x.1.readEntry h agent pas
      (s, s.dead pas.1 && s.dead pas.2)) (s, false)).1

/-- A prefetch walk ends. -/
def State.prefetchDone (s : State) (h agent pva : Nat) : State :=
  if (s.xhub h).walks.contains (agent, pva) then (s.readTables h agent pva).prefetchFill h agent pva else s

/-- The checks of every line with wrong symbols that meets a range. -/
def State.checkRange (s : State) (pa n : Nat) : State :=
  (s.mcx.errs.filter fun e => overlaps (e.1 * 64) 64 pa n).foldl (fun s e => s.checkLine e.1) s

/-- The copies of a line that a read looks at: the second one where the first is uncorrectable. -/
def State.checkCopies (s : State) (cs : List Nat) : State :=
  match cs with
  | [] => s
  | a :: r =>
    let s := s.checkLine (a / 64)
    if s.poisoned (a / 64) then r.foldl (fun s b => s.checkLine (b / 64)) s else s

/-- One line read (R253): its bytes from the first good copy; a bad copy is rewritten from the good one, and counted. None
when no copy is good. -/
def State.readLine (s : State) (g : Region) (pa : Nat) : State × Option (List Byte) :=
  let cs := s.copies g pa
  let s := s.checkCopies cs
  match cs.find? fun a => !s.poisoned (a / 64) with
  | some a =>
    let d := Memory.read s.mem a 64
    let bad := cs.takeWhile fun b => b != a
    (bad.foldl (fun s b =>
      let s := s.setMem (Memory.write s.mem b d)
      ((s.clearPoison b 64).foundUe b).bump blkRGN 0x0144) s, some d)
  | none =>
    (cs.foldl (fun s a => (s.foundUe a).raise blkMCX (dieOfStack (stackOf a)) 1 (stackOf a)) s, none)

/-- Where writes to a range are forwarded (R172): the parts of it that lie in pages being racked, as source, place in the new page
or its second copy, and length. -/
def State.forwards (s : State) (g : Region) (pa n : Nat) : List (Nat × Nat × Nat) :=
  match g.rack with
  | none => []
  | some r => r.copying.flatMap fun c =>
    (idxPa c.old :: (s.mirrorPa g (idxPa c.old)).toList).flatMap fun base =>
      let lo := max pa base; let hi := min (pa + n) (base + g.pageSize)
      if hi ≤ lo then [] else (c.new_ :: c.mir.toList).filterMap fun i =>
        if s.stackFailed (stackOf (idxPa i)) then none else some (lo, idxPa i + (lo - base), hi - lo)

/-- Where a write of a line of the region goes: every copy (R34), and the page it is being racked to (R172). -/
def State.stored (s : State) (g : Region) (pa : Nat) : List Nat :=
  s.copies g pa ++ (s.forwards g pa 64).map fun f => f.2.1

/-- Bytes written to every place of a line, where the mask has a one; a write of the whole line clears its poison. -/
def State.writeLine (s : State) (g : Region) (pa mask : Nat) (d : List Byte) : State :=
  (s.stored g pa).foldl (fun s a =>
    let s := s.setMem (Memory.writeMasked s.mem a mask d)
    if mask % 2 ^ 64 == 2 ^ 64 - 1 then s.clearPoison a 64 else s) s

/-! ### Free capacity (R28, R36, Table 2.16) -/

/-- Ranges of a stack taken by bins, in 2 MiB units, lowest first. -/
def State.takenOn (s : State) (k : Nat) : List (Nat × Nat) :=
  sortBy Prod.fst (s.rgn.regions.flatMap fun e =>
    (e.2.bins.filter fun b => !b.gone && stackOf b.pa == k).map fun b => (offOf b.pa / MIB2, b.units))

/-- The gaps between taken ranges below the end of region capacity. -/
def gaps : Nat → List (Nat × Nat) → List (Nat × Nat)
  | a, [] => if a < 48640 then [(a, 48640 - a)] else []
  | a, (b, n) :: r => if a < b then (a, b - a) :: gaps (b + n) r else gaps (max a (b + n)) r

/-- Free runs of a stack in 2 MiB units; none on a failed stack (R246). -/
def State.freeRuns (s : State) (k : Nat) : List (Nat × Nat) := if s.stackFailed k then [] else gaps 0 (s.takenOn k)

def State.freeUnits (s : State) (k : Nat) : Nat := (s.freeRuns k).foldl (fun n r => n + r.2) 0

def State.largestRun (s : State) (k : Nat) : Nat := (s.freeRuns k).foldl (fun n r => max n r.2) 0

/-- Whole aligned pages of `u` units in a run: the first one's start and their number. -/
def alignedRun (u : Nat) (r : Nat × Nat) : Nat × Nat :=
  let a := ceilDiv r.1 u * u
  (a, (r.1 + r.2 - a) / u)

/-- Longest aligned run of pages on a stack. -/
def State.largestPages (s : State) (k u : Nat) : Nat :=
  (s.freeRuns k).foldl (fun n r => max n (alignedRun u r).2) 0

/-- Aligned pages of the longest runs of a stack, of `n` in all if it has so many, by rising address: start and number (R30). -/
def State.longRuns (s : State) (k u n : Nat) : List (Nat × Nat) :=
  let rs := (((s.freeRuns k).map (alignedRun u)).filter fun r => r.2 != 0)
  let best := (sortBy (fun (r : Nat × Nat) => r.2) rs).reverse
  sortBy Prod.fst (best.foldl (fun (acc : List (Nat × Nat) × Nat) r =>
    if acc.2 = 0 then acc else (acc.1 ++ [(r.1, min r.2 acc.2)], acc.2 - min r.2 acc.2)) ([], n)).1

/-- Every start of `n` consecutive aligned free pages on a stack. -/
def State.starts (s : State) (k u n : Nat) : List Nat :=
  (s.freeRuns k).flatMap fun r =>
    let (a, m) := alignedRun u r
    if n ≤ m then (List.range (m - n + 1)).map fun i => a + i * u else []

/-- A start chosen by RGN among those possible (R30 leaves the choice to RGN). -/
def State.pickStart (s : State) (k u n : Nat) : Nat × State :=
  let c := s.starts k u n
  let (i, s) := s.draw
  (c.getD (Config.binChoice i % max 1 c.length) 0, s)

/-! ### Placement (R30, R31, R33) -/

/-- The stack list of Table 2.2. -/
def stackList (place mask die : Nat) : List Nat :=
  match place with
  | 0 => [0, 4, 8, 12, 1, 5, 9, 13, 2, 6, 10, 14, 3, 7, 11, 15]
  | 1 => maskBits 16 mask
  | _ => [4 * die, 4 * die + 1, 4 * die + 2, 4 * die + 3]

/-- The stack of the second copy of a page on stack k (R33). -/
def mirrorStack (place mirrorDie k : Nat) : Nat := if place = 2 then 4 * mirrorDie + k % 4 else (k + 4) % 16

def Region.stk (g : Region) : List Nat := stackList g.placeMode g.stackMask g.dieNo

/-- Runs for `n` pages of a stack (R30): one chosen by RGN where a free run holds them all, else the longest ones. -/
def State.pickRuns (s : State) (k u n : Nat) : List (Nat × Nat) × State :=
  if n ≤ s.largestPages k u then
    let (a, s) := s.pickStart k u n
    ([(a, n)], s)
  else (s.longRuns k u n, s)

/-- Two lists of runs cut into pairs of one length: both starts and the pages. -/
def zipRuns (u : Nat) : Nat → List (Nat × Nat) → List (Nat × Nat) → List (Nat × Nat × Nat)
  | fuel + 1, (a, n) :: as, (b, m) :: bs =>
    let k := min n m
    (a, b, k) :: zipRuns u fuel (if n = k then as else (a + k * u, n - k) :: as) (if m = k then bs else (b + k * u, m - k) :: bs)
  | _, _, _ => []

/-- Bins for `n` pages of one stack, appended to region `rid` in ascending address order (R30); for a mirrored region each bin is
paired with one of the same length on the second stack. Whether the stack (and its pair) had room for all. -/
def State.allocStack (s : State) (rid k : Nat) (second : Option Nat) (u first step n : Nat) (reserve : Bool) : State × Bool :=
  if n = 0 then (s, true)
  else
    let (as, s) := s.pickRuns k u n
    let bs := second.map fun j => s.pickRuns j u n
    let cuts : List (Nat × Nat × Nat) := match bs with
      | none => as.map fun r => (r.1, 0, r.2)
      | some b => zipRuns u 2048 as b.1
    let s := match bs with
      | none => s
      | some b => b.2
    let total := cuts.foldl (fun m c => m + c.2.2) 0
    let s := (cuts.foldl (fun (acc : State × Nat) c =>
      let s := acc.1.setRegion rid fun g =>
        { g with bins := g.bins ++ [({ pa := SLOT * k + MIB2 * c.1, units := c.2.2 * u, first := acc.2, step := step, reserve := reserve,
                                       hash := g.hash } : RBin)] }
      let s := match second with
        | none => s
        | some j => s.setRegion rid fun g =>
          { g with bins := g.bins ++ [({ pa := SLOT * j + MIB2 * c.2.1, units := c.2.2 * u, first := acc.2, step := step, reserve := reserve,
                                         hash := g.hash, mirrorOf := some (g.bins.length - 1) } : RBin)] }
      (s, acc.2 + c.2.2 * step)) (s, first)).1
    (s, total == n)

/-- Bins for `n` pages numbered from `p0` over the region's stack list (Table 2.2), and whether every stack had room. -/
def State.allocPages (s : State) (rid p0 n : Nat) (reserve : Bool) : State × Bool :=
  let g := s.region rid
  let ks := g.stk
  let N := ks.length
  let u := pageUnits g.psz
  (List.range N).foldl (fun (acc : State × Bool) i =>
    -- pages p in [p0, p0 + n) with p mod N = i
    let f := p0 + (i + N - p0 % N) % N
    let c := if f < p0 + n then (p0 + n - f + N - 1) / N else 0
    let k := ks.getD i 0
    let (s, ok) := acc.1.allocStack rid k (if g.mirror then some (mirrorStack g.placeMode g.mirrorDie k) else none) u f N c reserve
    (s, acc.2 && ok)) (s, true)

/-- Bins of a region that hold memory: those that the limit of R29 counts. -/
def Region.heldBins (g : Region) : Nat := (g.bins.filter fun b => !b.gone).length

/-- Bins that hold memory, in the whole part (R29). -/
def State.binCount (s : State) : Nat :=
  s.rgn.regions.foldl (fun n e => n + (e.2.bins.filter fun b => !b.gone).length) 0

/-- Bins of a region that count against the quota: while a RACK runs, its new ones do not (R170). -/
def Region.quotaBins (g : Region) : List RBin :=
  let skip := match g.rack with
    | some k => k.newBins
    | none => []
  (g.bins.mapIdx fun i b => (i, b)).filterMap fun x => if x.2.gone || skip.contains x.1 then none else some x.2

/-- Units that a tenant uses against its quota (R37): bins of every kind, and overflow pages in use. -/
def State.tenantUse (s : State) (t : Nat) : Nat :=
  s.rgn.regions.foldl (fun n e =>
    if e.2.owner == t && e.2.state != .free then
      n + e.2.quotaBins.foldl (fun m b => m + b.units) 0 +
        (s.rgn.ovf.filter fun o => o.2 == e.1 + 1).length
    else n) 0

/-- Quota of a tenant in 2 MiB units; that of tenant 0 is all region capacity. -/
def State.quotaOf (s : State) (t : Nat) : Nat := if t == 0 then 0xBE000 else (s.tenant t).quota

def State.freeTotal (s : State) : Nat := (List.range 16).foldl (fun n k => n + s.freeUnits k) 0

/-- The outcome of an allocation of `data` and `reserve` units for region `rid`, whose attributes stand in the table
already: the state with the bins, or the QUOTA detail of Table 2.4 (R38). `reserveFirst` numbers reserve pages from 0. -/
def State.allocate (s : State) (rid data reserve : Nat) : State ⊕ Nat :=
  let g := s.region rid
  let u := pageUnits g.psz
  let need := (data + reserve) * (if g.mirror then 2 else 1)
  let beyond := s.quotaOf g.owner < s.tenantUse g.owner + need
  if beyond then .inr 1
  else if s.freeTotal < need then .inr 2
  else
    let (s, ok) := s.allocPages rid g.nextPage (data / u) false
    let (s, ok') := s.allocPages rid 0 (reserve / u) true
    if 1024 < (s.region rid).heldBins || 65536 < s.binCount then .inr 4
    else if !(ok && ok') then .inr 5
    else .inl (s.setRegion rid fun g => { g with nextPage := g.nextPage + data / u })

/-! ### Directory indices of a region -/

/-- Directory indices of the pages of a bin. -/
def Region.binIdx (g : Region) (b : RBin) : List Nat :=
  (List.range (g.binPages b)).filterMap fun j => paIdx (b.pa + j * g.pageSize)

/-- Directory indices of the home frames of a region's pages that still exist. -/
def Region.homes (g : Region) : List Nat :=
  (g.bins.filter fun b => !b.reserve && b.mirrorOf.isNone && !b.removed && b.ready).flatMap g.binIdx

/-- The published image of the page whose home is `h`. -/
def Region.pubIdx (g : Region) (h : Nat) : Nat := Tbl.getD g.cur h h

/-- The region page whose home frame has index `h`. -/
def Region.pageOfHome (g : Region) (h : Nat) : Nat :=
  match g.locate (idxPa h) with
  | some (_, _, p) => p
  | none => 0

/-- The home index of the page an index belongs to: itself, or the home whose published image or draft it is. -/
def State.homeOf (s : State) (g : Region) (i : Nat) : Nat :=
  let p := if (s.entry i).view == 3 then (s.entry i).link.getD i else i
  match g.cur.find? fun e => e.2 == p with
  | some e => e.1
  | none => p

/-- The page number that messages about index `i` carry (R71). -/
def State.pageNo (s : State) (i : Nat) : Nat :=
  let g := s.region (s.entry i).region
  g.pageOfHome (s.homeOf g i)

/-- New index of a page's old one, once the RACK has switched it. -/
def Rack.place (r : Rack) (h : Nat) : Nat := match r.done.find? fun c => c.old == h with | some c => c.new_ | none => h

/-- The index that a page of a region has now: its new one where a RACK has switched it (R173). -/
def State.racked (s : State) (rid home : Nat) : Nat :=
  match (s.region rid).rack with
  | some r => if r.rewritten then home else r.place home
  | none => home

/-- The directory index that an access is decided on (R105): the draft copy for a draft-view access to a copied page, else
the published image. -/
def State.decideIdx (s : State) (region home : Nat) (draft : Bool) : Nat :=
  let p := (s.region region).pubIdx home
  let e := s.entry p
  if draft && e.view == 2 then e.link.getD p else p

/-! ### Copy-on-write pages (R47, R542) -/

/-- Indices of the region's reserve that are free: pages of its bins whose entry is FREE (R47, step 6 of Table 2.9). While it is
racked, a page that has switched lies in its new bin (R173). -/
def State.freeReserve (s : State) (g : Region) : List Nat :=
  let here := (g.bins.filter fun b => b.mirrorOf.isNone && !b.removed && b.ready && !b.lost).flatMap g.binIdx
  let now : List Nat := match g.rack with
    | some r => if r.rewritten then here else here.map fun i => r.place i
    | none => here
  now.filter fun i =>
    (s.entry i).state == .free && !(match g.pub with | some p => p.olds.contains i | none => false)

def State.ovfFree (s : State) (k : Nat) : Bool := (Tbl.find s.rgn.ovf k).isNone && !s.stackFailed (k % 16)

/-- The overflow pages that copy number `k0` of a page of `u` units takes, with its pair for a mirrored region. -/
def ovfSet (u k0 : Nat) (mirror : Bool) : List Nat :=
  let one (k : Nat) : List Nat := (List.range u).map fun i => k + 16 * i
  if mirror then one k0 ++ one (k0 / 16 * 16 + (k0 + 4) % 16) else one k0

/-- The first overflow page of the copy, by R542: the lowest free page, group or pair. -/
def State.pickOvf (s : State) (u : Nat) (mirror : Bool) : Option Nat :=
  (List.range 3072).find? fun k => (u == 1 || k / 16 % 16 == 0) && (ovfSet u k mirror).all fun j => s.ovfFree j

/-- A page taken for a draft copy of region `rid`: its index and the state, or the QUOTA detail (R37, R47). -/
def State.takeCow (s : State) (rid : Nat) : (Nat × State) ⊕ Nat :=
  let g := s.region rid
  match s.freeReserve g with
  | c :: cs =>
    let (n, s) := s.draw
    .inl ((c :: cs).getD (Config.binChoice n % (cs.length + 1)) c, s)
  | [] =>
    let u := pageUnits g.psz
    if s.quotaOf g.owner < s.tenantUse g.owner + (if g.mirror then 2 * u else u) then .inr 1
    else match s.pickOvf u g.mirror with
    | none => .inr 6
    | some k =>
      let ks := ovfSet u k g.mirror
      .inl (OVF0 + k, s.onRgn fun r => { r with ovf := ks.foldl (fun t j => Tbl.put t j (rid + 1)) r.ovf })

/-- A page of index `i` given back: an overflow page leaves the overflow, any other rejoins the reserve by being FREE. -/
def State.giveBack (s : State) (rid i : Nat) : State :=
  let g := s.region rid
  let s := s.setEntry i fun e => { gen := e.gen }
  if OVF0 ≤ i then
    s.onRgn fun r => { r with ovf := (ovfSet (pageUnits g.psz) (i - OVF0) g.mirror).foldl Tbl.del r.ovf }
  else s

end Sys2Proof.Machine
end

