-- ==== Sys2Proof/Machine/Mec.lean ====
section
/-! DEFINITION. MEC's tags (R409) and new keys: the slot and generation of each page's owner that a request or measure carries, when a generation is
live, and the lines dropped under one that is not. -/

namespace Sys2Proof.Machine

/-- Does a tenant exist (R546): tenant 0 always, any other while its slot is ACTIVE or ROTATING? -/
def State.tenantExists (s : State) (t : Nat) : Bool :=
  t == 0 || (s.tenant t).state == .active || (s.tenant t).state == .rotating

/-- A new key of SEC's random bit generator. -/
def State.drawKey (s : State) : XtsKey × State :=
  let (c, s) := s.draw
  ({ data := (Config.newKey c).1, tweak := (Config.newKey c).2 }, s)

/-- The tag of a page of a region: its owner's slot and that slot's generation. -/
def State.tagOf (s : State) (rid : Nat) : Nat × Nat := let o := (s.region rid).owner; (o, (s.tenant o).gen)

/-- Is a generation live (R409): the slot's current one, or the one before it for 4 ticks; none in ZEROIZED and EMPTY? -/
def State.genLive (s : State) (tag : Nat × Nat) : Bool :=
  let t := s.tenant tag.1
  t.state != .empty && t.state != .zeroized &&
    (tag.2 == t.gen || ((tag.2 + 1) % 256 == t.gen && Nat.blt s.tick (t.genAt + 4)))

/-- Lines dropped at MEC, neither read nor written: counted on their die, and reported (R409, Table 15.3). -/
def State.retire (s : State) (slot : Nat) (runs : List (Nat × Nat)) : State :=
  runs.foldl (fun s r =>
    let d := dieOfStack (stackOf r.1)
    (s.bump blkMEC (0x0500 + 4 * d) ((r.1 + r.2 - 1) / 64 + 1 - r.1 / 64)).raise blkMEC d 0 slot) s

end Sys2Proof.Machine
end

