-- ==== Sys2Proof/Machine/Bank.lean ====
section
/-! DEFINITION. Where a line lies in its stack (R234 to R236), and the bank queues, hold lists and bridge in which direct requests
wait (R240). -/

namespace Sys2Proof.Machine

/-- The masks of Table 8.4: hash set by hash set, MASK_0 to MASK_5 (R236). -/
def hashMasks : List (List Nat) :=
  [[0x0000, 0x0000, 0x0000, 0x0000, 0x0000, 0x0000], [0x0001, 0x0002, 0x0004, 0x0008, 0x0010, 0x0020],
   [0x0041, 0x0082, 0x0104, 0x0208, 0x0410, 0x0820], [0x1040, 0x2080, 0x4100, 0x0200, 0x0400, 0x0800],
   [0x0008, 0x0010, 0x0020, 0x0001, 0x0002, 0x0004], [0x1081, 0x2102, 0x4204, 0x1408, 0x2810, 0x4060],
   [0x0043, 0x0086, 0x010C, 0x0218, 0x0430, 0x0821], [0x0801, 0x0402, 0x0204, 0x0108, 0x0090, 0x0060]]

/-- Pseudo-channel of an offset (Table 8.3): the line group folded with OFFSET[27:22]. -/
def pcOf (off : Nat) : Nat := (off / 64 % 64) ^^^ (off / 2 ^ 22 % 64)

/-- Line within the row, and row, of an offset in its stack (Table 8.3). -/
def colOf (off : Nat) : Nat := off / 2 ^ 12 % 16
def rowOf (off : Nat) : Nat := off / 2 ^ 22 % 2 ^ 15

/-- The bank number of an offset under a hash set (R235): bank bits 1:0, bank group bits 3:2, stack ID bits 5:4. -/
def bankOf (set off : Nat) : Nat :=
  let masks := hashMasks.getD set []
  (List.range 6).foldl
    (fun acc k => acc + 2 ^ k * (b2n (bit (off / 2 ^ 16) k) ^^^ (popcount 15 (maskAnd (rowOf off) (masks.getD k 0)) % 2))) 0

def State.setStack (s : State) (k : Nat) (f : Stack → Stack) : State :=
  s.onMcx fun m => { m with stk := Tbl.modD m.stk k {} f }

/-! ### Bank queues, hold lists and the bridge (R240) -/

/-- Do two requests wait for one bank? -/
def BankReq.sameBank (a b : BankReq) : Bool := a.pc == b.pc && a.bank == b.bank

/-- A direct request that reaches its stack: into its bank queue while the queue and the region's share of it have room, else into
the hold list of the pseudo-channel, else it stays at the cellar bridge, behind its region's earlier ones (R240). -/
def Stack.enter (x : Stack) (e : BankReq) : Stack :=
  let bank := x.bankQ.filter e.sameBank
  let hold := x.holdQ.filter fun b => b.pc == e.pc
  if x.bridgeQ.any fun b => b.pc == e.pc && b.region == e.region then { x with bridgeQ := x.bridgeQ ++ [e] }
  else if bank.length < 16 && (bank.filter fun b => b.region == e.region).length < 8 then { x with bankQ := x.bankQ ++ [e] }
  else if hold.length < 64 && (hold.filter fun b => b.region == e.region).length < 16 then { x with holdQ := x.holdQ ++ [e] }
  else { x with bridgeQ := x.bridgeQ ++ [e] }

/-- The bank queues after a tick in which the entries not named were served: those left, then the hold list and the bridge in
their order. -/
def Stack.drain (x : Stack) (stays : Nat → Bool) : Stack :=
  let left := ((x.bankQ.mapIdx fun i b => (i, b)).filter fun p => stays p.1).map Prod.snd
  (x.holdQ ++ x.bridgeQ).foldl Stack.enter { x with bankQ := left, holdQ := [], bridgeQ := [] }

/-- Is nothing waiting in the stack's queues for direct requests? -/
def Stack.quiet (x : Stack) : Bool := x.bankQ.isEmpty && x.holdQ.isEmpty && x.bridgeQ.isEmpty

/-- Entries of the bank queue that a request waits in. -/
def Stack.depth (x : Stack) (e : BankReq) : Nat := (x.bankQ.filter e.sameBank).length

/-- The largest bank-queue occupancy P (R256). -/
def Stack.fullest (x : Stack) : Nat := x.bankQ.foldl (fun n e => max n (x.depth e)) 0

/-- The region with the most entries in the fullest bank queue (R257); of several, and of several fullest queues, the lowest. -/
def Stack.topRegion (x : Stack) : Option Nat :=
  let p := x.fullest
  let cands := (x.bankQ.filter fun e => x.depth e == p).map fun e =>
    ((x.bankQ.filter fun b => b.sameBank e && b.region == e.region).length, e.region)
  let most := cands.foldl (fun n c => max n c.1) 0
  argMin id ((cands.filter fun c => c.1 == most).map Prod.snd)

/-- The hash set of the bin that holds a PA: that of its own placement (R258), else the region's. -/
def Region.hashAt (g : Region) (pa : Nat) : Nat := ((g.bins.find? fun b => !b.gone && b.pa ≤ pa && pa < b.pa + MIB2 * b.units).map fun b => b.hash).getD g.hash

/-- A direct request to a line reaches the controllers of the stacks that serve it: every place it is written to, the first served copy for a read. -/
def State.toBanks (s : State) (rid pa : Nat) (write : Bool) : State :=
  let g := s.region rid
  (if write then s.stored g pa else (s.copies g pa).take 1).foldl (fun s a =>
    s.setStack (stackOf a) fun x => x.enter { pc := pcOf (offOf a), bank := bankOf (g.hashAt a) (offOf a), region := rid }) s

end Sys2Proof.Machine
end

