-- ==== Sys2Proof/Machine/Work.lean ====
section
/-! DEFINITION. Internal bulk work (R135): acts are started, cut into measures of at most 128 KiB held back by Lutik (R147),
and ended. Also the reads of an agent's copy for a write-back (R277, R329). -/

namespace Sys2Proof.Machine

/-- A measure's largest data, 128 KiB (R22). -/
abbrev MEASURE : Nat := 131072

/-- Internal work started. -/
def State.addAct (s : State) (a : Act) : State := s.onEng fun e => { e with acts := e.acts ++ [a] }

def State.act? (s : State) (w : Work) : Option Act := s.eng.acts.find? fun a => a.work == w

def State.setAct (s : State) (w : Work) (f : Act → Act) : State :=
  s.onEng fun e => { e with acts := e.acts.map fun a => if a.work == w then f a else a }

/-- Internal work ended: its act, and its measures that no engine has taken. A running measure completes (R23). -/
def State.dropAct (s : State) (w : Work) : State :=
  s.onEng fun e =>
    { e with acts := e.acts.filter fun a => a.work != w
             units := Tbl.mapKV e.units fun _ u => { u with queue := u.queue.filter fun m => m.work != w } }

/-- Is every measure of the work complete? -/
def State.actDone (s : State) (w : Work) : Bool :=
  match s.act? w with
  | some a => a.segs.isEmpty && a.cut == 0
  | none => false

/-- Segments that zero the memory of bins, on every stack that is still served. -/
def zeroBins (s : State) (bs : List RBin) : List Seg :=
  (bs.filter fun b => !s.stackFailed (stackOf b.pa)).map fun b =>
    { kind := .zero, dst := [(.raw, b.pa)], len := MIB2 * b.units }

/-! ### Reading an agent's copy (R276, R277, R329) -/

/-- Outstanding bytes that the part asks for at once: 16 reads of 4096 B through a host function, one measure's scratch on a
Trellis port (R277). -/
def wbWindow (via : Via) : Nat := match via with | .slot _ => 65536 | _ => MEASURE

/-- The next read of a write-back sent to its agent: a host read of up to 4096 B, or an MRD of up to 16 flits. -/
def State.wbAsk (s : State) (i : Nat) (w : WriteBack) (n : Nat) : State :=
  match w.q.via with
  | .slot fn =>
    let tag := s.pci.nextTag
    let s := s.onPci fun p =>
      { p with reads := p.reads ++ [{ tag := tag, fn := fn, why := .page i w.sent, len := n, at_ := s.tick }], nextTag := tag + 1 }
    s.hostTlp 1 0 (.read fn ((w.q.r.dest + w.sent) % 2 ^ 64) n tag)
  | .trellis p _ =>
    let tag := s.tlk.nextMrd % 65536
    let s := s.onTlk fun t => { t with mrds := t.mrds ++ [(p, tag, i, w.sent, n / 64)], nextMrd := (tag + 1) % 65536 }
    s.sendPkt p { agt := w.q.agent, tid := tag, body := .mrd ((w.q.r.dest + w.sent) % 2 ^ 64) (n / 64), cls := 1, vc := 0, flits := 1 }
  | _ => s

/-- Reads sent until the window is full or the whole page has been asked for. -/
def State.wbPump (s : State) (i : Nat) : Nat → State
  | 0 => s
  | fuel + 1 =>
    match (s.entry i).wb with
    | none => s
    | some w =>
      let rcv := w.recv.foldl (fun n r => n + r.2) 0
      let n := min (match w.q.via with | .slot _ => 4096 | .trellis p _ => s.packetData p | _ => 1024) (w.total - w.sent)
      if n = 0 ∨ wbWindow w.q.via < w.sent + n - rcv then s
      else
        let s := s.wbAsk i w n
        (s.setEntry i fun e => { e with wb := some { w with sent := w.sent + n } }).wbPump i fuel

/-- Bytes received without a gap from the page's start. -/
def contiguous (rs : List (Nat × Nat)) : Nat :=
  (sortBy Prod.fst rs).foldl (fun n r => if r.1 ≤ n then max n (r.1 + r.2) else n) 0

/-- Measures queued for every 128 KiB of the page that has been received whole (R134 stages a measure in scratch). -/
def State.wbCut (s : State) (i : Nat) : Nat → State
  | 0 => s
  | fuel + 1 =>
    match (s.entry i).wb with
    | none => s
    | some w =>
      let n := min MEASURE (w.total - w.cut)
      if n = 0 ∨ contiguous w.recv < w.cut + n then s
      else
        let s := s.setAct (.writeBack i) fun a =>
          { a with segs := a.segs ++ [{ kind := .fromAgent, dst := [(.idx (s.entry i).region i, w.cut)], len := n, pos := w.cut }] }
        (s.setEntry i fun e => { e with wb := some { w with cut := w.cut + n } }).wbCut i fuel

/-- A write-back starts (R79, R87): WB is set, and the first reads of the agent's copy are sent. -/
def State.wbStart (s : State) (i : Nat) (q : PReq) (keep : Bool) : State :=
  let n := (s.region (s.entry i).region).pageSize
  let s := s.setEntry i fun e => { e with wb := some { q := q, keep := keep, total := n } }
  let s := s.addAct { work := .writeBack i, cls := .swap, agent := q.agent }
  s.wbPump i 64

/-- The reads of a write-back forgotten: later data for them is not awaited. -/
def State.dropReads (s : State) (i : Nat) : State :=
  let s := s.onPci fun p => { p with reads := p.reads.filter fun r => match r.why with | .page j _ => j != i | _ => true }
  s.onTlk fun t => { t with mrds := t.mrds.filter fun r => r.2.2.1 != i }

end Sys2Proof.Machine
end

