-- ==== Sys2Proof/Machine/Meter.lean ====
section
/-! DEFINITION. MTR: the two-rate three-colour meter of each agent (R345 to R353). -/

namespace Sys2Proof.Machine

/-- Colours of R348. -/
inductive Colour where | green | yellow | red
  deriving DecidableEq, Repr, Inhabited

def State.meter (s : State) (agent : Nat) : Meter := Tbl.getD s.mtr agent {}

def State.setMeter (s : State) (agent : Nat) (f : Meter → Meter) : State :=
  s.onMtr fun t => Tbl.modD t agent {} f

/-- The colour of a charge `b` (R348); a meter in BYPASS colours everything green (R353). -/
def Meter.colour (m : Meter) (b : Nat) : Colour :=
  if !m.active then .green else if m.tp < b then .red else if m.tc < b then .yellow else .green

/-- The buckets after a charge of that colour is admitted or taken (R348). -/
def Meter.spend (m : Meter) (b : Nat) (c : Colour) : Meter :=
  if !m.active then m
  else match c with
    | .red => m
    | .yellow => { m with tp := m.tp - b }
    | .green => { m with tp := m.tp - b, tc := m.tc - b }

/-- The buckets emptied, configuration kept (Table 12.3). -/
def Meter.empty (m : Meter) : Meter := { m with tc := 0, tp := 0 }

/-- One boundary's credit (R347). -/
def Meter.credit (m : Meter) : Meter :=
  if m.active then { m with tc := min m.cbs (m.tc + m.cir), tp := min m.pbs (m.tp + m.pir) } else m

/-- A charge spent by an agent, and counted (Table 12.9); agent 0 has no meter. -/
def State.spend (s : State) (agent b : Nat) (c : Colour) : State :=
  if agent = 0 then s
  else
    let s := s.setMeter agent fun m => m.spend b c
    match c with
    | .green => s.bump blkMTR (0x1000 + 4 * agent) b
    | .yellow => s.bump blkMTR (0x1200 + 4 * agent) b
    | .red => s.bump blkMTR (0x1400 + 4 * agent) 1

end Sys2Proof.Machine
end

