-- ==== Sys2Proof/Machine/Dir.lean ====
section
/-! DEFINITION. DIR: the decision of one request on one page (Table 3.7), parking (R76, R77), recalls and invalidations with
their deadline (R78 to R81), write-backs (R87, R90), copy-on-write copies (R47) and the idempotency records (R91). -/

namespace Sys2Proof.Machine

/-! ### Small facts of an entry -/

/-- Ticks from a recall to its deadline; values below 16 act as 16 (Table 3.10). -/
def State.recallTicks (s : State) : Nat := max 16 (bits s.dir.ctrl.toNat 15 0)

/-- Does the agent hold the page: HELD, or being recalled (Table 3.2)? -/
def DirEntry.holds (e : DirEntry) (agent : Nat) : Bool :=
  e.holder == agent && (e.state == .held || (e.state == .recalling && e.prior))

/-- Requests parked in all (Table 3.11). -/
def State.parkedCount (s : State) : Nat := s.dir.entries.foldl (fun n e => n + e.2.parked.length) 0

/-- The vintage a grant carries (R70). -/
def Region.grantVintage (g : Region) : Nat := if g.versioned then g.vintage else 0

/-- GEN one higher, 24 bits wide (R68). -/
def DirEntry.genUp (e : DirEntry) : DirEntry := { e with gen := (e.gen + 1) % 2 ^ 24 }

/-- The page returned to HOME with no grant. -/
def DirEntry.toHome (e : DirEntry) : DirEntry :=
  { e with state := .home, holder := 0, sharers := [], pending := [], prior := false, met := false, deadline := none,
           access := e.access }

/-- The page given HELD to an agent (Table 3.7): GEN + 1, and the access counter is set to zero (R128). -/
def DirEntry.toHeld (e : DirEntry) (agent : Nat) : DirEntry :=
  { e.genUp with state := .held, holder := agent, sharers := [], pending := [], prior := false, met := false,
                 deadline := none, access := 0 }

/-- A message about a page (Table 3.6). -/
def State.dirMsg (s : State) (i agent msg gen left : Nat) (cause : Nat) : State :=
  s.message agent { msg := msg, gen := gen, left := left, cause := cause, region := (s.entry i).region, page := s.pageNo i }

/-- GRANT_ENDED (R71). -/
def State.grantEnded (s : State) (i agent gen : Nat) (cause : Status) : State := s.dirMsg i agent 2 gen 0 cause.code

/-! ### Outcomes of a request -/

/-- Does the request carry a TXID that may be recorded (R91, R96)? -/
def PReq.hasTxid (q : PReq) : Bool := match q.via with | .trellis _ _ => true | .slot _ => true | _ => false

/-- Is this outcome recorded (R91)? -/
def PReq.recorded (q : PReq) (st : Status) (detail : Nat) : Bool :=
  q.hasTxid && (q.code == .store || q.code == .atomic || q.code == .swapOut) &&
  !(st == .busy || st == .linkLost || st == .failoverRetry || (st == .quota && detail == 10))

/-- A measure back at the front of its engine's queue (R148). -/
def State.requeue (s : State) (n : Nat) (m : Meas) : State := s.setUnit n fun u => { u with queue := m :: u.queue }

/-- An idempotency record kept, newest first, at most 4096 of an agent (R91). -/
def State.putRec (s : State) (q : PReq) (page : Option Nat) (r : Resp) : State :=
  s.setAgent q.agent fun a =>
    { a with recs := ({ txid := q.r.txid, code := q.code.code, page := page.map (s.racked q.region), status := r.status, detail := r.detail,
                        result := r.old, at_ := a.upTicks } :: a.recs.filter fun x => x.txid != q.r.txid).take 4096 }

/-- The request ends with a response. An engine measure returns to its queue instead, where it is decided again. `change`
says that the response reports a change (R16); a recorded result always does (R91). -/
def State.finish (s : State) (q : PReq) (page : Option Nat) (change : Bool) (stack : Option Nat) (r : Resp) : State :=
  match q.meas with
  | some (n, m) => s.requeue n m
  | none =>
    let r := { r with txid := q.r.txid, code := q.code }
    if q.recorded r.status r.detail then (s.putRec q page r).respondHeld q stack r
    else if change then s.respondHeld q stack r
    else s.respondNow q stack r

/-- The request is refused. -/
def State.refuse (s : State) (q : PReq) (st : Status) (detail : Nat := 0) : State :=
  s.finish q (some q.home) false none { status := st, detail := detail }

/-! ### Direct accesses (R82 to R86) -/

/-- PA of the line that a request addresses in the memory of index `i`. -/
def State.linePa (s : State) (i : Nat) (q : PReq) : Nat :=
  (idxPa i + q.r.pva % (s.region q.region).pageSize) / 64 * 64

/-- INTERNAL for a line with no good copy (R254). -/
def poisonDetail : Nat := 0x000B01

/-- An entry of a cellar die's log (R444), kept for 4 ticks. -/
def State.logDie (s : State) (q : PReq) (i : Nat) (r : Resp) : State :=
  s.onMir fun m => { m with logs := {
    tick := s.tick, agent := q.agent, q := q,
    record := { txid := q.r.txid, code := q.code.code, page := some (s.racked q.region q.home), status := r.status, result := r.old } } :: m.logs }

/-- Is the request's generation no longer live when it reaches MEC (R409)? -/
def State.retired (s : State) (q : PReq) : Bool := match q.tag with | some t => !s.genLive t | none => false

/-- Its line dropped there: KEY_RETIRED for an agent of a tenant that still exists, no response otherwise (R409). -/
def State.retireReq (s : State) (i : Nat) (q : PReq) : State :=
  let s := s.retire ((q.tag.map Prod.fst).getD 0) [(s.linePa i q, 64)]
  if s.tenantExists (s.tenantOf q.agent) then s.refuse q .keyRetired else s

def State.doLoad (s : State) (i : Nat) (q : PReq) : State :=
  let pa := s.linePa i q
  let s := s.toBanks q.region pa false
  match s.readLine (s.region q.region) pa with
  | (s, some d) => s.finish q (some q.home) false (some (stackOf pa)) { data := d }
  | (s, none) => s.refuse q .internal poisonDetail

def State.doStore (s : State) (i : Nat) (q : PReq) : State :=
  let pa := s.linePa i q
  let g := s.region q.region
  let full := q.r.mask % 2 ^ 64 == 2 ^ 64 - 1
  let s := s.toBanks q.region pa true
  match (if full then (s, some []) else s.readLine g pa) with
  | (s, none) => s.refuse q .internal poisonDetail
  | (s, some _) =>
    let s := (s.writeLine g pa q.r.mask q.r.data).logDie q i {}
    s.finish q (some q.home) true (some (stackOf pa)) {}

def State.doAtomic (s : State) (i : Nat) (q : PReq) : State :=
  let pa := s.linePa i q
  let g := s.region q.region
  let w := if q.r.wide then 16 else 8
  let o := q.r.pva % 64
  let s := s.toBanks q.region pa true
  match s.readLine g pa with
  | (s, none) => s.refuse q .internal poisonDetail
  | (s, some d) =>
    let old := (d.drop o).take w
    let new := atomOp q.r.atop old q.r.operands
    let s := s.writeLine g pa ((2 ^ w - 1) * 2 ^ o) (List.replicate o 0 ++ new)
    let s := s.logDie q i { old := old }
    s.finish q (some q.home) true (some (stackOf pa)) { old := old }

/-- A direct access performed on index `i`, unless MEC drops it. -/
def State.perform (s : State) (i : Nat) (q : PReq) : State :=
  match q.meas with
  | some (n, m) => s.requeue n m
  | none =>
    if s.retired q then s.retireReq i q
    else match q.code with
      | .load => s.doLoad i q
      | .store => s.doStore i q
      | _ => s.doAtomic i q

/-! ### Grants -/

/-- Data of a granted swap-in owed to the agent, in SWAP measures from index `src`; none sends zeros (SCRUB_PENDING). -/
def State.oweData (s : State) (q : PReq) (i : Nat) (zeros : Bool) : State :=
  let id := s.dir.nextTransfer
  let s := s.onDir fun d => { d with transfers := Tbl.put d.transfers id (q, i), nextTransfer := id + 1 }
  s.addAct { work := .swapIn id, cls := .swap, agent := q.agent,
             segs := [{ kind := .toAgent, src := if zeros then [] else [(.idx q.region i, 0)],
                        len := (s.region q.region).pageSize }] }

/-- A grant answered: GEN and vintage under R70, under R16, and the page's data after it. -/
def State.grant (s : State) (i : Nat) (q : PReq) : State :=
  let s := s.finish q (some q.home) true (some (stackOf (idxPa i)))
    { gen := (s.entry i).gen, vintage := (s.region q.region).grantVintage }
  if q.meas.isSome then s else s.oweData q i false

/-! ### Parking, recalls and invalidations -/

/-- What a waiting request starts (Table 3.7). -/
inductive WStart where
  | none
  | recall
  | inval (clearOwn : Bool)
  deriving DecidableEq, Repr, Inhabited

/-- What the holder sent before a recall is no answer to it (R79): its running write-back, and its requests that wait behind it. -/
def DirEntry.beforeRecall (e : DirEntry) : DirEntry :=
  { e with wb := e.wb.map fun w => { w with early := true }
           parked := e.parked.map fun q => if q.agent == e.holder then { q with early := true } else q }

/-- A recall of the page's holder. It is sent at the boundary that closes the tick in progress (R72), and its deadline counts from
there (R78). -/
def State.startRecall (s : State) (i : Nat) : State :=
  let rt := s.recallTicks
  let e := s.entry i
  let s := (s.setEntry i fun e => { e.beforeRecall with
    state := .recalling, prior := true, met := false,
    deadline := some (s.tick + 1 + rt), deadField := (s.tick + 1 + rt) % 65536 }).change
  (s.dirMsg i e.holder 0 e.gen rt 0).bump blkDIR 0x0300

/-- Invalidations of the sharers other than `agent` (R71, R78); with `clearOwn`, the agent's own entry goes as well. -/
def State.startInval (s : State) (i agent : Nat) (clearOwn : Bool) : State :=
  let rt := s.recallTicks
  let e := s.entry i
  let pend := sortBy id (e.sharers.filter fun a => a != agent)
  let s := (s.setEntry i fun e => { e with
    state := .recalling, prior := false, met := false, pending := pend,
    sharers := if clearOwn then pend else e.sharers, invGen := e.gen,
    deadline := some (s.tick + 1 + rt), deadField := (s.tick + 1 + rt) % 65536 }).change
  pend.foldl (fun s a => (s.dirMsg i a 1 e.gen rt 0).bump blkDIR 0x0300) s

def State.start (s : State) (i : Nat) (q : PReq) (w : WStart) : State :=
  match w with
  | .none => s
  | .recall => s.startRecall i
  | .inval own => s.startInval i q.agent own

/-- Is there room to park one more request on the page (R76)? -/
def State.parkRoom (s : State) (i : Nat) : Bool := s.parkedCount < 16384 && (s.entry i).parked.length < 64

/-- A request added to the page's queue, in order of arrival. -/
def State.park (s : State) (i : Nat) (q : PReq) : State :=
  let s := (s.setEntry i fun e => { e with parked := e.parked ++ [q] }).change
  s.onDir fun d => { d with peak := max d.peak (satAt 16384 s.parkedCount) }

/-- A recalled holder's RELEASE that waits behind a write-back has met the recall at its admission (R79). -/
def State.meet (s : State) (i : Nat) (q : PReq) : State :=
  let e := s.entry i
  if e.holds q.agent && e.state == .recalling && q.code == .release then s.setEntry i fun e => { e with met := true } else s

/-- A request that must wait (R74, R76, R97): refused with HELD_ELSEWHERE under NOWAIT, ended when its agent's link is down,
refused with BUSY at a limit, else parked with what it starts. -/
def State.waitFor (s : State) (i : Nat) (q : PReq) (w : WStart) : State :=
  if bit q.r.flags 0 then s.refuse q .heldElsewhere
  else if q.meas.isNone && !(s.agentSt q.agent).up then s
  else if !s.parkRoom i then (s.raise blkDIR s.mir.primary 2 (i % 65536)).refuse q .busy
  else ((s.park i q).meet i q).start i q w

/-! ### Classification (Table 3.7) -/

/-- What Table 3.7 has a request do now. -/
inductive Verdict where
  | unmapped | zeros | revoked | ack | stale | noGrant
  | answer        -- a holder's SWAP_OUT admitted while an earlier write-back runs (R79)
  | writeBack | letGo | unshare
  | serve         -- a direct access performed, or a grant given
  | again         -- the holder's own swap-in (R75)
  | fresh         -- the first write to a shared draft page (R47)
  | behindCopy    -- waits for a copy-on-write copy that runs
  | old (src : Nat)  -- a draft read while the copy runs reads the published page
  | wait (w : WStart)
  deriving DecidableEq, Repr, Inhabited

/-- Is the request parked by a pending publication (R50)? -/
def State.pubBlocks (s : State) (q : PReq) : Bool :=
  match (s.region q.region).pub with
  | none => false
  | some p => q.draft && q.write && p.publisher != some q.agent

/-- Is it a write of the agent that publishes? Those are not parked on account of the publication (R50). -/
def State.pubOwn (s : State) (q : PReq) : Bool :=
  match (s.region q.region).pub with
  | some p => p.publisher == some q.agent && q.write
  | none => false

/-- Is a swap-in through the published view of a copied page parked until the switch (step 2 of Table 2.9)? -/
def State.switchWaits (s : State) (i : Nat) (q : PReq) : Bool :=
  match (s.region q.region).pub with
  | none => false
  | some p => p.phase == .collecting && q.code == .swapInShared && !q.draft && (s.entry i).view == 2

/-- Table 3.7 on entry `i`; `front` marks a request that the page's queue has reached (R77). -/
def State.verdict (s : State) (i : Nat) (q : PReq) (front : Bool) : Verdict :=
  let e := s.entry i
  let holds := e.holds q.agent
  let others := e.sharers.filter fun a => a != q.agent
  match e.state with
  | .free => if q.code == .invAck then .ack else .unmapped
  | .scrubPending =>
    match q.code with
    | .load => .zeros
    | .swapInShared => .zeros
    | .invAck => .ack
    | _ => .revoked
  | st =>
    match q.code with
    | .invAck => .ack
    | .swapOut =>
      if !holds || q.r.gen != e.gen then .stale
      else if e.wb.isSome then (if st == .recalling && !e.met then .answer else .wait .none)
      else .writeBack
    | .release =>
      if holds then (if e.wb.isSome then .wait .none else .letGo)
      else if e.sharers.contains q.agent then .unshare
      else .noGrant
    | c =>
      if c == .load && !q.draft && e.view == 2 then .serve
      else if s.pubBlocks q || s.switchWaits i q then .wait .none
      else match e.cow with
        | some w => if !e.parked.isEmpty && !s.pubOwn q then .wait .none else if c == .load then .old w.src else .behindCopy
        | none =>
          if !front && !e.parked.isEmpty && (st == .home || st == .shared) && (q.draft || e.view == 0 || c != .load) && !s.pubOwn q then
            .wait .none
          else if e.wb.isSome then .wait (if st == .held && !holds then .recall else .none)
          else if q.draft && q.write && e.view == 1 then .fresh
          else if holds then (if c.direct then .serve else .again)
          else if st == .recalling then .wait .none
          else if st == .held then .wait .recall
          else match c with
            | .swapInHeld => if others.isEmpty then .serve else .wait (.inval false)
            | .load => .serve
            | .swapInShared => .serve
            | _ => if others.isEmpty then .serve else .wait (.inval true)

/-! ### Copy-on-write (R47, R51) -/

/-- The copy of published index `p` into draft index `d` starts: 128 KiB measures in class SWAP. -/
def State.startCow (s : State) (rid p d : Nat) (fresh : Bool) (waiters : List PReq) : State :=
  let g := s.region rid
  let s := s.setEntry d fun e =>
    { gen := e.gen, state := .home, region := rid, view := 3, link := some p,
      cow := some { src := p, fresh := fresh, waiters := waiters } }
  let s := (s.setEntry p fun e => { e with view := 2, link := some d }).change
  s.addAct { work := .cow d, cls := .swap,
             segs := [{ kind := .copy, src := [(.idx rid p, 0)], dst := [(.idx rid d, 0)], len := g.pageSize }] }

/-! ### Write-backs (R79, R87, R90) -/

/-- The TORN event to each function of the owner tenant (R90, Table 13.4). -/
def State.tornEvent (s : State) (i agent : Nat) (cause : Status) : State :=
  let r := (s.entry i).region
  s.event (s.fnsOfTenant (s.region r).owner) evTORN
    (leBytes 2 r ++ leBytes 1 agent ++ leBytes 1 cause.code ++ leBytes 4 (s.pageNo i))

/-- A write-back stopped before its last measure (R90): TORN set, counted, reported; its SWAP_OUT completes with the cause. -/
def State.stopWb (s : State) (i : Nat) (cause : Status) (detail : Nat := 0) : State :=
  match (s.entry i).wb with
  | none => s
  | some w =>
    let s := (s.dropAct (.writeBack i)).dropReads i
    let s := (s.setEntry i fun e => { e with wb := none, nextWb := none, torn := true }).change
    let s := (s.bump blkDIR 0x030C).tornEvent i w.q.agent cause
    s.finish w.q (some w.q.home) true none { status := cause, detail := detail }

/-- An answering SWAP_OUT that waited behind the stopped write-back (R79) starts its own. -/
def State.startNext (s : State) (i : Nat) (next : Option WriteBack) : State :=
  match next with
  | none => s
  | some w => (s.setEntry i fun e => { e with nextWb := none }).wbStart i w.q false

/-- A write-back stopped while the grant is current (R90): the page goes on as it was, and a waiting answer starts. -/
def State.breakWb (s : State) (i : Nat) (cause : Status) (detail : Nat := 0) : State :=
  let next := (s.entry i).nextWb
  let s := s.stopWb i cause detail
  match next with
  | some _ => s.startNext i next
  | none => s.setEntry i fun e => { e with met := false }

/-! ### The decision -/

/-- The action of a verdict; the flag is false when the request still waits at the head of the page's queue. -/
def State.act (s : State) (i : Nat) (q : PReq) (front : Bool) (v : Verdict) : State × Bool :=
  let e := s.entry i
  let ok : Resp := {}
  match v with
  | .unmapped => ((if q.code != .release then s.bump blkXLT 0x032C else s).refuse q .unmapped, true)
  | .zeros =>
    if q.code == .load then
      (if s.retired q then s.retireReq i q else s.finish q (some q.home) false none { data := List.replicate 64 0 }, true)
    else ((s.finish q (some q.home) true none { gen := e.gen }).oweData q i true, true)
  | .revoked => (s.refuse q .accessRevoked, true)
  | .stale => (s.refuse q .staleGrant, true)
  | .noGrant => (s.finish q (some q.home) false none ok, true)
  | .ack =>
    -- an INV_ACK of a pending sharer counts under the kept GEN (R71); of a sharer of a page not in RECALLING it removes it (R446)
    if e.state == .recalling && !e.prior then
      if e.pending.contains q.agent && q.r.gen == e.invGen then
        (s.setEntry i fun e => { e with pending := e.pending.erase q.agent, sharers := e.sharers.erase q.agent }, true)
      else (s, true)
    else if e.state == .shared && e.sharers.contains q.agent then
      (s.setEntry i fun e => { e with sharers := e.sharers.erase q.agent }, true)
    else (s, true)
  | .answer =>
    (s.setEntry i fun e => { e with met := true, nextWb := some { q := q, keep := false, total := 0 } }, true)
  | .writeBack =>
    let rec_ := e.state == .recalling && !q.early
    let s := (s.setEntry i fun e => { e with met := rec_ }).change
    ((s.wbStart i q (bit q.r.flags 1 && !rec_)).setEntry i fun e => { e with wb := e.wb.map fun w => { w with early := q.early } }, true)
  | .letGo => ((s.setEntry i DirEntry.toHome).change.finish q (some q.home) false none ok, true)
  | .unshare =>
    ((s.setEntry i fun e => { e with pending := e.pending.erase q.agent, sharers := e.sharers.erase q.agent }).change.finish
      q (some q.home) false none ok, true)
  | .serve =>
    match q.code with
    | .load => (s.perform i q, true)
    | .swapInShared =>
      let s := s.setEntry i fun e =>
        { e with state := .shared, sharers := if e.sharers.contains q.agent then e.sharers else insertBy id q.agent e.sharers }
      (s.grant i q, true)
    | .swapInHeld => ((s.setEntry i fun e => e.toHeld q.agent).grant i q, true)
    | _ =>
      let s := if e.state == .shared then s.setEntry i DirEntry.toHome else s
      (s.perform i q, true)
  | .again => (s.grant i q, true)
  | .fresh =>
    match s.takeCow q.region with
    | .inr d => (s.refuse q .quota d, true)
    | .inl (d, s) => (s.startCow q.region i d false [q], true)
  | .behindCopy =>
    (s.setEntry i fun e => { e with cow := e.cow.map fun c => { c with waiters := c.waiters ++ [q] } }, true)
  | .old src => (s.perform src q, true)
  | .wait w =>
    if front then (s.start i q w, false)
    else (s.waitFor i q w, true)

/-- A page whose last sharer or last pending sharer has gone returns to HOME (Table 3.7). -/
def State.settle (s : State) (i : Nat) : State :=
  let e := s.entry i
  if e.state == .recalling && !e.prior && e.pending.isEmpty then
    (s.setEntry i fun e => if e.sharers.isEmpty then e.toHome
      else { e with state := .shared, prior := false, deadline := none }).change
  else if e.state == .shared && e.sharers.isEmpty then (s.setEntry i DirEntry.toHome).change
  else s

/-- Does the request concern the page's draft copy, which another entry holds (R47)? -/
def DirEntry.toCopy (e : DirEntry) (q : PReq) : Bool := e.view == 2 && q.draft

/-- The page's queue served from the front (R77): a holder's own waiting requests first, then in order until one waits. -/
def State.serve (s : State) (i : Nat) : Nat → State
  | 0 => s
  | fuel + 1 =>
    let e := s.entry i
    if e.wb.isSome || e.cow.isSome then s
    else
      let k := match firstIdx (fun (q : PReq) => e.holds q.agent && !e.toCopy q) e.parked with
        | some k => k
        | none => (firstIdx (fun (q : PReq) => !e.toCopy q) e.parked).getD e.parked.length
      match e.parked[k]? with
      | none => s
      | some q =>
        let s1 := s.setEntry i fun e => { e with parked := e.parked.eraseIdx k }
        let (s2, done) := s1.act i q true (s1.verdict i q true)
        let s2 := s2.settle i
        if done then s2.serve i fuel
        else s2.setEntry i fun e => { e with parked := q :: e.parked }

/-- The draft requests left in the queue of a page that now has a copy follow to the copy, in their order. -/
def State.follow (s : State) (i : Nat) : State :=
  let e := s.entry i
  match e.link with
  | none => s
  | some d =>
    let go := e.parked.filter e.toCopy
    if go.isEmpty then s
    else
      let s := s.setEntry i fun e => { e with parked := e.parked.filter fun q => !e.toCopy q }
      let s := s.setEntry d fun x => { x with parked := x.parked ++ go }
      s.serve d ((s.entry d).parked.length + 1)

/-- After any change of a page: it settles, and its queue is served. -/
def State.reopen (s : State) (i : Nat) : State :=
  let s := s.settle i
  (s.serve i ((s.entry i).parked.length + 1)).follow i

/-- A request decided on its page (R73), with everything that follows at the same boundary. -/
def State.decide (s : State) (q : PReq) : State :=
  let i := s.decideIdx q.region q.home q.draft
  ((s.act i q false (s.verdict i q false)).1).reopen i

/-! ### Grants ended by the part -/

/-- The grant of an agent on a page ended without its request (Table 3.7): GEN + 1, an open recall or invalidation waiting
on it settled, its write-back stopped with `torn`, and GRANT_ENDED with `cause`, where one is sent. DESIGN CHOICE: GRANT_ENDED carries the
GEN that the grant had, before the increment (R71 does not say which). -/
def State.endGrant (s : State) (i agent : Nat) (cause : Option Status) (torn : Status) : State :=
  let e := s.entry i
  let say := fun (s : State) => match cause with
    | some c => s.grantEnded i agent e.gen c
    | none => s
  if e.holds agent then
    let s := if e.wb.isSome then s.stopWb i torn else s
    let s := match e.nextWb with
      | some w => s.refuse w.q torn
      | none => s
    let s := (s.setEntry i fun e => e.genUp.toHome).change
    (say s).reopen i
  else if (e.state == .shared || e.state == .recalling) && e.sharers.contains agent then
    let s := (s.setEntry i fun e =>
      { e.genUp with sharers := e.sharers.erase agent, pending := e.pending.erase agent }).change
    (say s).reopen i
  else s

/-- A recall that the queue of an expired page starts is sent at the deadline's own boundary, the one just taken (R77, R78). -/
def State.sentNow (s : State) (i : Nat) : State :=
  let d := s.tick + s.recallTicks
  if (s.entry i).deadline == some (d + 1) then s.setEntry i fun e => { e with deadline := some d, deadField := d % 65536 } else s

/-- Deadline of the page's open recall or invalidation reached (R78 to R80), at the boundary that brings tick `t`: every unanswered
grant ends with RECALL_TIMEOUT; GEN + 1 once. -/
def State.expireAt (s : State) (t i : Nat) : State :=
  let e := s.entry i
  match e.state, e.deadline with
  | .recalling, some d =>
    if t < d || e.met then s
    else
      let ended := if e.prior then [e.holder] else e.pending
      let s := if e.wb.isSome then s.stopWb i .recallTimeout else s
      let s := (s.setEntry i fun e => if e.prior then e.genUp.toHome
        else { e.genUp with sharers := e.sharers.filter fun a => !e.pending.contains a, pending := [] }).change
      let s := ended.foldl (fun s a => (s.grantEnded i a e.gen .recallTimeout).bump blkDIR 0x0304) s
      s.reopen i
  | _, _ => s

/-- RECALL_DEADLINE for a page: in the tick that the deadline's boundary closes it waits for that boundary, where it comes after
every answer admitted before (R79); given later, the boundary just taken was its own. -/
def State.expire (s : State) (i : Nat) : State :=
  let e := s.entry i
  match e.state, e.deadline with
  | .recalling, some d =>
    if d ≤ s.tick then (s.expireAt s.tick i).sentNow i
    else if d == s.tick + 1 then s.onDir fun x => { x with due := x.due ++ [.expire i] }
    else s
  | _, _ => s

/-! ### Completions of a page's internal work -/

/-- The page's write-back has its last measure done (R87): recorded and answered, then HOME, or HELD on under KEEP; one admitted
before the recall leaves the page RECALLING, and an answering SWAP_OUT that waited starts its own write-back (R79). -/
def State.wbDone (s : State) (i : Nat) : State :=
  match (s.entry i).wb with
  | none => s
  | some w =>
    let next := (s.entry i).nextWb
    let s := (s.dropAct (.writeBack i)).dropReads i
    let s := (s.setEntry i fun e => { e with wb := none, torn := false }).change
    let s := s.finish w.q (some w.q.home) true none {}
    if w.keep || next.isSome || (w.early && (s.entry i).state == .recalling) then
      match next with
      | some _ => s.startNext i next
      | none => s.reopen i
    else (s.setEntry i DirEntry.toHome).reopen i

/-- A copy-on-write copy is complete (R47): what waited on it proceeds in order. -/
def State.cowDone (s : State) (i : Nat) : State :=
  match (s.entry i).cow with
  | none => s
  | some c =>
    let s := s.dropAct (.cow i)
    -- the requests that waited for the copy come before those parked behind them (R77)
    let old := (s.entry i).parked
    let s := (s.setEntry i fun e => { e with cow := none, parked := [] }).change
    let s := c.waiters.foldl (fun s q => (s.act i q false (s.verdict i q false)).1.settle i) s
    let s := s.setEntry i fun e => { e with parked := e.parked ++ old }
    s.reopen i

end Sys2Proof.Machine
end

