-- ==== Sys2Proof/Machine/Admit.lean ====
section
/-! DEFINITION. Admission of directory requests: the meter, the idempotency table, the checks of Table 4.4, and the decision
(R69, R72, R91 to R93, R108, R127, R350, R440). -/

namespace Sys2Proof.Machine

/-- Has the running tick's delta no room for another change (R440)? -/
def State.deltaFull (s : State) : Bool := s.paired && Config.deltaRoom + 1 ≤ s.mir.changes

/-- The hub that a request enters through (R15); an engine measure is decided on the primary hub. -/
def State.hubOfVia (s : State) (via : Via) : Nat :=
  match via with
  | .trellis p _ => hubOfPort p
  | .slot fn => s.fnHub fn
  | .bar4 fn _ _ => s.fnHub fn
  | .engine => s.mir.primary

/-- Is the request malformed (Table 3.4, Table 3.8, R82)? -/
def malformedReq (code : ReqCode) (r : DirReq) : Bool :=
  4 ≤ r.flags ||
  (match code with
   | .load => r.pva % 64 != 0
   | .store => r.pva % 64 != 0
   | .atomic => r.atop == 7 || r.pva % (if r.wide then 16 else 8) != 0
   | _ => false)

/-- The agent's record of a TXID, unless it is 4096 of the agent's link-up ticks old (R91, R92). -/
def State.findRec (s : State) (agent txid : Nat) : Option IdemRec :=
  let a := s.agentSt agent
  a.recs.find? fun x => x.txid == txid && a.upTicks < x.at_ + 4096

/-- Is this waiting request the one with that agent and TXID? -/
def sameReq (agent txid : Nat) (q : PReq) : Bool := q.agent == agent && q.hasTxid && q.meas.isNone && q.r.txid == txid

/-- The reissue's way back added to a waiting request, so that both receive its response (R93). -/
def joinReq (agent txid : Nat) (via : Via) (q : PReq) : PReq :=
  if sameReq agent txid q then { q with also := q.also ++ [via] } else q

/-- Requests of an entry in progress. -/
def DirEntry.requests (e : DirEntry) : List PReq :=
  e.parked ++ (e.wb.map fun w => w.q).toList ++ (e.nextWb.map fun w => w.q).toList ++ (match e.cow with | some c => c.waiters | none => [])

/-- Every request of an entry changed. -/
def DirEntry.mapReqs (f : PReq → PReq) (e : DirEntry) : DirEntry :=
  { e with parked := e.parked.map f, wb := e.wb.map fun w => { w with q := f w.q },
           nextWb := e.nextWb.map fun w => { w with q := f w.q },
           cow := e.cow.map fun c => { c with waiters := c.waiters.map f } }

/-- Is this what waits a request with the property? -/
def Due.isReq (p : PReq → Bool) (d : Due) : Bool := match d with | .req q => p q | _ => false

/-- The request in what waits changed. -/
def Due.mapReq (f : PReq → PReq) (d : Due) : Due := match d with | .req q => .req (f q) | d => d

/-- Is a request with the TXID of the same agent in progress (R93)? -/
def State.inProgress (s : State) (agent txid : Nat) : Bool :=
  s.dir.due.any (Due.isReq (sameReq agent txid)) || s.dir.entries.any fun e => e.2.requests.any (sameReq agent txid)

def State.joinProgress (s : State) (agent txid : Nat) (via : Via) : State :=
  s.onDir fun d =>
    { d with due := d.due.map (Due.mapReq (joinReq agent txid via)),
             entries := Tbl.mapKV d.entries fun _ e => e.mapReqs (joinReq agent txid via) }

/-- STATUS of a refused translation (Table 4.4, Table 2.7): a SWAP_OUT whose agent lacks W is STALE_GRANT unless its grant is
current. -/
def State.refusal (s : State) (q : PReq) (st : Status) (t : Option Tr) : Status :=
  match q.code, st, t with
  | .swapOut, .deniedRights, some t =>
    let e := s.entry (s.decideIdx t.region t.home t.draft)
    if e.holds q.agent && e.gen == q.r.gen then st else .staleGrant
  | _, _, _ => st

/-! ### When a request is decided (R5, R72, R85) -/

/-- Something waits for step 1 of the next tick boundary. -/
def State.later (s : State) (x : Due) : State := s.onDir fun d => { d with due := d.due ++ [x] }

/-- Does a request of the same agent to the same page wait undecided (R85)? -/
def State.behind (s : State) (q : PReq) : Bool :=
  s.dir.due.any (Due.isReq fun x => x.agent == q.agent && x.home == q.home && x.meas.isNone)

/-- Is the request decided at admission (R72): a direct access that would be performed or answered now without a change of the
page's state? -/
def State.decidedNow (s : State) (q : PReq) : Bool :=
  let i := s.decideIdx q.region q.home q.draft
  q.code.direct && !s.behind q && (match s.verdict i q false with
    | .unmapped => true
    | .zeros => true
    | .revoked => true
    | .old _ => true
    | .serve => q.code == .load || (s.entry i).state == .home || (s.entry i).holds q.agent
    | _ => false)

/-- Has the delta no room for what the decision would change (R440)? A load changes nothing. -/
def State.noRoom (s : State) (q : PReq) : Bool := s.deltaFull && !(q.code == .load && s.decidedNow q)

/-- A request whose checks have passed is decided at admission, or at step 1 of the next boundary (R72), or later when the delta has
no room (R440). -/
def State.decideOrDefer (s : State) (q : PReq) : State :=
  if !s.decidedNow q then s.later (.req q)
  else if s.noRoom q then (s.later (.req q)).bump blkMIR 0x050C
  else s.decide q

/-- Has an event ordered before the decision withdrawn the page from the request's agent (R54, R56): its attachment, the rights or
the view it needs, the bin, or the reserve bin of the draft? -/
def State.withdrawn (s : State) (q : PReq) : Bool :=
  let g := s.region q.region
  let d := s.decideIdx q.region q.home q.draft
  (match Tbl.find g.acl q.agent with
   | none => true
   | some x => !(rightsCover (Use.req q.code).need x.r x.w x.a && (!g.versioned || x.viewOk q.draft))) ||
  (match g.locate (idxPa q.home) with
   | some (b, _, _) => g.revokedBin q.agent b
   | none => true) ||
  (q.draft && (s.entry d).view == 3 && g.revokedDraft q.agent d)

/-- A request decided at step 1 of a boundary: one that its region's loss or a withdrawal has overtaken is refused, a direct access
that need not wait apart (R55). -/
def State.decideDue (s : State) (q : PReq) : State :=
  let g := s.region q.region
  let i := s.decideIdx q.region q.home q.draft
  let waits := match s.verdict i q false with
    | .wait _ => true
    | .fresh => true
    | .behindCopy => true
    | _ => !q.code.direct
  if g.state == .lost then s.refuse q .regionLost
  else if (s.entry i).state != .scrubPending && (s.entry i).state != .free && q.code != .invAck && q.code != .release && waits &&
      s.withdrawn q then s.refuse q .accessRevoked
  else s.decide q

/-- Step 1 for a request: decided, or kept for the next boundary when the delta has no room (R440). -/
def State.dueReq (s : State) (q : PReq) : State :=
  if s.noRoom q then (s.later (.req q)).bump blkMIR 0x050C else s.decideDue q

/-- Is the draft copy that an access would fall on in a reserve bin withdrawn from the agent (R56)? -/
def State.draftRevoked (s : State) (agent : Nat) (t : Tr) : Bool :=
  let i := s.decideIdx t.region t.home t.draft
  t.draft && (s.entry i).view == 3 && (s.region t.region).revokedDraft agent i

/-- From translation to decision. A direct request is tagged with the slot and generation of the page's owner (R409). -/
def State.translate (s : State) (q : PReq) : State :=
  let hub := s.hubOfVia q.via
  let s := s.readTables hub q.agent q.r.pva
  let (st, t, cause) := s.check q.agent q.r.pva (.req q.code) hub
  let s := s.cacheUse hub q.agent q.r.pva false
  let s := if cause == 5 then s.raise blkXLT hub 0 q.agent else s
  let done := if q.hasTxid then s.findRec q.agent q.r.txid else none
  match done with
  | some x =>
    let same := x.code == q.code.code && (match t, x.page with
      | some t, some p => s.racked t.region t.home == p
      | _, _ => true)
    if same then
      (s.bump blkDIR 0x0308).respondHeld q none { status := x.status, detail := x.detail, old := x.result, code := q.code }
    else s.respondNow q none { status := .malformed, detail := 0x10 }
  | none =>
    if q.hasTxid && s.inProgress q.agent q.r.txid then s.joinProgress q.agent q.r.txid q.via
    else if malformedReq q.code q.r then s.finish q none false none { status := .malformed }
    else match st, t with
      | .ok, some t =>
        let tag := if q.code.direct && !(s.region t.region).removing then some (s.tagOf t.region) else none
        let q := { q with region := t.region, home := t.home, draft := t.draft, tag := tag }
        if s.draftRevoked q.agent t then s.refuse q .accessRevoked else
        if q.code.writes && s.sec.binding.contains t.region then s.refuse q .busy
        else
          let i := s.decideIdx t.region t.home t.draft
          let s := if q.code.direct && t.hot then
            s.countHot q.agent i t.region (t.leaf.base t.pva) t.leaf.psize (q.code != .load) else s
          s.decideOrDefer q
      | st, t =>
        let s := if st == .unmapped && q.code != .release && q.code != .invAck then s.bump blkXLT 0x032C else s
        s.finish q (t.map fun t => t.home) false none { status := s.refusal q st t }

/-- A directory request admitted from an agent (R69): coloured first (Table 1.6), then translated and decided. A request of
an agent whose tenant does not exist gets no response (Table 14.8). -/
def State.admitReq (s : State) (agent : Nat) (via : Via) (code : ReqCode) (r : DirReq) : State :=
  let q : PReq := { agent := agent, via := via, code := code, r := r, write := code.writes, at_ := s.tick }
  if !s.tenantExists (s.tenantOf agent) then s
  else if code.direct then
    let c := (s.meter agent).colour 1
    let s := s.spend agent 1 c
    if c == .red then s.finish q none false none { status := .quota, detail := 10 } else s.translate q
  else s.translate q

/-! ### Agents and their links (R97 to R99, R268, R334) -/

/-- Requests that wait for step 1 are removed undecided. -/
def State.dropDue (s : State) (p : PReq → Bool) : State := s.onDir fun d => { d with due := d.due.filter fun x => !x.isReq p }

/-- Every parked request with the property is removed from the directory (R97, R98); the recalls it started run on. -/
def State.dropParked (s : State) (p : PReq → Bool) : State :=
  s.onDir fun d =>
    { d with entries := Tbl.mapKV d.entries fun _ e =>
               { e with parked := e.parked.filter fun q => !p q,
                        cow := e.cow.map fun c => { c with waiters := c.waiters.filter fun q => !p q } } }

/-- Pages on which an agent holds a grant. -/
def State.grantsOf (s : State) (agent : Nat) : List Nat :=
  (s.dir.entries.filter fun e => e.2.holds agent || e.2.sharers.contains agent).map Prod.fst

/-- Pages into which a write-back of the agent runs. -/
def State.wbsOf (s : State) (p : PReq → Bool) : List Nat :=
  (s.dir.entries.filter fun e => match e.2.wb with | some w => p w.q | none => false).map Prod.fst

/-- Does an engine run a measure of this work? -/
def State.workRuns (s : State) (w : Work) : Bool :=
  s.eng.units.any fun u => match u.2.running with | some r => r.m.work == w | none => false

/-- A transfer that was stopped ends once none of its measures runs: through a request window a DATA_DONE record reports its status. -/
def State.transferEnds (s : State) (id : Nat) (now : Bool := false) : State :=
  match Tbl.find s.dir.transfers id, Tbl.find s.dir.stopping id with
  | some (q, _), some (st, detail) =>
    if !now && s.workRuns (.swapIn id) then s
    else
      let s := s.onDir fun d => { d with transfers := Tbl.del d.transfers id, stopping := Tbl.del d.stopping id }
      match q.via with
      | .slot fn => s.putRing fn { kind := 2, code := q.code, status := st, detail := detail, txid := q.r.txid }
      | _ => s
  | _, _ => s

/-- Data still owed to an agent stops at the next measure boundary (R97): the acts of its transfers are dropped, and a measure that
runs still sends what it reads (R23, R55). Without a status the agent can be sent nothing more, and the transfers end at once; `now`
ends them at once too, after a line with no good copy (R254). -/
def State.stopData (s : State) (p : PReq → Nat → Bool) (st : Option Status) (detail : Nat := 0) (now : Bool := false) : State :=
  let go := s.dir.transfers.filter fun t => p t.2.1 t.2.2
  go.foldl (fun s t =>
    let s := s.dropAct (.swapIn t.1)
    match st with
    | none => s.onDir fun d => { d with transfers := Tbl.del d.transfers t.1, stopping := Tbl.del d.stopping t.1 }
    | some st =>
      (s.onDir fun d =>
        { d with stopping := if (Tbl.find d.stopping t.1).isSome then d.stopping else Tbl.put d.stopping t.1 (st, detail) }).transferEnds t.1 now) s

/-- Requests by host agents or Trellis agents, engine measures apart. -/
def ofAgent (agent : Nat) (q : PReq) : Bool := q.agent == agent && q.meas.isNone

/-- Responses not yet sent to an agent whose link goes down are dropped (R97): those held for the loft, and the records of its
functions' ring buffers; messages and held records of results stay. -/
def State.dropResponses (s : State) (agent : Nat) : State :=
  let s := s.onMir fun m => { m with held := m.held.filter fun h => match h.2 with | .resp q _ _ => !ofAgent agent q | _ => true }
  (s.fnsOf agent).foldl (fun s fn => s.setFn fn fun f => { f with ringBuf := f.ringBuf.filter fun r => r.kind == 1 }) s

/-- The agent's link goes down (R97): what is parked ends with LINK_LOST and its response is dropped, its write-backs stop
under R90, its data stops, and the time of R98 begins to run unless the cause is a function-level reset. A request not yet decided
is decided at the next boundary. -/
def State.agentDown (s : State) (agent : Nat) (flr : Bool) (torn : Status) : State :=
  let a := s.agentSt agent
  if !a.up then s
  else
    let s := s.setAgent agent fun a =>
      { a with up := false, known := true, downAt := max s.tick (s.glb.grace.getD 0), flr := flr, lossMs := max 1 (min 1000 (bits s.dir.ctrl.toNat 25 16)) }
    let s := (s.dropParked (ofAgent agent)).dropResponses agent
    let s := (s.wbsOf (ofAgent agent)).foldl (fun s i => (s.setEntry i fun e => { e with nextWb := none }).breakWb i torn) s
    let s := s.stopData (fun q _ => q.agent == agent) none
    s.change

/-- The agent's link comes up (R97, R99): a lost agent receives LOST_NOTICE before any response, none being left from before. -/
def State.agentUp (s : State) (agent : Nat) : State :=
  let a := s.agentSt agent
  if a.up then s
  else
    let s := (s.setAgent agent fun a => { a with up := true, known := true, lost := false, flr := false }).change
    let s := s.onXlt fun x => { x with firstMap := x.firstMap.filter fun b => b != agent }
    if a.lost then s.message agent { msg := 3 } else s

/-- Is the agent's only function under a reset whose step 3 has not come, on a link that is UP (R334, R341)? -/
def State.flrWaits (s : State) (agent : Nat) : Bool :=
  match s.fnsOf agent with
  | [fn] => s.dir.due.contains (.flr fn) && (s.link (s.func fn).link).state == .up
  | _ => false

/-- The agent's link state follows its ports or functions (R268, R334); a function-level reset that alone takes it down is settled by
Table 11.9. -/
def State.agentLink (s : State) (agent : Nat) : State :=
  if agent = 0 then s
  else if s.linkUpNow agent then s.agentUp agent
  else if s.flrWaits agent then s
  else s.agentDown agent false .linkLost

/-- The link state of every known agent. -/
def State.agentLinks (s : State) : State := (List.range 128).foldl (fun s a => s.agentLink a) s

end Sys2Proof.Machine
end

