-- ==== Sys2Proof/Machine/Cmd.lean ====
section
/-! DEFINITION. CMD: command packets, the checks of Table 13.1, who may begin, and the intake with its banks (R369 to R394). -/

namespace Sys2Proof.Machine

/-- A row of Table 13.5 with Table 13.6: the fixed LENGTH values (none for a formula), the minor of the opcode, the FLAGS
bits that the command defines, and those of a later minor with that minor. -/
structure OpRow where
  op : Nat
  lens : List Nat
  minor : Nat := 0
  flags : Nat := 0
  late : Nat := 0
  lateMinor : Nat := 0

/-- Table 13.5 (R389). -/
def opTable : List OpRow :=
  [{ op := 0x0101, lens := [4] }, { op := 0x0102, lens := [6] }, { op := 0x0201, lens := [11] },
   { op := 0x0202, lens := [4], flags := 2 }, { op := 0x0203, lens := [6] }, { op := 0x0204, lens := [5], flags := 6 },
   { op := 0x0205, lens := [4] }, { op := 0x0206, lens := [4] },
   { op := 0x0207, lens := [6], flags := 1, late := 1, lateMinor := 2 }, { op := 0x0208, lens := [5] },
   { op := 0x0301, lens := [], flags := 1, late := 1, lateMinor := 1 }, { op := 0x0302, lens := [10] },
   { op := 0x0303, lens := [4] }, { op := 0x0401, lens := [20, 36] }, { op := 0x0402, lens := [4] },
   { op := 0x0403, lens := [19] }, { op := 0x0404, lens := [] }] ++
  [{ op := 0x0405, lens := [4], flags := 2 }, { op := 0x0406, lens := [8], minor := 1 }, { op := 0x0407, lens := [] },
   { op := 0x0408, lens := [4], minor := 1 }, { op := 0x0501, lens := [7] }, { op := 0x0502, lens := [5] },
   { op := 0x0503, lens := [] }, { op := 0x0601, lens := [9], flags := 1 }, { op := 0x0602, lens := [4] },
   { op := 0x0603, lens := [4] }, { op := 0x0604, lens := [7] }, { op := 0x0701, lens := [] }, { op := 0x0702, lens := [6] },
   { op := 0x0801, lens := [4] }, { op := 0x0802, lens := [6] }, { op := 0x0803, lens := [4], minor := 2 },
   { op := 0x0901, lens := [5] }, { op := 0x0902, lens := [8] }, { op := 0x0903, lens := [4] }]

def opRow (op : Nat) : Option OpRow := opTable.find? fun r => r.op == op

end Sys2Proof.Machine

namespace Sys2Proof

open Machine

/-! ### Packet fields -/

/-- DW k of a packet; a missing one reads zero. -/
def Packet.dw (p : Packet) (k : Nat) : Nat := (p.words.getD k 0).toNat

/-- Bits of DW k. -/
def Packet.fld (p : Packet) (k hi lo : Nat) : Nat := bits (p.dw k) hi lo

def Packet.op (p : Packet) : Nat := p.fld 0 15 0
def Packet.minor (p : Packet) : Nat := p.fld 0 23 16
def Packet.flags (p : Packet) : Nat := p.fld 0 31 24
def Packet.len (p : Packet) : Nat := p.fld 1 31 16
/-- TAG; a packet of fewer than two words answers with 0xFFFF (R374). -/
def Packet.tag (p : Packet) : Nat := if p.words.length < 2 then 0xFFFF else p.fld 1 15 0

/-- An address given in two DWs. -/
def Packet.addr (p : Packet) (k : Nat) : Nat := p.dw k + 2 ^ 32 * p.dw (k + 1)

/-- The checks of Table 13.1 in order: the refusal's status and DETAIL, and whether it is one of orders 1 to 3. -/
def Packet.refusal (p : Packet) (negotiated : Nat) : Option (Status × Nat × Bool) :=
  if p.dropped then some (.malformed, 0x800003, true)
  else if p.words.length < 4 then some (.malformed, 0x800002, true)
  else if p.len != p.words.length then some (.malformed, 0x800001, true)
  else if negotiated < p.minor && p.op != 0x0101 then some (.badVersion, 0, false)
  else match opRow p.op with
    | none => some (.unknownOpcode, 0, false)
    | some r =>
      let need := max r.minor (if p.flags &&& r.late != 0 then r.lateMinor else 0)
      if p.minor < need then some (.badVersion, need, false)
      else if !r.lens.isEmpty && !r.lens.contains p.len then some (.malformed, 1, false)
      else if maskDiff p.flags r.flags != 0 then some (.malformed, 0, false)
      else none

end Sys2Proof

namespace Sys2Proof.Machine

/-! ### Beginning a packet -/

/-- The PF of the watch link (R449, R499): link 0 of P0, or of P4 once HUB-A has failed. -/
def State.watchFn (s : State) : Nat :=
  if s.mir.primary == 0 then (s.link 0).fnBase else s.altProvider

def State.cellar (s : State) : Bool := s.glb.pstate == .cellar
def State.failedPart (s : State) : Bool := s.mir.state == .failed

/-- Opcodes that the FAILED part answers (R449). -/
def failedOps : List Nat := [0x0101, 0x0102, 0x0801, 0x0802, 0x0803, 0x0702]

/-- The refusal that the part's condition gives before the command's own checks: FAILED (R449), G-CELLAR (R393), a tenant that
does not exist (R414). -/
def State.stateRefusal (s : State) (fn op : Nat) : Option (Status × Nat) :=
  if s.failedPart && !failedOps.contains op then some (.busy, 0x800030)
  else if s.cellar && !([1, 7, 8].contains (op / 256)) then some (.busy, 0x800020)
  else if !s.tenantExists (s.func fn).tenant && op != 0x0101 && op != 0x0102 then some (.deniedRights, 0)
  else none

/-- Is the function cut off by the removal of its tenant (steps 1 to 7 of Table 14.8)? -/
def State.cutOff (s : State) (fn : Nat) : Bool := s.sec.removals.any fun r => r.2.step < 7 && r.2.fns.contains fn

/-- May Lutik begin a packet of the function now: it exists and is not under reset, no flush waits (R372), its completion
buffer has room (R381), its tenant's removal does not cut it off (R412), its port's hub stands and no switchover runs (R392), and
in FAILED or G-CELLAR it is the watch link's (R393, R449)? -/
def State.mayBegin (s : State) (fn : Nat) : Bool :=
  s.fnExists fn && s.mir.state != .switching && !s.mir.hubsLost.contains (s.fnHub fn) &&
  (s.func fn).reset.isNone && !s.cutOff fn && !(s.intake fn).flush && (s.intake fn).cplBuf.length < 64 &&
  (!(s.failedPart || s.cellar) || fn == s.watchFn)

/-- A packet refused (R374): answered, and for orders 1 to 3 flagged, counted and raised as cause 0 of CMD. -/
def State.refusePacket (s : State) (fn : Nat) (p : Packet) (x : Status × Nat × Bool) : State :=
  let s := if x.2.2 then
    let s := (s.setIntake fn fun i => { i with framing := true }).bump blkCMD 0x0508
    s.raise blkCMD (s.fnHub fn) 0 fn else s
  s.answer { fn := fn, tag := p.tag } x.1 x.2.1

/-- A packet begun by Lutik and answered through its command's meaning `f` when the common checks pass. -/
def State.beginPacket (s : State) (fn : Nat) (p : Packet) (f : State → Issuer → State) : State :=
  let s := s.bump blkCMD 0x0500
  match p.refusal (s.intake fn).minor with
  | some x => s.refusePacket fn p x
  | none =>
    match s.stateRefusal fn p.op with
    | some (st, d) => s.answer { fn := fn, tag := p.tag } st d
    | none => f s { fn := fn, tag := p.tag }

/-- A command row: packet `p` of function `fn` is begun. A packet that the common checks refuse before its opcode counts is
refused; a packet of another command is that command's row and not this one. -/
def State.command (s : State) (fn : Nat) (p : Packet) (op : Nat) (f : State → Issuer → State) : State :=
  if !s.mayBegin fn then s
  else match p.refusal (s.intake fn).minor with
    | some x => if p.op == op || x.2.2 || (opRow p.op).isNone then (s.bump blkCMD 0x0500).refusePacket fn p x else s
    | none => if p.op == op then s.beginPacket fn p f else s

/-- Is the function the provider's, as R42 and its like ask? -/
def State.provider (s : State) (i : Issuer) : Bool := s.isProvider i.fn

/-- Refusals of a command. -/
def State.malformed (s : State) (i : Issuer) (d : Nat) : State := s.answer i .malformed d
def State.denied (s : State) (i : Issuer) : State := s.answer i .deniedRights
def State.busy (s : State) (i : Issuer) (d : Nat := 0) : State := s.answer i .busy d

/-- Numbers the commands that R545 answers ACCEPTED only when 200 ticks end. -/
def State.openCmd (s : State) (i : Issuer) (op : Nat) (accepted : Bool) : Nat × State :=
  let n := s.cmd.nextOpen
  (n, s.onCmd fun c => { c with opens := Tbl.put c.opens n { by_ := i, op := op, begun := s.tick, accepted := accepted },
                                nextOpen := n + 1 })

def State.closeCmd (s : State) (n : Nat) : State := s.onCmd fun c => { c with opens := Tbl.del c.opens n }

/-- ACCEPTED written when the 200 ticks of an open command end (R545). -/
def State.acceptOpen (s : State) (n : Nat) : State :=
  match Tbl.find s.cmd.opens n with
  | none => s
  | some o =>
    if o.accepted || s.tick < o.begun + 200 then s
    else (s.onCmd fun c => { c with opens := Tbl.put c.opens n { o with accepted := true } }).answer o.by_ .accepted

/-! ### The intake (R369 to R372, R377) -/

/-- DWs of the filling bank that are in use. -/
def Intake.used (i : Intake) : Nat := i.fill.foldl (fun n q => n + q.dws) 0 + (match i.part with | some p => p.words.length | none => 0)

/-- CMD_PKT_WAITING.SPACE (R371). -/
def Intake.space (i : Intake) : Nat := 1024 - i.used

/-- Whole packets not yet begun. -/
def Intake.waiting (i : Intake) : Nat := i.fill.length + i.drain.length

/-- The banks change roles at the first moment at which the draining bank is empty and a whole packet waits (R370). -/
def Intake.swap (i : Intake) : Intake :=
  if i.drain.isEmpty && !i.fill.isEmpty then { i with drain := i.fill, fill := [] } else i

/-- A flush acts (R372): every whole packet not begun is discarded; `kept` is the packet whose writing it waited for. -/
def Intake.doFlush (i : Intake) (kept : List QPkt) : Intake :=
  { i with fill := kept, drain := [], flush := false, discarded := (i.fill.length + i.drain.length) % 65536 }

/-- A word of the packet being written (R369); with no space it is dropped (R371). -/
def Intake.word (i : Intake) (w : Word) : Intake :=
  let p := i.part.getD {}
  if i.space = 0 then { i with part := some { p with dropped := true }, overflow := true }
  else { i with part := some { p with words := p.words ++ [w] } }

/-- The last word: the packet becomes whole with its end mark. A packet that lost a word is kept as an empty one, to be
answered as overflow. A pending flush then acts. -/
def Intake.last (i : Intake) (w : Word) (t : Nat) : Intake :=
  let i := i.word w
  let p := i.part.getD {}
  let q : QPkt := { p := p, dws := if p.dropped then 0 else p.words.length, at_ := t }
  let i := { i with part := none }
  if i.flush then i.doFlush [q] else { i with fill := i.fill ++ [q] }

/-- Does the intake take a function's writes: the function exists and is not under reset? -/
def State.intakeOpen (s : State) (fn : Nat) : Bool := s.fnExists fn && (s.func fn).reset.isNone

end Sys2Proof.Machine
end

