-- ==== Sys2Proof/Machine/Elem.lean ====
section
/-! DEFINITION. Rows of elements: the formats and layouts of Table 6.2 and R181, decoding to FP32 (R182), and encoding with
block scales and either rounding (R183 to R186). FP32 values are bit patterns. -/

namespace Sys2Proof.Machine

/-- Bits of an element (Table 6.2). -/
def fmtBits (f : Nat) : Nat :=
  match f with
  | 0 => 32 | 1 => 16 | 2 => 16 | 8 => 6 | 9 => 6 | 10 => 4 | _ => 8

def fmtMx (f : Nat) : Bool := 6 ≤ f && f ≤ 10

/-- The element encoding of a format other than INT8. -/
def fmtElt (f : Nat) : FpFmt :=
  match f with
  | 0 => f32 | 1 => bf16 | 2 => f16 | 3 => e4m3 | 4 => e5m2 | 6 => e4m3 | 7 => e5m2 | 8 => e2m3 | 9 => e3m2 | _ => e2m1

/-- Elements of a block of a format and its SBLK; 0 for a plain layout. -/
def blkLen (f sblk : Nat) : Nat := if fmtMx f then 32 else if sblk = 0 then 0 else 16 * 2 ^ sblk

/-- Bytes of `n` elements without scales. -/
def eltBytes (f n : Nat) : Nat := n * fmtBits f / 8

/-- Bytes of the scales of `n` elements. -/
def sclBytes (f sblk n : Nat) : Nat :=
  if fmtMx f then n / 32 else if sblk = 0 then 0 else 4 * (n / blkLen f sblk)

/-- Bytes of a row (R181). -/
def rowBytes (f sblk n : Nat) : Nat := eltBytes f n + sclBytes f sblk n

/-- `n` elements of `b` bits from a little-endian bit string, in groups of whole bytes. -/
def unpackBits (b : Nat) : Nat → List Byte → List Nat
  | 0, _ => []
  | fuel + 1, bs =>
    if bs.isEmpty then []
    else
      let g := if b = 6 then 3 else if b < 8 then 1 else b / 8
      let v := leNat (bs.take g)
      ((List.range (g * 8 / b)).map fun i => v / 2 ^ (b * i) % 2 ^ b) ++ unpackBits b fuel (bs.drop g)

/-- Elements packed into bytes, the inverse of `unpackBits`. -/
def packBits (b : Nat) : Nat → List Nat → List Byte
  | 0, _ => []
  | fuel + 1, xs =>
    if xs.isEmpty then []
    else
      let g := if b = 6 then 3 else if b < 8 then 1 else b / 8
      let k := g * 8 / b
      leBytes g ((padTo k 0 (xs.take k)).foldr (fun x acc => x + 2 ^ b * acc) 0) ++ packBits b fuel (xs.drop k)

/-- The raw elements of a row piece. -/
def rawElems (f n : Nat) (bytes : List Byte) : List Nat :=
  (unpackBits (fmtBits f) (n + 1) (bytes.take (eltBytes f n))).take n

/-- The value of a raw element before any scale. -/
def eltVal (f raw : Nat) : FV := if f = 5 then decInt8 raw else (fmtElt f).dec raw

/-- A value times 2^k. -/
def FV.shift (v : FV) (k : Int) : FV := match v with | .fin n m e => .fin n m (e + k) | v => v

def qNaN32 : Nat := 0x7FC00000

/-- `n` elements of a row piece decoded to FP32 (R182): the elements first, then the scales of their blocks. -/
def decElems (f sblk n : Nat) (bytes : List Byte) : List Nat :=
  let raws := rawElems f n bytes
  let sc := bytes.drop (eltBytes f n)
  let bl := blkLen f sblk
  if fmtMx f then
    raws.mapIdx fun i x =>
      let s := (sc.getD (i / 32) 0).toNat
      if s = 255 then qNaN32 else r32 ((eltVal f x).shift ((s : Int) - 127))
  else if bl = 0 then raws.map fun x => r32 (eltVal f x)
  else
    let scales := unpackBits 32 (n + 1) sc
    raws.mapIdx fun i x => mul32 (r32 (eltVal f x)) (scales.getD (i / bl) 0)

/-- The random value of R186 for a destination element. -/
def rndVal (seed idx : Nat) : Nat :=
  let m := 2 ^ 32
  let h := (seed ^^^ (idx % m * 0x9E3779B9 % m)) % m
  let h := h ^^^ (h / 2 ^ 16)
  let h := h * 0x85EBCA6B % m
  let h := h ^^^ (h / 2 ^ 13)
  let h := h * 0xC2B2AE35 % m
  let h := h ^^^ (h / 2 ^ 16)
  h % 65536

/-- What encoding a piece gives: its bytes, the conversions that saturated, and the elements written as NaN. -/
structure Enc where
  bytes : List Byte := []
  sat : Nat := 0
  nan : Nat := 0
  deriving DecidableEq, Repr, Inhabited

/-- The largest finite magnitude of a saturating format, as a value. -/
def FpFmt.maxVal (f : FpFmt) : FV := f.dec f.top

/-- Does the conversion of `v` saturate (R183): its magnitude lies beyond the largest finite one? -/
def saturates (f : Nat) (v : FV) : Bool :=
  if f = 5 then
    match v with
    | .inf _ => true
    | .fin n m e =>
      let k := if 0 ≤ e then m * 2 ^ e.toNat else rneShift m (-e).toNat
      if n then 128 < k else 127 < k
    | .nan => false
  else if (fmtElt f).sat then
    match v with
    | .inf _ => true
    | .fin _ m e => (fmtElt f).maxVal.lt (.fin false m e)
    | .nan => false
  else false

/-- One element encoded. -/
def encElt (f : Nat) (rnd : Option Nat) (v : FV) : Nat := if f = 5 then encInt8 v else (fmtElt f).enc rnd v

/-- floor(log2 |v|) of a finite nonzero value. -/
def FV.ilog2 (v : FV) : Int := match v with | .fin _ m e => e + (bitLen m : Int) - 1 | _ => 0

/-- The largest magnitude of a block of finite values. -/
def amaxOf (vs : List FV) : FV :=
  vs.foldl (fun a v => match v with | .fin _ m e => if a.lt (.fin false m e) then .fin false m e else a | _ => a) (.fin false 0 0)

/-- Exponent e of R184. -/
def mxEmax (f : Nat) : Int := match f with | 6 => 8 | 7 => 15 | 8 => 2 | 9 => 4 | _ => 2

/-- Is some value of the block NaN or infinite? -/
def blkBad (vs : List FV) : Bool := vs.any fun v => match v with | .fin _ _ _ => false | _ => true

/-- One MX block (R184): its elements, its scale byte, and the counts. -/
def encMx (f : Nat) (rnd : Nat → Option Nat) (vs : List FV) : List Nat × Nat × Nat × Nat :=
  if blkBad vs then (vs.map fun _ => 0, 0xFF, 0, vs.length)
  else
    let a := amaxOf vs
    if a.isZero then (vs.map fun _ => 0, 0, 0, 0)
    else
      let x := max (-127) (min 127 (a.ilog2 - mxEmax f))
      let ws := vs.map fun v => v.shift (-x)
      (ws.mapIdx fun i v => encElt f (rnd i) v, (x + 127).toNat, (ws.filter fun v => saturates f v).length, 0)

/-- Q of R185. -/
def sclQ (f : Nat) : Nat := if f = 3 then nat32 448 else if f = 4 then nat32 57344 else nat32 127

/-- One scaled block (R185): its elements, its FP32 scale, and the counts. -/
def encScl (f : Nat) (rnd : Nat → Option Nat) (vs : List FV) : List Nat × Nat × Nat × Nat :=
  if blkBad vs then (vs.map fun _ => encElt f none .nan, qNaN32, 0, vs.length)
  else
    let a := amaxOf vs
    let sc := if a.isZero then nat32 1 else div32 (r32 a) (sclQ f)
    let ws := vs.map fun v => dec32 (div32 (r32 v) sc)
    (ws.mapIdx fun i v => encElt f (rnd i) v, sc, (ws.filter fun v => saturates f v).length, (ws.filter FV.isNan).length)

/-- A list cut into blocks of `k`. -/
def blocksOf {α : Type} (k : Nat) : Nat → List α → List (List α)
  | 0, _ => []
  | fuel + 1, l => if l.isEmpty then [] else l.take k :: blocksOf k fuel (l.drop k)

/-- FP32 values encoded as a row piece (R183 to R186). `idx` is the first element's number in the job; a seed selects
stochastic rounding. -/
def encElems (f sblk : Nat) (seed : Option Nat) (idx : Nat) (vals : List Nat) : Enc :=
  let n := vals.length
  let vs := vals.map dec32
  let rnd := fun (i : Nat) => seed.map fun s => rndVal s (idx + i)
  let bl := blkLen f sblk
  if bl = 0 then
    if f = 0 then
      { bytes := packBits 32 (n + 1) vals, nan := (vs.filter FV.isNan).length }
    else
      { bytes := packBits (fmtBits f) (n + 1) (vs.mapIdx fun i v => encElt f (rnd i) v)
        sat := (vs.filter fun v => saturates f v).length, nan := (vs.filter FV.isNan).length }
  else
    let bs := (blocksOf bl (n + 1) vs).mapIdx fun j b =>
      if fmtMx f then encMx f (fun i => rnd (j * bl + i)) b else encScl f (fun i => rnd (j * bl + i)) b
    { bytes := packBits (fmtBits f) (n + 1) (bs.flatMap fun b => b.1) ++
        (if fmtMx f then bs.flatMap fun b => leBytes 1 b.2.1 else bs.flatMap fun b => leBytes 4 b.2.1)
      sat := bs.foldl (fun k b => k + b.2.2.1) 0, nan := bs.foldl (fun k b => k + b.2.2.2) 0 }

/-! ### The functions of data operators (R196, R198, R202, R203) -/

/-- The total order of MAX and MIN: +0 above −0 (R196). -/
def ltTotal (a b : Nat) : Bool :=
  let x := dec32 a; let y := dec32 b
  if x.isZero && y.isZero then bit a 31 && !bit b 31 else x.lt y

def max32 (a b : Nat) : Nat := if isNan32 a || isNan32 b then qNaN32 else if ltTotal a b then b else a
def min32 (a b : Nat) : Nat := if isNan32 a || isNan32 b then qNaN32 else if ltTotal b a then b else a

/-- FUNC of REDUCE on two values: 0 SUM, 1 MAX, 2 MIN, 3 MEAN. -/
def redOp (func a b : Nat) : Nat := match func with | 1 => max32 a b | 2 => min32 a b | _ => add32 a b

/-- Two rows combined element by element. -/
def zipRow (f : Nat → Nat → Nat) : List Nat → List Nat → List Nat
  | a :: as, b :: bs => f a b :: zipRow f as bs
  | _, _ => []

/-- Does candidate (value, position) `a` rank before `b` (R203)? NaN ranks after every number. -/
def ranksBefore (smallest : Bool) (a b : Nat × Nat) : Bool :=
  let na := isNan32 a.1; let nb := isNan32 b.1
  if na && nb then a.2 < b.2
  else if na then false
  else if nb then true
  else
    let ahead := if smallest then ltTotal a.1 b.1 else ltTotal b.1 a.1
    let behind := if smallest then ltTotal b.1 a.1 else ltTotal a.1 b.1
    if ahead then true else if behind then false else a.2 < b.2

/-- A candidate inserted into a ranked list kept to K. -/
def rankInsert (smallest : Bool) (c : Nat × Nat) : List (Nat × Nat) → List (Nat × Nat)
  | [] => [c]
  | d :: ds => if ranksBefore smallest c d then c :: d :: ds else d :: rankInsert smallest c ds

/-- The first K candidates of those given. -/
def topK (smallest : Bool) (k : Nat) (cs : List (Nat × Nat)) : List (Nat × Nat) :=
  cs.foldl (fun acc c => (rankInsert smallest c acc).take k) []

end Sys2Proof.Machine
end

