-- ==== Sys2Proof/Machine/Jobs.lean ====
section
/-! DEFINITION. The job table (R138 to R142, R154): completions, records, stopping a job, and what a stopped job gives up. -/

namespace Sys2Proof.Machine

/-! ### Descriptor fields (Table 5.3, Table 6.3) -/

/-- Descriptor DW k. -/
def Job.dw (j : Job) (k : Nat) : Nat := (j.desc.getD k 0).toNat
def Job.fld (j : Job) (k hi lo : Nat) : Nat := bits (j.dw k) hi lo
def Job.op (j : Job) : Nat := j.fld 0 7 0
def Job.nowait (j : Job) : Bool := bit (j.dw 0) 11
def Job.ordered (j : Job) : Bool := bit (j.dw 0) 10
def Job.urgent (j : Job) : Bool := bit (j.dw 0) 9
def Job.stream (j : Job) : Nat := j.fld 0 31 24
def Job.tilesN (j : Job) : Nat := j.fld 1 31 16
/-- A 52-bit PVA in two descriptor DWs. -/
def Job.pva (j : Job) (k : Nat) : Nat := j.dw k + 2 ^ 32 * j.fld (k + 1) 19 0
/-- A 48-bit two's-complement stride. -/
def signed48 (n : Nat) : Int := if n < 2 ^ 47 then (n : Int) else (n : Int) - 2 ^ 48
def Job.sts (j : Job) : Int := signed48 (j.dw 12 + 2 ^ 32 * j.fld 14 15 0)
def Job.dts (j : Job) : Int := signed48 (j.dw 13 + 2 ^ 32 * j.fld 14 31 16)
/-- Is it a data operator (R187)? -/
def Job.dataOp (j : Job) : Bool := 0x20 ≤ j.op && j.op ≤ 0x3F
def Job.isStep (j : Job) : Bool := j.step.isSome
def Job.isRack (j : Job) : Bool := !j.isStep && j.op == 4

/-- A PVA moved by `k` strides, modulo 2^52. -/
def pvaPlus (p : Nat) (d : Int) : Nat := ((p : Int) + d).emod (2 ^ 52) |>.toNat

/-- The partial CRCs of a checksum combined in job order (R157). -/
def Job.crc (j : Job) : Nat :=
  (sortBy (fun (c : Nat × Nat × Nat) => c.1) j.crcs).foldl
    (fun r c => crcFold r (List.replicate c.2.1 0) ^^^ c.2.2) 0xFFFFFFFF ^^^ 0xFFFFFFFF

/-- RESULT of an ended job (Table 5.6, R195, R227); of a stopped one, the bytes of its completed measures (Table 5.8). -/
def Job.result (j : Job) : Nat :=
  if j.status != .ok && j.status != .linkLost then j.bytes
  else if j.isStep || j.dataOp then j.elems
  else match j.op with
    | 4 => j.pages
    | 5 => if bit (j.dw 15) 0 then 0 else j.crc
    | 6 => j.caskOut
    | _ => j.bytes

def Job.res0 (j : Job) : Nat := j.result % 2 ^ 32
def Job.res1 (j : Job) : Nat := 2 ^ 16 * (j.result / 2 ^ 32 % 2 ^ 16) + j.tilesDone % 2 ^ 16

/-- The job that a measure's work names. -/
def Work.job? (w : Work) : Option (Nat × Nat) :=
  match w with
  | .job a j => some (a, j)
  | .step a j => some (a, j)
  | _ => none

def Job.work (j : Job) : Work := if j.isStep then .step j.agent j.jobid else .job j.agent j.jobid

/-! ### Answers -/

/-- A job's completion sent to one submitter (R140), under R16: a completion record or a JOB_DONE. -/
def State.jobAnswer (s : State) (agent jobid : Nat) (w : Option Issuer × Option Nat) (st : Status) (detail r0 r1 : Nat) :
    State :=
  match w with
  | (some i, _) => s.answerR16 i st detail r0 r1
  | (none, some p) =>
    s.sendHeld p { agt := agent, tid := jobid, body := .jobDone st detail r0 r1, cls := 2, vc := 1, flits := 1 }
  | (none, none) => s

/-- A refusal, which reports no change. -/
def State.jobRefuse (s : State) (agent jobid : Nat) (w : Option Issuer × Option Nat) (st : Status) (detail : Nat) : State :=
  match w with
  | (some i, _) => s.answer i st detail
  | (none, some p) =>
    s.sendPkt p { agt := agent, tid := jobid, body := .jobDone st detail 0 0, cls := 2, vc := 1, flits := 1 }
  | (none, none) => s

/-! ### What jobs hold -/

/-- The job leaves every fault record it waits on (Table 5.8). -/
def State.leaveFaults (s : State) (agent jobid : Nat) : State :=
  s.onXlt fun x => { x with faults := Tbl.mapKV x.faults fun _ f =>
    { f with waiters := f.waiters.filter fun w => w != (agent, jobid) } }

/-- Staging of one output released (R193). -/
def State.freeStage (s : State) (o : OutAcc) : State :=
  if o.stage = 0 then s
  else s.onOpu fun p => { p with stage := Tbl.modD p.stage o.die 0 fun n => n - o.stage }

/-- Step store released on every die where the step holds some, and its place in the dies' queues and on the way between them (R225,
R228). -/
def State.freeStore (s : State) (key : Nat) (r : StepRun) : State :=
  s.onOpu fun p =>
    { p with used := r.claimed.foldl (fun u c => Tbl.modD u c.1 0 fun n => n - c.2) p.used
             queues := Tbl.mapKV p.queues fun _ q => q.filter fun k => k != key
             crossing := p.crossing.filter fun k => k != key }

/-- Live steps of a model. -/
def State.liveSteps (s : State) (m : Nat) : List (Nat × Nat) :=
  (s.eng.jobs.filter fun e => match e.2.step with | some r => r.model == m | none => false).map fun e =>
    (e.2.agent, e.2.jobid)

/-- A model whose last live step is DONE leaves UNLOADING (Table 7.2). -/
def State.unloadCheck (s : State) (m : Nat) : State :=
  let x := Tbl.getD s.opu.models m {}
  if x.state == .unloading && (s.liveSteps m).isEmpty then
    let s := s.onOpu fun p => { p with models := Tbl.del p.models m }
    match x.unloadBy with
    | some i => s.answerR16 i .ok
    | none => s
  else s

/-! ### The end of a job -/

/-- The job's record, kept among the agent's 256 most recent ones (R138). -/
def State.jobRecord (s : State) (j : Job) : State :=
  let r : JobRec := { jobid := j.jobid, step := j.isStep, status := j.status, detail := j.detail, res0 := j.res0,
                      res1 := j.res1, at_ := (s.agentSt j.agent).upTicks }
  s.onEng fun e => { e with recs := Tbl.modD e.recs j.agent [] fun l => (r :: l.filter fun x => x.jobid != j.jobid).take 256 }

/-! ### Tiles that a MAP_UPDATE with SYNC waits for (R113) -/

/-- Tiles of a job pre-checked and not complete, by number. A decode step's IN is a tile until it has been read, and its OUT until it has
been written (R224); the destination of a cask, pre-checked in pieces (R166), and what a job stores after its tiles count as one more. -/
def Job.liveTiles (j : Job) : List Nat :=
  j.tiles.map (fun t => t.k) ++
  match j.step with
  | some r =>
    if r.phase == .pre || r.phase == .ended then []
    else (if r.phase == .reading || (r.phase == .queued && r.layer == 0) then [2 ^ 32] else []) ++ [2 ^ 32 + 1]
  | none => if j.dstDone != 0 || j.closing then [2 ^ 32 + 1] else []

/-- Tiles of an agent pre-checked and not complete, as (agent, JOBID, tile). -/
def State.tilesOf (s : State) (agent : Nat) : List (Nat × Nat × Nat) :=
  (s.eng.jobs.filter fun e => e.2.agent == agent).flatMap fun e => e.2.liveTiles.map fun k => (e.2.agent, e.2.jobid, k)

/-- Tiles that SYNC waits for end (R113): a command with none left answers OK. -/
def State.syncCheck (s : State) : State :=
  let live := fun (t : Nat × Nat × Nat) => match s.job? t.1 t.2.1 with
    | some j => j.liveTiles.contains t.2.2
    | none => false
  let ws := s.xlt.syncs.map fun w => { w with tiles := w.tiles.filter live }
  let (done, rest) := ws.partition fun w => w.tiles.isEmpty
  let s := s.onXlt fun x => { x with syncs := rest }
  done.foldl (fun s w => (s.closeCmd w.openId).answer w.by_ .ok) s

/-- The job is DONE: recorded, answered to its submitter and to each reissue, and removed (R138, R140). -/
def State.finishJob (s : State) (agent jobid : Nat) : State :=
  match s.job? agent jobid with
  | none => s
  | some j =>
    let s := j.outs.foldl (fun s o => s.freeStage o.2) s
    let s := match j.step with
      | some r => s.freeStore (jobKey agent jobid) r
      | none => s
    let s := s.onEng fun e => { e with jobs := Tbl.del e.jobs (jobKey agent jobid) }
    let s := if j.silent then s
      else ((j.by_, j.port) :: j.waiters).foldl (fun s w => s.jobAnswer agent jobid w j.status j.detail j.res0 j.res1)
        (s.jobRecord j)
    let s : State := j.aborts.foldl (fun s i => s.answerR16 i .ok) s
    (match j.step with
      | some r => (if j.status == .ok then s.bump blkOPU 0x0564 else s).unloadCheck r.model
      | none => s : State).syncCheck

/-- Measures of a job that no engine has taken, removed from queues and from pages' queues (R23). -/
def State.dropMeasures (s : State) (w : Work) : State :=
  let s := s.onEng fun e =>
    { e with units := Tbl.mapKV e.units fun _ u => { u with queue := u.queue.filter fun m => m.work != w } }
  s.dropParked fun q => match q.meas with | some (_, m) => m.work == w | none => false

/-- A live job stopped (Table 5.8): STOPPING, its status recorded, its untaken measures dropped; DONE once none runs. -/
def State.stopJob (s : State) (agent jobid : Nat) (st : Status) (detail : Nat) (silent : Bool := false) : State :=
  match s.job? agent jobid with
  | none => s
  | some j =>
    if j.state == .stopping || j.state == .done then
      (if silent then s.setJob agent jobid fun j => { j with silent := true } else s)
    else
      let s := s.leaveFaults agent jobid
      let s := s.dropMeasures j.work
      let s := j.outs.foldl (fun s o => s.freeStage o.2) s
      let s := s.setJob agent jobid fun j =>
        { j with state := .stopping, status := st, detail := detail, silent := silent, outs := [], extra := [], cask := []
                 tiles := j.tiles.map fun t => { t with todo := [] }
                 step := j.step.map fun r => { r with todo := [] } }
      if s.workRuns j.work || (j.isRack && s.workRuns (.rack (j.fld 2 11 0))) then s.change else s.finishJob agent jobid

/-- Every live job that meets a test stopped. -/
def State.stopJobs (s : State) (p : Job → Bool) (st : Status) (detail : Nat) (silent : Bool := false) : State :=
  (s.eng.jobs.filter fun e => p e.2).foldl (fun s e => s.stopJob e.2.agent e.2.jobid st detail silent) s

end Sys2Proof.Machine
end

