-- ==== Sys2Proof/Machine/RgnOps.lean ====
section
/-! DEFINITION. RGN's operations: withdrawal (R54 to R59), the life of a region with its scrubs (R39, R40), attachment (R43,
R44), publication (R48 to R53) and the region commands (R61, R62). -/

namespace Sys2Proof.Machine

/-! ### Locks by placed layers (R213, Table 7.6) -/

/-- Placed layers that are not lost, of every model. -/
def State.layers (s : State) : List Layer := s.opu.models.flatMap fun m => (m.2.placed.map Prod.snd).filter fun l => !l.lost

def State.lockedW (s : State) (r : Nat) : Bool := s.layers.any fun l => l.wreg == r
def State.lockedKv (s : State) (r : Nat) : Bool := s.layers.any fun l => l.kvreg == some r
def State.locked (s : State) (r : Nat) : Bool := s.lockedW r || s.lockedKv r

/-! ### Withdrawal -/

/-- The data bin behind a bin: the one it mirrors, or itself. -/
def Region.dataBin (g : Region) (b : Nat) : Nat := ((g.bins.getD b {}).mirrorOf).getD b

/-- Home indices of the pages of a bin (R56): the pages whose first or second copy lies in it; none for a reserve bin. -/
def Region.homesOf (g : Region) (b : Nat) : List Nat :=
  let x := g.bins.getD (g.dataBin b) {}
  if x.reserve then [] else g.binIdx x

/-- Directory entries that belong to a bin (R56): the images and drafts of its pages, or the drafts in a reserve bin. -/
def State.entriesOf (s : State) (g : Region) (b : Nat) : List Nat :=
  let x := g.bins.getD (g.dataBin b) {}
  if x.reserve then (g.binIdx x).filter fun i => (s.entry i).view == 3
  else (g.binIdx x).flatMap fun h =>
    let p := g.pubIdx h
    if (s.entry p).view == 2 then p :: ((s.entry p).link).toList else [p]

/-- Requests that wait on a page taken off it and refused. -/
def State.refuseParked (s : State) (i : Nat) (p : PReq → Bool) (st : Status) : State :=
  let e := s.entry i
  let go := e.parked.filter p ++ (match e.cow with | some c => c.waiters.filter p | none => [])
  if go.isEmpty then s
  else
    let s := s.setEntry i fun e =>
      { e with parked := e.parked.filter fun q => !p q,
               cow := e.cow.map fun c => { c with waiters := c.waiters.filter fun q => !p q } }
    go.foldl (fun s q => s.refuse q st) s

/-- An agent's grants on listed pages ended by withdrawal (R56): its waiting requests and its data end with ACCESS_REVOKED. -/
def State.revokeOn (s : State) (idxs : List Nat) (agent : Nat) : State :=
  let s := s.stopData (fun q i => q.agent == agent && idxs.contains i) (some .accessRevoked)
  idxs.foldl (fun s i =>
    (s.refuseParked i (fun q => q.agent == agent) .accessRevoked).endGrant i agent (some .accessRevoked) .accessRevoked) s

/-- The same for several agents: the waiting requests of all of them end before any of their grants does. -/
def State.revokeAll (s : State) (idxs agents : List Nat) : State :=
  let s := idxs.foldl (fun s i => s.refuseParked i (fun q => agents.contains q.agent) .accessRevoked) s
  agents.foldl (fun s a => s.revokeOn idxs a) s

/-- One bin withdrawn from agents on the region's list (R54, R56). DESIGN CHOICE: only agents on the list at the withdrawal; one that
is attached later, or detached and attached again, reaches the bin. -/
def State.revokeBin (s : State) (rid b : Nat) (agents : List Nat) : State :=
  let g := s.region rid
  let on := agents.filter fun a => (Tbl.find g.acl a).isSome
  let s := s.setRegion rid fun g => { g with revoked := g.revoked ++ (on.map fun a => (a, b)).filter fun x => !g.revoked.contains x }
  s.change.revokeAll (s.entriesOf g b) on

/-- Does a named agent hold a page of the bin, or have a write-back into it running (R58)? -/
def State.heldIn (s : State) (g : Region) (b : Nat) (agents : List Nat) : Bool :=
  (s.entriesOf g b).any fun i =>
    let e := s.entry i
    agents.any fun a => e.holds a || (match e.wb with | some w => w.q.agent == a | none => false)

/-! ### Scrubs and the end of a region -/

/-- Does a running measure still touch the memory of the bins? -/
def State.binsQuiet (s : State) (bs : List RBin) : Bool :=
  !(s.eng.units.any fun u => match u.2.running with
    | none => false
    | some r => (r.rd ++ r.wr ++ r.wr2).any fun l => l.any fun x => bs.any fun b => overlaps b.pa (MIB2 * b.units) x.1 x.2)

/-- A scrub of bins begun (R40). -/
def State.startScrub (s : State) (sc : Scrub) (segs : List Seg) : State :=
  let id := s.rgn.nextScrub
  let s := s.onRgn fun r => { r with scrubs := Tbl.put r.scrubs id sc, nextScrub := id + 1 }
  s.addAct { work := .scrub id, cls := .mgmt, segs := segs }

/-- The scrubs of a region for one purpose. -/
def State.scrubsOf (s : State) (rid : Nat) (p : ScrubFor → Bool) : List (Nat × Scrub) :=
  s.rgn.scrubs.filter fun x => x.2.region == rid && p x.2.why

/-- A scrub forgotten with its act. -/
def State.dropScrub (s : State) (id : Nat) : State :=
  (s.dropAct (.scrub id)).onRgn fun r => { r with scrubs := Tbl.del r.scrubs id }

/-- Segments that zero the overflow pages a region uses. -/
def State.ovfSegs (s : State) (rid : Nat) : List Seg :=
  (s.rgn.ovf.filter fun o => o.2 == rid + 1 && !s.stackFailed (o.1 % 16)).map fun o =>
    { kind := .zero, dst := [(.raw, ovfPa o.1)], len := MIB2 }

/-- A DESTROYING region whose drain has ended starts its scrub (Table 2.6); it waits while a measure still touches it. -/
def State.startDestroyScrub (s : State) (rid : Nat) : State :=
  let g := s.region rid
  if g.state != .destroying || g.removing || !(s.scrubsOf rid fun w => w == .destroy).isEmpty then s
  else
    let bs := g.bins.filter fun b => !b.gone
    if s.binsQuiet bs then
      s.startScrub { region := rid, why := .destroy, by_ := g.destroyBy } (zeroBins s bs ++ s.ovfSegs rid)
    else s

/-- Every directory index that has an entry of the region. -/
def State.regionIdxs (s : State) (rid : Nat) : List Nat :=
  (s.dir.entries.filter fun e => e.2.state != .free && e.2.region == rid).map Prod.fst

/-- A page's entry FREE: only GEN is kept. -/
def DirEntry.freed (e : DirEntry) : DirEntry := { gen := e.gen }

/-- The region becomes FREE (Table 2.6): its entries, overflow pages, binding and record go. -/
def State.freeRegion (s : State) (rid : Nat) : State :=
  let s := s.onDir fun d => { d with entries := Tbl.mapKV d.entries fun _ e => if e.region == rid then e.freed else e }
  let s := s.onSec fun c => { c with bindings := c.bindings.filter fun b => b.2.region != rid }
  (s.onRgn fun r => { r with regions := Tbl.del r.regions rid, ovf := r.ovf.filter fun o => o.2 != rid + 1 }).change

/-- Agents taken off a region's list, with the bins withdrawn from them (R44). -/
def State.dropAccess (s : State) (rid : Nat) (agents : List Nat) : State :=
  (s.setRegion rid fun g => { g with acl := agents.foldl Tbl.del g.acl, revoked := g.revoked.filter fun x => !agents.contains x.1 }).change

/-- Internal work on a region's pages stopped: copies, and the transfers and write-backs of every agent. -/
def State.stopRegionWork (s : State) (rid : Nat) (st : Status) : State :=
  let idxs := s.regionIdxs rid
  let s := s.stopData (fun q _ => q.region == rid) (some st)
  idxs.foldl (fun s i =>
    let e := s.entry i
    let s := s.refuseParked i (fun _ => true) st
    let s := if e.wb.isSome then s.stopWb i st else s
    let s := match e.nextWb with
      | some w => s.refuse w.q st
      | none => s
    match e.cow with
    | some _ => (s.dropAct (.cow i)).setEntry i fun e => { e with cow := none, nextWb := none }
    | none => s.setEntry i fun e => { e with nextWb := none }) s

/-- Pages that a scrub has made visible enter HOME (Table 2.6): in a versioned region both images share them. -/
def State.enterHome (s : State) (rid : Nat) (idxs : List Nat) : State :=
  let v := if (s.region rid).versioned then 1 else 0
  idxs.foldl (fun s i => s.setEntry i fun e => { e.freed with state := .home, region := rid, view := v }) s

/-- Bins of the listed indices changed. -/
def Region.onBins (g : Region) (is : List Nat) (f : RBin → RBin) : Region :=
  { g with bins := g.bins.mapIdx fun i b => if is.contains i then f b else b }

/-- A scrub is complete (R40): the new pages become visible and the command ends, or the removed bin's memory is free. -/
def State.scrubDone (s : State) (id : Nat) : State :=
  match Tbl.find s.rgn.scrubs id with
  | none => s
  | some sc =>
    if !s.actDone (.scrub id) || sc.why == .destroy || sc.why == .rackOld then s
    else
      let s := (s.dropScrub id).change
      let rid := sc.region
      match sc.why with
      | .binRemove => s.setRegion rid fun g => g.onBins sc.bins fun b => { b with gone := true }
      | _ =>
        let s := s.setRegion rid fun g => g.onBins sc.bins fun b => { b with ready := true }
        let g := s.region rid
        let idxs := (sc.bins.map fun i => g.bins.getD i {}).flatMap fun b =>
          if b.reserve || b.mirrorOf.isSome then [] else g.binIdx b
        let s := s.enterHome rid idxs
        let s := if sc.why == .create then s.setRegion rid fun g => { g with state := .active, createBy := none } else s
        match sc.by_ with
        | some i => s.answerR16 i .ok 0 sc.res0 sc.res1
        | none => s

/-- A DESTROYING region's drain and scrub are complete (Table 2.6): FREE, and the command ends. -/
def State.drainDone (s : State) (rid : Nat) : State :=
  let g := s.region rid
  if g.state != .destroying || g.removing then s
  else
    match s.scrubsOf rid (fun w => w == .destroy) with
    | [] => s.startDestroyScrub rid
    | (id, sc) :: _ =>
      if !s.actDone (.scrub id) then s
      else
        let s := (s.dropScrub id).freeRegion rid
        match sc.by_ with
        | some i => s.answerR16 i .ok
        | none => s

/-! ### Who may, and on what (R42, R62) -/

/-- May the function command regions of this owner (R42)? -/
def State.mayRegion (s : State) (i : Issuer) (owner : Nat) : Bool := s.provider i || (s.func i.fn).tenant == owner

/-- Checks before every other check of a region command: the region exists (R62), then the permission of R42. -/
def State.onTarget (s : State) (i : Issuer) (p : Packet) (f : Nat → Region → State) : State :=
  let r := p.dw 2
  if 4096 ≤ r || (s.region r).state == .free then s.malformed i 2
  else if !s.mayRegion i (s.region r).owner then s.denied i
  else f r (s.region r)

/-! ### REGION_CREATE (R61) -/

/-- The first byte of a name that is not ASCII, or that follows a zero and is not zero (Table 2.10). -/
def nameFault (bs : List Byte) : Option Nat :=
  (List.range bs.length).find? fun k =>
    let b := bs.getD k 0
    128 ≤ b.toNat || (b != 0 && (bs.take k).contains 0)

/-- DETAIL of a field outside its allowed values (Table 2.10): the lowest failing DW. -/
def createFault (p : Packet) : Option Nat :=
  let page := p.fld 3 1 0
  let place := p.fld 3 3 2
  let ver := bit (p.dw 3) 8
  let mir := bit (p.dw 3) 7
  let u := pageUnits page
  let mdie := p.fld 5 21 20
  let die := p.fld 5 17 16
  let mask := p.fld 5 15 0
  let bad5 := p.fld 5 31 22 != 0 || p.fld 5 19 18 != 0 || (place == 1 && mask == 0) || (place != 1 && mask != 0) ||
    (place != 2 && die != 0) || (!(place == 2 && mir) && mdie != 0) || (place == 2 && mir && mdie == die)
  if 4096 ≤ p.dw 2 && p.dw 2 != 0xFFFFFFFF then some 2
  else if p.fld 3 31 22 != 0 || p.fld 3 15 9 != 0 || place == 3 || (ver && 2 ≤ page) then some 3
  else if p.dw 4 == 0 || p.dw 4 % u != 0 then some 4
  else if bad5 then some 5
  else if p.dw 6 % u != 0 || (!ver && p.dw 6 != 0) then some 6
  else (nameFault (((p.words.drop 7).take 4).flatMap fun w => leBytes 4 w.toNat)).map fun k => 7 + k / 4

/-- The region that REGION_CREATE's fields describe. -/
def createRegion (p : Packet) (i : Issuer) : Region :=
  { state := .creating, owner := p.fld 3 21 16, versioned := bit (p.dw 3) 8, mirror := bit (p.dw 3) 7,
    hash := p.fld 3 6 4, placeMode := p.fld 3 3 2, psz := p.fld 3 1 0, dieNo := p.fld 5 17 16,
    mirrorDie := p.fld 5 21 20, stackMask := p.fld 5 15 0, name := (p.words.drop 7).take 4, createBy := some i }

/-- The incarnation of an ID one higher (R115); when it wraps, every entry of the store that names the ID is invalidated. -/
def State.newIncarn (s : State) (rid : Nat) : State :=
  let n := (s.incarn rid + 1) % 65536
  let s := s.onRgn fun r => { r with incarn := Tbl.put r.incarn rid n }
  if n != 0 then s
  else s.onXlt fun x =>
    { x with l0 := x.l0.filter fun e => e.2.region != rid, l1 := x.l1.filter fun e => e.2.region != rid }.freed

/-- The lowest free region ID. -/
def State.freeRid (s : State) : Option Nat := (List.range 4096).find? fun r => (s.region r).state == .free

def State.doRegionCreate (s : State) (i : Issuer) (p : Packet) : State :=
  match createFault p with
  | some d => s.malformed i d
  | none =>
    let g := createRegion p i
    if !s.mayRegion i g.owner then s.denied i
    else if !s.tenantExists g.owner then s.malformed i 3
    else if p.dw 2 != 0xFFFFFFFF && (s.region (p.dw 2)).state != .free then s.busy i
    else
      let data := p.dw 4
      let need := (data + p.dw 6) * (if g.mirror then 2 else 1)
      let rid := if p.dw 2 != 0xFFFFFFFF then some (p.dw 2) else s.freeRid
      if s.quotaOf g.owner < s.tenantUse g.owner + need then s.answer i .quota 1
      else if s.freeTotal < need then s.answer i .quota 2
      else match rid with
        | none => s.answer i .quota 3
        | some rid =>
          match (s.setRegion rid fun _ => g).allocate rid data (p.dw 6) with
          | .inr d => s.answer i .quota d
          | .inl s =>
            let bs := (s.region rid).bins
            let s := s.newIncarn rid
            let sc : Scrub :=
              { region := rid, why := .create, bins := List.range bs.length, by_ := some i,
                res0 := rid + 65536 * bs.length, res1 := 1 }
            let s := s.startScrub sc (zeroBins s bs)
            s.answerR16 i .accepted 0 rid

/-! ### BIN_ADD (R62) -/

def State.doBinAdd (s : State) (i : Issuer) (p : Packet) : State :=
  s.onTarget i p fun rid g =>
    let u := pageUnits g.psz
    let n := p.dw 4 / u
    if p.dw 4 % u != 0 || (p.dw 4 == 0 && p.dw 5 == 0) then s.malformed i 4
    else if p.dw 5 % u != 0 || (!g.versioned && p.dw 5 != 0) then s.malformed i 5
    else if g.state == .creating || g.state == .destroying then s.busy i 2
    else if g.state == .lost then s.answer i .regionLost
    else if g.rack.isSome then s.busy i
    else
      match s.allocate rid (p.dw 4) (p.dw 5) with
      | .inr d => s.answer i .quota d
      | .inl s' =>
        if 1048576 < g.nextPage + n then s.answer i .quota 13
        else
          let bs := (s'.region rid).bins
          let fresh := (List.range bs.length).drop g.bins.length
          (s'.startScrub { region := rid, why := .add, bins := fresh, by_ := some i, res0 := g.nextPage, res1 := n }
            (zeroBins s' (bs.drop g.bins.length))).answerR16 i .accepted

/-! ### BIN_REVOKE (R54 to R59) -/

/-- A draft copy discarded (R59): its page shares the published image again. -/
def State.discardDraft (s : State) (i : Nat) : State :=
  let p := (s.entry i).link.getD i
  let s := (s.dropAct (.cow i)).setEntry i DirEntry.freed
  (s.setEntry p fun e => { e with view := 1, link := none }).reopen p

/-- Draft copies that lie in a bin and belong to pages of other bins. -/
def State.guestDrafts (s : State) (g : Region) (b : Nat) : List Nat :=
  let x := g.bins.getD b {}
  let mine := if x.reserve then [] else (g.binIdx x).map g.pubIdx
  (g.binIdx x).filter fun i => (s.entry i).view == 3 && !(match (s.entry i).link with | some p => mine.contains p | none => false)

/-- A bin removed after its withdrawal (R59): its pages' entries end, drafts in it are discarded, and it is scrubbed. DESIGN
CHOICE: the rule speaks of draft copies alone; a published image that lies in the bin of another page is scrubbed with it. -/
def State.removeBin (s : State) (rid b : Nat) : State :=
  let g := s.region rid
  let d := g.dataBin b
  let pair := d :: (List.range g.bins.length).filter fun m => (g.bins.getD m {}).mirrorOf == some d
  let x := g.bins.getD d {}
  let guests := s.guestDrafts g d
  let s := guests.foldl (fun s i => s.discardDraft i) (s.revokeAll guests (g.acl.map Prod.fst))
  let s := if x.reserve then s
    else
      (g.homesOf d).foldl (fun s h =>
        let pi := g.pubIdx h
        let dr := if (s.entry pi).view == 2 then (s.entry pi).link else none
        let s := match dr with
          | some j => (s.dropAct (.cow j)).giveBack rid j
          | none => s
        if pi == h then s.setEntry h DirEntry.freed else (s.giveBack rid pi).setEntry h DirEntry.freed) s
  let s := s.setRegion rid fun g =>
    { g.onBins pair fun b => { b with removed := true } with cur := g.cur.filter fun c => !(g.homesOf d).contains c.1 }
  s.startScrub { region := rid, why := .binRemove, bins := pair } (zeroBins s (pair.map fun m => g.bins.getD m {}))

/-- Do requests in flight of the agents still touch the pages withdrawn (R57): a request admitted and not yet decided, or a running
measure? -/
def State.inFlight (s : State) (w : Revoke) : Bool :=
  let g := s.region w.region
  let idxs := match w.bin with
    | some b => s.entriesOf g b
    | none => s.regionIdxs w.region
  s.dir.due.any (Due.isReq fun q => w.agents.contains q.agent && q.region == w.region && idxs.contains (s.decideIdx q.region q.home q.draft)) ||
  s.eng.units.any fun u => match u.2.running with
    | none => false
    | some r => w.agents.contains r.m.agent &&
      (r.rd ++ r.wr).any fun l => l.any fun x => idxs.any fun i => overlaps (idxPa i) g.pageSize x.1 x.2

/-- A withdrawal complete (R57): its bin is removed (R59), or the agents' attachment ended (R44), and the command answers OK. -/
def State.endRevoke (s : State) (w : Revoke) : State :=
  let g := s.region w.region
  let stands := [RgnState.active, .degraded, .lost].contains g.state
  let s := match w.bin with
    | some b => if w.remove && stands && !(g.bins.getD b {}).removed then s.removeBin w.region b else s
    | none => s.dropAccess w.region w.agents
  s.answerR16 w.by_ .ok

/-- A withdrawal applied ends when nothing of it is in flight: at once, or at a later boundary (R57). -/
def State.settleRevoke (s : State) (w : Revoke) : State :=
  if s.inFlight w then s.onRgn fun r => { r with revokes := r.revokes ++ [w] } else s.endRevoke w

/-- Withdrawals that wait looked at again. -/
def State.revokesTick (s : State) : State :=
  s.rgn.revokes.foldl (fun s w => s.settleRevoke w) (s.onRgn fun r => { r with revokes := [] })

/-- BIN_REVOKE applied (R54 to R59). DESIGN CHOICE: BUSY with DETAIL 2 comes before MALFORMED with DETAIL 4. -/
def State.doBinRevoke (s : State) (i : Issuer) (p : Packet) : State :=
  s.onTarget i p fun rid g =>
    let a := p.fld 3 7 0
    let b := p.dw 4
    let rem := bit p.flags 2
    if rem && a != 0xFF then s.malformed i 3
    else if g.state == .creating || g.state == .destroying then s.busy i 2
    else if g.bins.length ≤ b || (g.bins.getD b {}).removed then s.malformed i 4
    else if rem && (s.locked rid || g.rack.isSome) then s.busy i
    else
      let agents := if a == 0xFF then g.acl.map Prod.fst else [a]
      if !bit p.flags 1 && s.heldIn g b agents then s.busy i 1
      else
        (s.revokeBin rid b agents).settleRevoke { by_ := i, region := rid, bin := some b, agents := agents, remove := rem }

/-! ### REGION_ATTACH and REGION_DETACH (R43, R44) -/

/-- Does an agent exist: has it a route or a bound function? -/
def State.agentExists (s : State) (a : Nat) : Bool := a != 0 && a < 128 && s.agentKnown a

/-- Do rights and views still cover a request (R43)? -/
def accCovers (g : Region) (x : Acc) (code : ReqCode) (draft : Bool) : Bool :=
  rightsCover (Use.req code).need x.r x.w x.a && (!g.versioned || x.viewOk draft)

/-- Does the agent's grant on an entry survive the new rights and views (R43)? -/
def DirEntry.survives (e : DirEntry) (g : Region) (agent : Nat) (x : Acc) : Bool :=
  let v := !g.versioned || (if e.view == 3 then x.draft else if e.view == 2 then x.pub else x.draft || x.pub)
  v && (if e.holds agent then x.w else x.r)

/-- Rights and views replaced: what they no longer cover is withdrawn (R43). -/
def State.narrow (s : State) (rid agent : Nat) (x : Acc) : State :=
  let g := s.region rid
  (s.regionIdxs rid).foldl (fun s i =>
    let s := s.refuseParked i (fun q => q.agent == agent && !accCovers g x q.code q.draft) .accessRevoked
    let e := s.entry i
    if (e.holds agent || e.sharers.contains agent) && !e.survives g agent x then s.revokeOn [i] agent else s) s

def State.doRegionAttach (s : State) (i : Issuer) (p : Packet) : State :=
  s.onTarget i p fun rid g =>
    let a := p.fld 3 7 0
    let x : Acc := { r := bit (p.dw 3) 8, w := bit (p.dw 3) 9, a := bit (p.dw 3) 10, pub := bit (p.dw 3) 11, draft := bit (p.dw 3) 12 }
    if !s.agentExists a || (g.versioned && !x.pub && !x.draft) then s.malformed i 3
    else if !s.provider i && s.tenantOf a != (s.func i.fn).tenant then s.denied i
    else if g.state == .creating || g.state == .destroying then s.busy i
    else if s.lockedKv rid || (s.lockedW rid && (x.w || x.a)) then s.busy i
    else
      let old := Tbl.find g.acl a
      let s := (s.setRegion rid fun g => { g with acl := Tbl.put g.acl a x }).change
      let s := if old.isSome then s.narrow rid a x else s
      s.answerR16 i .ok

/-- Every bin of a region withdrawn from an agent by force (R44). -/
def State.revokeRegion (s : State) (rid a : Nat) : State :=
  let all := fun (g : Region) => (List.range g.bins.length).map fun b => (a, b)
  let s := s.setRegion rid fun g => { g with revoked := g.revoked ++ (all g).filter fun x => !g.revoked.contains x }
  s.change.revokeOn (s.regionIdxs rid) a

/-- An agent's attachment ended at once, as tenant removal ends it (Table 14.8). -/
def State.detach (s : State) (rid a : Nat) : State := (s.revokeOn (s.regionIdxs rid) a).dropAccess rid [a]

def State.doRegionDetach (s : State) (i : Issuer) (p : Packet) : State :=
  s.onTarget i p fun rid g =>
    let a := p.fld 3 7 0
    if (Tbl.find g.acl a).isNone then s.malformed i 3
    else if g.state == .creating || g.state == .destroying then s.busy i 2
    else (s.revokeRegion rid a).settleRevoke { by_ := i, region := rid, agents := [a] }

/-! ### REGION_DESTROY (R60) and REGION_INFO (R62) -/

/-- A stopped RACK has come to its end: its new bins are released (R175), or what it holds stays with the region (Table 5.12). -/
def State.rackOver (s : State) (rid : Nat) (free : Bool) : State :=
  s.setRegion rid fun g =>
    match g.rack with
    | none => g
    | some r =>
      if !free then { g with rack := none }
      else
        { g.onBins r.newBins fun b => { b with removed := true, gone := true } with
          hash := r.was.getD 0 0, placeMode := r.was.getD 1 0, stackMask := r.was.getD 2 0, dieNo := r.was.getD 3 0
          mirrorDie := r.was.getD 4 0, rack := none }

/-- The RACK of a region stopped with a status at the next measure boundary (R175, Table 5.12): its measures not yet taken go, and it
ends with the last one that runs. -/
def State.stopRack (s : State) (rid : Nat) (st : Status) (detail : Nat := 0) (silent : Bool := false) (free : Bool := false) : State :=
  match (s.region rid).rack with
  | none => s
  | some k =>
    let s := s.dropAct (.rack rid)
    let s := if s.workRuns (.rack rid) then s.setRegion rid fun g => { g with rack := some { k with ending := some free, todo := [] } }
      else s.rackOver rid free
    s.stopJob k.agent k.jobid st detail silent

/-- The last running measure of a stopped RACK is done. -/
def State.rackEnd (s : State) (rid : Nat) : State :=
  if s.workRuns (.rack rid) then s
  else
    let s := match (s.region rid).rack with
      | some r => match r.ending with
        | some free => (s.rackOver rid free).change
        | none => s
      | none => s
    match s.eng.jobs.find? fun e => e.2.isRack && e.2.state == .stopping && e.2.fld 2 11 0 == rid with
    | some e => s.finishJob e.2.agent e.2.jobid
    | none => s

/-- REGION_DESTROY (R60). DESIGN CHOICE: a RACK that it stops ends with ACCESS_REVOKED; Table 5.12 names no status. -/
def State.doRegionDestroy (s : State) (i : Issuer) (p : Packet) : State :=
  s.onTarget i p fun rid g =>
    let force := bit p.flags 1
    if g.state == .destroying then s.busy i 1
    else if s.locked rid || g.pub.isSome then s.busy i
    else if !force && (!g.acl.isEmpty || g.rack.isSome) then s.busy i
    else
      let s := s.stopRack rid .accessRevoked
      let s := s.revokeAll (s.regionIdxs rid) (g.acl.map Prod.fst)
      let s := s.stopRegionWork rid .accessRevoked
      let s := match g.state, g.createBy with
        | .creating, some c => s.answerR16 c .internal
        | _, _ => s
      -- scrubs under way for the region's other commands end with the region's own scrub
      let s := (s.scrubsOf rid fun _ => true).foldl (fun s x =>
        let s := s.dropScrub x.1
        match x.2.why, x.2.by_ with
        | .add, some c => s.answerR16 c .internal
        | _, _ => s) s
      let s := (s.setRegion rid fun g => { g with state := .destroying, destroyBy := some i, createBy := none }).change
      (s.startDestroyScrub rid).answerR16 i .accepted

def State.doRegionInfo (s : State) (i : Issuer) (p : Packet) : State :=
  s.onTarget i p fun _ g =>
    let b := g.bins.getD (p.dw 4) {}
    if g.bins.length ≤ p.dw 4 || b.removed then s.malformed i 4
    else s.answer i .ok 0 (b.pa / MIB2) b.units

/-! ### PUBLISH (R48 to R53) -/

/-- Draft pages held by an agent other than the publisher (order 6 of Table 2.8). -/
def State.draftsHeld (s : State) (rid : Nat) (publisher : Option Nat) : List Nat :=
  (s.regionIdxs rid).filter fun i =>
    let e := s.entry i
    e.view == 3 && (e.state == .held || (e.state == .recalling && e.prior)) && some e.holder != publisher

/-- Step 2 of Table 2.9: invalidations to every sharer of a published page whose draft was copied. -/
def State.pubInval (s : State) (rid : Nat) : State :=
  (s.regionIdxs rid).foldl (fun s i =>
    let e := s.entry i
    if e.view == 2 && e.state == .shared && !e.sharers.isEmpty then s.startInval i 0 false else s) s

/-- Steps 1 and 2 of Table 2.9. -/
def State.pubCollect (s : State) (rid : Nat) : State :=
  (s.setRegion rid fun g => { g with pub := g.pub.map fun p => { p with phase := .collecting, since := s.tick } }).pubInval rid

/-- A publication that waits on recalls goes on when no draft page is held by another agent (R50); one that collects invalidates
also the sharers of a page that its publisher has copied since. -/
def State.pubProceed (s : State) (rid : Nat) : State :=
  match (s.region rid).pub with
  | some p =>
    if p.phase == .collecting then s.pubInval rid
    else if p.phase == .recalling && (s.draftsHeld rid p.publisher).isEmpty then s.pubCollect rid
    else s
  | none => s

/-- RES0 and RES1 of a vintage. -/
def State.answerVintage (s : State) (i : Issuer) (st : Status) (v : Nat) : State := s.answer i st 0 (v % 2 ^ 32) (v / 2 ^ 32)

def State.doPublish (s : State) (i : Issuer) (p : Packet) : State :=
  s.onTarget i p fun rid g =>
    let want := p.dw 4 + 2 ^ 32 * p.fld 5 15 0
    let a := (s.func i.fn).agent
    let publisher := if a == 0 then none else some a
    let held := s.draftsHeld rid publisher
    if !g.versioned then s.malformed i 1
    else if g.state == .lost then s.answer i .regionLost
    else if g.state == .creating || g.state == .destroying then s.busy i
    else if g.vintage == 2 ^ 48 - 1 then s.answerVintage i .vintageExhausted g.vintage
    else match g.pub with
      | some q => s.answerVintage i .publishConflict q.vintage
      | none =>
        if want != g.vintage then s.answerVintage i .publishConflict g.vintage
        else if !held.isEmpty && !bit p.flags 0 then
          s.answer i .heldElsewhere (satAt 0xFFFFFF held.length) ((argMin id (held.map fun h => s.pageNo h)).getD 0)
        else
          let (n, s) := s.openCmd i 0x0207 (!held.isEmpty)
          let pub : Pub := { phase := .recalling, publisher := publisher, vintage := g.vintage + 1, by_ := i, openId := n,
                             accepted := !held.isEmpty, since := s.tick }
          let s := (s.setRegion rid fun g => { g with pub := some pub }).change
          if held.isEmpty then s.pubCollect rid
          else
            let s := s.answer i .accepted
            held.foldl (fun s h => if (s.entry h).state == .held then s.startRecall h else s) s

/-- May the switch of step 4 happen: invalidations done, no draft page with a write-back or a copy running (R52), and no copied page
whose RACK switch is due (Table 5.12)? -/
def State.pubReady (s : State) (rid : Nat) : Bool :=
  ((s.regionIdxs rid).all fun i =>
    let e := s.entry i
    !(e.view == 2 && (e.state == .recalling || !e.sharers.isEmpty)) && !(e.view == 3 && (e.wb.isSome || e.cow.isSome))) &&
  !(match (s.region rid).rack with
    | some r => r.copying.any fun c => c.left == 0 && 2 ≤ (s.entry c.old).view
    | none => false)

/-- One copied page switched (step 4, R51): the draft becomes the published page, and a page that the publisher holds
receives a fresh draft on which the grant continues. -/
def State.pubSwitch (s : State) (rid home : Nat) (publisher : Option Nat) : State :=
  let g := s.region rid
  let p := g.pubIdx home
  let ep := s.entry p
  match ep.view, ep.link with
  | 2, some d =>
    let ed := s.entry d
    let s := s.setRegion rid fun g =>
      { g with cur := if d == home then Tbl.del g.cur home else Tbl.put g.cur home d,
               pub := g.pub.map fun x => { x with olds := x.olds ++ [p] } }
    let s := s.setEntry p fun e => { e with state := .home, view := 0, link := none, parked := [], sharers := [], pending := [] }
    let s := s.setEntry d fun e => { e with view := 1, link := none, parked := ed.parked ++ ep.parked }
    let mine := match publisher with
      | some a => ed.holds a
      | none => false
    if !mine then s
    else
      match s.takeCow rid with
      | .inr _ => s.endGrant d ed.holder (some .quota) .quota
      | .inl (f, s) =>
        let s := s.setEntry d fun e => { e.toHome with parked := ep.parked }
        let s := s.startCow rid d f true []
        s.setEntry f fun e =>
          { e with state := ed.state, holder := ed.holder, gen := ed.gen, prior := ed.prior, met := ed.met,
                   deadline := ed.deadline, deadField := ed.deadField, parked := ed.parked }
  | _, _ => s

/-- Pages of a region whose draft was copied, by home index. -/
def State.copiedHomes (s : State) (g : Region) : List Nat := g.homes.filter fun h => (s.entry (g.pubIdx h)).view == 2

/-- The switch of step 4 (R52): every copied page at one boundary, then the new vintage, answered under R16. -/
def State.publishSwitch (s : State) (rid : Nat) : State :=
  let g := s.region rid
  match g.pub with
  | none => s
  | some p =>
    if p.phase != .collecting || s.tick ≤ p.since || !s.pubReady rid then s
    else
      let hs := s.copiedHomes g
      let s := hs.foldl (fun s h => s.pubSwitch rid h p.publisher) s
      let s := (s.setRegion rid fun g =>
        { g with vintage := p.vintage, pub := g.pub.map fun x => { x with phase := .switched, since := s.tick } }).change
      let s := hs.foldl (fun s h => s.reopen ((s.region rid).pubIdx h)) s
      let s := s.closeCmd p.openId
      s.answerR16 p.by_ .ok 0 (p.vintage % 2 ^ 32) (p.vintage / 2 ^ 32)

/-- Step 6 of Table 2.9, two ticks after the switch: the old pages are released and the parked writes resumed. DESIGN CHOICE: until
then the publication counts as pending, for PUBLISH_CONFLICT, REGION_DESTROY and RGN_REGION_STATUS alike. -/
def State.pubRelease (s : State) (rid : Nat) : State :=
  match (s.region rid).pub with
  | none => s
  | some p =>
    if p.phase != .switched || s.tick < p.since + 2 then s
    else
      let s := p.olds.foldl (fun s i => s.giveBack rid i) s
      let s := (s.setRegion rid fun g => { g with pub := none }).change
      (s.regionIdxs rid).foldl (fun s i => s.reopen i) s

/-- A pending publication ended without a switch (R52). -/
def State.endPub (s : State) (rid : Nat) (st : Option Status) : State :=
  match (s.region rid).pub with
  | none => s
  | some p =>
    let s := (s.setRegion rid fun g => { g with pub := none }).closeCmd p.openId
    match st, p.phase with
    | _, .switched => s
    | some st, _ => s.answerR16 p.by_ st
    | none, _ => s

end Sys2Proof.Machine
end

