-- ==== Sys2Proof/Machine/Rack.lean ====
section
/-! DEFINITION. Racking (R169 to R176): acceptance, the copying of pages, their switch, the leaf rewrite and the end. -/

namespace Sys2Proof.Machine

/-! ### Acceptance (R169, R170) -/

/-- Fields of Table 5.11 outside the values that REGION_CREATE allows: the descriptor DWs. -/
def rackFaults (j : Job) (mirror : Bool) : List Nat :=
  let place := j.fld 3 3 2
  let mdie := j.fld 8 21 20
  let die := j.fld 8 17 16
  let mask := j.fld 8 15 0
  (if place == 3 then [3] else []) ++
  (if (place == 1 && mask == 0) || (place != 1 && mask != 0) || (place != 2 && die != 0) ||
      (!(place == 2 && mirror) && mdie != 0) || (place == 2 && mirror && mdie == die) then [8] else [])

/-- Ranges of consecutive numbers in a rising list, as first and count. -/
def ranges : List Nat → List (Nat × Nat)
  | [] => []
  | a :: r => match ranges r with
    | (b, n) :: rest => if a + 1 = b then (a, n + 1) :: rest else (a, 1) :: (b, n) :: rest
    | [] => [(a, 1)]

/-- Pages of the region's live bins of one kind: page number and first PA, rising by number. -/
def Region.framesOf (g : Region) (reserve mirror : Bool) (is : List Nat) : List (Nat × Nat) :=
  sortBy Prod.fst (is.flatMap fun i =>
    let b := g.bins.getD i {}
    if b.reserve == reserve && b.mirrorOf.isSome == mirror then
      (List.range (g.binPages b)).map fun k => (b.first + k * b.step, b.pa + k * g.pageSize)
    else [])

/-- Destination bins for listed ranges of pages, and whether every stack had room. -/
def State.allocRanges (s : State) (rid : Nat) (reserve : Bool) (rs : List (Nat × Nat)) : State × Bool :=
  rs.foldl (fun (acc : State × Bool) r =>
    let (s, ok) := acc.1.allocPages rid r.1 r.2 reserve
    (s, acc.2 && ok)) (s, true)

/-- Every destination bin of a RACK allocated, the region's attributes already new; else the QUOTA detail, the lowest of 2, 4 and 5 that
applies (R38, R170). -/
def State.rackAlloc (s : State) (rid : Nat) (data : List Nat) (reserve : Nat) : State ⊕ Nat :=
  let g := s.region rid
  let need := (data.length + reserve) * pageUnits g.psz * (if g.mirror then 2 else 1)
  if s.freeTotal < need then .inr 2
  else
    let (s, ok) := s.allocRanges rid false (ranges data)
    let (s, ok') := s.allocRanges rid true (if reserve = 0 then [] else [(0, reserve)])
    if 1024 < (s.region rid).heldBins || 65536 < s.binCount then .inr 4
    else if !(ok && ok') then .inr 5
    else .inl s

/-- May a locked region be racked (Table 7.6)? Only while DEGRADED and onto each layer's current die. -/
def State.rackLocked (s : State) (rid die : Nat) (degraded : Bool) : Bool :=
  s.layers.any fun l => (l.wreg == rid || l.kvreg == some rid) && !(degraded && l.die == die)

/-- Pairs of old and new frames, in ascending page number. -/
def rackPairs (g : Region) (old new_ : List Nat) : List RackPage :=
  let one (reserve : Bool) : List RackPage :=
    let a := g.framesOf reserve false old
    let b := g.framesOf reserve false new_
    let m := g.framesOf reserve true new_
    (a.zip b).mapIdx fun i x =>
      { old := (paIdx x.1.2).getD 0, new_ := (paIdx x.2.2).getD 0,
        mir := if g.mirror then (m[i]?).bind fun y => paIdx y.2 else none, left := g.pageSize }
  one false ++ one true

/-- The stack that a page is racked from. DESIGN CHOICE for a page whose first copy's stack has failed: that of its surviving copy. -/
def State.rackSrc (s : State) (g : Region) (c : RackPage) : Nat :=
  stackOf (((s.copies g (idxPa c.old)).head?).getD (idxPa c.old))

/-- Does a measure belong to a page's copy? -/
def Meas.racks (m : Meas) (rid : Nat) (c : RackPage) : Bool := m.work == .rack rid && m.pos / 2 ^ 40 == c.old

/-- Do measures of a page's copy wait in queues? -/
def State.rackWaiting (s : State) (rid : Nat) (c : RackPage) : Bool := s.eng.units.any fun u => u.2.queue.any fun m => m.racks rid c

/-- Is some of a page's copy not yet cut into measures? -/
def State.rackUncut (s : State) (rid : Nat) (c : RackPage) : Bool :=
  match s.act? (.rack rid) with
  | some a => a.segs.any fun g => g.pos / 2 ^ 40 == c.old
  | none => false

/-- Has every measure of the pages that its source stack racks before it been taken (R171)? -/
def State.rackTurn (s : State) (m : Meas) : Bool :=
  match m.work with
  | .rack rid =>
    let g := s.region rid
    match g.rack with
    | some r =>
      (r.copying.takeWhile fun c => m.pos / 2 ^ 40 != c.old).all fun c =>
        s.rackSrc g c != m.stack || !(s.rackWaiting rid c || s.rackUncut rid c)
    | none => true
  | _ => true

/-- The next page of each source stack starts to be copied when the last one's measures have all been cut; they are taken one page
after the other (R171). Measures read the surviving copy and write the new location, or both new copies. -/
def State.rackFeed (s : State) (rid : Nat) : State :=
  (List.range 16).foldl (fun s k =>
    let g := s.region rid
    match g.rack with
    | none => s
    | some r =>
      let mine := r.copying.filter fun c => s.rackSrc g c == k
      if r.ending.isSome || mine.any (s.rackUncut rid) || 1 < (mine.filter (s.rackWaiting rid)).length then s
      else match r.todo.find? fun c => s.rackSrc g c == k with
        | none => s
        | some c =>
          let s := s.setRegion rid fun g => { g with rack := g.rack.map fun r =>
            { r with todo := r.todo.filter fun x => x.old != c.old, copying := r.copying ++ [c] } }
          s.setAct (.rack rid) fun a => { a with segs := a.segs ++ [
            { kind := .copy, src := [(.idx rid c.old, 0)], dst := [(.idx rid c.new_, 0)], len := g.pageSize, pos := 2 ^ 40 * c.old }] }) s

/-- Every RACK looked at. -/
def State.rackFeeds (s : State) : State :=
  ((s.rgn.regions.filter fun e => e.2.rack.isSome).map Prod.fst).foldl (fun s r => s.rackFeed r) s

/-- A RACK begins, for a job already in the table (R170). The flag says that it was accepted; else the refusal. -/
def State.rackBegin (s : State) (j : Job) : State ⊕ (Status × Nat) :=
  let rid := j.fld 2 11 0
  let g := s.region rid
  let issuerOk := match j.by_ with
    | some i => s.provider i || (s.func i.fn).tenant == g.owner
    | none => false
  if g.state != .free && !issuerOk then .inr (.deniedRights, 0)
  else if !(g.state == .active || g.state == .degraded) || g.rack.isSome then .inr (.busy, 0)
  else
      let die := j.fld 8 17 16
      let deg := g.state == .degraded
      if s.rackLocked rid die deg then .inr (.busy, 0)
      else
        let old := (List.range g.bins.length).filter fun i => !(g.bins.getD i {}).removed && !(g.bins.getD i {}).gone
        let data := (g.framesOf false false old).map Prod.fst
        let res := (g.framesOf true false old).length
        let s1 := s.setRegion rid fun g =>
          { g with hash := j.fld 3 6 4, placeMode := j.fld 3 3 2, stackMask := j.fld 8 15 0, dieNo := die
                   mirrorDie := j.fld 8 21 20 }
        match s1.rackAlloc rid data res with
        | .inr d => .inr (.quota, d)
        | .inl s2 =>
          let fresh := (List.range (s2.region rid).bins.length).drop g.bins.length
          let r : Rack := { agent := j.agent, jobid := j.jobid, oldBins := old, newBins := fresh,
                            todo := rackPairs (s2.region rid) old fresh, rebuild := deg,
                            was := [g.hash, g.placeMode, g.stackMask, g.dieNo, g.mirrorDie] }
          let s3 := (s2.setRegion rid fun g => { g with rack := some r }).addAct { work := .rack rid, cls := .mgmt, agent := 0 }
          .inl ((s3.rackFeed rid).change)

/-- Bytes of a RACK page's copy done, counted also in the job's RESULT (Table 5.8); the page is known by the index of its old place. -/
def State.rackCopied (s : State) (rid old n : Nat) : State :=
  match (s.region rid).rack with
  | none => s
  | some r =>
    (s.setJob r.agent r.jobid fun j => { j with bytes := j.bytes + n }).setRegion rid fun g => { g with rack := g.rack.map fun r =>
      { r with copying := r.copying.map fun c => if c.old == old then { c with left := c.left - n } else c } }

/-- When every page has switched, the old bins are scrubbed beside the rewrite (R174), once no measure still reads them. -/
def State.rackScrub (s : State) (rid : Nat) : State :=
  let g := s.region rid
  match g.rack with
  | none => s
  | some r =>
    let bs := r.oldBins.map fun i => g.bins.getD i {}
    if r.ending.isSome || !r.todo.isEmpty || !r.copying.isEmpty || !(s.scrubsOf rid fun w => w == .rackOld).isEmpty || !s.binsQuiet bs then s
    else (s.dropAct (.rack rid)).startScrub { region := rid, why := .rackOld, bins := r.oldBins } (zeroBins s bs)

/-! ### Renaming a directory index (R173) -/

def MAt.moved (o n : Nat) (a : MAt) : MAt := match a with | .idx r i => if i = o then .idx r n else a | a => a
def MSide.moved (o n : Nat) (m : MSide) : MSide := { m with at_ := m.at_.moved o n }
def Meas.moved (o n : Nat) (m : Meas) : Meas := { m with src := m.src.map (MSide.moved o n), dst := m.dst.map (MSide.moved o n) }
def IdemRec.moved (o n : Nat) (x : IdemRec) : IdemRec := if x.page = some o then { x with page := some n } else x
def Seg.moved (o n : Nat) (g : Seg) : Seg :=
  { g with src := g.src.map fun x => (x.1.moved o n, x.2), dst := g.dst.map fun x => (x.1.moved o n, x.2) }

/-- Waiting work that names an index takes the new one. -/
def State.moveWork (s : State) (o n : Nat) : State :=
  let s := s.onEng fun e =>
    { e with acts := e.acts.map fun a => { a with segs := a.segs.map (Seg.moved o n) }
             units := Tbl.mapKV e.units fun _ u => { u with queue := u.queue.map (Meas.moved o n) } }
  s.onDir fun d => { d with transfers := Tbl.mapKV d.transfers fun _ t => (t.1, if t.2 = o then n else t.2) }

/-- Is no measure running that touches the page at an index? -/
def State.pageQuiet (s : State) (i n : Nat) : Bool :=
  !(s.eng.units.any fun u => match u.2.running with
    | none => false
    | some r => (r.wr ++ r.wr2).any fun l => l.any fun x => overlaps (idxPa i) n x.1 x.2)

/-- A racked page switches (R173): its entry moves whole, the names of it follow, the old index becomes FREE. -/
def State.rackSwitch (s : State) (rid old : Nat) : State :=
  let g := s.region rid
  match g.rack with
  | none => s
  | some r =>
    match r.copying.find? fun c => c.old == old && c.left == 0 with
    | none => s
    | some c =>
      let e := s.entry old
      if e.wb.isSome || e.cow.isSome || !s.pageQuiet old g.pageSize then s
      else
        let s := (s.setEntry c.new_ fun _ => e).setEntry old DirEntry.freed
        -- LINK fields, copies that read the page, and idempotency records that name it
        let s := s.onDir fun d =>
          { d with
            entries := Tbl.mapKV d.entries fun _ x => if x.region != rid then x else
              { x with link := if x.link == some old then some c.new_ else x.link
                       cow := x.cow.map fun w => if w.src == old then { w with src := c.new_ } else w }
            agents := Tbl.mapKV d.agents fun _ a => { a with recs := a.recs.map (IdemRec.moved old c.new_) } }
        let home := match g.cur.find? fun x => x.2 == old with
          | some x => some x.1
          | none => if (g.locate (idxPa old)).isSome then some old else none
        let s := match home with
          | some h => if (Tbl.find g.cur h).isSome || h == old then
              (if (Tbl.getD g.cur h h) == old then s.setRegion rid fun g => { g with cur := Tbl.put g.cur h c.new_ } else s)
            else s
          | none => s
        let s := s.moveWork old c.new_
        let s := s.setRegion rid fun g => { g with
          pub := g.pub.map fun p => { p with olds := p.olds.map fun i => if i = old then c.new_ else i }
          rack := g.rack.map fun r =>
            { r with copying := r.copying.filter fun x => x.old != old, done := r.done ++ [c] } }
        let s := s.setJob r.agent r.jobid fun j => { j with pages := j.pages + 1 }
        (s.change.rackScrub rid).reopen c.new_

/-! ### The leaf rewrite and the end (R174) -/

/-- A leaf of the region with its page's new frame; FRAME of an entry inside a group keeps its place in the page. -/
def Leaf.renamed (r : Rack) (size : Nat) (l : Leaf) : Leaf :=
  let pa := MIB2 * l.frame
  let base := pa / size * size
  match paIdx base with
  | some h => { l with frame := (idxPa (r.place h) + (pa - base)) / MIB2 }
  | none => l

def PReq.rehomed (rid : Nat) (r : Rack) (q : PReq) : PReq := if q.region == rid then { q with home := r.place q.home } else q
def MAt.rehomed (rid : Nat) (r : Rack) (a : MAt) : MAt :=
  match a with | .page g h d => if g = rid then .page g (r.place h) d else a | a => a
def Meas.rehomed (rid : Nat) (r : Rack) (m : Meas) : Meas :=
  { m with src := m.src.map fun x => { x with at_ := x.at_.rehomed rid r }, dst := m.dst.map fun x => { x with at_ := x.at_.rehomed rid r } }
def TPage.rehomed (rid : Nat) (r : Rack) (size : Nat) (p : TPage) : TPage :=
  if p.leaf.region == rid then { p with leaf := p.leaf.renamed r size } else p
def Job.rehomed (rid : Nat) (r : Rack) (size : Nat) (j : Job) : Job :=
  { j with tiles := j.tiles.map fun t => { t with pages := t.pages.map (TPage.rehomed rid r size), todo := t.todo.map (Meas.rehomed rid r) }
           dstPages := j.dstPages.map (TPage.rehomed rid r size), srcPages := j.srcPages.map (TPage.rehomed rid r size)
           extra := j.extra.map (Meas.rehomed rid r)
           step := j.step.map fun t => { t with inPages := t.inPages.map (TPage.rehomed rid r size)
                                                outPages := t.outPages.map (TPage.rehomed rid r size)
                                                todo := t.todo.map (Meas.rehomed rid r) } }

/-- Every home index of the region that anything in the part still names takes its new value. -/
def State.rehome (s : State) (rid : Nat) (r : Rack) : State :=
  let size := (s.region rid).pageSize
  let fq := PReq.rehomed rid r
  let s := s.onDir fun d =>
    { d with entries := Tbl.mapKV d.entries fun _ e => if e.region == rid then e.mapReqs fq else e
             due := d.due.map (Due.mapReq fq)
             transfers := Tbl.mapKV d.transfers fun _ t => (fq t.1, t.2) }
  s.onEng fun e =>
    { e with units := Tbl.mapKV e.units fun _ u => { u with queue := u.queue.map (Meas.rehomed rid r) }
             jobs := Tbl.mapKV e.jobs fun _ j => j.rehomed rid r size }

/-- The leaf rewrite ends (R174): FRAME of every leaf of the region, and one RACKED event for each attached agent. -/
def State.rackRewrite (s : State) (rid : Nat) : State :=
  let g := s.region rid
  match g.rack with
  | none => s
  | some r =>
    if r.rewritten || r.ending.isSome || !r.todo.isEmpty || !r.copying.isEmpty then s
    else
      let fix := fun (l : Leaf) => if l.region == rid then l.renamed r g.pageSize else l
      let s := s.onXlt fun x => { x with l0 := Tbl.mapKV x.l0 fun _ l => fix l, l1 := Tbl.mapKV x.l1 fun _ l => fix l }
      let s := (g.acl.map Prod.fst).foldl (fun s a => s.cacheDrop a 0 (2 ^ 52)) s
      let s := s.rehome rid r
      let s := s.setRegion rid fun g =>
        { (g.onBins r.newBins fun b => { b with ready := true }).onBins r.oldBins fun b => { b with removed := true } with
          cur := g.cur.foldl (fun t c =>
            let h := r.place c.1
            if h == c.2 then t else Tbl.put t h c.2) []
          rack := some { r with rewritten := true } }
      (g.acl.map Prod.fst).foldl (fun s a =>
        s.event (s.ownerFns a) evRACKED (leBytes 2 rid ++ leBytes 1 a ++ leBytes 1 g.hash ++ leBytes 1 g.placeMode)) s.change

/-- The rewrite and the scrub of the old bins have both ended (R174): the old bins are released and the job is DONE; a
rebuilt region returns to ACTIVE (Table 2.6). -/
def State.rackDone (s : State) (rid : Nat) : State :=
  let g := s.region rid
  match g.rack with
  | none => s
  | some r =>
    match s.scrubsOf rid (fun w => w == .rackOld) with
    | [] => s
    | (id, _) :: _ =>
      if !r.rewritten || !s.actDone (.scrub id) then s
      else
        let s := s.dropScrub id
        let whole := g.bins.all fun b => b.gone || b.removed || !s.stackFailed (stackOf b.pa)
        let s := (s.setRegion rid fun g =>
          { g.onBins r.oldBins fun b => { b with gone := true } with
            rack := none, state := if r.rebuild && g.state == .degraded && whole then .active else g.state }).change
        let s := s.setJob r.agent r.jobid fun j => { j with status := .ok, tilesDone := 1 }
        s.finishJob r.agent r.jobid

/-- A RACK aborted before its first page switches (R175): it stops, and its destination bins are released. -/
def State.rackAbort (s : State) (rid : Nat) (st : Status) (detail : Nat) : State := s.stopRack rid st detail false true

end Sys2Proof.Machine
end

