-- ==== Sys2Proof/Machine/XltCmd.lean ====
section
/-! DEFINITION. XLT's commands: MAP_UPDATE (R111 to R113), MAP_DIGEST (R116, R117), the hold of R114, table owners (R110), and
the fault records of tiles (R123 to R126). -/

namespace Sys2Proof.Machine

/-! ### Permission and owners (R110) -/

/-- May the function change or read the tables of an agent? -/
def State.mayMap (s : State) (i : Issuer) (agent : Nat) : Bool := s.provider i || (s.func i.fn).tenant == s.tenantOf agent

/-- The owner recorded or cleared. -/
def State.setOwner (s : State) (agent : Nat) (fn : Option Nat) : State :=
  s.onXlt fun x => { x with
    owner := match fn with | some f => Tbl.put x.owner agent f | none => Tbl.del x.owner agent
    ownerField := match fn with | some f => Tbl.put x.ownerField agent f | none => x.ownerField }

/-- The owner that an agent's bindings give: its lowest-numbered function. With no function left, no owner is recorded. -/
def State.deriveOwner (s : State) (agent : Nat) : State := if agent = 0 then s else s.setOwner agent (s.fnsOf agent).head?

/-- The first MAP_UPDATE accepted after an agent comes up makes its issuer the owner, unless the agent has functions. -/
def State.firstOwner (s : State) (agent fn : Nat) : State :=
  if s.xlt.firstMap.contains agent then s
  else
    let s := s.onXlt fun x => { x with firstMap := agent :: x.firstMap }
    if s.hostAgent agent then s else s.setOwner agent (some fn)

/-! ### MAP_UPDATE -/

/-- Key of entry `k` of a command that starts at `pva`. -/
def lvlKey (l agent pva k : Nat) : Nat := if l = 0 then l0Key agent pva + k else l1Key agent pva + k

def Xlt.at_ (x : Xlt) (l key : Nat) : Option Leaf := if l = 0 then Tbl.find x.l0 key else Tbl.find x.l1 key

/-- The 128 bits of entry `k` in the packet. -/
def entryOf (p : Packet) (k : Nat) : Nat := leNatW ((p.words.drop (8 + 4 * k)).take 4)

/-- Bits of Table 4.2 that are reserved. -/
def entryRsv (n : Nat) : Bool := bits n 95 80 != 0 || bits n 63 60 != 0 || bits n 47 44 != 0 || bits n 23 9 != 0

/-- An entry without INCARN, which is ignored wherever entries are compared. -/
def noIncarn (n : Nat) : Nat := n - place (bits n 79 64) 16 64

/-- The bin in which an entry's frame may lie: while a RACK runs, one of the old bins (R174). -/
def Region.mapBin (g : Region) (pa : Nat) : Option RBin :=
  match g.rack with
  | some r => (r.oldBins.map fun i => g.bins.getD i {}).find? fun b =>
      !b.reserve && b.mirrorOf.isNone && b.pa ≤ pa && pa < b.pa + MIB2 * b.units
  | none => (g.locate pa).map fun x => x.2.1

/-- The lowest cause of Table 4.6 for entry `k` of an update, none when it passes. DESIGN CHOICE: a FREE region has no page size, so an
entry that names one passes cause 4 and answers cause 5. -/
def State.entryCause (s : State) (agent lvl pva n : Nat) (es : List Nat) (k : Nat) : Option Nat :=
  let e := es.getD k 0
  let key := lvlKey lvl agent pva k
  let valid := bit e 0
  let l := Leaf.ofNat e
  let g := s.region l.region
  let known := g.state != .free
  let base := key / 16 * 16 - lvlKey lvl agent pva 0   -- first entry of its aligned group, as an entry number
  let whole := lvlKey lvl agent pva 0 ≤ key / 16 * 16 && base + 16 ≤ n
  let same := (List.range 16).all fun j => noIncarn (es.getD (base + j) 0) == noIncarn e
  let isGrp := fun (x : Leaf) => x.psize == 1 || x.psize == 3
  let oldGrp := match s.xlt.at_ lvl key with | some o => isGrp o | none => false
  let pa := MIB2 * l.frame
  let frameOk := pa % pageBytes l.psize == 0 && !inHole pa && offOf pa < RSV_OFF &&
    (match g.mapBin pa with
     | some b => b.ready && (pa - b.pa) % g.pageSize == 0
     | none => false)
  let acc := Tbl.find g.acl agent
  let here := pva + k * lvlSpan lvl
  if (valid && !bit e 1) || entryRsv e || (!valid && noIncarn e % 2 ^ 96 != 0) then some 2
  else if valid && (if lvl = 0 then 2 ≤ l.psize else l.psize < 2) then some 3
  else if valid && known && l.psize != g.psz then some 4
  else if valid && !(g.state == .active || g.state == .degraded) then some 5
  else if valid && !frameOk then some 6
  else if (valid && isGrp l && !(whole && same)) || (oldGrp && !whole) then some 7
  else if valid && ((l.view && !g.versioned) ||
      (match acc with | some a => g.versioned && !a.viewOk l.view | none => false)) then some 8
  else if valid && acc.isNone then some 9
  else if (if lvl = 0 then !s.xlt.l0Table agent here && (Tbl.find s.xlt.l1 (l1Key agent here)).isSome
      else s.xlt.l0Table agent here) then some 10
  else none

/-- An entry with a frame of an old bin after the leaf rewrite of a RACK takes the page's new frame (R174). -/
def State.carried (s : State) (l : Leaf) : Leaf :=
  match (s.region l.region).rack with
  | some r => if r.rewritten then l.renamed r (s.region l.region).pageSize else l
  | none => l

/-- The tables with an update's entries applied, INCARN stamped (R115). -/
def State.mapped (s : State) (agent lvl pva : Nat) (es : List Nat) : Xlt :=
  (es.mapIdx fun k e => (k, e)).foldl (fun x ke =>
    let key := lvlKey lvl agent pva ke.1
    let l := Leaf.ofNat ke.2
    let l := s.carried { l with incarn := s.incarn l.region }
    if bit ke.2 0 then (if lvl = 0 then { x with l0 := Tbl.put x.l0 key l } else { x with l1 := Tbl.put x.l1 key l })
    else (if lvl = 0 then { x with l0 := Tbl.del x.l0 key } else { x with l1 := Tbl.del x.l1 key })) s.xlt

/-- A table that has come into being is given its place, and both its copies are written whole (R107). -/
def State.placeTable (s : State) (lvl agent pva : Nat) : State :=
  let k := tableKey lvl agent pva
  if (Tbl.find s.xlt.place k).isSome || !s.xlt.hasTable k then s
  else
    let (c, s) := s.draw
    let s := s.onXlt fun x => { x with place := Tbl.put x.place k c }
    let (a, b) := s.tablePlace k
    (s.clearPoison a 8192).clearPoison b 8192

/-- The tables changed by an update: emptied ones are freed, new ones placed, and both copies of its entries written (R107, R113). -/
def State.writeTables (s : State) (x : Xlt) (agent lvl pva n : Nat) : State :=
  let s := ((s.onXlt fun _ => x.freed).placeTable 1 agent pva).placeTable 0 agent pva
  let (a, b) := s.entryPas lvl agent pva
  (s.clearPoison a (16 * n)).clearPoison b (16 * n)

/-- An entry fault's DETAIL: entry number and cause code (R112). -/
def mapDetail (k c : Nat) : Nat := k * 256 + c

/-- Does a field of a MAP_UPDATE's header refuse the command (cause 1 of Table 4.6)? -/
def mapHead (p : Packet) : Bool :=
  let agent := p.fld 2 7 0
  let n := p.fld 3 23 16
  let lvl := p.fld 3 1 0
  let pva := p.dw 4 + 2 ^ 32 * p.fld 5 19 0
  let span := lvlSpan lvl
  agent == 0 || 128 ≤ agent || 2 ≤ lvl || n == 0 || 240 < n || pva % span != 0 || 512 < pva / span % 512 + n || p.len != 8 + 4 * n

def State.mapUpdateNow (s : State) (i : Issuer) (p : Packet) : State :=
  let agent := p.fld 2 7 0
  let n := p.fld 3 23 16
  let lvl := p.fld 3 1 0
  let pva := p.dw 4 + 2 ^ 32 * p.fld 5 19 0
  let span := lvlSpan lvl
  if mapHead p then s.malformed i (mapDetail 0xFFFF 1)
  else if !s.mayMap i agent then s.denied i
  else
    let es := (List.range n).map fun k => entryOf p k
    match (List.range n).findSome? fun k => (s.entryCause agent lvl pva n es k).map fun c => mapDetail k c with
    | some d => s.malformed i d
    | none =>
      let x := s.mapped agent lvl pva es
      if TABLES < x.tables then s.answer i .quota 7
      else
        let s := (s.writeTables x agent lvl pva n).change
        let s := s.cacheDrop agent pva (n * span)
        let s := s.firstOwner agent i.fn
        let tiles := s.tilesOf agent
        if !bit p.flags 0 || tiles.isEmpty then s.answer i .ok
        else
          let (o, s) := s.openCmd i 0x0301 false
          s.onXlt fun x => { x with syncs := x.syncs ++ [{ by_ := i, openId := o, agent := agent, tiles := tiles }] }

/-- Does a digest of the agent still run, or is an earlier command of the agent held (R114)? -/
def State.mapHeld (s : State) (agent : Nat) : Bool :=
  s.xlt.digests.any (fun d => d.agent == agent) || s.xlt.heldMaps.any fun h => h.2.fld 2 7 0 == agent

def State.hold (s : State) (i : Issuer) (p : Packet) : State := s.onXlt fun x => { x with heldMaps := x.heldMaps ++ [(i, p)] }

def State.doMapUpdate (s : State) (i : Issuer) (p : Packet) : State :=
  if s.mapHeld (p.fld 2 7 0) then s.hold i p else s.mapUpdateNow i p

/-! ### MAP_DIGEST -/

/-- The logical form of entry `k` of a range (R116): 16 bytes, and whether it is a valid leaf. -/
def State.digestEntry (s : State) (agent lvl pva k : Nat) : List Byte × Bool :=
  let here := pva + k * lvlSpan lvl
  let ptr := leBytes 16 1
  let leaf := fun (o : Option Leaf) => match o with
    | some l => (leBytes 16 { l with incarn := 0 }.toNat, true)
    | none => (List.replicate 16 0, false)
  if lvl = 2 then (if s.xlt.l1Table agent here then (ptr, false) else (List.replicate 16 0, false))
  else if lvl = 1 then
    (if s.xlt.l0Table agent here then (ptr, false) else leaf (Tbl.find s.xlt.l1 (l1Key agent here)))
  else leaf (Tbl.find s.xlt.l0 (l0Key agent here))

/-- DETAIL of a MAP_DIGEST whose fields refuse it (R116). -/
def digestHead (p : Packet) : Option Nat :=
  let agent := p.fld 2 7 0
  let lvl := p.fld 3 1 0
  let pva := p.dw 4 + 2 ^ 32 * p.fld 5 19 0
  let n := p.dw 6
  if agent == 0 || 128 ≤ agent then some 2
  else if lvl == 3 then some 3
  else if pva % lvlSpan lvl != 0 then some 4
  else if n == 0 || 65536 < n || 2 ^ 52 < pva + n * lvlSpan lvl then some 6
  else if p.dw 8 % 64 != 0 then some 8
  else none

/-- A digest starts: the entries as they stand now are what it hashes (R117). -/
def State.mapDigestNow (s : State) (i : Issuer) (p : Packet) : State :=
  let agent := p.fld 2 7 0
  let lvl := p.fld 3 1 0
  let pva := p.dw 4 + 2 ^ 32 * p.fld 5 19 0
  let n := p.dw 6
  match digestHead p with
  | some d => s.malformed i d
  | none =>
  if !s.mayMap i agent then s.denied i
  else
    let es := (List.range n).map fun k => s.digestEntry agent lvl pva k
    let d : Digest := { by_ := i, agent := agent, level := lvl, pva := pva, count := n, buf := p.addr 8, start := s.tick,
                        bytes := es.flatMap Prod.fst, leaves := (es.filter fun e => e.2).length }
    s.onXlt fun x => { x with digests := x.digests ++ [d] }

def State.doMapDigest (s : State) (i : Issuer) (p : Packet) : State :=
  if s.mapHeld (p.fld 2 7 0) then s.hold i p else s.mapDigestNow i p

/-- Commands held behind a digest of the agent run in order until another digest of the agent starts (R114). -/
def State.runHeld (s : State) (agent : Nat) : Nat → State
  | 0 => s
  | fuel + 1 =>
    if s.xlt.digests.any fun d => d.agent == agent then s
    else match s.xlt.heldMaps.find? fun h => h.2.fld 2 7 0 == agent with
      | none => s
      | some h =>
        let s := s.onXlt fun x => { x with heldMaps := x.heldMaps.erase h }
        let s := if h.2.op == 0x0302 then s.mapDigestNow h.1 h.2 else s.mapUpdateNow h.1 h.2
        s.runHeld agent fuel

/-- A digest that has hashed 256 entries a tick is complete (R117): its buffer is written, then its record. -/
def State.digestDone (s : State) (agent : Nat) : State :=
  match s.xlt.digests.find? fun d => d.agent == agent with
  | none => s
  | some d =>
    if s.tick < d.start + ceilDiv d.count 256 then s
    else
      let s := s.onXlt fun x => { x with digests := x.digests.erase d }
      let s := s.hostWrite d.by_.fn 3 d.buf
        (sha384 d.bytes ++ leBytes 4 d.count ++ leBytes 1 d.agent ++ List.replicate 11 0)
      let s := s.answer d.by_ .ok 0 d.leaves
      s.runHeld agent (s.xlt.heldMaps.length + 1)

/-! ### Fault records (R123 to R126) -/

/-- FAULT_MS as it acts (Table 4.11). -/
def State.faultMs (s : State) : Nat := max 1 (min 1000 (bits s.xlt.ctrl.toNat 9 0))

/-- RECORD of an open fault (Table 4.8). -/
def recordId (slot : Nat) (f : FaultRec) : Nat := 1024 * f.seq + slot

/-- The payload of a FAULT event from byte 8 (Table 13.4). -/
def FaultRec.payload (slot : Nat) (f : FaultRec) : List Byte :=
  leBytes 2 (recordId slot f) ++ leBytes 1 f.agent ++ leBytes 1 (f.cause + 16 * f.kind) ++ List.replicate 4 0 ++
    leBytes 8 f.pva ++ leBytes 8 f.high

/-- A faulting tile joins the open record of its key, or opens one (R124). The flag is false when all records are open. -/
def State.tileFault (s : State) (agent jobid pva high cause kind : Nat) : State × Bool :=
  match s.xlt.faults.find? fun e => e.2.agent == agent && e.2.pva == pva with
  | some (slot, _) =>
    let s := s.onXlt fun x => { x with faults := Tbl.upd x.faults slot fun f =>
      { f with high := max f.high high, waiters := f.waiters ++ [(agent, jobid)] } }
    ((s.bump blkXLT 0x0324).change, true)
  | none =>
    let free := (List.range 1024).filter fun k => (Tbl.find s.xlt.faults k).isNone
    match free with
    | [] => (s.bump blkXLT 0x0328, false)
    | k0 :: _ =>
      let (n, s) := s.draw
      let slot := free.getD (Config.faultSlot n % free.length) k0
      let used := Tbl.getD s.xlt.slotSeq slot 0
      let f : FaultRec := { seq := used % 64, agent := agent, pva := pva, high := high, cause := cause, kind := kind, tick := s.tick
                            life := msTicks s.faultMs, waiters := [(agent, jobid)] }
      let s := s.onXlt fun x => { x with
        faults := Tbl.put x.faults slot f, slotSeq := Tbl.put x.slotSeq slot (used + 1)
        faultPeak := max x.faultPeak (x.faults.length + 1) }
      let s := (s.bump blkXLT 0x0320).change
      (s.event (s.ownerFns agent) evFAULT_T (f.payload slot), true)

/-- A record closed, and what waited on it stopped with a status (R125, R126). -/
def State.failRecord (s : State) (slot : Nat) (st : Status) : State :=
  match Tbl.find s.xlt.faults slot with
  | none => s
  | some f =>
    let s := (s.onXlt fun x => { x with faults := Tbl.del x.faults slot }).change
    f.waiters.foldl (fun s w => s.stopJob w.1 w.2 st 0) s

/-- A record whose lifetime ends closes (R126): at the boundary that ends it, in its order among the tick's events (R5), or, past
it, at once. -/
def State.faultExpire (s : State) (slot : Nat) : State :=
  match Tbl.find s.xlt.faults slot with
  | none => s
  | some f =>
    if s.tick + 1 < f.tick + f.life then s
    else if s.tick + 1 == f.tick + f.life then s.later (.faultEnd slot f.seq)
    else s.failRecord slot .unmapped

/-- A record that ends at this boundary, unless a command ordered before has closed it (R5, R126). -/
def State.faultEnd (s : State) (slot seq : Nat) : State :=
  match Tbl.find s.xlt.faults slot with
  | none => s
  | some f => if f.seq == seq then s.failRecord slot .unmapped else s

end Sys2Proof.Machine
end

