-- ==== Sys2Proof/Machine/EngChk.lean ====
section
/-! DEFINITION. Job descriptors: the geometry of a tile's operands (R143, R181, R190) and the checks at submission (R137, R156 to
R168, R187 to R194). -/

namespace Sys2Proof.Machine

/-! ### Geometry (R143) -/

/-- Rows of one operand of a tile: `z` planes of `y` rows of `x` bytes. -/
structure Geo where
  base : Nat := 0
  x : Nat := 0
  y : Nat := 1
  z : Nat := 1
  sy : Nat := 0
  sz : Nat := 0
  deriving DecidableEq, Repr, Inhabited

/-- First byte of each row, in tile order. -/
def Geo.rows (g : Geo) : List Nat :=
  (List.range g.z).flatMap fun p => (List.range g.y).map fun r => g.base + p * g.sz + r * g.sy

/-- One past the highest byte. -/
def Geo.top (g : Geo) : Nat := g.base + (g.z - 1) * g.sz + (g.y - 1) * g.sy + g.x

/-- Do two operands' ranges meet (R143)? -/
def Geo.meets (a b : Geo) : Bool := a.base < b.top && b.base < a.top

/-- The 2 MiB granules that the rows touch, lowest first. -/
def Geo.granules (g : Geo) : List Nat :=
  (g.rows.foldl (fun (t : Tbl Unit) a =>
    (List.range ((a + g.x - 1) / MIB2 + 1 - a / MIB2)).foldl (fun t i => Tbl.put t (a / MIB2 + i) ()) t) []).map Prod.fst

/-! ### Fields of a descriptor -/

def Job.xlen (j : Job) : Nat := j.fld 6 24 0
def Job.ycnt (j : Job) : Nat := j.fld 7 15 0
def Job.zcnt (j : Job) : Nat := j.fld 7 31 16
def Job.fmtA (j : Job) : Nat := j.fld 16 3 0
def Job.fmtB (j : Job) : Nat := j.fld 16 7 4
def Job.fmtD (j : Job) : Nat := j.fld 16 11 8
def Job.rnd (j : Job) : Nat := j.fld 16 13 12
def Job.func (j : Job) : Nat := j.fld 16 23 16
def Job.sblkA (j : Job) : Nat := j.fld 25 3 0
def Job.sblkB (j : Job) : Nat := j.fld 25 7 4
def Job.sblkD (j : Job) : Nat := j.fld 25 11 8
def Job.count (j : Job) : Nat := j.dw 24
/-- The seed of stochastic rounding, with RND 1 (R186). -/
def Job.seed (j : Job) : Option Nat := if j.rnd == 1 then some (j.dw 17) else none
/-- Rows per tile. -/
def Job.rowsN (j : Job) : Nat := j.ycnt * j.zcnt
/-- Elements written per destination row: K for TOP_K. -/
def Job.outLen (j : Job) : Nat := if j.op == 0x25 then j.count else j.xlen
/-- ACC of a REDUCE, WEIGHTED of a GATHER_REDUCE (Table 6.4). -/
def Job.flag4 (j : Job) : Bool := bit (j.dw 16) 20

/-- Bytes of a source row and of a destination row. -/
def Job.srcRow (j : Job) : Nat := if j.dataOp then rowBytes j.fmtA j.sblkA j.xlen else j.xlen
def Job.dstRow (j : Job) : Nat := if j.dataOp then rowBytes j.fmtD j.sblkD j.outLen else j.xlen

/-- A tile's base: a PVA moved by k strides, not wrapped; a base below zero reads as one beyond the PVA space. -/
def tileBase (p : Nat) (d : Int) (k : Nat) : Nat :=
  let v : Int := p + d * k
  if v < 0 then 2 ^ 52 else v.toNat

def Job.srcGeo (j : Job) (k : Nat) : Geo :=
  { base := tileBase (j.pva 2) j.sts k, x := j.srcRow, y := j.ycnt, z := j.zcnt, sy := j.dw 8, sz := j.dw 9 }
def Job.dstGeo (j : Job) (k : Nat) : Geo :=
  { base := tileBase (j.pva 4) j.dts k, x := j.dstRow, y := j.ycnt, z := j.zcnt, sy := j.dw 10, sz := j.dw 11 }
/-- Tile B of SCALE_ADD, with the source strides (R202). -/
def Job.bGeo (j : Job) (k : Nat) : Geo :=
  { j.srcGeo k with base := tileBase (j.pva 18) j.sts k, x := rowBytes j.fmtB j.sblkB j.xlen }
/-- The positions of TOP_K (R203). -/
def Job.topGeo (j : Job) (k : Nat) : Geo :=
  { base := j.pva 18 + 4 * j.count * (k * j.rowsN), x := 4 * j.count * j.rowsN }
/-- The offsets of a GATHER_REDUCE tile (R198). -/
def Job.offGeo (j : Job) (k : Nat) : Geo := { base := j.pva 20 + 4 * (k * j.ycnt), x := 4 * (j.ycnt + 1) }
/-- The table of a GATHER_REDUCE. -/
def Job.tblGeo (j : Job) : Geo := { base := j.pva 2, x := rowBytes j.fmtA j.sblkA j.xlen, y := j.count, sy := j.dw 8 }
/-- The source list of a REDUCE (R196). -/
def Job.listGeo (j : Job) : Geo := { base := j.pva 18, x := 8 * j.count }

/-- Does the operation read source tiles, or write destination tiles (Table 5.5)? -/
def Job.hasSrc (j : Job) : Bool := [1, 5, 6, 8, 0x22, 0x23, 0x24, 0x25].contains j.op
def Job.hasDst (j : Job) : Bool := [1, 2, 3].contains j.op || (0x20 ≤ j.op && j.op ≤ 0x25)

/-- An operand of a tile known from the descriptor: the DW that names it, whether it is written, and its rows. -/
structure Opnd where
  dw : Nat := 2
  write : Bool := false
  geo : Geo := {}
  deriving DecidableEq, Repr, Inhabited

/-- The operands of tile k that the descriptor alone gives. -/
def Job.operands (j : Job) (k : Nat) : List Opnd :=
  (if j.hasSrc then [{ dw := 2, geo := j.srcGeo k }] else []) ++
  (match j.op with
   | 0x20 => [{ dw := 18, geo := j.listGeo }]
   | 0x21 => [{ dw := 20, geo := j.offGeo k }]
   | 0x24 => [{ dw := 18, geo := j.bGeo k }]
   | 0x25 => [{ dw := 18, write := true, geo := j.topGeo k }]
   | _ => []) ++
  (if j.hasDst then [{ dw := 4, write := true, geo := j.dstGeo k }] else [])

/-! ### Checks (R137) -/

/-- DWs at which a list of conditions fails. -/
def failing (l : List (Bool × Nat)) : List Nat := (l.filter Prod.fst).map Prod.snd

/-- Conditions that the listed DWs are zero. -/
def zeroDws (j : Job) (ks : List Nat) : List (Bool × Nat) := ks.map fun k => (j.dw k != 0, k)

/-- A 52-bit PVA in two DWs is zero, RSV apart. -/
def zeroPva (j : Job) (k : Nat) : List (Bool × Nat) := [(j.dw k != 0, k), (j.fld (k + 1) 19 0 != 0, k + 1)]

/-- STS and DTS are zero. -/
def zeroSts (j : Job) : List (Bool × Nat) := [(j.dw 12 != 0, 12), (j.fld 14 15 0 != 0, 14)]
def zeroDts (j : Job) : List (Bool × Nat) := [(j.dw 13 != 0, 13), (j.fld 14 31 16 != 0, 14)]

/-- Table 5.5's unused fields, and the values of PARAM. -/
def unusedFields (j : Job) : List (Bool × Nat) :=
  match j.op with
  | 1 => zeroDws j [15]
  | 2 => zeroSts j ++ zeroDws j [15]
  | 3 => zeroPva j 2 ++ zeroDws j [8, 9] ++ zeroSts j ++ zeroDws j [15]
  | 4 => zeroDws j [4, 5, 6, 7, 9, 10, 11, 12, 13, 14, 15]
  | 5 => zeroDws j [10, 11] ++ zeroDts j ++ (if bit (j.dw 15) 0 then [] else zeroPva j 4) ++ [(decide (2 ≤ j.dw 15), 15)]
  | 6 => zeroDts j ++ [(!([1, 2, 4].contains (j.dw 15)), 15)]
  | 7 => zeroDws j [6, 7, 8, 9, 12, 13, 14, 15]
  | 8 => zeroDws j [10, 11] ++ zeroDts j ++ [(decide (512 ≤ j.dw 15), 15)]
  | _ => zeroDws j [15]

/-- Bytes of an element of a plain operand. -/
def eltAlign (f : Nat) : Nat := max 1 (fmtBits f / 8)

/-- Does every row lie inside one 2 MiB granule (R190)? -/
def Geo.rowsInGranule (g : Geo) : Bool := g.rows.all fun a => a / MIB2 == (a + g.x - 1) / MIB2

/-- Checks of one operand's layout (R190): alignment of base and strides, or whole rows in a granule. -/
def layoutFaults (j : Job) (f sblk : Nat) (o : Nat → Geo) (dw dwy dwz dwt : Nat) (st : Int) : List (Bool × Nat) :=
  let a := eltAlign f
  if blkLen f sblk = 0 then
    [((o 0).base % a != 0, dw), ((o 0).sy % a != 0, dwy), ((o 0).sz % a != 0, dwz), (st.emod a != 0, dwt)]
  else [(!((List.range j.tilesN).all fun k => (o k).rowsInGranule), dw)]

/-- Is ALPHA finite and nonzero (R201)? -/
def finiteNonzero (b : Nat) : Bool := match dec32 b with | .fin _ m _ => m != 0 | _ => false

/-- A nonzero SBLK on a format without a scaled layout (R188), which breaks a rule of both fields. -/
def sblkBad (f sblk : Nat) : Bool := sblk != 0 && !(3 ≤ f && f ≤ 5)

/-- The checks of the operator extension (R180, R186, R188 to R190). DESIGN CHOICE: the entries of a REDUCE list are aligned to 8 bytes,
and row numbers, offsets and TOP_K positions to 4, as plain operands of their width. -/
def operatorFaults (j : Job) : List (Bool × Nat) :=
  let a := j.fmtA; let b := j.fmtB; let d := j.fmtD; let fn := j.func
  let low := fn % 4
  let rndBad := 2 ≤ j.rnd || (j.rnd == 1 && !(d == 1 || d == 3 || d == 4 || fmtMx d))
  let noAux := zeroPva j 18 ++ zeroPva j 20 ++ zeroPva j 22
  let mixed := sblkBad a j.sblkA || sblkBad b j.sblkB || sblkBad d j.sblkD
  let base := [(10 < a || 10 < b || 10 < d || rndBad || mixed, 16), (4 < j.sblkA || 4 < j.sblkB || 4 < j.sblkD, 25)]
  let srcL := layoutFaults j a j.sblkA j.srcGeo 2 8 9 12 j.sts
  let dstL := layoutFaults j d j.sblkD j.dstGeo 4 10 11 13 j.dts
  let blk := fun (f s : Nat) => blkLen f s != 0 && j.outLen % blkLen f s != 0
  let xlenBad := fun (f s : Nat) => (blkLen f s != 0 && j.xlen % blkLen f s != 0, 6)
  base ++
  (match j.op with
   | 0x20 =>
     [(b != 0 || j.sblkB != 0 || 0x20 ≤ fn || (fn / 4 % 4 != 0) || (low == 3 && j.flag4), 16)] ++ zeroPva j 2 ++
     zeroPva j 20 ++ zeroPva j 22 ++ zeroDws j [26, 27] ++ [(j.count == 0 || 64 < j.count, 24), (j.pva 18 % 8 != 0, 18)] ++
     [xlenBad a j.sblkA, xlenBad d j.sblkD] ++ (srcL.filter fun x => x.2 != 2) ++ dstL
   | 0x21 =>
     let bOk := if j.flag4 then b < 3 else b == 0
     let row := rowBytes a j.sblkA j.xlen
     let sys := j.dw 8
     let pow := (List.range 22).any fun k => 6 ≤ k && sys == 2 ^ k
     [(!bOk || j.sblkB != 0 || 0x20 ≤ fn || fn / 4 % 4 != 0 || low == 3 || (j.flag4 && j.pva 22 == 0), 16),
      (!pow || sys < row, 8), (sys != 0 && j.pva 2 % sys != 0, 2)] ++ zeroDws j [9, 11] ++ zeroSts j ++
     (if j.flag4 then [(j.pva 22 % eltAlign b != 0, 22)] else zeroPva j 22) ++ zeroDws j [26, 27] ++
     [(j.count == 0, 24), (j.zcnt != 1, 7), (j.pva 18 % 4 != 0, 18), (j.pva 20 % 4 != 0, 20)] ++
     [xlenBad a j.sblkA, xlenBad d j.sblkD] ++ dstL
   | 0x22 =>
     [(b != 0 || j.sblkB != 0 || fn != 0 || 3 ≤ a || d < 3, 16), (j.count != 0, 24), (!finiteNonzero (j.dw 26), 26),
      (j.dw 27 != 0, 27)] ++ noAux ++ [xlenBad a j.sblkA, xlenBad d j.sblkD] ++ srcL ++ dstL
   | 0x23 =>
     [(b != 0 || j.sblkB != 0 || fn != 0 || a < 3 || 3 ≤ d, 16), (j.count != 0, 24), (!finiteNonzero (j.dw 26), 26),
      (j.dw 27 != 0, 27)] ++ noAux ++ [xlenBad a j.sblkA, xlenBad d j.sblkD] ++ srcL ++ dstL
   | 0x24 =>
     [(fn != 0, 16), (j.count != 0, 24)] ++ zeroPva j 20 ++ zeroPva j 22 ++
     [xlenBad a j.sblkA, xlenBad b j.sblkB, xlenBad d j.sblkD] ++ srcL ++
     layoutFaults j b j.sblkB j.bGeo 18 8 9 12 j.sts ++ dstL
   | _ =>
     let dOk := d == 0 || (d == a && a ≤ 5 && j.sblkA == 0)
     [(b != 0 || j.sblkB != 0 || 2 ≤ fn || !dOk, 16), (j.sblkD != 0, 25), (j.count == 0 || 1024 < j.count, 24), (j.xlen < j.count, 6),
      (j.pva 18 % 4 != 0, 18)] ++ zeroPva j 20 ++ zeroPva j 22 ++ zeroDws j [26, 27] ++ [xlenBad a j.sblkA] ++
     [(blk d j.sblkD, 24)] ++ srcL ++ dstL)

/-- Does SCALE_ADD's tile B coincide with the destination as R190 allows? -/
def Job.bIsDst (j : Job) : Bool :=
  j.op == 0x24 && j.pva 18 == j.pva 4 && j.dw 8 == j.dw 10 && j.dw 9 == j.dw 11 && j.sts == j.dts

/-- DCAP. -/
def Job.dcap (j : Job) : Nat := j.dw 10 + 2 ^ 32 * j.dw 11

/-- Checks of one tile (R143, R190): ranges inside the PVA space, 16 MiB and granules of each operand, and what meets the
destination: of a COMPRESS, its whole cask. -/
def tileFaults (j : Job) (k : Nat) : List Nat :=
  let os := j.operands k
  let gs := os.map fun o => (o.dw, o.geo.granules.length)
  let out := os.filterMap fun o => if 2 ^ 52 < o.geo.top then some o.dw else none
  let many := gs.filterMap fun g => if 512 < g.2 then some g.1 else none
  let big := os.any fun o => 2 ^ 24 < o.geo.x * o.geo.y * o.geo.z
  let all := if j.dataOp && 4096 < gs.foldl (fun n g => n + g.2) 0 then [2] else []
  let d := j.dstGeo k
  let hit := if !j.hasDst then [] else os.filterMap fun o =>
    if o.dw == 4 || (o.dw == 18 && j.bIsDst) || !o.geo.meets d then none else some (if o.dw == 2 then 2 else 4)
  let tbl := if j.op == 0x21 && j.tblGeo.meets d then [2] else []
  let cask := if j.op == 6 && (j.srcGeo k).meets { base := j.pva 4, x := j.dcap } then [2] else []
  out ++ many ++ all ++ hit ++ tbl ++ cask ++ (if big then [6] else [])

/-- Blocks of a COMPRESS job's input. -/
def Job.caskBlocks (j : Job) : Nat := Machine.caskBlocks (j.tilesN * j.xlen)

/-- The failing descriptor DWs of a job other than RACK whose OP is known. -/
def descFaults (j : Job) : List Nat :=
  let x := j.xlen; let y := j.ycnt; let z := j.zcnt
  let geo := j.hasSrc || j.hasDst
  let row := max (if j.hasSrc || j.op == 0x20 then j.srcRow else 0) (if j.hasDst then j.dstRow else 0)
  let ok := x != 0 && y != 0 && z != 0
  let top := if j.dataOp then 2 ^ 24 - 1 else 2 ^ 24
  failing ([(j.tilesN == 0, 1)] ++
    (if geo then [(x == 0 || top < x || 2 ^ 24 < row * y * z, 6), (y == 0 || z == 0, 7)] else []) ++
    (if j.hasDst then [(1 < y && j.dw 10 < j.dstRow, 6), (1 < z && j.dw 11 < y * j.dw 10, 7)] else []) ++
    unusedFields j ++
    (if j.dataOp then operatorFaults j else []) ++
    (match j.op with
     | 5 => [(bit (j.dw 15) 0 && j.pva 4 % 64 != 0, 4)]
     | 6 => [(y != 1 || z != 1, 7), (j.pva 2 % 65536 != 0, 2), (1 < j.tilesN && x % 65536 != 0, 6),
             (1 < j.tilesN && j.sts.emod 65536 != 0, 12), (j.dcap < caskBound j.caskBlocks, 10), (2 ^ 52 < j.pva 4 + j.dcap, 4)]
     | 7 => [(j.tilesN != 1, 1)]
     | _ => [])) ++
  (if geo && ok then (List.range j.tilesN).flatMap (tileFaults j) else [])

/-- The lowest of some numbers. -/
def lowest (l : List Nat) : Option Nat := argMin id l

/-! ### Multicast groups (R159) -/

/-- May an agent push to a group? Its refusal, if any. -/
def State.pushRefusal (s : State) (j : Job) : Option (Status × Nat) :=
  let g := Tbl.getD s.trt.groups (j.dw 15 % 256) {}
  let t := s.tenantOf j.agent
  if t != 0 && t != g.owner then some (.deniedRights, 0)
  else if 65536 ≤ g.mask then some (.malformed, 4 + 15)
  else none

/-! ### The whole check -/

/-- Bytes of staging of an output (R194): rounded up to 64 KiB. -/
def stageNeed (n : Nat) : Nat := 65536 * ceilDiv n 65536

/-- STAGE_MIB as it acts, in bytes (Table 6.6). -/
def State.stageCap (s : State) : Nat := 2 ^ 20 * max 1 (min 32 (bits s.opu.ctrl.toNat 5 0))

/-- Staging of one output of a data operator (R194). -/
def Job.outNeed (j : Job) (s : Nat) : Nat :=
  stageNeed (match j.op with | 0x20 => 4 * s | 0x21 => 4 * j.xlen | 0x25 => 16 * j.count | _ => 0)

/-- The refusal of a descriptor, before the limits of R139 (R136, R137, R158, R159, R194). -/
def State.descRefusal (s : State) (j : Job) (packet : Bool) : Option (Status × Nat) :=
  let op := j.op
  if op == 4 then
    if packet then some (.deniedRights, 0)
    else (lowest (failing ((j.tilesN != 1, 1) :: unusedFields j) ++ rackFaults j (s.region (j.fld 2 11 0)).mirror)).map fun d =>
      (.malformed, 4 + d)
  else if !((1 ≤ op && op ≤ 8) || (0x20 ≤ op && op ≤ 0x25)) then some (.malformed, 4)
  else match lowest (descFaults j) with
    | some d => some (.malformed, 4 + d)
    | none =>
      if op == 5 && bit (j.dw 15) 0 && (s.check j.agent (j.pva 4) .dst).1 == .deniedRights then some (.deniedRights, 0)
      else if op == 8 then s.pushRefusal j
      else if op == 0x21 && s.stageCap < j.outNeed 0 then some (.quota, 12)
      else none

end Sys2Proof.Machine
end

