-- ==== Sys2Proof/Machine/EngTile.lean ====
section
/-! DEFINITION. A tile's pre-check (R122 to R124), the prefetch it starts (R120), and its cutting into measures (R146, R192, R197,
R200, R201, R204, R239). -/

namespace Sys2Proof.Machine

/-! ### Pages and sides -/

/-- The page that holds a PVA. -/
def pageFor (ps : List TPage) (pva : Nat) : Option TPage :=
  ps.find? fun p => p.pva ≤ pva && pva < p.pva + pageBytes p.leaf.psize

/-- Directory index of the home frame of a leaf's page (R105). -/
def State.homeOfLeaf (s : State) (l : Leaf) : Nat :=
  let g := s.region l.region
  let pa := MIB2 * l.frame
  match g.locate pa with
  | some (_, b, _) => (paIdx (b.pa + (pa - b.pa) / g.pageSize * g.pageSize)).getD 0
  | none => 0

/-- The operand place of a page. -/
def State.atOf (s : State) (p : TPage) : MAt :=
  .page p.leaf.region (s.homeOfLeaf p.leaf) ((s.region p.leaf.region).versioned && p.leaf.view)

/-- A range of PVAs split at page boundaries, as pages and in-page runs. -/
def splitPages (ps : List TPage) : Nat → Nat → Nat → List (TPage × Nat × Nat)
  | 0, _, _ => []
  | fuel + 1, pva, n =>
    if n = 0 then []
    else match pageFor ps pva with
      | none => []
      | some p =>
        let k := min n (p.pva + pageBytes p.leaf.psize - pva)
        (p, pva - p.pva, k) :: splitPages ps fuel (pva + k) (n - k)

/-- Runs of PVAs as operands of one page each, in order; neighbours on one page share an operand. -/
def State.sides (s : State) (ps : List TPage) (runs : List (Nat × Nat)) : List MSide :=
  let parts := runs.flatMap fun r => splitPages ps (r.2 / MIB2 + 3) r.1 r.2
  let l := parts.foldl (fun (acc : List (TPage × List (Nat × Nat))) x =>
    match acc with
    | (p, rs) :: rest => if p.pva == x.1.pva then (p, rs ++ [x.2]) :: rest else (x.1, [x.2]) :: acc
    | [] => [(x.1, [x.2])]) []
  l.reverse.map fun x => { at_ := s.atOf x.1, runs := x.2 }

/-- PA that an operand's offsets count from. -/
def State.sideBase (s : State) (a : MAt) : Nat :=
  match a with
  | .page r h d => idxPa (s.decideIdx r h d)
  | .idx _ i => idxPa i
  | .raw => 0

/-- The region of an operand. -/
def State.sideRegion (s : State) (a : MAt) : Region :=
  match a with
  | .page r _ _ => s.region r
  | .idx r _ => s.region r
  | .raw => {}

/-! ### Bytes of runs -/

/-- The listed cells of physical runs, counted from the first run's start. -/
def gatherCells (mem : Memory) : Nat → List (Nat × Nat) → List Host.Cell
  | _, [] => []
  | off, (pa, n) :: r => (Memory.cells mem pa n).map (fun c => (off + c.1, c.2)) ++ gatherCells mem (off + n) r

/-- Cells counted from the first run's start written over physical runs. -/
def scatterCells (mem : Memory) : Nat → List (Nat × Nat) → List Host.Cell → Memory
  | _, [], _ => mem
  | off, (pa, n) :: r, cs =>
    scatterCells (Memory.paste mem pa n ((cs.filter fun c => off ≤ c.1 && c.1 < off + n).map fun c => (c.1 - off, c.2)))
      (off + n) r cs

/-- Cells as a dense byte string of `n` bytes from offset `off`. -/
def dense : Nat → Nat → List Host.Cell → List Byte
  | 0, _, _ => []
  | n + 1, off, [] => 0 :: dense n (off + 1) []
  | n + 1, off, c :: cs => if c.1 = off then c.2 :: dense n (off + 1) cs else 0 :: dense n (off + 1) (c :: cs)

/-- A byte string as cells. -/
def cellsOf (bs : List Byte) : List Host.Cell := (bs.mapIdx fun i b => (i, b)).filter fun c => c.2 != 0

/-- The physical runs that a read of an operand uses: those of the first copy that is still served. -/
def State.readRuns (s : State) (m : MSide) : List (Nat × Nat) :=
  let b := s.sideBase m.at_
  let g := s.sideRegion m.at_
  m.runs.map fun r => (((s.copies g (b + r.1)).head?).getD (b + r.1), r.2)

/-- The stack that serves an operand's memory. -/
def State.sideStack (s : State) (m : MSide) : Nat := stackOf (((s.readRuns m).head?.map Prod.fst).getD 0)

/-- The physical runs of every copy that a write of an operand goes to. -/
def State.writeRuns (s : State) (m : MSide) : List (List (Nat × Nat)) :=
  let b := s.sideBase m.at_
  let g := s.sideRegion m.at_
  let one := fun (k : Nat) => m.runs.filterMap fun r => ((s.copies g (b + r.1))[k]?).map fun a => (a, r.2)
  [one 0, one 1].filter fun l => !l.isEmpty

/-- The symbol code's check of every line that a read of physical runs meets (R252, R253): a bad line with a good second copy is
rewritten from it. -/
def State.readCheck (s : State) (g : Region) (rs : List (Nat × Nat)) : State :=
  rs.foldl (fun s r =>
    let meets := fun (l : Nat) => overlaps (l * 64) 64 r.1 r.2
    (distinct (sortBy id ((s.mcx.poison.filter meets) ++ ((s.mcx.errs.map Prod.fst).filter meets)))).foldl
      (fun s l => (s.readLine g (l * 64)).1) s) s

/-- Bytes of PVA runs read now through found pages, for lists and offsets; none where a line has no good copy (R254). -/
def State.readPva (s : State) (ps : List TPage) (runs : List (Nat × Nat)) : State × Option (List Byte) :=
  let ms := s.sides ps runs
  let rs := ms.flatMap s.readRuns
  let s := ms.foldl (fun s m => s.readCheck (s.sideRegion m.at_) (s.readRuns m)) s
  (s, if rs.any fun r => s.poisonIn r.1 r.2 then none
      else some (dense (runs.foldl (fun n r => n + r.2) 0) 0 (gatherCells s.mem 0 rs)))

/-! ### The pre-check (R122, R123) -/

/-- Outcome of a pre-check. -/
inductive POut where
  | pass (pages : List TPage)
  | fault (pva high cause kind : Nat)
  | stop (st : Status)
  deriving DecidableEq, Repr, Inhabited

/-- Does the access fall on a draft copy in a reserve bin withdrawn from the agent (R56)? -/
def State.checkUse (s : State) (agent pva : Nat) (w : Bool) : Status × Option Tr × Nat :=
  match s.check agent pva (if w then .dst else .src) with
  | (.ok, some t, c) => if s.draftRevoked agent t then (.accessRevoked, some t, c) else (.ok, some t, c)
  | r => r

/-- The pre-check of operands, each with its write flag and its granules (R122). `also` lists granules of a written operand that the
tile reads too, where it needs both rights (R196). -/
def State.preOps (s : State) (agent : Nat) (ops : List (Bool × List Nat)) (also : List Nat := []) : POut :=
  let rs := ops.map fun o => (o.1, o.2.map fun g => (MIB2 * g, s.checkUse agent (MIB2 * g) o.1))
  let any := fun (st : Status) => (rs.any fun o => o.2.any fun x => x.2.1 == st) ||
    also.any fun g => (s.checkUse agent (MIB2 * g) false).1 == st
  if any .regionLost then .stop .regionLost
  else if any .accessRevoked then .stop .accessRevoked
  else if any .deniedRights then .stop .deniedRights
  else
    let bad := rs.filterMap fun o =>
      match argMin (fun (x : Nat × Status × Option Tr × Nat) => x.1) (o.2.filter fun x => x.2.1 == .unmapped) with
      | some lo =>
        let hi := (argMax (fun (x : Nat × Status × Option Tr × Nat) => x.1) (o.2.filter fun x => x.2.1 == .unmapped)).getD lo
        some (o.1, lo.1, hi.1, lo.2.2.2)
      | none => none
    match argMin (fun (b : Bool × Nat × Nat × Nat) => 2 * b.2.1 + b2n b.1) bad with
    | some b => .fault b.2.1 b.2.2.1 b.2.2.2 (b2n b.1)
    | none =>
      .pass (rs.foldl (fun ps o => o.2.foldl (fun ps x =>
        match x.2.2.1 with
        | some t => if (pageFor ps x.1).isSome then ps else ps ++ [{ pva := t.leaf.base x.1, leaf := t.leaf }]
        | none => ps) ps) [])

/-- A tile page whose walk leads into the HBM hole is recorded on the hub that translates it (R18). -/
def State.noteHole (s : State) (agent pva : Nat) : State :=
  if (s.check agent pva .src).2.2 == 5 then s.raise blkXLT s.mir.primary 0 agent else s

/-- Every page of a pre-check used in the primary hub's translation cache, and recorded where it names the hole. -/
def State.preCache (s : State) (agent : Nat) (ops : List (Bool × List Nat)) : State :=
  (distinct (sortBy id (ops.flatMap Prod.snd))).foldl
    (fun s g => (s.cacheUse s.mir.primary agent (MIB2 * g) true).noteHole agent (MIB2 * g)) s

/-- Pages pre-checked on the primary hub: their walks, the outcome, and their use of its translation cache (R119, R122). -/
def State.preTile (s : State) (agent : Nat) (ops : List (Bool × List Nat)) (also : List Nat := []) : State × POut :=
  let s := (distinct (sortBy id (ops.flatMap Prod.snd))).foldl (fun s g => s.readTables s.mir.primary agent (MIB2 * g)) s
  (s.preCache agent ops, s.preOps agent ops also)

/-- Source i of a REDUCE for tile k (R196). -/
def Job.redGeo (j : Job) (i k : Nat) : Geo := { j.srcGeo k with base := tileBase (j.srcList.getD i 0) j.sts k }

/-- The operands of tile k that move with a tile stride, each with that stride: the sources first. -/
def Job.streamOps (j : Job) (k : Nat) : List (Geo × Int) :=
  (if j.hasSrc then [(j.srcGeo k, j.sts)] else []) ++ (if j.op == 0x24 then [(j.bGeo k, j.sts)] else []) ++
  (if j.op == 0x20 then (List.range j.count).map fun i => (j.redGeo i k, j.sts) else []) ++
  (if j.hasDst then [(j.dstGeo k, j.dts)] else [])

/-- D for an operand (R120): its stride, else what the stream has seen, else its extent. DESIGN CHOICE: a stream's history keeps the
bases of the tile's first operand, so the others go by their stride or extent. -/
def strideOf (geo : Geo) (st : Int) (seen : Option Int) : Int :=
  if st != 0 then st
  else match seen with
    | some d => d
    | none => if 1 < geo.z then (geo.z * geo.sz : Nat) else if 1 < geo.y then (geo.y * geo.sy : Nat) else (geo.x : Nat)

/-- Prefetch after tile k's pre-check has passed (R120, R121): every operand's pages of the tiles ahead, tile by tile. -/
def State.prefetchTile (s : State) (j : Job) (k : Nat) : State :=
  match j.streamOps k with
  | [] => s
  | o :: os =>
    let h := s.mir.primary
    let s := s.streamUse h j.agent j.stream o.1.base
    let depth := min 16 (bits s.xlt.ctrl.toNat 20 16)
    let seen : Option Int := match (s.xhub h).streams.find? fun t => t.agent == j.agent && t.stream == j.stream with
      | some { prev := some p, last := l, .. } => some ((l : Int) - p)
      | _ => none
    let ds := (o.1, strideOf o.1 o.2 seen) :: os.map fun x => (x.1, strideOf x.1 x.2 none)
    let ahead := (List.range (min depth (j.tilesN - 1 - k))).flatMap fun (i : Nat) => ds.flatMap fun (x : Geo × Int) =>
      ({ x.1 with base := pvaPlus x.1.base (x.2 * ((i : Int) + 1)) } : Geo).granules.map fun g => MIB2 * g % 2 ^ 52
    s.prefetch h j.agent ahead

/-! ### Cutting byte operations (R146, R239) -/

/-- A piece of a row that lies in one line of each operand. -/
structure Chunk where
  n : Nat := 0
  sp : Option Nat := none
  dp : Option Nat := none
  deriving DecidableEq, Repr, Inhabited

/-- Bytes to the end of the line at a PVA; a whole line where there is no operand. -/
def toLine (p : Option Nat) : Nat := match p with | some a => 64 - a % 64 | none => 64

/-- A row in chunks. -/
def rowChunks : Nat → Nat → Option Nat → Option Nat → List Chunk
  | 0, _, _, _ => []
  | fuel + 1, n, sp, dp =>
    if n = 0 then []
    else
      let k := min n (min (toLine sp) (toLine dp))
      { n := k, sp := sp, dp := dp } :: rowChunks fuel (n - k) (sp.map fun a => a + k) (dp.map fun a => a + k)

/-- A measure being cut: its runs by PVA, its page bases and its lines on each pseudo-channel. -/
structure Cut where
  pos : Nat := 0
  len : Nat := 0
  sruns : List (Nat × Nat) := []   -- last run first
  druns : List (Nat × Nat) := []
  sc : Tbl Nat := []
  dc : Tbl Nat := []
  deriving DecidableEq, Repr, Inhabited

/-- A run list, last first, with one more piece. -/
def addRun (rs : List (Nat × Nat)) (p n : Nat) : List (Nat × Nat) :=
  match rs with
  | (a, k) :: r => if a + k = p then (a, k + n) :: r else (p, n) :: rs
  | [] => [(p, n)]

/-- One more piece counted on its pseudo-channel; a line already being read or written is counted once. -/
def addLine (c : Tbl Nat) (rs : List (Nat × Nat)) (base : Nat) (p : Option Nat) : Tbl Nat :=
  match p with
  | none => c
  | some a =>
    let same := a % 64 != 0 && (match rs with | (b, k) :: _ => b + k == a | [] => false)
    if same then c else Tbl.modD c (pcOf (a - base)) 0 (· + 1)

/-- Do the lines on some pseudo-channel exceed 33 (R239)? -/
def over33 (c : Tbl Nat) : Bool := c.any fun e => 33 < e.2

/-- Base of the page that holds an operand's byte. -/
def baseFor (ps : List TPage) (p : Option Nat) : Nat :=
  match p with
  | some a => ((pageFor ps a).map fun t => t.pva).getD 0
  | none => 0

/-- A chunk added to the measure being cut, or the measure closed before it. -/
def cutChunk (ps : List TPage) (limit : Nat) (acc : Cut × List Cut) (c : Chunk) : Cut × List Cut :=
  let (cur, done) := acc
  let sb := baseFor ps c.sp; let db := baseFor ps c.dp
  let sc := addLine cur.sc cur.sruns sb c.sp; let dc := addLine cur.dc cur.druns db c.dp
  let other := fun (rs : List (Nat × Nat)) (b : Nat) => match rs with | (a, _) :: _ => baseFor ps (some a) != b | [] => false
  let close := cur.len != 0 && (limit < cur.len + c.n || over33 sc || over33 dc || other cur.sruns sb || other cur.druns db)
  let grow := fun (k : Cut) (sc dc : Tbl Nat) =>
    { k with len := k.len + c.n, sc := sc, dc := dc
             sruns := match c.sp with | some a => addRun k.sruns a c.n | none => []
             druns := match c.dp with | some a => addRun k.druns a c.n | none => [] }
  if close then
    let k : Cut := { pos := cur.pos + cur.len }
    (grow k (addLine [] [] sb c.sp) (addLine [] [] db c.dp), cur :: done)
  else (grow cur sc dc, done)

/-- The measures of a tile of a byte operation, in tile order. -/
def cutBytes (ps : List TPage) (limit : Nat) (src dst : Option Geo) : List Cut :=
  let rows : List (Nat × Option Nat × Option Nat) := match src, dst with
    | some a, some b => (a.rows.zip b.rows).map fun r => (a.x, some r.1, some r.2)
    | some a, none => a.rows.map fun r => (a.x, some r, none)
    | none, some b => b.rows.map fun r => (b.x, none, some r)
    | none, none => []
  let (cur, done) := rows.foldl (fun (acc : Cut × List Cut) (r : Nat × Option Nat × Option Nat) =>
    (rowChunks (r.1 + 1) r.1 r.2.1 r.2.2).foldl (cutChunk ps limit) acc) (({} : Cut), [])
  (if cur.len = 0 then done else cur :: done).reverse

/-- Largest measure of a byte operation: 8 KiB for SHA-384 (R158), else 128 KiB. -/
def Job.limit (j : Job) : Nat := if j.op == 5 && bit (j.dw 15) 0 then 8192 else MEASURE

def Job.cls (j : Job) : MClass := if j.urgent || j.isStep then .urgent else .engine

/-- A measure of tile k with its operands given as runs of PVAs; it goes to the home engines of the stack of its source, or of
its destination where it has none or the job is a data operator (R146, R191). -/
def State.tileMeas (s : State) (j : Job) (k : Nat) (ps : List TPage) (sruns druns : List (List (Nat × Nat))) (len pos : Nat)
    (aux : List Nat) : Meas :=
  let src := sruns.flatMap fun r => s.sides ps r
  let dst := druns.flatMap fun r => s.sides ps r
  let first := if j.dataOp then (match dst with | d :: _ => d | [] => {}) else
    match src, dst with
    | a :: _, _ => a
    | [], d :: _ => d
    | [], [] => {}
  let ops := sruns.map fun r => (s.sides ps r).length
  { work := .job j.agent j.jobid, kind := .tile k, cls := j.cls, agent := j.agent, src := src, dst := dst, len := len, pos := pos,
    ops := if ops.all (· == 1) then [] else ops, stack := s.sideStack first, noSteal := j.op == 5 && bit (j.dw 15) 0, aux := aux }

def State.byteMeas (s : State) (j : Job) (k : Nat) (ps : List TPage) : List Meas :=
  (cutBytes ps j.limit (if j.hasSrc then some (j.srcGeo k) else none) (if j.hasDst then some (j.dstGeo k) else none)).map fun c =>
    s.tileMeas j k ps (if c.sruns.isEmpty then [] else [c.sruns.reverse]) (if c.druns.isEmpty then [] else [c.druns.reverse])
      c.len c.pos []

/-! ### Cutting data operators -/

/-- The runs of elements `e` to `e + n - 1` of a row, scales after them (R181). -/
def rowPiece (f sblk x base e n : Nat) : List (Nat × Nat) :=
  (base + eltBytes f e, eltBytes f n) ::
  (if fmtMx f then [(base + eltBytes f x + e / 32, n / 32)]
   else if sblk = 0 then []
   else [(base + x + 4 * (e / blkLen f sblk), 4 * (n / blkLen f sblk))])

/-- An operand's row for slicing: format, SBLK, first byte. -/
structure RowAt where
  fmt : Nat := 0
  sblk : Nat := 0
  base : Nat := 0
  deriving DecidableEq, Repr, Inhabited

/-- Elements of a plain row from `e` to its page's end; no bound for the other layouts, whose rows lie in one granule. -/
def toPageEnd (ps : List TPage) (r : RowAt) (e x : Nat) : Nat :=
  if blkLen r.fmt r.sblk != 0 then x
  else
    let a := r.base + eltBytes r.fmt e
    match pageFor ps a with
    | some p => max 1 ((p.pva + pageBytes p.leaf.psize - a) / eltAlign r.fmt)
    | none => x

/-- Lines that runs touch, as stack and pseudo-channel keys. -/
def runLines (rs : List (Nat × Nat)) : List Nat :=
  rs.flatMap fun r => if r.2 = 0 ∨ 16 * SLOT ≤ r.1 then [] else
    (List.range ((r.1 + r.2 - 1) / 64 + 1 - r.1 / 64)).map fun i =>
      let pa := (r.1 / 64 + i) * 64
      stackOf pa * 64 + pcOf (offOf pa)

/-- Lines of each stack's pseudo-channels. -/
def lineTbl (rs : List (Nat × Nat)) : Tbl Nat := (runLines rs).foldl (fun t k => Tbl.modD t k 0 (· + 1)) []

/-- Blocks of 4 KiB that runs meet; each has one line on every pseudo-channel. -/
def blocks4K (rs : List (Nat × Nat)) : Nat :=
  rs.foldl (fun n r => if r.2 = 0 then n else n + ((r.1 + r.2 - 1) / 4096 + 1 - r.1 / 4096)) 0

/-- Do physical runs keep to 33 lines on every pseudo-channel of a stack (R239)? -/
def within33 (rs : List (Nat × Nat)) : Bool := blocks4K rs ≤ 33 || !over33 (lineTbl rs)

/-- Would a measure that reads and writes these runs of PVAs stay open (R239)? -/
def State.fits (s : State) (ps : List TPage) (rd wr : List (List (Nat × Nat))) : Bool :=
  within33 (rd.flatMap fun r => (s.sides ps r).flatMap s.readRuns) &&
    within33 (wr.flatMap fun r => (s.sides ps r).flatMap fun m => (s.writeRuns m).flatMap id)

/-- The largest number from `lo` on and below `hi` that meets a condition which `lo` meets and which larger numbers lose. -/
def bisect (ok : Nat → Bool) : Nat → Nat → Nat → Nat
  | 0, lo, _ => lo
  | fuel + 1, lo, hi =>
    if hi ≤ lo + 1 then lo
    else
      let m := (lo + hi) / 2
      if ok m then bisect ok fuel m hi else bisect ok fuel lo m

/-- The block that the operands' slices keep whole, in elements; 1 when every operand is plain. -/
def blockUnit (ops : List RowAt) : Nat := ops.foldl (fun n o => max n (blkLen o.fmt o.sblk)) 1

/-- Elements of the slice at `e`: up to the next multiple of `S`, to a plain operand's page end (R192), and to where R239 closes the
measure, a block being kept whole (R201). DESIGN CHOICE: a block that meets a plain operand's page end is a measure of its own, which
touches both pages. -/
def cutAt (ps : List TPage) (fit : Nat → Nat → Bool) (S x : Nat) (ops : List RowAt) (e : Nat) : Nat :=
  let u := blockUnit ops
  let n := ops.foldl (fun n o => min n (toPageEnd ps o e x)) (min (S - e % S) (x - e))
  let k := max 1 (n / u)
  let n := min (k * u) (x - e)
  if fit e n then n else min (u * bisect (fun i => fit e (u * i)) 32 1 k) (x - e)

/-- A row of `x` elements in slices of at most `S`, starting at multiples of `S` (R197, R201). -/
def slices (cut : Nat → Nat) (x : Nat) : Nat → Nat → List (Nat × Nat)
  | 0, _ => []
  | fuel + 1, e => if x ≤ e then [] else (e, cut e) :: slices cut x fuel (e + max 1 (cut e))

/-- The largest power of two up to 2^k that meets a condition; 1 when none does. -/
def largestPow (p : Nat → Bool) : Nat → Nat
  | 0 => 1
  | k + 1 => if p (2 ^ (k + 1)) then 2 ^ (k + 1) else largestPow p k

/-- Slice length of QUANTIZE, DEQUANTIZE and SCALE_ADD (R201). -/
def Job.sliceQ (j : Job) : Nat :=
  largestPow (fun n => decide (rowBytes j.fmtA j.sblkA n + (if j.op == 0x24 then rowBytes j.fmtB j.sblkB n else 0) ≤ MEASURE) &&
    decide (rowBytes j.fmtD j.sblkD n ≤ MEASURE)) 16

/-- Operands of a REDUCE: N, plus 1 with ACC (R197). -/
def Job.operandsN (j : Job) : Nat := j.count + b2n (j.op == 0x20 && j.flag4)

/-- Slice length of REDUCE (R197). -/
def Job.sliceR (j : Job) : Nat :=
  let g := min 16 j.operandsN
  let b := if j.flag4 then max (fmtBits j.fmtA) (fmtBits j.fmtD) else fmtBits j.fmtA
  largestPow (fun n => decide (g * n * b / 8 ≤ MEASURE) && decide (n * fmtBits j.fmtD / 8 ≤ MEASURE)) 13

/-- Rows of a tile with their number in the job's order, as (row number in the job, index in the tile). -/
def Job.rowNos (j : Job) (k : Nat) : List (Nat × Nat) := (List.range j.rowsN).map fun r => (k * j.rowsN + r, r)

/-- Measures of QUANTIZE, DEQUANTIZE and SCALE_ADD: `aux` is the number of elements and the first one's number in the job. -/
def State.quantMeas (s : State) (j : Job) (k : Nat) (ps : List TPage) : List Meas :=
  let sr := (j.srcGeo k).rows; let br := (j.bGeo k).rows; let dr := (j.dstGeo k).rows
  (j.rowNos k).flatMap fun (no, r) =>
    let a := sr.getD r 0; let b := br.getD r 0; let d := dr.getD r 0
    let two := j.op == 0x24
    let ops : List RowAt := [⟨j.fmtA, j.sblkA, a⟩, ⟨j.fmtD, j.sblkD, d⟩] ++ (if two then [⟨j.fmtB, j.sblkB, b⟩] else [])
    let src := fun (e n : Nat) => rowPiece j.fmtA j.sblkA j.xlen a e n :: (if two then [rowPiece j.fmtB j.sblkB j.xlen b e n] else [])
    let dst := fun (e n : Nat) => [rowPiece j.fmtD j.sblkD j.xlen d e n]
    (slices (cutAt ps (fun e n => s.fits ps (src e n) (dst e n)) j.sliceQ j.xlen ops) j.xlen (j.xlen + 1) 0).map fun (e, n) =>
      s.tileMeas j k ps (src e n) (dst e n) (rowBytes j.fmtA j.sblkA n) 0 [n, no * j.xlen + e]

/-- Measures of REDUCE: one for each slice and group; `aux` is the number of elements, the first one's number in the job (which
names the output), the group and the number of groups. The second part lists the outputs that need staging. -/
def State.reduceMeas (s : State) (j : Job) (k : Nat) (ps : List TPage) : List Meas × List (Nat × Nat) :=
  let dr := (j.dstGeo k).rows
  let srcs := (List.range j.count).map fun i => (j.redGeo i k).rows
  let groups := ceilDiv j.operandsN 16
  let group := fun (gi : Nat) => ((List.range j.operandsN).drop (16 * gi)).take 16
  let dst := fun (r e n : Nat) => rowPiece j.fmtD j.sblkD j.xlen (dr.getD r 0) e n
  let src := fun (r gi e n : Nat) => (group gi).map fun i =>
    if i < j.count then rowPiece j.fmtA j.sblkA j.xlen ((srcs.getD i []).getD r 0) e n else dst r e n
  let all := (j.rowNos k).flatMap fun (no, r) =>
    let ops : List RowAt := ⟨j.fmtD, j.sblkD, dr.getD r 0⟩ :: srcs.map fun rows => ⟨j.fmtA, j.sblkA, rows.getD r 0⟩
    let fit := fun (e n : Nat) => (List.range groups).all fun gi => s.fits ps (src r gi e n) [dst r e n]
    (slices (cutAt ps fit j.sliceR j.xlen ops) j.xlen (j.xlen + 1) 0).map fun (e, n) => (no * j.xlen + e, e, n, r)
  (all.flatMap fun (id, e, n, r) =>
    (List.range groups).map fun gi =>
      s.tileMeas j k ps (src r gi e n) [dst r e n] ((group gi).length * eltBytes j.fmtA n) 0 [n, id, gi, groups],
   if groups = 1 then [] else all.map fun x => (x.1, groups))

/-- Measures of TOP_K: one for each part of a row; `aux` is the number of elements, the first one's position, the row's number
in the job and its parts. A part is a contiguous run, which never reaches the bound of R239. DESIGN CHOICE: the closing measure
writes the whole row (R204), also where the row crosses a page. -/
def State.topMeas (s : State) (j : Job) (k : Nat) (ps : List TPage) : List Meas × List (Nat × Nat) :=
  let sr := (j.srcGeo k).rows; let dr := (j.dstGeo k).rows
  let rows := (j.rowNos k).map fun (no, r) =>
    (no, r, slices (cutAt ps (fun _ _ => true) 32768 j.xlen [⟨j.fmtA, j.sblkA, sr.getD r 0⟩]) j.xlen (j.xlen + 1) 0)
  (rows.flatMap fun (no, r, ps') => ps'.map fun (e, n) =>
    s.tileMeas j k ps [rowPiece j.fmtA j.sblkA j.xlen (sr.getD r 0) e n]
      [[(dr.getD r 0, eltBytes j.fmtD j.count)], [(j.pva 18 + 4 * j.count * no, 4 * j.count)]]
      (rowBytes j.fmtA j.sblkA n) 0 [n, e, no, ps'.length],
   (rows.filter fun x => 1 < x.2.2.length).map fun x => (x.1, x.2.2.length))

/-! ### Gather measures (R200) -/

/-- A part of a bag in a measure of GATHER_REDUCE: the bag's number in the job and how many of its positions the measure covers. -/
structure BagPart where
  bag : Nat := 0
  n : Nat := 0
  deriving DecidableEq, Repr, Inhabited

/-- A gather measure: its first AUX position, the columns `e` to `e + n - 1` of its rows, and its parts of bags. -/
structure Gather where
  at_ : Nat := 0
  e : Nat := 0
  n : Nat := 0
  parts : List BagPart := []
  deriving DecidableEq, Repr, Inhabited

/-- Positions that it covers. -/
def Gather.np (g : Gather) : Nat := g.parts.foldl (fun n p => n + p.n) 0
/-- The numbers that a measure carries of it, and back. -/
def Gather.aux (g : Gather) : List Nat := [g.at_, g.e, g.n] ++ g.parts.flatMap fun p => [p.bag, p.n]
def Meas.gather (m : Meas) : Gather :=
  { at_ := m.aux.getD 0 0, e := m.aux.getD 1 0, n := m.aux.getD 2 0,
    parts := (List.range ((m.aux.length - 3) / 2)).map fun i => { bag := m.aux.getD (3 + 2 * i) 0, n := m.aux.getD (4 + 2 * i) 0 } }

/-- The number of an output: the bag, and the first column of the piece of its row. -/
def outNo (bag e : Nat) : Nat := bag * 2 ^ 24 + e

/-- Columns that one measure may cover. DESIGN CHOICE: the whole row where it meets R192 and R200, else the largest power of two of
elements that does. -/
def Job.gatherCols (j : Job) : Nat :=
  let ok := fun (n : Nat) => decide (rowBytes j.fmtA j.sblkA n ≤ 122880) && decide (rowBytes j.fmtD j.sblkD n ≤ MEASURE)
  if ok j.xlen then max 1 j.xlen else largestPow ok 24

/-- A gather measure being cut, its last part first; `key` tells the pages and columns that its positions share. -/
structure GCut where
  g : Gather := {}
  key : List Nat := []
  deriving DecidableEq, Repr, Inhabited

/-- One position of a bag, or the whole of an empty bag, added: a new measure starts at the limits of R192 and R200 and where the key
changes. -/
def gatherItem (limit outLimit e cols : Nat) (acc : List GCut) (bag at_ n : Nat) (key : List Nat) : List GCut :=
  let fresh : GCut := { g := { at_ := at_, e := e, n := cols, parts := [{ bag := bag, n := n }] }, key := key }
  match acc with
  | [] => [fresh]
  | c :: done =>
    let more := match c.g.parts with | p :: _ => p.bag != bag | [] => true
    if limit < c.g.np + n || c.key != key || (more && outLimit ≤ c.g.parts.length) then fresh :: acc
    else
      let parts := match c.g.parts with
        | p :: r => if p.bag = bag then { p with n := p.n + n } :: r else { bag := bag, n := n } :: p :: r
        | [] => [{ bag := bag, n := n }]
      { c with g := { c.g with parts := parts, at_ := if c.g.np = 0 then at_ else c.g.at_ } } :: done

/-- One gather measure of tile k: AUX, AUX3 when WEIGHTED, and the pieces of its bags' rows. -/
def State.gatherOne (s : State) (j : Job) (k : Nat) (ps : List TPage) (g : Gather) : Meas :=
  let dr := (j.dstGeo k).rows
  let w := if j.flag4 then eltAlign j.fmtB else 0
  let src := if g.np = 0 then [] else [[(j.pva 18 + 4 * g.at_, 4 * g.np)]] ++ (if j.flag4 then [[(j.pva 22 + w * g.at_, w * g.np)]] else [])
  s.tileMeas j k ps src [g.parts.flatMap fun p => rowPiece j.fmtD j.sblkD j.xlen (dr.getD (p.bag - k * j.ycnt) 0) g.e g.n]
    (g.np * rowBytes j.fmtA j.sblkA g.n) 0 g.aux

/-- Outputs that several measures combine, with their number. -/
def sharedOuts (gs : List Gather) : List (Nat × Nat) :=
  let ids := gs.flatMap fun g => g.parts.map fun p => outNo p.bag g.e
  (distinct (sortBy id ids)).filterMap fun b =>
    let n := (ids.filter fun x => x == b).length
    if 1 < n then some (b, n) else none

/-- Measures of a GATHER_REDUCE tile whose offsets have been read (R200): over consecutive AUX positions, and, for a bag whose row
takes several pieces, piece by piece. -/
def State.gatherMeas (s : State) (j : Job) (k : Nat) (offs : List Nat) (ps : List TPage) : List Meas × List (Nat × Nat) :=
  let dr := (j.dstGeo k).rows
  let w := if j.flag4 then eltAlign j.fmtB else 0
  let page := fun (a : Nat) => baseFor ps (some a)
  let gs := (List.range j.ycnt).foldl (fun acc b =>
    let lo := offs.getD b 0; let hi := offs.getD (b + 1) 0
    let bag := k * j.ycnt + b; let row := dr.getD b 0
    let ops : List RowAt := [⟨j.fmtD, j.sblkD, row⟩]
    let unit := max (blkLen j.fmtA j.sblkA) 1
    let cols := slices (fun e => let n := cutAt ps (fun _ _ => true) j.gatherCols j.xlen ops e
                                 min (max 1 (n / unit) * unit) (j.xlen - e)) j.xlen (j.xlen + 1) 0
    cols.foldl (fun acc c =>
      let limit := max 1 (min 512 (122880 / max 1 (rowBytes j.fmtA j.sblkA c.2)))
      let outMax := max 1 (MEASURE / max 1 (rowBytes j.fmtD j.sblkD c.2))
      let key := fun (p : Nat) =>
        [page (j.pva 18 + 4 * p), if j.flag4 then page (j.pva 22 + w * p) else 0, page row, c.1, if cols.length = 1 then 0 else bag + 1]
      if hi ≤ lo then gatherItem limit outMax c.1 c.2 acc bag lo 0 (key lo)
      else (List.range (hi - lo)).foldl (fun acc i => gatherItem limit outMax c.1 c.2 acc bag (lo + i) 1 (key (lo + i))) acc) acc) []
  let gs := gs.reverse.map fun c => { c.g with parts := c.g.parts.reverse }
  (gs.map (s.gatherOne j k ps), sharedOuts gs)

/-- The first `i` positions of a gather measure and the rest of it. -/
def Gather.split (g : Gather) (i : Nat) : Gather × Gather :=
  let (a, b, _) := g.parts.foldl (fun (acc : List BagPart × List BagPart × Nat) p =>
    let (a, b, left) := acc
    if p.n ≤ left then (a ++ [p], b, left - p.n)
    else if left = 0 then (a, b ++ [p], 0)
    else (a ++ [{ p with n := left }], b ++ [{ p with n := p.n - left }], 0)) ([], [], i)
  ({ g with parts := a }, { g with at_ := g.at_ + i, parts := b })

/-- The measures of tile k, and the outputs that several of them combine. -/
def State.cutTile (s : State) (j : Job) (k : Nat) (offs : List Nat) (ps : List TPage) : List Meas × List (Nat × Nat) :=
  match j.op with
  | 0x20 => s.reduceMeas j k ps
  | 0x21 => s.gatherMeas j k offs ps
  | 0x22 => (s.quantMeas j k ps, [])
  | 0x23 => (s.quantMeas j k ps, [])
  | 0x24 => (s.quantMeas j k ps, [])
  | 0x25 => s.topMeas j k ps
  | _ => (s.byteMeas j k ps, [])

end Sys2Proof.Machine
end

