-- ==== Sys2Proof/Machine/EngJob.lean ====
section
/-! DEFINITION. A job's progress outside its measures: engine queues (R146, R147, R193), pre-checks of tiles and of a cask's ranges
(R145, R166, R168, R199), the end of a job, and FAULT_RESOLVE (R125). -/

namespace Sys2Proof.Machine

/-! ### Engine queues (R133, R146, R147, R152) -/

/-- Home engines of a stack (R133). -/
def homeEngines (k : Nat) : List Nat := (List.range 16).map fun i => 16 * k + i

/-- In service: neither offline, nor failed, nor in self-test. -/
def EngUnit.on (u : EngUnit) : Bool := !u.offline && !u.failed && u.testLeft.isNone

/-- Does the throttle level gate engine n (Table 16.4): home position at or above 16 − 2 × (L − 12)? -/
def State.gated (s : State) (n : Nat) : Bool := let l := min 18 s.pwr.level; 12 < l && 16 ≤ n % 16 + 2 * (l - 12)

/-- Does engine n take measures: in service and not gated (R152, R461)? -/
def State.engOn (s : State) (n : Nat) : Bool := (s.unit n).on && !s.gated n

/-- The home engine of stack `k` that takes the next measure (R146): in turn, in service while one is, with room. -/
def State.nextEngine (s : State) (k : Nat) : Option Nat :=
  let t := Tbl.getD s.eng.turn k 15
  let order := (List.range 16).map fun i => 16 * k + (t + 1 + i) % 16
  let room := order.filter fun n => (s.unit n).queue.length < 256
  match room.find? fun n => s.engOn n with
  | some n => some n
  | none => if order.any fun n => s.engOn n then none else room.head?

/-- A measure queued on a home engine of its stack; none while there is no room. -/
def State.placeMeas (s : State) (m : Meas) (fixed : Option Nat) : Option (Nat × State) :=
  match (match fixed with | some n => some n | none => s.nextEngine m.stack) with
  | none => none
  | some n =>
    if 256 ≤ (s.unit n).queue.length then none
    else
      let s := s.setUnit n fun u => { u with queue := u.queue ++ [m] }
      some (n, s.onEng fun e => { e with turn := Tbl.put e.turn m.stack (n % 16) })

/-! ### Staging (R193, R194) -/

/-- Outputs in staging that a measure adds to. -/
def Meas.outIds (op : Nat) (m : Meas) : List Nat :=
  match op with
  | 0x20 => [m.aux.getD 1 0]
  | 0x25 => [m.aux.getD 2 0]
  | 0x21 => m.gather.parts.map fun p => outNo p.bag m.gather.e
  | _ => []

/-- What comes of asking for staging. -/
inductive Staged where
  | ok (s : State)
  | wait
  | never
  deriving DecidableEq, Repr, Inhabited

/-- Staging allocated for an output on a die, when there is room (R193). -/
def State.takeStage (s : State) (d need : Nat) : Option State :=
  let used := Tbl.getD s.opu.stage d 0
  if s.stageCap < used + need then none
  else some (s.onOpu fun p =>
    { p with stage := Tbl.put p.stage d (used + need), stagePeak := Tbl.modD p.stagePeak d 0 fun n => max n (used + need) })

/-- Staging for every output of a measure that still has none. -/
def State.stageFor (s : State) (j : Job) (m : Meas) : Staged :=
  let d := dieOfStack m.stack
  let need := j.outNeed j.sliceR
  (m.outIds j.op).foldl (fun acc id =>
    match acc with
    | .ok s =>
      match (s.job? j.agent j.jobid).bind fun j => Tbl.find j.outs id with
      | none => .ok s
      | some o =>
        if o.stage != 0 then .ok s
        else if s.stageCap < need then .never
        else match s.takeStage d need with
          | none => .wait
          | some s => .ok (s.setJob j.agent j.jobid fun j => { j with outs := Tbl.upd j.outs id fun o => { o with stage := need, die := d } })
    | r => r) (.ok s)

/-! ### Feeding (R147) -/

def Job.setTile (j : Job) (k : Nat) (f : Tile → Tile) : Job := { j with tiles := j.tiles.map fun t => if t.k = k then f t else t }

/-- Is the job a SHA-384 checksum, whose measures run one at a time (R158)? -/
def Job.sha384 (j : Job) : Bool := !j.isStep && j.op == 5 && bit (j.dw 15) 0

/-- Measures of the job that are queued, parked or running. -/
def Job.out (j : Job) : Nat := j.tiles.foldl (fun n t => n + t.queued) 0 + j.extraOut

/-- The next measure that Lutik holds back: of the lowest tile first, then those outside tiles. -/
def Job.nextHeld (j : Job) : Option (Option Nat × Meas) :=
  match j.tiles.find? fun t => !t.todo.isEmpty with
  | some t => t.todo.head?.map fun m => (some t.k, m)
  | none => j.extra.head?.map fun m => (none, m)

/-- Held-back measures queued while there is room (R147), staging (R193) and, for SHA-384, while none is out (R158). -/
def State.feedJob (s : State) (agent jobid : Nat) : Nat → State
  | 0 => s
  | fuel + 1 =>
    match s.job? agent jobid with
    | none => s
    | some j =>
      if j.state == .stopping || j.state == .done || (j.sha384 && j.out != 0) then s
      else match j.nextHeld with
        | none => s
        | some (t, m) =>
          match s.stageFor j m with
          | .never => s.stopJob agent jobid .quota 12
          | .wait => s.bump blkOPU (0x0530 + 4 * dieOfStack m.stack)
          | .ok s =>
            match s.placeMeas m (if j.sha384 && m.sub == 0 then j.engine else none) with
            | none => s
            | some (n, s) =>
              let s := s.setJob agent jobid fun j =>
                let j := if j.sha384 && j.engine.isNone then { j with engine := some n } else j
                match t with
                | some k => j.setTile k fun t => { t with todo := t.todo.drop 1, queued := t.queued + 1 }
                | none => { j with extra := j.extra.drop 1, extraOut := j.extraOut + 1 }
              s.feedJob agent jobid fuel

/-! ### Faults of a job (Table 5.8) -/

/-- A pre-check that faulted: the record, and FAULTED; UNMAPPED when every record is in use. -/
def State.faultJob (s : State) (agent jobid : Nat) (pva high cause kind : Nat) (held : Bool) : State :=
  let (s, ok) := s.tileFault agent jobid pva high cause kind
  if ok then (s.setJob agent jobid fun j => { j with state := .faulted, held := held }).change
  else s.stopJob agent jobid .unmapped 0

/-- Granules of a byte range. -/
def granulesOf (a n : Nat) : List Nat := ({ base := a, x := n } : Geo).granules

/-- A range outside tiles pre-checked for a job whose measures it holds up: its pages, or the state with the job stopped or
FAULTED. -/
def State.preRange (s : State) (j : Job) (w : Bool) (a n : Nat) : State × Option (List TPage) :=
  let ops := [(w, granulesOf a n)]
  let (s, out) := s.preTile j.agent ops
  match out with
  | .pass ps => (s, some ps)
  | .stop st => (s.stopJob j.agent j.jobid st 0, none)
  | .fault pva high cause kind => (s.faultJob j.agent j.jobid pva high cause kind true, none)

/-! ### COMPRESS and EXPAND outside their tiles (R166 to R168) -/

/-- Bytes of a piece of a cask's destination (R166). -/
abbrev PIECE : Nat := 16777216

/-- The destination pre-checked up to `need` bytes, in pieces of 16 MiB; `total` is its length. -/
def State.growDst (s : State) (agent jobid need total : Nat) : Nat → State × Bool
  | 0 => (s, false)
  | fuel + 1 =>
    match s.job? agent jobid with
    | none => (s, false)
    | some j =>
      if need ≤ j.dstDone then (s, true)
      else
        let n := min PIECE (total - j.dstDone)
        if n = 0 then (s, false)
        else match s.preRange j true (j.pva 4 + j.dstDone) n with
          | (s, none) => (s, false)
          | (s, some ps) =>
            let s := s.setJob agent jobid fun j =>
              { j with dstPages := j.dstPages ++ ps.filter fun p => (pageFor j.dstPages p.pva).isNone, dstDone := j.dstDone + n }
            s.growDst agent jobid need total fuel

/-- Write measures of bytes at an offset of the destination, cut at 128 KiB and at pages. -/
def State.writeMeas (s : State) (j : Job) (sub : Nat) (aux : List Nat) (off : Nat) (data : List Byte) : List Meas :=
  let cuts := (blocksOf MEASURE (data.length + 1) data).mapIdx fun i b => (off + i * MEASURE, b)
  cuts.flatMap fun c =>
    ((splitPages j.dstPages (c.2.length / MIB2 + 3) (j.pva 4 + c.1) c.2.length).foldl (fun (acc : List Meas × List Byte) x =>
      let side : MSide := { at_ := s.atOf x.1, runs := [x.2] }
      (acc.1 ++ [{ work := .job j.agent j.jobid, kind := .tile 0, cls := j.cls, agent := j.agent, dst := [side], len := x.2.2,
                   stack := s.sideStack side, sub := sub, aux := aux, data := acc.2.take x.2.2 }], acc.2.drop x.2.2)) ([], c.2)).1

/-- Coded blocks whose offset is known laid out and their writes formed (R167); the header and index last. -/
def State.caskLay (s : State) (agent jobid : Nat) : Nat → State
  | 0 => s
  | fuel + 1 =>
    match s.job? agent jobid with
    | none => s
    | some j =>
      let blocks := j.caskBlocks
      if j.state != .running || j.closing then s
      else if j.laid = blocks then
        if !j.cask.isEmpty || !j.tiles.isEmpty then s
        else
          let head := caskHead (j.dw 15) (j.tilesN * j.xlen) ((List.range blocks).map fun b => Tbl.getD j.lens b 0)
          let ms := s.writeMeas j 3 [] 0 head
          s.setJob agent jobid fun j => { j with closing := true, extra := j.extra ++ ms }
      else match j.cask.find? fun b => b.no == j.laid with
        | none => s
        | some b =>
          let off := if j.laid = 0 then caskHeadLen blocks else j.caskOut
          match s.growDst agent jobid (off + b.bytes.length) j.dcap (j.dcap / PIECE + 2) with
          | (s, false) => s
          | (s, true) =>
            let ms := match s.job? agent jobid with
              | some j => s.writeMeas j 2 [b.no] off b.bytes
              | none => []
            let s := s.setJob agent jobid fun j =>
              { j with laid := j.laid + 1, caskOut := off + b.bytes.length, extra := j.extra ++ ms
                       cask := j.cask.map fun x => if x.no == b.no then { x with left := b.bytes.length } else x }
            s.caskLay agent jobid fuel

/-- Measures of an EXPAND formed for the next blocks, two at a time (R168). -/
def State.expandLay (s : State) (agent jobid : Nat) : Nat → State
  | 0 => s
  | fuel + 1 =>
    match s.job? agent jobid with
    | none => s
    | some j =>
      if j.state != .running || j.index.length ≤ j.laid then s
      else
        let n := min 2 (j.index.length - j.laid)
        let out := min (n * CBLK) (j.ulen - j.laid * CBLK)
        match s.growDst agent jobid (j.laid * CBLK + out) j.ulen (j.ulen / PIECE + 2) with
        | (s, false) => s
        | (s, true) =>
          match s.job? agent jobid with
          | none => s
          | some j =>
            let src := s.sides j.srcPages (((j.index.drop j.laid).take n).map fun e => (j.pva 2 + e.1, e.2))
            let dst := s.sides j.dstPages [(j.pva 4 + j.laid * CBLK, out)]
            let m : Meas :=
              { work := .job agent jobid, kind := .tile 0, cls := j.cls, agent := agent, src := src, dst := dst, len := out
                stack := (src.head?.map s.sideStack).getD 0, sub := 5, aux := j.laid :: ((j.index.drop j.laid).take n).map Prod.snd }
            let s := s.setJob agent jobid fun j =>
              { j.setTile 0 fun t => { t with todo := t.todo ++ [m] } with laid := j.laid + n }
            s.expandLay agent jobid fuel

/-! ### Pre-checks of tiles (R122, R145, R196, R199) -/

/-- Did the last measure of tile k complete before this boundary's tick? -/
def Job.endedBefore (j : Job) (k tick : Nat) : Bool :=
  match Tbl.find j.ends k with
  | some t => t < tick
  | none => false

/-- May the job's next tile be pre-checked now (R145)? -/
def Job.preReady (j : Job) (tick : Nat) : Bool :=
  (j.state == .queued || j.state == .running) && !j.isStep && !j.isRack &&
  (match j.tiles.find? fun t => t.half with
   | some t => t.startAt < tick
   | none =>
     j.next < j.tilesN &&
     (j.next == 0 ||
      (if j.ordered then j.endedBefore (j.next - 1) tick
       else (j.tiles.all fun t => t.k + 1 == j.next && t.started) && (j.next == 1 || j.endedBefore (j.next - 2) tick))))

/-- The AUX and AUX3 ranges that a GATHER_REDUCE tile's bags use, with their DWs (R199). -/
def Job.bagRanges (j : Job) (t : Tile) : List Opnd :=
  let a := t.offs.headD 0; let b := t.offs.getLastD 0
  let w := eltAlign j.fmtB
  if a < b then { dw := 18, geo := { base := j.pva 18 + 4 * a, x := 4 * (b - a) } } ::
    (if j.flag4 then [{ dw := 22, geo := { base := j.pva 22 + w * a, x := w * (b - a) } }] else [])
  else []

/-- Operands of the pre-check that is due, each with its write flag and granules. A REDUCE's list belongs to its first tile, which
reads it (R190). -/
def Job.preOpnds (j : Job) : List (Bool × List Nat) :=
  let k := j.next
  let of := fun (o : Opnd) => (o.write, o.geo.granules)
  match j.op with
  | 7 => [(false, granulesOf (j.pva 2) 64)]
  | 0x20 => (((j.operands k).filter fun o => k == 0 || o.dw != 18).map of) ++
      (if j.listRead then (List.range j.count).map fun i => (false, (j.redGeo i k).granules) else [])
  | 0x21 =>
    match j.tiles.find? fun t => t.half with
    | none => [(false, (j.offGeo k).granules)]
    | some t => (j.bagRanges t).map of ++ [(true, (j.dstGeo t.k).granules)]
  | _ => (j.operands k).map of

/-- Granules that the pre-check due tests for reading beside writing: the destination of a REDUCE with ACC (R196). -/
def Job.preAlso (j : Job) : List Nat := if j.op == 0x20 && j.flag4 then (j.dstGeo j.next).granules else []

/-- 32-bit words and 64-bit words of a byte list. -/
def wordsOf (bs : List Byte) : List Nat := unpackBits 32 (bs.length + 1) bs
def dwordsOf (bs : List Byte) : List Nat := (blocksOf 8 (bs.length + 1) bs).map leNat

/-- A tile that has passed enters the job with its measures (Table 5.8, R146). -/
def State.admitTile (s : State) (j : Job) (k : Nat) (offs : List Nat) (ps : List TPage) : State :=
  let (ms, outs) := if j.op == 7 then
      ([{ work := j.work, kind := .tile 0, cls := j.cls, agent := j.agent, src := s.sides ps [(j.pva 2, 64)], len := 64,
          stack := ((s.sides ps [(j.pva 2, 64)]).head?.map s.sideStack).getD 0, noSteal := true, sub := 4 }], [])
    else s.cutTile j k offs ps
  let s := s.setJob j.agent j.jobid fun j =>
    { j with state := .running, next := k + 1
             tiles := (j.tiles.filter fun t => t.k != k) ++ [{ k := k, pages := ps, todo := ms, offs := offs }]
             srcPages := if j.op == 7 then ps else j.srcPages
             outs := outs.foldl (fun t o => Tbl.put t o.1 { left := o.2 }) j.outs }
  (s.prefetchTile j k).change

/-- The DW that a GATHER_REDUCE tile's AUX and AUX3 ranges break a rule of R190 at. DESIGN CHOICE: ranges known only from the offsets
stop the job as a REDUCE's list does, with MALFORMED and that DW. -/
def Job.rangeBad (j : Job) (t : Tile) : Option Nat :=
  lowest ((j.bagRanges t).flatMap fun o =>
    (if 2 ^ 24 < o.geo.x || 2 ^ 52 < o.geo.top then [o.dw] else []) ++ (if o.geo.meets (j.dstGeo t.k) then [4] else []))

/-- What a passed pre-check leads to: the first step of a GATHER_REDUCE keeps its offsets (R199), every other tile is cut. -/
def State.passTile (s : State) (j : Job) (ps : List TPage) : State :=
  if j.op != 0x21 then s.admitTile j j.next [] ps
  else match j.tiles.find? fun t => t.half with
    | some t => s.admitTile j t.k t.offs ps
    | none => match s.readPva ps [((j.offGeo j.next).base, (j.offGeo j.next).x)] with
    | (s, none) => s.stopJob j.agent j.jobid .internal poisonDetail
    | (s, some bytes) =>
      let k := j.next
      let offs := wordsOf bytes
      let bad := (List.range j.ycnt).find? fun b =>
        offs.getD (b + 1) 0 < offs.getD b 0 || 4096 < offs.getD (b + 1) 0 - offs.getD b 0
      match bad with
      | some b => s.stopJob j.agent j.jobid .malformed ((k * j.ycnt + b) % 2 ^ 24)
      | none =>
        let t : Tile := { k := k, pages := ps, half := true, offs := offs, startAt := s.tick }
        match j.rangeBad t with
        | some d => s.stopJob j.agent j.jobid .malformed (4 + d)
        | none => s.setJob j.agent j.jobid fun j => { j with state := .running, tiles := j.tiles ++ [t] }

/-- A source list that breaks R190 or R196: reserved bits, misaligned or outside the PVA space, or meeting the destination. -/
def Job.listBad (j : Job) (l : List Nat) : Bool :=
  l.any fun e => 2 ^ 52 ≤ e || (blkLen j.fmtA j.sblkA == 0 && e % eltAlign j.fmtA != 0) ||
    (List.range j.tilesN).any fun k =>
      let g : Geo := { j.srcGeo k with base := tileBase e j.sts k }
      2 ^ 52 < g.top || g.meets (j.dstGeo k) || 512 < g.granules.length || (blkLen j.fmtA j.sblkA != 0 && !g.rowsInGranule)
  || (List.range j.tilesN).any fun k => 4096 < (j.operands k).foldl (fun n o => n + o.geo.granules.length) 0 +
      l.foldl (fun n e => n + ({ j.srcGeo k with base := tileBase e j.sts k } : Geo).granules.length) 0

/-- The pre-check that is due, over every operand known now, with its outcome (R122). -/
def State.precheckNow (s : State) (j : Job) : State :=
  let ops := j.preOpnds
  let (s, out) := s.preTile j.agent ops j.preAlso
  match out with
  | .stop st => s.stopJob j.agent j.jobid st 0
  | .fault pva high cause kind => s.faultJob j.agent j.jobid pva high cause kind false
  | .pass ps => s.passTile j ps

/-- The pre-check of the job's next tile, at a boundary (TILE_PRECHECK). A REDUCE whose list can be read reads it first, so that the
outcome is decided over its sources too (R196). -/
def State.precheckJob (s : State) (j : Job) : State :=
  if j.op != 0x20 || j.listRead then s.precheckNow j
  else match s.preOps j.agent [(false, j.listGeo.granules)] with
    | .pass ps =>
      match s.readPva ps [(j.pva 18, 8 * j.count)] with
      | (s, none) => s.stopJob j.agent j.jobid .internal poisonDetail
      | (s, some bytes) =>
        let l := dwordsOf bytes
        if j.listBad l then s.stopJob j.agent j.jobid .malformed (4 + 18)
        else
          (s.setJob j.agent j.jobid fun j => { j with listRead := true, srcList := l }).precheckNow { j with listRead := true, srcList := l }
    | _ => s.precheckNow j

/-! ### The end of a job (Table 5.8) -/

/-- Every measure is done: OK with RESULT, or LINK_LOST of a push (R161), with the flags of R195. -/
def State.endJob (s : State) (j : Job) : State :=
  let (st, d) := if j.op == 8 && j.dropMask != 0 then (Status.linkLost, j.dropMask)
    else (Status.ok, if j.dataOp then b2n j.sat + 2 * b2n j.nan else 0)
  (s.setJob j.agent j.jobid fun j => { j with state := .done, status := st, detail := d }).change.finishJob j.agent j.jobid

/-- Completed tiles counted and removed (R145); an EXPAND's tile ends with its last block. -/
def State.closeTiles (s : State) (agent jobid : Nat) : State :=
  match s.job? agent jobid with
  | none => s
  | some j =>
    let ended := fun (t : Tile) => t.todo.isEmpty && t.queued == 0 && !t.half &&
      !(j.op == 7 && (!j.listRead || j.laid < j.index.length))
    let n := (j.tiles.filter ended).length
    if n = 0 then s
    else
      let s := s.setJob agent jobid fun j =>
        { j with tiles := j.tiles.filter fun t => !ended t, tilesDone := j.tilesDone + n,
                 ends := (j.tiles.filter ended).foldl (fun t x => Tbl.put t x.k s.tick) (j.ends.filter fun e => j.next ≤ e.1 + 2) }
      s

/-- More bytes hashed by a SHA-384 in progress. -/
def ShaSt.add (s : ShaSt) (bs : List Byte) : ShaSt :=
  let h := if s.h.isEmpty then sha384Init else s.h
  let b := s.rest ++ bs
  let n := b.length / 128
  { h := shaBlocks n h b, rest := b.drop (n * 128), total := s.total + bs.length }

/-- The digest of everything hashed. -/
def ShaSt.digest (s : ShaSt) : List Byte :=
  let h := if s.h.isEmpty then sha384Init else s.h
  let p := s.rest ++ [0x80] ++ List.replicate ((239 - s.total % 128) % 128) 0 ++ beBytes 16 (8 * s.total)
  ((shaBlocks (p.length / 128) h p).take 6).flatMap fun w => beBytes 8 w

/-- The digest of a finished SHA-384 checksum written to DST (R158). DESIGN CHOICE: a DST found unmapped, withdrawn or without rights then
stops the job with that status, and opens no fault record. -/
def State.digestMeas (s : State) (j : Job) : State :=
  let h := j.sha.digest
  let s := s.readTables s.mir.primary j.agent (j.pva 4)
  match s.checkUse j.agent (j.pva 4) true with
  | (.ok, some t, _) =>
    let p : TPage := { pva := t.leaf.base (j.pva 4), leaf := t.leaf }
    let side : MSide := { at_ := s.atOf p, runs := [(j.pva 4 - p.pva, 64)] }
    let m : Meas := { work := j.work, kind := .tile 0, cls := j.cls, agent := j.agent, dst := [side], len := 64,
                      stack := s.sideStack side, noSteal := true, sub := 1, data := h ++ List.replicate 16 0 }
    s.setJob j.agent j.jobid fun j => { j with closing := true, extra := [m] }
  | (st, _, _) => s.stopJob j.agent j.jobid st 0

/-- PUSH_DONE to every port of a push with NOTIFY, after its last data (R160). -/
def State.pushNotify (s : State) (j : Job) : State :=
  if j.op != 8 || !bit (j.dw 15) 8 then s
  else match j.push with
    | none => s
    | some (mask, members) => (maskBits 16 mask).foldl (fun s p =>
        s.sendPkt p { agt := members.getD p 0, tid := j.jobid, body := .pushDone j.agent, cls := 2, vc := 2, flits := 1 }) s

/-- What follows a completed measure: tiles close, and a job with nothing left ends. -/
def State.advance (s : State) (agent jobid : Nat) : State :=
  let s := (s.closeTiles agent jobid).syncCheck
  match s.job? agent jobid with
  | none => s
  | some j =>
    if j.state == .stopping then (if s.workRuns j.work then s else s.finishJob agent jobid)
    else if j.isStep || j.isRack || j.next < j.tilesN || !j.tiles.isEmpty || !j.extra.isEmpty || j.extraOut != 0 then s
    else if j.sha384 && !j.closing then s.digestMeas j
    else if j.op == 6 && !j.closing then s
    else (s.pushNotify j).endJob j

/-! ### FAULT_RESOLVE (R125) -/

/-- A waiting job tries again (R125). -/
def State.retryJob (s : State) (agent jobid : Nat) : State :=
  match s.job? agent jobid with
  | none => s
  | some j =>
    if j.state != .faulted then s
    else if j.isStep then s
    else if j.held then
      let s := s.setJob agent jobid fun j => { j with held := false, state := .running }
      if j.op == 6 then s.caskLay agent jobid (j.cask.length + 2)
      else if j.op == 7 then s.expandLay agent jobid (j.index.length + 2)
      else s
    else s.precheckJob j

end Sys2Proof.Machine
end

