-- ==== Sys2Proof/Machine/EngTake.lean ====
section
/-! DEFINITION. Taking measures at a tick boundary: directory decisions (R148), rows of GATHER_REDUCE (R200), charges (R238), meters
(R349 to R351), stealing (R150), the limit between dies (R151) and the token budget (R22). -/

namespace Sys2Proof.Machine

/-! ### What the directory says of an operand (R148) -/

/-- An operand decided as a request by the job's agent. -/
def sideReq (n : Nat) (m : Meas) (write : Bool) (x : MSide) : Option PReq :=
  match x.at_ with
  | .page r h d =>
    some { agent := m.agent, via := .engine, code := if write then .store else .load, region := r, home := h, draft := d,
           write := write, meas := some (n, m) }
  | _ => none

/-- Does the agent still have what the operand's page needs (Table 5.8): the region served, the bin not withdrawn, rights and
view on the region's list? -/
def State.sideRefusal (s : State) (agent : Nat) (write : Bool) (x : MSide) : Option Status :=
  match x.at_ with
  | .page r h d =>
    let g := s.region r
    let a := Tbl.getD g.acl agent {}
    if g.state == .lost then some .regionLost
    else if agent = 0 then none
    else if g.removing then none
    else if g.state == .free || g.state == .destroying then some .accessRevoked
    else match g.locate (idxPa h) with
      | none => some .accessRevoked
      | some (b, _, _) =>
        let i := s.decideIdx r h d
        if g.revokedBin agent b || (d && (s.entry i).view == 3 && g.revokedDraft agent i) then some .accessRevoked
        else if !(if write then a.w else a.r) || (g.versioned && !a.viewOk d) then some .accessRevoked
        else none
  | _ => none

/-- What comes of the directory's decision on one operand of a measure. -/
inductive Decided where
  | go                     -- decided now, and the access may be made
  | zero                   -- a page of a removed tenant, which reads zero
  | stop (st : Status) (detail : Nat)
  | park (v : Verdict)
  deriving DecidableEq, Repr, Inhabited

/-- The decision of Table 3.7 for an operand, by its verdict. -/
def State.decideSide (s : State) (j : Option Job) (q : PReq) : Decided :=
  let i := s.decideIdx q.region q.home q.draft
  match s.verdict i q false with
  | .serve => .go
  | .old _ => .go
  | .again => .go
  | .zeros => .zero
  | .unmapped => .stop .accessRevoked 0
  | .revoked => .stop .accessRevoked 0
  | .fresh => .park .fresh
  | .behindCopy => .park .behindCopy
  | .wait w => match j with
    | some j => if j.nowait && !j.isStep then .stop .heldElsewhere 0 else .park (.wait w)
    | none => .park (.wait w)
  | _ => .go

/-! ### Charges (R238, R239) -/

/-- The charge of runs on each stack (R238). R239's cuts keep it to 270,336 B; the bound stands here for a measure whose pages have
moved since it was cut, and for an EXPAND header with its index, so that any measure fits an empty tick. -/
def chargeOf (rs : List (Nat × Nat)) : Tbl Nat :=
  let sum : Tbl (Nat × Nat) := (lineTbl rs).foldl (fun u e => Tbl.modD u (e.1 / 64) (0, 0) fun x => (x.1 + e.2, max x.2 e.2)) []
  sum.map fun e => (e.1, min 270336 (max (64 * e.2.1) (4096 * e.2.2)))

/-- A measure's charge on a meter in 64 B units (Table 12.1); none for what is not metered. -/
def State.meterCharge (s : State) (m : Meas) (rd wr : Nat) : Option Nat :=
  if m.agent = 0 then none
  else match m.kind with
    | .toAgent => some (ceilDiv m.len 64)
    | .fromAgent => match m.work with
      | .writeBack i => if (s.entry i).state == .recalling then none else some (ceilDiv m.len 64)
      | _ => none
    | .tile _ => some (ceilDiv (max rd wr) 64)
    | .layer => if m.sub < 2 then some (ceilDiv (max rd wr) 64) else none
    | _ => none

def runBytes (rs : List (List (Nat × Nat))) : Nat := rs.foldl (fun n l => l.foldl (fun n r => n + r.2) n) 0

/-! ### Budgets of a boundary -/

/-- What is left of a boundary's budgets: bytes of each stack (R22) and cross-die measures of each die (R151). -/
structure Bud where
  stk : Tbl Nat := []
  xdie : Tbl Nat := []
  deriving DecidableEq, Repr, Inhabited

def Bud.covers (b : Bud) (c : Tbl Nat) : Bool := c.all fun e => e.2 ≤ Tbl.getD b.stk e.1 0
def Bud.spend (b : Bud) (c : Tbl Nat) : Bud :=
  { b with stk := c.foldl (fun t e => Tbl.modD t e.1 0 fun n => n - e.2) b.stk }

/-- Does a measure on an engine cross a hub (R151, R191, R226, R229): it writes to another die, or is a data operator's or a step's that
reads there? -/
def crossesDie (n : Nat) (dataOp : Bool) (rd wr : List (List (Nat × Nat))) : Bool :=
  let far := fun (l : List (List (Nat × Nat))) => l.any fun rs => rs.any fun r => r.1 < 16 * SLOT && dieOfStack (stackOf r.1) != n / 64
  far wr || (dataOp && far rd)

/-! ### Operands found when a measure is taken (R168, R200) -/

/-- What taking a measure adds to its operands, or why it cannot be taken. -/
inductive More where
  | ok (sides : List MSide)
  | stop (st : Status) (detail : Nat)
  | fault (pva cause : Nat)
  deriving DecidableEq, Repr, Inhabited

/-- The bag that holds the i-th position of a gather measure. -/
def Gather.bagOf (g : Gather) (i : Nat) : Nat :=
  ((g.parts.foldl (fun (acc : List (Nat × Nat) × Nat) p => (acc.1 ++ [(acc.2 + p.n, p.bag)], acc.2 + p.n)) ([], 0)).1.find?
    fun x => i < x.1).elim 0 Prod.snd

/-- The rows of a gather measure, each checked under Table 4.4 as it is translated (R200). -/
def State.gatherRows (s : State) (j : Job) (g : Gather) (idx : List Nat) : More :=
  (idx.mapIdx fun i r => (i, r)).foldl (fun acc x =>
    match acc with
    | .ok rows =>
      if j.count ≤ x.2 then .stop .malformed (g.bagOf x.1 % 2 ^ 24)
      else
        let pva := j.pva 2 + x.2 * j.dw 8
        match s.checkUse j.agent pva false with
        | (.ok, some t, _) =>
          let p : TPage := { pva := t.leaf.base pva, leaf := t.leaf }
          .ok (rows ++ [{ at_ := s.atOf p, runs := (rowPiece j.fmtA j.sblkA j.xlen pva g.e g.n).map fun r => (r.1 - p.pva, r.2) }])
        | (.unmapped, _, c) => .fault (MIB2 * (pva % 2 ^ 52 / MIB2)) c
        | (st, _, _) => .stop st 0
    | r => r) (.ok [])

/-- The row numbers of a gather measure, read as it is taken; none where their line has no good copy. AUX lies on one page, so it is
the first operand. -/
def State.gatherIdx (s : State) (m : Meas) : State × Option (List Nat) :=
  match m.src with
  | x :: _ =>
    let rs := s.readRuns x
    let s := s.readCheck (s.sideRegion x.at_) rs
    (s, if rs.any fun r => s.poisonIn r.1 r.2 then none else some (wordsOf (dense (4 * m.gather.np) 0 (gatherCells s.mem 0 rs))))
  | [] => (s, some [])

/-- The index of an EXPAND, which its header measure reads with the header (R168): as long as the header says, where the cask's
pages hold it. -/
def State.indexSides (s : State) (j : Job) (m : Meas) : List MSide :=
  match m.src with
  | x :: _ =>
    let rs := s.readRuns x
    match caskOpen (dense 64 0 (gatherCells s.mem 0 rs)) with
    | some (_, blocks, _) =>
      match s.preOps j.agent [(false, granulesOf (j.pva 2 + 64) (8 * blocks))] with
      | .pass ps => s.sides ps [(j.pva 2 + 64, 8 * blocks)]
      | _ => []
    | none => []
  | [] => []

/-! ### One engine at a boundary -/

/-- Is a class taken in the part's power state (R153, R393)? -/
def State.classOn (s : State) (c : MClass) : Bool :=
  match s.glb.pstate with
  | .active => true
  | .doze => c == .swap
  | .cellar => false

/-- ENG_CTRL's weights as they act (Table 5.14). -/
def State.weightE (s : State) : Nat := max 1 (bits s.eng.ctrl.toNat 7 4)
def State.weightM (s : State) : Nat := max 1 (bits s.eng.ctrl.toNat 11 8)

/-- The order in which an engine's own queue is tried (R149). -/
def State.classOrder (s : State) (u : EngUnit) : List MClass :=
  let e := u.rot % (s.weightE + s.weightM) < s.weightE
  [.swap, .urgent] ++ (if e then [.engine, .mgmt] else [.mgmt, .engine])

/-- What an engine may take, in order: its own queue by class, or, with an empty queue, from the tail of the fullest queue of
its die (R149, R150). Each with the engine whose queue holds it. DESIGN CHOICE: a thief ranks ENGINE and MGMT by its own rotation. -/
def State.candidates (s : State) (n : Nat) : List (Nat × Meas) :=
  let u := s.unit n
  if !u.queue.isEmpty then
    (s.classOrder u).flatMap fun c => (u.queue.filter fun m => m.cls == c && s.classOn c).map fun m => (n, m)
  else if !bit s.eng.ctrl.toNat 0 then []
  else
    let die := (List.range 64).map fun i => n / 64 * 64 + i
    match argMax (fun k => (s.unit k).queue.length) die with
    | none => []
    | some k =>
      let q := (s.unit k).queue.reverse.filter fun m => !m.noSteal
      (s.classOrder u).flatMap fun c => (q.filter fun m => m.cls == c && s.classOn c).map fun m => (k, m)

/-- Ports that a push goes to (R159, R308): those of its group's mask, as read. -/
def State.pushPorts (s : State) (j : Job) : List Nat :=
  maskBits 16 (match j.push with | some p => p.1 | none => (Tbl.getD s.trt.groups (j.dw 15 % 256) {}).mask)

/-- Has an egress queue room for the packets of `n` bytes on VC2 (R358)? -/
def State.egressRoom (s : State) (p n : Nat) : Bool := s.qdepth p 2 + ceilDiv n (s.packetData p) + ceilDiv n 64 ≤ 32768

/-- Is there room at the ports that a measure feeds (R160, R358)? -/
def State.portRoom (s : State) (j : Option Job) (m : Meas) : Bool :=
  match m.kind, m.work with
  | .toAgent, .swapIn id =>
    match Tbl.find s.dir.transfers id with
    | some (q, _) => match q.via with
      | .trellis p _ => !s.portUp p || s.egressRoom p m.len
      | .slot fn => s.qdepth (s.fnPort fn) 2 + tlpUnits (s.func fn).payload m.len ≤ 32768
      | _ => true
    | none => true
  | .tile _, _ => match j with
    | some j => !(j.op == 8 && !j.isStep) || (s.pushPorts j).all fun p => !s.portUp p || s.egressRoom p MEASURE
    | none => true
  | _, _ => true

/-- Blocks that an engine's scratch holds for COMPRESS (R167). -/
def State.scratchBlocks (s : State) (n : Nat) : Nat :=
  s.eng.jobs.foldl (fun k e => k + (e.2.cask.filter fun b => b.engine == n).length) 0

/-- A measure ready to be taken: its physical runs, its charges and what it adds to the measure. -/
structure Ready where
  run : Run := {}
  charge : Tbl Nat := []
  meter : Option Nat := none
  far : Bool := false
  deriving DecidableEq, Repr, Inhabited

/-- What an engine finds when it looks at a measure. -/
inductive Look where
  | pass                       -- another one first: its job or its scratch waits
  | stop (st : Status) (detail : Nat)
  | hold                       -- this one waits, and the engine with it
  | ready (r : Ready)
  deriving DecidableEq, Repr, Inhabited

/-- The first refusal among a measure's operands. -/
def State.runRefusal (s : State) (m : Meas) (rows : List MSide) : Option Status :=
  ((m.src ++ rows).findSome? fun x => s.sideRefusal m.agent false x).or (m.dst.findSome? fun x => s.sideRefusal m.agent true x)

/-- PA of a page that reads as zeros: outside the pool, where nothing is ever written. -/
def zeroRuns (x : MSide) : List (Nat × Nat) := x.runs.map fun r => (16 * SLOT + r.1, r.2)

/-- The runs that a read of an operand uses, by what the directory says of its page: the published image while its copy runs
(R47), zeros of a removed tenant's page. -/
def State.decidedRuns (s : State) (n : Nat) (m : Meas) (x : MSide) : List (Nat × Nat) :=
  match sideReq n m false x with
  | none => s.readRuns x
  | some q =>
    match s.verdict (s.decideIdx q.region q.home q.draft) q false with
    | .zeros => zeroRuns x
    | .old src => s.readRuns { x with at_ := .idx q.region src }
    | _ => s.readRuns x

/-- Bytes received for a write-back measure (R87). -/
def State.wbBytes (s : State) (m : Meas) : List Byte :=
  match m.work with
  | .writeBack i => match (s.entry i).wb with
    | some w => dense m.len 0 ((w.got.filter fun c => m.pos ≤ c.1 && c.1 < m.pos + m.len).map fun c => (c.1 - m.pos, c.2))
    | none => []
  | _ => []

/-- The job that a measure belongs to, and whether the measure gathers rows or reads an EXPAND's header. -/
def State.measJob (s : State) (m : Meas) : Option Job := (m.work.job?).bind fun w => s.job? w.1 w.2
def Meas.gathers (m : Meas) (j : Option Job) : Bool :=
  match j, m.kind with
  | some j, .tile _ => j.op == 0x21 && !j.isStep
  | _, _ => false

/-- The tag of an operand (R409): that of its page's owner. A scrub writes under slot 0's key and a sweep under both keys (R411, R413), and
neither is ever dropped. -/
def State.sideTag (s : State) (m : Meas) (x : MSide) : Option (Nat × Nat) :=
  match m.work, x.at_ with
  | .scrub _, _ => none
  | .pageScrub _, _ => none
  | .sweep _, _ => none
  | _, .page r _ _ => some (s.tagOf r)
  | _, .idx r _ => some (s.tagOf r)
  | _, .raw => none

/-- A measure with its operands as they stand: its runs, its charges and whether it crosses a hub. Rows still to be found count in the
meter's charge. -/
def State.readyOf (s : State) (n : Nat) (m : Meas) (j : Option Job) (more : List MSide) (late : Nat) (data : List Byte) : Ready :=
  let srcs := m.src ++ more
  let rd := srcs.map fun x => s.decidedRuns n m x
  let ws := m.dst.map s.writeRuns
  let wr := ws.map fun l => l.headD []
  let wr2 := ws.map fun l => l.getD 1 []
  let dataOp := match j with
    | some j => j.dataOp || m.kind == .layer
    | none => false
  { run := { m := { m with data := data, src := srcs }, nsrc := m.src.length, rd := rd, wr := wr, wr2 := wr2
             tags := (srcs.zip rd ++ m.dst.zip wr).map fun x => if x.2.isEmpty then none else s.sideTag m x.1 }
    charge := chargeOf ((rd ++ wr ++ wr2).flatMap id)
    meter := s.meterCharge m (runBytes rd + late) (runBytes wr)
    far := crossesDie n dataOp rd (wr ++ wr2) }

/-- Bytes of the rows that a gather measure will read. -/
def Meas.lateBytes (m : Meas) (j : Option Job) : Nat :=
  match j with
  | some j => if m.gathers (some j) then m.gather.np * rowBytes j.fmtA j.sblkA m.gather.n else 0
  | none => 0

/-- A measure looked at by engine n (R148 apart from the decision itself). A COMPRESS measure that finds no room in scratch lets the
ones behind it go first, so that writing never stalls (R167). -/
def State.look (s : State) (n : Nat) (m : Meas) : Look :=
  let j := s.measJob m
  let waits := match j with
    | some j => j.held || (j.op == 6 && !j.isStep && m.sub == 0 && 12 < s.scratchBlocks n)
    | none => false
  if waits || !s.rackTurn m then .pass
  else match s.runRefusal m [] with
    | some st => .stop st 0
    | none =>
      if !s.portRoom j m then .hold
      else .ready (s.readyOf n m j [] (m.lateBytes j) (if m.kind == .fromAgent then s.wbBytes m else m.data))

/-- A measure out of the queue that holds it. -/
def State.unqueue (s : State) (k : Nat) (m : Meas) : State := s.setUnit k fun u => { u with queue := u.queue.erase m }

/-- What the directory's decision on a measure's pages comes to. -/
inductive Fate where
  | go
  | left                       -- it has left the queue, or its job has stopped
  | hold
  deriving DecidableEq, Repr, Inhabited

/-- The directory's decision on operand pages of a measure (R148); a parked one goes back to the queue that held it. -/
def State.decideRun (s : State) (k : Nat) (m : Meas) (rd wr : List MSide) : State × Fate :=
  let qs := rd.filterMap (sideReq k m false) ++ wr.filterMap (sideReq k m true)
  let stop := fun (st : Status) (d : Nat) => match m.work.job? with
    | some w => (s.stopJob w.1 w.2 st d, Fate.left)
    | none => (s, Fate.hold)
  match qs.findSome? fun q => match s.decideSide (s.measJob m) q with | .go => none | .zero => none | d => some (q, d) with
  | none => (s, .go)
  | some (q, .park v) =>
    let i := s.decideIdx q.region q.home q.draft
    let park := fun (_ : Unit) =>
      ((((s.unqueue k m).bump blkENG (0x0520 + 4 * (k / 64))).act i q false v).1.reopen i, Fate.left)
    match v with
    | .fresh =>
      -- a write that finds no page for its copy is refused with QUOTA (R47)
      match s.takeCow q.region with
      | .inr d => stop .quota d
      | .inl _ => park ()
    | .wait _ => if s.parkRoom i then park () else (s, .hold)
    | _ => park ()
  | some (_, .stop st d) => stop st d
  | some (_, _) => (s, .go)

/-- A gather measure cut at position i (R239): the rest of it waits behind it in the queue. None while a bag that the cut divides
finds no staging. -/
def State.splitGather (s : State) (k : Nat) (m : Meas) (j : Job) (i : Nat) : Option (State × Meas) :=
  match m.kind, (j.tiles.find? fun t => m.kind == .tile t.k) with
  | .tile tk, some t =>
    let (a, b) := m.gather.split i
    let ma := s.gatherOne j tk t.pages a
    let mb := s.gatherOne j tk t.pages b
    let both := (a.parts.filter fun p => b.parts.any fun q => q.bag == p.bag).map fun p => outNo p.bag a.e
    let s1 := (s.setUnit k fun u => { u with queue := u.queue.flatMap fun x => if x == m then [ma, mb] else [x] }).setJob j.agent j.jobid fun j =>
      { j.setTile tk fun t => { t with queued := t.queued + 1 } with
        outs := both.foldl (fun o x => Tbl.modD o x { left := 1 } fun y => { y with left := y.left + 1 }) j.outs }
    match s1.stageFor j ma with
    | .ok s2 => some (s2, ma)
    | _ => none
  | _, _ => none

/-- The most positions of a gather measure whose rows keep to 33 lines of a pseudo-channel with what it reads beside them (R239). -/
def State.gatherFit (s : State) (m : Meas) (rows : List MSide) : Nat :=
  let base := m.src.flatMap s.readRuns
  let ok := fun (i : Nat) => within33 (base ++ (rows.take i).flatMap s.readRuns)
  if ok rows.length then rows.length else bisect ok 16 1 rows.length

/-- What a measure is once its own operands have been decided: the operands that it finds as it is taken (R168, R200), checked and
decided in their turn. The queue may then hold it cut shorter. -/
def State.complete (s : State) (n k : Nat) (m : Meas) (r : Ready) : State × Option (Meas × Ready) × Fate :=
  let j := s.measJob m
  match j with
  | none => (s, some (m, r), .go)
  | some j' =>
    let stop := fun (s : State) (st : Status) (d : Nat) => (s.stopJob j'.agent j'.jobid st d, none, Fate.left)
    if m.gathers j && m.gather.np != 0 then
      match s.gatherIdx m with
      | (s, none) => stop s .internal poisonDetail
      | (s, some idx) =>
        let s := (idx.filter fun r => r < j'.count).foldl (fun s r => s.readTables s.mir.primary j'.agent (j'.pva 2 + r * j'.dw 8)) s
        match s.gatherRows j' m.gather idx with
        | .stop st d => stop s st d
        | .fault p c => ((s.noteHole j'.agent p).faultJob j'.agent j'.jobid p p c 0 true, none, .left)
        | .ok rows =>
          match s.runRefusal { m with src := [], dst := [] } rows with
          | some st => stop s st 0
          | none =>
            let i := s.gatherFit m rows
            let cut := if i < rows.length then s.splitGather k m j' i else some (s, m)
            match cut with
            | none => (s, none, .hold)
            | some (s, m) =>
              let rows := rows.take i
              match s.decideRun k m rows [] with
              | (s, .go) => (s, some (m, s.readyOf n m j rows 0 ((idx.take i).flatMap (leBytes 4))), .go)
              | (s, f) => (s, none, f)
    else if m.sub == 4 && j'.op == 7 && !j'.isStep then
      let more := s.indexSides j' m
      match s.decideRun k m more [] with
      | (s, .go) => (s, some (m, s.readyOf n m j more 0 m.data), .go)
      | (s, f) => (s, none, f)
    else (s, some (m, r), .go)

/-- The first measure of a tile is taken (R145), and a push's group is read (R159). -/
def State.noteTaken (s : State) (m : Meas) : State :=
  match m.work with
  | .job a jid =>
    s.setJob a jid fun j =>
      let j := match m.kind with
        | .tile k => j.setTile k fun t => if t.started then t else { t with started := true, startAt := s.tick }
        | _ => j
      if j.op == 8 && !j.isStep && j.push.isNone then
        let g := Tbl.getD s.trt.groups (j.dw 15 % 256) {}
        { j with push := some (g.mask % 65536, g.members) }
      else j
  | _ => s

/-- A measure taken by engine n from queue k: it runs, and is charged. -/
def State.takeRun (s : State) (n k : Nat) (m : Meas) (r : Ready) (c : Colour) (b : Bud) : State × Bud :=
  let s := s.unqueue k m
  let push := match s.measJob m with
    | some j => if j.op == 8 && !j.isStep then (s.pushPorts j).filter fun p => s.portUp p else []
    | none => []
  let s := if k != n then s.bump blkENG (0x0510 + 4 * (n / 64)) else s
  let s := s.setUnit n fun u =>
    { u with running := some { r.run with ports := push }, rot := if m.cls == .engine || m.cls == .mgmt then (u.rot + 1) % (s.weightE + s.weightM) else u.rot }
  let s := match r.meter with
    | some x => s.spend m.agent x c
    | none => s
  let s := s.onMcx fun x => { x with stk := r.charge.foldl (fun t e =>
    Tbl.modD t e.1 {} fun k => { k with granted := k.granted + e.2 }) x.stk }
  let b := b.spend r.charge
  (s.noteTaken m, if r.far then { b with xdie := Tbl.modD b.xdie (n / 64) 0 fun x => x - 1 } else b)

/-- Is this measure's nomination by engine n refused red (R350)? -/
def State.isRed (s : State) (n : Nat) (m : Meas) : Bool :=
  match s.look n m with
  | .ready r => match r.meter with
    | some v => (s.meter m.agent).colour v == .red
    | none => false
  | _ => false

/-- Agents whose red nominations engine n passes over before a measure. -/
def State.redsBefore (s : State) (n : Nat) (upto : Option (Nat × Meas)) : List Nat :=
  (((s.candidates n).takeWhile fun x => some x != upto).filter fun x => s.isRed n x.2).map fun x => x.2.agent

/-- Red nominations counted (Table 12.9). -/
def State.noteReds (s : State) (agents : List Nat) : State := agents.foldl (fun s a => s.bump blkMTR (0x1400 + 4 * a) 1) s

/-- Do a boundary's budgets cover a measure on engine n (R22, R151)? -/
def Bud.room (b : Bud) (n : Nat) (r : Ready) : Bool := b.covers r.charge && !(r.far && Tbl.getD b.xdie (n / 64) 0 == 0)

/-- What engine n does at a boundary: the state, the budgets, and whether its nomination is yellow and waits for the green ones
(R351). `yellow` is the second round. `fuel` bounds the measures that it looks at and that leave the queue. -/
def State.tryTake (s : State) (n : Nat) (yellow : Bool) (b : Bud) : Nat → State × Bud × Bool
  | 0 => (s, b, false)
  | fuel + 1 =>
    let seen := (s.candidates n).findSome? fun x =>
      match s.look n x.2 with
      | .pass => none
      | .ready r =>
        let c := match r.meter with
          | some v => (s.meter x.2.agent).colour v
          | none => Colour.green
        if c == .red then none else some (x, Look.ready r, c)
      | l => some (x, l, Colour.green)
    let reds := if yellow then [] else s.redsBefore n (seen.map Prod.fst)
    match seen with
    | none => (s.noteReds reds, b, false)
    | some ((k, m), l, c) =>
      match l with
      | .pass => (s, b, false)
      | .hold => (s.noteReds reds, b, false)
      | .stop st d =>
        match m.work.job? with
        | some w => (s.stopJob w.1 w.2 st d).tryTake n yellow b fuel
        | none => (s.unqueue k m).tryTake n yellow b fuel
      | .ready r =>
        if c == .yellow && !yellow then (s.noteReds reds, b, true)
        else if !b.room n r then (s, b, false)
        else match s.decideRun k m m.src m.dst with
          | (s', .left) => s'.tryTake n yellow b fuel
          | (s', .hold) => (s', b, false)
          | (s', .go) =>
            match s'.complete n k m r with
            | (s', _, .left) => s'.tryTake n yellow b fuel
            | (s', some (m, r), .go) =>
              if !b.room n r then (s', b, false)
              else
                let (s, b) := (s'.noteReds reds).takeRun n k m r c b
                (s, b, false)
            | (s', _, _) => (s', b, false)

/-- Every idle engine takes at most one measure: green nominations first, then yellow ones, each in engine order (R149, R351). -/
def State.takeAll (s : State) (b : Bud) : State :=
  let idle := (List.range 256).filter fun n => s.engOn n && (s.unit n).running.isNone
  let (s, b, ys) := idle.foldl (fun (acc : State × Bud × List Nat) n =>
    let (s, b, y) := acc.1.tryTake n false acc.2.1 600
    (s, b, if y then acc.2.2 ++ [n] else acc.2.2)) (s, b, [])
  (ys.foldl (fun (acc : State × Bud) n =>
    let (s, b, _) := acc.1.tryTake n true acc.2 600
    (s, b)) (s, b)).1

end Sys2Proof.Machine
end

