-- ==== Sys2Proof/Machine/EngDone.lean ====
section
/-! DEFINITION. What a completed measure does (R22, R134): the bytes of every operation, the arithmetic of data operators (R182 to
R204), and what its work gains by it. -/

namespace Sys2Proof.Machine

/-! ### Reading and writing a run -/

/-- Does a read of the run meet a line with no good copy (R254)? -/
def State.runPoisoned (s : State) (r : Run) : Bool := r.rd.any fun rs => rs.any fun x => s.poisonIn x.1 x.2

/-- How many operands a measure was cut with, and the i-th one's places among its sides. -/
def Run.operands (r : Run) : Nat := if r.m.ops.isEmpty then r.rd.length else r.m.ops.length
def Run.operand (r : Run) (i : Nat) : List (Nat × Nat) :=
  if r.m.ops.isEmpty then r.rd.getD i []
  else ((r.rd.drop ((r.m.ops.take i).foldl (· + ·) 0)).take (r.m.ops.getD i 0)).flatMap id

/-- Every line that a run reads checked by the symbol code as it is read (R252 to R254). -/
def State.checkReads (s : State) (r : Run) : State :=
  (r.m.src.zip r.rd).foldl (fun s x => s.readCheck (s.sideRegion x.1.at_) x.2) s

/-- Bytes of the i-th operand that a run reads. -/
def State.srcBytes (s : State) (r : Run) (i : Nat) : List Byte :=
  let rs := r.operand i
  dense (rs.foldl (fun n x => n + x.2) 0) 0 (gatherCells s.mem 0 rs)

/-- Every byte that a run reads, its operands one after the other, as cells. -/
def State.srcCells (s : State) (r : Run) : List Host.Cell := gatherCells s.mem 0 (r.rd.flatMap id)

/-- The part of a run list that holds bytes `off` to `off + n - 1` of it. -/
def subRuns (off n : Nat) : List (Nat × Nat) → List (Nat × Nat)
  | [] => []
  | (pa, k) :: r =>
    if n = 0 then []
    else if k ≤ off then subRuns (off - k) n r
    else
      let m := min n (k - off)
      (pa + off, m) :: subRuns 0 (n - m) r

/-- What has been written to a range forwarded to the pages that it is being racked to (R172), with its poison for a copy (R254). -/
def State.forward (s : State) (poison : Bool) (x : Nat × Nat) : State :=
  (s.rgn.regions.flatMap fun e => s.forwards e.2 x.1 x.2).foldl (fun s f =>
    let s := s.setMem (Memory.copy s.mem f.1 f.2.1 f.2.2)
    if poison then s.copyPoison f.1 f.2.1 f.2.2 else s.clearPoison f.2.1 f.2.2) s

/-- Cells written over runs, and the poison of lines written whole cleared (R254). -/
def State.writeCells (s : State) (rs : List (Nat × Nat)) (cs : List Host.Cell) : State :=
  rs.foldl (fun s x => (s.clearPoison x.1 x.2).forward false x) (s.setMem (scatterCells s.mem 0 rs cs))

/-- Bytes `off` onward of a run's destinations, taken one after the other, written in every copy (R34). -/
def State.writeAt (s : State) (r : Run) (off len : Nat) (cs : List Host.Cell) : State :=
  let s := s.writeCells (subRuns off len (r.wr.flatMap id)) cs
  let two := r.wr2.flatMap id
  if runBytes r.wr2 = runBytes r.wr then s.writeCells (subRuns off len two) cs
  else
    -- operands without a second copy: place each second run by its first one
    ((r.wr.zip r.wr2).foldl (fun (acc : State × Nat) p =>
      let n := p.1.foldl (fun n x => n + x.2) 0
      let lo := max off acc.2; let hi := min (off + len) (acc.2 + n)
      if p.2.isEmpty || hi ≤ lo then (acc.1, acc.2 + n)
      else (acc.1.writeCells (subRuns (lo - acc.2) (hi - lo) p.2)
        ((cs.filter fun c => lo - off ≤ c.1).map fun c => (c.1 - (lo - off), c.2)), acc.2 + n)) (s, 0)).1

def State.writeBytes (s : State) (r : Run) (off : Nat) (bs : List Byte) : State := s.writeAt r off bs.length (cellsOf bs)

/-! ### Internal work -/

/-- The act of a measure's work advanced. -/
def State.actStep (s : State) (m : Meas) : State := s.setAct m.work fun a => { a with cut := a.cut - 1, done := a.done + m.len }

/-- Every destination of a copy written with what its source holds, poison included (R254). -/
def State.copyRun (s : State) (r : Run) : State :=
  let cs := s.srcCells r
  let src := r.rd.flatMap id
  (r.wr ++ r.wr2).foldl (fun s rs =>
    if rs.isEmpty then s
    else
      let s := s.setMem (scatterCells s.mem 0 rs cs)
      rs.foldl (fun s x => s.forward true x)
        ((src.zip rs).foldl (fun s p => s.copyPoison p.1.1 p.2.1 (min p.1.2 p.2.2)) s)) s

/-- Packets of up to z bytes that carry cells to an address on a Trellis port (Table 9.8); `job` names the push that sends them. -/
def mwrPackets (z agt tid cls addr : Nat) (cs : List Host.Cell) (n : Nat) (job : Nat := 0) : List Pkt :=
  (List.range (ceilDiv n z)).map fun i =>
    let k := min z (n - z * i)
    let f := ceilDiv k 64
    { agt := agt, tid := tid, cls := cls, vc := 2, flits := 1 + f, job := job
      body := .mwr ((addr + z * i) % 2 ^ 64)
        ((cs.filter fun c => z * i ≤ c.1 && c.1 < z * i + k).map fun c => (c.1 - z * i, c.2)) f }

/-- Data of a granted swap-in sent on (R87, R277, R329); its last measure ends the transfer, and so does the last one running of a
transfer that was stopped. -/
def State.sendData (s : State) (r : Run) (id : Nat) : State :=
  match Tbl.find s.dir.transfers id with
  | none => s
  | some (q, _) =>
    if s.runPoisoned r then s.stopData (fun p _ => p == q) (some .internal) poisonDetail true
    else
      let cs := s.srcCells r
      let n := r.m.len
      let a := q.r.dest + r.m.pos
      let s := match q.via with
        | .slot fn => s.hostTlp 1 2 (.cells fn (a % 2 ^ 64) cs n)
        | .trellis p _ => (mwrPackets (s.packetData p) q.agent q.r.txid 1 a cs n).foldl (fun s k => s.sendPkt p k) s
        | _ => s
      let s := (s.actStep r.m).transferEnds id
      if !s.actDone (.swapIn id) then s
      else
        let s := (s.dropAct (.swapIn id)).onDir fun d => { d with transfers := Tbl.del d.transfers id }
        match q.via with
        | .slot fn => s.putRing fn { kind := 2, code := q.code, status := .ok, txid := q.r.txid }
        | _ => s

/-- A completed measure of internal work (R135). -/
def State.doneInternal (s : State) (r : Run) : State :=
  match r.m.kind, r.m.work with
  | .toAgent, .swapIn id => s.sendData r id
  | .zero, _ => (((r.wr ++ r.wr2).foldl (fun s rs => s.writeCells rs []) s).actStep r.m)
  | .copy, .rack rid => (((s.copyRun r).actStep r.m).rackCopied rid (r.m.pos / 2 ^ 40) r.m.len).rackEnd rid
  | .copy, _ => (s.copyRun r).actStep r.m
  | .fromAgent, _ => (s.writeBytes r 0 r.m.data).actStep r.m
  | _, _ => s.actStep r.m

/-! ### Byte operations (R155 to R168) -/

/-- A range joined to a list of disjoint ranges, lowest first. -/
def addRange (a n : Nat) : List (Nat × Nat) → List (Nat × Nat)
  | [] => [(a, n)]
  | (b, k) :: r =>
    if a + n < b then (a, n) :: (b, k) :: r
    else if b + k < a then (b, k) :: addRange a n r
    else addRange (min a b) (max (a + n) (b + k) - min a b) r

/-- SCRUB clears TORN on every page it has covered whole (R155). -/
def State.scrubTorn (s : State) (j : Job) (m : Meas) : State :=
  m.dst.foldl (fun s x =>
    match x.at_ with
    | .page rid h d =>
      let s := s.setJob j.agent j.jobid fun j =>
        { j with covered := x.runs.foldl (fun l r => addRange (idxPa h + r.1) r.2 l) j.covered }
      let whole := match s.job? j.agent j.jobid with
        | some j => j.covered.any fun r => r.1 ≤ idxPa h && idxPa h + (s.region rid).pageSize ≤ r.1 + r.2
        | none => false
      if whole then s.setEntry (s.decideIdx rid h d) fun e => { e with torn := false } else s
    | _ => s) s

/-- The 16-byte pattern of FILL (R155). -/
def Job.pattern (j : Job) : List Byte := [2, 3, 8, 9].flatMap fun k => leBytes 4 (j.dw k)

/-- Bytes of a tile. -/
def Job.extent (j : Job) : Nat := j.xlen * j.ycnt * j.zcnt

/-- Blocks read by a COMPRESS measure coded into scratch (R167). -/
def State.doneCompress (s : State) (n : Nat) (j : Job) (k : Nat) (r : Run) : State :=
  let bs := s.srcBytes r 0
  let no := (k * j.xlen + r.m.pos) / CBLK
  let blks := (blocksOf CBLK (bs.length + 1) bs).mapIdx fun i b => ({ no := no + i, engine := n, bytes := encBlock (j.dw 15) b } : CaskBlk)
  s.setJob j.agent j.jobid fun j =>
    { j with cask := j.cask ++ blks, lens := blks.foldl (fun t b => Tbl.put t b.no b.bytes.length) j.lens }

/-- The header measure of an EXPAND (R168): its checks, and the index that it has read with the header. -/
def State.doneHeader (s : State) (j : Job) (r : Run) : State :=
  let bad := fun (s : State) => s.stopJob j.agent j.jobid .malformed 0xFFFFFF
  let bytes := fun (rs : List (Nat × Nat)) => dense (rs.foldl (fun n x => n + x.2) 0) 0 (gatherCells s.mem 0 rs)
  match caskOpen (bytes (r.rd.headD [])) with
  | none => bad s
  | some (ulen, blocks, clen) =>
    let (s, out) := s.preTile j.agent [(false, granulesOf (j.pva 2) clen)]
    match out with
    | .pass ps =>
      if j.dcap < ulen || blocks != Machine.caskBlocks ulen || clen < caskHeadLen blocks || 2 ^ 52 < j.pva 4 + ulen ||
          2 ^ 52 < j.pva 2 + clen then bad s
      else
        let index := ((dwordsOf (bytes ((r.rd.drop 1).flatMap id))).take blocks).map caskEntry
        if index.length != blocks || index.any fun e => clen < e.1 + e.2 then bad s
        else s.setJob j.agent j.jobid fun j => { j with ulen := ulen, index := index, srcPages := ps, listRead := true }
    | _ => bad s

/-- Blocks expanded by one measure (R168): checked before anything of the measure is written, and counted in RESULT once they are. Of
several blocks that fail, DETAIL carries the lowest. -/
def State.doneExpand (s : State) (j : Job) (r : Run) : State :=
  let bs := (List.range r.rd.length).flatMap fun i => s.srcBytes r i
  let lens := r.m.aux.drop 1
  let first := r.m.aux.headD 0
  let outs := (lens.foldl (fun (acc : List (Option (List Byte)) × List Byte) n => (acc.1 ++ [decBlock (acc.2.take n)], acc.2.drop n))
    ([], bs)).1
  let want := fun (i : Nat) => min CBLK (j.ulen - (first + i) * CBLK)
  match (List.range outs.length).find? fun i => ((outs.getD i none).map fun b => b.length) != some (want i) with
  | some i =>
    let d := (first + i) % 2 ^ 24
    if j.state == .stopping && j.status == .malformed then
      s.setJob j.agent j.jobid fun j => { j with detail := min j.detail d }
    else s.stopJob j.agent j.jobid .malformed d
  | none => (s.writeBytes r 0 (outs.flatMap fun o => o.getD [])).setJob j.agent j.jobid fun j => { j with bytes := j.bytes + r.m.len }

/-- Push data queued on every port of the mask that has been UP since the measure was taken, and dropped for the others (R160, R161). -/
def State.donePush (s : State) (j : Job) (k : Nat) (r : Run) : State :=
  let cs := s.srcCells r
  match j.push with
  | none => s
  | some (mask, members) =>
    (maskBits 16 mask).foldl (fun s p =>
      if r.ports.contains p && s.portUp p && bit (s.route (members.getD p 0)).ports p then
        (mwrPackets (s.packetData p) (members.getD p 0) j.jobid 2 (j.dw 4 + 2 ^ 32 * j.dw 5 + k * j.extent + r.m.pos) cs r.m.len (jobKey j.agent j.jobid)).foldl
          (fun s x => s.sendPkt p x) s
      else s.setJob j.agent j.jobid fun j => { j with dropMask := setBit j.dropMask p }) s

/-! ### Data operators -/

/-- What encoding adds to the job and to the die's counters (R195, Table 6.8). -/
def State.noteEnc (s : State) (n : Nat) (j : Job) (elems sat nan : Nat) : State :=
  let s := s.setJob j.agent j.jobid fun j =>
    { j with elems := j.elems + elems, sat := j.sat || sat != 0, nan := j.nan || nan != 0 }
  let d := n / 64
  let s := s.bump blkOPU (0x0500 + 4 * d) elems
  let s := if sat = 0 then s else s.bump blkOPU (0x0510 + 4 * d) sat
  if nan = 0 then s else s.bump blkOPU (0x0520 + 4 * d) nan

/-- Destination elements written: values encoded at byte `off` of the run's destinations. -/
def State.putVals (s : State) (n : Nat) (j : Job) (r : Run) (off idx : Nat) (vals : List Nat) : State :=
  let e := encElems j.fmtD j.sblkD j.seed idx vals
  (s.writeBytes r off e.bytes).noteEnc n j vals.length e.sat e.nan

/-- A partial result added to an output in staging (R193): the state, and the whole result when this was the last part. -/
def State.addPart (s : State) (j : Job) (id : Nat) (f : OutAcc → OutAcc) : State × Option OutAcc :=
  match (s.job? j.agent j.jobid).bind fun j => Tbl.find j.outs id with
  | none => (s, none)
  | some o =>
    let o := f { o with left := o.left - 1 }
    if o.left = 0 then
      ((s.freeStage o).setJob j.agent j.jobid fun j => { j with outs := Tbl.del j.outs id }, some o)
    else (s.setJob j.agent j.jobid fun j => { j with outs := Tbl.put j.outs id o }, none)

/-- QUANTIZE, DEQUANTIZE and SCALE_ADD (R201, R202). -/
def State.doneQuant (s : State) (n : Nat) (j : Job) (r : Run) : State :=
  let k := r.m.aux.getD 0 0
  let a := (decElems j.fmtA j.sblkA k (s.srcBytes r 0)).map fun x => mul32 (j.dw 26) x
  let v := if j.op == 0x24 then
      zipRow (fun b t => fma32 (j.dw 27) b t) (decElems j.fmtB j.sblkB k (s.srcBytes r 1)) a
    else a
  s.putVals n j r 0 (r.m.aux.getD 1 0) v

/-- Rows combined in order; none for no rows. -/
def foldRows (f : Nat → Nat → Nat) (rows : List (List Nat)) : List Nat :=
  match rows with
  | [] => []
  | r :: rs => rs.foldl (zipRow f) r

/-- REDUCE (R196, R197). -/
def State.doneReduce (s : State) (n : Nat) (j : Job) (r : Run) : State :=
  let k := r.m.aux.getD 0 0; let id := r.m.aux.getD 1 0; let g := r.m.aux.getD 2 0
  let rows := (List.range r.operands).map fun i =>
    if 16 * g + i < j.count then decElems j.fmtA j.sblkA k (s.srcBytes r i) else decElems j.fmtD j.sblkD k (s.srcBytes r i)
  let f := j.func % 4
  let part := foldRows (redOp f) rows
  let fin := fun (v : List Nat) => if f = 3 then v.map fun x => div32 x (nat32 j.count) else v
  if r.m.aux.getD 3 0 = 1 then s.putVals n j r 0 id (fin part)
  else
    match s.addPart j id fun o => { o with vals := if o.vals.isEmpty then part else zipRow (redOp f) o.vals part } with
    | (s, some o) => s.putVals n j r 0 id (fin o.vals)
    | (s, none) => s

/-- TOP_K (R203, R204). A candidate's value carries the raw element above its FP32 pattern. -/
def State.doneTop (s : State) (n : Nat) (j : Job) (r : Run) : State :=
  let k := r.m.aux.getD 0 0; let e := r.m.aux.getD 1 0; let row := r.m.aux.getD 2 0
  let bs := s.srcBytes r 0
  let raws := rawElems j.fmtA k bs
  let vals := decElems j.fmtA j.sblkA k bs
  let small := j.func % 2 == 1
  let cs := topK small j.count ((vals.zip raws).mapIdx fun i v => (v.1 + 2 ^ 32 * v.2, e + i))
  let write := fun (s : State) (cs : List (Nat × Nat)) =>
    let out := cs.flatMap fun c => if j.fmtD == j.fmtA then leBytes (eltAlign j.fmtD) (c.1 / 2 ^ 32) else leBytes 4 (c.1 % 2 ^ 32)
    let nan := (cs.filter fun c => isNan32 (c.1 % 2 ^ 32)).length
    (s.writeBytes r 0 (out ++ cs.flatMap fun c => leBytes 4 c.2)).noteEnc n j cs.length 0 nan
  if r.m.aux.getD 3 0 = 1 then write s cs
  else
    match s.addPart j row fun o => { o with cands := topK small j.count (o.cands ++ cs) } with
    | (s, some o) => write s o.cands
    | (s, none) => s

/-- Partial result of a bag's rows, each with its weight (R198). -/
def bagPart (f : Nat) (weighted : Bool) (rows : List (List Nat × Nat)) : List Nat :=
  if f = 2 then foldRows max32 (rows.map fun r => if weighted then r.1.map fun x => mul32 r.2 x else r.1)
  else if weighted then
    match rows with
    | [] => []
    | r :: _ => rows.foldl (fun acc r => zipRow (fun x a => fma32 r.2 x a) r.1 acc) (r.1.map fun _ => 0)
  else foldRows add32 (rows.map Prod.fst)

/-- GATHER_REDUCE (R198, R200). -/
def State.doneGather (s : State) (n k : Nat) (j : Job) (r : Run) : State :=
  let g := r.m.gather
  let np := g.np
  let x := g.n
  let head := if np = 0 then 0 else 1 + b2n j.flag4
  let ws := if j.flag4 && np != 0 then decElems j.fmtB 0 np (s.srcBytes r 1) else []
  let rows := (List.range np).map fun i => (decElems j.fmtA j.sblkA x (s.srcBytes r (head + i)), ws.getD i 0)
  let f := j.func % 4
  let offs := ((j.tiles.find? fun t => t.k == k).map fun t => t.offs).getD []
  (g.parts.foldl (fun (acc : State × Nat × Nat) p =>
    let (s, i, at_) := acc
    let b := p.bag - k * j.ycnt
    let len := offs.getD (b + 1) 0 - offs.getD b 0
    let fin := fun (v : List Nat) => if f = 1 then v.map fun y => div32 y (nat32 len) else v
    let part := bagPart f j.flag4 ((rows.drop at_).take p.n)
    let next := fun (s : State) => (s, i + 1, at_ + p.n)
    let put := fun (s : State) (v : List Nat) => s.putVals n j r (i * rowBytes j.fmtD j.sblkD x) (p.bag * j.xlen + g.e) v
    if len = 0 then next (put s (List.replicate x 0))
    else if len = p.n then next (put s (fin part))
    else
      let op := if f = 2 then max32 else add32
      match s.addPart j (outNo p.bag g.e) fun o => { o with vals := if o.vals.isEmpty then part else zipRow op o.vals part } with
      | (s, some o) => next (put s (fin o.vals))
      | (s, none) => next s) (s, 0, 0)).1

/-! ### A completed measure of a job -/

/-- The effect of a tile measure by its operation. -/
def State.tileEffect (s : State) (n k : Nat) (j : Job) (r : Run) : State :=
  match r.m.sub, j.op with
  | 1, _ => s.writeBytes r 0 r.m.data
  | 2, _ => (s.writeBytes r 0 r.m.data).setJob j.agent j.jobid fun j =>
      { j with cask := (j.cask.map fun b => if [b.no] == r.m.aux then { b with left := b.left - r.m.len } else b).filter
                 fun b => !([b.no] == r.m.aux && b.left == 0) }
  | 3, _ => s.writeBytes r 0 r.m.data
  | 4, _ => s.doneHeader j r
  | 5, _ => s.doneExpand j r
  | _, 1 => s.writeAt r 0 r.m.len (s.srcCells r)
  | _, 2 => s.writeBytes r 0 ((List.range r.m.len).map fun i => j.pattern.getD ((r.m.pos + i) % 16) 0)
  | _, 3 => (s.writeAt r 0 r.m.len []).scrubTorn j r.m
  | _, 5 =>
    let bs := s.srcBytes r 0
    if j.sha384 then s.setJob j.agent j.jobid fun j => { j with sha := j.sha.add bs }
    else s.setJob j.agent j.jobid fun j => { j with crcs := j.crcs ++ [(k * j.extent + r.m.pos, bs.length, crcFold 0 bs)] }
  | _, 6 => s.doneCompress n j k r
  | _, 8 => s.donePush j k r
  | _, 0x20 => s.doneReduce n j r
  | _, 0x21 => s.doneGather n k j r
  | _, 0x25 => s.doneTop n j r
  | _, _ => s.doneQuant n j r

/-- A completed tile measure (R154): its bytes, and its job's progress. A measure that read a poisoned line writes nothing and
stops the job (R254). -/
def State.doneTile (s : State) (n k : Nat) (r : Run) : State :=
  match r.m.work.job? with
  | none => s
  | some (a, jid) =>
    match s.job? a jid with
    | none => s
    | some j =>
      let outside := r.m.sub == 1 || r.m.sub == 2 || r.m.sub == 3
      let count := fun (s : State) (bytes : Nat) => s.setJob a jid fun j =>
        let j := { j with bytes := j.bytes + bytes }
        if outside then { j with extraOut := j.extraOut - 1 } else j.setTile k fun t => { t with queued := t.queued - 1 }
      if s.runPoisoned r then ((count s 0).stopJob a jid .internal poisonDetail).advance a jid
      else
        let s := count s (if outside || r.m.sub == 4 || r.m.sub == 5 then 0 else r.m.len)
        let s := s.tileEffect n k j r
        s.change.advance a jid

end Sys2Proof.Machine
end

