-- ==== Sys2Proof/Machine/Real.lean ====
section
/-! DEFINITION. The functions that R218 bounds: exp, erf, tanh, rsqrt, and the sine and cosine of a ROPE angle. Each exact value is
formed in fixed point with 512 fraction bits, and the result is one of the binary32 patterns within 2 units in the last place of it;
which one, the specification leaves open, so a free value chooses, by the operands alone (R220). -/

namespace Sys2Proof.Machine

/-! ### Fixed point -/

/-- Fraction bits. -/
abbrev RP : Nat := 512

/-- One. -/
def rOne : Nat := 2 ^ RP

/-- The product of two fixed-point numbers. -/
def rMul (a b : Nat) : Nat := a * b / 2 ^ RP

/-- A sum of `n` terms, each formed from the one before it and its number. -/
def series (next : Nat → Int → Int) : Nat → Nat → Int → Int → Int
  | 0, _, _, acc => acc
  | n + 1, k, t, acc => let t' := next k t; series next n (k + 1) t' (acc + t')

/-- Terms that bring a series of the operands below well under the last fraction bit. -/
abbrev TERMS : Nat := 260

/-- The inverse hyperbolic tangent of a/b, for a/b of 1/3 or less: the sum of (a/b)^(2k+1) ÷ (2k + 1). -/
def rAtanh (a b : Nat) : Nat :=
  (List.range TERMS).foldl (fun (x : Nat × Nat) k => (x.1 + x.2 / (2 * k + 1), x.2 * (a * a) / (b * b))) (0, rOne * a / b) |>.1

/-- ln 2. -/
def lnTwo : Nat := 2 * rAtanh 1 3

/-- The inverse tangent of 1/b. -/
def rAtanInv (b : Nat) : Int :=
  (List.range TERMS).foldl (fun (x : Int × Nat) k =>
    (if k % 2 = 0 then x.1 + (x.2 / (2 * k + 1) : Nat) else x.1 - (x.2 / (2 * k + 1) : Nat), x.2 / (b * b))) (0, rOne / b) |>.1

/-- 2π, by Machin's formula. -/
def twoPi : Nat := (8 * (4 * rAtanInv 5 - rAtanInv 239)).toNat

/-- √π. -/
def rootPi : Nat := nthRoot 2 (twoPi / 2 * 2 ^ RP) (RP + 2) 0

/-- e^x for x from 0 to ln 2. -/
def expSmall (x : Nat) : Nat := (series (fun k t => t * x / (rOne * (k + 1) : Nat)) TERMS 0 rOne rOne).toNat

/-- e^x as a mantissa and a power of two. -/
def rExp (x : Int) : Nat × Int :=
  let n := x.fdiv lnTwo
  (expSmall (x - n * lnTwo).toNat, n - RP)

/-! ### Patterns -/

/-- The largest binary32 magnitude pattern whose value is at most m × 2^e, up to infinity's. -/
def floorPat (m : Nat) (e : Int) : Nat :=
  if m = 0 then 0
  else
    let q := max (-149 : Int) (e + bitLen m - 24)
    let n := if q ≤ e then m * 2 ^ (e - q).toNat else m / 2 ^ (q - e).toNat
    min 0x7F800000 ((q + 149).toNat * 2 ^ 23 + n)

/-- A pattern within 2 units in the last place of a value: of an exact one, any of the five; of one between two patterns, any of the
four, `p` being the lower of the two. Function `f` of the operands `xs` draws it. -/
def near (f : Nat) (xs : List Nat) (exact neg : Bool) (p : Nat) : Nat :=
  let k := Config.ulps f xs
  let v := if exact then p + k % 5 - 2 else p + k % 4 - 1
  b2n neg * 2 ^ 31 + min 0x7F800000 v

def nan32 : Nat := 0x7FC00000

/-- A magnitude of FP32 as fixed point; one that reaches 2^8 stands for all greater ones. -/
def rFix (m : Nat) (e : Int) : Nat :=
  if 8 < e + bitLen m then 2 ^ (RP + 8)
  else if 0 ≤ e + RP then m * 2 ^ (e + RP).toNat else m / 2 ^ (-(e + RP)).toNat

/-! ### The functions -/

/-- exp of an FP32 pattern. -/
def exp32 (a : Nat) : Nat :=
  match dec32 a with
  | .nan => nan32
  | .inf neg => if neg then 0 else 0x7F800000
  | .fin neg m e =>
    let x := rFix m e
    let r := rExp (if neg then -(x : Int) else x)
    near 0 [a] (m == 0) false (floorPat r.1 r.2)

/-- tanh: (e^2x − 1) ÷ (e^2x + 1). -/
def tanh32 (a : Nat) : Nat :=
  match dec32 a with
  | .nan => nan32
  | .inf neg => b2n neg * 2 ^ 31 + 0x3F800000
  | .fin neg m e =>
    let x := rFix m e
    let y := let r := rExp (2 * x); if 0 ≤ r.2 then 0 else r.1 * 2 ^ RP / 2 ^ (-r.2).toNat
    near 1 [a] (m == 0) neg (if 16 * rOne ≤ x then 0x3F7FFFFF else floorPat ((y - rOne) * 2 ^ RP / (y + rOne)) (-RP))

/-- erf: 2 ÷ √π times the sum of (−1)^k x^(2k+1) ÷ (k! (2k + 1)); from 4 on, between the last two patterns up to 1. -/
def erf32 (a : Nat) : Nat :=
  match dec32 a with
  | .nan => nan32
  | .inf neg => b2n neg * 2 ^ 31 + 0x3F800000
  | .fin neg m e =>
    let x := rFix m e
    let x2 := rMul x x
    let sum := (List.range TERMS).foldl (fun (s : Int × Int) k =>
      (s.1 + s.2 / (2 * k + 1 : Nat), -(s.2 * x2 / (rOne * (k + 1) : Nat)))) (0, (x : Int)) |>.1
    near 2 [a] (m == 0) neg (if 4 * rOne ≤ x then 0x3F7FFFFF else floorPat (2 * sum.toNat * rOne / rootPi) (-RP))

/-- Is v² × x at most 1, for magnitudes? -/
def rootLe (m : Nat) (e : Int) (p : Nat) : Bool :=
  match dec32 p with
  | .fin _ n f =>
    let d := 2 * f + e
    if 0 ≤ d then Nat.ble (n * n * m * 2 ^ d.toNat) 1 else Nat.ble (n * n * m) (2 ^ (-d).toNat)
  | _ => false

/-- The largest pattern from `lo` on that a test passes, by the bits of what is added. -/
def lastPat (ok : Nat → Bool) : Nat → Nat → Nat
  | 0, lo => lo
  | k + 1, lo => lastPat ok k (if ok (lo + 2 ^ k) then lo + 2 ^ k else lo)

/-- rsqrt; of an operand for which it has no value (zero, a negative number), a free value. -/
def rsqrt32 (a : Nat) : Nat :=
  match dec32 a with
  | .nan => nan32
  | .inf neg => if neg then Config.noReal 3 [a] % 2 ^ 32 else 0
  | .fin neg m e =>
    if neg || m == 0 then Config.noReal 3 [a] % 2 ^ 32
    else
      let p := lastPat (rootLe m e) 31 0
      let exact := match dec32 p with
        | .fin _ n f => let d := 2 * f + e; if 0 ≤ d then n * n * m * 2 ^ d.toNat == 1 else n * n * m == 2 ^ (-d).toNat
        | _ => false
      near 3 [a] exact false p

/-- ln θ of a positive finite number. -/
def rLn (m : Nat) (e : Int) : Int :=
  let k := bitLen m - 1
  -- θ = (m / 2^k) × 2^(e + k), and ln of the first factor is 2 atanh ((m − 2^k) / (m + 2^k))
  2 * (rAtanh (m - 2 ^ k) (m + 2 ^ k) : Nat) + (e + k) * (lnTwo : Nat)

/-- The angle POS × θ^(−2i/N) reduced modulo 2π; none where θ has no such power. -/
def ropeAngle (theta i n pos : Nat) : Option Nat :=
  match dec32 theta with
  | .fin false m e =>
    if m = 0 then none
    else
      let r := rExp (-(2 * i * rLn m e) / (n : Nat))
      let x := if 0 ≤ r.2 + RP then pos * r.1 * 2 ^ (r.2 + RP).toNat else pos * r.1 / 2 ^ (-(r.2 + RP)).toNat
      some (x % twoPi)
  | _ => none

/-- Sum of the terms of sine (from x) or cosine (from 1): each is −x² ÷ (j (j + 1)) times the one before it. -/
def rCirc (x first j : Nat) : Int :=
  let x2 : Int := rMul x x
  series (fun k t => -(t * x2 / (rOne * ((2 * k + j) * (2 * k + j + 1)) : Nat))) TERMS 0 first first

/-- Sine and cosine of a ROPE angle for parameter θ, pair i, N and POS. -/
def circ32 (f theta i n pos : Nat) : Nat :=
  let xs := [theta, i, n, pos]
  match ropeAngle theta i n pos with
  | none => match dec32 theta with
    | .nan => nan32
    | _ => Config.noReal f xs % 2 ^ 32
  | some x =>
    let v := if f = 4 then rCirc x x 2 else rCirc x rOne 1
    near f xs (pos == 0) (v < 0) (floorPat v.natAbs (-RP))

def ropeSin (theta i n pos : Nat) : Nat := circ32 4 theta i n pos
def ropeCos (theta i n pos : Nat) : Nat := circ32 5 theta i n pos

end Sys2Proof.Machine
end

