-- ==== Sys2Proof/Machine/Layer.lean ====
section
/-! DEFINITION. Layer execution: models and placements (R208 to R214), recipes and their checks (R215 to R217, R221), the operators
(R218) and their measures (R219), and decode steps (R223 to R228). -/

namespace Sys2Proof.Machine

def State.model (s : State) (m : Nat) : Model := Tbl.getD s.opu.models m {}

def State.setModel (s : State) (m : Nat) (f : Model → Model) : State :=
  s.onOpu fun p => { p with models := Tbl.modD p.models m {} f }

/-! ### Recipe entries (Table 7.7) -/

/-- A recipe entry's DW k. -/
def rdw (e : List Word) (k : Nat) : Nat := (e.getD k 0).toNat
def rOp (e : List Word) : Nat := bits (rdw e 0) 7 0
def rFmt (e : List Word) : Nat := bits (rdw e 0) 11 8
def rSblk (e : List Word) : Nat := bits (rdw e 0) 14 12
def rOpf (e : List Word) : Bool := bit (rdw e 0) 15
def rA (e : List Word) : Nat := bits (rdw e 0) 19 16
def rB (e : List Word) : Nat := bits (rdw e 0) 23 20
def rD (e : List Word) : Nat := bits (rdw e 0) 27 24
def rN (e : List Word) : Nat := bits (rdw e 1) 19 0
def rK (e : List Word) : Nat := bits (rdw e 2) 15 0
def rH (e : List Word) : Nat := bits (rdw e 2) 25 16
def rDh (e : List Word) : Nat := 64 * 2 ^ bits (rdw e 2) 27 26
def rAoff (e : List Word) : Nat := bits (rdw e 3) 15 0
def rBoff (e : List Word) : Nat := bits (rdw e 3) 31 16
def rDoff (e : List Word) : Nat := bits (rdw e 4) 15 0
def rHkv (e : List Word) : Nat := bits (rdw e 4) 25 16
def rWoff (e : List Word) : Nat := rdw e 5 + 2 ^ 32 * bits (rdw e 6) 15 0
def rP0 (e : List Word) : Nat := rdw e 7

/-- Is it a KV operator? -/
def rKv (e : List Word) : Bool := rOp e == 5 || rOp e == 6

/-- Elements of a buffer (Table 7.8). -/
def Model.bufLen (m : Model) (b : Nat) : Nat :=
  match b with | 0 => m.hid | 15 => m.outlen | _ => m.buflen.getD (b - 1) 0

/-- A range of a buffer: its code, first element and length. -/
abbrev BRange := Nat × Nat × Nat

/-- Ranges that an entry reads (Table 7.9), GEMV's ACC apart. -/
def rReads (e : List Word) : List BRange :=
  match rOp e with
  | 1 => [(rA e, rAoff e, rK e)]
  | 2 => [(rA e, rAoff e, rK e)]
  | 3 => [(rA e, rAoff e, rK e)]
  | 4 => [(rA e, rAoff e, rH e * rDh e)]
  | 5 => [(rA e, rAoff e, rH e * rDh e)]
  | 6 => [(rA e, rAoff e, rHkv e * rDh e), (rB e, rBoff e, rHkv e * rDh e)]
  | 9 => [(rA e, rAoff e, rN e), (rB e, rBoff e, rN e)]
  | 10 => [(rA e, rAoff e, rN e), (rB e, rBoff e, rN e)]
  | _ => [(rA e, rAoff e, rN e)]

/-- The range that an entry writes; none for KV_APPEND. -/
def rWrite (e : List Word) : Option BRange :=
  match rOp e with
  | 1 => some (rD e, rDoff e, rN e)
  | 2 => some (rD e, rDoff e, rK e)
  | 3 => some (rD e, rDoff e, rK e)
  | 4 => some (rD e, rDoff e, rH e * rDh e)
  | 5 => some (rD e, rDoff e, rH e * rDh e)
  | 6 => none
  | _ => some (rD e, rDoff e, rN e)

/-- Bytes of weights that an entry reads in WREGION. -/
def rWeights (e : List Word) : Nat :=
  match rOp e with
  | 1 => rN e * rowBytes (rFmt e) (rSblk e) (rK e)
  | 2 => rK e * eltAlign (rFmt e)
  | 3 => 2 * rK e * eltAlign (rFmt e)
  | _ => 0

/-- KR and SB of a KV operator (R221). -/
def rKr (e : List Word) : Nat := rowBytes (rFmt e) 0 (rDh e)
def rSb (m : Model) (e : List Word) : Nat := 2 * m.ctxMax * rHkv e * rKr e

/-- Fields of an entry that are reserved (Table 7.7), those that its operator must leave zero, and those outside their values (R216,
Table 7.9): failing DWs. -/
def rFields (e : List Word) : List Nat :=
  let op := rOp e; let f := rFmt e; let sb := rSblk e
  let noB := rB e != 0; let noBoff := rBoff e != 0
  let noN := rN e != 0; let noK := rK e != 0; let noH := bits (rdw e 2) 25 16 != 0; let noDh := bits (rdw e 2) 27 26 != 0
  let noHkv := rHkv e != 0; let noW := rdw e 5 != 0; let noWu := bits (rdw e 6) 15 0 != 0; let noP := rP0 e != 0
  let noD := rD e != 0; let noDoff := rDoff e != 0
  let hBad := rH e == 0 || 512 < rH e; let kvBad := rHkv e == 0 || 512 < rHkv e; let dhBad := bits (rdw e 2) 27 26 == 3
  let kvFmt := [1, 3, 4, 6, 7].contains f
  let plain : List (Bool × Nat) := [(noK || noH || noDh, 2), (noHkv, 4), (noW, 5), (noWu, 6), (noP, 7)]
  let wAl : List (Bool × Nat) := [(rdw e 5 % 64 != 0, 5)]
  let rsv : List (Bool × Nat) := [(bits (rdw e 0) 31 28 != 0, 0), (bits (rdw e 1) 31 20 != 0, 1), (bits (rdw e 2) 31 28 != 0, 2),
    (bits (rdw e 4) 31 26 != 0, 4), (bits (rdw e 6) 31 16 != 0, 6)]
  failing (rsv ++ match op with
    | 1 => [(noB || f == 0 || 10 < f || sblkBad f sb || 4 < sb, 0), (rN e == 0, 1), (rK e == 0 || 32768 < rK e || noH || noDh, 2), (noBoff, 3),
            (noHkv, 4), (noP, 7),
            (blkLen f sb != 0 && rK e % blkLen f sb != 0, 2), (rD e != 15 && 32768 < rN e, 1), (rD e == 15 && rOpf e, 0)] ++ wAl
    | 2 => [(noB || rOpf e || 1 < f || sb != 0, 0), (noN, 1), (rK e == 0 || noH || noDh, 2), (noBoff, 3), (noHkv, 4)] ++ wAl
    | 3 => [(noB || rOpf e || f != 1 || sb != 0, 0), (noN, 1), (rK e == 0 || noH || noDh, 2), (noBoff, 3), (noHkv, 4)] ++ wAl
    | 4 => [(noB || f != 0 || sb != 0, 0), (rN e == 0 || rN e % 2 != 0 || rDh e < rN e, 1), (noK || hBad || dhBad, 2), (noBoff, 3),
            (noHkv, 4), (noW, 5), (noWu, 6)]
    | 5 => [(noB || rOpf e || !kvFmt || sb != 0, 0), (noN, 1), (noK || hBad || dhBad || (rHkv e != 0 && rH e % rHkv e != 0), 2),
            (noBoff, 3), (kvBad, 4)] ++ wAl
    | 6 => [(noD || rOpf e || !kvFmt || sb != 0, 0), (noN, 1), (noK || noH || dhBad, 2), (kvBad || noDoff, 4), (noP, 7)] ++ wAl
    | 7 => [(noB || rOpf e || f != 0 || sb != 0, 0), (rN e == 0, 1), (noBoff, 3)] ++ plain
    | 8 => [(noB || f != 0 || sb != 0, 0), (rN e == 0, 1), (noBoff, 3)] ++ plain
    | 9 => [(rOpf e || f != 0 || sb != 0, 0), (rN e == 0, 1)] ++ plain
    | 10 => [(rOpf e || f != 0 || sb != 0, 0), (rN e == 0, 1)] ++ plain
    | 11 => [(noB || rOpf e || f != 0 || sb != 0, 0), (rN e == 0, 1), (noBoff, 3)] ++ plain
    | _ => [(true, 0)])

/-- Does a range lie in its buffer? -/
def Model.inBuf (m : Model) (r : BRange) : Bool := m.bufLen r.1 != 0 && r.2.1 + r.2.2 ≤ m.bufLen r.1

/-- Is every element of a range of B1 to B14 among those written (R217)? -/
def covered (ws : Tbl (List (Nat × Nat))) (r : BRange) : Bool :=
  r.1 == 0 || (Tbl.getD ws r.1 []).any fun w => w.1 ≤ r.2.1 && r.2.1 + r.2.2 ≤ w.1 + w.2

/-- Do two ranges of one buffer meet? -/
def rangesMeet (a b : BRange) : Bool := a.1 == b.1 && overlaps a.2.1 a.2.2 b.2.1 b.2.2

/-- Does an entry break R217, given what earlier entries have written? Its rules name the buffers of DW0. -/
def Model.rRules (m : Model) (last : Bool) (ws : Tbl (List (Nat × Nat))) (e : List Word) : Bool :=
  let rs := rReads e
  let acc := if rOp e == 1 && rOpf e then (rWrite e).toList else []
  let same := [7, 8, 9, 10, 4].contains (rOp e)
  let a := rs.headD (0, 0, 0)
  rs.any (fun r => r.1 == 15 || !m.inBuf r) ||
  (match rWrite e with
   | none => false
   | some w => !m.inBuf w || (w.1 == 15 && !(rOp e == 1 && last)) ||
     (rs.mapIdx fun i r => rangesMeet w r && !(same && i == 0 && w == a)).any id) ||
  (rs ++ acc).any fun r => !covered ws r

/-- Failing DWs of a recipe, numbered from its first entry's DW0 (Table 7.5, order 3). -/
def Model.recipeFaults (m : Model) (last nokv : Bool) (es : List (List Word)) : List Nat :=
  let step := fun (acc : List Nat × Tbl (List (Nat × Nat)) × List (List Word) × Nat) (e : List Word) =>
    let (bad, ws, kvs, j) := acc
    let bad := bad ++ (rFields e).map fun d => 8 * j + d
    let bad := if m.rRules last ws e then bad ++ [8 * j] else bad
    let bad := if rKv e && nokv then bad ++ [8 * j] else bad
    let clash := rKv e && kvs.any fun k => rWoff k == rWoff e &&
      (rHkv k != rHkv e || rDh k != rDh e || rFmt k != rFmt e)
    let bad := if clash then bad ++ [8 * j] else bad
    let ws := match rWrite e with
      | some w => Tbl.modD ws w.1 [] fun l => addRange w.2.1 w.2.2 l
      | none => ws
    (bad, ws, if rKv e then kvs ++ [e] else kvs, j + 1)
  (es.foldl step ([], [], [], 0)).1

/-! ### Places in a region (R219, R221) -/

/-- Home index of a region's page by number; none where no data bin holds it. -/
def Region.pageHome (g : Region) (p : Nat) : Option Nat :=
  g.bins.findSome? fun b =>
    if b.reserve || b.mirrorOf.isSome || b.removed || !b.ready || p < b.first || (p - b.first) % b.step != 0 then none
    else
      let j := (p - b.first) / b.step
      if j < g.binPages b then paIdx (b.pa + j * g.pageSize) else none

/-- Does a region hold bytes `off` to `off + n - 1`? -/
def Region.hasRange (g : Region) (off n : Nat) : Bool :=
  n = 0 || (List.range ((off + n - 1) / g.pageSize + 1 - off / g.pageSize)).all fun i =>
    (g.pageHome (off / g.pageSize + i)).isSome

/-- A byte range of a region as operands, one for each page. -/
def State.regionSides (s : State) (rid : Nat) : Nat → Nat → Nat → List MSide
  | 0, _, _ => []
  | fuel + 1, off, n =>
    let g := s.region rid
    let z := g.pageSize
    if n = 0 then []
    else
      let k := min n (z - off % z)
      match g.pageHome (off / z) with
      | none => []
      | some h => { at_ := .page rid h false, runs := [(off % z, k)] } :: s.regionSides rid fuel (off + k) (n - k)

def State.rangeSides (s : State) (rid off n : Nat) : List MSide := s.regionSides rid (n / MIB2 + 3) off n

/-- Bytes of a region's range as they stand. -/
def State.regionBytes (s : State) (rid off n : Nat) : List Byte :=
  dense n 0 (gatherCells s.mem 0 ((s.rangeSides rid off n).flatMap s.readRuns))

/-- Bytes of a bound region in the clear (R416): each 512-byte unit that meets them decrypted under the content key, with its number in the
region as the tweak. -/
def State.unseal (s : State) (key : List Byte) (rid off n : Nat) : List Byte :=
  let k := Config.xtsKeys key
  let first := off / 512
  let units := (List.range ((off + n + 511) / 512 - first)).flatMap fun i =>
    xtsUnit true k.1 k.2 (first + i) (s.regionBytes rid (512 * (first + i)) 512)
  (units.drop (off % 512)).take n

/-- Weights: as they stand, or decrypted under the content key of a bound region (R214, R419). -/
def State.weightBytes (s : State) (rid off n : Nat) : List Byte :=
  match s.sec.bindings.find? fun b => b.2.region == rid with
  | some b => s.unseal b.2.key rid off n
  | none => s.regionBytes rid off n

/-! ### Arithmetic of the operators (R218) -/

/-- x rounded to BF16. -/
def toBf16 (x : Nat) : Nat := r32 (bf16.dec (bf16.enc none (dec32 x)))

def sum32 (l : List Nat) : Nat := l.foldl add32 0

/-- Products accumulated by FMA in ascending order. -/
def dot32 : List Nat → List Nat → Nat
  | as, bs => (as.zip bs).foldl (fun acc p => fma32 p.1 p.2 acc) 0

def one32 : Nat := 0x3F800000
def half32 : Nat := 0x3F000000

def silu32 (a : Nat) : Nat := div32 a (add32 one32 (exp32 (sub32 0x80000000 a)))

def gelu32 (tanhForm : Bool) (a : Nat) : Nat :=
  let t := if tanhForm then tanh32 (mul32 0x3F4C422A (add32 a (mul32 0x3D372713 (mul32 (mul32 a a) a))))
    else erf32 (div32 a 0x3FB504F3)
  mul32 (mul32 half32 a) (add32 one32 t)

def maxOf (l : List Nat) : Nat := match l with | [] => 0 | a :: r => r.foldl max32 a

/-- exp(a − max) of each element. -/
def expRow (l : List Nat) : List Nat := let m := maxOf l; l.map fun a => exp32 (sub32 a m)

/-- One head rotated (ROPE). -/
def ropeHead (adj : Bool) (n theta pos : Nat) (x : List Nat) : List Nat :=
  let at_ := fun (i : Nat) => x.getD i 0
  x.mapIdx fun k v =>
    if n ≤ k then v
    else
      let i := if adj then k / 2 else k % (n / 2)
      let second := if adj then k % 2 == 1 else n / 2 ≤ k
      let a := if adj then at_ (2 * i) else at_ i
      let b := if adj then at_ (2 * i + 1) else at_ (i + n / 2)
      let c := ropeCos theta i n pos; let sn := ropeSin theta i n pos
      if second then add32 (mul32 a sn) (mul32 b c) else sub32 (mul32 a c) (mul32 b sn)

/-- Operations a measure may do (R219): 1792 ENG cycles at the rate of FMT_W (Table 6.1). -/
def fmaRate (f : Nat) : Nat := if f = 0 then 64 else if f < 3 then 128 else if f = 10 then 512 else 256

/-- Rows in a GEMV measure; 0 when one row exceeds a limit (Table 7.10). -/
def gemvRows (f sblk k nseq : Nat) : Nat :=
  min (MEASURE / max 1 (rowBytes f sblk k)) (1792 * fmaRate f / max 1 (k * nseq))

/-- Elements in a GEMV measure of part of a row. -/
def gemvPart (f sblk nseq : Nat) : Nat :=
  let bl := max 1 (blkLen f sblk)
  bl * max 1 (min (MEASURE / max 1 (rowBytes f sblk bl)) (1792 * fmaRate f / max 1 (bl * nseq)))

/-- One GEMV output: partial sums of a divided row are combined in ascending order. -/
def gemvDot (part : Nat) (w a : List Nat) : Nat :=
  if part = 0 then dot32 w a
  else match (blocksOf part (w.length + 1) (w.zip a)).map fun b => dot32 (b.map Prod.fst) (b.map Prod.snd) with
    | [] => 0
    | p :: ps => ps.foldl add32 p

/-- Positions in an ATTN_DECODE measure (Table 7.10). -/
def attnChunk (f h hkv dh kr : Nat) : Nat :=
  largestPow (fun c => decide (c * 2 * hkv * kr ≤ MEASURE) && decide (c * h * dh * 2 ≤ 1792 * fmaRate f)) 10

/-- One query head of ATTN_DECODE over keys and values of positions 0 to POS. The scores are formed with FMAs, and the weighted
sums of chunks of `c` positions are combined in ascending order. -/
def attnHead (scale c : Nat) (q : List Nat) (ks vs : List (List Nat)) : List Nat :=
  let q := q.map toBf16
  let sc := ks.map fun k => mul32 scale (dot32 q k)
  let ps := expRow sc
  let tot := sum32 ps
  let chunk := fun (b : List (Nat × List Nat)) =>
    match b with
    | [] => []
    | x :: _ => b.foldl (fun acc pv => zipRow (fun v a => fma32 (toBf16 pv.1) v a) pv.2 acc) (x.2.map fun _ => 0)
  match (blocksOf c (ps.length + 1) (ps.zip vs)).map chunk with
  | [] => []
  | r :: rs => (rs.foldl (zipRow add32) r).map fun d => div32 d tot

/-! ### Running an entry -/

def StepRun.buf (r : StepRun) (b : Nat) : List Nat := Tbl.getD r.bufs b []

/-- Elements of one sequence's row of a buffer. -/
def StepRun.get (r : StepRun) (m : Model) (sq : Nat) (x : BRange) : List Nat :=
  padTo x.2.2 0 (((r.buf x.1).drop (sq * m.bufLen x.1 + x.2.1)).take x.2.2)

/-- The row of one sequence changed. -/
def StepRun.set (r : StepRun) (m : Model) (sq : Nat) (x : BRange) (v : List Nat) : StepRun :=
  let len := m.bufLen x.1
  let b := padTo (r.seqs.length * len) 0 (r.buf x.1)
  let at_ := sq * len + x.2.1
  { r with bufs := Tbl.put r.bufs x.1 (b.take at_ ++ padTo x.2.2 0 v ++ b.drop (at_ + x.2.2)) }

/-- First byte of a slot's key row and value row at a position (R221), and the bytes of all heads' rows there. -/
def kvAt (m : Model) (e : List Word) (slot pos : Nat) : Nat × Nat × Nat :=
  let base := rWoff e + slot * rSb m e
  let row := rHkv e * rKr e
  (base + pos * row, base + rSb m e / 2 + pos * row, row)

/-- The FP32 result of an entry for one sequence; none for KV_APPEND. -/
def State.entryValue (s : State) (m : Model) (l : Layer) (e : List Word) (r : StepRun) (sq : Nat) : List Nat :=
  let a := r.get m sq ((rReads e).headD (0, 0, 0))
  let b := r.get m sq ((rReads e).getD 1 (0, 0, 0))
  let (slot, pos) := r.seqs.getD sq (0, 0)
  match rOp e with
  | 1 =>
    let rs := rowBytes (rFmt e) (rSblk e) (rK e)
    let a := a.map toBf16
    let part := if gemvRows (rFmt e) (rSblk e) (rK e) r.seqs.length = 0 then gemvPart (rFmt e) (rSblk e) r.seqs.length else 0
    let old := r.get m sq (rD e, rDoff e, rN e)
    (List.range (rN e)).map fun n =>
      let w := decElems (rFmt e) (rSblk e) (rK e) (s.weightBytes l.wreg (rWoff e + n * rs) rs)
      let d := gemvDot part w a
      if rOpf e then add32 d (old.getD n 0) else d
  | 2 =>
    let k := rK e
    let g := decElems (rFmt e) 0 k (s.weightBytes l.wreg (rWoff e) (k * eltAlign (rFmt e)))
    let inv := rsqrt32 (add32 (div32 (dot32 a a) (nat32 k)) (rP0 e))
    zipRow (fun x y => mul32 (mul32 x inv) y) a g
  | 3 =>
    let k := rK e
    let w := decElems (rFmt e) 0 (2 * k) (s.weightBytes l.wreg (rWoff e) (2 * k * eltAlign (rFmt e)))
    let mu := div32 (sum32 a) (nat32 k)
    let c := a.map fun x => sub32 x mu
    let inv := rsqrt32 (add32 (div32 (dot32 c c) (nat32 k)) (rP0 e))
    (List.range k).map fun i => add32 (mul32 (mul32 (c.getD i 0) inv) (w.getD i 0)) (w.getD (k + i) 0)
  | 4 => (blocksOf (rDh e) (a.length + 1) a).flatMap fun x => ropeHead (rOpf e) (rN e) (rP0 e) pos x
  | 5 =>
    let kv := l.kvreg.getD 0
    let dh := rDh e; let kr := rKr e
    let rows := fun (g t : Nat) (val : Bool) =>
      let (k, v, _) := kvAt m e slot t
      decElems (rFmt e) 0 dh (s.regionBytes kv ((if val then v else k) + g * kr) kr)
    let scale := if rP0 e = 0 then (if dh = 64 then 0x3E000000 else if dh = 128 then 0x3DB504F3 else 0x3D800000) else rP0 e
    let c := attnChunk (rFmt e) (rH e) (rHkv e) dh kr
    (blocksOf dh (a.length + 1) a).mapIdx (fun h q =>
      let g := h / (rH e / max 1 (rHkv e))
      attnHead scale c q ((List.range (pos + 1)).map fun t => rows g t false) ((List.range (pos + 1)).map fun t => rows g t true))
      |>.flatten
  | 7 => a.map silu32
  | 8 => a.map (gelu32 (rOpf e))
  | 9 => zipRow (fun x y => mul32 (silu32 x) y) a b
  | 10 => zipRow add32 a b
  | 11 => let x := expRow a; let t := sum32 x; x.map fun y => div32 y t
  | _ => []

/-- The stack on whose home engines a measure with this first operand is queued (R219): that of the operand's first copy where it is
one of the layer's die, even failed, else the stack that serves it (Table 7.12). -/
def State.layerStack (s : State) (d : Nat) (x : MSide) : Nat :=
  let home := stackOf (s.sideBase x.at_ + (x.runs.headD (0, 0)).1)
  if dieOfStack home == d then home else s.sideStack x

/-- The measures of an entry (R219): operands by place. `aux` names the sequence of a KV_APPEND. An output that several measures combine
in staging has measures of sub 3, `aux` naming it: row n of a GEMV as n, and a sequence of ATTN_DECODE as its number above every row's. -/
def State.entryMeas (s : State) (j : Job) (r : StepRun) (m : Model) (l : Layer) (e : List Word) : List Meas :=
  let base : Meas := { work := j.work, kind := .layer, cls := .urgent, agent := 0, sub := 2, stack := 4 * l.die }
  let put := fun (id : Nat) (m : Meas) => { m with sub := 3, aux := [id] }
  let mk := fun (src dst : List MSide) (aux : List Nat) =>
    { base with src := src, dst := dst, aux := aux
                len := src.foldl (fun n x => n + x.runs.foldl (fun n r => n + r.2) 0) 0
                stack := ((src ++ dst).head?.map (s.layerStack l.die)).getD (4 * l.die) : Meas }
  let seqs := List.range r.seqs.length
  let kv := l.kvreg.getD 0
  match rOp e with
  | 1 =>
    let rs := rowBytes (rFmt e) (rSblk e) (rK e)
    let R := gemvRows (rFmt e) (rSblk e) (rK e) r.seqs.length
    if 0 < R then (List.range (ceilDiv (rN e) R)).map fun i =>
        mk (s.rangeSides l.wreg (rWoff e + i * R * rs) (min R (rN e - i * R) * rs)) [] []
    else
      let p := gemvPart (rFmt e) (rSblk e) r.seqs.length
      (List.range (rN e)).flatMap fun n => (List.range (ceilDiv (rK e) p)).map fun i =>
        put n (mk ((rowPiece (rFmt e) (rSblk e) (rK e) (rWoff e + n * rs) (i * p) (min p (rK e - i * p))).flatMap fun x =>
          s.rangeSides l.wreg x.1 x.2) [] [])
  | 5 => seqs.flatMap fun sq =>
      let (slot, pos) := r.seqs.getD sq (0, 0)
      let c := attnChunk (rFmt e) (rH e) (rHkv e) (rDh e) (rKr e)
      (List.range (ceilDiv (pos + 1) c)).map fun i =>
        let (k, v, row) := kvAt m e slot (i * c)
        let n := min c (pos + 1 - i * c) * row
        let x := mk (s.rangeSides kv k n ++ s.rangeSides kv v n) [] []
        if pos < c then x else put (2 ^ 20 + sq) x
  | 6 => seqs.map fun sq =>
      let (slot, pos) := r.seqs.getD sq (0, 0)
      let (k, v, row) := kvAt m e slot pos
      mk [] (s.rangeSides kv k row ++ s.rangeSides kv v row) [sq]
  | _ => seqs.map fun _ => mk (s.rangeSides l.wreg (rWoff e) (rWeights e)) [] []

/-! ### Decode steps -/

def State.setStep (s : State) (a jid : Nat) (f : StepRun → StepRun) : State :=
  s.setJob a jid fun j => { j with step := j.step.map f }

/-- Bytes of an element of FMT_IN or FMT_OUT. -/
def ioBytes (f : Nat) : Nat := if f = 0 then 4 else 2

/-- Elements per sequence that a step returns. -/
def Model.outElems (m : Model) : Nat := if m.outlen = 0 then m.hid else m.outlen

def Model.inSize (m : Model) (nseq : Nat) : Nat := nseq * m.hid * ioBytes m.fmtIn
def Model.outSize (m : Model) (nseq : Nat) : Nat := nseq * m.outElems * ioBytes m.fmtOut

def Model.layer (m : Model) (i : Nat) : Layer := Tbl.getD m.placed i {}

/-- Store that a step needs on a die (R225). -/
def Model.storeNeed (m : Model) (nseq die : Nat) : Nat :=
  nseq * 4 * (m.hid + m.buflen.foldl (· + ·) 0) +
    (if (m.layer (m.layers - 1)).die == die then nseq * m.outlen * ioBytes m.fmtOut else 0)

def State.stepCap (s : State) : Nat := 2 ^ 20 * max 1 (min 32 (bits s.opu.stepCtrl.toNat 5 0))

/-- The dies that a model's layers lie on. -/
def Model.dies (m : Model) : List Nat := [0, 1, 2, 3].filter fun d => m.placed.any fun l => l.2.die == d

/-- The measures of the step's current entry formed; a finished layer or recipe leads on (R226). -/
def State.startEntry (s : State) (a jid : Nat) : State :=
  match s.job? a jid with
  | none => s
  | some j => match j.step with
    | none => s
    | some r =>
      let m := s.model r.model
      let l := m.layer r.layer
      match l.recipe[r.entry]? with
      | none => s
      | some e =>
        let ms := s.entryMeas j r m l e
        let outs := (ms.filter fun x => x.sub == 3).foldl (fun t x => Tbl.modD t (x.aux.headD 0) {} fun o => { o with left := o.left + 1 }) []
        s.setJob a jid fun j =>
          { j with outs := outs, step := j.step.map fun r => { r with phase := .layer, die := l.die, todo := ms } }

/-- What an encoding that a step makes adds to its report and to its die's counters (R207, R227). -/
def State.noteStep (s : State) (j : Job) (r : StepRun) (sat nan : Nat) : State :=
  let s := s.setJob j.agent j.jobid fun j => { j with sat := j.sat || sat != 0, nan := j.nan || nan != 0 }
  let s := if sat = 0 then s else s.bump blkOPU (0x0510 + 4 * r.die) sat
  if nan = 0 then s else s.bump blkOPU (0x0520 + 4 * r.die) nan

/-- Measures that write the step's output (R227), encoded to FMT_OUT. -/
def State.startOut (s : State) (a jid : Nat) : State :=
  match s.job? a jid with
  | none => s
  | some j => match j.step with
    | none => s
    | some r =>
      let m := s.model r.model
      let n := r.seqs.length
      let vals := if m.outlen = 0 then padTo (n * m.hid) 0 (r.buf 0) else padTo (n * m.outlen) 0 (r.buf 15)
      let enc := encElems m.fmtOut 0 none 0 vals
      let ms := (cutBytes r.outPages MEASURE none (some { base := r.outPva, x := m.outSize n })).map fun c =>
        let dst := s.sides r.outPages c.druns.reverse
        { work := j.work, kind := .layer, cls := .urgent, agent := a, dst := dst, len := c.len, pos := c.pos, sub := 1
          stack := 4 * r.die + c.pos / MEASURE % 4, data := (enc.bytes.drop c.pos).take c.len : Meas }
      (s.setJob a jid fun j => { j with elems := n * m.outElems, step := some { r with phase := .writing, todo := ms } }).noteStep j r
        (if m.outlen = 0 then enc.sat else 0) (if m.outlen = 0 then enc.nan else 0)

/-- Measures that read IN into B0, on the die of layer 0 (R226). -/
def State.startIn (s : State) (a jid : Nat) : State :=
  match s.job? a jid with
  | none => s
  | some j => match j.step with
    | none => s
    | some r =>
      let m := s.model r.model
      let ms := (cutBytes r.inPages MEASURE (some { base := r.inPva, x := m.inSize r.seqs.length }) none).map fun c =>
        let src := s.sides r.inPages c.sruns.reverse
        { work := j.work, kind := .layer, cls := .urgent, agent := a, src := src, len := c.len, pos := c.pos, sub := 0
          stack := 4 * r.die + c.pos / MEASURE % 4 : Meas }
      s.setStep a jid fun r => { r with phase := .reading, todo := ms }

/-- A step joins the queue of a die (R228). -/
def State.joinDie (s : State) (a jid d : Nat) : State :=
  s.onOpu fun p => { p with queues := Tbl.modD p.queues d [] fun q => q ++ [jobKey a jid] }

/-- A step's store released and its place at a die given up: B0 leaves, or the output is written (R225, R228). -/
def State.quitDie (s : State) (a jid : Nat) : State :=
  match s.job? a jid with
  | none => s
  | some j => match j.step with
    | none => s
    | some r => (s.freeStore (jobKey a jid) r).setStep a jid fun r => { r with claimed := [] }

/-- Steps that have reached a die claim store there in the order of their arrival; the first that finds no room holds up the later ones
and is counted (R225, R228). -/
def State.claimDie (s : State) (d : Nat) : List Nat → State
  | [] => s
  | k :: rest =>
    let a := k / 65536; let jid := k % 65536
    match (s.job? a jid).bind fun j => j.step with
    | none => s.claimDie d rest
    | some r =>
      if !r.claimed.isEmpty then s.claimDie d rest
      else
        let need := (s.model r.model).storeNeed r.seqs.length d
        let used := Tbl.getD s.opu.used d 0
        if s.stepCap < used + need then
          (if r.waited then s else (s.setStep a jid fun r => { r with waited := true }).bump blkOPU (0x0550 + 4 * d))
        else
          let s := s.onOpu fun p =>
            { p with used := Tbl.put p.used d (used + need), peak := Tbl.modD p.peak d 0 fun n => max n (used + need) }
          (s.setStep a jid fun r => { r with claimed := [(d, need)], waited := false, die := d, home := some d }).claimDie d rest

/-- Ticks that B0 takes from one die to another (R226). -/
def Model.crossTicks (m : Model) (nseq : Nat) : Nat := max 1 (ceilDiv (nseq * 4 * m.hid) (2 ^ 20))

/-- B0 leaves for the die of the next layer (R226): its place and store here are given up, and this die keeps it until it arrives. -/
def State.leaveDie (s : State) (a jid : Nat) (m : Model) (r : StepRun) : State :=
  let s := (s.quitDie a jid).setStep a jid fun r =>
    { r with phase := .leaving (m.crossTicks r.seqs.length), bufs := r.bufs.filter fun b => b.1 == 0 }
  (s.onOpu fun p => { p with crossing := p.crossing ++ [jobKey a jid] }).bump blkOPU 0x0560

/-- What the step at the front of a die does at a boundary (R219, R226 to R228), once no measure of it is out. -/
def State.stepTick (s : State) (a jid : Nat) : State :=
  match s.job? a jid with
  | none => s
  | some j => match j.step with
    | none => s
    | some r =>
      if j.state != .running || !r.todo.isEmpty || r.queued != 0 then s
      else
        let m := s.model r.model
        match r.phase with
        | .queued =>
          if r.claimed.isEmpty then s else if r.layer = 0 then s.startIn a jid else s.startEntry a jid
        | .reading => s.startEntry a jid
        | .layer =>
          if r.entry < (m.layer r.layer).recipe.length then s.startEntry a jid
          else
            let s := s.bump blkOPU (0x0540 + 4 * r.die)
            let s := s.setJob a jid fun j => { j with tilesDone := j.tilesDone + 1 }
            if m.layers ≤ r.layer + 1 then s.startOut a jid
            else
              let s := s.setStep a jid fun r => { r with layer := r.layer + 1, entry := 0 }
              if (m.layer (r.layer + 1)).die = r.die then s.startEntry a jid else s.leaveDie a jid m r
        | _ => s

/-- A die at a boundary: its steps claim store, and the one at its front goes on; when it leaves, the next one does. -/
def State.dieTick (s : State) (d : Nat) : Nat → State
  | 0 => s
  | fuel + 1 =>
    let s := s.claimDie d (Tbl.getD s.opu.queues d [])
    match (Tbl.getD s.opu.queues d []).head? with
    | none => s
    | some k =>
      let s := s.stepTick (k / 65536) (k % 65536)
      if (Tbl.getD s.opu.queues d []).head? == some k then s else s.dieTick d fuel

/-- B0s on their way a tick further, in the order in which they left. One that has arrived joins its die's queue (R226), unless an earlier
one of its model has not: the steps of one model pass every die in their order (R228). -/
def State.crossTick (s : State) : State :=
  (s.opu.crossing.foldl (fun (x : State × List Nat) k =>
    let (s, open_) := x
    let a := k / 65536; let jid := k % 65536
    match (s.job? a jid).bind fun j => if j.state == .running then j.step else none with
    | none => x
    | some r => match r.phase with
      | .leaving t =>
        if t ≤ 1 && !open_.contains r.model then
          let s := (s.onOpu fun p => { p with crossing := p.crossing.filter fun y => y != k }).setStep a jid fun r =>
            { r with phase := .queued }
          (s.joinDie a jid ((s.model r.model).layer r.layer).die, open_)
        else (s.setStep a jid fun r => { r with phase := .leaving (t - 1) }, r.model :: open_)
      | _ => x) (s, [])).1

/-- Is IN or OUT withdrawn from a live step's requester (R230)? -/
def State.stepRevoked (s : State) (j : Job) : Bool :=
  match j.step with
  | none => false
  | some r =>
    j.state == .running && r.phase != .ended &&
    ((r.inPages.map fun p => (false, p)) ++ r.outPages.map fun p => (true, p)).any fun x =>
      s.sideRefusal j.agent x.1 { at_ := s.atOf x.2, runs := [] } == some .accessRevoked

/-- The steps at a boundary: those whose output is written are DONE (R227), those whose IN or OUT is withdrawn stop (R230), B0s arrive,
and the front step of every die goes on. -/
def State.stepsTick (s : State) : State :=
  let s := (s.eng.jobs.filter fun e => e.2.isStep && e.2.state == .done).foldl (fun s e => s.finishJob e.2.agent e.2.jobid) s
  let s := (s.eng.jobs.filter fun e => s.stepRevoked e.2).foldl (fun s e => s.stopJob e.2.agent e.2.jobid .accessRevoked 0) s
  let s := s.crossTick
  [0, 1, 2, 3].foldl (fun s d => s.dieTick d 65536) s

/-- Staging for the output that a step's measure adds to (R193, R194): 64 KiB on the layer's die; none while there is no room, and the
output is counted as held back. -/
def State.stageStep (s : State) (a jid : Nat) (r : StepRun) (x : Meas) : Option State × State :=
  let id := x.aux.headD 0
  match if x.sub == 3 then (s.job? a jid).bind fun j => Tbl.find j.outs id else none with
  | none => (some s, s)
  | some o =>
    if o.stage != 0 then (some s, s)
    else match s.takeStage r.die 65536 with
      | none => (none, s.bump blkOPU (0x0530 + 4 * r.die))
      | some s =>
        (some (s.setJob a jid fun j => { j with outs := Tbl.upd j.outs id fun o => { o with stage := 65536, die := r.die } }), s)

/-- Held-back measures of a step queued (R147), those of a divided output once its staging is allocated (R193). -/
def State.feedStep (s : State) (a jid : Nat) : Nat → State
  | 0 => s
  | fuel + 1 =>
    match (s.job? a jid).bind fun j => if j.state == .running then j.step else none with
    | none => s
    | some r => match r.todo with
      | [] => s
      | x :: rest => match s.stageStep a jid r x with
        | (none, s) => s
        | (some s1, _) => match s1.placeMeas x none with
          | none => s1
          | some (_, s) => (s.setStep a jid fun r => { r with todo := rest, queued := r.queued + 1 }).feedStep a jid fuel

/-- KV rows of one sequence written (KV_APPEND, R218, R222). -/
def State.kvAppend (s : State) (j : Job) (r : StepRun) (m : Model) (e : List Word) (x : Run) : State :=
  let sq := x.m.aux.headD 0
  let one := fun (v : List Nat) => (blocksOf (rDh e) (v.length + 1) v).map fun h => encElems (rFmt e) 0 none 0 h
  let ks := (rReads e).flatMap fun b => one (r.get m sq b)
  (s.noteStep j r (ks.foldl (fun n e => n + e.sat) 0) (ks.foldl (fun n e => n + e.nan) 0)).writeBytes x 0 (ks.flatMap fun e => e.bytes)

/-- The last measure of an entry is complete: its result is in the buffers (R218). -/
def State.entryDone (s : State) (j : Job) (r : StepRun) (m : Model) (l : Layer) (e : List Word) : State :=
  match rWrite e with
  | none => s.setStep j.agent j.jobid fun r => { r with entry := r.entry + 1 }
  | some w =>
    let vs := (List.range r.seqs.length).map fun sq => s.entryValue m l e r sq
    let es := if w.1 == 15 then vs.map fun v => encElems m.fmtOut 0 none 0 v else []
    let s := s.setStep j.agent j.jobid fun r =>
      { (vs.mapIdx fun i v => (i, v)).foldl (fun r x => r.set m x.1 w x.2) r with entry := r.entry + 1 }
    s.noteStep j r (es.foldl (fun n e => n + e.sat) 0) (es.foldl (fun n e => n + e.nan) 0)

/-- A completed measure of a step. -/
def State.doneLayer (s : State) (x : Run) : State :=
  match x.m.work.job? with
  | none => s
  | some (a, jid) => match s.job? a jid with
    | none => s
    | some j => match j.step with
      | none => s
      | some r =>
        let s := s.setStep a jid fun r => { r with queued := r.queued - 1 }
        let m := s.model r.model
        let l := m.layer r.layer
        let e := l.recipe.getD r.entry []
        if s.runPoisoned x then (s.stopJob a jid .internal poisonDetail).advance a jid
        else
          let s := s.setJob a jid fun j => { j with bytes := j.bytes + x.m.len }
          let s := match x.m.sub with
            | 0 => s.setStep a jid fun r => { r with got := Tbl.put r.got x.m.pos (dense x.m.len 0 (s.srcCells x)) }
            | 1 => s.writeBytes x 0 x.m.data
            | 3 => (s.addPart j (x.m.aux.headD 0) id).1
            | _ => if rOp e == 6 then s.kvAppend j r m e x else s
          let last := r.todo.isEmpty && r.queued == 1
          let s := if !last || j.state != .running then s
            else match x.m.sub with
              | 0 => s.setStep a jid fun r =>
                { r with bufs := [(0, decElems m.fmtIn 0 (r.seqs.length * m.hid) (r.got.flatMap Prod.snd))], got := [] }
              | 1 => (s.quitDie a jid).setJob a jid fun j =>
                { j with state := .done, status := .ok, detail := b2n j.sat + 2 * b2n j.nan
                         step := j.step.map fun r => { r with phase := .ended } }
              | _ => s.entryDone j r m l e
          s.change.advance a jid

/-- The pre-check of a step's IN and OUT (R224): then it waits at the die of layer 0. -/
def State.precheckStep (s : State) (j : Job) (r : StepRun) : State :=
  let m := s.model r.model
  let n := r.seqs.length
  let ops := [(false, granulesOf r.inPva (m.inSize n)), (true, granulesOf r.outPva (m.outSize n))]
  let (s, out) := s.preTile j.agent ops
  match out with
  | .stop st => s.stopJob j.agent j.jobid st 0
  | .fault pva high cause kind => s.faultJob j.agent j.jobid pva high cause kind false
  | .pass ps =>
    let d := (m.layer 0).die
    let s := s.setJob j.agent j.jobid fun j =>
      { j with state := .running, step := some { r with phase := .queued, inPages := ps, outPages := ps, die := d } }
    (s.joinDie j.agent j.jobid d).change

/-! ### Accepting jobs and steps (R136 to R140, R223, R224) -/

/-- Live jobs of an agent, and of the part (R139). -/
def State.liveJobs (s : State) (agent : Nat) : Nat := (s.eng.jobs.filter fun e => e.2.agent == agent).length

def State.jobsFull (s : State) (agent : Nat) : Bool := 128 ≤ s.liveJobs agent || 4096 ≤ s.eng.jobs.length

/-- The record of a completed job, while it is kept (R138). -/
def State.jobRec? (s : State) (agent jobid : Nat) : Option JobRec :=
  (Tbl.getD s.eng.recs agent []).find? fun x => x.jobid == jobid && (s.agentSt agent).upTicks < x.at_ + 4096

/-- A descriptor whose JOBID is live or recorded (R138): the state with it answered, none for a new one. -/
def State.reissue (s : State) (agent jobid : Nat) (w : Option Issuer × Option Nat) : Option State :=
  match s.job? agent jobid with
  | some _ =>
    let s := s.setJob agent jobid fun j => { j with waiters := j.waiters ++ [w] }
    some (match w.1 with | some i => s.answerR16 i .accepted | none => s)
  | none => match s.jobRec? agent jobid with
    | some x => some (s.jobAnswer agent jobid w x.status x.detail x.res0 x.res1)
    | none => none

/-- A new job in the table. -/
def State.enterJob (s : State) (j : Job) : State :=
  let s := s.onEng fun e => { e with jobs := Tbl.put e.jobs (jobKey j.agent j.jobid) j }
  (s.onEng fun e => { e with peak := max e.peak e.jobs.length }).change

/-- A new job accepted: ACCEPTED to a host function (R140). -/
def State.acceptJob (s : State) (j : Job) : State :=
  let s := s.enterJob j
  match j.by_ with
  | some i => s.answerR16 i .accepted
  | none => s

/-- A job descriptor received (R136 to R139). -/
def State.submitJob (s : State) (agent : Nat) (w : Option Issuer × Option Nat) (desc : List Word) : State :=
  let j : Job := { agent := agent, jobid := bits ((desc.getD 1 0).toNat) 15 0, by_ := w.1, port := w.2, desc := desc,
                   acceptedAt := s.tick }
  match s.reissue agent j.jobid w with
  | some s => s
  | none =>
    match s.descRefusal j w.1.isNone with
    | some (st, d) => s.jobRefuse agent j.jobid w st d
    | none =>
      if s.jobsFull agent then s.jobRefuse agent j.jobid w .busy 0
      else if j.isRack then
        match (s.enterJob { j with state := .running }).rackBegin j with
        | .inl s => match w.1 with
          | some i => s.answerR16 i .accepted
          | none => s
        | .inr (st, d) => s.jobRefuse agent j.jobid w st d
      else s.acceptJob j

/-- The refusal of a decode step by order 1 to 5 of R224; `dw` reads the command's DWs. -/
def State.stepRefusal (s : State) (agent : Nat) (dw : Nat → Nat) : Option (Status × Nat) :=
  let mi := dw 2 % 16
  let m := s.model mi
  let n := bits (dw 3) 20 16
  let seqs := (List.range n).map fun i => (bits (dw (8 + i)) 11 0, bits (dw (8 + i)) 31 12)
  let a := dw 4 + 2 ^ 32 * bits (dw 5) 19 0; let b := dw 6 + 2 ^ 32 * bits (dw 7) 19 0
  let sa := m.inSize n; let sb := m.outSize n
  let dup := fun (i : Nat) => ((seqs.take i).any fun q => q.1 == (seqs.getD i (0, 0)).1)
  let bad := failing ([(n == 0 || 16 < n, 3), (a % 64 != 0 || 2 ^ 52 < a + sa || overlaps a sa b sb, 4), (b % 64 != 0 || 2 ^ 52 < b + sb, 6)] ++
    (List.range n).map fun i =>
      (m.slots ≤ (seqs.getD i (0, 0)).1 || m.ctxMax ≤ (seqs.getD i (0, 0)).2 || dup i, 8 + i))
  match m.state with
  | .free => some (.malformed, 2)
  | .loading => some (.busy, 0)
  | .unloading => some (.busy, 0)
  | .broken => some (.regionLost, 0)
  | .ready =>
    if !bit m.users agent then some (.deniedRights, 0)
    else match lowest bad with
      | some d => some (.malformed, d)
      | none =>
        if s.jobsFull agent || 64 ≤ (s.liveSteps mi).length then some (.busy, 0)
        else if m.dies.any fun d => s.stepCap < m.storeNeed n d then some (.quota, 8)
        else none

/-- A decode step received (R223, R224). -/
def State.submitStep (s : State) (agent : Nat) (w : Option Issuer × Option Nat) (dw : Nat → Nat) : State :=
  let jid := bits (dw 3) 15 0
  match s.reissue agent jid w with
  | some s => s
  | none =>
    match s.stepRefusal agent dw with
    | some (st, d) => s.jobRefuse agent jid w st d
    | none =>
      let n := bits (dw 3) 20 16
      s.acceptJob
        { agent := agent, jobid := jid, by_ := w.1, port := w.2, acceptedAt := s.tick
          step := some { model := dw 2 % 16, inPva := dw 4 + 2 ^ 32 * bits (dw 5) 19 0, outPva := dw 6 + 2 ^ 32 * bits (dw 7) 19 0
                         seqs := (List.range n).map fun i => (bits (dw (8 + i)) 11 0, bits (dw (8 + i)) 31 12) } }

/-! ### Job commands -/

def State.doJobSubmit (s : State) (i : Issuer) (p : Packet) : State :=
  let op := p.fld 4 7 0
  let isData := 0x20 ≤ op && op ≤ 0x3F
  if (s.func i.fn).agent == 0 then s.denied i
  else if (p.len == 36) != isData then s.malformed i 1
  else s.submitJob (s.func i.fn).agent (some i, none) (p.words.drop 4)

/-- May the function name jobs of the agent (R141)? -/
def State.mayJob (s : State) (i : Issuer) (agent : Nat) : Bool :=
  s.provider i || (agent != 0 && (s.func i.fn).agent == agent)

/-- A live job stopped by its user (R141, R175); the flag is false when a RACK can no longer be stopped. -/
def State.abortJob (s : State) (agent jobid : Nat) : State × Bool :=
  match s.job? agent jobid with
  | none => (s, true)
  | some j =>
    if j.isRack then
      let rid := j.fld 2 11 0
      match (s.region rid).rack with
      | some r => if r.done.isEmpty then (s.rackAbort rid .timeout 1, true) else (s, false)
      | none => (s.stopJob agent jobid .timeout 1, true)
    else (s.stopJob agent jobid .timeout 1, true)

def State.doJobAbort (s : State) (i : Issuer) (p : Packet) : State :=
  let a := p.fld 2 7 0; let jid := p.fld 3 15 0
  if !s.mayJob i a then s.denied i
  else match s.job? a jid with
    | none => if (s.jobRec? a jid).isSome then s.answerR16 i .ok else s.malformed i 2
    | some _ =>
      match (s.setJob a jid fun j => { j with aborts := j.aborts ++ [i] }).abortJob a jid with
      | (s, true) => s
      | (_, false) => s.busy i 1

def State.doJobQuery (s : State) (i : Issuer) (p : Packet) : State :=
  let a := p.fld 2 7 0; let jid := p.fld 3 15 0
  if !s.mayJob i a then s.denied i
  else match s.job? a jid with
    | some j => s.answer i .ok 0 j.state.code (j.tilesDone % 65536)
    | none => match s.jobRec? a jid with
      | some x => s.answer i .ok 0 (JobState.done.code + 256 * x.status.code) (x.res1 % 65536)
      | none => s.malformed i 2

/-- An abort packet (R141): an unknown job is refused by a JOB_DONE. -/
def State.abortPacket (s : State) (port agent jobid : Nat) : State :=
  match s.job? agent jobid with
  | some _ => (s.abortJob agent jobid).1
  | none => if (s.jobRec? agent jobid).isSome then s else s.jobRefuse agent jobid (none, some port) .malformed 2

/-- FAULT_RESOLVE (R125). -/
def State.doFaultResolve (s : State) (i : Issuer) (p : Packet) : State :=
  let rec_ := p.fld 2 15 0
  let slot := rec_ % 1024
  match Tbl.find s.xlt.faults slot with
  | none => s.malformed i 2
  | some f =>
    if f.seq != rec_ / 1024 then s.malformed i 2
    else if !s.provider i && Tbl.find s.xlt.owner f.agent != some i.fn then s.denied i
    else if bit (p.dw 3) 0 then (s.failRecord slot .unmapped).answerR16 i .ok
    else
      let s := (s.onXlt fun x => { x with faults := Tbl.del x.faults slot }).change
      let s := f.waiters.foldl (fun s w =>
        match s.job? w.1 w.2 with
        | some j => match j.step with
          | some r => if j.state == .faulted then s.precheckStep j r else s
          | none => s.retryJob w.1 w.2
        | none => s) s
      s.answerR16 i .ok

/-! ### Model commands (R209 to R214) -/

/-- May the function command a model of this owner (R209)? -/
def State.mayModel (s : State) (i : Issuer) (owner users : Nat) : Bool :=
  s.provider i || ((s.func i.fn).tenant == owner && (maskBits 128 users).all fun a => s.tenantOf a == owner)

/-- A 128-bit agent mask in four DWs. -/
def mask128 (p : Packet) (k : Nat) : Nat := leNatW ((p.words.drop k).take 4)

/-- B1 to B14 of MODEL_LOAD. -/
def bufLens (p : Packet) : List Nat :=
  ((List.range 7).flatMap fun i => [p.fld (8 + i) 15 0, p.fld (8 + i) 31 16])

def State.doModelLoad (s : State) (i : Issuer) (p : Packet) : State :=
  let owner := p.fld 3 21 16
  let lens := bufLens p
  let m : Model := { state := .loading, owner := owner, layers := p.fld 3 8 0, fmtOut := p.fld 4 23 20, fmtIn := p.fld 4 19 16
                     hid := p.fld 4 15 0, outlen := p.fld 5 18 0, slots := p.fld 6 11 0, ctxMax := p.fld 7 20 0, buflen := lens
                     users := mask128 p 15 }
  let bad := failing ([(m.layers == 0 || 256 < m.layers || !s.tenantExists owner, 3),
    (2 < m.fmtOut || 2 < m.fmtIn || m.hid == 0 || 32768 < m.hid, 4), (262144 < m.outlen, 5), (m.slots == 0, 6),
    (m.ctxMax == 0 || 1048576 < m.ctxMax, 7)] ++ (lens.mapIdx fun k n => (Nat.blt 32768 n, 8 + k / 2)))
  if !s.mayModel i owner m.users then s.denied i
  else if (s.model (p.fld 2 3 0)).state != .free then s.busy i
  else match lowest bad with
    | some d => s.malformed i d
    | none => (s.setModel (p.fld 2 3 0) fun _ => m).change.answerR16 i .ok

/-- Checks of a command on a model that is not FREE (R211). -/
def State.onModel (s : State) (i : Issuer) (p : Packet) (users : Nat) (f : Nat → Model → State) : State :=
  let m := p.fld 2 3 0
  let x := s.model m
  if x.state == .free then s.malformed i 2
  else if !s.mayModel i x.owner users then s.denied i
  else f m x

def State.doModelUnload (s : State) (i : Issuer) (p : Packet) : State :=
  s.onModel i p 0 fun m x =>
    let live := s.liveSteps m
    if x.state == .unloading || (!live.isEmpty && !bit p.flags 1) then s.busy i
    else
      let s := (s.setModel m fun x => { x with state := .unloading, unloadBy := some i }).change
      let s := live.foldl (fun s w => s.stopJob w.1 w.2 .accessRevoked 0) s
      s.unloadCheck m

def State.doModelUsers (s : State) (i : Issuer) (p : Packet) : State :=
  let users := mask128 p 4
  s.onModel i p users fun m _ => (s.setModel m fun x => { x with usersNext := some users }).change.answerR16 i .ok

/-- Is a region ACTIVE, layer-affine on a die, of the model's owner, and not VERSIONED (Table 7.5, order 4)? -/
def State.placeable (s : State) (r die owner : Nat) : Bool :=
  let g := s.region r
  g.state == .active && g.placeMode == 2 && g.dieNo == die && g.owner == owner && !g.versioned

/-- The digest of recipe entries (R214). -/
def recipeDigest (es : List (List Word)) : List Byte := sha384 (es.flatMap bytesOfWords)

/-- Is some page of the region HELD? -/
def State.anyHeld (s : State) (r : Nat) : Bool :=
  (s.regionIdxs r).any fun i => let e := s.entry i; e.state == .held || (e.state == .recalling && e.prior)

/-- The refusal of a LAYER_PLACE by Table 7.5. -/
def State.placeRefusal (s : State) (p : Packet) (m : Nat) (x : Model) : Option (Status × Nat) :=
  let ops := p.fld 3 22 16
  let nokv := bit (p.dw 3) 15
  let die := p.fld 3 13 12
  let li := p.fld 3 8 0
  let kv := p.fld 4 23 12; let w := p.fld 4 11 0
  let es := (List.range ops).map fun j => (p.words.drop (8 + 8 * j)).take 8
  let head := if ops == 0 || 64 < ops || x.layers ≤ li then [3] else []
  let bad := head ++ (x.recipeFaults (li + 1 == x.layers) nokv es).map fun d => 8 + d
  let gw := s.region w; let gk := s.region kv
  let outside := (List.range ops).find? fun j =>
    let e := es.getD j []
    if rKv e then !gk.hasRange (rWoff e) (x.slots * rSb x e)
    else rWeights e != 0 && !gw.hasRange (rWoff e) (rWeights e)
  let placed := s.opu.models.foldl (fun n y => n + (y.2.placed.filter fun l => !l.2.lost && !(y.1 == m && l.1 == li)).length) 0
  if x.state == .unloading || !(s.liveSteps m).isEmpty then some (.busy, 0)
  else match lowest bad with
    | some d => some (.malformed, d)
    | none =>
      if !s.placeable w die x.owner || (!nokv && !s.placeable kv die x.owner) then some (.malformed, 4)
      else if !nokv && (s.bound kv || kv == w) then some (.malformed, 4)
      else match outside with
        | some j => some (.malformed, 8 + 8 * j + 5)
        | none =>
          if (gw.acl.any fun a => a.2.w || a.2.a) || s.anyHeld w || (!nokv && !gk.acl.isEmpty) then some (.busy, 4)
          else
            let listed := s.sec.bindings.all fun b => b.2.region != w || b.2.recipes.contains (recipeDigest es)
            if !listed then some (.deniedRights, 0)
            else if 1024 ≤ placed then some (.quota, 9)
            else none

def State.doLayerPlace (s : State) (i : Issuer) (p : Packet) : State :=
  s.onModel i p 0 fun m x =>
    match s.placeRefusal p m x with
    | some (st, d) => s.answer i st d
    | none =>
      let l : Layer := { die := p.fld 3 13 12, wreg := p.fld 4 11 0, kvreg := if bit (p.dw 3) 15 then none else some (p.fld 4 23 12)
                         recipe := (List.range (p.fld 3 22 16)).map fun j => (p.words.drop (8 + 8 * j)).take 8 }
      let s := s.setModel m fun x =>
        let ls := Tbl.put x.placed (p.fld 3 8 0) l
        { x with placed := ls, state := if (ls.filter fun l => !l.2.lost).length = x.layers then .ready else x.state }
      s.change.answerR16 i .ok

def State.doDecodeStep (s : State) (i : Issuer) (p : Packet) : State :=
  if (s.func i.fn).agent == 0 then s.denied i
  else s.submitStep (s.func i.fn).agent (some i, none) p.dw

/-! ### Completion of a running measure -/

/-- Operands of a run whose generation is not live (R409), by slot, with the runs of every copy. -/
def State.deadSides (s : State) (r : Run) : List (Nat × List (Nat × Nat)) :=
  let runs := r.rd ++ (r.wr.zipWith (fun a b => a ++ b) (r.wr2 ++ List.replicate r.wr.length []))
  (r.tags.zip runs).filterMap fun x => match x.1 with
    | some t => if s.genLive t then none else some (t.1, x.2)
    | none => none

/-- A measure that MEC drops (R409): nothing of it is read or written. A job or step stops with KEY_RETIRED, without a completion where
its agent's tenant no longer exists; data owed to an agent and a write-back stop with it; other internal work goes on without it. -/
def State.retireRun (s : State) (r : Run) (dead : List (Nat × List (Nat × Nat))) : State :=
  let s := dead.foldl (fun s d => s.retire d.1 d.2) s
  let gone := fun (a : Nat) => !s.tenantExists (s.tenantOf a)
  match r.m.work with
  | .job a jid => (s.stopJob a jid .keyRetired 0 (gone a)).advance a jid
  | .step a jid => (s.stopJob a jid .keyRetired 0 (gone a)).advance a jid
  | .swapIn id =>
    match Tbl.find s.dir.transfers id with
    | some (q, _) => (s.stopData (fun p _ => p == q) (if gone q.agent then none else some .keyRetired)).transferEnds id
    | none => s
  | .writeBack i => s.breakWb i .keyRetired
  | _ => s.actStep r.m

/-- The measure that an engine runs is complete (MEASURE_COMPLETE): counted, and its effect. -/
def State.completeMeasure (s : State) (n : Nat) : State :=
  match (s.unit n).running with
  | none => s
  | some r =>
    let s := (s.setUnit n fun u => { u with running := none }).bump blkENG (0x0500 + 4 * (n / 64))
    let dead := s.deadSides r
    if !dead.isEmpty then s.retireRun r dead
    else
      let s := s.checkReads r
      match r.m.kind with
      | .tile k => s.doneTile n k r
      | .layer => s.doneLayer r
      | _ => s.doneInternal r

end Sys2Proof.Machine
end

