-- ==== Sys2Proof/Machine/Wire.lean ====
section
/-! DEFINITION. Flits on a Trellis link: header flits, bodies and data (R272 to R276), control flits (R285), their CRC (R273), and TL2
encryption (R293). -/

namespace Sys2Proof.Machine

/-! ### Bodies of packets that the part sends -/

/-- PTYPE of a packet that the part sends (Table 9.8); 0 for what never travels on Trellis. -/
def PktBody.ptype : PktBody → Nat
  | .drsp _ => 0x02
  | .dmsg _ => 0x03
  | .jobDone _ _ _ _ => 0x11
  | .mwr _ _ _ => 0x20
  | .mrd _ _ => 0x21
  | .pushDone _ => 0x23
  | .tlp _ => 0

/-- Bytes 32 to 63 of the header flit (Table 9.9). -/
def PktBody.body (b : PktBody) : List Byte :=
  padTo 32 0 (match b with
    | .drsp r => leBytes 1 r.status.code ++ leBytes 3 r.detail ++ leBytes 3 r.gen ++ leBytes 1 (place r.load 4 0 + place r.hint 4 4) ++
        leBytes 6 r.vintage ++ [0, 0] ++ padTo 16 0 r.old
    | .dmsg r => leBytes 1 r.msg ++ leBytes 1 r.cause ++ leBytes 2 (r.region % 4096) ++ leBytes 3 r.gen ++ [0] ++ leBytes 4 r.page ++
        leBytes 4 r.left
    | .jobDone st detail r0 r1 => leBytes 1 st.code ++ leBytes 3 detail ++ leBytes 4 r0 ++ leBytes 4 r1
    | .mwr a _ _ => leBytes 8 a
    | .mrd a n => leBytes 8 a ++ leBytes 1 n
    | .pushDone a => leBytes 1 a
    | .tlp _ => [])

/-- Bytes of the data flits. -/
def PktBody.data (b : PktBody) : List Byte :=
  match b with
  | .drsp r => padTo 64 0 r.data
  | .mwr _ cs n => (List.range (64 * n)).map fun i => Tbl.getD cs i 0
  | _ => []

/-! ### Link headers (Tables 9.5 and 9.6) -/

/-- Bits [31:0] of a packet's link header. -/
def linkWord (seq : Nat) (enc : Bool) (keysel len vc kind : Nat) : Nat :=
  place seq 12 16 + place (b2n enc) 1 12 + place keysel 1 11 + place len 5 6 + place vc 2 4 + place kind 4 0

/-- The CRC of a packet or control flit, its bytes 4 to 7 taken as zero (R273). -/
def flitCrc (bs : List Byte) : Nat := crc32c (bs.take 4 ++ [0, 0, 0, 0] ++ bs.drop 8)

/-- Bytes with their CRC in place. -/
def withCrc (bs : List Byte) : List Byte := bs.take 4 ++ leBytes 4 (flitCrc bs) ++ bs.drop 8

/-- The 96-bit IV of a packet: the key's salt and its packet counter (R293), each with its low byte first (R7). -/
def LinkKey.iv (k : LinkKey) : List Byte := leBytes 4 k.salt ++ leBytes 8 k.ctr

/-- Bytes of the transaction header (Table 9.7). -/
def transHead (tid agt ptype : Nat) : List Byte := leBytes 8 (place tid 16 32 + place agt 7 16 + place ptype 8 0)

/-- A packet's flits as they are sent: in the clear, or under a key (R293). -/
def Pkt.wire (k : Pkt) (seq keysel : Nat) (key : Option LinkKey) : List Byte :=
  let head := leBytes 4 (linkWord seq key.isSome keysel (k.flits - 1) k.vc 0)
  let tr := transHead (match k.body with | .dmsg _ => 0 | _ => k.tid) k.agt k.body.ptype
  let rest := k.body.body ++ padTo (64 * (k.flits - 1)) 0 k.body.data
  withCrc (match key with
    | none => head ++ [0, 0, 0, 0] ++ List.replicate 16 0 ++ tr ++ rest
    | some x =>
      let (ct, tag) := gcmSeal x.key x.iv (head ++ tr) rest
      head ++ [0, 0, 0, 0] ++ tag ++ tr ++ ct)

/-! ### Control flits (R285, Table 9.12) -/

/-- KIND of a control flit. -/
def Ctl.kind : Ctl → Nat
  | .ack _ => 1 | .nak _ => 2 | .xoff _ => 3 | .xon _ => 4 | .probe _ => 5 | .echo _ => 6 | .caps _ _ _ _ => 7

/-- The 64 bytes of a control flit. -/
def Ctl.wire (c : Ctl) : List Byte :=
  let seq := match c with | .ack q => q | .nak q => q | _ => 0
  let fields : List Byte := match c with
    | .xoff m => leBytes 1 (m % 8)
    | .xon m => leBytes 1 (m % 8)
    | .probe t => leBytes 4 t
    | .echo t => leBytes 4 t
    | .caps v e c0 c1 => leBytes 1 v ++ leBytes 1 e ++ List.replicate 6 0 ++ leBytes 8 c0 ++ leBytes 8 c1
    | _ => []
  withCrc (padTo 64 0 (leBytes 4 (linkWord seq false 0 0 3 c.kind) ++ [0, 0, 0, 0] ++ fields))

/-! ### What is received -/

/-- The header fields of received flits (Tables 9.5 to 9.7). -/
structure RxHead where
  seq : Nat := 0
  enc : Bool := false
  keysel : Nat := 0
  len : Nat := 0
  vc : Nat := 0
  kind : Nat := 0
  rsv : Nat := 0                   -- the reserved bits of the link header
  tid : Nat := 0
  agt : Nat := 0
  ptype : Nat := 0
  deriving DecidableEq, Repr, Inhabited

/-- `n` bytes of a packet from byte `a`, and the number they spell. -/
def cut (bs : List Byte) (a n : Nat) : List Byte := (bs.drop a).take n
def num (bs : List Byte) (a n : Nat) : Nat := leNat (cut bs a n)

def rxHead (bs : List Byte) : RxHead :=
  let w := num bs 0 4; let t := num bs 24 8
  { seq := bits w 27 16, enc := bit w 12, keysel := bits w 11 11, len := bits w 10 6, vc := bits w 5 4, kind := bits w 3 0
    rsv := bits w 31 28 * 8 + bits w 15 13, tid := bits t 47 32, agt := bits t 22 16, ptype := bits t 7 0 }

/-- Do whole flits arrive with a good CRC? -/
def crcGood (bs : List Byte) : Bool := 64 ≤ bs.length && bs.length % 64 == 0 && flitCrc bs == num bs 4 4

/-- A received packet with its body and data in the clear; none where its tag does not verify (R293, R294). -/
def unlock (k : LinkKey) (bs : List Byte) : Option (List Byte) :=
  (gcmOpen k.key k.iv (bs.take 4 ++ cut bs 24 8) (bs.drop 32) (cut bs 8 16)).map fun pt => bs.take 32 ++ pt

/-- Words of a packet's data flits. -/
def dataWords (bs : List Byte) : List Word := leWords ((bs.length - 64) / 4) (leNat (bs.drop 64))

/-- The fields of a DREQ (Table 9.9, Table 3.4). -/
def dreqFields (h : RxHead) (bs : List Byte) : DirReq :=
  { flags := num bs 32 1 / 16, txid := h.tid, pva := num bs 40 8 % 2 ^ 52, gen := num bs 36 3, dest := num bs 48 8
    atop := num bs 33 1 % 8, wide := bit (num bs 33 1) 3, operands := cut bs 64 32, mask := num bs 56 8, data := cut bs 64 64 }

/-- The command that a packet from an agent on port p spells (Tables 9.8 and 9.9); none where its PTYPE, VC or LEN is another (R275),
or its REQ names none (R69). -/
def rxCommand (p : Nat) (h : RxHead) (bs : List Byte) : Option Instr :=
  let v : Via := .trellis p h.agt
  let r := dreqFields h bs
  let ws := dataWords bs
  match h.ptype, h.vc with
  | 0x01, 0 =>
    let req := num bs 32 1 % 16
    if h.len != (if req = 1 ∨ req = 2 then 1 else 0) then none
    else match req with
      | 0 => some (.load v r) | 1 => some (.store v r) | 2 => some (.atomic v r) | 3 => some (.swapInShared v r)
      | 4 => some (.swapInHeld v r) | 5 => some (.swapOut v r) | 6 => some (.release v r) | 7 => some (.invAck v r)
      | _ => none
  | 0x10, 0 =>
    if bits (ws.getD 0 0).toNat 7 0 = 0xFE then some (.jobAbortPacket p h.agt h.tid ws) else some (.jobPacket p h.agt h.tid ws)
  | 0x12, 0 => some (.stepPacket p h.agt h.tid ws)
  | 0x22, 2 => some (.mcpl p h.agt h.tid (num bs 40 1) (bs.drop 64))
  | _, _ => none

/-- Is it a DREQ with a REQ code that Table 3.5 does not define? -/
def badReq (h : RxHead) (bs : List Byte) : Bool := h.ptype == 0x01 && h.vc == 0 && h.len == 0 && 8 ≤ num bs 32 1 % 16

end Sys2Proof.Machine
end

