-- ==== Sys2Proof/Machine/Sch.lean ====
section
/-! DEFINITION. SCH: the start of a packet on a port (R355 to R358), gate lists (R360 to R364), METER_SET, SCHED_SET and
GATE_LIST_LOAD; TRT: ROUTE_SET, MCAST_GROUP_SET and the freeze of telemetry (R298 to R316). -/

namespace Sys2Proof.Machine

/-! ### Eligibility (R357) -/

/-- Gate class and weight of an agent (R359). -/
def State.sub (s : State) (agent : Nat) : Nat × Nat := Tbl.getD s.sch.subs agent (0, 16)

def State.gateOpen (s : State) (p agent : Nat) : Bool := bit (s.schPort p).gates (s.sub agent).1

/-- Is the packet's VC held off by the partner (R287)? -/
def State.vcHeld (s : State) (p vc : Nat) : Bool := p < 16 && bit (s.port p).xoffTx vc

def State.eligible (s : State) (p : Nat) (k : Pkt) : Bool :=
  (k.cls == 4 || s.gateOpen p k.agt) && !s.vcHeld p k.vc

/-- A packet's size (R356). -/
def Pkt.size (k : Pkt) : Nat := k.flits * 64

/-- Does a queued packet leave by link `l` of its port? A Trellis port is one link; a host link is scheduled on its own (R355). -/
def State.onLink (s : State) (p l : Nat) (k : Pkt) : Bool :=
  p < 16 || (match k.body with | .tlp t => (s.func t.fn).link == 4 * (p - 16) + l | _ => true)

/-- The round robins of link `l` of a port. -/
def SchPort.rr (q : SchPort) (l : Nat) : Drr := Tbl.getD q.drr l {}

/-- The head packet of each agent's queue in a class on a link, by ascending agent. -/
def State.heads (s : State) (p l c : Nat) : Tbl Pkt :=
  (s.schPort p).queue.foldl (fun t k => if k.cls != c || !s.onLink p l k || (Tbl.find t k.agt).isSome then t else Tbl.put t k.agt k) []

/-! ### Deficit round robin (R356) -/

/-- The key after `t` in rising cyclic order. -/
def nextKey (keys : List Nat) (t : Nat) : Nat := ((keys.find? fun k => t < k).or keys.head?).getD t

/-- The queue served next: its key, its head's size, and the deficits after it. A queue gains its quantum when its turn comes. -/
def drr (quantum : Nat → Nat) (sizes : Tbl Nat) : Nat → Nat → Tbl Nat → Option (Nat × Tbl Nat)
  | 0, _, _ => none
  | fuel + 1, t, d =>
    match Tbl.find sizes t with
    | some h =>
      if h ≤ Tbl.getD d t 0 then some (t, Tbl.put d t (Tbl.getD d t 0 - h))
      else
        let n := nextKey (sizes.map Prod.fst) t
        drr quantum sizes fuel n (Tbl.modD d n 0 fun x => x + quantum n)
    | none =>
      if sizes.isEmpty then none
      else
        let n := nextKey (sizes.map Prod.fst) t
        drr quantum sizes fuel n (Tbl.modD d n 0 fun x => x + quantum n)

/-- Rounds of a round robin that cover any packet of the queue. -/
def drrFuel (sizes : Tbl Nat) : Nat := (sizes.foldl (fun n e => max n e.2) 0 / 256 + 3) * (sizes.length + 1)

/-- The subscriber level of class c: the packet it offers, and its deficits after it. -/
def State.offer (s : State) (p l c : Nat) : Option (Pkt × Tbl Nat) :=
  let hs := (s.heads p l c).filter fun e => s.eligible p e.2
  let sizes : Tbl Nat := hs.map fun e => (e.1, e.2.size)
  let q := (s.schPort p).rr l
  let d : Tbl Nat := (q.subDef.filter fun e => e.1 / 128 == c).map fun e => (e.1 % 128, e.2)
  match drr (fun a => (s.sub a).2 * 256) sizes (drrFuel sizes) (Tbl.getD q.subTurn c 127) d with
  | none => none
  | some (a, d) => (Tbl.find hs a).map fun k => (k, d)

/-- The packet that starts next on a link, with the scheduler after it; none while nothing is eligible. -/
def State.choose (s : State) (p l : Nat) : Option (Pkt × SchPort) :=
  let q := s.schPort p
  let r := q.rr l
  match q.queue.find? fun k => k.cls == 4 && s.onLink p l k && s.eligible p k with
  | some k => some (k, { q with queue := q.queue.erase k })
  | none =>
    let os := (List.range 4).filterMap fun c => (s.offer p l c).map fun o => (c, o)
    let sizes : Tbl Nat := os.map fun o => (o.1, o.2.1.size)
    match drr (fun c => 1024 * q.weights.getD c 1) sizes (drrFuel sizes) r.clsTurn r.clsDef with
    | none => none
    | some (c, d) =>
      match Tbl.find os c with
      | none => none
      | some (k, sd) =>
        let queue := q.queue.erase k
        let mine := queue.filter fun x => x.cls == c && s.onLink p l x
        let sd := if mine.any fun x => x.agt == k.agt then sd else Tbl.del sd k.agt
        let r : Drr :=
          { clsDef := if mine.isEmpty then Tbl.del d c else d, clsTurn := c, subTurn := Tbl.put r.subTurn c k.agt
            subDef := sd.foldl (fun t e => Tbl.put t (c * 128 + e.1) e.2) (r.subDef.filter fun e => e.1 / 128 != c) }
        some (k, { q with queue := queue, drr := Tbl.put q.drr l r })

/-! ### Transmission -/

def State.linkKeys (s : State) (p : Nat) : LinkKeys := Tbl.getD s.sec.keys p {}

def State.setKeys (s : State) (p : Nat) (f : LinkKeys → LinkKeys) : State :=
  s.onSec fun c => { c with keys := Tbl.modD c.keys p {} f }

/-- The key selected for sending. -/
def LinkKeys.tx (k : LinkKeys) : LinkKey := if k.sel = 0 then k.tx0 else k.tx1

/-- The key under which the partner's packets arrive. -/
def LinkKeys.rx (k : LinkKeys) : LinkKey := if k.rxSel = 0 then k.rx0 else k.rx1

/-- Room to send a packet (R280, R294): 4096 flits of replay buffer, fewer than 2047 packets held, and a counter not exhausted. -/
def State.canSend (s : State) (p : Nat) (k : Pkt) : Bool :=
  let x := s.port p
  x.held.foldl (fun n h => n + h.p.flits) 0 + k.flits ≤ 4096 && x.held.length < 2047 &&
    !(x.enc && 2 ^ 63 ≤ (s.linkKeys p).tx.ctr)

/-- A new packet sent on a Trellis port: numbered, formed into flits, held for replay, and counted (R272, R280, R293, R311). -/
def State.transmit (s : State) (p : Nat) (k : Pkt) : State :=
  let x := s.port p
  let sel := (s.linkKeys p).sel
  let w := k.wire x.next sel (if x.enc then some (s.linkKeys p).tx else none)
  let s := s.setPort p fun x => { x with next := (x.next + 1) % 4096, held := x.held ++ [{ seq := x.next, keysel := sel, p := k, wire := w }] }
  let up := fun (c : LinkKey) => { c with ctr := c.ctr + 1 }
  let s := if x.enc then s.setKeys p fun c => if c.sel = 0 then { c with tx0 := up c.tx0 } else { c with tx1 := up c.tx1 } else s
  (s.countTx p k.vc k.flits).emit (.packet p x.next sel k w)

/-- The wait of R300 ends once the old message port holds no DMSG of the agent: what waited is queued on the new one. -/
def State.endWait (s : State) (agent : Nat) : State :=
  let rt := s.route agent
  match rt.waitOn, rt.msg with
  | some a, some b =>
    if s.dmsgQueued a agent then s
    else rt.waiting.foldl (fun s k => s.sendPkt b k) (s.setRoute agent fun r => { r with waitOn := none, waiting := [] })
  | _, _ => s

/-- The selective stream in which TLPs of a function travel, with the T bit set, while its TDI is in RUN (R337). -/
def State.tdiStream (s : State) (fn : Nat) : Option Nat :=
  if (s.func fn).tdi == .run then ((s.link (s.func fn).link).ide.find? fun e => e.1 != 0 && e.2.fn == some fn && e.2.keyed).map Prod.fst
  else none

/-- A new packet starts on a port (PACKET_START). -/
def State.startNew (s : State) (p l : Nat) : State :=
  match s.choose p l with
  | none => s
  | some (k, q) =>
    if p < 16 then
      if !s.canSend p k then s
      else
        let s := (s.setSch p fun _ => q).transmit p k
        match k.body with
        | .dmsg _ => s.endWait k.agt
        | _ => s
    else
      let s := (s.setSch p fun _ => q).countTx p k.vc k.flits k.tlps
      match k.body with
      | .tlp t => s.emit (.tlp t (s.tdiStream t.fn))
      | _ => s

/-- A packet starts on a Trellis port, or on link `l` of a host port (R283, R287, R356): a replayed packet ahead of any new one, unless its
VC is held off. -/
def State.packetStart (s : State) (p l : Nat) : State :=
  if p < 16 then
    if !s.portUp p then s
    else
      let x := s.port p
      match x.replay.bind fun n => x.held.find? fun h => h.seq == n with
      | some h =>
        if s.vcHeld p h.p.vc then s.startNew p 0
        else
          let nxt := (h.seq + 1) % 4096
          (s.setPort p fun x => { x with replay := if nxt == x.next then none else some nxt }).emit (.packet p h.seq h.keysel h.p h.wire)
      | none => s.startNew p 0
  else if p < 24 && (s.link (4 * (p - 16) + l)).state == .up then s.startNew p l
  else s

/-! ### Gate lists (R360 to R364) -/

def GateList.cycle (g : GateList) : Nat := g.entries.foldl (fun n e => n + e.2) 0

/-- The entry that a number of ticks into the cycle falls in: its index and the ticks that remain of it. -/
def gateAt (n : Nat) : List (Nat × Nat) → Nat → Nat × Nat
  | [], i => (i, 0)
  | e :: es, i => if n < e.2 then (i, e.2 - n) else gateAt (n - e.2) es (i + 1)

/-- Ticks from the list's last cycle start to network time `t`; before BASE the cycles are counted backward. -/
def GateList.phase (g : GateList) (t : Nat) : Nat :=
  let c := g.cycle
  if c = 0 then 0 else (((t : Int) - (g.base : Int)) / 1280).emod c |>.toNat

/-- Is a boundary at network time `t` a cycle start of the list (R361)? Taken at the first boundary of the tick it falls in. -/
def GateList.starts (g : GateList) (t : Nat) : Bool := g.entries.isEmpty || g.phase t == 0

/-- The entry that network time names takes force. -/
def State.gateSync (s : State) (p : Nat) : State :=
  s.setSch p fun q =>
    if q.oper.entries.isEmpty then { q with entry := 0, left := 0, gates := 0xFF, resync := false }
    else
      let (i, n) := gateAt (q.oper.phase s.glb.time.now) q.oper.entries 0
      { q with entry := i, left := n, gates := (q.oper.entries.getD i (0xFF, 1)).1, resync := false }

/-- The pending list replaces the operational one at its first cycle start (R362). -/
def State.gateSwitch (s : State) (p : Nat) : State :=
  match (s.schPort p).pendingList with
  | none => s
  | some g =>
    if g.starts s.glb.time.now then (s.setSch p fun q => { q with oper := g, pendingList := none }).gateSync p else s

/-- GATE_ENTRY_EXPIRY, in the tick whose closing boundary ends the entry's duration (R361): step 5 of that boundary brings the next gate
state. -/
def State.gateExpiry (s : State) (p : Nat) : State :=
  if 24 ≤ p then s else s.setSch p fun q => { q with expire := true }

/-- Step 5 of a boundary for one port: the entry in force has one boundary less; a pending list takes over at its cycle start (R362); else
an entry that ends is followed by the next one, or after a step of network time by the one that it names (R364). -/
def State.gateStart (s : State) (p : Nat) : State :=
  let ends := (s.schPort p).expire
  let s := s.setSch p fun q => { q with left := q.left - 1, expire := false }
  let q := s.schPort p
  let due := match q.pendingList with
    | some g => g.starts s.glb.time.now
    | none => false
  if due then s.gateSwitch p
  else if !ends || q.oper.entries.isEmpty || q.left != 0 then s
  else if q.resync then s.gateSync p
  else
    let i := (q.entry + 1) % q.oper.entries.length
    let e := q.oper.entries.getD i (0xFF, 1)
    s.setSch p fun q => { q with entry := i, left := e.2, gates := e.1 }

/-- Step 5 of a boundary (Table 1.5): every port's gate state. -/
def State.gateTick (s : State) : State := (s.sch.ports.map Prod.fst).foldl (fun s p => s.gateStart p) s

/-- Ports where a packet waits behind a closed gate at this boundary (Table 12.11). -/
def State.gateWaits (s : State) : State :=
  (s.sch.ports.filter fun e => e.2.queue.any fun k => k.cls != 4 && !s.gateOpen e.1 k.agt).foldl
    (fun s e => s.bump blkSCH (0x1000 + 4 * e.1)) s

/-- Network time was stepped or the generator re-phased: each list finishes its entry, then resynchronises (R364). -/
def State.gateStep (s : State) : State :=
  s.onSch fun c => { c with ports := Tbl.mapKV c.ports fun _ q => { q with resync := true } }

/-! ### METER_SET, SCHED_SET, GATE_LIST_LOAD (R354, R359, R363) -/

/-- The home hub of an agent's meter (R346): the hub of PREF, or of the lowest-numbered port of its route. -/
def State.homeHub (s : State) (agent : Nat) : Nat :=
  let r := s.route agent
  if r.pref != 31 then hubOfPort r.pref
  else match maskBits 24 r.ports with
    | p :: _ => hubOfPort p
    | [] => 0

/-- Field checks of METER_SET (R354): with ACTIVE 0 there are none. -/
def meterFault (p : Packet) : Option Nat :=
  let cir := p.fld 3 15 0
  let cbs := p.fld 4 23 0
  if !bit (p.dw 6) 0 then none
  else if p.fld 2 6 0 == 0 then some 2
  else if cir == 0 || p.fld 3 31 16 < cir then some 3
  else if cbs < 2048 then some 4
  else if p.fld 5 23 0 < cbs then some 5
  else none

def State.doMeterSet (s : State) (i : Issuer) (p : Packet) : State :=
  let a := p.fld 2 6 0
  let on := bit (p.dw 6) 0
  let cir := p.fld 3 15 0; let pir := p.fld 3 31 16; let cbs := p.fld 4 23 0; let pbs := p.fld 5 23 0
  if !s.provider i then s.denied i
  else match meterFault p with
  | some d => s.malformed i d
  | none =>
    let m := s.meter a
    let s := if a = 0 then s
      else if !on then s.setMeter a fun m => { m with active := false, tc := 0, tp := 0 }
      else s.setMeter a fun _ =>
        { active := true, home := s.homeHub a, cir := cir, pir := pir, cbs := cbs, pbs := pbs
          -- a new meter starts empty; the applying boundary's step 4 gives it its first credit (Table 12.3)
          tc := if m.active then min cbs m.tc else 0, tp := if m.active then min pbs m.tp else 0 }
    s.answer i .ok

/-- The four weights of SCHED_SET, DIRECT first. -/
def schedWeights (p : Packet) : List Nat := (List.range 4).map fun k => p.fld 4 (8 * k + 7) (8 * k)

/-- Field checks of SCHED_SET (R359). -/
def schedFault (p : Packet) : Option Nat :=
  let t := p.fld 2 6 0
  if bit (p.dw 3) 31 then
    if 23 < t then some 2 else if (schedWeights p).contains 0 then some 4 else none
  else if t == 0 then some 2 else if p.fld 3 7 0 == 0 then some 3 else none

def State.doSchedSet (s : State) (i : Issuer) (p : Packet) : State :=
  let t := p.fld 2 6 0
  if !s.provider i then s.denied i
  else match schedFault p with
  | some d => s.malformed i d
  | none =>
  if bit (p.dw 3) 31 then (s.setSch t fun q => { q with weights := schedWeights p }).answer i .ok
  else (s.onSch fun c => { c with subs := Tbl.put c.subs t (p.fld 3 10 8, p.fld 3 7 0) }).answer i .ok

/-- The entries of a GATE_LIST_LOAD packet. -/
def gateWords (p : Packet) : List Nat := (List.range (p.fld 3 8 0)).map fun k => p.dw (8 + k)

/-- Field checks of GATE_LIST_LOAD (R363). -/
def gateFault (p : Packet) : Option Nat :=
  let n := p.fld 3 8 0
  if 23 < p.fld 2 4 0 then some 2
  else if 256 < n || p.len != 8 + n then some 3
  else (firstIdx (fun w => bits w 23 8 == 0 || bits w 31 24 != 0) (gateWords p)).map fun k => 8 + k

def State.doGateListLoad (s : State) (i : Issuer) (p : Packet) : State :=
  let q := p.fld 2 4 0
  if !s.provider i then s.denied i
  else match gateFault p with
    | some d => s.malformed i d
    | none =>
      let g : GateList := { entries := (gateWords p).map fun w => (bits w 7 0, bits w 23 8), base := p.addr 4 }
      (s.setSch q fun x => { x with pendingList := some g }).answer i .ok

/-! ### ROUTE_SET and MCAST_GROUP_SET (R302, R303, R306) -/

/-- An agent's route replaced: its meter moves when its home hub changes (R346), its link follows its ports (R303), and pushes
to a port that no longer reaches it drop that port's data (R308). -/
def State.putRoute (s : State) (a ports pref : Nat) : State :=
  let old := s.homeHub a
  let s := s.setRoute a fun r => { r with ports := ports, pref := pref }
  let new := s.homeHub a
  let s := if old != new then s.setMeter a fun m => { m with home := new, tc := 0, tp := 0 } else s
  s.agentLink a

/-- Field checks of ROUTE_SET (R302). -/
def routeFault (p : Packet) : Option Nat :=
  let a := p.fld 2 7 0
  let ports := p.fld 3 23 0
  let pref := p.fld 4 4 0
  if a == 0 || 127 < a then some 2
  else if ports / 65536 != 0 then some 3
  else if pref != 31 && !bit ports pref then some 4
  else none

def State.doRouteSet (s : State) (i : Issuer) (p : Packet) : State :=
  let a := p.fld 2 7 0
  if !s.provider i then s.denied i
  else match routeFault p with
  | some d => s.malformed i d
  | none => if s.hostAgent a then s.malformed i 2 else (s.putRoute a (p.fld 3 23 0) (p.fld 4 4 0)).answer i .ok

/-- The member agents of a MCAST_GROUP_SET packet. -/
def mcastMembers (p : Packet) : List Nat := (List.range 16).map fun k => p.fld (4 + k / 4) (8 * (k % 4) + 7) (8 * (k % 4))

/-- Field checks of MCAST_GROUP_SET (R306): a member named outside 1 to 127, or one where MASK has none. -/
def mcastFault (p : Packet) : Option Nat :=
  ((List.range 16).find? fun k =>
    let m := (mcastMembers p).getD k 0
    if bit (p.fld 3 23 0) k then m == 0 || 127 < m else m != 0).map fun k => 4 + k / 4

def State.doMcastGroupSet (s : State) (i : Issuer) (p : Packet) : State :=
  let ms := mcastMembers p
  let mask := p.fld 3 23 0
  let bad := (List.range 16).find? fun k =>
    let m := ms.getD k 0
    if bit mask k then m == 0 || 127 < m || !bit (s.route m).ports k else m != 0
  if !s.provider i then s.denied i
  else match bad with
    | some k => s.malformed i (4 + k / 4)
    | none =>
      let g : Group := { owner := p.fld 3 29 24, mask := mask, members := ms }
      (s.onTrt fun t => { t with groups := Tbl.put t.groups (p.fld 2 7 0) g }).answer i .ok

/-! ### Telemetry (R312, R313) -/

/-- Word `off` of the TRT window's telemetry as it stands: counters, and PEAK with NOW of TRT_QDEPTH. -/
def State.telemetry (s : State) (off : Nat) : Nat :=
  if 0x1C00 ≤ off && off < 0x1D80 then
    let i := (off - 0x1C00) / 4
    place (Tbl.getD s.trt.peaks i 0) 16 16 + satAt 65535 (s.qdepth (i / 4) (i % 4))
  else s.stat blkTRT off

/-- Every telemetry value, by offset. -/
def State.telemetryAll (s : State) : Tbl Nat :=
  (s.stats.filter fun e => statKey blkTRT 0x0700 ≤ e.1 && e.1 < statKey blkTRT 0x2000).foldl
    (fun t e => Tbl.put t (e.1 - statKey blkTRT 0) e.2)
    ((List.range 96).foldl (fun t i => Tbl.put t (0x1C00 + 4 * i) (s.telemetry (0x1C00 + 4 * i))) [])

/-- PEAK of every VC of the named ports set to NOW. -/
def State.peakClear (s : State) (ports : Nat) : State :=
  (maskBits 24 ports).foldl (fun s p => (List.range 4).foldl (fun s v =>
    s.onTrt fun t => { t with peaks := Tbl.put t.peaks (4 * p + v) (satAt 65535 (s.qdepth p v)) }) s) s

end Sys2Proof.Machine
end

