-- ==== Sys2Proof/Machine/Tlk.lean ====
section
/-! DEFINITION. TLK: link states and training (R264 to R271), acceptance, acknowledgement and replay (R280 to R283), XOFF and
XON (R284 to R289), breaks (R290 to R292) and link keys in CAPS (R293, R294). -/

namespace Sys2Proof.Machine

/-- A control flit sent on a port (R285), counted on VC3 (R311). -/
def State.ctl (s : State) (p : Nat) (c : Ctl) : State := (s.countTx p 3 1).emit (.ctl p c c.wire)

/-- Values of TLK_VC_ALLOC as flits (Table 9.20). -/
def allocFlits (w : Word) (v : Nat) : Nat := 16 * bits w.toNat (10 * v + 9) (10 * v)

/-- REPLAY_MAX as it acts (Table 9.17). -/
def State.replayMax (s : State) : Nat := max 1 (bits s.tlk.retry.toNat 3 0)

/-! ### Breaks (R290, R291, Table 9.14) -/

/-- INFO of a TLK fault (Table 15.2). -/
def tlkInfo (p cause : Nat) : Nat := p * 256 + cause % 16

def State.raiseTlk (s : State) (p n cause : Nat) : State := s.raise blkTLK (hubOfPort p) n (tlkInfo p cause)

/-- Does the request travel over port p? -/
def onPort (p : Nat) (v : Via) : Bool := match v with | .trellis q _ => p == q | _ => false

/-- What traffic on a port becomes when the port leaves UP (Table 9.14): queued and held packets dropped and counted,
swap data stopped, write-backs stopped under R90, packets not yet taken discarded. Of the pushes, those lose data that had some queued here,
and those whose running measures would bring some (R161). -/
def State.loseTraffic (s : State) (p : Nat) : State :=
  let q := (s.schPort p).queue
  let x := s.port p
  let n := q.length + x.held.length
  let s := s.setSch p fun q => { q with queue := [], drr := Tbl.mapKV q.drr fun _ d => { d with clsDef := [], subDef := [] } }
  let s := s.setPort p fun x => { x with held := [], replay := none, replays := 0, rx := [], unacked := false, sinceAck := 0, dupAcked := false
                                         nakSent := false, xoffAt := [] }
  let s := if n = 0 then s else s.bump blkTLK (0x0600 + 4 * p) n
  let s := s.stopData (fun q _ => onPort p q.via) none
  let s := (s.wbsOf fun q => onPort p q.via).foldl (fun s i => s.breakWb i .linkLost) s
  let lost := ((q.map fun k => k.job) ++ x.held.map fun k => k.p.job).filter (· != 0)
  s.onEng fun e => { e with
    jobs := Tbl.mapKV e.jobs fun k j => if lost.contains k then { j with dropMask := setBit j.dropMask p } else j
    units := Tbl.mapKV e.units fun _ u => { u with running := u.running.map fun r => { r with ports := r.ports.filter (· != p) } } }

/-- An UP port breaks (R290): RETRAIN begins, or DISABLED when DISABLE broke it. -/
def State.breakLink (s : State) (p cause : Nat) (disabled : Bool := false) : State :=
  if !s.portUp p then s
  else
    let s := s.loseTraffic p
    let s := s.setPort p fun x =>
      { x with state := if disabled then .disabled else .retrain, cause := cause, attempt := if disabled then 0 else 1
               brokeAt := s.tick, xoffRx := 0, xoffTx := 0 }
    let s := (s.bump blkTLK (0x05C0 + 4 * p)).raiseTlk p 0 cause
    let s := if cause == 5 then s.raiseTlk p 1 cause else s
    s.agentLinks

/-- A port that leaves UP without a break: entry to G-CELLAR, FAILED, or the loss of its hub. -/
def State.downLink (s : State) (p : Nat) : State :=
  let s := if s.portUp p then s.loseTraffic p else s
  s.setPort p fun x => if x.state == .disabled && x.off then x else { x with state := .down, xoffRx := 0, xoffTx := 0, attempt := 0 }

/-! ### Acceptance (R281, R282) -/

/-- ACK naming the last packet accepted. -/
def State.sendAck (s : State) (p : Nat) : State :=
  let x := s.port p
  (s.setPort p fun x => { x with unacked := false, sinceAck := 0 }).ctl p (.ack ((x.e + 4095) % 4096))

/-- Flits that wait in the receive buffer of a VC. -/
def Port.rxUsed (x : Port) (v : Nat) : Nat := (x.rx.filter fun r => r.1 == v).foldl (fun n r => n + r.2.1) 0

/-- Free space of a VC's allocation. -/
def Port.free (x : Port) (v : Nat) : Nat := allocFlits x.allocUse v - x.rxUsed v

/-- XOFF sent for a VC whose free space has fallen to H flits or fewer (R286). -/
def State.xoffCheck (s : State) (p v : Nat) : State :=
  let x := s.port p
  if v < 3 && x.free v ≤ x.head && !bit x.xoffRx v then
    (s.setPort p fun x => { x with xoffRx := setBit x.xoffRx v }).ctl p (.xoff (2 ^ v))
  else s

/-- XON sent for every VC held off whose free space has risen to H + 256 flits (R286). -/
def State.xonCheck (s : State) (p : Nat) : State :=
  let x := s.port p
  let vs := (List.range 3).filter fun v => bit x.xoffRx v && x.head + 256 ≤ x.free v
  if vs.isEmpty then s
  else (s.setPort p fun x => { x with xoffRx := maskDiff x.xoffRx (maskOf vs) }).ctl p (.xon (maskOf vs))

/-- The most flits of a packet on a port (R272). -/
def Port.maxFlits (x : Port) : Nat := if x.tl = 1 then 16 else 17

/-- A good packet accepted in sequence: E advances, its counter under the receive key rises, and an ACK is due (R281, R282,
R294). The flag is false when the packet breaks the link, by a LEN beyond its version's limit or by no room (Table 9.13), or the port is
not UP. -/
def State.accept (s : State) (p v flits : Nat) : State × Bool :=
  let x := s.port p
  if !s.portUp p then (s, false)
  else if x.maxFlits < flits then (s.breakLink p 6, false)
  else if x.free v < flits then (s.breakLink p 4, false)
  else
    let s := s.setPort p fun x =>
      { x with e := (x.e + 1) % 4096, unacked := true, nakSent := false, sinceAck := x.sinceAck + flits }
    let up := fun (c : LinkKey) => { c with ctr := c.ctr + 1 }
    let s := if x.enc then s.setKeys p fun c => if c.rxSel = 0 then { c with rx0 := up c.rx0 } else { c with rx1 := up c.rx1 } else s
    (if 256 ≤ (s.port p).sinceAck then s.sendAck p else s, true)

/-- MTR takes a packet (R274, R275, R311): dropped and counted when the agent's route does not include the port. -/
def State.take (s : State) (p agent v flits : Nat) : State × Bool :=
  let s := s.countRx p v flits
  if agent = 0 || 127 < agent || !bit (s.route agent).ports p then (s.bump blkTLK (0x0640 + 4 * p), false) else (s, true)

/-- A lost packet: one NAK names E while it is unchanged (R282). -/
def State.lost (s : State) (p : Nat) : State :=
  let x := s.port p
  if x.nakSent then s
  else (s.setPort p fun x => { x with nakSent := true, unacked := false, sinceAck := 0 }).ctl p (.nak x.e)

/-- A duplicate is acknowledged at once, at most once per 64 ns: a later one waits for ACK_TIMER (R282). -/
def State.ackDup (s : State) (p : Nat) : State :=
  if (s.port p).dupAcked then s.setPort p fun x => { x with unacked := true }
  else (s.sendAck p).setPort p fun x => { x with dupAcked := true }

/-- A packet discarded for its SEQ or its fields (R281, R282): a duplicate is counted and acknowledged, any other is lost. -/
def State.discard (s : State) (p seq : Nat) : State :=
  let behind := ((s.port p).e + 4096 - seq % 4096) % 4096
  if 1 ≤ behind && behind ≤ 2047 then (s.bump blkTLK (0x0580 + 4 * p)).ackDup p else s.lost p

/-- A packet that the receiver finds bad before its SEQ counts: counted, and lost (R281). -/
def State.garbled (s : State) (p : Nat) : State := (s.bump blkTLK (0x0500 + 4 * p)).lost p

/-! ### Acknowledgement and replay (R283) -/

/-- Packets freed up to a SEQ: none when it was freed before, and false when it has not been sent. -/
def Port.freed (x : Port) (seq : Nat) : Option Port × Bool :=
  let age := (x.next + 4095 - seq % 4096) % 4096
  if age < x.held.length then
    let held := x.held.drop (x.held.length - age)
    let replay := match x.replay with
      | some n => if held.any fun h => h.seq == n then some n else held.head?.map fun h => h.seq
      | none => none
    (some { x with held := held, replays := 0, replay := replay }, true)
  else (none, age < 2048)

/-- An ACK frees every held packet up to its SEQ (R283). -/
def State.gotAck (s : State) (p seq : Nat) : State :=
  if !s.portUp p then s
  else
    let s := s.countRx p 3 1
    match (s.port p).freed seq with
    | (some x, _) => s.setPort p fun _ => x
    | (none, true) => s
    | (none, false) => s.breakLink p 6

/-- A replay begins from a SEQ; one too many without progress breaks the link with cause 2. -/
def State.startReplay (s : State) (p seq : Nat) : State :=
  if s.replayMax ≤ (s.port p).replays then s.breakLink p 2
  else
    (s.setPort p fun x => { x with replay := some (seq % 4096), replays := x.replays + 1 }).bump blkTLK (0x0540 + 4 * p)

/-- A NAK naming E frees every packet before E and starts a replay from it (R283). -/
def State.gotNak (s : State) (p e : Nat) : State :=
  if !s.portUp p then s
  else
    let s := s.countRx p 3 1
    let x := s.port p
    let age := (x.next + 4096 - e % 4096) % 4096
    -- age counts the packets from E to the last one sent
    if x.held.length < age then (if age ≤ 2048 then s else s.breakLink p 6)
    else
      let s := if age < x.held.length then
          (match x.freed (e + 4095) with
           | (some y, _) => s.setPort p fun _ => y
           | _ => s)
        else s
      if age = 0 then s else s.startReplay p e

/-- The replay timer expires (R283): the oldest held packet is replayed first. -/
def State.replayExpiry (s : State) (p : Nat) : State :=
  match (s.port p).held with
  | h :: _ => if s.portUp p then s.startReplay p h.seq else s
  | [] => s

/-! ### XOFF and XON received (R287, R288) -/

def State.gotXoff (s : State) (p mask : Nat) : State :=
  if !s.portUp p then s
  else (s.countRx p 3 1).setPort p fun x =>
    { x with xoffTx := maskOr x.xoffTx (mask % 8)
             xoffAt := (maskBits 3 mask).foldl (fun t v => if bit x.xoffTx v then t else Tbl.put t v s.tick) x.xoffAt }

def State.gotXon (s : State) (p mask : Nat) : State :=
  if !s.portUp p then s
  else (s.countRx p 3 1).setPort p fun x =>
    { x with xoffTx := maskDiff x.xoffTx (mask % 8), xoffAt := (maskBits 3 mask).foldl Tbl.del x.xoffAt }

/-- XOFF_US as it acts, in ticks (Table 9.16). -/
def State.xoffTicks (s : State) : Nat := 1000 * max 100 (min 10000 (bits s.tlk.timers.toNat 13 0)) / 1280

/-- A VC held off for XOFF_US breaks the link (R288). -/
def State.xoffTimeout (s : State) (p v : Nat) : State :=
  match Tbl.find (s.port p).xoffAt v with
  | some t => if s.portUp p && bit (s.port p).xoffTx v && t + s.xoffTicks ≤ s.tick then s.breakLink p 3 else s
  | none => s

/-! ### Training (R267 to R271, R292) -/

/-- Headroom in flits (R271). -/
def headroom (loopNs : Nat) : Nat := ceilDiv (3137 * (loopNs + 64)) 1000 + 40

/-- TL_MAX as it acts (Table 9.18). -/
def Port.offers (x : Port) : Nat := max 1 (min 2 x.tlMax)

/-- Both directions' selected keys are programmed (R415). -/
def LinkKeys.installed (k : LinkKeys) : Bool := k.tx.set && k.rx.set

/-- Outcome of the negotiation of Table 9.4: the version and whether encryption is on, or the cause of failure. -/
def State.negotiate (s : State) (p versions : Nat) (peerEnc peerReq peerKeys : Bool) : (Nat × Bool) ⊕ Nat :=
  let x := s.port p
  let tl := if bit versions 1 && x.offers == 2 then 2 else if bit versions 0 then 1 else 0
  let can := tl == 2 && (s.linkKeys p).installed && peerKeys
  if tl == 0 then .inr 12
  else if x.encReq && !can then .inr 11
  else .inl (tl, can && (x.encReq || peerReq || peerEnc))

/-- Does the headroom of a LOOP fit every VC's allocation (R271)? -/
def Port.fits (x : Port) (loopNs : Nat) : Bool := (List.range 3).all fun v => headroom loopNs + 256 ≤ allocFlits x.alloc v

/-- Step 5 of Table 9.3: 16 PROBE flits, whose stamps are the part's own, and an ECHO for each of the partner's. -/
def State.probes (s : State) (p : Nat) (stamps : List Nat) : State :=
  let (c, s) := s.draw
  let s := (List.range 16).foldl (fun s i => s.ctl p (.probe (Config.stamp c i % 2 ^ 32))) s
  stamps.foldl (fun s t => s.ctl p (.echo (t % 2 ^ 32))) s

/-- 10 ms in ticks, rounded up. -/
abbrev RETRAIN_TICKS : Nat := 7813

/-- A retrain attempt fails (R292): the next one starts, or the port is DOWN after four attempts or 10 ms. -/
def State.retrainFail (s : State) (p cause : Nat) : State :=
  let x := s.port p
  if x.state != .retrain then s
  else
    let s := if 10 ≤ cause && cause ≤ 12 then s.setPort p fun x => { x with cause := cause } else s
    if x.attempt < 4 && s.tick < x.brokeAt + RETRAIN_TICKS then s.setPort p fun x => { x with attempt := x.attempt + 1 }
    else (s.setPort p fun x => { x with state := .down }).raiseTlk p 2 (s.port p).cause

/-- A step of full training fails, or 60 ms pass (Table 9.2). -/
def State.trainFail (s : State) (p cause : Nat) : State :=
  if (s.port p).state != .training then s else s.setPort p fun x => { x with state := .down, cause := cause % 16 }

/-- Training or a retrain attempt fails with a cause. -/
def State.attemptFail (s : State) (p cause : Nat) : State :=
  if (s.port p).state == .training then s.trainFail p cause else s.retrainFail p cause

/-- Training or a retrain attempt reaches steps 4 to 6 of Table 9.3 (R269, R270, R271, R294): CAPS, PROBE and ECHO, and UP. LOOP is the
largest of the round trips measured. -/
def State.trainEnd (s : State) (p versions : Nat) (trips stamps : List Nat) (peerEnc peerReq peerKeys : Bool) (ctr0 ctr1 : Nat) : State :=
  let x := s.port p
  if x.state != .training && x.state != .retrain then s
  else
    let k := s.linkKeys p
    let s := (List.range (1 + trips.length + stamps.length)).foldl (fun s _ => s.countRx p 3 1) s
    let s := s.ctl p (.caps (if x.offers == 2 then 3 else 1) (b2n k.installed + 2 * b2n x.encReq + 4 * b2n k.installed) k.tx0.ctr k.tx1.ctr)
    match s.negotiate p versions peerEnc peerReq peerKeys with
    | .inr c => s.attemptFail p c
    | .inl (tl, enc) =>
      let s := s.probes p stamps
      let loopNs := trips.foldl max 0
      if !x.fits loopNs then s.attemptFail p 10
      else
        let s := s.setKeys p fun k => { k with rx0 := { k.rx0 with ctr := ctr0 }, rx1 := { k.rx1 with ctr := ctr1 } }
        let s := s.setPort p fun x =>
          { x with state := .up, tl := tl, enc := enc, loopNs := loopNs, head := headroom loopNs, allocUse := x.alloc, attempt := 0
                   xoffRx := 0, xoffTx := 0, xoffAt := [], e := 0, sinceAck := 0, unacked := false, nakSent := false
                   next := 0, held := [], replay := none, replays := 0, rx := [] }
        s.agentLinks

/-- A DOWN port starts full training (R292). -/
def State.trainStart (s : State) (p : Nat) : State :=
  if (s.port p).state == .down && !s.mir.hubsLost.contains (hubOfPort p) && !s.cellar && !s.failedPart && s.glb.change == .none then s.setPort p fun x => { x with state := .training } else s

def State.portDisable (s : State) (p : Nat) : State :=
  let s := if s.portUp p then s.breakLink p 8 true else s
  s.setPort p fun x => { x with state := .disabled, off := true, xoffRx := 0, xoffTx := 0, attempt := 0 }

def State.portEnable (s : State) (p : Nat) : State :=
  if !(s.port p).off then s
  else s.setPort p fun x => { x with off := false, state := if x.started then .down else x.state }

end Sys2Proof.Machine
end

