-- ==== Sys2Proof/Machine/Ingress.lean ====
section
/-! DEFINITION. What arrives from agents: Trellis packets (R274 to R277, R289), the request window (R328, R331), and BAR4 (R324 to
R327, R339). -/

namespace Sys2Proof.Machine

/-- Does the part serve agents: boot has reached READY, and it is neither FAILED nor in, entering or leaving G-CELLAR? -/
def State.serving (s : State) : Bool := s.glb.boot == 7 && !s.failedPart && !s.cellar && s.glb.change == .none

/-- A directory request admitted, or, between the primary's failure and boundary 1, kept undecided (Tables 15.8, 15.10). -/
def State.admitIn (s : State) (agent : Nat) (via : Via) (code : ReqCode) (r : DirReq) : State :=
  if s.mir.state == .switching then
    s.later (.req { agent := agent, via := via, code := code, r := r, write := code.writes, at_ := s.tick })
  else s.admitReq agent via code r

/-! ### The request window -/

/-- Does a function's BAR reach the part: it exists, is not under reset or in D3hot, its TDI is not in ERROR, and its link is UP? -/
def State.barLive (s : State) (fn : Nat) : Bool :=
  s.fnExists fn && (s.func fn).reset.isNone && !(s.func fn).d3 && (s.func fn).tdi != .error &&
    (s.link (s.func fn).link).state == .up

/-- What an access to a function's registers meets first, `bar0` saying that it is one to BAR0: 0 nothing, the function or its link being
gone; 1 Unsupported Request; 2 the same, counted as a TDISP refusal; 4 it is handled. -/
def State.regGate (s : State) (fn : Nat) (bar0 tbit : Bool) : Nat :=
  if !s.fnExists fn || (s.link (s.func fn).link).state != .up then 0
  else if !s.barLive fn then 1
  else if bar0 && (s.func fn).tdi == .run && !tbit then 2
  else 4

/-- A register access that passes its gate. One refused has no effect; a read of it is answered with Unsupported Request. -/
def State.regGated (s : State) (fn : Nat) (bar0 tbit read : Bool) (f : State → State) : State :=
  match s.regGate fn bar0 tbit with
  | 0 => s
  | 4 => f s
  | g =>
    let s := if g == 2 then s.bump blkPCI (0x0880 + 4 * (s.func fn).link) else s
    if read then s.emit .regUr else s

/-- A request taken from a slot (R328): dropped while the ring's buffer is full (R331). A function with no agent has no one to
answer. -/
def State.slotRequest (s : State) (fn : Nat) (code : ReqCode) (r : DirReq) : State :=
  let f := s.func fn
  if !s.serving || !s.barLive fn || f.agent == 0 then s
  else
    let s := s.hostRx fn 0 128
    if 256 ≤ f.ringBuf.length then s.bump blkPCI (0x0980 + 4 * f.link)
    else s.admitIn f.agent (.slot fn) code r

/-! ### Trellis packets -/

/-- Status of a code that an agent sends; a code outside Table 13.7 counts as INTERNAL (a model's choice). -/
def Status.ofCode (c : Nat) : Status :=
  ([.ok, .accepted, .busy, .malformed, .badVersion, .unknownOpcode, .deniedRights, .unmapped, .accessRevoked, .keyRetired, .quota,
    .heldElsewhere, .recallTimeout, .staleGrant, .publishConflict, .vintageExhausted, .regionLost, .linkLost, .timeout,
    .failoverRetry].find? fun st => st.code == c).getD .internal

/-- Data received for the write-back into page `i`: measures are queued for what is whole, and further reads sent (R87). -/
def State.wbData (s : State) (i off : Nat) (data : List Byte) : State :=
  match (s.entry i).wb with
  | none => s
  | some w =>
    let s := s.setEntry i fun e =>
      { e with wb := some { w with got := w.got ++ (data.mapIdx fun k b => (off + k, b)), recv := w.recv ++ [(off, data.length)] } }
    (s.wbCut i 8192).wbPump i 64

/-- An MCPL (R277): data for the write-back that its tag names, or its end with the STATUS given. -/
def State.mcplIn (s : State) (p agent tag status : Nat) (data : List Byte) : State :=
  match s.tlk.mrds.find? fun m => m.1 == p && m.2.1 == tag with
  | none => s
  | some (_, _, i, off, flits) =>
    match (s.entry i).wb with
    | none => s
    | some w =>
      if w.q.agent != agent then s
      else if status != 0 then s.breakWb i (Status.ofCode status)
      else if data.length != 64 * flits then s.bump blkTLK (0x0640 + 4 * p)
      else (s.onTlk fun t => { t with mrds := t.mrds.filter fun m => !(m.1 == p && m.2.1 == tag) }).wbData i off data

/-- A JOB packet (R136, R141): OP 0xFE aborts the job that the descriptor's JOBID names (Table 5.4); a LEN outside Table 9.8
drops it. The header's TID repeats the JOBID (Table 9.8). -/
def State.jobIn (s : State) (p agent _tid : Nat) (ws : List Word) : State :=
  let op := bits (ws.getD 0 0).toNat 7 0
  let n := if 0x20 ≤ op ∧ op ≤ 0x3F then 2 else 1
  if ceilDiv ws.length 16 != n then s.bump blkTLK (0x0640 + 4 * p)
  else if op == 0xFE then s.abortPacket p agent (bits (ws.getD 1 0).toNat 15 0)
  else s.submitJob agent (none, some p) (padTo (16 * n) 0 ws)

/-- A STEP packet (R223): its words are DW2 onward of DECODE_STEP; a LEN outside Table 9.8 drops it. -/
def State.stepIn (s : State) (p agent : Nat) (ws : List Word) : State :=
  let dw := fun k => (ws.getD (k - 2) 0).toNat
  let n := bits (dw 3) 20 16
  if ceilDiv ws.length 16 != ceilDiv (6 + n) 16 then s.bump blkTLK (0x0640 + 4 * p)
  else s.submitStep agent (none, some p) dw

/-- A packet that MTR takes, by what it is; `f` is its effect. -/
def State.takeIn (s : State) (p agent v flits : Nat) (f : State → State) : State :=
  let (s, ok) := s.take p agent v flits
  if ok then f s else s

/-- The code of a directory request's command, with how it came and its fields. -/
def reqOf (c : Instr) : Option (ReqCode × Via × DirReq) :=
  match c with
  | .load v r => some (.load, v, r)
  | .store v r => some (.store, v, r)
  | .atomic v r => some (.atomic, v, r)
  | .swapInShared v r => some (.swapInShared, v, r)
  | .swapInHeld v r => some (.swapInHeld, v, r)
  | .swapOut v r => some (.swapOut, v, r)
  | .release v r => some (.release, v, r)
  | .invAck v r => some (.invAck, v, r)
  | _ => none

/-- Data flits of a directory request (Table 9.8). -/
def ReqCode.flits (c : ReqCode) : Nat := match c with | .store => 2 | .atomic => 2 | _ => 1

/-- A packet taken that spells no command: a request with an undefined REQ completes with MALFORMED (R69), any other is dropped and
counted (R275). -/
def State.strangeIn (s : State) (p : Nat) (bs : List Byte) : State :=
  let h := rxHead bs
  if badReq h bs then s.respondVia h.agt (.trellis p h.agt) none { status := .malformed, txid := h.tid }
  else s.bump blkTLK (0x0640 + 4 * p)

/-- A packet out of the receive buffer. -/
def State.packetIn (s : State) (c : Instr) (v flits : Nat) : State :=
  match c with
  | .jobPacket p a t ws => s.takeIn p a v flits fun s => s.jobIn p a t ws
  | .jobAbortPacket p a t ws => s.takeIn p a v flits fun s => s.jobIn p a t ws
  | .stepPacket p a _ ws => s.takeIn p a v flits fun s => s.stepIn p a ws
  | .mcpl p a t st d => s.takeIn p a v flits fun s => s.mcplIn p a t st d
  | .badPacketRx p bs _ _ => s.takeIn p (rxHead bs).agt v flits fun s => s.strangeIn p bs
  | c => match reqOf c with
    | some (code, .trellis p a, r) => s.takeIn p a v flits fun s => s.admitIn a (.trellis p a) code r
    | _ => s

/-- A good packet arrives on a port (R281, R289): taken at once, or kept in the receive buffer during a switchover. -/
def State.arrive (s : State) (p v flits : Nat) (c : Instr) : State :=
  if 16 ≤ p then s
  else
    let (s, ok) := s.accept p v flits
    if !ok then s
    else if s.mir.state == .switching then
      (s.setPort p fun x => { x with rx := x.rx ++ [(v, flits, c)] }).xoffCheck p v
    else s.packetIn c v flits

/-- A control flit as received: a bad one, or one whose KIND no receiver in UP takes, is dropped and counted (R283, R285). -/
def State.ctlIn (s : State) (p : Nat) (bs : List Byte) (uncorrectable : Bool) : State :=
  let h := rxHead bs
  if !s.portUp p then s
  else if uncorrectable || bs.length != 64 || !crcGood bs || h.vc != 3 || h.len != 0 then s.bump blkTLK (0x0500 + 4 * p)
  else match h.kind with
    | 1 => s.gotAck p h.seq
    | 2 => s.gotNak p h.seq
    | 3 => s.gotXoff p (num bs 8 1)
    | 4 => s.gotXon p (num bs 8 1)
    | _ => s.bump blkTLK (0x0500 + 4 * p)

/-- Flits as received (R272, R273, R281, R294, Table 9.13). A packet whose CRC, codewords or tags are bad is lost; one whose ENC or LEN
breaks the protocol breaks the link; one in sequence whose tag does not verify breaks it with cause 5; one in sequence with nothing wrong is
accepted as the command it spells; and any other is a duplicate or lost by its SEQ. -/
def State.rawIn (s : State) (p : Nat) (bs : List Byte) (ctrl uncorrectable : Bool) : State :=
  let x := s.port p
  let h := rxHead bs
  let n := bs.length / 64
  if ctrl then s.ctlIn p bs uncorrectable
  else if 16 ≤ p || !s.portUp p then s
  else if uncorrectable || !crcGood bs || h.len + 1 != n then s.garbled p
  else if h.enc != x.enc || x.maxFlits < n then s.breakLink p 6
  else if h.seq != x.e || h.rsv != 0 || h.kind != 0 || h.vc == 3 then s.discard p h.seq
  else
    let k := s.linkKeys p
    let s := if x.enc then s.setKeys p fun k => { k with rxSel := h.keysel } else s
    match if x.enc then unlock (if h.keysel = 0 then k.rx0 else k.rx1) bs else some bs with
    | none => (s.bump blkTLK (0x0500 + 4 * p)).breakLink p 5
    | some bs => s.arrive p h.vc n ((rxCommand p h bs).getD (.badPacketRx p bs false false))

/-- Packets kept during a switchover are taken at its end, port by port in order of arrival. -/
def State.takeKept (s : State) : State :=
  (List.range 16).foldl (fun s p =>
    let rx := (s.port p).rx
    if rx.isEmpty then s
    else rx.foldl (fun s r => s.packetIn r.2.2 r.1 r.2.1) ((s.setPort p fun x => { x with rx := [] }).xonCheck p)) s

/-- A directory request as it arrives by its way; one for an engine measure is decided where the measure is taken (R148), and
one of a BAR4 line where its request is cut (R325). -/
def State.requestIn (s : State) (code : ReqCode) (via : Via) (r : DirReq) (c : Instr) : State :=
  match via with
  | .trellis p _ => s.arrive p 0 code.flits c
  | .slot fn => s.slotRequest fn code r
  | .bar4 _ _ _ => s
  | .engine => s

/-! ### BAR4 -/

/-- What a BAR4 access meets first: 0 nothing, the link or the function being gone; 1 Unsupported Request; 2 the same, counted as
a TDISP refusal; 3 the same, counted as a failed access; 4 it is handled. -/
def State.barGate (s : State) (fn : Nat) (tbit : Bool) : Nat :=
  let f := s.func fn
  if !s.serving || !s.fnExists fn || (s.link f.link).state != .up then 0
  else if !s.barLive fn then 1
  else if f.tdi == .run && !tbit then 2
  else if f.agent == 0 then 3
  else 4

/-- A completion with Unsupported Request, counted by its reason. -/
def State.barRefuse (s : State) (fn gate : Nat) (cpl : Option Nat) : State :=
  if gate == 0 then s
  else
    let l := (s.func fn).link
    let s := if gate == 2 then s.bump blkPCI (0x0880 + 4 * l) else if gate == 3 then s.bump blkPCI (0x0800 + 4 * l) else s
    match cpl with
    | some id => s.hostTlp 0 1 (.cpl fn id 1 [])
    | none => s

/-- A BAR4 request entered among those not yet answered. -/
def State.openWin (s : State) (w : WinReq) : State := s.onPci fun c => { c with wins := c.wins ++ [w] }

def State.barRead (s : State) (fn off len id : Nat) (tbit : Bool) : State :=
  let g := s.barGate fn tbit
  let s := if g == 0 then s else s.hostRx fn 0 0
  if g != 4 then s.barRefuse fn g (some id)
  else if len = 0 then s.hostTlp 0 1 (.cpl fn id 0 [])
  else
    let first := off / 64
    let n := (off + len - 1) / 64 + 1 - first
    let s := s.openWin { fn := fn, id := id, off := off, len := len, total := n, at_ := s.tick }
    (List.range n).foldl (fun s k =>
      s.admitIn (s.func fn).agent (.bar4 fn id k) .load { pva := s.barPva fn ((first + k) * 64) }) s

/-- The bytes of a write that fall in line `k` of BAR4, as the line's bytes and their enables. -/
def linePiece (off k : Nat) (data : List Byte) : List Byte × Nat :=
  let ps := (data.mapIdx fun i b => (off + i, b)).filter fun x => x.1 / 64 == k
  ((List.range 64).map fun i => ((ps.find? fun x => x.1 % 64 == i).map Prod.snd).getD 0, maskOf (ps.map fun x => x.1 % 64))

/-- Number of a posted request: no request that is answered has it. -/
abbrev POSTED : Nat := 2 ^ 32

def State.barWrite (s : State) (fn off : Nat) (data : List Byte) (tbit : Bool) : State :=
  let g := s.barGate fn tbit
  let s := if g == 0 then s else s.hostRx fn 0 data.length
  if g != 4 then s.barRefuse fn g none
  else if data.isEmpty then s
  else
    let first := off / 64
    let n := (off + data.length - 1) / 64 + 1 - first
    (List.range n).foldl (fun s k =>
      let (d, m) := linePiece off (first + k) data
      s.admitIn (s.func fn).agent (.bar4 fn POSTED k) .store { pva := s.barPva fn ((first + k) * 64), mask := m, data := d }) s

/-- The ATOP of a PCI Express AtomicOp (0 FetchAdd, 1 Swap, 2 CAS) and whether it is 16 bytes wide; none for what R325 refuses. -/
def barAtop (op width : Nat) : Option (Nat × Bool) :=
  if width = 8 ∧ op < 3 then some (op, false) else if width = 16 ∧ op = 2 then some (op, true) else none

def State.barAtomic (s : State) (fn off op width id : Nat) (operands : List Byte) (tbit : Bool) : State :=
  let g := s.barGate fn tbit
  let s := if g == 0 then s else s.hostRx fn 0 operands.length
  if g != 4 then s.barRefuse fn g (some id)
  else match barAtop op width with
    | none => s.barRefuse fn 3 (some id)
    | some (a, wide) =>
      let ops := if a = 2 then padTo 16 0 (operands.take width) ++ padTo 16 0 (operands.drop width) else padTo 32 0 operands
      let s := s.openWin { fn := fn, id := id, off := off, len := width, atomic := true, total := 1, at_ := s.tick }
      s.admitIn (s.func fn).agent (.bar4 fn id 0) .atomic { pva := s.barPva fn off, atop := a, wide := wide, operands := ops }

/-- WIN_WAIT_MS as it acts, in ticks (Table 11.11). -/
def State.winWait (s : State) : Nat := msTicks (max 1 (bits s.pci.ctrl.toNat 9 0))

/-- Is this a line of the BAR4 request? -/
def ofWin (fn id : Nat) (v : Via) : Bool := match v with | .bar4 f i _ => f == fn && i == id | _ => false

/-- A BAR4 read or AtomicOp parked for longer than WIN_WAIT_MS (R326): its lines leave the pages' queues. -/
def State.winTimeout (s : State) (fn id : Nat) : State :=
  match s.pci.wins.find? fun w => w.fn == fn && w.id == id with
  | none => s
  | some w =>
    if s.tick < w.at_ + s.winWait then s
    else
      let s := (s.dropParked fun q => ofWin fn id q.via).dropDue fun q => ofWin fn id q.via
      let ok := (w.pieces.filter fun x => x.2.1 == .ok).map fun x => x.1
      let bad := w.pieces.filter fun x => x.2.1 != .ok
      let first := ((List.range w.total).find? fun k => !ok.contains k).getD 0
      let st := ((bad.find? fun x => x.1 == first).map fun x => x.2.1).getD .timeout
      let s := s.onPci fun c => { c with wins := c.wins.filter fun x => !(x.fn == fn && x.id == id) }
      let s := s.winError fn (s.barPva fn ((w.off / 64 + first) * 64)) st
      s.hostTlp 0 1 (.cpl fn id 2 [])

end Sys2Proof.Machine
end

