-- ==== Sys2Proof/Machine/Pci.lean ====
section
/-! DEFINITION. PCI: commands outstanding of a function, function-level reset (R340 to R343), PERST_N and host links (R334), IDE
(R337), TDISP (R338), FUNC_BIND (R332, R333), configuration writes, and the loss of an agent (R98). -/

namespace Sys2Proof.Machine

/-! ### Outstanding commands -/

/-- Functions and jobs apart, every command of a function that has not ended. -/
def State.outstanding (s : State) (fn : Nat) : List Issuer :=
  let rs := s.rgn.regions.flatMap (fun e =>
    e.2.createBy.toList ++ e.2.destroyBy.toList ++ (e.2.pub.map fun p => p.by_).toList) ++ s.rgn.revokes.map fun r => r.by_
  let xs := s.rgn.scrubs.filterMap fun e => match e.2.why with
    | .create => none | .destroy => none | _ => e.2.by_
  let ms := (s.xlt.digests.map fun d => d.by_) ++ (s.xlt.heldMaps.map Prod.fst) ++ s.xlt.syncs.map fun w => w.by_
  let js := s.eng.jobs.flatMap fun e => e.2.aborts ++ (if e.2.isRack then e.2.by_.toList else [])
  let us := s.opu.models.filterMap fun e => e.2.unloadBy
  let bs := (s.sec.binders.map fun b => b.2.by_) ++ (s.sec.rot.map fun r => r.by_).toList ++
    s.sec.removals.flatMap fun r => r.2.by_.toList ++ r.2.waiting
  (rs ++ xs ++ ms ++ js ++ us ++ bs).filter fun i => i.fn == fn

/-- Every waiting command's issuer changed. -/
def State.mapIssuers (s : State) (f : Issuer → Issuer) : State :=
  let s := s.onRgn fun r =>
    { r with regions := Tbl.mapKV r.regions fun _ g =>
               { g with createBy := g.createBy.map f, destroyBy := g.destroyBy.map f
                        pub := g.pub.map fun p => { p with by_ := f p.by_ } }
             scrubs := Tbl.mapKV r.scrubs fun _ x => { x with by_ := x.by_.map f }
             revokes := r.revokes.map fun w => { w with by_ := f w.by_ } }
  let s := s.onCmd fun c => { c with opens := Tbl.mapKV c.opens fun _ o => { o with by_ := f o.by_ } }
  let s := s.onXlt fun x =>
    { x with digests := x.digests.map fun d => { d with by_ := f d.by_ }
             heldMaps := x.heldMaps.map fun h => (f h.1, h.2)
             syncs := x.syncs.map fun w => { w with by_ := f w.by_ } }
  let s := s.onEng fun e =>
    { e with jobs := Tbl.mapKV e.jobs fun _ j => { j with aborts := j.aborts.map f, by_ := j.by_.map f } }
  let s := s.onOpu fun o => { o with models := Tbl.mapKV o.models fun _ m => { m with unloadBy := m.unloadBy.map f } }
  s.onSec fun c =>
    { c with binders := Tbl.mapKV c.binders fun _ b => { b with by_ := f b.by_ }
             rot := c.rot.map fun r => { r with by_ := f r.by_ }
             removals := Tbl.mapKV c.removals fun _ r => { r with by_ := r.by_.map f, waiting := r.waiting.map f } }

/-- Number of no function: a record for it goes nowhere. -/
abbrev NOFN : Nat := 65536

/-- The waiting commands of a function have no one to answer any more. -/
def State.disown (s : State) (fn : Nat) : State := s.mapIssuers fun i => if i.fn == fn then { i with fn := NOFN } else i

/-! ### Grants and records of an agent cleared (R98, Table 11.9) -/

/-- Every grant of the agent ended without a message, its write-backs stopped, its waiting requests removed, and its records
discarded. -/
def State.clearAgent (s : State) (agent : Nat) : State :=
  let s := (s.dropParked (ofAgent agent)).dropDue (ofAgent agent)
  let s := s.stopData (fun q _ => q.agent == agent) none
  let s := (s.grantsOf agent).foldl (fun s i => s.endGrant i agent none .linkLost) s
  let s := (s.wbsOf (ofAgent agent)).foldl (fun s i => (s.setEntry i fun e => { e with nextWb := none }).breakWb i .linkLost) s
  let s := s.setAgent agent fun a => { a with recs := [] }
  (s.onEng fun e => { e with recs := Tbl.del e.recs agent }).change

/-- The AGENT_LOST event's functions: the provider's and every one of the agent's tenant (R98). -/
def State.lossFns (s : State) (agent : Nat) : List Nat :=
  s.providers ++ (s.fnsOfTenant (s.tenantOf agent)).filter fun fn => !s.isProvider fn

/-- An agent's link has been down for AGENT_LOSS_MS (R98): it is LOST. -/
def State.agentLoss (s : State) (agent : Nat) : State :=
  let a := s.agentSt agent
  if !a.known || a.up || a.lost || a.flr || s.cellar || s.glb.change != .none || s.tick < a.downAt + msTicks a.lossMs then s
  else
    let s := s.stopJobs (fun j => j.agent == agent && !j.isRack) .linkLost 0 true
    let s := s.clearAgent agent
    let s := s.setAgent agent fun a => { a with lost := true }
    let s := s.setMeter agent Meter.empty
    let s := (s.xlt.faults.filter fun f => f.2.agent == agent).foldl (fun s f => s.failRecord f.1 .linkLost) s
    s.event (s.lossFns agent) evAGENT_LOST (leBytes 1 agent ++ leBytes 1 (s.tenantOf agent))

/-- A lost agent's link comes up again (R99). -/
def State.lostReturn (s : State) (agent : Nat) : State :=
  if (s.agentSt agent).lost && s.linkUpNow agent then s.agentUp agent else s

/-! ### Function-level reset -/

/-- Packets of a function that wait for egress are lost with it; completions of its BAR requests apart. -/
def State.dropTlps (s : State) (p : HostTlp → Bool) : State :=
  s.onSch fun c => { c with ports := Tbl.mapKV c.ports fun _ q =>
    { q with queue := q.queue.filter fun k => match k.body with | .tlp t => !p t | _ => true } }

def HostTlp.isCpl (t : HostTlp) : Bool := match t with | .cpl _ _ _ _ => true | _ => false

/-- BAR4 requests of a function that are not yet answered are forgotten. -/
def State.dropWins (s : State) (p : Nat → Bool) : State :=
  let mine := fun (q : PReq) => match q.via with | .bar4 fn _ _ => p fn | _ => false
  ((s.dropParked mine).dropDue mine).onPci fun c =>
    { c with wins := c.wins.filter fun w => !p w.fn }

/-- Step 1 of Table 11.9, at acceptance; the boundary that closes the tick brings the rest. -/
def State.flrStart (s : State) (fn : Nat) : State :=
  let s := s.setFn fn fun f =>
    { f with bme := false, d3 := false, msixEn := false, msixMask := 2 ^ 64 - 1, msixPend := 0, tdi := .unlocked
             reset := some (s.tick + 3), mps := 0 }
  let s := s.dropTlps fun t => t.fn == fn && !t.isCpl
  let s := s.dropWins fun g => g == fn
  (s.stopData (fun q _ => q.via == .slot fn) none).later (.flr fn)

/-- Steps 2 to 6 of Table 11.9 for one function. Where its link has left UP as well, R97 and R98 apply to an agent of its own. -/
def State.flrApply (s : State) (fn : Nat) : State :=
  let f := s.func fn
  let s := if f.agent == 0 then s
    else
      let s := s.setMeter f.agent Meter.empty
      if s.fnsOf f.agent == [fn] then
        let up := (s.link f.link).state == .up
        let s := (s.agentDown f.agent up (if up then .timeout else .linkLost)).clearAgent f.agent
        s.setAgent f.agent fun a => { a with flr := up, known := true }
      else s.agentLink f.agent
  let s := s.stopJobs (fun j => !j.isRack && (match j.by_ with | some i => i.fn == fn | none => false)) .timeout 2
  let s := s.setIntake fn fun i => { i with fill := [], drain := [], part := none, flush := false }
  (s.xlt.faults.filter fun x => Tbl.find s.xlt.owner x.2.agent == some fn).foldl (fun s x => s.failRecord x.1 .unmapped) s

/-- Functions that a reset of `fn` reaches (R340): the function, and the VFs of a PF that exist. -/
def State.flrSet (s : State) (fn : Nat) : List Nat :=
  let f := s.func fn
  if f.vf != 0 then [fn]
  else fn :: (s.pci.funcs.filter fun e => e.2.link == f.link && e.2.vf != 0 && s.fnExists e.1).map Prod.fst

/-- A function-level reset (R340, R341). -/
def State.flr (s : State) (fn : Nat) : State :=
  if !s.fnExists fn || (s.func fn).reset.isSome then s
  else
    let s := (s.flrSet fn).foldl (fun s g => s.flrStart g) s
    if (s.func fn).vf == 0 then s.setFn fn fun f => { f with vfEnable := false, numVfs := 0 } else s

/-- Step 8 of Table 11.9: outstanding commands complete with TIMEOUT in the records, and the function's registers return to
their reset values. -/
def State.flrEnd (s : State) (fn : Nat) : State :=
  match (s.func fn).reset with
  | none => s
  | some t =>
    if s.tick < t then s
    else
      let more := (s.mir.held.filterMap fun h => match h.2 with | .record g c => if g == fn then some c else none | _ => none) ++
        (s.outstanding fn).map fun i => { status := .timeout, tag := i.tag }
      let s := s.onMir fun m => { m with held := m.held.filter fun h => match h.2 with | .record g _ => g != fn | _ => true }
      let s := s.disown fn
      let s := s.setIntake fn fun i => { kept := i.kept ++ more }
      let s := s.setFn fn fun f =>
        { f with reset := none, winBase := 0, winNext := none, ring := { ctrl := 6 }, ringBuf := [], winErr := false, winPva := 0
                 winStatus := 0, slots := [], viewAddr := 0, viewDenied := false }
      s.bump blkPCI (0x0A00 + 4 * (s.func fn).link)

/-- Resets that end at this boundary. -/
def State.flrTick (s : State) : State :=
  (s.pci.funcs.filter fun e => e.2.reset.isSome).foldl (fun s e => s.flrEnd e.1) s

/-! ### Host links (R334, R495) -/

def State.setLink (s : State) (l : Nat) (f : PLink → PLink) : State :=
  s.onPci fun p => { p with links := Tbl.upd p.links l f }

/-- A host link leaves UP: what its functions had in flight is lost, and agents' links follow (R334). -/
def State.linkDown (s : State) (l : Nat) : State :=
  if (s.link l).state == .absent then s
  else
    let s := s.setLink l fun k => { k with state := .down, rate := 0, width := 0 }
    let s := s.dropTlps fun t => (s.func t.fn).link == l && (s.func? t.fn).isSome
    let s := (s.dropWins fun fn => (s.func fn).link == l).agentLinks
    -- a reset alone no longer keeps these down, so the time of R98 runs
    (s.pci.funcs.filter fun e => e.2.link == l && e.2.agent != 0).foldl (fun s e =>
      if (s.agentSt e.2.agent).flr then s.setAgent e.2.agent fun a => { a with flr := false, downAt := s.tick } else s) s

/-- A host link leaves UP by itself (HOST_LINK_DOWN): PCI cause 0. -/
def State.hostDown (s : State) (l : Nat) : State :=
  if (s.link l).state == .up || (s.link l).state == .recovery then
    (s.linkDown l).raise blkPCI (hubOfHostPort (portOfLink l)) 0 l
  else s

/-- Is the link the watch link (R449, R499)? -/
def State.isWatch (s : State) (l : Nat) : Bool := l == (if s.mir.primary == 0 then 0 else 16)

/-- May a host link train now: REFCLK runs, its port is not held in reset, its hub stands, and in FAILED or G-CELLAR it is the
watch link? -/
def State.mayTrain (s : State) (l : Nat) : Bool :=
  let k := s.link l
  (k.state == .down || k.state == .training || k.state == .recovery) && s.glb.boot == 7 && s.glb.refclk &&
    !s.pins.perst.contains (portOfLink l) && !s.mir.hubsLost.contains (hubOfHostPort (portOfLink l)) &&
    (!(s.failedPart || s.cellar) || s.isWatch l)

/-- A host link completes training (HOST_LINK_UP). A partner that offers no Flit Mode leaves it in DOWN with cause 1 (R318). The watch
link of G-CELLAR runs at 2.5 GT/s x1 (R500). -/
def State.hostUp (s : State) (l rate width : Nat) (flit : Bool) : State :=
  if !s.mayTrain l then s
  else if !flit then s.setLink l fun k => { k with state := .down, rate := 0, width := 0, cause := 1 }
  else (s.setLink l fun k =>
    { k with state := .up, rate := if s.cellar then 0 else rate % 8, width := if s.cellar then 1 else width % 32, cause := 0 }).agentLinks

/-- PERST_N of a port low (R334, R495). -/
def State.perstLow (s : State) (n : Nat) : State :=
  if 8 ≤ n || s.pins.perst.contains n then s
  else
    let s := s.onPins fun p => { p with perst := insertBy id n p.perst }
    let ls := (List.range 4).map fun k => 4 * n + k
    let s := ls.foldl (fun s l => s.linkDown l) s
    let pfs := (s.pci.funcs.filter fun e => e.2.vf == 0 && ls.contains e.2.link).map Prod.fst
    pfs.foldl (fun s fn => s.flr fn) s

/-- PERST_N of a port released: its links retrain (R495). -/
def State.perstHigh (s : State) (n : Nat) : State :=
  if !s.pins.perst.contains n then s
  else
    let s := s.onPins fun p => { p with perst := p.perst.filter fun m => m != n }
    ((List.range 4).map fun k => 4 * n + k).foldl (fun s l =>
      if s.mayTrain l then s.setLink l fun k => { k with state := .training } else s) s

/-! ### IDE and TDISP (R337, R338) -/

/-- A TDI that is CONFIG_LOCKED or in RUN enters ERROR (Table 11.8). -/
def State.tdiError (s : State) (fn : Nat) : State :=
  match (s.func fn).tdi with
  | .locked => (s.setFn fn fun f => { f with tdi := .error }).agentLink (s.func fn).agent
  | .run => (s.setFn fn fun f => { f with tdi := .error }).agentLink (s.func fn).agent
  | _ => s

def State.ideFail (s : State) (l stream : Nat) : State :=
  match Tbl.find (s.link l).ide stream with
  | none => s
  | some x =>
    if !x.keyed || !x.secure then s
    else
      let s := s.setLink l fun k => { k with ide := Tbl.upd k.ide stream fun y => { y with secure := false } }
      let s := s.raise blkPCI (hubOfHostPort (portOfLink l)) 1 l
      match x.fn with
      | some fn => s.tdiError fn
      | none => s

/-- IDE_KM programs and starts a stream: 0 is the link stream, 1 to 8 are selective ones. -/
def State.ideKey (s : State) (l stream fn : Nat) : State :=
  if (s.link l).state == .absent || 8 < stream then s
  else if stream != 0 && !(s.fnExists fn && (s.func fn).link == l) then s
  else s.setLink l fun k =>
    { k with ide := Tbl.put k.ide stream { fn := if stream = 0 then none else some fn, keyed := true, secure := true } }

/-- Does the function have a keyed selective stream that is secure? -/
def State.keyedStream (s : State) (fn : Nat) : Bool :=
  (s.link (s.func fn).link).ide.any fun e => e.1 != 0 && e.2.fn == some fn && e.2.keyed && e.2.secure

def State.lockTdi (s : State) (fn : Nat) : State :=
  let f := s.func fn
  if s.fnExists fn && f.tdi == .unlocked && f.reset.isNone && f.agent != 0 && f.tenant != 0 && s.keyedStream fn then
    s.setFn fn fun f => { f with tdi := .locked }
  else s

def State.startTdi (s : State) (fn : Nat) : State :=
  if s.fnExists fn && (s.func fn).tdi == .locked then s.setFn fn fun f => { f with tdi := .run } else s

def State.stopTdi (s : State) (fn : Nat) : State :=
  if s.fnExists fn then (s.setFn fn fun f => { f with tdi := .unlocked }).agentLink (s.func fn).agent else s

/-! ### FUNC_BIND (R332, R333) -/

/-- Has the function live jobs, commands or steps? -/
def State.fnBusy (s : State) (fn : Nat) : Bool :=
  (s.eng.jobs.any fun e => match e.2.by_ with | some i => i.fn == fn | none => false) || !(s.outstanding fn).isEmpty

/-- A function bound to an agent and a tenant (R333). -/
def State.bind (s : State) (fn agent tenant : Nat) : State :=
  let old := (s.func fn).agent
  let s := s.setFn fn fun f => { f with agent := agent, tenant := tenant }
  let s := if old = 0 || old = agent then s
    else
      let s := s.deriveOwner old
      if (s.fnsOf old).isEmpty then s.putRoute old 0 31 else s.agentLink old
  let s := if agent = 0 then s else (s.deriveOwner agent).putRoute agent (2 ^ s.fnPort fn) 31
  s.change

def State.doFuncBind (s : State) (i : Issuer) (p : Packet) : State :=
  let fn := p.fld 2 7 0
  let a := p.fld 3 6 0
  let t := p.fld 3 21 16
  let f := s.func fn
  let others := (s.fnsOf a).filter fun g => g != fn
  let clash := a != 0 && ((!s.hostAgent a && (s.route a).ports % 65536 != 0) ||
    others.any fun g => s.fnPort g != s.fnPort fn || (s.func g).tenant != t)
  if !s.provider i then s.denied i
  else if !s.fnExists fn then s.malformed i 2
  else if s.isProvider fn && t != 0 then s.malformed i 3
  else if clash then s.malformed i 3
  else if f.tdi != .unlocked then s.busy i 1
  else if t != f.tenant && s.fnBusy fn then s.busy i 2
  else (s.bind fn a t).answer i .ok

/-! ### Configuration writes (R334) -/

/-- A configuration write by kind: 0 Bus Master Enable, 1 VF Enable, 2 NumVFs, 3 power state (0 D0, 3 D3hot), 4 MSI-X Enable, 5
Max_Payload_Size. SR-IOV and MSI-X configuration is locked with the TDI (Table 11.8). -/
def State.configWrite (s : State) (fn kind v : Nat) : State :=
  let f := s.func fn
  if !s.fnExists fn || f.reset.isSome || (s.link f.link).state != .up then s
  else if (kind == 1 || kind == 2 || kind == 4) && (f.tdi == .locked || f.tdi == .run) then s.tdiError fn
  else match kind with
    | 0 => (s.setFn fn fun f => { f with bme := v % 2 == 1 }).agentLink f.agent
    | 1 => if f.vf != 0 then s else (s.setFn fn fun f => { f with vfEnable := v % 2 == 1 }).agentLinks
    | 2 => if f.vf != 0 || f.vfEnable || f.totalVfs < v then s else s.setFn fn fun f => { f with numVfs := v }
    | 3 => if v == 0 then s.setFn fn fun f => { f with d3 := false } else if v == 3 then s.setFn fn fun f => { f with d3 := true } else s
    | 4 => s.setFn fn fun f => { f with msixEn := v % 2 == 1 }
    | 5 => if v < 3 then s.setFn fn fun f => { f with mps := v } else s
    | _ => s

end Sys2Proof.Machine
end

