-- ==== Sys2Proof/Machine/Sec.lean ====
section
/-! DEFINITION. SEC: bindings of weights (R416 to R419), tenants (R405, R412 to R414), key rotation (R410, R411), SPDM (R402 to
R404) and link keys (R415). Also the completions of the part's host reads (R329). -/

namespace Sys2Proof.Machine

/-! ### BIND_WEIGHTS -/

/-- Bundle bytes received so far, in order; none while some are missing. -/
def Binder.bytes (b : Binder) : Option (List Byte) :=
  let d := b.got.flatMap Prod.snd
  if d.length = b.len ∧ (b.got.foldl (fun (acc : Nat × Bool) e => (e.1 + e.2.length, acc.2 && e.1 == acc.1)) (0, true)).2 then some d
  else none

/-- Bytes `a` to `a + n - 1` of a list. -/
def slice (d : List Byte) (a n : Nat) : List Byte := (d.drop a).take n

/-- May a bundle of this length and address be read (Table 14.10, order 4)? -/
def Binder.readable (b : Binder) : Bool := b.buf % 64 == 0 && 17600 ≤ b.len && b.len ≤ 24800

/-- Orders 4 to 9 of Table 14.10 on the bundle's bytes: the content key and the recipe digests, or the refusal. -/
def State.bundleCheck (s : State) (b : Binder) : (List Byte × List (List Byte)) ⊕ (Status × Nat) :=
  let d := (b.bytes).getD []
  let n := ((d.getD 6 0).toNat); let m := ((d.getD 7 0).toNat)
  let sigR := 512 + 432 * n + 48 * m
  let zeros := (slice d 8 56 ++ slice d 452 12).all fun x => x == 0
  let idx := (List.range n).find? fun i => slice d (512 + 432 * i) 48 == Config.ident
  let wrap := slice d (560 + 432 * (idx.getD 0)) 384
  let dig := sha384 (d.take sigR)
  if !b.readable || d.length != 17120 + 432 * n + 48 * m || d.take 4 != [0x42, 0x4E, 0x44, 0x31] || leNat (slice d 4 2) != 1 ||
      n == 0 || 16 < n || m == 0 || 16 < m || !zeros then .inr (.malformed, 3)
  else if s.sec.debug then .inr (.deniedRights, 1)
  else if idx.isNone then .inr (.deniedRights, 2)
  else match Config.unwrap wrap with
    | none => .inr (.deniedRights, 3)
    | some p =>
      if p.length != 80 || p.drop 32 != sha384 (slice d 64 448) then .inr (.deniedRights, 3)
      else if !(Config.rsaVerify (slice d 64 384) (slice d 448 4) dig (slice d sigR 384) &&
          Config.slhVerify (slice d 464 48) dig (slice d (sigR + 384) 16224)) then .inr (.deniedRights, 4)
      else .inl (p.take 32, (List.range m).map fun j => slice d (512 + 432 * n + 48 * j) 48)

/-- Is a job that writes the region live: one that has a running, queued or waiting measure or a page that writes there? -/
def State.writerLive (s : State) (rid : Nat) : Bool :=
  s.eng.jobs.any fun e =>
    let a := e.2.agent
    (e.2.tiles.any fun t => t.pages.any fun p => p.leaf.region == rid && p.leaf.w) && (Tbl.getD (s.region rid).acl a {}).w ||
    (e.2.isRack && e.2.fld 2 11 0 == rid)

/-- Orders 1 to 3 of Table 14.10. -/
def State.bindState (s : State) (rid : Nat) : Option (Status × Nat) :=
  let g := s.region rid
  if g.state != .active || g.versioned then some (.malformed, 1)
  else if s.bound rid then some (.busy, 1)
  else if (g.acl.any fun a => a.2.w || a.2.a) || s.anyHeld rid || s.writerLive rid then some (.busy, 2)
  else none

/-- The end of a BIND_WEIGHTS: its checks in order, and the binding (R418). -/
def State.bindEnd (s : State) (rid : Nat) (b : Binder) : State :=
  let s := s.onSec fun c => { c with binders := Tbl.del c.binders rid, binding := c.binding.filter fun r => r != rid }
  match s.bindState rid with
  | some (st, d) => s.answer b.by_ st d
  | none =>
    match s.bundleCheck b with
    | .inr (st, d) => (s.bump blkSEC 0x0504).answer b.by_ st d
    | .inl (key, recs) =>
      match (List.range 64).find? fun n => (Tbl.find s.sec.bindings n).isNone with
      | none => (s.bump blkSEC 0x0504).answer b.by_ .quota 11
      | some n =>
        let x : Binding := { region := rid, key := key, recipes := recs, digest := sha384 ((b.bytes).getD []) }
        let s := (s.onSec fun c => { c with bindings := Tbl.put c.bindings n x }).change
        let s := (s.regionIdxs rid).foldl (fun s i =>
          let e := s.entry i
          let who := e.sharers ++ (if e.holder != 0 then [e.holder] else [])
          who.foldl (fun s a => s.endGrant i a (some .accessRevoked) .accessRevoked) s) s
        s.answerR16 b.by_ .ok 0 n

/-- Host reads of a bundle, 4096 B each. -/
def State.bundleAsk (s : State) (rid : Nat) (b : Binder) : State :=
  (List.range (ceilDiv b.len 4096)).foldl (fun s k =>
    let n := min 4096 (b.len - 4096 * k)
    let tag := s.pci.nextTag
    let s := s.onPci fun p =>
      { p with reads := p.reads ++ [{ tag := tag, fn := b.by_.fn, why := .bundle rid (4096 * k), len := n, at_ := s.tick }]
               nextTag := tag + 1 }
    s.hostTlp 3 0 (.read b.by_.fn ((b.buf + 4096 * k) % 2 ^ 64) n tag)) s

def State.doBindWeights (s : State) (i : Issuer) (p : Packet) : State :=
  let rid := p.fld 2 11 0
  if !s.mayRegion i (s.region rid).owner then s.denied i
  else if (Tbl.find s.sec.binders rid).isSome then s.busy i 1
  else
    let b : Binder := { by_ := i, buf := p.dw 4 + 2 ^ 32 * p.dw 5, len := p.fld 3 15 0 }
    let s := s.answerR16 i .accepted
    let s := s.onSec fun c => { c with binders := Tbl.put c.binders rid b, binding := insertBy id rid c.binding }
    if b.readable then s.bundleAsk rid b else s.bindEnd rid b

/-- A BIND_WEIGHTS whose bundle cannot be read ends. -/
def State.bindFail (s : State) (rid : Nat) (st : Status) (d : Nat) : State :=
  match Tbl.find s.sec.binders rid with
  | none => s
  | some b =>
    (s.onSec fun c => { c with binders := Tbl.del c.binders rid, binding := c.binding.filter fun r => r != rid }).answer b.by_ st d

/-! ### Completions of host reads (R329) -/

/-- What a read was for ends with a status. -/
def State.readFail (s : State) (r : HostRead) (st : Status) (d : Nat) : State :=
  match r.why with
  | .page i _ => s.breakWb i st d
  | .bundle rid _ =>
    let s := s.onPci fun p => { p with reads := p.reads.filter fun x => match x.why with | .bundle q _ => q != rid | _ => true }
    s.bindFail rid st d

/-- Data of a read given to what it was for. -/
def State.readData (s : State) (r : HostRead) (data : List Byte) : State :=
  match r.why with
  | .page i off => s.wbData i off data
  | .bundle rid off =>
    let s := s.onSec fun c => { c with binders := Tbl.upd c.binders rid fun b => { b with got := Tbl.put b.got off data } }
    match Tbl.find s.sec.binders rid with
    | some b => if b.bytes.isSome then s.bindEnd rid b else s
    | none => s

/-- The rest of a read after `n` bytes of it. -/
def HostRead.rest (r : HostRead) (n : Nat) : HostRead :=
  { r with len := r.len - n, why := match r.why with | .page i o => .page i (o + n) | .bundle g o => .bundle g (o + n) }

/-- A completion arrives for a read (READ_COMPLETION): status 0 with data, 1 Unsupported Request, 2 Completer Abort, 3 poisoned. -/
def State.readCompletion (s : State) (tag status : Nat) (data : List Byte) : State :=
  match s.pci.reads.find? fun r => r.tag == tag with
  | none => s
  | some r =>
    let l := (s.func r.fn).link
    let s := s.hostRx r.fn (match r.why with | .bundle _ _ => 1 | _ => 2) data.length
    if status != 0 then
      let s := s.onPci fun p => { p with reads := p.reads.filter fun x => x.tag != tag }
      let s := if status == 3 then s.raise blkPCI (hubOfHostPort (portOfLink l)) 3 l else s
      s.readFail r .internal 0x000101
    else
      let d := data.take r.len
      let s := s.onPci fun p =>
        { p with reads := if d.length = r.len then p.reads.filter fun x => x.tag != tag
                          else p.reads.map fun x => if x.tag == tag then r.rest d.length else x }
      if d.isEmpty then s else s.readData r d

/-- CTO_MS as it acts, in ticks (Table 11.11). -/
def State.ctoTicks (s : State) : Nat := msTicks (max 1 (bits s.pci.ctrl.toNat 25 16))

/-- A read not completed within CTO_MS (R329). -/
def State.readTimeout (s : State) (tag : Nat) : State :=
  match s.pci.reads.find? fun r => r.tag == tag with
  | none => s
  | some r =>
    if s.tick < r.at_ + s.ctoTicks then s
    else
      let l := (s.func r.fn).link
      let s := s.onPci fun p => { p with reads := p.reads.filter fun x => x.tag != tag }
      let s := (s.bump blkPCI (0x0900 + 4 * l)).raise blkPCI (hubOfHostPort (portOfLink l)) 2 l
      s.readFail r .timeout 0

/-! ### TENANT_CREATE (R405) -/

def State.setTenant (s : State) (t : Nat) (f : Tenant → Tenant) : State :=
  s.onSec fun c => { c with tenants := Tbl.modD c.tenants t {} f }

/-- An agent's device translation tables emptied, with everything cached of them, and its table owner cleared. -/
def State.emptyTables (s : State) (a : Nat) : State :=
  let s := s.onXlt fun x =>
    { x with l0 := x.l0.filter fun e => e.1 / 2 ^ 31 != a, l1 := x.l1.filter fun e => e.1 / 2 ^ 22 != a
             hubs := Tbl.mapKV x.hubs fun _ h =>
               { h with sets := Tbl.mapKV h.sets fun _ l => l.filter fun c => c.agent != a
                        ptrs := h.ptrs.filter fun p => p.1 != a
                        streams := h.streams.filter fun t => t.agent != a
                        walks := h.walks.filter fun w => w.1 != a } }.freed
  (s.setOwner a none).change

/-- Is an agent free to change tenant (Table 14.5, order 6)? -/
def State.agentFree (s : State) (a : Nat) : Bool :=
  !(s.rgn.regions.any fun r => (Tbl.find r.2.acl a).isSome) && (s.grantsOf a).isEmpty && s.liveJobs a == 0

def State.doTenantCreate (s : State) (i : Issuer) (p : Packet) : State :=
  let t := p.fld 2 5 0
  let up := bit p.flags 0
  let x := s.tenant t
  let as_ := maskBits 128 (mask128 p 5)
  if !s.provider i then s.denied i
  else if t == 0 then s.malformed i 2
  else if !up && x.state != .empty then s.busy i 1
  else if up && !(x.state == .active || x.state == .rotating) then s.malformed i 2
  else if as_.any fun a => a == 0 || s.hostAgent a then s.malformed i 5
  else if as_.any fun a => s.tenantOf a != 0 && s.tenantOf a != t then s.busy i 2
  else if as_.any fun a => s.tenantOf a == 0 && !s.agentFree a then s.busy i 3
  else
    let q := p.fld 3 19 0
    let s := if up then s.setTenant t fun x => { x with quota := q }
      else
        let (k, s) := s.drawKey
        s.setTenant t fun x => { state := .active, gen := (x.gen + 1) % 256, genAt := s.tick, quota := q, key := k }
    let s := (as_.filter fun a => s.tenantOf a != t).foldl (fun s a =>
      (s.onSec fun c => { c with agentTenant := Tbl.put c.agentTenant a t }).emptyTables a) s
    s.change.answer i .ok

/-! ### KEY_ROTATE (R410, R411) -/

/-- Memory that a tenant's regions own on a stack, as (offset, length), rising. -/
def State.tenantRanges (s : State) (t k : Nat) : List (Nat × Nat) :=
  sortBy Prod.fst (s.rgn.regions.flatMap fun e =>
    if e.2.owner != t then []
    else ((e.2.bins.filter fun b => !b.gone && stackOf b.pa == k).map fun b => (offOf b.pa, MIB2 * b.units)) ++
      ((s.rgn.ovf.filter fun o => o.2 == e.1 + 1 && o.1 % 16 == k).map fun o => (offOf (ovfPa o.1), MIB2)))

/-- The next range of at most 128 KiB at or above `a`. -/
def nextRange (a : Nat) (rs : List (Nat × Nat)) : Option (Nat × Nat) :=
  (rs.find? fun r => a < r.1 + r.2).map fun r => let b := max a r.1; (b, min MEASURE (r.1 + r.2 - b))

/-- Starts of the sweep ranges of a stack that are not done: held back, queued or running. -/
def State.sweepOut (s : State) (t k : Nat) : List Nat :=
  let q := s.eng.units.flatMap fun u =>
    (u.2.queue.filter fun m => m.work == .sweep t && m.stack == k).map (fun m => m.pos) ++
    (match u.2.running with | some r => if r.m.work == .sweep t && r.m.stack == k then [r.m.pos] else [] | none => [])
  let a := match s.act? (.sweep t) with
    | some a => (a.segs.filter fun g => stackOf g.pos == k).map fun g => g.pos
    | none => []
  (q ++ a).map offOf

/-- The next range of every stack whose sweep has fewer than 16 measures out, given to the sweep. -/
def State.sweepRound (s : State) : State :=
  (List.range 16).foldl (fun s k =>
    let r := (s.sec.rot).getD {}
    let a := Tbl.getD r.cut k 0
    let n := if s.stackFailed k || 16 ≤ (s.sweepOut r.tenant k).length then none else nextRange a (s.tenantRanges r.tenant k)
    match n with
    | none => s
    | some (b, len) =>
      let pa := SLOT * k + b
      let s := s.onSec fun c => { c with rot := c.rot.map fun r => { r with cut := Tbl.put r.cut k (b + len) } }
      s.setAct (.sweep r.tenant) fun x =>
        { x with segs := x.segs ++ [{ kind := .reencrypt, src := [(.raw, pa)], dst := [(.raw, pa)], len := len, pos := pa }] }) s

/-- The sweep goes on (R411): every served stack has up to one measure for each of its home engines. -/
def State.sweepFeed (s : State) : Nat → State
  | 0 => s
  | fuel + 1 =>
    match s.sec.rot with
    | none => s
    | some r =>
      let s := s.sweepRound
      if s.sec.rot == some r then s else s.sweepFeed fuel

/-- The frontiers of the running rotation as the registers give them (R411). -/
def State.front (s : State) (k : Nat) : Nat :=
  match s.sec.rot with
  | none => 0
  | some r => (argMin id (s.sweepOut r.tenant k)).getD (Tbl.getD r.cut k 0)

/-! ### The lines as the stacks hold them (R407, R411) -/

/-- The region that a physical address belongs to, by its bin or by the overflow page in use there. -/
def State.regionOf (s : State) (pa : Nat) : Option Nat :=
  match paIdx pa with
  | some i => if OVF0 ≤ i then (Tbl.find s.rgn.ovf (i - OVF0)).map fun r => r - 1
    else (s.rgn.regions.find? fun e => (e.2.binAt pa).isSome).map Prod.fst
  | none => none

/-- The key that MEC holds for the line at a physical address: that of the owner's slot, the old one at and above the frontier of a
rotation; INT in the reserved area; and slot 0's for memory of no region, which scrubs have last written (R407, R411, R413). -/
def State.lineKey (s : State) (pa : Nat) : XtsKey :=
  match s.regionOf pa with
  | some r =>
    let o := (s.region r).owner
    let t := s.tenant o
    if t.state == .rotating && s.front (stackOf pa) ≤ offOf pa then t.old else t.key
  | none => if 0x17C0000000 ≤ offOf pa then s.sec.int else (s.tenant 0).key

/-- The 64 bytes that the stack holds for the line at a physical address: the line's bytes under its key, with PA[40:6] as the tweak (R407).
`State.mem` keeps the bytes in the clear, as every read gets them: MEC ciphers and deciphers under one key. -/
def State.dramLine (s : State) (pa : Nat) : List Byte :=
  let k := s.lineKey pa
  xtsUnit false k.data k.tweak (pa / 64) (Memory.read s.mem (pa / 64 * 64) 64)

def State.doKeyRotate (s : State) (i : Issuer) (p : Packet) : State :=
  let t := p.fld 2 5 0
  let x := s.tenant t
  if !s.provider i && (s.func i.fn).tenant != t then s.denied i
  else if !s.tenantExists t then s.malformed i 2
  else if x.state != .active then s.busy i 1
  else if s.sec.rot.isSome then s.busy i 2
  else
    let (k, s) := s.drawKey
    let s := s.setTenant t fun x => { x with state := .rotating, gen := (x.gen + 1) % 256, genAt := s.tick, key := k, old := x.key }
    let s := s.onSec fun c => { c with rot := some { tenant := t, by_ := i } }
    let s := s.addAct { work := .sweep t, cls := .mgmt }
    (s.sweepFeed 20).answerR16 i .accepted

/-- Has the sweep of the running rotation covered every served stack? -/
def State.sweepOver (s : State) (r : Rotation) : Bool :=
  (List.range 16).all fun k =>
    s.stackFailed k || ((s.sweepOut r.tenant k).isEmpty && (nextRange (Tbl.getD r.cut k 0) (s.tenantRanges r.tenant k)).isNone)

/-- The sweep is complete (Table 14.7): ACTIVE, OK, and the KEY_ROTATED event. -/
def State.sweepDone (s : State) (t : Nat) : State :=
  match s.sec.rot with
  | none => s
  | some r =>
    if r.tenant != t || !s.sweepOver r then s
    else
      let s := s.dropAct (.sweep t)
      let s := s.onSec fun c => { c with rot := none, oldKey := Tbl.put c.oldKey t s.tick }
      let s := (s.setTenant t fun x => { x with state := .active }).answerR16 r.by_ .ok
      let fns := s.providers ++ (s.fnsOfTenant t).filter fun fn => !s.isProvider fn
      s.event fns 0x0032 (leBytes 1 t ++ leBytes 1 (s.tenant t).gen)

/-- Four ticks after a sweep the old key is overwritten (Table 14.7). -/
def State.oldKeyGone (s : State) (t : Nat) : State :=
  match Tbl.find s.sec.oldKey t with
  | some a => if s.tick < a + 4 then s else (s.setTenant t fun x => { x with old := {} }).onSec fun c => { c with oldKey := Tbl.del c.oldKey t }
  | none => s

/-! ### TENANT_REMOVE (R412 to R414) -/

/-- Regions of a tenant. -/
def State.regionsOf (s : State) (t : Nat) : List Nat :=
  (s.rgn.regions.filter fun e => e.2.owner == t && e.2.state != .free).map Prod.fst

/-- Agents of a tenant. -/
def State.agentsOf (s : State) (t : Nat) : List Nat := ((List.range 128).drop 1).filter fun a => s.tenantOf a == t && t != 0

/-- Step 2 of Table 14.8 for one page: SCRUB_PENDING, all grants ended, GEN + 1, parked requests refused (Table 3.7). -/
def State.scrubPend (s : State) (i : Nat) : State :=
  let e := s.entry i
  let who := e.sharers ++ (if e.holder != 0 then [e.holder] else [])
  let gen := e.gen
  let s := s.refuseParked i (fun _ => true) .accessRevoked
  let s := if e.wb.isSome then s.stopWb i .keyRetired else s
  let s := match e.nextWb with
    | some w => s.refuse w.q .keyRetired
    | none => s
  let s := s.dropAct (.cow i)
  let s := who.foldl (fun s a => s.grantEnded i a gen .keyRetired) s
  (s.setEntry i fun e => { e.genUp with
    state := .scrubPending, holder := 0, sharers := [], pending := [], prior := false, met := false, deadline := none
    cow := none, nextWb := none, parked := [] }).change

/-- One region of a removed tenant (Table 2.6): DESTROYING with no drain, its scrubs and publication stopped; answers the
commands of provider functions that had not ended. -/
def State.cutRegion (s : State) (rid : Nat) : State :=
  let g := s.region rid
  let s := s.stopRack rid .accessRevoked 0 true
  let s := match g.pub with
    | some p => (s.setRegion rid fun g => { g with pub := none }).closeCmd p.openId
    | none => s
  let s := s.stopData (fun q _ => q.region == rid) (some .accessRevoked)
  let s := (s.regionIdxs rid).foldl (fun s i => s.scrubPend i) s
  let s := (s.scrubsOf rid fun _ => true).foldl (fun s x => s.dropScrub x.1) s
  let s := s.onSec fun c => { c with binders := Tbl.del c.binders rid, binding := c.binding.filter fun r => r != rid }
  (s.setRegion rid fun g => { g with state := .destroying, removing := true, createBy := none, destroyBy := none }).change

/-- Commands on a region that have not ended. -/
def State.regionCmds (s : State) (rid : Nat) : List Issuer :=
  let g := s.region rid
  g.createBy.toList ++ g.destroyBy.toList ++ (g.pub.map fun p => p.by_).toList ++
  (s.rgn.scrubs.filterMap fun e => if e.2.region == rid && e.2.why == .add then e.2.by_ else none) ++
  ((Tbl.find s.sec.binders rid).map fun b => b.by_).toList

/-- Memory of a region that has no page in SCRUB_PENDING and that the removal scrub covers as well (R413). -/
def State.looseBins (s : State) (rid : Nat) : List RBin :=
  let g := s.region rid
  if g.state == .creating || g.state == .destroying then g.bins.filter fun b => !b.gone
  else g.bins.filter fun b => !b.gone && (b.reserve || !b.ready || b.removed)

/-- Steps 1 to 3 of Table 14.8. -/
def State.removeStart (s : State) (t : Nat) (i : Issuer) : State :=
  let agents := s.agentsOf t
  let fns := (s.pci.funcs.filter fun e => e.2.tenant == t).map Prod.fst
  let rids := s.regionsOf t
  let units := rids.flatMap fun r => (s.looseBins r).map fun b => (b.pa, b.units)
  let cmds := (rids.flatMap fun r => s.regionCmds r).filter fun c => s.isProvider c.fn
  -- step 1
  let s := match s.sec.rot with
    | some r => if r.tenant == t then (s.dropAct (.sweep t)).onSec fun c => { c with rot := none } else s
    | none => s
  let s := s.setTenant t fun x => { x with state := .draining }
  let s := agents.foldl (fun s a =>
    (s.setMeter a fun m => { m with active := false, tc := 0, tp := 0 }).onSch fun c => { c with subs := Tbl.del c.subs a }) s
  -- step 3 first stops what would otherwise go on while step 2 acts; both act at one boundary
  let s := s.stopJobs (fun j => agents.contains j.agent) .keyRetired 0 true
  let ms := (s.opu.models.filter fun m => m.2.owner == t).map Prod.fst
  let s := ms.foldl (fun s m =>
    (s.stopJobs (fun j => match j.step with | some r => r.model == m | none => false) .keyRetired 0 true).onOpu fun o =>
      { o with models := Tbl.del o.models m }) s
  let s := s.onTrt fun x => { x with groups := x.groups.filter fun g => g.2.owner != t }
  -- step 2
  let s := rids.foldl (fun s r => s.cutRegion r) s
  let s := agents.foldl (fun s a =>
    let on := (s.rgn.regions.filter fun e => e.2.owner != t && (Tbl.find e.2.acl a).isSome).map Prod.fst
    let s := on.foldl (fun s r => s.detach r a) s
    s.clearAgent a) s
  let r : Removal :=
    { by_ := some i, at_ := s.tick + 1, step := 3, agents := agents, fns := fns, waiting := cmds, units := units }
  (s.onSec fun c => { c with removals := Tbl.put c.removals t r }).change

def State.doTenantRemove (s : State) (i : Issuer) (p : Packet) : State :=
  let t := p.fld 2 5 0
  let x := s.tenant t
  if !s.provider i then s.denied i
  else if t == 0 || x.state == .empty || x.state == .zeroized then s.malformed i 2
  else if x.state == .draining then s.busy i 1
  else s.removeStart t i

/-- Step 6: what is still owed to the tenant is dropped at egress and counted. -/
def State.removeOwed (s : State) (r : Removal) : State :=
  let mine := fun (k : Pkt) => r.agents.contains k.agt || (match k.body with | .tlp t => r.fns.contains t.fn | _ => false)
  let n := s.sch.ports.foldl (fun n e => n + (e.2.queue.filter mine).length) 0
  let h := fun (x : Nat × HeldItem) => match x.2 with
    | .record fn _ => r.fns.contains fn
    | .resp q _ _ => r.agents.contains q.agent
    | .packet _ k => r.agents.contains k.agt
  let m := (s.mir.held.filter h).length
  let b := r.fns.foldl (fun n fn => n + (s.func fn).ringBuf.length + (s.intake fn).cplBuf.length + (s.intake fn).evtBuf.length) 0
  let s := s.onSch fun c => { c with ports := Tbl.mapKV c.ports fun _ q => { q with queue := q.queue.filter fun k => !mine k } }
  let s := s.onMir fun x => { x with held := x.held.filter fun y => !h y }
  let s := r.fns.foldl (fun s fn =>
    (s.setFn fn fun f => { f with ringBuf := [] }).setIntake fn fun i => { i with cplBuf := [], evtBuf := [] }) s
  let w := r.agents.foldl (fun n a => n + (s.route a).waiting.length) 0
  let s := r.agents.foldl (fun s a => s.setRoute a fun x => { x with waiting := [] }) s
  if n + m + b + w = 0 then s else s.bump blkSEC 0x050C (n + m + b + w)

/-- A ring control with EN clear. -/
def ringOff (w : Word) : Word := BitVec.ofNat 32 (clearBit w.toNat 31)

/-- Step 7: tables and fault records, agents and functions. -/
def State.removeEnds (s : State) (r : Removal) : State :=
  let s := r.agents.foldl (fun s a =>
    let host := s.hostAgent a
    let s := s.emptyTables a
    let s := s.onXlt fun x => { x with faults := x.faults.filter fun f => f.2.agent != a }
    let s := s.onSec fun c => { c with agentTenant := Tbl.del c.agentTenant a }
    if !host then s
    else
      let s := (s.fnsOf a).foldl (fun s fn => s.setFn fn fun f => { f with agent := 0 }) s
      (s.setRoute a fun _ => {}).setAgent a fun _ => {}) s
  r.fns.foldl (fun s fn =>
    let s := s.tdiError fn
    let s := s.setFn fn fun f => { f with ring := { f.ring with ctrl := ringOff f.ring.ctrl } }
    s.setIntake fn fun i =>
      { i with fill := [], drain := [], part := none, flush := false
               cpl := { i.cpl with ctrl := ringOff i.cpl.ctrl }, evt := { i.evt with ctrl := ringOff i.evt.ctrl } }) s

/-- Step 8: the slot ZEROIZED, and the keys of its regions' bindings overwritten. -/
def State.removeKeys (s : State) (t : Nat) : State :=
  let rids := s.regionsOf t
  (s.setTenant t fun x => { x with state := .zeroized, key := {}, old := {} }).onSec fun c =>
    { c with bindings := c.bindings.filter fun b => !rids.contains b.2.region, oldKey := Tbl.del c.oldKey t }

/-- Pages of a tenant's regions that await scrub. -/
def State.scrubPages (s : State) (t : Nat) : List Nat :=
  (s.regionsOf t).flatMap fun r => (s.regionIdxs r).filter fun i => (s.entry i).state == .scrubPending

/-- A page's entry FREE after its scrub; an overflow page returns to the pool unless its stack has failed (R413). -/
def State.pageFreed (s : State) (i : Nat) : State :=
  let rid := (s.entry i).region
  let g := s.region rid
  let s := s.setEntry i fun e => { gen := e.gen }
  if OVF0 ≤ i && !s.stackFailed (stackOf (idxPa i)) then
    s.onRgn fun r => { r with ovf := (ovfSet (pageUnits g.psz) (i - OVF0) g.mirror).foldl Tbl.del r.ovf }
  else s

/-- After step 9 the scrub begins (R413). -/
def State.removeScrub (s : State) (t : Nat) (units : List (Nat × Nat)) : State :=
  let s := (s.scrubPages t).foldl (fun s i =>
    if s.stackFailed (stackOf (idxPa i)) then s.pageFreed i
    else s.addAct { work := .pageScrub i, cls := .mgmt
                    segs := [{ kind := .zero, dst := [(.idx (s.entry i).region i, 0)]
                               len := (s.region (s.entry i).region).pageSize }] }) s
  let us := units.filter fun u => !s.stackFailed (stackOf u.1)
  match s.regionsOf t with
  | [] => s
  | rid :: _ =>
    if us.isEmpty then s
    else s.startScrub { region := rid, why := .destroy } (us.map fun u => { kind := .zero, dst := [(.raw, u.1)], len := MIB2 * u.2 })

/-- Step 9: the loft has acknowledged the removal, so OK, TENANT_REMOVED and the final records that R413 gives leave at once. -/
def State.removeAnswer (s : State) (t : Nat) (r : Removal) : State :=
  let s := r.waiting.foldl (fun s i => s.answer i .keyRetired) s
  let s := match r.by_ with
    | some i => s.answer i .ok
    | none => s
  let s := s.event s.providers 0x0030 (leBytes 1 t)
  let s := s.onSec fun c => { c with removals := Tbl.upd c.removals t fun x => { x with by_ := none, waiting := [], step := 9 } }
  s.removeScrub t r.units

/-- The steps of Table 14.8 that are due at this boundary. -/
def State.removeTick (s : State) (t : Nat) : State :=
  let due := fun (s : State) (n k : Nat) => match Tbl.find s.sec.removals t with
    | some r => Nat.blt r.step n && Nat.ble (r.at_ + k) s.tick
    | none => false
  let r := Tbl.getD s.sec.removals t {}
  let mark := fun (s : State) (n : Nat) => s.onSec fun c => { c with removals := Tbl.upd c.removals t fun x => { x with step := n } }
  let s := if due s 6 1 then mark (s.removeOwed r) 6 else s
  let s := if due s 7 2 then mark (s.removeEnds r) 7 else s
  let s := if due s 8 3 then mark (s.removeKeys t) 8 else s
  if due s 9 4 then s.removeAnswer t r else s

def State.removalsTick (s : State) : State := (s.sec.removals.map Prod.fst).foldl (fun s t => s.removeTick t) s

/-- A page's background scrub is complete (R413). -/
def State.pageScrubDone (s : State) (i : Nat) : State :=
  if (s.entry i).state != .scrubPending then s
  else if s.actDone (.pageScrub i) || (s.stackFailed (stackOf (idxPa i)) && (s.act? (.pageScrub i)).isSome) then
    ((s.dropAct (.pageScrub i)).pageFreed i).change
  else s

/-- The last page of a removed tenant is scrubbed (R413): regions FREE, slot EMPTY, and the event. -/
def State.tenantScrubDone (s : State) (t : Nat) : State :=
  match Tbl.find s.sec.removals t with
  | none => s
  | some r =>
    let rids := s.regionsOf t
    let scs := rids.flatMap fun rid => s.scrubsOf rid fun w => w == .destroy
    if r.step != 9 || !(s.scrubPages t).isEmpty || !(scs.all fun x => s.actDone (.scrub x.1)) then s
    else
      let s := scs.foldl (fun s x => s.dropScrub x.1) s
      let s := rids.foldl (fun s rid => s.freeRegion rid) s
      let s := s.setTenant t fun x => { x with state := .empty }
      let s := s.onSec fun c => { c with removals := Tbl.del c.removals t }
      s.change.event s.providers 0x0031 (leBytes 1 t)

/-! ### SPDM (R402 to R404, R336) -/

def State.setSpdm (s : State) (l : Nat) (f : Spdm → Spdm) : State :=
  s.onSec fun c => { c with spdm := Tbl.modD c.spdm l {} f }

def State.spdmOf (s : State) (l : Nat) : Spdm := Tbl.getD s.sec.spdm l {}

/-- Does the mailbox of the link's PF answer? -/
def State.doeOpen (s : State) (l : Nat) : Bool := (s.link l).state == .up && !s.failedPart

/-- Codes of the SPDM standard that the model needs (PRESUMED, DSP0274). -/
abbrev spdmERROR : Nat := 0x7F
abbrev spdmMEASUREMENTS : Nat := 0x60
abbrev spdmVENDOR : Nat := 0x7E
abbrev errInvalidRequest : Nat := 0x01
abbrev errUnexpectedRequest : Nat := 0x04
abbrev errUnsupportedRequest : Nat := 0x07

/-- A request answered with an error: counted, and SEC cause 2. -/
def State.spdmError (s : State) (l code : Nat) : State :=
  ((s.bump blkSEC 0x0500).raise blkSEC (hubOfHostPort (portOfLink l)) 2 l).emit (.spdm l spdmERROR (leBytes 1 code))

/-- The measurement blocks of Table 14.3. -/
def State.measurements (s : State) : List Byte :=
  let c := s.sec
  let b := fun (n : Nat) (v : List Nat) => leBytes 1 n ++ Config.measBlock n v
  b 1 [] ++ b 2 [c.lutikSvn, b2n c.lutikB] ++ b 3 [c.cfgSvn, b2n c.cfgB] ++
  b 4 [s.glb.strap % 64, b2n c.debug, b2n c.rollback, b2n c.lutikB, b2n c.cfgB] ++
  b 5 [c.lutikSvn, c.cfgSvn, c.lutikCtr % 65536, c.cfgCtr % 65536] ++ b 6 [] ++
  b 7 (c.bindings.flatMap fun x => [x.2.region, leNat x.2.digest]) ++ b 0xFE [b2n c.debug]

/-- A data object above 64 KiB sets the mailbox error bit and is discarded (R336). -/
def State.doe (s : State) (l : Nat) (req : List Byte) (f : State → State) : State :=
  if !s.doeOpen l then s
  else if 65536 < req.length then s.setSpdm l fun x => { x with doeErr := true }
  else f s

def State.getMeasurements (s : State) (l : Nat) (req : List Byte) : State :=
  s.doe l req fun s =>
    let d := s.measurements
    (s.setSpdm l fun x => { x with signed := some (req ++ d) }).emit (.spdm l spdmMEASUREMENTS (d ++ Config.signR (req ++ d)))

def State.pqSign (s : State) (l : Nat) (req : List Byte) : State :=
  s.doe l req fun s => match (s.spdmOf l).signed with
    | none => s.spdmError l errUnexpectedRequest
    | some t => s.emit (.spdm l spdmVENDOR (Config.signQ t))

def State.pqCert (s : State) (l off len : Nat) : State :=
  s.doe l [] fun s => s.emit (.spdm l spdmVENDOR (Config.pqChain off (min len 4096)))

/-- Request codes that Table 14.2's capabilities answer (PRESUMED numbering). -/
def spdmCodes : List Nat := [0x84, 0xE1, 0xE3, 0x81, 0x82, 0x83, 0xE4, 0xE5, 0xE8, 0xE9, 0xEC]

/-- Any other SPDM request: GET_VERSION begins a connection, CHALLENGE is signed, FINISH ends the key exchange of a session, and
END_SESSION ends it. -/
def State.spdmRequest (s : State) (l code : Nat) (req : List Byte) : State :=
  s.doe l req fun s =>
    if !spdmCodes.contains code then s.spdmError l errUnsupportedRequest
    else
      let body := Config.spdmBody code req
      let s := match code with
        | 0x84 => s.setSpdm l fun x => { x with version := 0, signed := none, session := false }
        | 0xE3 => s.setSpdm l fun x => { x with version := 1 }
        | 0x83 => s.setSpdm l fun x => { x with signed := some (req ++ body) }
        | 0xE5 => s.setSpdm l fun x => { x with session := true }
        | 0xEC => s.setSpdm l fun x => { x with session := false }
        | _ => s
      s.emit (.spdm l (code % 128) (if code = 0x83 then body ++ Config.signR (req ++ body) else body))

/-! ### Link keys (R415) -/

/-- Is the mailbox a provider function's, with a secured session? -/
def State.keySession (s : State) (l : Nat) : Bool := s.isProvider (s.link l).fnBase && (s.spdmOf l).session

/-- A link key programmed with its salt; its packet counter is 0. Direction 0 is TX, 1 RX. -/
def State.keyProg (s : State) (l p dir num : Nat) (key : List Byte) (salt : Nat) : State :=
  s.doe l [] fun s =>
    if !s.keySession l then s.spdmError l errUnexpectedRequest
    else if 16 ≤ p || 2 ≤ dir || 2 ≤ num || key.length != 32 then s.spdmError l errInvalidRequest
    else if dir == 0 && (s.linkKeys p).sel == num then s.spdmError l errInvalidRequest
    else
      let k : LinkKey := { set := true, key := key, salt := salt % 2 ^ 32, ctr := 0 }
      let s := s.setKeys p fun x => match dir, num with
        | 0, 0 => { x with tx0 := k }
        | 0, _ => { x with tx1 := k }
        | _, 0 => { x with rx0 := k }
        | _, _ => { x with rx1 := k }
      s.emit (.spdm l spdmVENDOR [])

/-- The key used for sending on a port from the next packet. -/
def State.keyGo (s : State) (l p num : Nat) : State :=
  s.doe l [] fun s =>
    if !s.keySession l then s.spdmError l errUnexpectedRequest
    else if 16 ≤ p || 2 ≤ num then s.spdmError l errInvalidRequest
    else (s.setKeys p fun x => { x with sel := num }).emit (.spdm l spdmVENDOR [])

end Sys2Proof.Machine
end

