-- ==== Sys2Proof/Machine/EngSvc.lean ====
section
/-! DEFINITION. Service of the engines: internal work cut into measures (R135, R147), queues that move (R152, R461), ENG_OFFLINE,
engine reset and self-test (R496), and engine faults (R152). -/

namespace Sys2Proof.Machine

/-! ### Internal work cut into measures -/

/-- The stack on whose home engines a piece of internal work is queued (R146): that of its source, or of its destination. -/
def State.segStack (s : State) (a : Act) (g : Seg) : Nat :=
  match (g.src ++ g.dst).head? with
  | some (x, o) => s.sideStack { at_ := x, runs := [(o, 1)] }
  | none => match a.work with
    | .swapIn id => match Tbl.find s.dir.transfers id with
      | some (_, i) => stackOf (idxPa i)
      | none => 0
    | _ => 0

/-- The first measure of a run, of at most 128 KiB, and what remains of it. Every run starts at a page's or a bin's first byte, so each
measure is aligned to 128 KiB and has 32 lines on every pseudo-channel: R239 never closes one. -/
def State.cutSeg (s : State) (a : Act) (g : Seg) : Meas × Option Seg :=
  let n := min MEASURE g.len
  let side := fun (x : MAt × Nat) => ({ at_ := x.1, runs := [(x.2, n)] } : MSide)
  let m : Meas := { work := a.work, kind := g.kind, cls := a.cls, agent := a.agent, src := g.src.map side, dst := g.dst.map side
                    len := n, pos := g.pos, stack := s.segStack a g }
  let up := fun (x : MAt × Nat) => (x.1, x.2 + n)
  (m, if g.len ≤ n then none
      else some { g with src := g.src.map up, dst := g.dst.map up, len := g.len - n, pos := g.pos + n })

/-- Measures of one piece of internal work queued while there is room (R147). -/
def State.feedAct (s : State) (w : Work) : Nat → State
  | 0 => s
  | fuel + 1 =>
    match s.act? w with
    | none => s
    | some a => match a.segs with
      | [] => s
      | g :: gs =>
        let (m, rest) := s.cutSeg a g
        match s.placeMeas m none with
        | none => s
        | some (_, s) => (s.setAct w fun a => { a with segs := rest.toList ++ gs, cut := a.cut + 1 }).feedAct w fuel

/-- Every piece of internal work, oldest first. -/
def State.feedActs (s : State) : State := (s.eng.acts.map fun a => a.work).foldl (fun s w => s.feedAct w 65536) s

/-! ### Queues that move -/

/-- A queue moved to the other home engines of its stack (R152), with the SHA-384 checksums that ran on the engine; what finds no room
moves at a later boundary. With none of them in service it stays, and is served by stealing. -/
def State.moveQueue (s : State) (n : Nat) : State :=
  let q := (s.unit n).queue
  let s := s.setUnit n fun u => { u with moving := false }
  let s := s.onEng fun e => { e with jobs := Tbl.mapKV e.jobs fun _ j => if j.engine == some n then { j with engine := none } else j }
  let others := (homeEngines (n / 16)).filter fun m => m != n && s.engOn m
  if others.isEmpty then s
  else
    let s := s.setUnit n fun u => { u with queue := [] }
    q.foldl (fun s m =>
      match s.placeMeas { m with stack := n / 16 } none with
      | some (_, s) => s
      | none => s.setUnit n fun u => { u with queue := u.queue ++ [m], moving := true }) s

/-- Queues that move at this boundary. -/
def State.moveQueues (s : State) : State :=
  (s.eng.units.filter fun u => u.2.moving).foldl (fun s u => s.moveQueue u.1) s

/-! ### ENG_UNIT.OFFLINE and self-test -/

/-- May the function write the provider's registers now? Their windows answer from READY on, outside G-CELLAR and FAILED (R540). -/
def State.mayProvide (s : State) (fn : Nat) : Bool :=
  s.isProvider fn && s.barLive fn && !s.failedPart && s.glb.pstate != .cellar && s.glb.boot == 7

def State.engOffline (s : State) (fn n : Nat) : State :=
  if !s.mayProvide fn || 256 ≤ n || (s.unit n).offline then s
  else s.setUnit n fun u => { u with offline := true, moving := true, testLeft := none }

/-- OFFLINE cleared (R496): a self-test of 16 ticks begins; a failed engine stays offline until a cold reset. -/
def State.engReset (s : State) (fn n : Nat) : State :=
  if !s.mayProvide fn || 256 ≤ n || !(s.unit n).offline || (s.unit n).failed then s
  else s.setUnit n fun u => { u with offline := false, testLeft := some 16 }

/-- The self-test ends (R496). -/
def State.selfTestEnd (s : State) (n : Nat) (pass : Bool) : State :=
  match (s.unit n).testLeft with
  | some 0 => s.setUnit n fun u =>
      if pass then { u with testLeft := none } else { u with testLeft := none, failed := true, offline := true }
  | _ => s

/-- One boundary of every self-test. -/
def State.testTick (s : State) : State :=
  s.onEng fun e => { e with units := Tbl.mapKV e.units fun _ u => { u with testLeft := u.testLeft.map fun k => k - 1 } }

/-! ### Engine faults (R152) -/

/-- Internal work whose act has been dropped: its running measures are its last ones. -/
def State.dropped (s : State) (w : Work) : Bool := w.job?.isNone && (s.act? w).isNone

/-- A running measure of the work has come to nothing: a stopped RACK or transfer may end with it. -/
def State.workEnds (s : State) (w : Work) : State := match w with | .rack rid => s.rackEnd rid | .swapIn id => s.transferEnds id | _ => s

/-- A measure queued again, unless its work has been dropped. -/
def State.requeueLive (s : State) (n : Nat) (m : Meas) : State := if s.dropped m.work then s.workEnds m.work else s.requeue n m

/-- Another engine of the die that can run a measure: a home engine of its stack first. -/
def State.otherEngine (s : State) (n : Nat) : Option Nat :=
  let home := (homeEngines (n / 16)).filter fun m => m != n && s.engOn m
  (home ++ ((List.range 64).map fun i => n / 64 * 64 + i).filter fun m => m != n && s.engOn m).head?

/-- A measure run again from its start (R152): at the front of another engine's queue, or of its own until one can steal it. -/
def State.rerun (s : State) (n : Nat) (m : Meas) : State :=
  let k := (s.otherEngine n).getD n
  let s := match m.work.job? with
    | some w => s.setJob w.1 w.2 fun j => if j.engine == some n then { j with engine := some k } else j
    | none => s
  (s.requeue k m).bump blkENG (0x0530 + 4 * (n / 64))

/-- Destination bytes of a measure that stopped part way hold what no rule states. -/
def State.tornWrite (s : State) (r : Run) : State :=
  let (k, s) := s.draw
  s.writeBytes r 0 ((List.range (runBytes r.wr)).map fun i => Config.tornByte k i)

/-- An engine detects an internal fault (ENGINE_FAULT). Internal work is run again whatever was written (a model's choice:
the rule speaks of jobs only). -/
def State.engFault (s : State) (n : Nat) (afterWrite : Bool) : State :=
  if 256 ≤ n || (s.unit n).failed then s
  else
    let run := (s.unit n).running
    let s := s.setUnit n fun u => { u with failed := true, offline := true, moving := true, testLeft := none, running := none }
    let s := s.raise blkENG (n / 64) 0 n
    match run with
    | none => s
    | some r =>
      match r.m.work.job? with
      | none => if s.dropped r.m.work then s.workEnds r.m.work else s.rerun n r.meas
      | some w =>
        if afterWrite && !r.wr.isEmpty then (s.tornWrite r).stopJob w.1 w.2 .internal 0x000E01 else s.rerun n r.meas

end Sys2Proof.Machine
end

