-- ==== Sys2Proof/Machine/Mcx.lean ====
section
/-! DEFINITION. MCX: refresh, retraining, temperature, the patrol and skew of a stack, and the failure of stacks and cellar dies. -/

namespace Sys2Proof.Machine

/-- A lifetime counter raised by n; it stays at its largest value (Table 15.7). -/
def State.lifeAdd (s : State) (i : Nat) (n : Nat := 1) : State :=
  s.onGlb fun g => { g with life := Tbl.modD g.life i 0 fun v => satAt (2 ^ 64 - 1) (v + n) }

/-! ### What a stack's loss takes with it -/

/-- Is this work of a plain physical range on a failed stack: a scrub, a page scrub or a sweep? -/
def State.rawLost (s : State) (x : MAt × Nat) : Bool := x.1 == .raw && s.stackFailed (stackOf x.2)

/-- A measure of internal work whose physical destination has failed. -/
def State.measGone (s : State) (m : Meas) : Bool :=
  m.work.job?.isNone && m.dst.any fun d => d.runs.any fun r => s.rawLost (d.at_, r.1)

/-- Internal work on failed stacks dropped: segments, queued measures and running ones count as done (R410, R413). -/
def State.pruneActs (s : State) : State :=
  let s := s.onEng fun e => { e with acts := e.acts.map fun a => { a with segs := a.segs.filter fun g => !g.dst.any s.rawLost } }
  let gone := s.eng.units.flatMap fun u => (u.2.queue.filter s.measGone) ++
    (match u.2.running with | some r => if s.measGone r.m then [r.m] else [] | none => [])
  let s := s.onEng fun e => { e with units := Tbl.mapKV e.units fun _ u =>
    { u with queue := u.queue.filter fun m => !s.measGone m
             running := match u.running with | some r => if s.measGone r.m then none else some r | none => none } }
  gone.foldl (fun s m => s.setAct m.work fun a => { a with cut := a.cut - 1 }) s

/-- Does a running measure touch a failed stack? -/
def State.runHit (s : State) (r : Run) : Bool :=
  (r.rd ++ r.wr ++ r.wr2).any fun l => l.any fun x => x.1 < 16 * SLOT && s.stackFailed (stackOf x.1)

/-- Running measures that touch a failed stack end: their job stops with REGION_LOST, or they run again from the surviving
copy (R34 and the chapter Decanter engines). -/
def State.endHit (s : State) : State :=
  (s.eng.units.filter fun u => match u.2.running with | some r => s.runHit r | none => false).foldl (fun s u =>
    match (s.unit u.1).running with
    | none => s
    | some r =>
      let s := s.setUnit u.1 fun u => { u with running := none }
      match s.runRefusal r.m [], r.m.work.job? with
      | some st, some w => s.stopJob w.1 w.2 st 0
      | some _, none => (s.setAct r.m.work fun a => { a with cut := a.cut - 1 }).workEnds r.m.work
      | none, _ => s.requeueLive u.1 r.meas) s

/-- Layers whose regions are LOST are lost with them: a READY model becomes BROKEN and its steps stop (Tables 7.2, 7.12). -/
def State.loseLayers (s : State) (gone : Layer → Bool) : State :=
  s.opu.models.foldl (fun s m =>
    let x := s.model m.1
    if !x.placed.any (fun l => !l.2.lost && gone l.2) then s
    else
      let s := s.setModel m.1 fun x =>
        { x with placed := Tbl.mapKV x.placed fun _ l => if gone l then { l with lost := true } else l
                 state := if x.state == .ready then .broken else x.state }
      if x.state == .ready then (s.liveSteps m.1).foldl (fun s j => s.stopJob j.1 j.2 .regionLost 0) s else s) s

/-! ### Regions under a failed stack (Table 2.6) -/

/-- The second copies of bin `b`. -/
def Region.mirrors (g : Region) (b : Nat) : List RBin := g.bins.filter fun m => m.mirrorOf == some b && !m.removed && !m.gone

/-- Overflow pages in use by a region. -/
def State.ovfOf (s : State) (rid : Nat) : List Nat := (s.rgn.ovf.filter fun o => o.2 == rid + 1).map Prod.fst

/-- Those that hold first copies (R261): a page's directory entry is that of the first overflow page of its first copy (R542). -/
def State.ovfFirsts (s : State) (rid : Nat) : List Nat :=
  let g := s.region rid
  let head := fun (k : Nat) => if pageUnits g.psz == 1 then k else k % 16 + k / 256 * 256
  (s.ovfOf rid).filter fun k => !g.mirror || (s.entry (OVF0 + head k)).state != .free

/-- Has a stack of `ks` taken some part of the region, and has every copy of some part failed? -/
def State.regionHit (s : State) (rid : Nat) (ks : List Nat) : Bool × Bool :=
  let g := s.region rid
  let live := g.bins.filter fun b => !b.gone && !b.removed
  let hit := (live.any fun b => ks.contains (stackOf b.pa)) || (s.ovfOf rid).any fun o => ks.contains (o % 16)
  let dead := fun (b : RBin) => s.stackFailed (stackOf b.pa)
  let bins := (g.bins.mapIdx fun i b => (i, b)).any fun x =>
    !x.2.gone && !x.2.removed && x.2.mirrorOf.isNone && dead x.2 && (g.mirrors x.1).all dead
  let ovf := (s.ovfFirsts rid).any fun o => s.stackFailed (o % 16) && (!g.mirror || s.stackFailed ((o + 4) % 16))
  (hit, bins || ovf)

/-- Payload of REGION_LOST and REGION_DEGRADED (Table 13.4). -/
def lossPayload (rid k : Nat) : List Byte := leBytes 2 rid ++ leBytes 1 k

/-- The functions told that a region is LOST (R544). -/
def State.lostFns (s : State) (rid : Nat) : List Nat :=
  distinct (sortBy id ((s.region rid).acl.map Prod.fst |>.flatMap s.agentEventFns))

/-- Commands of the region that wait for a scrub of new bins end with REGION_LOST. -/
def State.endAdds (s : State) (rid : Nat) (st : Status) : State :=
  (s.scrubsOf rid fun w => w == .create || w == .add).foldl (fun s x =>
    let s := s.dropScrub x.1
    match x.2.by_ with
    | some i => s.answerR16 i st
    | none => s) s

/-- A region becomes LOST (Table 2.6): everything that waits on it ends with REGION_LOST. -/
def State.loseRegion (s : State) (rid k : Nat) : State :=
  let s := (s.setRegion rid fun g => { g with state := .lost }).change
  let s := (s.endPub rid (some .regionLost)).stopRack rid .regionLost
  let s := (s.stopRegionWork rid .regionLost).endAdds rid .regionLost
  s.event (s.lostFns rid) evREGION_LOST (lossPayload rid k)

/-- One region under the failure of stacks `ks`, all marked FAILED. -/
def State.settleRegion (s : State) (ks : List Nat) (rid : Nat) : State :=
  let g := s.region rid
  let (hit, dead) := s.regionHit rid ks
  if !hit then s
  else
    let k := (ks.find? fun k => g.bins.any fun b => !b.gone && stackOf b.pa == k).getD (ks.headD 0)
    let s := s.setRegion rid fun g => { g with bins := g.bins.map fun b => if ks.contains (stackOf b.pa) then { b with lost := true } else b }
    match g.state with
    | .creating => (s.endAdds rid .regionLost).freeRegion rid
    | .active =>
      if dead then s.loseRegion rid k
      else ((s.setRegion rid fun g => { g with state := .degraded }).change).event (s.fnsOfTenant g.owner) evREGION_DEGRADED (lossPayload rid k)
    | .degraded => if dead then s.loseRegion rid k else s
    | _ => s

/-- Stacks fail (Table 8.9): marked FAILED together, then regions, layers and measures are settled. -/
def State.failStacks (s : State) (ks : List Nat) (cause : Nat) : State :=
  let ks := ks.filter fun k => k < 16 && !s.stackFailed k
  if ks.isEmpty then s
  else
    let s := ks.foldl (fun s k => s.setStack k fun x =>
      { x with state := .failed, cause := cause, plan := none, rateEnd := false, bankQ := [], holdQ := [], bridgeQ := [], win := {}, closed := none }) s
    let s := ks.foldl (fun s k => s.raise blkMCX (dieOfStack k) 3 k) s
    let s := (s.rgn.regions.map Prod.fst).foldl (fun s r => s.settleRegion ks r) s
    let lost := fun (r : Nat) => (s.region r).state == .lost
    let s := s.loseLayers fun l => lost l.wreg || (match l.kvreg with | some r => lost r | none => false)
    s.endHit.pruneActs

/-- A failure of stack k is recorded: the boundary that closes the tick settles it (R260), and before READY it is settled at once
(R246). -/
def State.stackFails (s : State) (k cause : Nat) : State :=
  if 16 ≤ k || s.stackFailed k || (s.dir.due.any fun x => match x with | .stack j _ => j == k | _ => false) then s
  else if s.glb.boot != 7 then s.failStacks [k] cause
  else s.later (.stack k cause)

/-! ### The failure of a cellar die (R452, R262) -/

/-- The die that keeps the second copies of a protected layer (R229). -/
def State.layerMirror (s : State) (l : Layer) : Option Nat :=
  let w := s.region l.wreg
  if !w.mirror then none
  else match l.kvreg with
    | none => some w.mirrorDie
    | some r => if (s.region r).mirror && (s.region r).mirrorDie == w.mirrorDie then some w.mirrorDie else none

/-- Protected layers of the die move to their mirror die (Table 7.12). -/
def State.moveLayers (s : State) (d : Nat) : State :=
  let move := fun (l : Layer) =>
    if l.die != d || l.lost then l
    else match s.layerMirror l with
      | some e => if s.mir.diesLost.contains e then l else { l with die := e }
      | none => l
  s.onOpu fun p => { p with models := Tbl.mapKV p.models fun _ m => { m with placed := Tbl.mapKV m.placed fun _ l => move l } }

/-- Live steps that wait at a failed die go to the die of their layer (R229): their buffers are elsewhere, or they have none yet. -/
def State.moveSteps (s : State) (d : Nat) : State :=
  let ks := Tbl.getD s.opu.queues d []
  let s := s.onOpu fun p => { p with queues := Tbl.del p.queues d }
  ks.foldl (fun s k =>
    match (s.job? (k / 65536) (k % 65536)).bind fun j => j.step with
    | none => s
    | some r => s.joinDie (k / 65536) (k % 65536) ((s.model r.model).layer r.layer).die) s

/-- A measure queued for a die that has failed goes to the stack that still serves its first operand. -/
def State.rehomed (s : State) (m : Meas) : Meas :=
  if s.mir.diesLost.contains (dieOfStack m.stack) then
    { m with stack := ((m.src ++ m.dst).head?.map s.sideStack).getD m.stack } else m

/-- Does a measure add to an output whose staging was on the die? -/
def lostOut (op : Nat) (lost : List Nat) (m : Meas) : Bool := (m.outIds op).any lost.contains

/-- Staging of a job on a failed die rebuilt from the start of each unwritten output: the measures of its tiles that add to
those outputs are formed again. -/
def State.rebuildOuts (s : State) (d : Nat) (j : Job) : State :=
  let lost := (j.outs.filter fun o => o.2.stage != 0 && o.2.die == d).map Prod.fst
  if lost.isEmpty then s
  else
    let mine := fun (m : Meas) => m.work == j.work && m.sub == 0 && lostOut j.op lost m
    let s := s.onEng fun e => { e with units := Tbl.mapKV e.units fun _ u =>
      { u with queue := u.queue.filter fun m => !mine m
               running := match u.running with | some r => if mine r.m then none else some r | none => none } }
    let s := s.dropParked fun q => match q.meas with | some (_, m) => mine m | none => false
    j.tiles.foldl (fun s t =>
      if t.half then s
      else
        let (ms, outs) := s.cutTile j t.k t.offs t.pages
        let again := ms.filter (lostOut j.op lost)
        s.setJob j.agent j.jobid fun j =>
          let left := s.eng.units.foldl (fun n u => n + (u.2.queue.filter fun m => m.work == j.work && m.kind == .tile t.k).length
            + (match u.2.running with | some r => b2n (r.m.work == j.work && r.m.kind == .tile t.k) | none => 0)) 0
          let parked := s.dir.entries.foldl (fun n e => n + (e.2.requests.filter fun q =>
            match q.meas with | some (_, m) => m.work == j.work && m.kind == .tile t.k | none => false).length) 0
          { j with outs := outs.foldl (fun o x => if lost.contains x.1 then Tbl.upd o x.1 fun _ => { left := x.2 } else o) j.outs
                   tiles := j.tiles.map fun u => if u.k != t.k then u
                     else { u with todo := (u.todo.filter fun m => !lostOut j.op lost m) ++ again, queued := left + parked } }) s

/-- The engines of the die leave every queue: measures queued or parked there move to a served stack's home engines. -/
def State.leaveQueues (s : State) (d : Nat) : State :=
  let mine := fun (n : Nat) => n / 64 == d
  let moved := (s.eng.units.filter fun u => mine u.1).flatMap fun u =>
    u.2.queue ++ (match u.2.running with | some r => [r.meas] | none => [])
  let s := s.onEng fun e => { e with
    units := (List.range 64).foldl (fun t i => Tbl.modD t (64 * d + i) {} fun u =>
      { u with queue := [], running := none, failed := true, offline := true, testLeft := none, moving := false }) e.units
    jobs := Tbl.mapKV e.jobs fun _ j =>
      { j with engine := match j.engine with | some n => if mine n then none else some n | none => none
               extra := j.extra.map s.rehomed
               tiles := j.tiles.map fun t => { t with todo := t.todo.map s.rehomed } } }
  let s := s.onDir fun r => { r with entries := Tbl.mapKV r.entries fun _ e => e.mapReqs fun q =>
    { q with meas := q.meas.map fun x => if mine x.1 then let m := s.rehomed x.2; (16 * m.stack, m) else x } }
  moved.foldl (fun s m =>
    let m := s.rehomed m
    match s.runRefusal m [], m.work.job? with
    | some st, some w => s.stopJob w.1 w.2 st 0
    | some _, none => s.setAct m.work fun a => { a with cut := a.cut - 1 }
    | none, _ => match s.placeMeas m none with
      | some (_, s) => s
      | none => s.requeue (16 * m.stack) m) s

/-- A cellar die fails (R452): FLT cause 1, its stacks with cause 5, its engines, its staging and its step store. -/
def State.failDie (s : State) (d : Nat) : State :=
  if 4 ≤ d || s.mir.diesLost.contains d then s
  else
    let s := s.onMir fun m => { m with diesLost := m.diesLost ++ [d] }
    let s := s.raise blkFLT (2 + d) 1 d
    let s := s.moveLayers d
    let jobs := s.eng.jobs
    let s := s.failStacks [4 * d, 4 * d + 1, 4 * d + 2, 4 * d + 3] 5
    let s := s.loseLayers fun l => l.die == d
    let s := s.stopJobs (fun j => match j.step with | some r => r.home == some d | none => false) .regionLost 0
    let s := s.moveSteps d
    let s := jobs.foldl (fun s e => match s.job? e.2.agent e.2.jobid with
      | some j => if j.state == .stopping then s else s.rebuildOuts d j
      | none => s) s
    let s := s.leaveQueues d
    s.onOpu fun p => { p with used := Tbl.del p.used d, stage := Tbl.del p.stage d }

/-- Die d is declared lost, or a fatal cause of it is found: it fails at the next boundary (R452), before READY at once. -/
def State.dieFails (s : State) (d : Nat) : State :=
  if 4 ≤ d || s.mir.diesLost.contains d || s.dir.due.contains (.die d) then s
  else if s.glb.boot != 7 then s.failDie d
  else s.later (.die d)

/-! ### Refresh, retraining and rate changes -/

/-- Does the stack hold its refresh grid: trained, not in self-refresh, not failed? -/
def Stack.served (k : Stack) : Bool := k.state != .training && k.state != .selfRefresh && k.state != .failed

/-- The all-bank refresh of stack k at boundary `t`, counted once (R245). -/
def State.countRefresh (s : State) (k t : Nat) : State :=
  if (s.stack k).refAt == some t then s else (s.setStack k fun x => { x with refAt := some t }).lifeAdd (64 + k)

/-- Is boundary `t` one of the stack's refresh grid (R244)? -/
def State.onGrid (s : State) (k t : Nat) : Bool := (t + k) % (if (s.stack k).hot then 1 else 3) == 0

/-- REFRESH of stack k: that of the last boundary, or where it has been counted that of the boundary that ends the tick. -/
def State.refresh (s : State) (k : Nat) : State :=
  if 16 ≤ k || !(s.stack k).served then s
  else if s.onGrid k s.tick && (s.stack k).refAt != some s.tick then s.countRefresh k s.tick
  else if s.onGrid k (s.tick + 1) then s.countRefresh k (s.tick + 1)
  else s

/-- Failed lanes mapped onto spares of their channel, two for data and one for command and address (R247); one that none covers fails
the stack with cause 1. -/
def State.repairLanes (s : State) (k : Nat) (ls : List Lane) : State :=
  ls.foldl (fun s l =>
    let x := s.stack k
    if x.state == .failed || x.lanes.contains l then s
    else if (x.lanes.filter fun y => y.ch == l.ch && y.ca == l.ca).length < (if l.ca then 1 else 2) then
      (s.setStack k fun x => { x with lanes := x.lanes ++ [l] }).raise blkSPH (dieOfStack k) 0 (k * 256 + l.ch % 256)
    else s.stackFails k 1) s

/-- A retrain that failed: the second in a row fails the stack, the first is repeated at once for 2 ticks (R249). -/
def State.retrainBad (s : State) (k : Nat) : State :=
  let (c, s) := s.draw
  let s := s.raise blkSPH (dieOfStack k) 1 (k * 256 + Config.binChoice c % 32)
  if 1 ≤ (s.stack k).fails then s.stackFails k 2
  else s.setStack k fun x => { x with fails := x.fails + 1, busyTo := x.busyTo + 2 }

/-- What a retrain under way has found: lanes that it maps onto spares, or one that it cannot recover. -/
def State.retrainFound (s : State) (k : Nat) (good : Bool) (ls : List Lane) : State :=
  if good then s.repairLanes k ls else (s.repairLanes k ls).retrainBad k

/-- A retrain of 2 ticks starts at the last boundary, with an all-bank refresh (R248). -/
def State.retrainStart (s : State) (k : Nat) (good : Bool) (ls : List Lane) : State :=
  let s := s.setStack k fun x => { x with state := .retrain, busyTo := s.tick + 2, plan := none }
  (s.countRefresh k s.tick).retrainFound k good ls

/-- Is `t` the boundary at which the stack's periodic retrain starts (R248)? -/
def retrainAt (k t : Nat) : Bool := t % 16384 == 32 + 64 * k

/-- PERIODIC_RETRAIN and its outcome (R248, R249): of the retrain that the next boundary starts, of the one that the last boundary
started, or of one under way. -/
def State.retrain (s : State) (k : Nat) (good : Bool) (ls : List Lane) : State :=
  let x := s.stack k
  if 16 ≤ k then s
  else if x.state == .retrain then s.retrainFound k good ls
  else if retrainAt k (s.tick + 1) && (x.state == .ready || x.state == .rateChange) then
    s.setStack k fun x => { x with plan := some (good, ls) }
  else if retrainAt k s.tick && x.state == .ready then s.retrainStart k good ls
  else s

/-- A command-address parity error (R249); a reissue that fails is one more. Eight in a tick start an unscheduled retrain, after a
retrain or a rate change that runs. -/
def State.caError (s : State) (k : Nat) (reissueOk : Bool) : State :=
  if 16 ≤ k || !(s.stack k).served then s
  else
    let n := if reissueOk then 1 else 2
    let s := (s.bump blkMCX (0x0580 + 4 * k) n).raise blkMCX (dieOfStack k) 2 k
    let old := if (s.stack k).caTick == s.tick then (s.stack k).caErrs else 0
    let s := s.setStack k fun x => { x with caErrs := old + n, caTick := s.tick }
    if old + n < 8 || 8 ≤ old then s
    else match (s.stack k).state with
      | .ready => (s.setStack k fun x => { x with state := .retrain, busyTo := s.tick + 3 }).countRefresh k (s.tick + 1)
      | .retrain => s.setStack k fun x => { x with busyTo := x.busyTo + 2 }
      | _ => s.setStack k fun x => { x with plan := some (x.plan.getD (true, [])) }

/-- RATE_CHANGE_COMPLETE (R250): at the boundary that ends the 8 ticks, or after it. -/
def State.rateDone (s : State) (k : Nat) : State :=
  let x := s.stack k
  if 16 ≤ k || x.state != .rateChange || s.tick + 1 < x.busyTo then s
  else if s.tick < x.busyTo then s.setStack k fun x => { x with rateEnd := true }
  else s.setStack k fun x => { x with state := .ready, slow := s.pwr.down, rateEnd := false }

/-- Rate changes and retrains that a boundary ends: the stack serves again (R248 to R250). -/
def State.busyEnds (s : State) : State :=
  s.onMcx fun m => { m with stk := Tbl.mapKV m.stk fun _ x =>
    if x.state == .rateChange && x.rateEnd && x.busyTo ≤ s.tick then { x with state := .ready, slow := s.pwr.down, rateEnd := false }
    else if x.state == .retrain && x.busyTo ≤ s.tick then { x with state := .ready, fails := 0 }
    else x }

/-- Retrains that a boundary starts: planned ones of READY stacks (R248), and those of stacks that leave self-refresh (R251). -/
def State.busyStarts (s : State) : State :=
  let wake : Bool := match s.mcx.wakeAt with
    | some t => Nat.ble t s.tick
    | none => false
  let s := (List.range 16).foldl (fun s k =>
    let x := s.stack k
    if x.state == .selfRefresh && wake then
      (s.setStack k fun x => { x with fails := 0 }).retrainStart k true []
    else match x.plan with
      | some (good, ls) => if x.state == .ready then s.retrainStart k good ls else s
      | none => s) s
  if wake then s.onMcx fun m => { m with wakeAt := none } else s

/-- Does any measure queued or running touch stack k? -/
def State.stackWork (s : State) (k : Nat) : Bool :=
  s.eng.units.any fun u =>
    (u.2.queue.any fun m => m.stack == k) ||
    (match u.2.running with
     | some r => (r.rd ++ r.wr ++ r.wr2).any fun l => l.any fun x => x.1 < 16 * SLOT && stackOf x.1 == k
     | none => false)

/-- On entry to G-CELLAR each stack enters self-refresh at the first boundary at which its queues are empty (R251). -/
def State.sleepTick (s : State) : State :=
  if s.glb.change != .entering then s
  else (List.range 16).foldl (fun s k =>
    if (s.stack k).state == .ready && (s.stack k).quiet && !s.stackWork k then s.setStack k fun x => { x with state := .selfRefresh }
    else s) s

/-- The stacks at a boundary, before PWR sets their budgets: what ends, then what starts. -/
def State.stackTick (s : State) : State := s.busyEnds.busyStarts.sleepTick

/-! ### Temperature (R244, R259, R464) -/

/-- A reading of a stack, FAILED or not: TEMP_ALERT_N is low while a stack reading is above 95 °C (R515). -/
def State.stackTemp (s : State) (k t : Nat) : State :=
  if 16 ≤ k then s
  else
    let s := s.setStack k fun x =>
      { x with temp := t % 256, hotDue := x.hotDue || 85 < t, warmAt := if 82 < t then s.tick else x.warmAt
               capDue := x.capDue || 95 < t, sec85 := x.sec85 || 85 < t, sec95 := x.sec95 || 95 < t
               coolFrom := if 92 < t then none else some (x.coolFrom.getD s.tick) }
    let s := s.onGlb fun g => { g with life := Tbl.modD g.life (48 + k) 0 fun v => max v t }
    let s := if 95 < t then (s.raise blkMCX (dieOfStack k) 4 k).onPins fun p => { p with tempAlert := true } else s
    if 100 ≤ t then s.stackFails k 4 else s

/-- What a boundary makes of the readings before it: HOT (R244) and the budget cap (R464). -/
def State.tempTick (s : State) : State :=
  s.onMcx fun m => { m with stk := Tbl.mapKV m.stk fun _ x =>
    { x with hot := x.hotDue || (x.hot && s.tick < x.warmAt + 16384), hotDue := false
             capped := x.capDue || x.capped, capDue := false } }

/-! ### Patrol (R252 to R255) -/

/-- The address of a line's other copy, good or bad: the paired bin's, or the paired overflow page's (R261). -/
def State.otherCopy (s : State) (pa : Nat) : Option Nat :=
  if offOf pa < RSV_OFF then
    s.rgn.regions.findSome? fun e =>
      let g := e.2
      match firstIdx (fun (b : RBin) => !b.gone && b.pa ≤ pa && pa < b.pa + MIB2 * b.units) g.bins with
      | none => none
      | some i =>
        let b := g.bins.getD i {}
        match b.mirrorOf with
        | some d => some ((g.bins.getD d {}).pa + (pa - b.pa))
        | none => ((g.mirrors i).head?).map fun m => m.pa + (pa - b.pa)
  else match paIdx pa with
    | none => none
    | some i =>
      let k := i - OVF0
      match Tbl.find s.rgn.ovf k with
      | none => none
      | some r =>
        if !(s.region (r - 1)).mirror then none
        else some (SLOT * ((stackOf pa + (if (s.ovfFirsts (r - 1)).contains k then 4 else 12)) % 16) + offOf pa)

/-- The other copy of a line of a translation table (R107). -/
def State.tableTwin (s : State) (pa : Nat) : Option Nat :=
  (s.xlt.place.map Prod.fst ++ (List.range 2048).map fun i => 2 ^ 41 + i).findSome? fun k =>
    let (a, b) := s.tablePlace k
    if a ≤ pa && pa < a + 8192 then some (b + (pa - a)) else if b ≤ pa && pa < b + 8192 then some (a + (pa - b)) else none

/-- Symbols of a line gone wrong, beside those that already are. -/
def State.harm (s : State) (line n : Nat) : State :=
  let (c, s) := s.draw
  s.onMcx fun m => { m with errs := Tbl.put m.errs line (n + (Tbl.getD m.errs line (0, 0)).1, c) }

/-- A poisoned line found: without a good copy, or with one that it is rewritten from (Table 8.7). -/
def State.patrolBad (s : State) (k pa : Nat) : State :=
  let s := s.foundUe pa
  match s.otherCopy pa with
  | some b =>
    let s := if s.stackFailed (stackOf b) then s else s.checkLine (b / 64)
    if s.stackFailed (stackOf b) || s.poisoned (b / 64) then s.raise blkMCX (dieOfStack k) 1 k
    else
      let s := s.setMem (Memory.write s.mem pa (Memory.read s.mem b 64))
      (s.clearPoison pa 64).bump blkRGN 0x0144
  | none =>
    if RSV_OFF ≤ offOf pa && (paIdx pa).isNone then
      match s.tableTwin pa with   -- its second copy rewrites it (R107, R261)
      | some b => if (s.tryLine b).2 then (s.tryLine b).1.clearPoison pa 64 else (s.tryLine b).1.raise blkMCX (dieOfStack k) 1 k
      | none => s.clearPoison pa 64
    else s.raise blkMCX (dieOfStack k) 1 k

/-- The patrol reads a line in which `n` more symbols are wrong (R255), and acts on what the check finds (R253). -/
def State.patrol (s : State) (k line n : Nat) : State :=
  if 16 ≤ k || !(s.stack k).served || HOLE_OFF ≤ line * 64 || bits s.mcx.ctrl.toNat 23 16 == 0 then s
  else
    let s := s.setStack k fun x => { x with patrolled := x.patrolled + 1 }
    let pa := SLOT * k + 64 * line
    let s := if n == 0 then s else s.harm (pa / 64) n
    let s := s.checkLine (pa / 64)
    if s.poisoned (pa / 64) then s.patrolBad k pa else s

/-- Symbols that go wrong in the lines of a tick (R252). -/
def State.errsTick (s : State) : State :=
  let (c, s) := s.draw
  s.onMcx fun m => { m with errs := (Config.lineErrors c).foldl (fun t e => if e.2.1 == 0 then t else Tbl.put t e.1 e.2) m.errs }

/-! ### Skew (R256, R257) -/

/-- A tick's service of the direct requests, at the boundary that ends it (R240, R241): which entries outlast it is left open. -/
def State.drainBanks (s : State) : State :=
  let (c, s) := s.draw
  s.onMcx fun m => { m with stk := Tbl.mapKV m.stk fun k x =>
    if x.capacity == 0 || x.quiet then x else x.drain (Config.bankStays c k) }

/-- The window with one more sample of the stack's bank queues (R256, R257). -/
def Stack.sampled (x : Stack) : Window :=
  let w := x.win
  { w with sumP := w.sumP + x.fullest, sumQ := w.sumQ + x.bankQ.length, samples := w.samples + 1
           tops := match x.topRegion with | some r => Tbl.modD w.tops r 0 (· + 1) | none => w.tops }

/-- Is the tick count the end of a skew window: windows of 16,384 ticks run from READY? -/
def State.skewDue (s : State) : Bool := s.glb.readyAt < s.tick && (s.tick - s.glb.readyAt) % 16384 == 0

/-- The boundary's sample of every served stack's bank queues; at the end of a window it is closed, and the next one begins with the
SKEW_LIMIT that stands (R263). -/
def State.skewSample (s : State) : State :=
  let limit := bits s.mcx.ctrl.toNat 15 0
  s.onMcx fun m => { m with stk := Tbl.mapKV m.stk fun _ x =>
    let x := if x.capacity == 0 then x else { x with win := x.sampled }
    if s.skewDue && x.state != .failed then { x with closed := some x.win, win := { limit := limit } } else x }

/-- The ratio of a window as 8.8 fixed point (R256). -/
def skewRatio (p q samples : Nat) : Nat := if q < 16 * samples || q == 0 then 0 else min 0xFFFF (p * 4096 * 256 / q)

/-- The region that held the most entries in the fullest bank queue at the most samples, the lowest of several (R257). -/
def Window.region (w : Window) : Nat :=
  let most := w.tops.foldl (fun n e => max n e.2) 0
  ((argMin id ((w.tops.filter fun e => e.2 == most).map Prod.fst)).getD 0)

/-- SKEW_WINDOW_END of stack k: the window that has ended is evaluated (R256, R257). -/
def State.skewEnd (s : State) (k : Nat) : State :=
  match (s.stack k).closed with
  | none => s
  | some w =>
    let x := s.stack k
    let ratio := skewRatio w.sumP w.sumQ w.samples
    let s := s.setStack k fun x => { x with ratio := ratio, closed := none }
    if ratio ≤ max 0x0100 w.limit then s.setStack k fun x => { x with skewLast := false }
    else
      let r := w.region
      let first := !x.skewLast
      let s := s.setStack k fun x => { x with skewLast := true, skewRegion := r, skew := x.skew || first }
      if !first then s
      else
        let g := s.region r
        let fns := s.providers ++ (s.fnsOfTenant g.owner).filter fun fn => !s.isProvider fn
        (s.bump blkMCX (0x05C0 + 4 * k)).event fns evBANK_SKEW (leBytes 2 r ++ leBytes 1 k ++ leBytes 1 g.hash ++ leBytes 2 ratio)

end Sys2Proof.Machine
end

