-- ==== Sys2Proof/Machine/Time.lean ====
section
/-! DEFINITION. GLB: network time and its sources (R473 to R480), the calendar and the lifetime store (R483 to R487). -/

namespace Sys2Proof.Machine

/-! ### The lifetime store -/

/-- A log record queued for the flash; one that finds the buffer of 256 full is dropped and counted (R485). -/
def State.logRec (s : State) (kind time : Nat) (body : List Byte) : State :=
  if 256 ≤ s.glb.logQ.length then s.bump blkGLB 0x050C
  else s.onGlb fun g => { g with logQ := g.logQ ++ [{ kind := kind, time := time, body := padTo 36 0 body }] }

/-- A record as the flash holds it: the next log sequence number, the newest of at most 196,608 (R484). -/
def Flash.put (f : Flash) (r : LogRec) (good : Bool) : Flash :=
  { f with log := ({ r with seq := f.logSeq % 2 ^ 32, good := good } :: f.log).take 196608, logSeq := f.logSeq + 1 }

/-- The oldest queued record goes to the flash; one that the flash refuses waits for the next minute boundary (R485). -/
def State.logWrite (s : State) (good : Bool) : State :=
  match s.glb.logQ with
  | [] => s
  | r :: rest =>
    if s.glb.saveDue then s
    else if !good then s.onGlb fun g => { g with saveDue := true }
    else (s.onGlb fun g => { g with logQ := rest }).onFlash fun f => f.put r true

/-- The calendar as counters 80 and 81 (R483). -/
def State.calendar (s : State) : Tbl Nat :=
  Tbl.put (Tbl.put s.glb.life 80 (s.glb.time.now % 2 ^ 64)) 81 s.glb.time.state.code

/-- The next counter block written, with the calendar (R483, R485). -/
def State.saveCounters (s : State) : State :=
  let c := s.calendar
  (s.onGlb fun g => { g with life := c }).onFlash fun f => { f with block := f.block + 1, counters := c }

/-- The 64 bytes of a log record (Table 17.5). -/
def LogRec.bytes (r : LogRec) : List Byte :=
  let b := leBytes 4 r.kind ++ leBytes 4 r.seq ++ leBytes 8 r.time ++ padTo 44 0 r.body
  b ++ leBytes 4 (crc32c b)

/-- GLB_LIFE_SEL written: the item is read from the flash (R487). A record whose CRC is bad is skipped and raises cause 2
(R486). -/
def State.lifeSelect (s : State) (v : Nat) : State :=
  let n := bits v 17 0
  let set := fun (s : State) (ok : Bool) (d : List Nat) =>
    s.onGlb fun g => { g with lifeSel := BitVec.ofNat 32 (place v 18 0 + place (bits v 31 31) 1 31), lifeValid := ok, lifeData := padTo 8 0 d }
  if bit v 31 then
    match s.flash.log[n]? with
    | none => set s false []
    | some r =>
      if r.good then set s true ((List.range 8).map fun k => leNat ((r.bytes.drop (8 * k)).take 8))
      else (set s false []).raise blkGLB s.mir.primary 2 n
  else if s.flash.block == 0 then set s false []
  else set s true [Tbl.getD s.flash.counters n 0]

/-! ### Steps and slewing of network time (R476, R480) -/

/-- Nanoseconds moved by a signed amount, never below 0. -/
def addNs (t : Nat) (e : Int) : Nat := ((t : Int) + e).toNat

/-- Network time stepped by e: the next boundary is the first multiple of 1280 ns of the new time that lies at least 1280 ns after
the last one (R480); gate lists resynchronise (R364). -/
def State.stepBy (s : State) (e : Int) : State :=
  let s := s.onTime fun t =>
    let now := addNs t.now e
    { t with now := now, next := some (1280 * ceilDiv (now + 1280) 1280) }
  (s.bump blkGLB 0x0500).gateStep

/-- A rate correction clamped to 250 ppm, in parts per billion. -/
def clampPpm (r : Int) : Int := if r < -250000 then -250000 else if 250000 < r then 250000 else r

/-- STEP_NS as it acts. -/
def Time.stepNs (t : Time) : Nat := max 100 (bits t.step.toNat 15 0)

/-- PTM_TICKS as it acts. -/
def Time.ptmTicks (t : Time) : Nat := max 64 (bits t.ctrl.toNat 31 16)

/-- A measurement with error e from a source (R476): a step, or a correction over the next 16 measurements; LOCKED. -/
def State.measure (s : State) (e : Int) (src : Nat) : State :=
  let t := s.glb.time
  let s := if (t.stepNs : Int) < e.natAbs then s.stepBy e else s
  s.onTime fun t =>
    let gap : Nat := if src == 1 then t.ptmTicks else 781250
    { t with state := .locked, err := e, lastMeas := some s.tick, gap := gap
             rate := if (t.stepNs : Int) < e.natAbs then t.rate else clampPpm (t.rate + e * 1000000000 / (16 * gap * 1280)) }

/-- The source in use by R474: 0 none, 1 PTM, 2 PPS_IN. -/
def State.timeSrc (s : State) : Nat :=
  let t := s.glb.time
  let c := bits t.ctrl.toNat 1 0
  let ptm := t.ptmOk && (s.link (bits t.ctrl.toNat 12 8)).state == .up
  let pps : Bool := match t.ppsAt with
    | some a => s.tick < a + 859375
    | none => false
  if c == 1 then (if ptm then 1 else 0)
  else if c == 2 then (if pps then 2 else 0)
  else if c == 3 then 0
  else if ptm then 1 else if pps then 2 else 0

/-! ### PTM (R475) -/

/-- A PTM request (R475): every PTM_TICKS ticks on link LINK. -/
def State.ptmAsk (s : State) : State :=
  let t := s.glb.time
  let l := bits t.ctrl.toNat 12 8
  let c := bits t.ctrl.toNat 1 0
  if 1 < c || (s.link l).state != .up || s.tick < t.lastReq + t.ptmTicks || s.glb.boot != 7 then s
  else (s.onTime fun t => { t with asked := some s.tick, lastReq := s.tick }).emit (.ptmReq l)

/-- A PTM response with the source's time at its instant (R475, R476). -/
def State.ptmAnswer (s : State) (src : Nat) : State :=
  match s.glb.time.asked with
  | none => s
  | some a =>
    if a + msTicks 1 ≤ s.tick then s
    else
      let (k, s) := s.draw
      let s := s.onTime fun t => { t with asked := none, ptmOk := true }
      if s.timeSrc != 1 then s
      else s.measure ((src : Int) - (s.glb.time.now + Config.phase k % 1280 : Nat)) 1

/-- A PTM request unanswered after 1 ms (R475). -/
def State.ptmLate (s : State) : State :=
  match s.glb.time.asked with
  | none => s
  | some a =>
    if s.tick < a + msTicks 1 then s
    else (s.onTime fun t => { t with asked := none, ptmOk := false }).bump blkGLB 0x0504

/-! ### PPS_IN (R477, R478) -/

/-- One second in ns. -/
abbrev SEC_NS : Nat := 1000000000

/-- Do three rejected edges agree within 1 µs, as distances from a whole second? -/
def agree (l : List Nat) : Bool :=
  l.length == 3 && l.all fun a => l.all fun b => let d := (a + SEC_NS - b) % SEC_NS; d ≤ 1000 || SEC_NS - 1000 ≤ d

/-- A rising edge of PPS_IN at network time `tod` of the running tick. -/
def State.ppsEdge (s : State) (tod : Nat) : State :=
  if tod < s.glb.time.now || s.glb.time.now + 2560 ≤ tod || s.glb.boot != 7 then s
  else
    let s := s.onTime fun t => { t with ppsAt := some s.tick }
    if s.timeSrc != 2 then s
    else
      let near := (tod + SEC_NS / 2) / SEC_NS * SEC_NS
      let e : Int := (near : Int) - tod
      let t := s.glb.time
      let odd := ((tod % SEC_NS) :: t.odd).take 3
      let far := t.state == .locked && 1000000 < e.natAbs
      if far && !agree odd then
        (s.onTime fun t => { t with odd := odd }).bump blkGLB 0x0508
      else
        let s := s.onTime fun t => { t with odd := [] }
        match t.pending with
        | some v =>
          let s := s.stepBy ((v : Int) - tod)
          s.onTime fun t => { t with pending := none, state := .locked, err := 0, lastMeas := some s.tick, gap := 781250 }
        | none => s.measure e 2

/-- The source is lost (R476): HOLDOVER after two measurement intervals, FREE and GLB cause 1 after 1 s. -/
def State.timeLost (s : State) : State :=
  let t := s.glb.time
  let age := s.tick - t.lastMeas.getD 0
  match t.state with
  | .locked => if t.lastMeas.isSome && age < 2 * max 1 t.gap then s else s.onTime fun t => { t with state := .holdover }
  | .holdover =>
    if age < 781250 then s
    else (s.onTime fun t => { t with state := .free }).raise blkGLB s.mir.primary 1 0
  | _ => s

/-- GLB_TIME_SET_UP written (R478). -/
def State.timeSet (s : State) (up : Word) : State :=
  let v := s.glb.time.setDn.toNat + 2 ^ 32 * up.toNat
  if s.timeSrc == 1 && s.glb.time.state == .locked then s
  else s.onTime fun t => { t with pending := some v }

/-- A boundary of network time: the next multiple of 1280 ns, or the one that a step chose; a GLB_TIME_SET without a source is a
step there (R478, R480). -/
def State.timeTick (s : State) : State :=
  let s := s.onTime fun t => { t with now := t.next.getD (t.now + 1280), next := none }
  match s.glb.time.pending with
  | none => s
  | some v =>
    if s.timeSrc != 0 then s
    else (s.onTime fun t => { t with pending := none }).stepBy ((v : Int) - s.glb.time.now)

end Sys2Proof.Machine
end

