-- ==== Sys2Proof/Machine/Flt.lean ====
section
/-! DEFINITION. FLT: the fault commands (R434), status and overflow flags written by software (R428, R436), FAULT_N (R433), and the
chapter's faults of MIR and of cellar bridges (R432, R451). -/

namespace Sys2Proof.Machine

/-- `<BLOCK>_FAULT_STATUS[j]` (Table 15.13). -/
def FltInst.status (blk : Nat) (f : FltInst) : Nat :=
  let fatal := (List.range 16).any fun c => bit f.cause c && faultClass blk c == some .fatal
  place (b2n fatal) 1 31 + place (b2n f.rail) 1 30 + place f.hist.length 4 24 + place f.next 3 16 + f.cause % 65536

/-- Bits of a status cleared by ones (R428). -/
def FltInst.clear (f : FltInst) (causes : Nat) (rail : Bool) : FltInst :=
  { f with cause := maskDiff f.cause (causes % 65536), rail := f.rail && !rail }

/-- History entries oldest first, zeros in the rest of 64 bytes. -/
def FltInst.histBytes (f : FltInst) : List Byte := padTo 64 0 (f.hist.flatMap fun e => leBytes 8 e.toNat)

/-- Field checks of FAULT_READ and HISTORY_READ (R434). -/
def faultFault (p : Packet) : Option Nat := if faultInstOk (p.fld 2 4 0) (p.fld 2 10 8) then none else some 2

def historyFault (p : Packet) : Option Nat := (faultFault p).or (if p.addr 4 % 64 != 0 then some 4 else none)

/-- The instance that a fault command names, after its common checks. -/
def State.onInst (s : State) (i : Issuer) (p : Packet) (f : Nat → Nat → State) : State :=
  let b := p.fld 2 4 0
  let j := p.fld 2 10 8
  if !s.provider i then s.denied i else if !faultInstOk b j then s.malformed i 2 else f b j

def State.doFaultRead (s : State) (i : Issuer) (p : Packet) : State :=
  s.onInst i p fun b j =>
    let f := s.fltInst b j
    (s.setFlt b j fun f => f.clear (p.fld 3 15 0) (bit (p.dw 3) 16)).answer i .ok 0 (f.status b) f.mask

def State.doHistoryRead (s : State) (i : Issuer) (p : Packet) : State :=
  s.onInst i p fun b j =>
    if p.addr 4 % 64 != 0 then s.malformed i 4
    else
      let f := s.fltInst b j
      (s.hostWrite i.fn 3 (p.addr 4) f.histBytes).answer i .ok 0 f.hist.length f.written

/-- HOLD is part of the state mirrored to the loft (R433). -/
def State.doFaultPinHold (s : State) (i : Issuer) (p : Packet) : State :=
  if !s.provider i then s.denied i
  else
    let s := (s.onFlt fun f => { f with hold := bit (p.dw 3) 0 }).change
    s.answerR16 i .ok 0 (b2n s.faultLow + 2 * b2n s.flt.pulse)

/-! ### Registers that software writes -/

/-- May the function write registers of FLT now? They answer in G-CELLAR and FAILED too (R503, R540). -/
def State.mayFlt (s : State) (fn : Nat) : Bool := s.isProvider fn && s.barLive fn

/-- `<BLOCK>_FAULT_STATUS[j]` written: ones clear CAUSE bits, and bit 30 clears RAIL (R428). -/
def State.statusClear (s : State) (fn b j : Nat) (v : Word) : State :=
  if !s.mayFlt fn || !faultInstOk b j then s else s.setFlt b j fun f => f.clear v.toNat (bit v.toNat 30)

/-- `FLT_OVF[b][w]` written (R436): set flags clear, and their counters become zero at the next boundary. -/
def State.ovfClear (s : State) (fn b w : Nat) (v : Word) : State :=
  if !s.mayFlt fn || 20 ≤ b || 64 ≤ w then s
  else
    let ks := ((maskBits 32 v.toNat).map fun k => statKey b (4 * (32 * w + k))).filter fun k => (Tbl.find s.flt.ovf k).isSome
    s.onFlt fun f => { f with ovf := ks.foldl Tbl.del f.ovf, zeroNext := f.zeroNext ++ ks }

/-- Counters whose flags were cleared become zero (R436). -/
def State.ovfTick (s : State) : State :=
  (s.onStats fun t => s.flt.zeroNext.foldl Tbl.del t).onFlt fun f => { f with zeroNext := [] }

/-- FLT_PIN_HOLD written (R433): HOLD takes its value at the next boundary, in its order among the tick's events (R536). -/
def State.pinHold (s : State) (fn : Nat) (v : Word) : State := if !s.mayFlt fn then s else s.later (.hold (bit v.toNat 0))

/-- The HOLD field as a register: the value last written to it. -/
def State.holdField (s : State) : Bool :=
  (s.dir.due.foldl (fun (h : Option Bool) x => match x with | .hold b => some b | _ => h) none).getD s.flt.hold

/-- HOLD takes a value written. -/
def State.setHold (s : State) (b : Bool) : State := (s.onFlt fun f => { f with hold := b }).change

/-- A fatal event of the tick sets HOLD after what was written in it (R536). -/
def State.fatalTick (s : State) : State := s.onFlt fun f => { f with hold := f.hold || f.fatal, fatal := false }

/-- The FAULT_N pulse ends (R433). -/
def State.pulseEnd (s : State) : State := s.onFlt fun f => { f with pulse := false }

/-! ### Cellar bridges (R451) -/

/-- A die's bridge to one hub is lost; the die fails when both are. -/
def State.bridgeLost (s : State) (d h : Nat) : State :=
  if 4 ≤ d || 2 ≤ h || s.mir.bridgesLost.contains (d, h) || s.mir.diesLost.contains d || s.mir.hubsLost.contains h then s
  else
    let s := (s.onMir fun m => { m with bridgesLost := m.bridgesLost ++ [(d, h)] }).raise blkFLT h 0 d
    if s.mir.bridgesLost.contains (d, 1 - h) || s.mir.hubsLost.contains (1 - h) then s.dieFails d else s

end Sys2Proof.Machine
end

