-- ==== Sys2Proof/Machine/Mir.lean ====
section
/-! DEFINITION. MIR: the loft and its deltas (R439 to R441), the loss of a hub, switchover (R443 to R447), FAILED (R448, R449) and
RAIL_MISMATCH (R432). -/

namespace Sys2Proof.Machine

/-! ### Deltas -/

/-- What the running tick's delta makes of the loft (R439). -/
def State.snapshot (s : State) : Loft :=
  { rgn := s.rgn, dir := s.dir, xlt := s.xlt, eng := s.eng, opu := s.opu, sec := s.sec, opens := s.cmd.opens, hold := s.flt.hold }

/-- The delta of the closing tick is sent (step 2 of Table 1.5). -/
def State.sendDelta (s : State) : State :=
  if !s.paired then s
  else
    let n := min 1507328 (Config.deltaBytes s.tick)
    let s := (s.emit (.delta s.tick)).bump blkMIR 0x0500 n
    s.onMir fun m => { m with sent := some (s.tick, s.snapshot), changes := 0, badFrames := 0, frameFails := 0
                              deltaPeak := max m.deltaPeak (ceilDiv n 64) }

/-- The loft acknowledges the delta sent: what waited for it leaves (R16, R440). -/
def State.loftAck (s : State) : State :=
  if !s.paired then s
  else match s.mir.sent with
    | none => s
    | some (t, l) => (s.onMir fun m => { m with loft := l, sent := none }).release t

/-- A frame of the delta arrives at the standby (R440): a bad one is sent again. -/
def State.deltaFrame (s : State) (good : Bool) : State :=
  if !s.paired || s.mir.sent.isNone then s
  else if good then s.onMir fun m => { m with frameFails := 0 }
  else
    let s := s.onMir fun m => { m with badFrames := m.badFrames + 1, frameFails := m.frameFails + 1 }
    (s.bump blkMIR 0x0508).raise blkMIR s.mir.primary 0 (s.tick % 65536)

/-! ### The loss of a hub -/

/-- Telemetry of a hub's ports reads zero (R315), its histories are lost (R429), its meters move (Table 12.3). -/
def State.dropHub (s : State) (h : Nat) : State :=
  let port := fun (off : Nat) =>
    if 0x1000 ≤ off && off < 0x1C00 then some ((off - 0x1000) % 0x300 / 32) else if 0x1E00 ≤ off && off < 0x1F00 then some ((off - 0x1E00) / 8) else none
  let gone := fun (k : Nat) => k / 65536 == blkTRT && (match port (k % 65536) with | some p => hubOfPort p == h | none => false)
  let s := (s.onStats fun t => t.filter fun e => !gone e.1).onLatched fun t => t.filter fun e => !gone e.1
  let s := s.onTrt fun t => { t with peaks := t.peaks.filter fun e => hubOfPort (e.1 / 4) != h }
  let s := s.onFlt fun f => { f with insts := f.insts.filter fun e =>
    let b := e.1 / 8
    !((b < blkENG || blkMEC < b) && e.1 % 8 == h) }
  s.onMtr fun t => Tbl.mapKV t fun _ m => if m.home == h then { m with home := 1 - h, tc := 0, tp := 0 } else m

/-- A hub's ports are lost (Table 1.8): its Trellis ports and host links go down, and with them their agents' links. -/
def State.loseHub (s : State) (h : Nat) : State :=
  if 2 ≤ h || s.mir.hubsLost.contains h then s
  else
    let s := s.onMir fun m => { m with hubsLost := m.hubsLost ++ [h] }
    let s := ((List.range 8).map fun k => 8 * h + k).foldl (fun s p => s.downLink p) s
    let s := ((List.range 16).map fun k => 16 * h + k).foldl (fun s l => s.linkDown l) s
    s.agentLinks.dropHub h

/-- The standby is lost (R442): the part runs SOLO, and everything held leaves. -/
def State.standbyLost (s : State) (cause : Nat) : State :=
  let h := 1 - s.mir.primary
  let late := match s.mir.sent with | some (t, _) => t + 1 ≤ s.tick | none => false
  let due := cause == 1 || (cause == 2 && late) || (cause == 3 && (2 ≤ s.mir.frameFails || 16 < s.mir.badFrames)) || cause == 4 || cause == 5
  if !s.paired || !due || s.mir.hubsLost.contains s.mir.primary then s
  else
    let s := s.loseHub h
    let s := s.onMir fun m => { m with state := .solo, cause := cause, sent := none, changes := 0 }
    let s := s.release s.tick
    let s := s.raise blkMIR s.mir.primary 1 (s.tick % 65536)
    s.event s.providers evSTANDBY_LOST (leBytes 1 h ++ leBytes 1 cause)

/-- CAUSE of MIR_STATUS for a fault of a hub: 5 its power, 4 a fatal cause, 1 no heartbeat. -/
def hubCause (blk c : Nat) : Nat := if blk == blkPWR then 5 else if faultClass blk c == some .fatal then 4 else 1

/-- The hub that a step's B0 crosses: the one that received the step, or the other where that one has failed (R226). -/
def State.stepHub (s : State) (j : Job) : Nat :=
  let h := match j.by_, j.port with
    | some i, _ => s.fnHub i.fn
    | none, some p => hubOfPort p
    | none, none => s.mir.primary
  if s.mir.hubsLost.contains h then 1 - h else h

/-- Crossings that the failure of a hub cuts begin again from the source die's copy of B0 (R230). -/
def State.recross (s : State) (h : Nat) : State :=
  s.opu.crossing.foldl (fun s k =>
    match s.job? (k / 65536) (k % 65536) with
    | none => s
    | some j => if s.stepHub j != h then s
      else s.setStep j.agent j.jobid fun r => match r.phase with
        | .leaving _ => { r with phase := .leaving ((s.model r.model).crossTicks r.seqs.length) }
        | _ => r) s

/-- A hub fails (R426): its ports are lost. A PAIRED part begins a switchover when it was primary (steps 1 and 2 of Table 15.8);
the loss of a standby is declared by STANDBY_LOST, and that of the only hub ends in FAILED. -/
def State.hubFails (s : State) (h blk c : Nat) : State :=
  if 2 ≤ h || s.mir.hubsLost.contains h || s.failedPart then s
  else
    let s := if faultInstOk blk h && faultClass blk c == some .fatal then s.raise blk h c 0xFFFF else s
    let s := (s.recross h).loseHub h
    if s.paired && h == s.mir.primary then
      (s.onMir fun m => { m with state := .switching, cause := hubCause blk c, sent := none }).onFlt fun f => { f with rail := true, recovery := true }
    else s

/-! ### What a switchover keeps (R443 to R446) -/

/-- Is the held response's effect kept: a store or atomic in a cellar die's log, or a write-back admitted in the applied delta
(Table 15.10)? -/
def Loft.keeps (l : Loft) (q : PReq) (r : Resp) : Bool :=
  ((q.code == .store || q.code == .atomic) && r.status == .ok) ||
  l.dir.entries.any fun e => match e.2.wb with
    | some w => w.q.agent == q.agent && w.q.code == q.code && w.q.r.txid == q.r.txid
    | none => false

/-- FAILOVER_RETRY for a request that has had no effect. -/
def State.retry (s : State) (q : PReq) : State := s.respondNow q none { status := .failoverRetry }

/-- Is what waited for the next boundary answered FAILOVER_RETRY by a switchover: a request, or a command (R392)? -/
def Due.retried (x : Due) : Bool := match x with | .req _ => true | .cmd _ _ => true | _ => false

def State.retryDue (s : State) (x : Due) : State :=
  match x with
  | .req q => s.retry q
  | .cmd fn p => s.answer { fn := fn, tag := p.tag } .failoverRetry
  | _ => s

/-- Do two requests have one agent, code and TXID? -/
def PReq.same (a b : PReq) : Bool :=
  a.agent == b.agent && a.code == b.code && a.r.txid == b.r.txid && a.via == b.via && a.meas.isNone && b.meas.isNone

/-- An entry as the applied delta has it: its queue without what has been answered since, its running copy, and a write-back of
the applied delta as it now stands. -/
def DirEntry.restored (now old : DirEntry) : DirEntry :=
  if old.wb.isSome then now
  else
    let waits := fun (q : PReq) => q.meas.isNone && now.requests.any fun x => x.same q
    let e := { old with parked := old.parked.filter waits, nextWb := none, torn := old.torn || now.torn, access := now.access }
    { e with cow := old.cow.map fun c => { c with waiters := c.waiters.filter waits } }

/-- Keys of two tables. -/
def unionKeys {α : Type} (a b : Tbl α) : List Nat := distinct (a.map Prod.fst ++ b.map Prod.fst)

/-- The directory of the applied delta: requests that only the lost delta had are answered FAILOVER_RETRY; a write-back that only
it had stops (Table 15.10); waiting measures return to their engines. -/
def State.restoreDir (s : State) (l : Loft) : State :=
  let now := s
  (unionKeys s.dir.entries l.dir.entries).foldl (fun s i =>
    let c := now.entry i
    let o := Tbl.getD l.dir.entries i {}
    let e := c.restored o
    let drop := c.requests.filter fun q => q.meas.isNone && !e.requests.any fun x => x.same q
    let meas := c.requests.filterMap fun q => q.meas
    let torn := o.wb.isNone && (match c.wb, s.act? (.writeBack i) with | some _, some a => a.done != 0 | _, _ => false)
    let s := if o.wb.isNone && c.wb.isSome then s.dropReads i else s
    let s := if torn then (s.bump blkDIR 0x030C).tornEvent i c.holder .failoverRetry else s
    let keep := fun (q : PReq) => q.meas.isNone
    let e := { e with torn := e.torn || torn, parked := e.parked.filter keep
                      cow := e.cow.map fun x => { x with waiters := x.waiters.filter keep } }
    let s := s.setEntry i fun _ => e
    let s := meas.foldl (fun s m => s.requeue m.1 m.2) s
    drop.foldl (fun s q => s.retry q) s) s

/-- A RACK of the applied delta, its pages' copies as far as they have come. -/
def Rack.restored (now : Option Rack) (r : Rack) : Rack :=
  let left := fun (p : RackPage) => match now with
    | some x => ((x.copying.find? fun c => c.old == p.old).map fun c => c.left).getD 0
    | none => 0
  { r with copying := r.copying.map fun p => { p with left := left p } }

/-- The region table of the applied delta. -/
def State.restoreRgn (s : State) (l : Loft) : State :=
  let now := s.rgn
  s.onRgn fun r => { l.rgn with
    regions := Tbl.mapKV l.rgn.regions fun i g => { g with rack := g.rack.map (Rack.restored (Tbl.getD now.regions i {}).rack) }
    nextScrub := r.nextScrub, sel := r.sel, vintageHi := r.vintageHi }

/-- Jobs that only the lost delta had are answered FAILOVER_RETRY and forgotten; the others go on from their last completed
measure. -/
def State.restoreJobs (s : State) (l : Loft) : State :=
  let gone := s.eng.jobs.filter fun e => (Tbl.find l.eng.jobs e.1).isNone
  gone.foldl (fun s e =>
    let j := e.2
    let s := s.leaveFaults j.agent j.jobid
    let s := s.dropMeasures j.work
    let s := j.outs.foldl (fun s o => s.freeStage o.2) s
    let s := match j.step with
      | some r => s.freeStore e.1 r
      | none => s
    let s := s.onEng fun x => { x with jobs := Tbl.del x.jobs e.1 }
    (match j.port with | some _ => [(none, j.port)] | none => []).foldl (fun s w => s.jobRefuse j.agent j.jobid w .failoverRetry 0) s) s

/-- Fault records of the applied delta; a job whose record is gone is pre-checked again. -/
def State.restoreFaults (s : State) (l : Loft) : State :=
  let live := fun (w : Nat × Nat) => match s.job? w.1 w.2 with
    | some j => j.state == .faulted
    | none => false
  let fs := Tbl.mapKV l.xlt.faults fun _ f => { f with waiters := f.waiters.filter live }
  let s := s.onXlt fun x => { x with faults := fs }
  s.onEng fun e => { e with jobs := Tbl.mapKV e.jobs fun _ j =>
    if j.state == .faulted && !(fs.any fun f => f.2.waiters.contains (j.agent, j.jobid)) then
      { j with state := if j.tiles.isEmpty then .queued else .running, held := false } else j }

/-- Tenants, bindings, rotation and removals of the applied delta. -/
def State.restoreSec (s : State) (l : Loft) : State :=
  s.onSec fun c =>
    let rot := match l.sec.rot, c.rot with
      | some a, some b => if a.tenant == b.tenant then some b else some a
      | a, _ => a
    { c with bindings := l.sec.bindings, binding := l.sec.binding, tenants := l.sec.tenants, agentTenant := l.sec.agentTenant
             oldKey := l.sec.oldKey, removals := l.sec.removals, rot := rot
             binders := Tbl.mapKV l.sec.binders fun i b => Tbl.getD c.binders i b }

/-- The work for which some state of the part waits. -/
def State.wanted (s : State) : List Work :=
  s.rgn.scrubs.map (fun x => .scrub x.1) ++
  (s.rgn.regions.filter fun e => e.2.rack.isSome).map (fun e => .rack e.1) ++
  s.dir.entries.flatMap (fun e =>
    (if e.2.cow.isSome then [.cow e.1] else []) ++ (if e.2.wb.isSome then [.writeBack e.1] else []) ++
    (if e.2.state == .scrubPending && (s.act? (.pageScrub e.1)).isSome then [.pageScrub e.1] else [])) ++
  s.dir.transfers.map (fun t => .swapIn t.1) ++ (s.sec.rot.map fun r => Work.sweep r.tenant).toList

/-- Internal work of the lost delta is dropped; work that had completed in it counts as complete. -/
def State.reconcile (s : State) : State :=
  let ws := s.wanted
  let s := (s.eng.acts.filter fun a => !ws.contains a.work).foldl (fun s a => s.dropAct a.work) s
  ws.foldl (fun s w => if (s.act? w).isSome then s else s.addAct { work := w }) s

/-- Is the command with this function and tag waiting still, in the state of the applied delta? -/
def State.waitsFor (s : State) (fn tag : Nat) : Bool := (s.outstanding fn).any fun i => i.tag == tag

/-- Is the job that a record or packet reports one of the applied delta? -/
def Loft.job (l : Loft) (p : Job → Bool) : Bool := l.eng.jobs.any fun e => p e.2

def Job.answers (fn tag : Nat) (j : Job) : Bool :=
  let is := fun (i : Option Issuer) => i == some { fn := fn, tag := tag }
  is j.by_ || j.waiters.any fun w => is w.1

/-- Each thing held at the failure is settled (Table 15.10, R392). -/
def State.settleHeld (s : State) (l : Loft) (held : List (Nat × HeldItem)) : State :=
  (held.foldl (fun (acc : State × List (Nat × Nat)) h =>
    let s := acc.1
    match h.2 with
    | .resp q k r => (if l.keeps q r then s.respondNow q k r else s.retry q, acc.2)
    | .record fn c =>
      if l.job (Job.answers fn c.tag) then (s.putCpl fn c, acc.2)
      else if s.waitsFor fn c.tag || acc.2.contains (fn, c.tag) then acc
      else (s.putCpl fn { status := .failoverRetry, tag := c.tag }, (fn, c.tag) :: acc.2)
    | .packet p k =>
      match k.body with
      | .jobDone _ _ _ _ =>
        if l.job fun j => j.agent == k.agt && j.jobid == k.tid then (s.sendPkt p k, acc.2)
        else (s.sendPkt p { k with body := .jobDone .failoverRetry 0 0 0 }, acc.2)
      | _ => (s.sendPkt p k, acc.2)) (s, [])).1

/-- Idempotency and job records of what the lost delta alone had are forgotten. -/
def State.restoreRecs (s : State) (l : Loft) (held : List (Nat × HeldItem)) : State :=
  let lost := held.filterMap fun h => match h.2 with
    | .resp q _ r => if l.keeps q r then none else some (q.agent, q.r.txid)
    | _ => none
  let s := s.onDir fun d => { d with agents := Tbl.mapKV d.agents fun a x =>
    { x with recs := x.recs.filter fun r => !lost.contains (a, r.txid) } }
  let known := fun (a : Nat) (r : JobRec) =>
    l.job (fun j => j.agent == a && j.jobid == r.jobid) || (Tbl.getD l.eng.recs a []).any fun x => x.jobid == r.jobid
  s.onEng fun e => { e with recs := Tbl.mapKV e.recs fun a rs => rs.filter (known a) }

/-- Step 3 of Table 15.8: the last applied delta becomes the state, the logs are merged, and requests are settled. -/
def State.takeLoft (s : State) : State :=
  let l := s.mir.loft
  let held := s.mir.held
  let late := s.dir.due
  let undone := s.rgn.revokes.filter fun w => !l.rgn.revokes.contains w
  let s := s.onMir fun m => { m with held := [], logs := [] }
  let s := s.onDir fun d => { d with due := d.due.filter fun x => !x.retried, transfers := d.transfers.filter fun t => (Tbl.find l.dir.transfers t.1).isSome }
  let s := s.restoreRecs l held
  let s := (s.restoreDir l).restoreRgn l
  let s := ((s.restoreJobs l).restoreFaults l).restoreSec l
  let s := s.onOpu fun o => { o with models := l.opu.models }
  -- a MAP_UPDATE's tables are written to both hubs, so its command goes on; any other open command of the lost delta is retried
  let drop := s.cmd.opens.filter fun o => o.2.op != 0x0301 && (Tbl.find l.opens o.1).isNone && !o.2.accepted
  let s := s.onCmd fun c => { c with opens := c.opens.filter fun o => o.2.op == 0x0301 || (Tbl.find l.opens o.1).isSome }
  let s := drop.foldl (fun s o => s.answer o.2.by_ .failoverRetry) s
  let s := (s.onFlt fun f => { f with hold := l.hold }).reconcile
  let failed := (List.range 16).filter fun k => s.stackFailed k
  let s := if failed.isEmpty then s else (s.rgn.regions.map Prod.fst).foldl (fun s r => s.settleRegion failed r) s
  let s := s.settleHeld l held
  let s := undone.foldl (fun s w => s.answer w.by_ .failoverRetry) s
  late.foldl (fun s x => s.retryDue x) s

/-- The switchover's boundary 1 (steps 3 and 4 of Table 15.8): the standby is primary, and the part runs SOLO (R447).
The row stands before the TICK_BOUNDARY that takes boundary 1, so that boundary has the next tick count. -/
def State.switchover (s : State) (cause : Nat) : State :=
  if s.mir.state != .switching || s.mir.hubsLost.contains (1 - s.mir.primary) then s
  else
    let h := 1 - s.mir.primary
    let s := s.onMir fun m => { m with state := .solo, primary := h, cause := if cause == 0 then m.cause else cause, changes := 0 }
    let s := s.takeLoft
    let s := s.gateStep.onFlt fun f => { f with rail := false, recovery := false }
    let b := s.tick + 1
    let s := (s.lifeAdd 3).raise blkMIR h 2 (b % 65536)
    let s := s.event s.providers evSWITCHOVER (leBytes 1 h ++ [0, 0, 0] ++ leBytes 4 b)
    s.takeKept

/-! ### FAILED (R448, R449) -/

/-- Keys overwritten: every slot, binding and the INT key (R449). The slots keep their states, which only Table 14.7 changes. -/
def State.eraseKeys (s : State) : State :=
  s.onSec fun c => { c with live := false, int := {}, bindings := [], binders := []
                            tenants := Tbl.mapKV c.tenants fun _ t => { t with key := {}, old := {} } }

/-- The part enters FAILED (R449). -/
def State.enterFailed (s : State) (cause : Nat) : State :=
  let alive := [s.mir.primary, 1 - s.mir.primary].find? fun h => !s.mir.hubsLost.contains h
  let s := s.onMir fun m => { m with state := .failed, fcause := cause, primary := alive.getD m.primary, held := [], sent := none }
  let s := (List.range 16).foldl (fun s p => s.downLink p) s
  let s := (List.range 32).foldl (fun s l => if s.isWatch l && alive.isSome then s else s.linkDown l) s
  let s := s.onEng fun e => { e with units := Tbl.mapKV e.units fun _ u => { u with running := none } }
  let s := (List.range 16).foldl (fun s k => if s.stackFailed k then s else s.setStack k fun x => { x with state := .selfRefresh }) s
  let s := s.agentLinks.eraseKeys.lifeAdd 4
  let s := if alive.isSome then s.saveCounters else s
  let s := s.fatalPin.onFlt fun f => { f with rail := false, recovery := false }
  let s := if cause == 2 then s.raise blkMIR s.mir.primary 3 (s.tick % 65536) else s
  match alive with
  | some _ => s.event [s.watchFn] evPART_FAILED (leBytes 1 cause)
  | none => s

/-- A case of Table 11 of the chapter has arisen (R448). -/
def State.partFailed (s : State) (cause : Nat) : State :=
  let both := s.mir.hubsLost.contains 0 && s.mir.hubsLost.contains 1
  let due := match cause with
    | 1 => s.glb.boot != 7 && both
    | 2 => s.mir.state == .switching
    | 3 => (s.mir.state == .solo && both) || (s.pwr.retLost && s.glb.change != .none)
    | 4 => both
    | _ => false
  if s.failedPart || !due then s else s.enterFailed cause

/-! ### RAIL_MISMATCH (R432) -/

/-- A pair found equal twice while dual-rail checking is on (Table 15.5). -/
def State.railMismatch (s : State) (blk j : Nat) : State :=
  if !s.flt.rail || !faultInstOk blk j || s.failedPart then s
  else
    let s := s.raiseRail blk j
    let die : Option Nat := if blk == blkFLT then (if 2 ≤ j then some (j - 2) else none) else if blkENG ≤ blk && blk ≤ blkMEC then some j else none
    if s.flt.test && !s.flt.recovery && s.glb.boot == 7 then s
    else match die with
      | some d => s.dieFails d
      | none =>
        if s.mir.state == .switching then s.enterFailed 2
        else
          let s := s.loseHub j
          if s.mir.hubsLost.contains 0 && s.mir.hubsLost.contains 1 then s.enterFailed 1
          else s.onMir fun m => { m with state := .solo, primary := 1 - j, sent := none }

end Sys2Proof.Machine
end

