-- ==== Sys2Proof/Machine/Pwr.lean ====
section
/-! DEFINITION. PWR: the power contract (R454 to R458), measurement (R459), throttle levels and the governor (R460 to R465),
readings and logging (R466, R467), and the input's samples (R525). -/

namespace Sys2Proof.Machine

/-- A contract minute in ns. -/
abbrev MIN_NS : Nat := 60000000000

/-- Stage of a throttle level (Table 16.4). -/
def stageOf (l : Nat) : Nat := if l == 0 then 0 else if l ≤ 12 then 1 else if l ≤ 18 then 2 else 3

/-- Token budget of a stack under level L and its own cap (Table 16.4, R464): the smaller of the two. -/
def State.tokenBudget (s : State) (k : Nat) : Nat :=
  let c := (s.stack k).capacity
  let l := s.pwr.level
  let b := if l == 0 then c else if l ≤ 12 then c * (16 - l) / 16 / 64 * 64 else c * 4 / 16
  if (s.stack k).capped then min b (c * 8 / 16) else b

/-! ### CONTRACT_LOAD (R457, R458) -/

/-- The entries of a CONTRACT_LOAD from START. -/
def packetEntries (p : Packet) (start n : Nat) : List Entry :=
  (List.range n).map fun k =>
    { start := start + k * MIN_NS, energy := p.dw (8 + 2 * k), avg := p.fld (9 + 2 * k) 15 0, peak := p.fld (9 + 2 * k) 31 16, idx := k }

/-- Is the entry within Table 16.1? -/
def Entry.ok (e : Entry) : Bool :=
  42000 ≤ e.energy && e.energy ≤ 96000 && 700 ≤ e.avg && e.avg ≤ 1600 && e.avg ≤ e.peak && e.peak ≤ 1600

/-- End of the stored entries; an entry that holds lasts to the end of its minute at least (R456). -/
def State.contractEnd (s : State) : Nat :=
  let e := match s.pwr.contract.getLast? with
    | some x => x.start + MIN_NS
    | none => 0
  if s.pwr.holding then max e (s.pwr.minute.start + MIN_NS) else e

/-- The first checks of Table 16.3, which need the packet alone. -/
def contractFault (p : Packet) : Option Nat :=
  let n := p.fld 6 5 0
  if n == 0 || 60 < n || p.len != 8 + 2 * n then some 6
  else if p.addr 4 % MIN_NS != 0 then some 4
  else none

/-- The checks of Table 16.3 in order: the DETAIL of the first that fails. -/
def State.contractCheck (s : State) (p : Packet) : Option Nat :=
  let n := p.fld 6 5 0
  let start := p.addr 4
  let m := s.pwr.minute.start
  if (contractFault p).isSome then contractFault p
  else if start < m || (!s.pwr.contract.isEmpty && s.contractEnd < start) then some 4
  else if m + 60 * MIN_NS < start + n * MIN_NS then some 6
  else (firstIdx (fun e => !Entry.ok e) (packetEntries p start n)).map fun k => 8 + 2 * k

/-- CONTRACT_LOAD (R457): the stored entries before START stay; from START onward the new ones replace them, and an entry for the
minute in force takes it over (R458). -/
def State.doContractLoad (s : State) (i : Issuer) (p : Packet) : State :=
  if !s.provider i then s.denied i
  else match s.contractCheck p with
    | some d => s.malformed i d
    | none =>
      let start := p.addr 4
      let es := packetEntries p start (p.fld 6 5 0)
      let s := s.onPwr fun w => { w with contract := w.contract.filter (fun e => e.start < start) ++ es }
      let s := if start == s.pwr.minute.start then s.onPwr fun w => { w with inForce := es.headD {}, holding := false } else s
      s.answer i .ok

/-! ### Measurement (R459, R525) -/

/-- Sum of the newest n samples. -/
def Pwr.sum (w : Pwr) (n : Nat) : Nat := (w.samples.take n).foldl (· + ·) 0

/-- An interval of network time that has ended is closed: P10MS of 10 ms, and the mean of a second. -/
def State.closeIntervals (s : State) : State :=
  let now := s.glb.time.now
  let s := if now / 10000000 == s.pwr.slot10 then s else s.onPwr fun w =>
    let v := w.acc10.1 / (100 * max 1 w.acc10.2)
    { w with p10s := (if w.acc10.2 == 0 then w.p10s else (v :: w.p10s).take 100)
             p10At := (if w.acc10.2 == 0 then w.p10At else 10000000 * (w.slot10 + 1))
             acc10 := (0, 0), slot10 := now / 10000000 }
  if now / SEC_NS == s.pwr.slotS then s else s.onPwr fun w =>
    { w with lastS := (if w.accS.2 == 0 then w.lastS else w.accS.1 / w.accS.2), accS := (0, 0), slotS := now / SEC_NS }

/-- The largest W1 and W10 of the minute, over windows that lie wholly within it. -/
def Minute.windows (m : Minute) (w : Pwr) : Minute :=
  { m with w1 := (if 10000 ≤ m.n then max m.w1 (w.sum 10000) else m.w1)
           w10 := (if 100000 ≤ m.n then max m.w10 (w.sum 100000) else m.w10) }

/-- A sample's power enters the averages and the minute's account. -/
def State.meterPower (s : State) (mw : Nat) : State :=
  s.closeIntervals.onPwr fun w =>
    let w := { w with samples := (mw :: w.samples).take 100000, count := w.count + 1
                      acc10 := (w.acc10.1 + mw, w.acc10.2 + 1), accS := (w.accS.1 + mw, w.accS.2 + 1) }
    let m := { w.minute with used := w.minute.used + mw, n := w.minute.n + 1 }
    { w with minute := m.windows w }

/-- A sample's voltage: LOW, OVER, VMIN, and the sag of R525. -/
def State.meterVolts (s : State) (mw mv : Nat) : State :=
  let sag := Nat.blt mv 60000 && s.pwr.armed
  let s := s.onPwr fun w =>
    let run := if mv < 61000 then 0 else min 10000 (w.okRun + 1)
    { w with vin := mv, iin := mw * 1000 / max 1 mv, low := Nat.blt mv 60000, tooHigh := Nat.blt 80000 mv, vmin := min w.vmin (mv / 10)
             okRun := run, armed := (w.armed || run == 10000) && !Nat.blt mv 60000 }
  if sag then (s.bump blkPWR 0x050C).raise blkPWR s.mir.primary 0 20 else s

/-- A 100 µs sample: input power in mW and input voltage in mV. -/
def State.powerSample (s : State) (mw mv : Nat) : State :=
  if !s.pwr.input then s else (s.meterPower mw).meterVolts mw mv

/-! ### Throttle levels (R460 to R462, R467, R468) -/

/-- THR_LEVEL as it acts. -/
def Pwr.thr (w : Pwr) : Nat := let v := bits w.ctrl.toNat 12 8; if v == 0 then 1 else min 19 v

/-- GUARD as it acts. -/
def Pwr.guard (w : Pwr) : Nat := max 0xC0 (bits w.ctrl.toNat 7 0)

/-- The highest floor in force (Table 16.5). -/
def Pwr.floor (w : Pwr) : Nat := max (if w.thrFloor then w.thr else 0) (if w.jFloor then 12 else 0)

/-- A forcing input is in force. -/
def State.forced (s : State) : Bool := s.pwr.thrFloor || s.pwr.jFloor || s.mcx.stk.any fun e => e.2.capped

/-- The event and the action record of a change of stage (R467, R468). -/
def State.stageChange (s : State) (old l : Nat) (forced : Bool) : State :=
  if stageOf old == stageOf l then s
  else
    let s := s.event s.providers evSTAGE_CHANGE (leBytes 1 (stageOf l) ++ leBytes 1 l ++ leBytes 1 (b2n forced))
    s.logRec 2 s.glb.time.now (leBytes 8 s.tick ++ leBytes 1 (stageOf old) ++ leBytes 1 (stageOf l) ++ leBytes 1 l ++ leBytes 1 (b2n forced))

/-- The throttle level set: engines that it gates move their queues (R461), and reaching 19 starts the change to 6.4 Gb/s. -/
def State.setLevel (s : State) (l : Nat) (forced : Bool) : State :=
  let old := s.pwr.level
  if l == old then s
  else
    let was := (List.range 256).filter fun n => s.gated n
    let s := s.onPwr fun w => { w with level := l, still := 0, minute := { w.minute with top := max w.minute.top l } }
    let s := if l == 19 then s.onPwr fun w => { w with rate := true, down := true } else s
    let new := (List.range 256).filter fun n => s.gated n && !was.contains n
    let s := new.foldl (fun s n => s.setUnit n fun u => { u with moving := true }) s
    s.stageChange old l forced

/-! ### The governor (R463 to R465) -/

/-- The target as a fraction of watts: numerator and denominator (R463). -/
def Pwr.target (w : Pwr) (now : Nat) : Nat × Nat :=
  let t := max (w.minute.start + MIN_NS - now) SEC_NS
  let left := (10000000 * w.inForce.energy - w.minute.used) * 100
  let lim := min w.inForce.peak w.inForce.avg
  let (n, d) := if left < 700 * t then (700, 1) else (left, t)
  let (n, d) := if lim * d < n then (lim, 1) else (n, d)
  (n * w.guard, d * 256)

/-- Is P1MS above the target times k ÷ 16, and is it below? -/
def Pwr.above (w : Pwr) (t : Nat × Nat) (k : Nat) : Bool :=
  let n := max 1 (min 10 w.samples.length)
  decide (t.1 * k * 1000 * n < w.sum 10 * t.2 * 16)
def Pwr.below (w : Pwr) (t : Nat × Nat) (k : Nat) : Bool :=
  let n := max 1 (min 10 w.samples.length)
  decide (w.sum 10 * t.2 * 16 < t.1 * k * 1000 * n)

/-- Forcing inputs whose release conditions hold end (R464). -/
def State.releaseForcing (s : State) : State :=
  let s := s.onPwr fun w =>
    { w with thrFloor := w.thrFloor && w.thrLow
             jFloor := w.jFloor && !Nat.ble (w.jAt + 1024) s.tick }
  s.onMcx fun m => { m with stk := Tbl.mapKV m.stk fun _ x =>
    match x.coolFrom with
    | some a => if a + 64 ≤ s.tick then { x with capped := false } else x
    | none => x }

/-- L after an evaluation, before the floor. -/
def Pwr.evalLevel (w : Pwr) (now : Nat) : Nat :=
  let t := w.target now
  if w.above t 17 then min 19 (w.level + 2)
  else if w.above t 16 then min 19 (w.level + 1)
  else if w.below t 15 && 16 ≤ w.still + 1 then w.level - 1
  else w.level

/-- Level 19 at an evaluation that gives `l` (R462): it is left only after the stacks are back at 8.0 Gb/s. -/
def State.atRate (s : State) (l : Nat) (forced : Bool) : State :=
  if s.pwr.rate then s
  else if l == 19 then (if s.pwr.down then s else s.onPwr fun w => { w with rate := true, down := true })
  else if s.pwr.down then s.onPwr fun w => { w with rate := true, down := false }
  else s.setLevel l forced

/-- The value written to `PWR_CTRL` applies from an evaluation on (R469). -/
def State.takePwrCtrl (s : State) : State :=
  match (s.glb.regNext.filter fun e => e.1 == 0x1300000).getLast? with
  | some (_, v) => (s.onPwr fun w => { w with ctrl := BitVec.ofNat 32 v }).onGlb fun g => { g with regNext := g.regNext.filter fun e => e.1 != 0x1300000 }
  | none => s

/-- The governor's evaluation at every 1024th tick boundary (R463). -/
def State.evaluate (s : State) : State :=
  if s.tick % 1024 != 0 || s.glb.boot != 7 || s.pwr.evalAt == some s.tick || s.failedPart || s.mir.state == .switching then s
  else
    let s := s.takePwrCtrl.releaseForcing.onPwr fun w => { w with evalAt := some s.tick }
    let now := s.glb.time.now
    let old := s.pwr.level
    let due := old == 19 && !s.pwr.rate && s.pwr.down && s.pwr.above (s.pwr.target now) 16 && !s.pwr.minute.reported
    let s := if due then (s.raise blkPWR s.mir.primary 2 s.pwr.inForce.idx).onPwr fun w => { w with minute := { w.minute with reported := true } } else s
    let l0 := s.pwr.evalLevel now
    let l := max l0 s.pwr.floor
    let s := s.onPwr fun w => { w with still := w.still + 1 }
    let s := if old == 19 then s.atRate l (l0 < l) else s.setLevel l (l0 < l)
    if old < l then s.bump blkPWR 0x0500 else s

/-! ### Forcing inputs (R464) -/

def State.throttleAssert (s : State) : State :=
  if s.pwr.thrLow then s
  else
    let s := s.onPwr fun w => { w with thrLow := true, thrAct := some (s.tick + 2), minute := { w.minute with throttled := true } }
    (s.bump blkPWR 0x0504).raise blkPWR s.mir.primary 3 0

def State.throttleRelease (s : State) : State := s.onPwr fun w => { w with thrLow := false }

/-- Order in which stacks change rate going down: the spread order of Table 2.2. -/
def rateOrder : List Nat := (List.range 16).map fun i => i % 4 * 4 + i / 4

/-- Does a scheduled retrain of another stack of k's die start within the 8 ticks from now (R462)? -/
def State.retrainNear (s : State) (k : Nat) : Bool :=
  (List.range 16).any fun j => j != k && dieOfStack j == dieOfStack k &&
    Nat.blt ((32 + 64 * j + 16384 - s.tick % 16384) % 16384) 8

/-- The next stack's change of rate, or the end of the whole change (R462). -/
def State.rateTick (s : State) : State :=
  if !s.pwr.rate || (List.range 16).any (fun k => (s.stack k).state == .rateChange) then s
  else
    let order := if s.pwr.down then rateOrder else rateOrder.reverse
    match order.find? fun k => (s.stack k).slow != s.pwr.down && (s.stack k).state != .failed && (s.stack k).state != .selfRefresh with
    | none => s.onPwr fun w => { w with rate := false }
    | some k =>
      let early : Bool := match s.pwr.rateLast with
        | some a => Nat.blt s.tick (a + 8)
        | none => false
      if early || (s.stack k).state != .ready || s.retrainNear k then s
      else (s.setStack k fun x => { x with state := .rateChange, busyTo := s.tick + 8 }).onPwr fun w => { w with rateLast := some s.tick }

/-- Does a stack still keep TEMP_ALERT_N low? -/
def Stack.alerting (x : Stack) (tick : Nat) : Bool :=
  (x.capped || x.capDue) && (match x.coolFrom with | some a => decide (tick < a + 64) | none => true)

/-- PWR's part of a tick boundary: the floors that act now, the rate change under way, the stages' account and TEMP_ALERT_N. -/
def State.pwrTick (s : State) : State :=
  let s := s.closeIntervals
  if s.glb.boot != 7 then s
  else
    let thr : Bool := match s.pwr.thrAct with
      | some a => Nat.ble a s.tick
      | none => false
    let s := s.onPwr fun w =>
      { w with thrFloor := w.thrFloor || thr, thrAct := (if thr then none else w.thrAct), jFloor := w.jFloor || w.jDue, jDue := false
               jAlert := w.jAlert && !Nat.ble (w.jAt + 1024) s.tick }
    let s := s.setLevel (max s.pwr.level s.pwr.floor) true
    let s := s.rateTick
    let st := stageOf s.pwr.level
    let s := s.onPwr fun w =>
      { w with minute := { w.minute with top := max w.minute.top w.level, stages := w.minute.stages.set st (w.minute.stages.getD st 0 + 1) } }
    let s := s.lifeAdd (5 + st)
    let low := s.pwr.jAlert || s.mcx.stk.any fun e => e.2.alerting s.tick
    s.onPins fun p => { p with tempAlert := p.tempAlert && low }

/-! ### The end of a minute (R454, R456, R465, R467) -/

/-- Broken limits of a minute: ENERGY, AVG, PEAK as bits 0 to 2. -/
def Minute.broken (m : Minute) (e : Entry) : Nat :=
  b2n (decide (10000000 * e.energy < m.used)) + 2 * b2n (decide (100000000 * e.avg < m.w10)) +
    4 * b2n (decide (10000000 * e.peak < m.w1))

/-- Joules of an account. -/
def Minute.joules (m : Minute) : Nat := m.used / 10000000

/-- Bytes 16 to 51 of a minute record (Table 17.5). -/
def Minute.record (m : Minute) (e : Entry) (flags : Nat) : List Byte :=
  leBytes 4 e.energy ++ leBytes 2 e.avg ++ leBytes 2 e.peak ++ leBytes 4 m.joules ++ leBytes 2 (satAt 65535 (m.w1 / 10000000)) ++
  leBytes 2 (satAt 65535 (m.w10 / 100000000)) ++ leBytes 1 m.top ++ leBytes 1 flags ++ leBytes 2 0 ++ m.stages.flatMap (leBytes 4)

/-- The entry for the minute that starts at m, and whether it holds on past its own (R456). -/
def entryAt (es : List Entry) (m : Nat) : Entry × Bool :=
  match (es.filter fun e => e.start ≤ m).getLast? with
  | none => ({}, false)
  | some e => (e, e.start != m)

/-- Records of minutes that a step of network time skipped, from minute `m` on; those that the buffer cannot take are counted. -/
def State.skipMinutes (s : State) (m n : Nat) : State :=
  let room := min n (256 - s.glb.logQ.length)
  let s := (List.range room).foldl (fun s k =>
    let t := m + k * MIN_NS
    s.logRec 1 t (({} : Minute).record (entryAt s.pwr.contract t).1 16)) s
  if room < n then s.bump blkGLB 0x050C (n - room) else s

/-- The next entry comes into force at the minute that starts at m; the one that holds is reported once. -/
def State.takeEntry (s : State) (m : Nat) : State :=
  let (e, hold) := entryAt s.pwr.contract m
  let first := hold && !s.pwr.holding
  let s := s.onPwr fun w =>
    { w with inForce := e, holding := hold, minute := { start := m }
             contract := w.contract.filter fun x => m ≤ x.start || (hold && x.start == e.start) }
  if first then s.event s.providers evCONTRACT_HOLDING (leBytes 1 e.idx) else s

/-- The end of the contract minute. -/
def State.minuteEnd (s : State) : State :=
  let m := s.pwr.minute
  let e := s.pwr.inForce
  let now := s.glb.time.now
  if now < m.start + MIN_NS || s.glb.boot != 7 then s
  else
    let b := m.broken e
    let s := if b == 0 then s else (s.bump blkPWR 0x0508).event s.providers evCONTRACT_EXCEEDED
      (leBytes 1 e.idx ++ leBytes 1 b ++ leBytes 2 0 ++ leBytes 4 m.joules ++ leBytes 2 (satAt 65535 (m.w1 / 10000000)))
    let s := s.logRec 1 m.start (m.record e (b + 8 * b2n m.throttled))
    let next := now / MIN_NS * MIN_NS
    let s := s.skipMinutes (m.start + MIN_NS) ((next - m.start) / MIN_NS - 1)
    (s.takeEntry next).saveCounters.onGlb fun g => { g with saveDue := false }

/-! ### POWER_READ (R466) -/

/-- Mean power of the last whole second to the nearest 5 W, ties up. -/
def round5 (mw : Nat) : Nat := (mw + 2500) / 5000 * 5

def State.doPowerRead (s : State) (i : Issuer) (p : Packet) : State :=
  let hist := bit (p.dw 2) 0
  let a := p.addr 4
  if !s.provider i && hist then s.denied i
  else if a % 64 != 0 then s.malformed i 4
  else if !s.provider i then s.answer i .ok 0 (place (round5 s.pwr.lastS) 16 0)
  else
    let w := s.pwr
    let s := if !hist then s else
      s.hostWrite i.fn 3 a (padTo 256 0 (leBytes 8 w.p10At ++ leBytes 8 0 ++ w.p10s.reverse.flatMap (leBytes 2)))
    s.answer i .ok 0 (place (w.p10s.headD 0) 16 0 + place w.level 5 16 + place (stageOf w.level) 3 21 + place w.inForce.idx 8 24) w.minute.joules

end Sys2Proof.Machine
end

