-- ==== Sys2Proof/Machine/Boot.lean ====
section
/-! DEFINITION. Rails and input (R520 to R526), cold reset and cold boot (R489 to R493), the references (R472), and the power
states (R497 to R502). -/

namespace Sys2Proof.Machine

/-! ### Rails (Tables 20.3 to 20.6, 20.9) -/

/-- State of domain k's rail; every domain is good after power-up. -/
def State.rail (s : State) (k : Nat) : RailState := Tbl.getD s.pwr.rails k .good

/-- Is domain k off by the power state (Table 20.4)? -/
def State.railSleep (s : State) (k : Nat) : Bool :=
  let watchHub := if s.isWatch 0 then 0 else 1
  match s.glb.pstate with
  | .active => false
  | .doze => 6 ≤ k && k < 10
  | .cellar =>
    if k < 2 then k != s.mir.primary
    else if k < 10 then true
    else if k < 14 then false
    else if k < 16 then k != 14 + watchHub
    else k < 18

/-- PG_OUT (R523). -/
def State.pgNow (s : State) : Bool := s.pwr.input && s.rail 18 == .good && (s.rail 0 == .good || s.rail 1 == .good)

/-- Every volatile state at its reset value; what outlives a cold reset is kept: the external flash, the levels of PERST_N, the
rails, and the input. -/
def State.cold (s : State) : State :=
  { State.reset with pending := s.pending, flash := s.flash, out := s.out, fresh := s.fresh
                     pins := { perst := s.pins.perst, pgOut := s.pins.pgOut }
                     pwr := { rails := s.pwr.rails, input := s.pwr.input } }

/-- Is the part powered: its input in band and AON good? -/
def State.powered (s : State) : Bool := s.pwr.input && s.rail 18 == .good

/-- A cold reset (R489, Table 18.4). -/
def State.coldReset (s : State) : State := if s.powered then s.cold else s

/-- Every domain off: the part holds nothing but the flash. -/
def State.powerOff (s : State) (input : Bool) : State :=
  let s := s.cold
  let rails := (List.range 20).map fun k => (k, if s.rail k == .fault then RailState.fault else .off)
  (s.onPwr fun w => { w with rails := rails, input := input }).onPins fun p => { p with pgOut := false }

/-- VIN rises through 57 V (Table 20.5): power-up, which restores every domain (R524). -/
def State.vinRise (s : State) : State :=
  if s.pwr.input then s
  else (s.cold.onPwr fun w => { w with rails := [], input := true }).onPins fun p => { p with pgOut := true }

/-- The input is lost (R526): a flash program under way is done, complete or torn. -/
def State.inputLoss (s : State) : State :=
  if !s.pwr.input then s
  else
    let (c, s) := s.draw
    let s := match s.glb.logQ, Config.tornProgram c % 3 with
      | r :: _, 1 => s.onFlash fun f => f.put r true
      | r :: _, 2 => s.onFlash fun f => f.put r false
      | _, _ => s
    s.powerOff false

/-- A domain faults (R524, Table 20.6). -/
def State.railFault (s : State) (k : Nat) : State :=
  if 20 ≤ k || !s.pwr.input || s.rail k != .good || s.railSleep k then s
  else
    let s := s.onPwr fun w => { w with rails := Tbl.put w.rails k .fault }
    let s := s.raise blkPWR s.mir.primary 1 k
    let s := s.onPins fun p => { p with pgOut := s.pgNow }
    if k == 18 then s.powerOff true
    else if k == 19 then
      (if s.glb.pstate == .cellar then s.onPwr fun w => { w with retLost := true } else s)
    else if s.glb.boot != 7 then s
    else if 2 ≤ k && k < 14 then s.dieFails ((k - 2) % 4)
    else s.hubFails (k % 2) blkPWR 0

/-- A junction reading of a hub (0, 1) or a cellar die (2 to 5) in °C (R464, Table 19.8). -/
def State.junction (s : State) (die t : Nat) : State :=
  if 6 ≤ die || !s.pwr.input then s
  else
    let s := if 100 < t then s.onPwr fun w => { w with jAt := s.tick } else s
    let s := if t < 103 then s else
      (s.onPwr fun w => { w with jDue := true, jAlert := true }).onPins fun p => { p with tempAlert := true }
    if t < 115 then s
    else
      let more := if die < 2 then [14 + die, 16 + die] else [4 + die, 8 + die]
      let s := s.railFault die
      s.onPwr fun w => { w with rails := more.foldl (fun r k => Tbl.put r k .fault) w.rails }

/-! ### Cold boot (Table 18.2) -/

/-- The division of a port as its number of links (R317). -/
def divLinks (c : Nat) : Nat := if c == 0 then 1 else if c == 1 then 2 else 4

/-- VFs of link l in a blob. -/
def vfsOf (b : BlobSlot) (l : Nat) : Nat := match b.vfs.find? fun e => e.1 == l with | some e => e.2 | none => 0

/-- Links that a blob's division provides. -/
def blobLinks (b : BlobSlot) : List Nat := (List.range 32).filter fun l => l % 4 < divLinks (b.divs.getD (l / 4) 0)

/-- Is the blob valid: signed, its lifetime store inside the flash (R512), each link's VFs and the number of its functions within
bounds (R318, R320)? -/
def blobValid (b : BlobSlot) (flashBytes : Nat) : Bool :=
  b.ok && b.lifeOff % 0x100000 == 0 && 0x01400000 ≤ b.lifeOff && b.lifeOff + 0x01000000 ≤ flashBytes &&
    b.divs.all (fun d => d < 3) && (blobLinks b).all (fun l => vfsOf b l ≤ 31) &&
    ((blobLinks b).foldl (fun n l => n + 1 + vfsOf b l) 0) ≤ 256

/-- The slot that ROM takes (R400, R401): A, else B; `none` where neither passes. The flag says slot B. -/
def pickSlot (rpmc : Bool) (ctr : Option Nat) (okA okB : Bool) (svnA svnB : Nat) : Option Bool :=
  match rpmc, ctr with
  | true, none => none
  | true, some c => if okA && c ≤ svnA then some false else if okB && c ≤ svnB then some true else none
  | false, _ => if okA then some false else if okB then some true else none

/-- The functions of every link, numbered from 0 (R320), and the links themselves. -/
def blobFunctions (b : BlobSlot) : Tbl PLink × Tbl Func :=
  (blobLinks b).foldl (fun (acc : Tbl PLink × Tbl Func) l =>
    let base := acc.2.length
    let n := vfsOf b l
    (acc.1 ++ [(l, { state := .down, fnBase := base, nfn := n + 1 })],
     acc.2 ++ (List.range (n + 1)).map fun v => (base + v, { link := l, vf := v, totalVfs := if v == 0 then n else 0 }))) ([], [])

/-- A hub has failed before READY: HUB_A or HUB_B reads 0, and its instance of SEC or the hub itself is lost. -/
def State.bootLose (s : State) (hubs : List Nat) : State := hubs.foldl (fun s h => s.loseHub h) s

/-- The boot ends in FAILED with both hubs lost (R448, cause 1). -/
def State.bootFailed (s : State) (step : Nat) : State :=
  ((s.onGlb fun g => { g with boot := step }).bootLose [0, 1]).enterFailed 1

/-- Steps 1 and 2 hold or fail (R488, R513): the step and the error code. -/
def bootHold (b : BootInfo) : Option (Nat × Nat) :=
  if bits b.strap 5 4 != 0 then some (1, 1)
  else if bits b.strap 1 0 == 3 then some (1, 2)
  else if b.erased && bits b.strap 1 0 == 2 then some (2, if b.enrolOk then 3 else 4)
  else none

/-- Hubs that do not pass boot: no seed (R398, R513), a domain of the hub faulted, or a Lutik of another digest (R400). -/
def State.bootHubs (s : State) (b : BootInfo) : List Nat :=
  let bad := fun (h : Nat) (seed : Bool) => b.erased || !seed || s.rail h == .fault || s.rail (14 + h) == .fault || s.rail (16 + h) == .fault
  let a := bad 0 b.seedA
  (if a then [0] else []) ++ (if bad 1 b.seedB || (!a && !b.agree) then [1] else [])

/-- Step 4: stacks train; those that fail are FAILED with cause 1 (R246). Dies with a faulted domain fail (R452, R522). -/
def State.bootStacks (s : State) (b : BootInfo) : State :=
  let s := s.onMcx fun m => { m with stk := (List.range 16).map fun k => (k, { state := .ready }) }
  let dead := (List.range 4).filter fun d => s.rail (2 + d) == .fault || s.rail (6 + d) == .fault || s.rail (10 + d) == .fault
  let s := dead.foldl (fun s d => s.failDie d) s
  let s := (b.stacksFailed.filter fun k => k < 16 && !s.stackFailed k).foldl (fun s k => s.failStacks [k] 1) s
  b.lanes.foldl (fun s l => if l.1 < 16 && !s.stackFailed l.1 then s.repairLanes l.1 [l.2] else s) s

/-- Step 6: the lifetime store and the calendar (R483, R486). -/
def State.bootLife (s : State) : State :=
  let f := s.flash
  let s := s.onGlb fun g => { g with life := f.counters, time := { g.time with now := Tbl.getD f.counters 80 0 } }
  if f.block == 0 then s.raise blkGLB s.mir.primary 2 0xFFFF
  else match f.badBlock with
    | some n => s.raise blkGLB s.mir.primary 2 n
    | none => s

/-- The state at READY (Table 18.3). -/
def State.bootReady (s : State) (b : BootInfo) (e : Option (Nat × Nat × Nat)) : State :=
  let s := s.lifeAdd 2
  let m := s.glb.time.now / MIN_NS * MIN_NS
  let es : List Entry := match e with
    | some (en, avg, peak) => [{ start := m, energy := en, avg := avg, peak := peak, idx := 0 }]
    | none => []
  let s := s.onPwr fun w => { w with contract := es, inForce := es.headD {}, minute := { start := m }
                                     slot10 := s.glb.time.now / 10000000, slotS := s.glb.time.now / SEC_NS }
  let s := s.onGlb fun g => { g with boot := 7, readyAt := g.tick, timeMs := b.timeMs % 65536, lutik := b.lutik }
  let (int, s) := s.drawKey
  let (key, s) := s.drawKey
  let s := s.onSec fun c => { c with int := int, tenants := [(0, { state := .active, key := key })] }
  let s := s.onFlt fun f => { f with rail := false }
  let s := s.logRec 3 s.glb.time.now (leBytes 8 (Tbl.getD s.glb.life 2 0) ++ leBytes 1 s.glb.time.state.code)
  s.onMir fun m => { m with loft := s.snapshot }

/-- Steps 4 to 7 with the images that step 3 took. -/
def State.bootRest (s : State) (b : BootInfo) (lutikB cfgB : Bool) (lost : List Nat) : State :=
  let img := if lutikB then b.lutikB else b.lutikA
  let blob := if cfgB then b.blobB else b.blobA
  let raised := fun (c : Option Nat) (svn : Nat) => if b.rpmc then max (c.getD 0) svn else 0
  let s := s.onSec fun c =>
    { c with identOk := true, rollback := b.rpmc, debug := bit b.strap 3, lutikB := lutikB, cfgB := cfgB
             lutikSvn := img.svn, cfgSvn := blob.svn, lutikCtr := raised b.lutikCtr img.svn, cfgCtr := raised b.blobCtr blob.svn, live := true }
  let (ls, fs) := blobFunctions blob
  let s := s.onPci fun p => { p with divs := (List.range 8).map (fun n => (n, blob.divs.getD n 0)), links := ls, funcs := fs }
  let s := s.onMir fun m => { m with primary := if lost.contains 0 then 1 else 0, state := if lost.isEmpty then .paired else .solo }
  let s := s.bootStacks b
  let s := s.onTlk fun t => { t with ports := (List.range 16).map fun p =>
    (p, { s.port p with started := true, state := if (s.port p).off then .disabled else .training }) }
  let s := (s.bootLose lost).onGlb fun g => { g with hubA := !lost.contains 0, hubB := !lost.contains 1 }
  let s := s.bootLife
  let s := s.bootReady b (match blob.entry with
    | some (en, avg, peak) => if ({ energy := en, avg := avg, peak := peak } : Entry).ok then blob.entry else none
    | none => none)
  (List.range 32).foldl (fun s l =>
    if (s.link l).state == .down && s.mayTrain l then s.setLink l fun k => { k with state := .training } else s) s

/-- A cold boot from the cold-reset state (Table 18.2). -/
def State.coldBoot (s : State) (b : BootInfo) : State :=
  if s.glb.boot != 0 || s.failedPart || !s.pins.pgOut then s
  else
    let s := s.onGlb fun g => { g with strap := b.strap % 64, sysclk := true, refclk := true }
    match bootHold b with
    | some (step, err) => s.onGlb fun g => { g with boot := step, bootErr := err }
    | none =>
      let lost := s.bootHubs b
      let seedLost := (if b.erased || !b.seedA then [0] else []) ++ (if b.erased || !b.seedB then [1] else [])
      let s := seedLost.foldl (fun s h => s.raise blkSEC h 0 0) s
      if lost.length == 2 then s.bootFailed 2
      else
        let lutik := pickSlot b.rpmc b.lutikCtr b.lutikA.ok b.lutikB.ok b.lutikA.svn b.lutikB.svn
        let blob := pickSlot b.rpmc b.blobCtr (blobValid b.blobA b.flashBytes) (blobValid b.blobB b.flashBytes) b.blobA.svn b.blobB.svn
        match lutik, blob with
        | some lb, some cb => s.bootRest b lb cb lost
        | _, _ => s.bootFailed 3

/-- RESET_N low for `ns` (R489). -/
def State.resetPin (s : State) (ns : Nat) : State := if ns < 10000 then s else s.coldReset

/-- SYSCLK is lost: a cold reset, and the boot that follows waits for it (R472). -/
def State.sysclkLost (s : State) : State :=
  if !s.powered then s else s.coldReset.onGlb fun g => { g with sysclk := false }

/-- REFCLK is lost: AON runs from its own oscillator, and every host link leaves UP (R472). -/
def State.refclkLost (s : State) : State :=
  (List.range 32).foldl (fun s l => s.hostDown l) (s.onGlb fun g => { g with refclk := false })

/-- REFCLK is back: host links train again. -/
def State.refclkBack (s : State) : State :=
  if s.glb.refclk then s
  else
    let s := s.onGlb fun g => { g with refclk := true }
    (List.range 32).foldl (fun s l =>
      if (s.link l).state == .down && s.mayTrain l then s.setLink l fun k => { k with state := .training } else s) s

/-! ### Power states (R497 to R502) -/

/-- May the function write GLB_PSTATE.TARGET now? -/
def State.mayPstate (s : State) (fn : Nat) : Bool := s.isProvider fn && s.barLive fn && s.glb.boot == 7 && !s.failedPart

/-- The first cause of R499 (or of Table 20.6, 5) that refuses G-CELLAR; 0 none. -/
def State.cellarRefusal (s : State) : Nat :=
  if s.eng.jobs.any fun e => !e.2.isRack then 1
  else if s.dir.entries.any (fun e => !e.2.sharers.isEmpty || !e.2.parked.isEmpty || (List.range 128).any fun a => e.2.holds a) ||
    s.dir.due.any (Due.isReq fun _ => true) then 2
  else if s.rgn.regions.any (fun e => e.2.state == .creating || e.2.state == .destroying || e.2.rack.isSome) || s.sec.rot.isSome ||
    !s.sec.removals.isEmpty then 3
  else if s.pwr.rate then 4
  else if s.rail 19 == .fault then 5
  else 0

/-- May a write of TARGET be taken: not in G-CELLAR, which only the watch link leaves, nor while its entry runs? -/
def State.targetOpen (s : State) (fn : Nat) : Bool :=
  s.mayPstate fn && !(s.cellar && s.glb.change == .none) && s.glb.change != .entering

/-- GLB_PSTATE.TARGET written (R497): the write is checked at step 1 of the next boundary, in its order among the tick's events
(R5). -/
def State.askTarget (s : State) (fn t : Nat) : State := if s.targetOpen fn then s.later (.pstate fn t) else s

/-- A request for G-CELLAR settled (R499, R500): refused with TARGET unchanged, or the entry begins. -/
def State.enterCellar (s : State) : State :=
  let c := s.cellarRefusal
  if c != 0 || s.glb.change != .none then s.onGlb fun g => { g with refuse := c }
  else
    let s := s.onGlb fun g => { g with target := 2, change := .entering, grace := some g.tick }
    let s := (List.range 16).foldl (fun s p => s.downLink p) s
    let s := (List.range 32).foldl (fun s l => s.linkDown l) s
    let s := (List.range 32).foldl (fun s l =>
      if s.isWatch l && s.mayTrain l then s.setLink l fun k => { k with state := .training } else s) s
    s.agentLinks.saveCounters

/-- A write of TARGET takes its effect (Table 18.5): 3 acts as 0, and the field keeps the value written (R8). During an exit it names
the state that READY brings (R502). -/
def State.takeTarget (s : State) (fn t : Nat) : State :=
  if !s.targetOpen fn then s
  else if t == 2 then s.enterCellar
  else s.onGlb fun g =>
    let a := if t == 1 then 1 else 0
    match g.change with
    | .none => { g with target := t, pstate := if a == 1 then .doze else .active }
    | _ => { g with target := t, change := .exiting a }

/-- Is every stack that has not failed in the state? -/
def State.stacksIn (s : State) (p : StackState) : Bool := s.mcx.stk.all fun e => e.2.state == p || e.2.state == .failed

/-- Every stack is in self-refresh: the part is in G-CELLAR (R500). -/
def State.cellarIn (s : State) : State :=
  if s.glb.change != .entering || !s.stacksIn .selfRefresh then s
  else
    let s := (s.onMir fun m => { m with loft := s.snapshot, sent := none }).release s.tick
    s.onGlb fun g => { g with pstate := .cellar, change := .none }

/-- TARGET 0 or 1 written through the watch link's PF (R502): the exit begins, 3 acting as 0; from 3 ms after the boundary that
follows, the stacks leave self-refresh (Table 18.6). -/
def State.cellarOut (s : State) (fn target : Nat) : State :=
  if !s.mayPstate fn || fn != s.watchFn || !s.cellar || s.glb.change != .none || target == 2 then s
  else
    let t := if target == 1 then 1 else 0
    let s := s.onGlb fun g => { g with target := target, change := .exiting t }
    let s := s.onFlt fun f => { f with rail := true, recovery := true }
    s.onMcx fun m => { m with wakeAt := some (s.tick + 1 + msTicks 3) }

/-- The agents whose links are down keep the loss time they had at the acceptance of the entry; it runs again 60 ms after READY
(R501). -/
def State.endGrace (s : State) : State :=
  let a := s.glb.grace.getD s.tick
  let r := s.tick + msTicks 60
  let s := s.onDir fun d => { d with agents := Tbl.mapKV d.agents fun _ x =>
    if x.up then x else { x with downAt := if x.downAt < a then r - (a - x.downAt) else r } }
  s.onGlb fun g => { g with grace := some r }

/-- The exit reaches READY (Table 18.6), or ends in FAILED where RET was lost (Table 20.6). -/
def State.cellarReady (s : State) : State :=
  match s.glb.change with
  | .exiting t =>
    if s.pwr.retLost then s.enterFailed 3
    else if !s.stacksIn .ready then s
    else
      let s := s.onGlb fun g => { g with pstate := if t == 1 then .doze else .active, change := .none }
      let s := s.onFlt fun f => { f with rail := false, recovery := false }
      let s := s.onTlk fun x => { x with ports := Tbl.mapKV x.ports fun p y =>
        if y.off || s.mir.hubsLost.contains (hubOfPort p) then y else { y with state := .training } }
      let s := (List.range 32).foldl (fun s l =>
        if s.isWatch l && (s.link l).state == .up then s.setLink l fun k => { k with state := .recovery }
        else if s.mayTrain l then s.setLink l fun k => { k with state := .training } else s) s
      (s.onMir fun m => { m with loft := s.snapshot }).endGrace
  | _ => s

/-- WAKE_N is driven low while an event waits for FN 0 and the watch link is not UP (R501). -/
def State.wakeLow (s : State) : Bool :=
  s.cellar && !(s.intake s.watchFn).evtBuf.isEmpty && (s.link (s.func s.watchFn).link).state != .up

end Sys2Proof.Machine
end

