-- ==== Sys2Proof/Machine/Regs.lean ====
section
/-! DEFINITION. What each register reads as (the register tables of every chapter, R529 to R540): BAR2 by block window, the function
registers of BAR0, and what a tenant function sees (R420, R437, R538). -/

namespace Sys2Proof.Machine

/-- A register: whether it is 64 bits wide, and its value. -/
abbrev RegVal := Option (Bool × Nat)

def reg32 (v : Nat) : RegVal := some (false, v % 2 ^ 32)
def reg64 (v : Nat) : RegVal := some (true, v % 2 ^ 64)

/-- Index of a register array at `base` with `n` words. -/
def arr (off base n : Nat) : Option Nat := if base ≤ off && off < base + 4 * n then some ((off - base) / 4) else none

/-- Statistic counters of a block: first offset, number, stride (R436). -/
def statRows (blk : Nat) : List (Nat × Nat × Nat) :=
  if blk = blkGLB then [(0x500, 4, 4)]
  else if blk = blkPCI then [(0x800, 32, 4), (0x880, 32, 4), (0x900, 32, 4), (0x980, 32, 4), (0xA00, 32, 4)]
  else if blk = blkTLK then [(0x500, 96, 4)]
  else if blk = blkTRT then [(0x700, 1, 4), (0x1000, 384, 8), (0x1E00, 24, 8), (0x1F00, 24, 8)]
  else if blk = blkMTR then [(0x1000, 384, 4)]
  else if blk = blkSCH then [(0x1000, 24, 4)]
  else if blk = blkXLT then [(0x300, 14, 4)]
  else if blk = blkDIR then [(0x300, 4, 4)]
  else if blk = blkRGN then [(0x144, 1, 4)]
  else if blk = blkENG then [(0x500, 16, 4)]
  else if blk = blkOPU then [(0x500, 26, 4)]
  else if blk = blkMCX then [(0x500, 64, 4)]
  else if blk = blkMEC then [(0x500, 4, 4)]
  else if blk = blkSEC then [(0x500, 2, 4), (0x50C, 1, 4)]
  else if blk = blkCMD then [(0x500, 4, 4)]
  else if blk = blkMIR then [(0x500, 1, 8), (0x508, 2, 4)]
  else if blk = blkPWR then [(0x500, 4, 4)]
  else []

/-- Is there a statistic counter at the offset? -/
def isStat (blk off : Nat) : Bool :=
  (statRows blk).any fun (r : Nat × Nat × Nat) => decide (r.1 ≤ off) && decide (off < r.1 + r.2.1 * r.2.2) && (off - r.1) % r.2.2 == 0

/-- Hub instance of a register that carries h (R533). -/
def hubInst (blk off : Nat) : Option Nat :=
  if blk = blkXLT ∧ 0x300 ≤ off ∧ off < 0x320 then some (off / 4 % 2) else none

def State.hubGone (s : State) (blk off : Nat) : Bool :=
  match hubInst blk off with
  | some h => s.mir.hubsLost.contains h
  | none => false

/-! ### Windows of BAR2 -/

/-- Is the part at READY and not FAILED? -/
def State.ready (s : State) : Bool := s.glb.boot == 7 && !s.failedPart

/-- Does window i answer (R540)? -/
def State.windowOn (s : State) (i : Nat) : Bool :=
  if s.failedPart || s.cellar then i == blkGLB || i == blkFLT || i == blkPWR
  else if s.glb.boot == 7 then i < 20
  else i == blkGLB

/-- GLB_STATUS (Table 21.3). -/
def State.glbStatus (s : State) : Nat :=
  place (b2n s.ready) 1 31 + place (b2n s.failedPart) 1 30 + place s.mir.primary 1 29 + place (b2n (s.mir.state == .solo)) 1 28 +
  place (match s.glb.pstate with | .active => 0 | .doze => 2 | .cellar => 3) 2 26 + place s.glb.time.state.code 2 24 +
  place (b2n s.faultLow) 1 15 + place (b2n s.alertLow) 1 14 + place (b2n s.pins.tempAlert) 1 13 + place (b2n s.wakeLow) 1 12 +
  place (b2n s.pwr.thrFloor) 1 11

/-- The last error of time as a 24-bit two's complement value, saturating (Table 17.6). -/
def Time.errField (t : Time) : Nat :=
  if 0 ≤ t.err then min t.err.toNat (2 ^ 23 - 1) else 2 ^ 24 - min t.err.natAbs (2 ^ 23)

/-- "GN1536-LC" (Table 21.3). -/
def orderCode : List Nat := [0x47, 0x4E, 0x31, 0x35, 0x33, 0x36, 0x2D, 0x4C, 0x43, 0, 0, 0, 0, 0, 0, 0]

def State.glbReg (s : State) (off : Nat) : RegVal :=
  let g := s.glb
  let t := g.time
  match off with
  | 0x000 => reg32 0x1E5B1536
  | 0x004 => reg32 0x10010221
  | 0x040 => reg32 s.glbStatus
  | 0x044 => reg32 (place (maskOf ((List.range 16).filter fun k => s.stackFailed k)) 16 16 +
      maskOf ((List.range 16).filter fun k => (s.stack k).state == .ready))
  | 0x048 => reg32 (maskOf ((List.range 20).filter fun i => s.windowOn i))
  | 0x200 => reg32 (place g.boot 3 29 + place (b2n g.hubA) 1 28 + place (b2n g.hubB) 1 27 + place g.bootErr 3 24 + g.timeMs % 65536)
  | 0x204 => reg32 (g.strap % 64)
  | 0x208 => reg32 (place (match g.pstate with | .active => 0 | .doze => 2 | .cellar => 3) 2 30 + place (b2n (g.change != .none)) 1 29 +
      place g.target 2 24 + place g.refuse 3 16)
  | 0x400 => reg32 t.ctrl.toNat
  | 0x404 => reg32 t.step.toNat
  | 0x408 => reg32 (place t.state.code 2 30 + place s.timeSrc 2 28 + t.errField)
  | 0x410 => reg64 t.now
  | 0x418 => reg64 g.tick
  | 0x420 => reg32 t.setDn.toNat
  | 0x424 => reg32 0
  | 0x600 => reg32 g.lifeSel.toNat
  | 0x604 => reg32 (place (b2n g.lifeValid) 1 31 + place s.flash.log.length 18 0)
  | _ =>
    match arr off 0x010 4, arr off 0x640 16 with
    | some k, _ => reg32 (leNat ((orderCode.drop (4 * k)).take 4 |>.map (BitVec.ofNat 8)))
    | _, some k => if k % 2 == 0 then reg64 (g.lifeData.getD (k / 2) 0) else none
    | _, _ => none

def State.pciReg (s : State) (off : Nat) : RegVal :=
  if off == 0 then reg32 s.pci.ctrl.toNat
  else match arr off 0x010 8, arr off 0x100 32, arr off 0x400 256 with
  | some n, _, _ => reg32 (Tbl.getD s.pci.divs n 0)
  | _, some l, _ =>
    let k := s.link l
    let sel := (k.ide.filter fun e => e.1 != 0 && e.2.keyed).length
    let ls := match Tbl.find k.ide 0 with | some i => i.keyed && i.secure | none => false
    reg32 (place k.state.code 3 29 + place k.rate 3 26 + place k.width 5 21 + place (b2n ls) 1 20 + place sel 4 16 + place k.fnBase 8 8 +
      place k.cause 2 6 + place k.nfn 6 0)
  | _, _, some f =>
    if !s.fnExists f then reg32 0
    else
      let x := s.func f
      reg32 (place 1 1 31 + place x.tdi.code 3 28 + place (b2n x.reset.isSome) 1 27 + place (b2n (x.agent != 0)) 1 26 + place x.tenant 6 20 +
        place x.link 5 15 + place x.agent 7 0)
  | _, _, _ => none

def State.tlkReg (s : State) (off : Nat) : RegVal :=
  if off == 0 then reg32 s.tlk.timers.toNat
  else if off == 4 then reg32 s.tlk.retry.toNat
  else match arr off 0x100 16, arr off 0x140 16, arr off 0x180 16, arr off 0x1C0 16 with
  | some p, _, _, _ =>
    let x := s.port p
    reg32 (place (b2n x.off) 1 29 + place (b2n x.encReq) 1 9 + place x.tlMax 4 4)
  | _, some p, _, _ =>
    let x := s.port p
    let up := x.state == .up      -- each training and retrain negotiates afresh (R270)
    reg32 (place x.state.code 3 29 + place (if up then x.tl else 0) 2 27 + place (b2n (up && x.enc)) 1 26 + place x.xoffRx 3 23 + place x.xoffTx 3 20 + place x.attempt 4 16 +
      place x.cause 4 12)
  | _, _, some p, _ => reg32 (s.port p).alloc.toNat
  | _, _, _, some p => reg32 (place (s.port p).head 14 16 + place (s.port p).loopNs 16 0)
  | _, _, _, _ => none

/-- Is a port of a route UP: a Trellis port, or a host port with a link UP? -/
def State.portReach (s : State) (p : Nat) : Bool :=
  if p < 16 then s.portUp p else (List.range 4).any fun k => (s.link (4 * (p - 16) + k)).state == .up

/-- Live jobs that push to a group (GROUP_LIVE). -/
def State.groupPushes (s : State) (g : Nat) : Nat := (s.eng.jobs.filter fun e => e.2.op == 8 && !e.2.isStep && e.2.dw 15 % 256 == g).length

/-- Telemetry as BAR2 reads it: the latched values while frozen (R313). -/
def State.telemetryNow (s : State) (off : Nat) : Nat := if s.trt.frozen then Tbl.getD s.trt.latched off 0 else s.telemetry off

def State.trtReg (s : State) (off : Nat) : RegVal :=
  let g := Tbl.getD s.trt.groups s.trt.groupSel {}
  if off == 0 then reg32 (place (b2n s.trt.frozen) 1 31)
  else if off == 4 then reg32 0
  else if off == 0x600 then reg32 s.trt.groupSel
  else if off == 0x604 then reg32 (place g.owner 6 24 + place g.mask 24 0)
  else if off == 0x620 then reg32 (s.groupPushes s.trt.groupSel)
  else match arr off 0x100 128, arr off 0x300 128, arr off 0x610 4, arr off 0x1C00 96 with
  | some n, _, _, _ => reg32 (place (s.route n).pref 5 24 + place (s.route n).ports 24 0)
  | _, some n, _, _ =>
    let r := s.route n
    reg32 (place (b2n ((maskBits 24 r.ports).any fun p => s.portReach p)) 1 31 + place (b2n r.msg.isSome) 1 5 + place (r.msg.getD 0) 5 0)
  | _, _, some w, _ => reg32 (leNat ((g.members.drop (4 * w)).take 4 |>.map (BitVec.ofNat 8)))
  | _, _, _, some _ => reg32 (s.telemetryNow off)
  | _, _, _, _ => none

def State.mtrReg (s : State) (off : Nat) : RegVal :=
  let m := fun (n : Nat) => Tbl.getD s.mtr n {}
  match arr off 0x100 128, arr off 0x300 128, arr off 0x500 128, arr off 0x700 128, arr off 0x900 128 with
  | some n, _, _, _, _ => reg32 (place (m n).pir 16 16 + place (m n).cir 16 0)
  | _, some n, _, _, _ => reg32 (place (b2n (m n).active) 1 31 + place (m n).home 1 30 + place (m n).cbs 24 0)
  | _, _, some n, _, _ => reg32 (place (m n).pbs 24 0)
  | _, _, _, some n, _ => reg32 (place (m n).tcAt 24 0)
  | _, _, _, _, some n => reg32 (place (m n).tpAt 24 0)
  | _, _, _, _, _ => none

def State.schReg (s : State) (off : Nat) : RegVal :=
  if off == 0x600 then reg32 s.sch.sel.toNat
  else match arr off 0x100 128, arr off 0x300 24, arr off 0x400 24, arr off 0x480 24, arr off 0x800 256 with
  | some n, _, _, _, _ => let x := Tbl.getD s.sch.subs n (0, 16); reg32 (place x.1 3 8 + place x.2 8 0)
  | _, some p, _, _, _ =>
    let w := (s.schPort p).weights
    reg32 (place (w.getD 3 0) 8 24 + place (w.getD 2 0) 8 16 + place (w.getD 1 0) 8 8 + place (w.getD 0 0) 8 0)
  | _, _, some p, _, _ =>
    let x := s.schPort p
    reg32 (place (b2n x.pendingList.isSome) 1 31 + place (b2n x.oper.entries.isEmpty) 1 30 + place x.entry 8 8 + place x.gates 8 0)
  | _, _, _, some p, _ => reg32 (place (s.schPort p).oper.cycle 24 0)
  | _, _, _, _, some k =>
    let x := s.schPort (bits s.sch.sel.toNat 4 0)
    let l := if bit s.sch.sel.toNat 8 then x.pendingList.getD {} else x.oper
    match l.entries[k]? with
    | some e => reg32 (place e.2 16 8 + place e.1 8 0)
    | none => reg32 0
  | _, _, _, _, _ => none

def State.xltReg (s : State) (off : Nat) : RegVal :=
  match off with
  | 0 => reg32 s.xlt.ctrl.toNat
  | 4 => reg32 (place (b2n s.xlt.warm) 1 31 + bits s.xlt.hot.toNat 16 0)
  | 8 => reg32 (place (TABLES - s.xlt.tables) 20 0)
  | 12 => reg32 (place s.xlt.faultPeak 11 16 + place s.xlt.faults.length 11 0)
  | _ => match arr off 0x100 128 with
    | some n => reg32 (place (b2n (Tbl.find s.xlt.owner n).isSome) 1 16 + place (Tbl.getD s.xlt.ownerField n 0) 8 0)
    | none => none

/-- An entry as the eight words of Table 3.2. -/
def State.entryWords (s : State) (i : Nat) : List Word :=
  let e := s.entry i
  leWords 8 (place (e.link.getD i) 20 236 + place e.region 12 224 + place e.access 16 208 + place e.gen 24 184 + place e.deadField 16 168 +
    place (b2n (!e.parked.isEmpty)) 1 167 + place e.holder 7 160 + place e.state.code 3 157 + place e.view 2 155 + place (b2n e.prior) 1 154 +
    place (b2n e.wb.isSome) 1 153 + place (b2n e.torn) 1 152 + place (maskOf e.sharers) 128 0)

/-- Pages that an agent holds HELD. -/
def State.heldPages (s : State) (a : Nat) : Nat := (s.dir.entries.filter fun e => e.2.state == .held && e.2.holder == a).length

/-- STATE of DIR_AGENT_STATE (Table 3.13). -/
def AgentSt.code (a : AgentSt) : Nat := if !a.known then 0 else if a.lost then 3 else if a.up then 1 else 2

def State.dirReg (s : State) (off : Nat) : RegVal :=
  match off with
  | 0 => reg32 s.dir.ctrl.toNat
  | 4 => reg32 (place s.dir.peak 15 16 + place s.parkedCount 15 0)
  | 0x10 => reg32 s.dir.sel
  | _ => match arr off 0x20 8, arr off 0x100 128 with
    | some k, _ => reg32 (s.dir.data.getD k 0).toNat
    | _, some n => reg32 (place (s.heldPages n) 20 12 + (s.agentSt n).code)
    | _, _ => none

/-- Pages in a region: those of its data bins, less the removed ones (Table 2.14), and less those that a BIN_ADD still scrubs (Table 2.6). -/
def Region.pages (g : Region) : Nat :=
  (g.bins.filter fun b => !b.reserve && b.mirrorOf.isNone && !b.removed && (b.ready || g.state == .creating)).foldl (fun n b => n + g.binPages b) 0

def State.rgnReg (s : State) (off : Nat) : RegVal :=
  let g := s.region s.rgn.sel
  match off with
  | 0 => reg32 s.rgn.sel
  | 4 => reg32 (place g.state.code 3 28 + place g.owner 6 22 + place (b2n g.versioned) 1 21 + place (b2n g.mirror) 1 20 + place g.hash 3 17 +
      place g.placeMode 2 15 + place g.psz 2 13 + place (b2n g.pub.isSome) 1 12 + place g.acl.length 12 0)
  | 8 => reg32 (place g.pages 20 0)
  | 0xC => reg32 g.vintage
  | 0x10 => reg32 (place s.rgn.vintageHi 16 0)
  | 0x140 => reg32 (place ((List.range 3072).filter fun k => s.ovfFree k).length 12 0)
  | _ => match arr off 0x100 16 with
    | some n => reg32 (place (s.largestRun n) 16 16 + place (s.freeUnits n) 16 0)
    | none => none

def State.engReg (s : State) (off : Nat) : RegVal :=
  match off with
  | 0 => reg32 s.eng.ctrl.toNat
  | 8 => reg32 (place s.eng.peak 13 16 + place s.eng.jobs.length 13 0)
  | _ => match arr off 0x100 256 with
    | some n =>
      let u := s.unit n
      reg32 (place (b2n u.offline) 1 31 + place (b2n u.failed) 1 30 + place (n / 16) 4 20 + place (b2n u.running.isSome) 1 9 +
        place u.queue.length 9 0)
    | none => none

def State.opuReg (s : State) (off : Nat) : RegVal :=
  let use := fun (used peak : Tbl Nat) (d : Nat) =>
    reg32 (place (ceilDiv (Tbl.getD peak d 0) 65536) 10 16 + place (ceilDiv (Tbl.getD used d 0) 65536) 10 0)
  match off with
  | 0 => reg32 s.opu.ctrl.toNat
  | 4 => reg32 s.opu.stepCtrl.toNat
  | _ => match arr off 0x10 4, arr off 0x20 4, arr off 0x100 16, arr off 0x140 16 with
    | some d, _, _, _ => use s.opu.stage s.opu.stagePeak d
    | _, some d, _, _ => use s.opu.used s.opu.peak d
    | _, _, some m, _ =>
      let x := Tbl.getD s.opu.models m {}
      let live := (s.eng.jobs.filter fun e => match e.2.step with | some r => r.model == m | none => false).length
      reg32 (place x.state.code 3 29 + place x.owner 6 23 + place live 7 16)
    | _, _, _, some m =>
      let x := Tbl.getD s.opu.models m {}
      reg32 (place (x.placed.filter fun l => !l.2.lost).length 9 16 + place x.layers 9 0)
    | _, _, _, _ => none

/-- The STATE code of MCX_STACK_STATUS. -/
def StackState.code : StackState → Nat
  | .training => 0 | .ready => 1 | .retrain => 2 | .rateChange => 3 | .selfRefresh => 4 | .failed => 5

def State.mcxReg (s : State) (off : Nat) : RegVal :=
  if off == 0 then reg32 s.mcx.ctrl.toNat
  else match arr off 0x100 32, arr off 0x200 16, arr off 0x280 16, arr off 0x2C0 16 with
  | some k, _, _, _ =>
    if k % 4 == 3 then none
    else
      let m := hashMasks.getD (k / 4) []
      reg32 (place (m.getD (2 * (k % 4) + 1) 0) 15 16 + place (m.getD (2 * (k % 4)) 0) 15 0)
  | _, some k, _, _ =>
    let x := s.stack k
    reg32 (place x.state.code 3 29 + place (b2n x.slow) 1 28 + place (b2n x.hot) 1 27 + place (b2n x.skew) 1 26 + place x.temp 8 16 +
      place x.cause 4 12 + place x.lanes.length 8 0)
  | _, _, some k, _ => reg32 (place (s.stack k).ratio 16 16 + place (s.stack k).skewRegion 12 0)
  | _, _, _, some k => reg32 ((s.stack k).capacity / 64)
  | _, _, _, _ => none

/-- The STATE code of Table 14.6. -/
def SlotState.code : SlotState → Nat | .empty => 0 | .active => 1 | .rotating => 2 | .draining => 3 | .zeroized => 4

def State.secReg (s : State) (off : Nat) : RegVal :=
  let c := s.sec
  match off with
  | 0 => reg32 (place (b2n c.identOk) 1 31 + place (b2n c.rollback) 1 30 + place (b2n c.debug) 1 29 + place (b2n c.lutikB) 1 28 +
      place (b2n c.cfgB) 1 27 + place c.bindings.length 7 8 + place (c.tenants.filter fun t => t.2.state != .empty).length 7 0)
  | 4 => reg32 (place c.lutikSvn 16 16 + place c.cfgSvn 16 0)
  | 8 => reg32 (place c.lutikCtr 16 16 + place c.cfgCtr 16 0)
  | 0x380 => match c.rot with
    | some r => reg32 (place 1 1 31 + place r.tenant 6 0)
    | none => reg32 0
  | _ => match arr off 0x10 12, arr off 0x100 64, arr off 0x200 64, arr off 0x300 16, arr off 0x390 16, arr off 0x400 64 with
    | some k, _, _, _, _, _ => reg32 (leNat ((Config.ident.drop (4 * k)).take 4))
    | _, some t, _, _, _, _ => reg32 (place (s.tenant t).state.code 3 29 + place (s.tenant t).gen 8 16)
    | _, _, some t, _, _, _ => reg32 (place (s.quotaOf t) 20 0)
    | _, _, _, some p, _, _ =>
      let k := s.linkKeys p
      reg32 (place k.sel 1 4 + b2n k.tx0.set + 2 * b2n k.tx1.set + 4 * b2n k.rx0.set + 8 * b2n k.rx1.set)
    | _, _, _, _, some k, _ => reg32 (place (s.front k / 64) 31 0)
    | _, _, _, _, _, some b => match Tbl.find c.bindings b with
      | some x => reg32 (place 1 1 31 + place x.region 12 0)
      | none => reg32 0
    | _, _, _, _, _, _ => none

/-- Entry in slot k of a history queue (Table 15.13). -/
def FltInst.slot (f : FltInst) (k : Nat) : Nat := ((f.hist[(k + f.hist.length + 8 - f.next) % 8]?).getD 0).toNat

/-- Is the instance of a block on a hub that has failed (R533)? -/
def State.instGone (s : State) (b j : Nat) : Bool :=
  !(blkENG ≤ b && b ≤ blkMEC) && j < 2 && s.mir.hubsLost.contains j

/-- The overflow flags of word w of block b. -/
def State.ovfWord (s : State) (b w : Nat) : Nat :=
  maskOf ((List.range 32).filter fun k => (Tbl.find s.flt.ovf (statKey b (4 * (32 * w + k)))).isSome)

def State.fltReg (s : State) (off : Nat) : RegVal :=
  if off == 0 then reg32 (4 * b2n s.flt.test + 2 * b2n s.flt.recovery + b2n s.flt.rail)
  else if off == 4 then reg32 (place (b2n s.flt.pulse) 1 31 + place (b2n s.faultLow) 1 30 + b2n s.holdField)
  else if 0x1000 ≤ off && off < 0x1000 + 20 * 0x400 then
    let b := (off - 0x1000) / 0x400
    let j := (off - 0x1000) % 0x400 / 0x80
    let r := (off - 0x1000) % 0x80
    if !faultInstOk b j then none
    else
      let f := if s.instGone b j then {} else s.fltInst b j
      if r == 0 then reg32 (f.status b)
      else if r == 4 then reg32 f.mask
      else if 0x40 ≤ r && r % 8 == 0 then reg64 (f.slot ((r - 0x40) / 8))
      else none
  else if 0x8000 ≤ off && off < 0x8000 + 20 * 0x100 then reg32 (s.ovfWord ((off - 0x8000) / 0x100) ((off - 0x8000) % 0x100 / 4))
  else none

def State.mirReg (s : State) (off : Nat) : RegVal :=
  match off with
  | 0 => reg32 (place s.mir.state.code 3 29 + place s.mir.primary 1 28 + place s.mir.fcause 4 4 + place s.mir.cause 4 0)
  | 4 => reg32 (place s.mir.deltaPeak 16 0)
  | _ => none

def State.pwrReg (s : State) (off : Nat) : RegVal :=
  let w := s.pwr
  match off with
  | 0x00 => reg32 w.ctrl.toNat
  | 0x04 => reg32 (place (stageOf w.level) 3 29 + place w.level 5 24 + place (b2n s.forced) 1 23 + place (b2n (w.inForce.idx != 0xFF)) 1 22 +
      place (b2n w.holding) 1 21 + place (b2n w.rate) 1 20 + place w.inForce.idx 8 8)
  | 0x08 => reg32 (place (w.p10s.headD 0) 16 0)
  | 0x0C => reg32 w.minute.joules
  | 0x10 => reg32 (place (satAt 65535 (w.iin / 10)) 16 16 + place (satAt 65535 (w.vin / 10)) 16 0)
  | 0x14 => reg32 (if w.count == 0 then 0 else Config.busRead w.count)
  | 0x18 => reg32 (place (b2n w.low) 1 31 + place (b2n w.tooHigh) 1 30 + place w.vmin 16 0)
  | _ => match arr off 0x100 20 with
    | some k =>
      let sleep := s.railSleep k && s.rail k != .fault
      let st := if sleep then RailState.off else s.rail k
      let read := if w.count == 0 || st != .good then 0 else Config.railRead k w.count % 2 ^ 29
      reg32 (place st.code 2 30 + place (b2n sleep) 1 29 + read)
    | none => none

/-- A register of block window i, statistic counters included; the register that starts at the offset. -/
def State.blockReg (s : State) (i off : Nat) : RegVal :=
  if isStat i off then
    let v := if s.hubGone i off then 0 else if i == blkTRT then s.telemetryNow off else s.stat i off
    if statWide i off then reg64 v else reg32 v
  else if i = blkGLB then s.glbReg off else if i = blkPCI then s.pciReg off else if i = blkTLK then s.tlkReg off
  else if i = blkTRT then s.trtReg off else if i = blkMTR then s.mtrReg off else if i = blkSCH then s.schReg off
  else if i = blkXLT then s.xltReg off else if i = blkDIR then s.dirReg off else if i = blkRGN then s.rgnReg off
  else if i = blkENG then s.engReg off else if i = blkOPU then s.opuReg off else if i = blkMCX then s.mcxReg off
  else if i = blkSEC then s.secReg off
  else if i = blkCMD then (if off == 0 then reg32 s.glb.lutik.toNat else none)
  else if i = blkFLT then s.fltReg off else if i = blkMIR then s.mirReg off else if i = blkPWR then s.pwrReg off
  else none

/-- The value last written to a register whose value applies later (R8, R534). -/
def State.written (s : State) (off : Nat) : Option Nat :=
  ((s.glb.regNext.filter fun e => e.1 == off).getLast?).map Prod.snd

/-- The register that starts at a BAR2 offset. -/
def State.bar2Reg (s : State) (off : Nat) : RegVal :=
  if off % 4 != 0 || 0x01400000 ≤ off then none
  else match s.written off with
    | some v => if off == 0x600004 then (s.blockReg 6 4).map fun r => (r.1, place (b2n s.xlt.warm) 1 31 + v) else reg32 v
    | none => s.blockReg (off / 0x100000) (off % 0x100000)

/-! ### Function registers in BAR0 (Tables 11.10, 13.10, 21.4) -/

def State.fnReg (s : State) (fn off : Nat) : RegVal :=
  let f := s.func fn
  let i := s.intake fn
  match off with
  | 0x0000 => reg32 (place f.tdi.code 2 30 + place f.link 5 25 + place (b2n (f.agent != 0)) 1 24 + place f.tenant 6 16 + place f.agent 7 8 + fn % 256)
  | 0x0010 => reg32 (place (f.winNext.getD f.winBase) 16 0)
  | 0x0020 => reg64 (place (f.ring.addr / 128) 57 7)
  | 0x0028 => reg32 f.ring.ctrl.toNat
  | 0x002C => reg32 (place f.ring.head 17 0)
  | 0x0030 => reg32 (place f.ring.tail 17 0)
  | 0x0040 => reg64 (place (b2n f.winErr) 1 59 + place (f.winPva / 64) 46 6)
  | 0x0048 => reg32 (place f.winStatus 8 0)
  | 0x0088 => reg64 0
  | 0x0080 => reg32 (place (b2n f.viewDenied) 1 31 + f.viewAddr % 2 ^ 25 / 4 * 4)
  | 0x1000 => reg32 0
  | 0x1004 => reg32 0
  | 0x1008 => reg32 (place (b2n i.part.isSome) 1 31 + place i.space 11 16 + place i.waiting 10 0)
  | 0x100C => reg32 (place (b2n i.flush) 1 30 + place i.discarded 16 0)
  | 0x1010 => reg32 (place (b2n i.overflow) 1 9 + place (b2n i.framing) 1 8 + place (b2n i.hello) 1 3 + place i.minor 3 0)
  | 0x1020 => reg64 (place (i.cpl.addr / 4096) 52 12)
  | 0x1028 => reg32 (i.cplNext.getD i.cpl.ctrl).toNat
  | 0x102C => reg32 (place i.cpl.head 17 0)
  | 0x1030 => reg32 (place i.cpl.tail 17 0)
  | 0x1040 => reg64 (place (i.evt.addr / 4096) 52 12)
  | 0x1048 => reg32 (i.evtNext.getD i.evt.ctrl).toNat
  | 0x104C => reg32 (place i.evt.head 17 0)
  | 0x1050 => reg32 (place i.evt.tail 17 0)
  | 0x1054 => reg32 i.evtLost
  | _ => none

/-! ### What a tenant function sees (R314, R368, R420, R437, R538) -/

/-- Ports in the routes of a tenant's agents. -/
def State.tenantPorts (s : State) (t : Nat) : Nat :=
  (s.agentsOf t).foldl (fun m a => maskOr m (s.route a).ports) 0

/-- Port that a counter or register of TRT or SCH belongs to. -/
def portOfReg (i off : Nat) : Option Nat :=
  if i = blkTRT then
    (if 0x1000 ≤ off ∧ off < 0x1C00 then some ((off - 0x1000) % 0x300 / 32)
     else if 0x1E00 ≤ off ∧ off < 0x1EC0 then some ((off - 0x1E00) / 8)
     else if 0x1F00 ≤ off ∧ off < 0x1FC0 then some ((off - 0x1F00) / 8) else none)
  else if i = blkSCH then
    (match arr off 0x300 24, arr off 0x400 24, arr off 0x480 24, arr off 0x1000 24 with
     | some p, _, _, _ => some p
     | _, some p, _, _ => some p
     | _, _, some p, _ => some p
     | _, _, _, some p => some p
     | _, _, _, _ => none)
  else none

/-- Agent that a register of MTR, SCH_SUB or TRT_ROUTE belongs to. -/
def agentOfReg (i off : Nat) : Option Nat :=
  if i = blkMTR then (if 0x100 ≤ off ∧ off < 0xB00 then some ((off - 0x100) % 0x200 / 4)
    else if 0x1000 ≤ off ∧ off < 0x1600 then some ((off - 0x1000) % 0x200 / 4) else none)
  else if i = blkSCH then arr off 0x100 128
  else if i = blkTRT then arr off 0x100 128
  else none

/-- Does the register's chapter make it readable through a function of tenant t other than 0? -/
def State.tenantSees (s : State) (t i off : Nat) : Bool :=
  let port := match portOfReg i off with | some p => bit (s.tenantPorts t) p | none => false
  let agent := match agentOfReg i off with | some a => a != 0 && s.tenantOf a == t | none => false
  if isStat i off then
    (if i = blkTRT ∨ i = blkSCH then port else if i = blkMTR then agent
     else [blkDIR, blkXLT, blkENG, blkOPU, blkMCX, blkTLK, blkPCI].contains i)
  else if i = blkTRT ∨ i = blkMTR then agent
  else if i = blkSCH then port || agent
  else if i = blkOPU then
    (match arr off 0x100 16, arr off 0x140 16 with
     | some m, _ => (Tbl.getD s.opu.models m {}).state != .free && (Tbl.getD s.opu.models m {}).owner == t
     | _, some m => (Tbl.getD s.opu.models m {}).state != .free && (Tbl.getD s.opu.models m {}).owner == t
     | _, _ => false)
  else false

/-- Registers readable through every function (R423, R539). -/
def everyFn (i off : Nat) : Bool :=
  (i == blkGLB && (off == 0 || off == 4 || (arr off 0x10 4).isSome)) || (i == blkSEC && (off == 0 || (arr off 0x10 12).isSome))

/-- A statistic counter as a tenant reads it (R420, R437). -/
def State.coarse (s : State) (i off : Nat) : Nat :=
  if s.stat i off == statMax i off then statMax i off
  else if s.hubGone i off then 0
  else 4096 * (Tbl.getD s.latched (statKey i off) 0 / 4096)

/-- Is the offset the high word of a 64-bit register, which starts 4 below? -/
def State.highOf (s : State) (off : Nat) : Bool :=
  off % 8 == 4 && (s.bar2Reg off).isNone && (match s.bar2Reg (off - 4) with | some (true, _) => true | _ => false)

/-- BAR2 as the provider reads the word at `off`: low words of 64-bit registers give the whole value (R537). -/
def State.provRead (s : State) (off : Nat) : Nat :=
  if !s.windowOn (off / 0x100000) then 0
  else match s.bar2Reg off with
    | some (_, v) => v
    | none => if s.highOf off then (Tbl.find s.glb.hiLatch off).getD (match s.bar2Reg (off - 4) with | some (_, v) => v / 2 ^ 32 | none => 0) else 0

/-- A read through the view of a function that is not the provider's: the value, and whether it was denied (R538). -/
def State.tenantRead (s : State) (fn off : Nat) : Nat × Bool :=
  let base := if s.highOf off then off - 4 else off
  let i := base / 0x100000
  let o := base % 0x100000
  let t := (s.func fn).tenant
  if !s.windowOn i || (s.bar2Reg base).isNone then (0, false)
  else
    let whole : Option Nat :=
      if everyFn i o then (s.bar2Reg base).map Prod.snd
      else if t == 0 then none
      else if i == blkFLT && 0x8000 ≤ o then
        let b := (o - 0x8000) / 0x100
        let w := (o - 0x8000) % 0x100 / 4
        some (maskOf ((maskBits 32 (s.ovfWord b w)).filter fun k => s.tenantSees t b (4 * (32 * w + k))))
      else if !s.tenantSees t i o then none
      else if isStat i o then some (s.coarse i o)
      else (s.bar2Reg base).map Prod.snd
    match whole with
    | some v => (if base == off then v else v / 2 ^ 32, false)
    | none => (0, true)

/-! ### Reads with an effect -/

/-- Is the function served at all (R538)? In G-CELLAR and FAILED only the watch link's PF is. -/
def State.viewServed (s : State) (fn : Nat) : Bool := !((s.failedPart || s.cellar) && fn != s.watchFn)

/-- A read of RGN_REGION_VINTAGE_LO latches the upper bits (R63). -/
def State.latchVintage (s : State) : State :=
  s.onRgn fun r => { r with vintageHi := (s.region s.rgn.sel).vintage / 2 ^ 32 % 65536 }

/-- What a read of PCI_FN_VIEW_DATA performs: the value, and the state with DENIED as it leaves it (R537, R538). -/
def State.viewValue (s : State) (fn : Nat) : Nat × State :=
  let off := (s.func fn).viewAddr % 2 ^ 25 / 4 * 4
  let (v, denied) := if s.isProvider fn then (s.provRead off, false) else s.tenantRead fn off
  let s := if s.isProvider fn && off == 0x80000C && s.windowOn blkRGN then s.latchVintage else s
  (v, s.setFn fn fun f => { f with viewDenied := denied })

/-- VIEW_DATA_READ (R537, R538). -/
def State.viewRead (s : State) (fn : Nat) (tbit : Bool) : State :=
  s.regGated fn true tbit true fun s => if !s.viewServed fn then s else (s.viewValue fn).2.emit (.regData (s.viewValue fn).1)

/-- VINTAGE_LO_READ (R63). -/
def State.vintageRead (s : State) (fn : Nat) : State :=
  s.regGated fn false false true fun s =>
    if !s.isProvider fn || !s.windowOn blkRGN then s else s.latchVintage.emit (.regData ((s.region s.rgn.sel).vintage % 2 ^ 32))

/-- Where the latches of a function's BAR0 lie in the tables of R532, above BAR2's offsets. -/
def latchKey (fn bar off : Nat) : Nat := if bar == 0 then 2 ^ 26 + 65536 * fn + off else off

/-- The register at an offset of a BAR as the function reaches it. -/
def State.regOf (s : State) (fn bar off : Nat) : RegVal :=
  if bar == 0 then s.fnReg fn off
  else if bar == 2 && s.isProvider fn && s.windowOn (off / 0x100000) then s.bar2Reg off
  else none

/-- LOW_WORD_READ (R532): a 32-bit read of the low word of a 64-bit register. -/
def State.lowVal (s : State) (fn bar off : Nat) : State :=
  if bar == 0 && off == 0x0088 then
    (if !s.viewServed fn then s
     else
       let (v, s) := s.viewValue fn
       (s.onGlb fun g => { g with hiLatch := Tbl.put g.hiLatch (latchKey fn 0 0x8C) (v / 2 ^ 32) }).emit (.regData (v % 2 ^ 32)))
  else match s.regOf fn bar off with
    | some (true, v) => (s.onGlb fun g => { g with hiLatch := Tbl.put g.hiLatch (latchKey fn bar off + 4) (v / 2 ^ 32) }).emit (.regData (v % 2 ^ 32))
    | some (false, v) => (if bar == 2 && off == 0x80000C then s.latchVintage else s).emit (.regData v)
    | none => s.emit (.regData 0)

/-- LOW_WORD_READ as it arrives. -/
def State.lowRead (s : State) (fn bar off : Nat) (tbit : Bool) : State :=
  s.regGated fn (bar == 0) tbit true fun s => s.lowVal fn bar off

/-- A register access error (R11): GLB cause 0. -/
def State.accessErr (s : State) (hub off : Nat) : State :=
  if 2 ≤ hub || s.mir.hubsLost.contains hub then s else s.raise blkGLB hub 0 (off % 65536)

/-- SMBUS_READ (R509): a provider read in the GLB, FLT and PWR windows. -/
def State.smbus (s : State) (off : Nat) (pecOk : Bool) : State :=
  if !pecOk || !s.powered || s.glb.boot == 0 then s
  else
    let i := off / 0x100000
    if i != blkGLB && i != blkFLT && i != blkPWR || 0x01400000 ≤ off then s.emit (.smbus (leBytes 4 0))
    else if off % 4 != 0 && (s.bar2Reg (off / 4 * 4)).isSome then (s.accessErr s.mir.primary off).emit (.smbus (leBytes 4 0))
    else
      let v := s.provRead off
      let s := match s.bar2Reg off with
        | some (true, v) => if s.windowOn i then s.onGlb fun g => { g with hiLatch := Tbl.put g.hiLatch (off + 4) (v / 2 ^ 32) } else s
        | _ => s
      s.emit (.smbus (leBytes 4 (v % 2 ^ 32)))

end Sys2Proof.Machine
end

