-- ==== Sys2Proof/Machine/RegWrite.lean ====
section
/-! DEFINITION. Register writes (R8, R531 to R536): which bits a write sets, what acts at once, and what applies at the next tick boundary;
the MSI-X table and the request window of BAR0 (R323, R328). -/

namespace Sys2Proof.Machine

/-! ### BAR2 -/

/-- RW registers whose new value applies at the next tick boundary, or for `PWR_CTRL` at the next evaluation: offset and RW bits. -/
def laterRegs : List (Nat × Nat) :=
  [(0x400, 0xFFFF1F03), (0x404, 0xFFFF), (0x100000, 0x03FF03FF), (0x200000, 0xFFFF3FFF), (0x200004, 0xF), (0x600000, 0x001F03FF),
   (0x600004, 0x1FFFF), (0x900000, 0x003F0FF1), (0xA00000, 0x3F), (0xA00004, 0x3F), (0xB00000, 0x00FFFFFF), (0x1300000, 0x1FFF)]

/-- A value that applies takes its place. -/
def State.setReg (s : State) (off v : Nat) : State :=
  let w : Word := BitVec.ofNat 32 v
  match off with
  | 0x400 => s.onTime fun t => { t with ctrl := w }
  | 0x404 => s.onTime fun t => { t with step := w }
  | 0x100000 => s.onPci fun p => { p with ctrl := w }
  | 0x200000 => s.onTlk fun t => { t with timers := w }
  | 0x200004 => s.onTlk fun t => { t with retry := w }
  | 0x600000 => s.onXlt fun x => { x with ctrl := w }
  | 0x600004 => s.onXlt fun x => { x with hot := w }
  | 0x900000 => s.onEng fun e => { e with ctrl := w }
  | 0xA00000 => s.onOpu fun o => { o with ctrl := w }
  | 0xA00004 => s.onOpu fun o => { o with stepCtrl := w }
  | 0xB00000 => s.onMcx fun m => { m with ctrl := w }
  | _ => s

/-- Values written since the last boundary apply (R8, R536: in the order of the writes); `PWR_CTRL` waits for its evaluation. -/
def State.regsTick (s : State) : State :=
  (s.glb.regNext.foldl (fun s e => s.setReg e.1 e.2) s).onGlb fun g => { g with regNext := g.regNext.filter fun e => e.1 == 0x1300000 }

/-- TLK_PORT_CTRL[p] written (Table 9.18): TL_MAX and ENC_REQ stand at once, DISABLE, TRAIN and RETRAIN act. -/
def State.portCtrl (s : State) (p v : Nat) : State :=
  let s := s.setPort p fun x => { x with tlMax := bits v 7 4, encReq := bit v 9 }
  let s := if bit v 29 then (if (s.port p).off then s else s.portDisable p) else s.portEnable p
  let s := if bit v 31 then s.trainStart p else s
  if bit v 30 && s.portUp p then s.breakLink p 8 else s

/-- TLK_VC_ALLOC[p] written: ignored with a field below 64 or a sum above 1024. -/
def State.vcAlloc (s : State) (p v : Nat) : State :=
  let f := [bits v 9 0, bits v 19 10, bits v 29 20]
  if f.any (fun x => Nat.blt x 64) || Nat.blt 1024 (f.foldl (· + ·) 0) then s
  else s.setPort p fun x => { x with alloc := BitVec.ofNat 32 (v % 2 ^ 30) }

/-- TRT_SNAP written (R313); with both bits set, RELEASE is the one that acts. -/
def State.snapWrite (s : State) (v : Nat) : State :=
  if bit v 1 then s.onTrt fun t => { t with freezeNext := some false }
  else if bit v 0 then s.onTrt fun t => { t with freezeNext := some true }
  else s

/-- GLB_PSTATE.TARGET written (R497, R502). -/
def State.pstateWrite (s : State) (fn t : Nat) : State :=
  if s.cellar && s.glb.change == .none then s.cellarOut fn t else s.askTarget fn t

/-- DIR_ENTRY_SEL written (R100): DIR_ENTRY_DATA takes the entry as it stands. -/
def State.dirSelect (s : State) (i : Nat) : State := s.onDir fun d => { d with sel := i, data := s.entryWords i }

/-- XLT_AGENT_CFG[n] written: the new owner applies at the next tick boundary (R110). -/
def State.ownerWrite (s : State) (agent owner : Nat) : State :=
  if 128 ≤ agent then s
  else (s.onXlt fun x => { x with ownerField := Tbl.put x.ownerField agent (owner % 256) }).later (.owner agent (owner % 256))

/-- A written owner applies: OWNER_FN owns the agent's table, and a function that does not exist clears OWNED (R110). -/
def State.ownerApply (s : State) (agent owner : Nat) : State :=
  let s := s.setOwner agent (some owner)
  if s.fnExists owner then s else s.setOwner agent none

/-- MCX_STACK_STATUS[k].SKEW cleared by a one. -/
def State.skewClear (s : State) (k v : Nat) : State := if bit v 26 then s.setStack k fun x => { x with skew := false } else s

/-- A register of GLB, DIR, RGN or FLT that takes its value at once, or acts. -/
def State.writeNow (s : State) (fn off v : Nat) : State :=
  match off with
  | 0x208 => s.pstateWrite fn (bits v 25 24)
  | 0x420 => s.onTime fun t => { t with setDn := BitVec.ofNat 32 v }
  | 0x424 => s.timeSet (BitVec.ofNat 32 v)
  | 0x600 => s.lifeSelect v
  | 0x300000 => s.snapWrite v
  | 0x300004 => s.peakClear (v % 2 ^ 24)
  | 0x300600 => s.onTrt fun t => { t with groupSel := v % 256 }
  | 0x500600 => s.onSch fun c => { c with sel := BitVec.ofNat 32 (maskAnd v 0x11F) }
  | 0x700000 => s.onDir fun d => { d with ctrl := BitVec.ofNat 32 (maskAnd v 0x03FFFFFF) }
  | 0x700010 => s.dirSelect (v % 2 ^ 20)
  | 0x800000 => s.onRgn fun r => { r with sel := v % 4096 }
  | 0x1100004 => s.pinHold fn (BitVec.ofNat 32 v)
  | _ => s

/-- A fault register of FLT written: status cleared by ones, or the mask (Table 15.13). -/
def State.fltWrite (s : State) (fn o v : Nat) : State :=
  let b := (o - 0x1000) / 0x400
  let j := (o - 0x1000) % 0x400 / 0x80
  let r := (o - 0x1000) % 0x80
  if !faultInstOk b j || s.instGone b j then s
  else if r == 0 then s.statusClear fn b j (BitVec.ofNat 32 v)
  else if r == 4 then s.setFlt b j fun f => { f with mask := v % 2 ^ 17 }
  else s

/-- A 32-bit register of BAR2 written through a provider function. -/
def State.write2 (s : State) (fn off v : Nat) : State :=
  match laterRegs.find? fun r => r.1 == off with
  | some r => s.onGlb fun g => { g with regNext := g.regNext ++ [(off, maskAnd v r.2)] }
  | none =>
    let o := off % 0x100000
    if 0x1101000 ≤ off && off < 0x1106000 then s.fltWrite fn o v
    else if 0x1108000 ≤ off && off < 0x1109400 then s.ovfClear fn ((o - 0x8000) / 0x100) ((o - 0x8000) % 0x100 / 4) (BitVec.ofNat 32 v)
    else match arr off 0x200100 16, arr off 0x200180 16, arr off 0x600100 128, arr off 0x900100 256, arr off 0xB00200 16 with
      | some p, _, _, _, _ => s.portCtrl p v
      | _, some p, _, _, _ => s.vcAlloc p v
      | _, _, some n, _, _ => s.ownerWrite n (v % 256)
      | _, _, _, some n, _ => if bit v 31 then s.engOffline fn n else s.engReset fn n
      | _, _, _, _, some k => s.skewClear k v
      | _, _, _, _, _ => s.writeNow fn off v

/-! ### BAR0 -/

/-- The control word of a ring: EN, VEC and LOG2N. -/
def ringCtrl (v : Nat) : Word := BitVec.ofNat 32 (maskAnd v 0x803F001F)

/-- CMD_FLUSH written (R372). -/
def State.flushWrite (s : State) (fn v : Nat) : State :=
  if !bit v 31 then s
  else s.setIntake fn fun i => if i.part.isSome then { i with flush := true } else i.doFlush []

/-- CMD_WORD and CMD_LAST written (R369). -/
def State.wordWrite (s : State) (fn v : Nat) (last : Bool) : State :=
  s.setIntake fn fun i => if last then i.last (BitVec.ofNat 32 v) s.tick else i.word (BitVec.ofNat 32 v)

/-- A function register written, with its whole value (Tables 11.10, 13.10, 21.4). -/
def State.write0 (s : State) (fn off v : Nat) : State :=
  match off with
  | 0x0010 => s.setFn fn fun f => { f with winNext := some (v % 65536) }
  | 0x0020 => s.setFn fn fun f => { f with ring := { f.ring with addr := v % 2 ^ 64 / 128 * 128 } }
  | 0x0028 => s.setFn fn fun f => { f with ring := { f.ring with ctrl := ringCtrl v } }
  | 0x002C => s.setFn fn fun f => { f with ring := { f.ring with head := v % 2 ^ 17 } }
  | 0x0040 => if bit v 59 then s.setFn fn fun f => { f with winErr := false } else s
  | 0x0080 => s.setFn fn fun f => { f with viewAddr := v % 2 ^ 25 / 4 * 4 }
  | 0x1000 => s.wordWrite fn v false
  | 0x1004 => s.wordWrite fn v true
  | 0x100C => s.flushWrite fn v
  | 0x1010 => s.setIntake fn fun i => { i with overflow := i.overflow && !bit v 9, framing := i.framing && !bit v 8 }
  | 0x1020 => s.setIntake fn fun i => if i.cpl.en then i else { i with cpl := { i.cpl with addr := 4096 * (v % 2 ^ 64 / 4096) } }
  | 0x1028 => s.setIntake fn fun i => { i with cplNext := some (ringCtrl v) }
  | 0x102C => s.setIntake fn fun i => { i with cpl := { i.cpl with head := v % 2 ^ 17 } }
  | 0x1040 => s.setIntake fn fun i => if i.evt.en then i else { i with evt := { i.evt with addr := 4096 * (v % 2 ^ 64 / 4096) } }
  | 0x1048 => s.setIntake fn fun i => { i with evtNext := some (ringCtrl v) }
  | 0x104C => s.setIntake fn fun i => { i with evt := { i.evt with head := v % 2 ^ 17 } }
  | _ => s

/-- The RW 64-bit registers, whose low word is held until the high word is written (R532). -/
def held64 (off : Nat) : Bool := off == 0x20 || off == 0x1020 || off == 0x1040

/-- A 32-bit write of one word of a 64-bit register of BAR0. -/
def State.write64Word (s : State) (fn base : Nat) (high : Bool) (v : Nat) : State :=
  let key := latchKey fn 0 base
  if held64 base then
    if high then
      let low := (Tbl.find s.glb.loHold key).getD ((match s.fnReg fn base with | some r => r.2 | none => 0) % 2 ^ 32)
      (s.onGlb fun g => { g with loHold := Tbl.del g.loHold key }).write0 fn base (low + 2 ^ 32 * (v % 2 ^ 32))
    else s.onGlb fun g => { g with loHold := Tbl.put g.loHold key (v % 2 ^ 32) }
  else s.write0 fn base (if high then 2 ^ 32 * (v % 2 ^ 32) else v % 2 ^ 32)

/-! ### The MSI-X table and the request window -/

/-- A 32-bit word of the MSI-X table written: bit 0 of a vector's fourth word masks it; a pending vector that is unmasked is sent. -/
def State.msixWrite (s : State) (fn k v : Nat) : State :=
  let vec := k / 4
  if k % 4 != 3 then s.setFn fn fun f => { f with msixTbl := Tbl.put f.msixTbl k (BitVec.ofNat 32 v) }
  else if bit v 0 then s.setFn fn fun f => { f with msixMask := setBit f.msixMask vec }
  else
    let due := bit (s.func fn).msixPend vec && (s.func fn).msixEn
    let s := s.setFn fn fun f =>
      { f with msixMask := clearBit f.msixMask vec, msixPend := if f.msixEn then clearBit f.msixPend vec else f.msixPend }
    if due then s.msix fn 3 vec else s

/-- Byte k of the request window. -/
def Func.winByte (f : Func) (k : Nat) : Byte := Tbl.getD f.slots k 0

/-- n bytes of the request window from k. -/
def Func.winBytes (f : Func) (k n : Nat) : List Byte := (List.range n).map fun i => f.winByte (k + i)

/-- The request in a slot (Table 11.5). -/
def Func.slotReq (f : Func) (k : Nat) : DirReq :=
  let b := fun (o n : Nat) => leNat (f.winBytes (k + o) n)
  { flags := b 0 1 / 16, txid := b 2 2, gen := b 4 3, pva := b 8 8 % 2 ^ 52, dest := b 16 8, atop := b 1 1 % 8, wide := bit (b 1 1) 3
    operands := f.winBytes (k + 32) 32, mask := b 24 8, data := f.winBytes (k + 64) 64 }

/-- Requests by REQ (Table 3.5). -/
def reqCodes : List ReqCode := [.load, .store, .atomic, .swapInShared, .swapInHeld, .swapOut, .release, .invAck]

/-- A slot taken (R328); a REQ code that Table 3.5 does not define completes with MALFORMED (R69). -/
def State.takeSlot (s : State) (fn k : Nat) : State :=
  let f := s.func fn
  let r := f.slotReq k
  match reqCodes[(f.winByte k).toNat % 16]? with
  | some c => s.slotRequest fn c r
  | none =>
    if !s.serving || f.agent == 0 || 256 ≤ f.ringBuf.length then s
    else s.respondVia f.agent (.slot fn) none { status := .malformed, txid := r.txid }

/-- Bytes written into the request window; a write that covers byte 0 of a slot makes the part take it. -/
def State.winWrite (s : State) (fn k n v : Nat) : State :=
  let bs := leBytes n v
  let s := s.setFn fn fun f =>
    { f with slots := (List.range n).foldl (fun t i => let b := bs.getD i 0; if b = 0 then Tbl.del t (k + i) else Tbl.put t (k + i) b) f.slots }
  ((List.range n).filter fun i => (k + i) % 128 == 0).foldl (fun s i => s.takeSlot fn (k + i)) s

/-! ### REGISTER_WRITE and LOW_WORD_WRITE -/

/-- The register that holds the word at an offset: where it starts, and whether it is 64 bits wide. -/
def State.regAt (s : State) (fn bar off : Nat) : Option (Nat × Bool) :=
  let a := off / 4 * 4
  match s.regOf fn bar a with
  | some r => some (a, r.1)
  | none => if a % 8 == 4 then (match s.regOf fn bar (a - 4) with
      | some (true, _) => some (a - 4, true)
      | _ => none) else none

/-- `width` bytes written at an offset of BAR0 or BAR2 (R8, R11, R531, R532). -/
def State.regWrite (s : State) (fn bar off width v : Nat) : State :=
  if bar == 0 && 0x10000 ≤ off && off < 0x10400 then
    (if width == 4 && off % 4 == 0 then s.msixWrite fn ((off - 0x10000) / 4) v
     else if width == 8 && off % 8 == 0 then
       (s.msixWrite fn ((off - 0x10000) / 4) (v % 2 ^ 32)).msixWrite fn ((off - 0x10000) / 4 + 1) (v / 2 ^ 32)
     else s)
  else if bar == 0 && 0x20000 ≤ off && off < 0x22000 then s.winWrite fn (off - 0x20000) (min width 8) v
  else match s.regAt fn bar off with
    | none => s
    | some (base, wide) =>
      if !(off % 4 == 0 && (width == 4 || (width == 8 && wide && off == base))) then s.accessErr (s.fnHub fn) off
      else if bar == 2 then s.write2 fn off (v % 2 ^ 32)
      else if !wide then s.write0 fn off (v % 2 ^ 32)
      else if width == 8 then s.write0 fn base v
      else s.write64Word fn base (off != base) v

/-- REGISTER_WRITE as it arrives. -/
def State.registerWrite (s : State) (fn bar off width v : Nat) (tbit : Bool) : State :=
  s.regGated fn (bar == 0) tbit false fun s => s.regWrite fn bar off width v

/-- LOW_WORD_WRITE (R532): the low word of an RW 64-bit register, held until its high word is written. -/
def State.lowWrite (s : State) (fn bar off v : Nat) (tbit : Bool) : State :=
  s.regGated fn (bar == 0) tbit false fun s => if bar == 0 && held64 off then s.write64Word fn off false v else s

end Sys2Proof.Machine
end

