-- ==== Sys2Proof/Machine/Lutik.lean ====
section
/-! DEFINITION. Lutik: HELLO and CAPS (R385 to R387), the rounds in which it begins packets (R377), and what leaves the function's buffers
(R331, R381, R383). -/

namespace Sys2Proof.Machine

/-! ### HELLO and CAPS -/

/-- HELLO (R386). -/
def State.doHello (s : State) (i : Issuer) (p : Packet) : State :=
  let res := fun (minor : Nat) => place minor 8 0 + place 1 8 8 + place 2 8 16
  if p.fld 3 15 8 != 1 then s.answer i .badVersion 1 (res (s.intake i.fn).minor) s.glb.lutik.toNat
  else
    let minor := min (p.fld 3 7 0) 2
    let s := s.setIntake i.fn fun x => { x with minor := minor, hello := true }
    s.answer i .ok 0 (res minor) s.glb.lutik.toNat

/-- STATE of the CAPS buffer (Table 13.8). -/
def State.capsState (s : State) : Nat :=
  match s.glb.pstate with
  | .active => if s.pwr.level == 0 then 0 else 1
  | .doze => 2
  | .cellar => 3

/-- The CAPS buffer of a function (Table 13.8). -/
def State.capsBytes (s : State) (fn : Nat) : List Byte :=
  let f := s.func fn
  let engines := ((List.range 256).filter fun n => !(s.unit n).offline && !(s.unit n).failed).length
  let role := b2n (s.isProvider fn) + 2 * s.mir.primary + 4 * b2n s.sec.rollback
  padTo 128 0 <|
    leBytes 4 (1 + 2 * 256 + 65536 * ((s.intake fn).minor % 256)) ++ leBytes 4 s.glb.lutik.toNat ++ (orderCode.map (BitVec.ofNat 8)) ++
    leBytes 1 fn ++ leBytes 1 f.tenant ++ leBytes 1 (if f.agent == 0 then 0xFF else f.agent) ++ leBytes 1 role ++
    leBytes 2 4096 ++ leBytes 2 16 ++ leBytes 2 (maskOf ((List.range 16).filter fun k => (s.stack k).state == .ready)) ++
    leBytes 2 (maskOf ((List.range 16).filter fun k => s.stackFailed k)) ++ leBytes 2 engines ++ leBytes 1 64 ++ leBytes 1 128 ++
    leBytes 4 (if f.tenant == 0 then s.freeTotal else 0) ++ leBytes 4 (s.quotaOf f.tenant - s.tenantUse f.tenant) ++
    leBytes 2 (3 + 256 * s.capsState) ++ leBytes 2 0 ++ leBytes 4 s.tick

/-- CAPS (R387). -/
def State.doCaps (s : State) (i : Issuer) (p : Packet) : State :=
  if p.addr 4 % 64 != 0 then s.malformed i 4
  else (s.hostWrite i.fn 3 (p.addr 4) (s.capsBytes i.fn)).answer i .ok

/-! ### Rounds (R377) -/

/-- The command of an opcode of Table 13.5. -/
def State.lutikOp (s : State) (op : Nat) (i : Issuer) (p : Packet) : State :=
  match op with
  | 0x0101 => s.doHello i p
  | 0x0102 => s.doCaps i p
  | 0x0201 => s.doRegionCreate i p
  | 0x0202 => s.doRegionDestroy i p
  | 0x0203 => s.doBinAdd i p
  | 0x0204 => s.doBinRevoke i p
  | 0x0205 => s.doRegionAttach i p
  | 0x0206 => s.doRegionDetach i p
  | 0x0207 => s.doPublish i p
  | 0x0208 => s.doRegionInfo i p
  | 0x0301 => s.doMapUpdate i p
  | 0x0302 => s.doMapDigest i p
  | 0x0303 => s.doFaultResolve i p
  | 0x0401 => s.doJobSubmit i p
  | 0x0402 => s.doJobAbort i p
  | 0x0403 => s.doModelLoad i p
  | 0x0404 => s.doLayerPlace i p
  | 0x0405 => s.doModelUnload i p
  | 0x0406 => s.doModelUsers i p
  | 0x0407 => s.doDecodeStep i p
  | 0x0408 => s.doJobQuery i p
  | 0x0501 => s.doMeterSet i p
  | 0x0502 => s.doSchedSet i p
  | 0x0503 => s.doGateListLoad i p
  | 0x0601 => s.doTenantCreate i p
  | 0x0602 => s.doTenantRemove i p
  | 0x0603 => s.doKeyRotate i p
  | 0x0604 => s.doBindWeights i p
  | 0x0701 => s.doContractLoad i p
  | 0x0702 => s.doPowerRead i p
  | 0x0801 => s.doFaultRead i p
  | 0x0802 => s.doHistoryRead i p
  | 0x0803 => s.doFaultPinHold i p
  | 0x0901 => s.doRouteSet i p
  | 0x0902 => s.doMcastGroupSet i p
  | 0x0903 => s.doFuncBind i p
  | _ => s

/-- Commands that only the provider's function may issue (Table 13.5). -/
def providerOps : List Nat :=
  [0x0501, 0x0502, 0x0503, 0x0601, 0x0602, 0x0701, 0x0801, 0x0802, 0x0803, 0x0901, 0x0902, 0x0903]

/-- DETAIL of a command whose packet's own fields refuse it, before anything of the part's state is looked at
(R541, R543). -/
def fieldFault (p : Packet) : Option Nat :=
  match p.op with
  | 0x0201 => createFault p
  | 0x0301 => if mapHead p then some (mapDetail 0xFFFF 1) else none
  | 0x0302 => digestHead p
  | 0x0404 => if p.len != 8 + 8 * p.fld 3 22 16 then some 3 else none
  | 0x0407 => if p.len != 8 + p.fld 3 20 16 then some 3 else none
  | 0x0501 => meterFault p
  | 0x0502 => schedFault p
  | 0x0503 => gateFault p
  | 0x0601 => if p.fld 2 5 0 == 0 then some 2 else none
  | 0x0602 => if p.fld 2 5 0 == 0 then some 2 else none
  | 0x0701 => contractFault p
  | 0x0702 => if p.addr 4 % 64 != 0 then some 4 else none
  | 0x0801 => faultFault p
  | 0x0802 => historyFault p
  | 0x0901 => routeFault p
  | 0x0902 => mcastFault p
  | _ => none

/-- Why a command is refused when it is begun (R543): its issuer (Table 13.5, R466), or its packet's fields. -/
def State.beginRefusal (s : State) (i : Issuer) (p : Packet) : Option (Status × Nat) :=
  if !s.provider i && (providerOps.contains p.op || (p.op == 0x0702 && bit (p.dw 2) 0)) then some (.deniedRights, 0)
  else (fieldFault p).map fun d => (.malformed, d)

/-- A command begun (R378, R543): HELLO and CAPS change nothing outside their function and are answered now; any other is
checked on its fields now, and applies at step 1 of the next tick boundary, where its other checks are made. -/
def State.beginCmd (s : State) (i : Issuer) (p : Packet) : State :=
  match p.op with
  | 0x0101 => s.doHello i p
  | 0x0102 => s.doCaps i p
  | _ => match s.beginRefusal i p with
    | some x => s.answer i x.1 x.2
    | none => s.later (.cmd i.fn p)

/-- A command applies at its boundary. -/
def State.applyCmd (s : State) (fn : Nat) (p : Packet) : State := s.lutikOp p.op { fn := fn, tag := p.tag } p

/-- A command row: packet `p` of the function, whose opcode is the row's, is begun. -/
def State.cmdRow (s : State) (op fn : Nat) (p : Packet) : State := s.command fn p op fun s i => s.beginCmd i p

/-- The next packet of a function that Lutik may begin: the oldest of the draining bank, not yet 500 ticks old. -/
def State.nextPacket (s : State) (fn : Nat) : Option QPkt :=
  if !s.mayBegin fn then none
  else match (s.intake fn).drain with
    | [] => none
    | q :: _ => if s.tick < q.at_ + 500 then some q else none

/-- One packet of a function begun. -/
def State.beginNext (s : State) (fn : Nat) : State :=
  match s.nextPacket fn with
  | none => s
  | some q =>
    let s := s.setIntake fn fun i => { i with drain := i.drain.drop 1 }
    s.beginPacket fn q.p fun s i => s.beginCmd i q.p

/-- A round: the provider's functions, then every other one in ascending order, one packet of each. -/
def State.lutikRound (s : State) : State :=
  let fns := s.cmd.fns.map Prod.fst
  let mine := fns.filter fun fn => s.isProvider fn
  let rest := fns.filter fun fn => !s.isProvider fn
  (mine ++ rest).foldl (fun s fn => s.beginNext fn) s

/-- COMMAND_SHED: the oldest packet of the function, whole for 500 ticks and not begun, is answered BUSY. -/
def State.shed (s : State) (fn : Nat) : State :=
  let i := s.intake fn
  let due := fun (q : QPkt) => Nat.ble (q.at_ + 500) s.tick
  let say := fun (s : State) (q : QPkt) => (s.bump blkCMD 0x0504).answer { fn := fn, tag := q.p.tag } .busy 0x800010
  if !s.mayBegin fn then s
  else match i.drain, i.fill with
    | q :: r, _ => if due q then say (s.setIntake fn fun i => { i with drain := r }) q else s
    | [], q :: r => if due q then say (s.setIntake fn fun i => { i with fill := r }) q else s
    | [], [] => s

/-! ### The intake's register rows -/

/-- CMD_WORD and CMD_LAST. -/
def State.cmdWord (s : State) (fn : Nat) (w : Word) (last tbit : Bool) : State :=
  s.regGated fn true tbit false fun s => s.wordWrite fn w.toNat last

/-- CMD_FLUSH with GO set. -/
def State.cmdFlush (s : State) (fn : Nat) (tbit : Bool) : State := s.regGated fn true tbit false fun s => s.flushWrite fn (2 ^ 31)

/-- BANK_SWAP (R370). -/
def State.bankSwap (s : State) (fn : Nat) : State := if s.intakeOpen fn then s.setIntake fn Intake.swap else s

/-! ### Buffers that drain -/

/-- Buffered completion records written in order while the ring has room (R381). -/
def State.drainCpl (s : State) (fn : Nat) : Nat → State
  | 0 => s
  | fuel + 1 =>
    match (s.intake fn).cplBuf with
    | [] => s
    | c :: r => if s.cplRoom fn then ((s.setIntake fn fun i => { i with cplBuf := r }).writeCpl fn c).drainCpl fn fuel else s

/-- Buffered events written in order while the ring has room (R383). -/
def State.drainEvt (s : State) (fn : Nat) : Nat → State
  | 0 => s
  | fuel + 1 =>
    match (s.intake fn).evtBuf with
    | [] => s
    | c :: r => if s.evtRoom fn then ((s.setIntake fn fun i => { i with evtBuf := r }).writeEvt fn c).drainEvt fn fuel else s

/-- Buffered response records written in order while the ring has room (R331). -/
def State.drainRing (s : State) (fn : Nat) : Nat → State
  | 0 => s
  | fuel + 1 =>
    match (s.func fn).ringBuf with
    | [] => s
    | c :: r => if s.ringRoom fn then ((s.setFn fn fun f => { f with ringBuf := r }).writeRing fn c).drainRing fn fuel else s

end Sys2Proof.Machine
end

