-- ==== Sys2Proof/Machine/Tick.lean ====
section
/-! DEFINITION. TICK_BOUNDARY (R21, Table 1.5), and the rows that a tick count brings (R92, R129, R131, R138, R282, R286). -/

namespace Sys2Proof.Machine

/-! ### Before step 1: what was written in the closing tick applies -/

/-- BAR0 values that apply at the boundary (R324, R394). -/
def State.fnRegsTick (s : State) : State :=
  let s := s.onPci fun p => { p with funcs := Tbl.mapKV p.funcs fun _ f => { f with winBase := f.winNext.getD f.winBase, winNext := none } }
  s.onCmd fun c => { c with fns := Tbl.mapKV c.fns fun _ i =>
    { i with cpl := { i.cpl with ctrl := i.cplNext.getD i.cpl.ctrl }, cplNext := none
             evt := { i.evt with ctrl := i.evtNext.getD i.evt.ctrl }, evtNext := none } }

/-- FREEZE and RELEASE (R313). -/
def State.freezeTick (s : State) : State :=
  match s.trt.freezeNext with
  | none => s
  | some b => s.onTrt fun t => { t with frozen := b, freezeNext := none, latched := if b then s.telemetryAll else t.latched }

/-- MODEL_USERS (R211). -/
def State.usersTick (s : State) : State :=
  s.onOpu fun o => { o with models := Tbl.mapKV o.models fun _ m => { m with users := m.usersNext.getD m.users, usersNext := none } }

def State.writesTick (s : State) : State := s.regsTick.fnRegsTick.freezeTick.usersTick.ovfTick

/-! ### Steps 1 and 2: the directory, and the delta -/

/-- What waited for the boundary takes its effect. -/
def State.applyDue (s : State) (x : Due) : State :=
  match x with
  | .req q => s.dueReq q
  | .cmd fn p => s.applyCmd fn p
  | .owner a f => s.ownerApply a f
  | .expire i => s.expireAt (s.tick + 1) i
  | .hold b => s.setHold b
  | .faultEnd slot seq => s.faultEnd slot seq
  | .pstate fn t => s.takeTarget fn t
  | .flr fn => s.flrApply fn
  | .stack k c => s.failStacks [k] c
  | .die d => s.failDie d

/-- Is it a deadline, which comes after every answer of the closing tick (R79)? -/
def Due.isExpire (x : Due) : Bool := match x with | .expire _ => true | _ => false

/-- Everything that waited for the boundary settled in the order in which it was accepted (R5), deadlines last, and HOLD set by a
fatal event of the tick after all (R536). -/
def State.dueTick (s : State) : State :=
  let (last, first) := s.dir.due.partition Due.isExpire
  ((first ++ last).foldl (fun s x => s.applyDue x) (s.onDir fun d => { d with due := [] })).fatalTick

/-- Parked requests of pages that can be served are served (R77). -/
def State.parkedTick (s : State) : State :=
  ((s.dir.entries.filter fun e => !e.2.parked.isEmpty).map Prod.fst).foldl (fun s i => s.reopen i) s

/-- Regions: withdrawals that wait (R57), publications that go on (R50) or take their last step (Table 2.9), and destructions whose
bins have come to rest (R60); the old bins of a RACK (R174). -/
def State.regionsTick (s : State) : State :=
  (s.rgn.regions.map Prod.fst).foldl (fun s r => (((s.pubProceed r).pubRelease r).startDestroyScrub r).rackScrub r) s.revokesTick

/-- Step 1, and step 2 after it: what the closing tick accepted, then what waits on pages and regions, then the delta. In FAILED and
in G-CELLAR only the first acts. -/
def State.dirTick (s : State) (live : Bool) : State :=
  let s := s.dueTick
  if live then s.parkedTick.regionsTick.sendDelta else s

/-! ### The count, the calendar and the statistics of time -/

/-- Is the tick count at the end of a whole second? -/
def State.secondEnds (s : State) : Bool := s.tick % 781250 == 0

/-- Seconds of the lifetime store (Table 17.4). -/
def State.secondsTick (s : State) : State :=
  if !s.secondEnds then s
  else
    let s := (s.lifeAdd 0).lifeAdd 1 (b2n s.cellar)
    let s := (List.range 16).foldl (fun s k =>
      (s.lifeAdd (16 + k) (b2n (s.stack k).sec85)).lifeAdd (32 + k) (b2n (s.stack k).sec95)) s
    s.onMcx fun m => { m with stk := Tbl.mapKV m.stk fun _ x => { x with sec85 := false, sec95 := false } }

/-- Ticks with the link up, the age clock of records (R92, R501). -/
def State.ageTick (s : State) : State :=
  s.onDir fun d => { d with agents := Tbl.mapKV d.agents fun _ a => if a.up then { a with upTicks := a.upTicks + 1 } else a }

/-- Counters as tenants see them are latched every 16,384 ticks (R420). -/
def State.latchTick (s : State) : State := if s.tick % 16384 == 0 then s.onLatched fun _ => s.stats else s

/-- A tick is longer than 64 ns. -/
def State.dupTick (s : State) : State := s.onTlk fun t => { t with ports := Tbl.mapKV t.ports fun _ x => { x with dupAcked := false } }


/-- The tick count rises by one (R481), and with it what only counts. -/
def State.countTick (s : State) : State :=
  let s := s.onGlb fun g => { g with tick := g.tick + 1 }
  s.timeTick.secondsTick.ageTick.latchTick.dupTick

/-! ### Steps 3 to 6 -/

/-- MCX: temperatures, the direct requests served, the skew sample, symbols gone wrong, and a new tick's capacity. -/
def State.mcxTick (s : State) : State :=
  (s.tempTick.drainBanks.skewSample.errsTick).onMcx fun m => { m with stk := Tbl.mapKV m.stk fun _ x => { x with granted := 0 } }

/-- Bucket levels as the registers show them until the next boundary (Table 12.8). -/
def State.levelTick (s : State) : State := s.onMtr fun t => Tbl.mapKV t fun _ m => { m with tcAt := m.tc, tpAt := m.tp }

/-- Causes of Table 15.2 that a block finds in its own buffers, entries, caches and metadata, with no row of their own: none is fatal. -/
def ownCause (b c : Nat) : Bool :=
  ((b == blkTRT || b == blkMTR || b == blkSCH || b == blkDIR || b == blkLDR) && c == 0) || (b == blkXLT && c == 3) ||
    ((b == blkRGN || b == blkOPU) && Nat.blt c 2) || (b == blkENG && c == 1)

/-- One such error (R425): its cause is raised; a cached translation with bad parity is walked again; staging that cannot be corrected
stops the job that its engine works for; and a region whose metadata has no good copy becomes LOST. -/
def State.ownError (s : State) (x : Nat × Nat × Nat × Nat × Nat) : State :=
  let (b, j, c, info, arg) := x
  let gone := if blkENG ≤ b && b ≤ blkMEC then s.mir.diesLost.contains j else s.mir.hubsLost.contains j
  if !ownCause b c || !faultInstOk b j || gone then s
  else
    let s := s.raise b j c info
    if b == blkXLT then
      s.setXhub j fun h => { h with sets := Tbl.upd h.sets (arg % 4096) fun ls => ls.filter fun k => k.agent != info }
    else if b == blkOPU && c == 1 && info / 64 == j then
      (match (((s.unit info).running.map fun r => r.m.work) : Option Work) with
       | some (.job a n) => s.stopJob a n .internal 0x000A01
       | some (.step a n) => s.stopJob a n .internal 0x000A01
       | _ => s)
    else if b == blkRGN && c == 1 && (s.region info).state != .free then s.loseRegion info (arg % 16)
    else s

/-- The errors of a tick; when they arise is left open. -/
def State.ownTick (s : State) : State :=
  let (n, s) := s.draw
  (Config.ownErrors n).foldl (fun s x => s.ownError x) s

/-- Every active meter's credit (R347). -/
def State.creditTick (s : State) : State := s.onMtr fun t => Tbl.mapKV t fun _ m => m.credit

/-! ### Step 7: the engines -/

/-- XDIE_LIMIT of a die (R151): at most 8 with one bridge left (R447, R451). -/
def State.xdieLimit (s : State) (d : Nat) : Nat :=
  let v := min 32 (max 1 (bits s.eng.ctrl.toNat 21 16))
  if s.mir.state == .solo || s.mir.bridgesLost.any fun b => b.1 == d then min 8 v else v

/-- The budgets of the tick that begins (R22, R151). -/
def State.budget (s : State) : Bud :=
  { stk := (List.range 16).map fun k => (k, s.tokenBudget k), xdie := (List.range 4).map fun d => (d, s.xdieLimit d) }

/-- Work cut into measures and queued (R147): jobs and steps in the order of their table, then internal work. -/
def State.feedTick (s : State) : State :=
  let js := s.eng.jobs.map fun e => (e.2.agent, e.2.jobid)
  let s := js.foldl (fun s j => (((s.caskLay j.1 j.2 65536).expandLay j.1 j.2 65536).feedJob j.1 j.2 65536).feedStep j.1 j.2 65536) s
  (s.sweepFeed 65536).rackFeeds.feedActs

def State.engTick (s : State) : State :=
  let s := s.testTick.moveQueues.stepsTick.feedTick
  s.takeAll s.budget

/-! ### Messages, interrupts and Lutik -/

/-- The two rings of a function written since their last message signal their vectors (R384). -/
def State.signalFn (s : State) (fn : Nat) : State :=
  let i := s.intake fn
  let s := if i.cpl.signal then (s.setIntake fn fun x => { x with cpl := { x.cpl with signal := false } }).msix fn 3 i.cpl.vec else s
  if i.evt.signal then (s.setIntake fn fun x => { x with evt := { x.evt with signal := false } }).msix fn 3 i.evt.vec else s

def State.signalTick (s : State) : State := (s.cmd.fns.map Prod.fst).foldl (fun s fn => s.signalFn fn) s

/-- Message ports are chosen again (R299). -/
def State.msgTick (s : State) : State := (s.trt.routes.map Prod.fst).foldl (fun s a => s.selectMsgPort a) s

/-- HUB cycles in a tick (Table 17.1). -/
abbrev HUBCYC : Nat := 2048

/-- TRT_XOFF_CYC and TRT_XBAR_CYC at the end of a tick (R312): the spec leaves the cycles inside a tick open, so each port's are free
values, of at most the cycles of a tick. -/
def State.stallTick (s : State) : State :=
  let (c, s) := s.draw
  let add := fun (t : Tbl Nat) (off n : Nat) => Tbl.modD t (statKey blkTRT off) 0 fun v => satAt (2 ^ 64 - 1) (v + n % (HUBCYC + 1))
  s.onStats fun t => (List.range 24).foldl (fun t p =>
    add (add t (0x1E00 + 8 * p) (Config.xoffCycles c p)) (0x1F00 + 8 * p) (Config.xbarCycles c p)) t

/-! ### The boundary -/

/-- Actions of the blocks that a FAILED part and one in G-CELLAR have none of. -/
def State.liveTick (s : State) : State :=
  ((s.creditTick.gateTick.gateWaits.mcxTick.ownTick.engTick).levelTick.msgTick.stallTick.flrTick).removalsTick

/-- TICK_BOUNDARY (R21). Before READY there is none; in FAILED and in G-CELLAR only what is powered acts; between the failure of
the primary and the switchover the hubs take no action, and retraining goes on (Table 15.8). -/
def State.tickBoundary (s : State) : State :=
  if !s.powered || s.glb.boot != 7 then s
  else if s.mir.state == .switching then s.countTick.stackTick.tempTick
  else
    let live := !s.failedPart && !s.cellar
    let s := (s.writesTick.dirTick live).countTick
    let s := (if s.failedPart then s else s.stackTick).pwrTick
    let s := if live then s.liveTick else if s.failedPart then s else s.tempTick.flrTick
    s.signalTick.lutikRound

/-! ### Rows that a tick count brings -/

/-- IDEM_RECORD_EXPIRY: records of the agent 4096 of its link-up ticks old go (R91, R92). -/
def State.idemExpire (s : State) (agent : Nat) : State :=
  s.setAgent agent fun a => { a with recs := a.recs.filter fun r => Nat.blt a.upTicks (r.at_ + 4096) }

/-- JOB_RECORD_EXPIRY: the same of completed jobs (R138). -/
def State.jobExpire (s : State) (agent : Nat) : State :=
  let up := (s.agentSt agent).upTicks
  s.onEng fun e => { e with recs := Tbl.upd e.recs agent fun l => l.filter fun r => Nat.blt up (r.at_ + 4096) }

/-- ACCESS_DECAY at an epoch boundary (R129): every access counter is halved, once. -/
def State.decay (s : State) : State :=
  if s.tick % 2 ^ 20 != 0 || s.tick == 0 || !bit s.xlt.hot.toNat 16 || s.xlt.decayed == s.tick then s
  else
    let s := s.onXlt fun x => { x with decayed := s.tick }
    s.onDir fun d => { d with entries := Tbl.mapKV d.entries fun _ e => { e with access := e.access / 2 } }

/-- WARM_UP_END (R131). -/
def State.warmEnd (s : State) : State :=
  if s.glb.boot != 7 || s.tick < s.glb.readyAt + 65536 then s else s.onXlt fun x => { x with warm := false }

/-- ACK_TIMER (R282): 64 ns have passed since the last acknowledgement. -/
def State.ackTimer (s : State) (p : Nat) : State :=
  if !s.portUp p then s
  else
    let s := s.setPort p fun x => { x with dupAcked := false }
    if (s.port p).unacked then s.sendAck p else s

/-- XOFF_REPEAT (R286). -/
def State.xoffRepeat (s : State) (p v : Nat) : State :=
  let x := s.port p
  if s.portUp p && v < 3 && bit x.xoffRx v && x.free v ≤ x.head then s.ctl p (.xoff (2 ^ v)) else s

/-- JTAG_INSTRUCTION (R431, R510): code 0 stands for an instruction that tests nothing, 1 for boundary scan, which is always available;
any other needs STRAP[3] and is BYPASS without it. A test sets dual-rail checking and TEST; its end clears TEST, and RAIL unless
another phase of R431 holds it. -/
def State.jtag (s : State) (code : Nat) (on : Bool) : State :=
  if !s.powered || code == 0 || (code != 1 && !bit s.glb.strap 3) then s
  else
    let other := s.glb.boot != 7 || s.mir.state == .switching || (match s.glb.change with | .exiting _ => true | _ => false)
    s.onFlt fun f => { f with test := on, rail := on || other }

end Sys2Proof.Machine
end

