-- ==== Sys2Proof/Machine/Rows.lean ====
section
/-! DEFINITION. Guards of the rows whose event the part itself brings about: a pre-check that is due, a write-back or a copy whose last
measure has completed; and of the GLB rows. -/

namespace Sys2Proof.Machine

/-- May the function write registers of GLB now? Its window answers in G-CELLAR and FAILED too (R540). -/
def State.mayGlb (s : State) (fn : Nat) : Bool := s.isProvider fn && s.barLive fn && s.glb.boot == 7

/-- TILE_PRECHECK (R122): the job's next pre-check, when it is due; a decode step has one, of IN and OUT (R226). -/
def State.tilePrecheck (s : State) (agent jobid : Nat) : State :=
  if s.mir.state == .switching || s.failedPart || s.cellar then s
  else match s.job? agent jobid with
    | none => s
    | some j => match j.step with
      | some r => if j.state == .queued && r.phase == .pre then s.precheckStep j r else s
      | none => if j.preReady s.tick then s.precheckJob j else s

/-- WRITE_BACK_COMPLETE (R87): every byte has been received and every measure is done. -/
def State.wbComplete (s : State) (i : Nat) : State :=
  match (s.entry i).wb with
  | none => s
  | some w => if w.cut == w.total && s.actDone (.writeBack i) then s.wbDone i else s

/-- COW_COPY_COMPLETE (R47). -/
def State.cowComplete (s : State) (i : Nat) : State :=
  if (s.entry i).cow.isSome && s.actDone (.cow i) then s.cowDone i else s

end Sys2Proof.Machine
end

