-- ==== Sys2Proof/Machine/CmdRows.lean ====
section
/-! DEFINITION. The rows of commands and of the intake: opcodes of Table 13.5 begun by Lutik, and what the intake and its buffers do (R369 to R394). -/

namespace Sys2Proof.Machine

/-- HELLO (R386). -/
def execHello (fn : Nat) (p : Packet) (s : State) : Host.Outcome State Fault Refusal :=
  .next (s.cmdRow 0x0101 fn p)

/-- CAPS (R387). -/
def execCaps (fn : Nat) (p : Packet) (s : State) : Host.Outcome State Fault Refusal :=
  .next (s.cmdRow 0x0102 fn p)

/-- REGION_CREATE (R61). -/
def execRegionCreate (fn : Nat) (p : Packet) (s : State) : Host.Outcome State Fault Refusal :=
  .next (s.cmdRow 0x0201 fn p)

/-- REGION_DESTROY (R60). -/
def execRegionDestroy (fn : Nat) (p : Packet) (s : State) : Host.Outcome State Fault Refusal :=
  .next (s.cmdRow 0x0202 fn p)

/-- BIN_ADD (R62). -/
def execBinAdd (fn : Nat) (p : Packet) (s : State) : Host.Outcome State Fault Refusal :=
  .next (s.cmdRow 0x0203 fn p)

/-- BIN_REVOKE (R54). -/
def execBinRevoke (fn : Nat) (p : Packet) (s : State) : Host.Outcome State Fault Refusal :=
  .next (s.cmdRow 0x0204 fn p)

/-- REGION_ATTACH (R43). -/
def execRegionAttach (fn : Nat) (p : Packet) (s : State) : Host.Outcome State Fault Refusal :=
  .next (s.cmdRow 0x0205 fn p)

/-- REGION_DETACH (R44). -/
def execRegionDetach (fn : Nat) (p : Packet) (s : State) : Host.Outcome State Fault Refusal :=
  .next (s.cmdRow 0x0206 fn p)

/-- PUBLISH (R48). -/
def execPublish (fn : Nat) (p : Packet) (s : State) : Host.Outcome State Fault Refusal :=
  .next (s.cmdRow 0x0207 fn p)

/-- REGION_INFO (R62). -/
def execRegionInfo (fn : Nat) (p : Packet) (s : State) : Host.Outcome State Fault Refusal :=
  .next (s.cmdRow 0x0208 fn p)

/-- MAP_UPDATE (R112). -/
def execMapUpdate (fn : Nat) (p : Packet) (s : State) : Host.Outcome State Fault Refusal :=
  .next (s.cmdRow 0x0301 fn p)

/-- MAP_DIGEST (R116). -/
def execMapDigest (fn : Nat) (p : Packet) (s : State) : Host.Outcome State Fault Refusal :=
  .next (s.cmdRow 0x0302 fn p)

/-- FAULT_RESOLVE (R125). -/
def execFaultResolve (fn : Nat) (p : Packet) (s : State) : Host.Outcome State Fault Refusal :=
  .next (s.cmdRow 0x0303 fn p)

/-- JOB_SUBMIT (R136). -/
def execJobSubmit (fn : Nat) (p : Packet) (s : State) : Host.Outcome State Fault Refusal :=
  .next (s.cmdRow 0x0401 fn p)

/-- JOB_ABORT (R141). -/
def execJobAbort (fn : Nat) (p : Packet) (s : State) : Host.Outcome State Fault Refusal :=
  .next (s.cmdRow 0x0402 fn p)

/-- JOB_QUERY (R142). -/
def execJobQuery (fn : Nat) (p : Packet) (s : State) : Host.Outcome State Fault Refusal :=
  .next (s.cmdRow 0x0408 fn p)

/-- MODEL_LOAD (R209). -/
def execModelLoad (fn : Nat) (p : Packet) (s : State) : Host.Outcome State Fault Refusal :=
  .next (s.cmdRow 0x0403 fn p)

/-- LAYER_PLACE (R212). -/
def execLayerPlace (fn : Nat) (p : Packet) (s : State) : Host.Outcome State Fault Refusal :=
  .next (s.cmdRow 0x0404 fn p)

/-- MODEL_UNLOAD (R211). -/
def execModelUnload (fn : Nat) (p : Packet) (s : State) : Host.Outcome State Fault Refusal :=
  .next (s.cmdRow 0x0405 fn p)

/-- MODEL_USERS (R211). -/
def execModelUsers (fn : Nat) (p : Packet) (s : State) : Host.Outcome State Fault Refusal :=
  .next (s.cmdRow 0x0406 fn p)

/-- DECODE_STEP (R224). -/
def execDecodeStep (fn : Nat) (p : Packet) (s : State) : Host.Outcome State Fault Refusal :=
  .next (s.cmdRow 0x0407 fn p)

/-- METER_SET (R354). -/
def execMeterSet (fn : Nat) (p : Packet) (s : State) : Host.Outcome State Fault Refusal :=
  .next (s.cmdRow 0x0501 fn p)

/-- SCHED_SET (R359). -/
def execSchedSet (fn : Nat) (p : Packet) (s : State) : Host.Outcome State Fault Refusal :=
  .next (s.cmdRow 0x0502 fn p)

/-- GATE_LIST_LOAD (R363). -/
def execGateListLoad (fn : Nat) (p : Packet) (s : State) : Host.Outcome State Fault Refusal :=
  .next (s.cmdRow 0x0503 fn p)

/-- TENANT_CREATE (R405). -/
def execTenantCreate (fn : Nat) (p : Packet) (s : State) : Host.Outcome State Fault Refusal :=
  .next (s.cmdRow 0x0601 fn p)

/-- TENANT_REMOVE (R412). -/
def execTenantRemove (fn : Nat) (p : Packet) (s : State) : Host.Outcome State Fault Refusal :=
  .next (s.cmdRow 0x0602 fn p)

/-- KEY_ROTATE (R410). -/
def execKeyRotate (fn : Nat) (p : Packet) (s : State) : Host.Outcome State Fault Refusal :=
  .next (s.cmdRow 0x0603 fn p)

/-- BIND_WEIGHTS (R418). -/
def execBindWeights (fn : Nat) (p : Packet) (s : State) : Host.Outcome State Fault Refusal :=
  .next (s.cmdRow 0x0604 fn p)

/-- CONTRACT_LOAD (R457). -/
def execContractLoad (fn : Nat) (p : Packet) (s : State) : Host.Outcome State Fault Refusal :=
  .next (s.cmdRow 0x0701 fn p)

/-- POWER_READ (R466). -/
def execPowerRead (fn : Nat) (p : Packet) (s : State) : Host.Outcome State Fault Refusal :=
  .next (s.cmdRow 0x0702 fn p)

/-- FAULT_READ (R434). -/
def execFaultRead (fn : Nat) (p : Packet) (s : State) : Host.Outcome State Fault Refusal :=
  .next (s.cmdRow 0x0801 fn p)

/-- HISTORY_READ (R434). -/
def execHistoryRead (fn : Nat) (p : Packet) (s : State) : Host.Outcome State Fault Refusal :=
  .next (s.cmdRow 0x0802 fn p)

/-- FAULT_PIN_HOLD (R434). -/
def execFaultPinHold (fn : Nat) (p : Packet) (s : State) : Host.Outcome State Fault Refusal :=
  .next (s.cmdRow 0x0803 fn p)

/-- ROUTE_SET (R302). -/
def execRouteSet (fn : Nat) (p : Packet) (s : State) : Host.Outcome State Fault Refusal :=
  .next (s.cmdRow 0x0901 fn p)

/-- MCAST_GROUP_SET (R306). -/
def execMcastGroupSet (fn : Nat) (p : Packet) (s : State) : Host.Outcome State Fault Refusal :=
  .next (s.cmdRow 0x0902 fn p)

/-- FUNC_BIND (R332). -/
def execFuncBind (fn : Nat) (p : Packet) (s : State) : Host.Outcome State Fault Refusal :=
  .next (s.cmdRow 0x0903 fn p)

/-- COMMAND_SHED (R377). -/
def execCommandShed (fn : Nat) (s : State) : Host.Outcome State Fault Refusal :=
  .next (s.shed fn)

/-- ACCEPTED_DEADLINE (R545). -/
def execAcceptedDeadline (id : Nat) (s : State) : Host.Outcome State Fault Refusal :=
  .next (s.acceptOpen id)

/-- CMD_WORD (R369). -/
def execCmdWord (fn : Nat) (w : Word) (s : State) (tbit : Bool := false) : Host.Outcome State Fault Refusal :=
  .next (s.cmdWord fn w false tbit)

/-- CMD_LAST (R369). -/
def execCmdLast (fn : Nat) (w : Word) (s : State) (tbit : Bool := false) : Host.Outcome State Fault Refusal :=
  .next (s.cmdWord fn w true tbit)

/-- CMD_FLUSH (R372). -/
def execCmdFlush (fn : Nat) (s : State) (tbit : Bool := false) : Host.Outcome State Fault Refusal :=
  .next (s.cmdFlush fn tbit)

/-- BANK_SWAP (R370). -/
def execBankSwap (fn : Nat) (s : State) : Host.Outcome State Fault Refusal :=
  .next (s.bankSwap fn)

/-- COMPLETION_BUFFER_DRAIN (R381). -/
def execCompletionBufferDrain (fn : Nat) (s : State) : Host.Outcome State Fault Refusal :=
  .next (s.drainCpl fn 1024)

/-- EVENT_BUFFER_DRAIN (R383). -/
def execEventBufferDrain (fn : Nat) (s : State) : Host.Outcome State Fault Refusal :=
  .next (s.drainEvt fn 64)

/-- RESPONSE_RING_DRAIN (R331). -/
def execResponseRingDrain (fn : Nat) (s : State) : Host.Outcome State Fault Refusal :=
  .next (s.drainRing fn 256)

end Sys2Proof.Machine
end

