-- ==== Sys2Proof/Machine/FaultRows.lean ====
section
/-! DEFINITION. The rows of the stack controllers and of failures. -/

namespace Sys2Proof.Machine

/-- RATE_CHANGE_COMPLETE (R250). -/
def execRateChangeComplete (stack : Nat) (s : State) : Host.Outcome State Fault Refusal :=
  .next (s.rateDone stack)

/-- REFRESH (R244). -/
def execRefresh (stack : Nat) (s : State) : Host.Outcome State Fault Refusal :=
  .next (s.refresh stack)

/-- PERIODIC_RETRAIN (R248). -/
def execPeriodicRetrain (stack : Nat) (good : Bool) (s : State) (lanes : List Lane := []) : Host.Outcome State Fault Refusal :=
  .next (s.retrain stack good lanes)

/-- CA_PARITY_ERROR (R249). -/
def execCaParityError (stack : Nat) (reissueOk : Bool) (s : State) : Host.Outcome State Fault Refusal :=
  .next (s.caError stack reissueOk)

/-- PATROL (R255). -/
def execPatrol (stack line symbols : Nat) (s : State) : Host.Outcome State Fault Refusal :=
  .next (s.patrol stack line symbols)

/-- SKEW_WINDOW_END (R256). -/
def execSkewWindowEnd (stack : Nat) (s : State) : Host.Outcome State Fault Refusal :=
  .next (s.skewEnd stack)

/-- FAULT_N_PULSE_END (R433). -/
def execFaultNPulseEnd (s : State) : Host.Outcome State Fault Refusal :=
  .next (s.pulseEnd)

/-- STACK_FAILURE (R260), for a cause of Table 8.8: recorded now, settled at the boundary that closes the tick. -/
def execStackFailure (stack cause : Nat) (s : State) : Host.Outcome State Fault Refusal :=
  .next (if 1 ≤ cause && cause ≤ 5 then s.stackFails stack cause else s)

/-- DIE_FAILURE (R452): the die fails at the next boundary. The cause is what FLT found; the effect is the same for each. -/
def execDieFailure (die _cause : Nat) (s : State) : Host.Outcome State Fault Refusal :=
  .next (s.dieFails die)

/-- BRIDGE_LOSS (R451). -/
def execBridgeLoss (die hub : Nat) (s : State) : Host.Outcome State Fault Refusal :=
  .next (s.bridgeLost die hub)

/-- ENGINE_FAULT (R152). -/
def execEngineFault (engine : Nat) (afterWrite : Bool) (s : State) : Host.Outcome State Fault Refusal :=
  .next (s.engFault engine afterWrite)

/-- HUB_FAILURE (R426). -/
def execHubFailure (hub block cause : Nat) (s : State) : Host.Outcome State Fault Refusal :=
  .next (s.hubFails hub block cause)

/-- STANDBY_LOST (R442). -/
def execStandbyLost (cause : Nat) (s : State) : Host.Outcome State Fault Refusal :=
  .next (s.standbyLost cause)

/-- SWITCHOVER (R443). -/
def execSwitchover (cause : Nat) (s : State) : Host.Outcome State Fault Refusal :=
  .next (s.switchover cause)

/-- RAIL_MISMATCH (R432). -/
def execRailMismatch (block inst : Nat) (s : State) : Host.Outcome State Fault Refusal :=
  .next (s.railMismatch block inst)

/-- PART_FAILED (R448). -/
def execPartFailed (cause : Nat) (s : State) : Host.Outcome State Fault Refusal :=
  .next (s.partFailed cause)

end Sys2Proof.Machine
end

