-- ==== Sys2Proof/Machine/HostRows.lean ====
section
/-! DEFINITION. The rows of the host ports: BAR4, resets and link events, TDISP and IDE, SPDM and key programming. -/

namespace Sys2Proof.Machine

/-- BAR4_READ (R326). -/
def execBar4Read (fn off len id : Nat) (tbit : Bool) (s : State) : Host.Outcome State Fault Refusal :=
  .next (s.barRead fn off len id tbit)

/-- BAR4_WRITE (R325). -/
def execBar4Write (fn off : Nat) (data : List Byte) (tbit : Bool) (s : State) : Host.Outcome State Fault Refusal :=
  .next (s.barWrite fn off data tbit)

/-- BAR4_ATOMICOP (R325). -/
def execBar4Atomicop (fn off op width id : Nat) (operands : List Byte) (tbit : Bool) (s : State) : Host.Outcome State Fault Refusal :=
  .next (s.barAtomic fn off op width id operands tbit)

/-- WIN_WAIT_TIMEOUT (R326). -/
def execWinWaitTimeout (fn id : Nat) (s : State) : Host.Outcome State Fault Refusal :=
  .next (s.winTimeout fn id)

/-- READ_COMPLETION_TIMEOUT (R329). -/
def execReadCompletionTimeout (tag : Nat) (s : State) : Host.Outcome State Fault Refusal :=
  .next (s.readTimeout tag)

/-- FLR (R341). -/
def execFlr (fn : Nat) (s : State) : Host.Outcome State Fault Refusal :=
  .next (s.flr fn)

/-- PERST_N_ASSERT (R495). -/
def execPerstNAssert (port : Nat) (s : State) : Host.Outcome State Fault Refusal :=
  .next (s.perstLow port)

/-- PERST_N_RELEASE (R492). -/
def execPerstNRelease (port : Nat) (s : State) : Host.Outcome State Fault Refusal :=
  .next (s.perstHigh port)

/-- HOST_LINK_DOWN (R334). -/
def execHostLinkDown (l : Nat) (s : State) : Host.Outcome State Fault Refusal :=
  .next (s.hostDown l)

/-- IDE_INTEGRITY_FAIL (R337). -/
def execIdeIntegrityFail (l stream : Nat) (s : State) : Host.Outcome State Fault Refusal :=
  .next (s.ideFail l stream)

/-- LOCK_INTERFACE (R338). -/
def execLockInterface (fn : Nat) (s : State) : Host.Outcome State Fault Refusal :=
  .next (s.lockTdi fn)

/-- START_INTERFACE (R338). -/
def execStartInterface (fn : Nat) (s : State) : Host.Outcome State Fault Refusal :=
  .next (s.startTdi fn)

/-- STOP_INTERFACE (R338). -/
def execStopInterface (fn : Nat) (s : State) : Host.Outcome State Fault Refusal :=
  .next (s.stopTdi fn)

/-- LOCKED_CONFIG_WRITE (R338). -/
def execLockedConfigWrite (fn : Nat) (s : State) : Host.Outcome State Fault Refusal :=
  .next (s.tdiError fn)

/-- SPDM_GET_MEASUREMENTS (R403). -/
def execSpdmGetMeasurements (link : Nat) (req : List Byte) (s : State) : Host.Outcome State Fault Refusal :=
  .next (s.getMeasurements link req)

/-- PQ_SIGN (R404). -/
def execPqSign (link : Nat) (req : List Byte) (s : State) : Host.Outcome State Fault Refusal :=
  .next (s.pqSign link req)

/-- PQ_CERT (R404). -/
def execPqCert (link offset len : Nat) (s : State) : Host.Outcome State Fault Refusal :=
  .next (s.pqCert link offset len)

/-- TLK_KEY_PROG (R415). -/
def execTlkKeyProg (link port dir num : Nat) (key : List Byte) (salt : Nat) (s : State) : Host.Outcome State Fault Refusal :=
  .next (s.keyProg link port dir num key salt)

/-- TLK_KEY_GO (R415). -/
def execTlkKeyGo (link port num : Nat) (s : State) : Host.Outcome State Fault Refusal :=
  .next (s.keyGo link port num)

/-- HOST_LINK_UP (R334). -/
def execHostLinkUp (l rate width : Nat) (s : State) (flit : Bool := true) : Host.Outcome State Fault Refusal :=
  .next (s.hostUp l rate width flit)

/-- CONFIG_WRITE (R334). -/
def execConfigWrite (fn kind v : Nat) (s : State) : Host.Outcome State Fault Refusal :=
  .next (s.configWrite fn kind v)

/-- READ_COMPLETION (R329). -/
def execReadCompletion (tag status : Nat) (data : List Byte) (s : State) : Host.Outcome State Fault Refusal :=
  .next (s.readCompletion tag status data)

/-- SPDM_REQUEST (R402). -/
def execSpdmRequest (link code : Nat) (req : List Byte) (s : State) : Host.Outcome State Fault Refusal :=
  .next (s.spdmRequest link code req)

/-- IDE_KM_KEY_PROG (R337). -/
def execIdeKmKeyProg (l stream fn : Nat) (s : State) : Host.Outcome State Fault Refusal :=
  .next (s.ideKey l stream fn)

end Sys2Proof.Machine
end

