-- ==== Sys2Proof/Machine/MsgRows.lean ====
section
/-! DEFINITION. The rows of agents: directory requests, packets and control flits of Trellis, training, and the start of a packet on a port. -/

namespace Sys2Proof.Machine

/-- LOAD (R73). -/
def execLoad (via : Via) (r : DirReq) (s : State) : Host.Outcome State Fault Refusal :=
  .next (s.requestIn .load via r (.load via r))

/-- STORE (R73). -/
def execStore (via : Via) (r : DirReq) (s : State) : Host.Outcome State Fault Refusal :=
  .next (s.requestIn .store via r (.store via r))

/-- ATOMIC (R83). -/
def execAtomic (via : Via) (r : DirReq) (s : State) : Host.Outcome State Fault Refusal :=
  .next (s.requestIn .atomic via r (.atomic via r))

/-- SWAP_IN_SHARED (R73). -/
def execSwapInShared (via : Via) (r : DirReq) (s : State) : Host.Outcome State Fault Refusal :=
  .next (s.requestIn .swapInShared via r (.swapInShared via r))

/-- SWAP_IN_HELD (R73). -/
def execSwapInHeld (via : Via) (r : DirReq) (s : State) : Host.Outcome State Fault Refusal :=
  .next (s.requestIn .swapInHeld via r (.swapInHeld via r))

/-- SWAP_OUT (R73). -/
def execSwapOut (via : Via) (r : DirReq) (s : State) : Host.Outcome State Fault Refusal :=
  .next (s.requestIn .swapOut via r (.swapOut via r))

/-- RELEASE (R73). -/
def execRelease (via : Via) (r : DirReq) (s : State) : Host.Outcome State Fault Refusal :=
  .next (s.requestIn .release via r (.release via r))

/-- INV_ACK (R71). -/
def execInvAck (via : Via) (r : DirReq) (s : State) : Host.Outcome State Fault Refusal :=
  .next (s.requestIn .invAck via r (.invAck via r))

/-- JOB_PACKET (R136). -/
def execJobPacket (port agent tid : Nat) (words : List Word) (s : State) : Host.Outcome State Fault Refusal :=
  .next (s.arrive port 0 (1 + ceilDiv words.length 16) (.jobPacket port agent tid words))

/-- JOB_ABORT_PACKET (R141). -/
def execJobAbortPacket (port agent tid : Nat) (words : List Word) (s : State) : Host.Outcome State Fault Refusal :=
  .next (s.arrive port 0 (1 + ceilDiv words.length 16) (.jobAbortPacket port agent tid words))

/-- STEP_PACKET (R223). -/
def execStepPacket (port agent tid : Nat) (words : List Word) (s : State) : Host.Outcome State Fault Refusal :=
  .next (s.arrive port 0 (1 + ceilDiv words.length 16) (.stepPacket port agent tid words))

/-- MCPL (R277). -/
def execMcpl (port agent tag status : Nat) (data : List Byte) (s : State) : Host.Outcome State Fault Refusal :=
  .next (s.arrive port 2 (1 + ceilDiv data.length 64) (.mcpl port agent tag status data))

/-- BAD_PACKET_RX (R281). -/
def execBadPacketRx (port : Nat) (flits : List Byte) (ctrl uncorrectable : Bool) (s : State) : Host.Outcome State Fault Refusal :=
  .next (s.rawIn port flits ctrl uncorrectable)

/-- ACK (R283). -/
def execAck (port seq : Nat) (s : State) : Host.Outcome State Fault Refusal :=
  .next (s.gotAck port seq)

/-- NAK (R283). -/
def execNak (port seq : Nat) (s : State) : Host.Outcome State Fault Refusal :=
  .next (s.gotNak port seq)

/-- XOFF (R287). -/
def execXoff (port mask : Nat) (s : State) : Host.Outcome State Fault Refusal :=
  .next (s.gotXoff port mask)

/-- XON (R288). -/
def execXon (port mask : Nat) (s : State) : Host.Outcome State Fault Refusal :=
  .next (s.gotXon port mask)

/-- ACK_TIMER (R282). -/
def execAckTimer (port : Nat) (s : State) : Host.Outcome State Fault Refusal :=
  .next (s.ackTimer port)

/-- REPLAY_TIMER (R283). -/
def execReplayTimer (port : Nat) (s : State) : Host.Outcome State Fault Refusal :=
  .next (s.replayExpiry port)

/-- XOFF_REPEAT (R286). -/
def execXoffRepeat (port vc : Nat) (s : State) : Host.Outcome State Fault Refusal :=
  .next (s.xoffRepeat port vc)

/-- XOFF_TIMEOUT (R288). -/
def execXoffTimeout (port vc : Nat) (s : State) : Host.Outcome State Fault Refusal :=
  .next (s.xoffTimeout port vc)

/-- PARTNER_TRAINING_SIGNAL (R267). -/
def execPartnerTrainingSignal (port : Nat) (s : State) : Host.Outcome State Fault Refusal :=
  .next (s.trainStart port)

/-- TRAINING_COMPLETE (R269). -/
def execTrainingComplete (port versions : Nat) (trips : List Nat) (peerEnc peerReq peerKeys : Bool) (ctr0 ctr1 : Nat) (s : State) (stamps : List Nat := []) : Host.Outcome State Fault Refusal :=
  .next (s.trainEnd port versions trips stamps peerEnc peerReq peerKeys ctr0 ctr1)

/-- TRAINING_TIMEOUT (R267). -/
def execTrainingTimeout (port cause : Nat) (s : State) : Host.Outcome State Fault Refusal :=
  .next (s.trainFail port cause)

/-- RETRAIN_ATTEMPT_FAIL (R292). -/
def execRetrainAttemptFail (port cause : Nat) (s : State) : Host.Outcome State Fault Refusal :=
  .next (s.retrainFail port cause)

/-- LINK_BREAK (R290), for a cause that breaks an UP link. -/
def execLinkBreak (port cause : Nat) (s : State) : Host.Outcome State Fault Refusal :=
  .next (if 1 ≤ cause && cause ≤ 8 then s.breakLink port cause else s)

/-- GATE_ENTRY_EXPIRY (R361). -/
def execGateEntryExpiry (port : Nat) (s : State) : Host.Outcome State Fault Refusal :=
  .next (s.gateExpiry port)

/-- PACKET_START (R356). -/
def execPacketStart (port : Nat) (s : State) (link : Nat := 0) : Host.Outcome State Fault Refusal :=
  .next (s.packetStart port link)

end Sys2Proof.Machine
end

