-- ==== Sys2Proof/Machine/PowerRows.lean ====
section
/-! DEFINITION. The rows of time, power states, resets, boot, the input and the governor. -/

namespace Sys2Proof.Machine

/-- PTM_REQUEST (R475). -/
def execPtmRequest (s : State) : Host.Outcome State Fault Refusal :=
  .next (s.ptmAsk)

/-- PTM_RESPONSE (R476). -/
def execPtmResponse (t : Nat) (s : State) : Host.Outcome State Fault Refusal :=
  .next (s.ptmAnswer t)

/-- PTM_TIMEOUT (R475). -/
def execPtmTimeout (s : State) : Host.Outcome State Fault Refusal :=
  .next (s.ptmLate)

/-- PPS_EDGE (R477). -/
def execPpsEdge (tod : Nat) (s : State) : Host.Outcome State Fault Refusal :=
  .next (s.ppsEdge tod)

/-- TIME_HOLDOVER (R476). -/
def execTimeHoldover (s : State) : Host.Outcome State Fault Refusal :=
  .next (s.timeLost)

/-- PSTATE_DOZE (R497). -/
def execPstateDoze (fn : Nat) (s : State) : Host.Outcome State Fault Refusal :=
  .next (s.askTarget fn 1)

/-- DOZE_EXIT (R498). -/
def execDozeExit (fn : Nat) (s : State) : Host.Outcome State Fault Refusal :=
  .next (s.askTarget fn 0)

/-- PSTATE_CELLAR (R499). -/
def execPstateCellar (fn : Nat) (s : State) : Host.Outcome State Fault Refusal :=
  .next (s.askTarget fn 2)

/-- CELLAR_ENTRY_COMPLETE (R500). -/
def execCellarEntryComplete (s : State) : Host.Outcome State Fault Refusal :=
  .next (s.cellarIn)

/-- CELLAR_EXIT (R502). -/
def execCellarExit (fn target : Nat) (s : State) : Host.Outcome State Fault Refusal :=
  .next (s.cellarOut fn target)

/-- CELLAR_EXIT_READY (R502). -/
def execCellarExitReady (s : State) : Host.Outcome State Fault Refusal :=
  .next (s.cellarReady)

/-- RESET_N (R489). -/
def execResetN (ns : Nat) (s : State) : Host.Outcome State Fault Refusal :=
  .next (s.resetPin ns)

/-- COLD_BOOT (R490). -/
def execColdBoot (b : BootInfo) (s : State) : Host.Outcome State Fault Refusal :=
  .next (s.coldBoot b)

/-- SYSCLK_LOSS (R472). -/
def execSysclkLoss (s : State) : Host.Outcome State Fault Refusal :=
  .next (s.sysclkLost)

/-- REFCLK_LOSS (R472). -/
def execRefclkLoss (s : State) : Host.Outcome State Fault Refusal :=
  .next (s.refclkLost)

/-- REFCLK_RETURN (R472). -/
def execRefclkReturn (s : State) : Host.Outcome State Fault Refusal :=
  .next (s.refclkBack)

/-- VIN_RISE (R522). -/
def execVinRise (s : State) : Host.Outcome State Fault Refusal :=
  .next (s.vinRise)

/-- INPUT_LOSS (R526). -/
def execInputLoss (s : State) : Host.Outcome State Fault Refusal :=
  .next (s.inputLoss)

/-- POWER_SAMPLE (R459). -/
def execPowerSample (mw mv : Nat) (s : State) : Host.Outcome State Fault Refusal :=
  .next (s.powerSample mw mv)

/-- RAIL_FAULT (R524). -/
def execRailFault (rail : Nat) (s : State) : Host.Outcome State Fault Refusal :=
  .next (s.railFault rail)

/-- THROTTLE_N_ASSERT (R464). -/
def execThrottleNAssert (s : State) : Host.Outcome State Fault Refusal :=
  .next (s.throttleAssert)

/-- THROTTLE_N_RELEASE (R464). -/
def execThrottleNRelease (s : State) : Host.Outcome State Fault Refusal :=
  .next (s.throttleRelease)

/-- STACK_TEMP_READING (R244). -/
def execStackTempReading (stack t : Nat) (s : State) : Host.Outcome State Fault Refusal :=
  .next (s.stackTemp stack t)

/-- JUNCTION_READING (R464). -/
def execJunctionReading (die t : Nat) (s : State) : Host.Outcome State Fault Refusal :=
  .next (s.junction die t)

/-- GOVERNOR_EVALUATION (R463). -/
def execGovernorEvaluation (s : State) : Host.Outcome State Fault Refusal :=
  .next (s.evaluate)

/-- MINUTE_BOUNDARY (R454). -/
def execMinuteBoundary (s : State) : Host.Outcome State Fault Refusal :=
  .next (s.minuteEnd)

/-- LOG_RECORD_WRITE (R485). -/
def execLogRecordWrite (good : Bool) (s : State) : Host.Outcome State Fault Refusal :=
  .next (s.logWrite good)

end Sys2Proof.Machine
end

