-- ==== Sys2Proof/Machine/RegRows.lean ====
section
/-! DEFINITION. The rows of register accesses with an effect of their own, and register writes and reads. -/

namespace Sys2Proof.Machine

/-- TLK_TRAIN (R267). -/
def execTlkTrain (fn port : Nat) (s : State) : Host.Outcome State Fault Refusal :=
  .next (if s.mayProvide fn && Nat.blt port 16 then s.trainStart port else s)

/-- TLK_RETRAIN (R290). -/
def execTlkRetrain (fn port : Nat) (s : State) : Host.Outcome State Fault Refusal :=
  .next (if s.mayProvide fn && Nat.blt port 16 then s.breakLink port 8 else s)

/-- TLK_DISABLE_SET (R267). -/
def execTlkDisableSet (fn port : Nat) (s : State) : Host.Outcome State Fault Refusal :=
  .next (if s.mayProvide fn && Nat.blt port 16 && !(s.port port).off then s.portDisable port else s)

/-- TLK_DISABLE_CLEAR (R267). -/
def execTlkDisableClear (fn port : Nat) (s : State) : Host.Outcome State Fault Refusal :=
  .next (if s.mayProvide fn && Nat.blt port 16 then s.portEnable port else s)

/-- TRT_FREEZE (R313). -/
def execTrtFreeze (fn : Nat) (s : State) : Host.Outcome State Fault Refusal :=
  .next (if s.mayProvide fn then s.snapWrite 1 else s)

/-- TRT_RELEASE (R313). -/
def execTrtRelease (fn : Nat) (s : State) : Host.Outcome State Fault Refusal :=
  .next (if s.mayProvide fn then s.snapWrite 2 else s)

/-- TRT_PEAK_CLR (R312). -/
def execTrtPeakClr (fn ports : Nat) (s : State) : Host.Outcome State Fault Refusal :=
  .next (if s.mayProvide fn then s.peakClear ports else s)

/-- ENG_OFFLINE (R152). -/
def execEngOffline (fn engine : Nat) (s : State) : Host.Outcome State Fault Refusal :=
  .next (s.engOffline fn engine)

/-- ENGINE_RESET (R496). -/
def execEngineReset (fn engine : Nat) (s : State) : Host.Outcome State Fault Refusal :=
  .next (s.engReset fn engine)

/-- ENGINE_SELF_TEST_END (R496). -/
def execEngineSelfTestEnd (engine : Nat) (pass : Bool) (s : State) : Host.Outcome State Fault Refusal :=
  .next (s.selfTestEnd engine pass)

/-- GLB_TIME_SET (R478). -/
def execGlbTimeSet (fn : Nat) (up : Word) (s : State) : Host.Outcome State Fault Refusal :=
  .next (if s.mayGlb fn then s.timeSet up else s)

/-- GLB_LIFE_SEL (R487). -/
def execGlbLifeSel (fn : Nat) (v : Word) (s : State) : Host.Outcome State Fault Refusal :=
  .next (if s.mayGlb fn then s.lifeSelect v.toNat else s)

/-- DIR_ENTRY_SEL (R100). -/
def execDirEntrySel (fn : Nat) (v : Word) (s : State) : Host.Outcome State Fault Refusal :=
  .next (if s.mayProvide fn then s.dirSelect (v.toNat % 2 ^ 20) else s)

/-- OWNER_FN_WRITE (R110). -/
def execOwnerFnWrite (fn agent owner : Nat) (s : State) : Host.Outcome State Fault Refusal :=
  .next (if s.mayProvide fn then s.ownerWrite agent owner else s)

/-- FAULT_STATUS_CLEAR (R428). -/
def execFaultStatusClear (fn block inst : Nat) (v : Word) (s : State) : Host.Outcome State Fault Refusal :=
  .next (if s.instGone block inst then s else s.statusClear fn block inst v)

/-- FLT_OVF_CLEAR (R436). -/
def execFltOvfClear (fn block w : Nat) (v : Word) (s : State) : Host.Outcome State Fault Refusal :=
  .next (s.ovfClear fn block w v)

/-- FLT_PIN_HOLD_WRITE (R433). -/
def execFltPinHoldWrite (fn : Nat) (v : Word) (s : State) : Host.Outcome State Fault Refusal :=
  .next (s.pinHold fn v)

/-- VIEW_DATA_READ (R537). -/
def execViewDataRead (fn : Nat) (s : State) (tbit : Bool := false) : Host.Outcome State Fault Refusal :=
  .next (s.viewRead fn tbit)

/-- VINTAGE_LO_READ (R63). -/
def execVintageLoRead (fn : Nat) (s : State) : Host.Outcome State Fault Refusal :=
  .next (s.vintageRead fn)

/-- LOW_WORD_READ (R532). -/
def execLowWordRead (fn bar off : Nat) (s : State) (tbit : Bool := false) : Host.Outcome State Fault Refusal :=
  .next (s.lowRead fn bar off tbit)

/-- LOW_WORD_WRITE (R532). -/
def execLowWordWrite (fn bar off : Nat) (v : Word) (s : State) (tbit : Bool := false) : Host.Outcome State Fault Refusal :=
  .next (s.lowWrite fn bar off v.toNat tbit)

/-- REGISTER_WRITE (R8). -/
def execRegisterWrite (fn bar off width : Nat) (v : DWord) (s : State) (tbit : Bool := false) : Host.Outcome State Fault Refusal :=
  .next (s.registerWrite fn bar off width v.toNat tbit)

/-- SMBUS_READ (R509). -/
def execSmbusRead (off : Nat) (pecOk : Bool) (s : State) : Host.Outcome State Fault Refusal :=
  .next (s.smbus off pecOk)

/-- JTAG_INSTRUCTION (R510). -/
def execJtagInstruction (code : Nat) (on : Bool) (s : State) : Host.Outcome State Fault Refusal :=
  .next (s.jtag code on)

/-- ACCESS_ERROR (R11): a read returns zero, a write has no effect. -/
def execAccessError (hub off : Nat) (s : State) (read : Bool := false) : Host.Outcome State Fault Refusal :=
  .next (if read then (s.accessErr hub off).emit (.regData 0) else s.accessErr hub off)

end Sys2Proof.Machine
end

