-- ==== Sys2Proof/Machine/WorkRows.lean ====
section
/-! DEFINITION. The rows of the tick boundary, of engine work and of directory deadlines and records. -/

namespace Sys2Proof.Machine

/-- TICK_BOUNDARY (R21). -/
def execTickBoundary (s : State) : Host.Outcome State Fault Refusal :=
  .next (s.tickBoundary)

/-- TILE_PRECHECK (R122). -/
def execTilePrecheck (agent jobid : Nat) (s : State) : Host.Outcome State Fault Refusal :=
  .next (s.tilePrecheck agent jobid)

/-- MEASURE_COMPLETE (R22). -/
def execMeasureComplete (engine : Nat) (s : State) : Host.Outcome State Fault Refusal :=
  .next (s.completeMeasure engine)

/-- WRITE_BACK_COMPLETE (R87). -/
def execWriteBackComplete (page : Nat) (s : State) : Host.Outcome State Fault Refusal :=
  .next (s.wbComplete page)

/-- COW_COPY_COMPLETE (R47). -/
def execCowCopyComplete (page : Nat) (s : State) : Host.Outcome State Fault Refusal :=
  .next (s.cowComplete page)

/-- SCRUB_COMPLETE (R40). -/
def execScrubComplete (id : Nat) (s : State) : Host.Outcome State Fault Refusal :=
  .next (s.scrubDone id)

/-- DRAIN_COMPLETE (R39). -/
def execDrainComplete (region : Nat) (s : State) : Host.Outcome State Fault Refusal :=
  .next (s.drainDone region)

/-- PUBLISH_SWITCH (R52). -/
def execPublishSwitch (region : Nat) (s : State) : Host.Outcome State Fault Refusal :=
  .next (s.publishSwitch region)

/-- RACK_PAGE_SWITCH (R173). -/
def execRackPageSwitch (region page : Nat) (s : State) : Host.Outcome State Fault Refusal :=
  .next (s.rackSwitch region page)

/-- RACK_REWRITE_DONE (R174). -/
def execRackRewriteDone (region : Nat) (s : State) : Host.Outcome State Fault Refusal :=
  .next (s.rackRewrite region)

/-- RACK_COMPLETE (R174). -/
def execRackComplete (region : Nat) (s : State) : Host.Outcome State Fault Refusal :=
  .next (s.rackDone region)

/-- DIGEST_COMPLETE (R117). -/
def execDigestComplete (agent : Nat) (s : State) : Host.Outcome State Fault Refusal :=
  .next (s.digestDone agent)

/-- ROTATION_SWEEP_COMPLETE (R406). -/
def execRotationSweepComplete (tenant : Nat) (s : State) : Host.Outcome State Fault Refusal :=
  .next (s.sweepDone tenant)

/-- OLD_KEY_OVERWRITE (R406). -/
def execOldKeyOverwrite (tenant : Nat) (s : State) : Host.Outcome State Fault Refusal :=
  .next (s.oldKeyGone tenant)

/-- PAGE_SCRUB_COMPLETE (R413). -/
def execPageScrubComplete (page : Nat) (s : State) : Host.Outcome State Fault Refusal :=
  .next (s.pageScrubDone page)

/-- TENANT_SCRUB_COMPLETE (R413). -/
def execTenantScrubComplete (tenant : Nat) (s : State) : Host.Outcome State Fault Refusal :=
  .next (s.tenantScrubDone tenant)

/-- LOFT_ACK (R16). -/
def execLoftAck (s : State) : Host.Outcome State Fault Refusal :=
  .next (s.loftAck)

/-- DELTA_FRAME (R440). -/
def execDeltaFrame (good : Bool) (s : State) : Host.Outcome State Fault Refusal :=
  .next (s.deltaFrame good)

/-- RECALL_DEADLINE (R78). -/
def execRecallDeadline (page : Nat) (s : State) : Host.Outcome State Fault Refusal :=
  .next (s.expire page)

/-- AGENT_LOSS (R98). -/
def execAgentLoss (agent : Nat) (s : State) : Host.Outcome State Fault Refusal :=
  .next (s.agentLoss agent)

/-- LOST_AGENT_RETURN (R99). -/
def execLostAgentReturn (agent : Nat) (s : State) : Host.Outcome State Fault Refusal :=
  .next (s.lostReturn agent)

/-- FAULT_RECORD_EXPIRY (R126). -/
def execFaultRecordExpiry (slot : Nat) (s : State) : Host.Outcome State Fault Refusal :=
  .next (s.faultExpire slot)

/-- IDEM_RECORD_EXPIRY (R91). -/
def execIdemRecordExpiry (agent : Nat) (s : State) : Host.Outcome State Fault Refusal :=
  .next (s.idemExpire agent)

/-- JOB_RECORD_EXPIRY (R138). -/
def execJobRecordExpiry (agent : Nat) (s : State) : Host.Outcome State Fault Refusal :=
  .next (s.jobExpire agent)

/-- ACCESS_DECAY (R129). -/
def execAccessDecay (s : State) : Host.Outcome State Fault Refusal :=
  .next (s.decay)

/-- WARM_UP_END (R131). -/
def execWarmUpEnd (s : State) : Host.Outcome State Fault Refusal :=
  .next (s.warmEnd)

/-- PREFETCH_WALK_COMPLETE (R119). -/
def execPrefetchWalkComplete (hub agent pva : Nat) (s : State) : Host.Outcome State Fault Refusal :=
  .next (s.prefetchDone hub agent pva)

end Sys2Proof.Machine
end

