-- ==== Sys2Proof/Machine/Dispatch.lean ====
section
/-! DEFINITION. The meaning of every command: one arm for each constructor of `Instr`. -/

namespace Sys2Proof.Machine

/-- The effect of a command on everything but the queue. -/
def exec (i : Instr) (s : State) : Host.Outcome State Fault Refusal :=
  match i with
  | .hello fn p => Sys2Proof.Machine.execHello fn p s
  | .caps fn p => Sys2Proof.Machine.execCaps fn p s
  | .regionCreate fn p => Sys2Proof.Machine.execRegionCreate fn p s
  | .regionDestroy fn p => Sys2Proof.Machine.execRegionDestroy fn p s
  | .binAdd fn p => Sys2Proof.Machine.execBinAdd fn p s
  | .binRevoke fn p => Sys2Proof.Machine.execBinRevoke fn p s
  | .regionAttach fn p => Sys2Proof.Machine.execRegionAttach fn p s
  | .regionDetach fn p => Sys2Proof.Machine.execRegionDetach fn p s
  | .publish fn p => Sys2Proof.Machine.execPublish fn p s
  | .regionInfo fn p => Sys2Proof.Machine.execRegionInfo fn p s
  | .mapUpdate fn p => Sys2Proof.Machine.execMapUpdate fn p s
  | .mapDigest fn p => Sys2Proof.Machine.execMapDigest fn p s
  | .faultResolve fn p => Sys2Proof.Machine.execFaultResolve fn p s
  | .jobSubmit fn p => Sys2Proof.Machine.execJobSubmit fn p s
  | .jobAbort fn p => Sys2Proof.Machine.execJobAbort fn p s
  | .jobQuery fn p => Sys2Proof.Machine.execJobQuery fn p s
  | .modelLoad fn p => Sys2Proof.Machine.execModelLoad fn p s
  | .layerPlace fn p => Sys2Proof.Machine.execLayerPlace fn p s
  | .modelUnload fn p => Sys2Proof.Machine.execModelUnload fn p s
  | .modelUsers fn p => Sys2Proof.Machine.execModelUsers fn p s
  | .decodeStep fn p => Sys2Proof.Machine.execDecodeStep fn p s
  | .meterSet fn p => Sys2Proof.Machine.execMeterSet fn p s
  | .schedSet fn p => Sys2Proof.Machine.execSchedSet fn p s
  | .gateListLoad fn p => Sys2Proof.Machine.execGateListLoad fn p s
  | .tenantCreate fn p => Sys2Proof.Machine.execTenantCreate fn p s
  | .tenantRemove fn p => Sys2Proof.Machine.execTenantRemove fn p s
  | .keyRotate fn p => Sys2Proof.Machine.execKeyRotate fn p s
  | .bindWeights fn p => Sys2Proof.Machine.execBindWeights fn p s
  | .contractLoad fn p => Sys2Proof.Machine.execContractLoad fn p s
  | .powerRead fn p => Sys2Proof.Machine.execPowerRead fn p s
  | .faultRead fn p => Sys2Proof.Machine.execFaultRead fn p s
  | .historyRead fn p => Sys2Proof.Machine.execHistoryRead fn p s
  | .faultPinHold fn p => Sys2Proof.Machine.execFaultPinHold fn p s
  | .routeSet fn p => Sys2Proof.Machine.execRouteSet fn p s
  | .mcastGroupSet fn p => Sys2Proof.Machine.execMcastGroupSet fn p s
  | .funcBind fn p => Sys2Proof.Machine.execFuncBind fn p s
  | .commandShed fn => Sys2Proof.Machine.execCommandShed fn s
  | .acceptedDeadline id => Sys2Proof.Machine.execAcceptedDeadline id s
  | .load via r => Sys2Proof.Machine.execLoad via r s
  | .store via r => Sys2Proof.Machine.execStore via r s
  | .atomic via r => Sys2Proof.Machine.execAtomic via r s
  | .swapInShared via r => Sys2Proof.Machine.execSwapInShared via r s
  | .swapInHeld via r => Sys2Proof.Machine.execSwapInHeld via r s
  | .swapOut via r => Sys2Proof.Machine.execSwapOut via r s
  | .release via r => Sys2Proof.Machine.execRelease via r s
  | .invAck via r => Sys2Proof.Machine.execInvAck via r s
  | .jobPacket port agent tid words => Sys2Proof.Machine.execJobPacket port agent tid words s
  | .jobAbortPacket port agent tid words => Sys2Proof.Machine.execJobAbortPacket port agent tid words s
  | .stepPacket port agent tid words => Sys2Proof.Machine.execStepPacket port agent tid words s
  | .mcpl port agent tag status data => Sys2Proof.Machine.execMcpl port agent tag status data s
  | .badPacketRx port flits ctrl uncorrectable => Sys2Proof.Machine.execBadPacketRx port flits ctrl uncorrectable s
  | .ack port seq => Sys2Proof.Machine.execAck port seq s
  | .nak port seq => Sys2Proof.Machine.execNak port seq s
  | .xoff port mask => Sys2Proof.Machine.execXoff port mask s
  | .xon port mask => Sys2Proof.Machine.execXon port mask s
  | .ackTimer port => Sys2Proof.Machine.execAckTimer port s
  | .replayTimer port => Sys2Proof.Machine.execReplayTimer port s
  | .xoffRepeat port vc => Sys2Proof.Machine.execXoffRepeat port vc s
  | .xoffTimeout port vc => Sys2Proof.Machine.execXoffTimeout port vc s
  | .partnerTrainingSignal port => Sys2Proof.Machine.execPartnerTrainingSignal port s
  | .trainingComplete port versions trips peerEnc peerReq peerKeys ctr0 ctr1 stamps => Sys2Proof.Machine.execTrainingComplete port versions trips peerEnc peerReq peerKeys ctr0 ctr1 s stamps
  | .trainingTimeout port cause => Sys2Proof.Machine.execTrainingTimeout port cause s
  | .retrainAttemptFail port cause => Sys2Proof.Machine.execRetrainAttemptFail port cause s
  | .linkBreak port cause => Sys2Proof.Machine.execLinkBreak port cause s
  | .bar4Read fn off len id tbit => Sys2Proof.Machine.execBar4Read fn off len id tbit s
  | .bar4Write fn off data tbit => Sys2Proof.Machine.execBar4Write fn off data tbit s
  | .bar4Atomicop fn off op width id operands tbit => Sys2Proof.Machine.execBar4Atomicop fn off op width id operands tbit s
  | .winWaitTimeout fn id => Sys2Proof.Machine.execWinWaitTimeout fn id s
  | .readCompletionTimeout tag => Sys2Proof.Machine.execReadCompletionTimeout tag s
  | .flr fn => Sys2Proof.Machine.execFlr fn s
  | .perstNAssert port => Sys2Proof.Machine.execPerstNAssert port s
  | .perstNRelease port => Sys2Proof.Machine.execPerstNRelease port s
  | .hostLinkDown l => Sys2Proof.Machine.execHostLinkDown l s
  | .ideIntegrityFail l stream => Sys2Proof.Machine.execIdeIntegrityFail l stream s
  | .lockInterface fn => Sys2Proof.Machine.execLockInterface fn s
  | .startInterface fn => Sys2Proof.Machine.execStartInterface fn s
  | .stopInterface fn => Sys2Proof.Machine.execStopInterface fn s
  | .lockedConfigWrite fn => Sys2Proof.Machine.execLockedConfigWrite fn s
  | .spdmGetMeasurements link req => Sys2Proof.Machine.execSpdmGetMeasurements link req s
  | .pqSign link req => Sys2Proof.Machine.execPqSign link req s
  | .pqCert link offset len => Sys2Proof.Machine.execPqCert link offset len s
  | .tlkKeyProg link port dir num key salt => Sys2Proof.Machine.execTlkKeyProg link port dir num key salt s
  | .tlkKeyGo link port num => Sys2Proof.Machine.execTlkKeyGo link port num s
  | .ptmRequest => Sys2Proof.Machine.execPtmRequest s
  | .ptmResponse t => Sys2Proof.Machine.execPtmResponse t s
  | .ptmTimeout => Sys2Proof.Machine.execPtmTimeout s
  | .ppsEdge tod => Sys2Proof.Machine.execPpsEdge tod s
  | .timeHoldover => Sys2Proof.Machine.execTimeHoldover s
  | .cmdWord fn w tbit => Sys2Proof.Machine.execCmdWord fn w s tbit
  | .cmdLast fn w tbit => Sys2Proof.Machine.execCmdLast fn w s tbit
  | .cmdFlush fn tbit => Sys2Proof.Machine.execCmdFlush fn s tbit
  | .bankSwap fn => Sys2Proof.Machine.execBankSwap fn s
  | .completionBufferDrain fn => Sys2Proof.Machine.execCompletionBufferDrain fn s
  | .eventBufferDrain fn => Sys2Proof.Machine.execEventBufferDrain fn s
  | .responseRingDrain fn => Sys2Proof.Machine.execResponseRingDrain fn s
  | .tlkTrain fn port => Sys2Proof.Machine.execTlkTrain fn port s
  | .tlkRetrain fn port => Sys2Proof.Machine.execTlkRetrain fn port s
  | .tlkDisableSet fn port => Sys2Proof.Machine.execTlkDisableSet fn port s
  | .tlkDisableClear fn port => Sys2Proof.Machine.execTlkDisableClear fn port s
  | .trtFreeze fn => Sys2Proof.Machine.execTrtFreeze fn s
  | .trtRelease fn => Sys2Proof.Machine.execTrtRelease fn s
  | .trtPeakClr fn ports => Sys2Proof.Machine.execTrtPeakClr fn ports s
  | .engOffline fn engine => Sys2Proof.Machine.execEngOffline fn engine s
  | .engineReset fn engine => Sys2Proof.Machine.execEngineReset fn engine s
  | .engineSelfTestEnd engine pass => Sys2Proof.Machine.execEngineSelfTestEnd engine pass s
  | .pstateDoze fn => Sys2Proof.Machine.execPstateDoze fn s
  | .dozeExit fn => Sys2Proof.Machine.execDozeExit fn s
  | .pstateCellar fn => Sys2Proof.Machine.execPstateCellar fn s
  | .cellarEntryComplete => Sys2Proof.Machine.execCellarEntryComplete s
  | .cellarExit fn target => Sys2Proof.Machine.execCellarExit fn target s
  | .cellarExitReady => Sys2Proof.Machine.execCellarExitReady s
  | .glbTimeSet fn up => Sys2Proof.Machine.execGlbTimeSet fn up s
  | .glbLifeSel fn v => Sys2Proof.Machine.execGlbLifeSel fn v s
  | .dirEntrySel fn v => Sys2Proof.Machine.execDirEntrySel fn v s
  | .ownerFnWrite fn agent owner => Sys2Proof.Machine.execOwnerFnWrite fn agent owner s
  | .faultStatusClear fn block inst v => Sys2Proof.Machine.execFaultStatusClear fn block inst v s
  | .fltOvfClear fn block w v => Sys2Proof.Machine.execFltOvfClear fn block w v s
  | .fltPinHoldWrite fn v => Sys2Proof.Machine.execFltPinHoldWrite fn v s
  | .viewDataRead fn tbit => Sys2Proof.Machine.execViewDataRead fn s tbit
  | .vintageLoRead fn => Sys2Proof.Machine.execVintageLoRead fn s
  | .lowWordRead fn bar off tbit => Sys2Proof.Machine.execLowWordRead fn bar off s tbit
  | .lowWordWrite fn bar off v tbit => Sys2Proof.Machine.execLowWordWrite fn bar off v s tbit
  | .registerWrite fn bar off width v tbit => Sys2Proof.Machine.execRegisterWrite fn bar off width v s tbit
  | .smbusRead off pecOk => Sys2Proof.Machine.execSmbusRead off pecOk s
  | .resetN ns => Sys2Proof.Machine.execResetN ns s
  | .coldBoot b => Sys2Proof.Machine.execColdBoot b s
  | .sysclkLoss => Sys2Proof.Machine.execSysclkLoss s
  | .refclkLoss => Sys2Proof.Machine.execRefclkLoss s
  | .refclkReturn => Sys2Proof.Machine.execRefclkReturn s
  | .vinRise => Sys2Proof.Machine.execVinRise s
  | .inputLoss => Sys2Proof.Machine.execInputLoss s
  | .powerSample mw mv => Sys2Proof.Machine.execPowerSample mw mv s
  | .railFault rail => Sys2Proof.Machine.execRailFault rail s
  | .throttleNAssert => Sys2Proof.Machine.execThrottleNAssert s
  | .throttleNRelease => Sys2Proof.Machine.execThrottleNRelease s
  | .stackTempReading stack t => Sys2Proof.Machine.execStackTempReading stack t s
  | .junctionReading die t => Sys2Proof.Machine.execJunctionReading die t s
  | .tickBoundary => Sys2Proof.Machine.execTickBoundary s
  | .tilePrecheck agent jobid => Sys2Proof.Machine.execTilePrecheck agent jobid s
  | .measureComplete engine => Sys2Proof.Machine.execMeasureComplete engine s
  | .writeBackComplete page => Sys2Proof.Machine.execWriteBackComplete page s
  | .cowCopyComplete page => Sys2Proof.Machine.execCowCopyComplete page s
  | .scrubComplete id => Sys2Proof.Machine.execScrubComplete id s
  | .drainComplete region => Sys2Proof.Machine.execDrainComplete region s
  | .publishSwitch region => Sys2Proof.Machine.execPublishSwitch region s
  | .rackPageSwitch region page => Sys2Proof.Machine.execRackPageSwitch region page s
  | .rackRewriteDone region => Sys2Proof.Machine.execRackRewriteDone region s
  | .rackComplete region => Sys2Proof.Machine.execRackComplete region s
  | .digestComplete agent => Sys2Proof.Machine.execDigestComplete agent s
  | .rotationSweepComplete tenant => Sys2Proof.Machine.execRotationSweepComplete tenant s
  | .oldKeyOverwrite tenant => Sys2Proof.Machine.execOldKeyOverwrite tenant s
  | .pageScrubComplete page => Sys2Proof.Machine.execPageScrubComplete page s
  | .tenantScrubComplete tenant => Sys2Proof.Machine.execTenantScrubComplete tenant s
  | .rateChangeComplete stack => Sys2Proof.Machine.execRateChangeComplete stack s
  | .loftAck => Sys2Proof.Machine.execLoftAck s
  | .deltaFrame good => Sys2Proof.Machine.execDeltaFrame good s
  | .refresh stack => Sys2Proof.Machine.execRefresh stack s
  | .periodicRetrain stack good lanes => Sys2Proof.Machine.execPeriodicRetrain stack good s lanes
  | .caParityError stack reissueOk => Sys2Proof.Machine.execCaParityError stack reissueOk s
  | .patrol stack line symbols => Sys2Proof.Machine.execPatrol stack line symbols s
  | .gateEntryExpiry port => Sys2Proof.Machine.execGateEntryExpiry port s
  | .recallDeadline page => Sys2Proof.Machine.execRecallDeadline page s
  | .agentLoss agent => Sys2Proof.Machine.execAgentLoss agent s
  | .lostAgentReturn agent => Sys2Proof.Machine.execLostAgentReturn agent s
  | .faultRecordExpiry slot => Sys2Proof.Machine.execFaultRecordExpiry slot s
  | .idemRecordExpiry agent => Sys2Proof.Machine.execIdemRecordExpiry agent s
  | .jobRecordExpiry agent => Sys2Proof.Machine.execJobRecordExpiry agent s
  | .accessDecay => Sys2Proof.Machine.execAccessDecay s
  | .warmUpEnd => Sys2Proof.Machine.execWarmUpEnd s
  | .skewWindowEnd stack => Sys2Proof.Machine.execSkewWindowEnd stack s
  | .governorEvaluation => Sys2Proof.Machine.execGovernorEvaluation s
  | .minuteBoundary => Sys2Proof.Machine.execMinuteBoundary s
  | .faultNPulseEnd => Sys2Proof.Machine.execFaultNPulseEnd s
  | .stackFailure stack cause => Sys2Proof.Machine.execStackFailure stack cause s
  | .dieFailure die cause => Sys2Proof.Machine.execDieFailure die cause s
  | .bridgeLoss die hub => Sys2Proof.Machine.execBridgeLoss die hub s
  | .engineFault engine afterWrite => Sys2Proof.Machine.execEngineFault engine afterWrite s
  | .hubFailure hub block cause => Sys2Proof.Machine.execHubFailure hub block cause s
  | .standbyLost cause => Sys2Proof.Machine.execStandbyLost cause s
  | .switchover cause => Sys2Proof.Machine.execSwitchover cause s
  | .railMismatch block inst => Sys2Proof.Machine.execRailMismatch block inst s
  | .partFailed cause => Sys2Proof.Machine.execPartFailed cause s
  | .hostLinkUp l rate width flit => Sys2Proof.Machine.execHostLinkUp l rate width s flit
  | .configWrite fn kind v => Sys2Proof.Machine.execConfigWrite fn kind v s
  | .readCompletion tag status data => Sys2Proof.Machine.execReadCompletion tag status data s
  | .spdmRequest link code req => Sys2Proof.Machine.execSpdmRequest link code req s
  | .ideKmKeyProg l stream fn => Sys2Proof.Machine.execIdeKmKeyProg l stream fn s
  | .jtagInstruction code on => Sys2Proof.Machine.execJtagInstruction code on s
  | .accessError hub off read => Sys2Proof.Machine.execAccessError hub off s read
  | .logRecordWrite good => Sys2Proof.Machine.execLogRecordWrite good s
  | .packetStart port link => Sys2Proof.Machine.execPacketStart port s link
  | .prefetchWalkComplete hub agent pva => Sys2Proof.Machine.execPrefetchWalkComplete hub agent pva s

end Sys2Proof.Machine
end

