-- ==== Sys2Proof/WellFormed.lean ====
section
/-! DEFINITION. Which commands are well formed: every number lies in the range that the specification gives its kind. A command that is not
well formed names a function, port, agent or other unit that the part does not have; its effect is that of an absent unit. -/

namespace Sys2Proof

/-- A function number (R320). -/
def fnOk (fn : Nat) : Bool := Nat.blt fn 256
/-- A Trellis port (R264). -/
def portOk (p : Nat) : Bool := Nat.blt p 16
/-- A crossbar port index (Table 10.1). -/
def xbarOk (p : Nat) : Bool := Nat.blt p 24
/-- An agent number (Table 1.8). -/
def agentOk (a : Nat) : Bool := Nat.blt a 128
/-- A tenant number. -/
def tenantOk (t : Nat) : Bool := Nat.blt t 64
/-- A link index (R317). -/
def linkOk (l : Nat) : Bool := Nat.blt l 32
/-- A stack number (R13). -/
def stackOk (k : Nat) : Bool := Nat.blt k 16

/-- One of the 32 channels' lanes: 64 data bits and their spares and check lanes, or command and address (R232). -/
def Lane.ok (l : Lane) : Bool := Nat.blt l.ch 32 && Nat.blt l.lane 256
/-- A cellar die (R13). -/
def dieOk (d : Nat) : Bool := Nat.blt d 4
/-- A hub: 0 HUB-A, 1 HUB-B. -/
def hubOk (h : Nat) : Bool := Nat.blt h 2
/-- An engine number. -/
def engineOk (n : Nat) : Bool := Nat.blt n 256
/-- A region ID. -/
def regionOk (r : Nat) : Bool := Nat.blt r 4096
/-- A directory index (Table 3.1). -/
def pageOk (i : Nat) : Bool := Nat.blt i 781312
/-- A virtual channel, of three (Table 9.8). -/
def vcOk (v : Nat) : Bool := Nat.blt v 3
/-- A sequence number of 12 bits (Table 9.8). -/
def seqOk (q : Nat) : Bool := Nat.blt q 4096
/-- A BAR number and a 32-bit register's offset in it: BAR0 or BAR2. -/
def regOk (bar off : Nat) : Bool := (bar == 0 || bar == 2) && off % 4 == 0 && Nat.blt off (2 ^ 25)

/-- A packet fits a bank of 1024 DW (R371) and holds at least its last word (R369). -/
def Packet.wf (p : Packet) : Bool := Nat.blt 0 p.words.length && Nat.ble p.words.length 1024

def Via.wf (v : Via) : Bool :=
  match v with
  | .trellis p a => portOk p && agentOk a
  | .slot fn => fnOk fn
  | .bar4 fn _ _ => fnOk fn
  | .engine => true

/-- The widths of a directory request's fields (Table 3.4). -/
def DirReq.wf (r : DirReq) : Bool :=
  Nat.blt r.pva (2 ^ 52) && Nat.blt r.gen (2 ^ 24) && Nat.blt r.dest (2 ^ 64) && Nat.blt r.mask (2 ^ 64) &&
    Nat.ble r.operands.length 32 && Nat.ble r.data.length 64

/-- A command of a function with its packet. -/
def cmdOk (fn : Nat) (p : Packet) : Bool := fnOk fn && p.wf

/-- A directory request with its way. -/
def reqOk (v : Via) (r : DirReq) : Bool := v.wf && r.wf

/-- What a boot finds: each stack that fails is one of sixteen, and each port has a division code. -/
def BootInfo.wf (b : BootInfo) : Bool :=
  b.stacksFailed.all stackOk && b.lanes.all (fun l => stackOk l.1 && l.2.ok) && b.blobA.divs.length == 8 && b.blobB.divs.length == 8 && b.blobA.vfs.all (fun x => linkOk x.1) &&
    b.blobB.vfs.all (fun x => linkOk x.1)

/-- Is the command well formed? -/
def Instr.wf (c : Instr) : Bool :=
  match c with
  | .hello fn p => cmdOk fn p
  | .caps fn p => cmdOk fn p
  | .regionCreate fn p => cmdOk fn p
  | .regionDestroy fn p => cmdOk fn p
  | .binAdd fn p => cmdOk fn p
  | .binRevoke fn p => cmdOk fn p
  | .regionAttach fn p => cmdOk fn p
  | .regionDetach fn p => cmdOk fn p
  | .publish fn p => cmdOk fn p
  | .regionInfo fn p => cmdOk fn p
  | .mapUpdate fn p => cmdOk fn p
  | .mapDigest fn p => cmdOk fn p
  | .faultResolve fn p => cmdOk fn p
  | .jobSubmit fn p => cmdOk fn p
  | .jobAbort fn p => cmdOk fn p
  | .jobQuery fn p => cmdOk fn p
  | .modelLoad fn p => cmdOk fn p
  | .layerPlace fn p => cmdOk fn p
  | .modelUnload fn p => cmdOk fn p
  | .modelUsers fn p => cmdOk fn p
  | .decodeStep fn p => cmdOk fn p
  | .meterSet fn p => cmdOk fn p
  | .schedSet fn p => cmdOk fn p
  | .gateListLoad fn p => cmdOk fn p
  | .tenantCreate fn p => cmdOk fn p
  | .tenantRemove fn p => cmdOk fn p
  | .keyRotate fn p => cmdOk fn p
  | .bindWeights fn p => cmdOk fn p
  | .contractLoad fn p => cmdOk fn p
  | .powerRead fn p => cmdOk fn p
  | .faultRead fn p => cmdOk fn p
  | .historyRead fn p => cmdOk fn p
  | .faultPinHold fn p => cmdOk fn p
  | .routeSet fn p => cmdOk fn p
  | .mcastGroupSet fn p => cmdOk fn p
  | .funcBind fn p => cmdOk fn p
  | .commandShed fn => fnOk fn
  | .acceptedDeadline _ => true
  | .load v r => reqOk v r
  | .store v r => reqOk v r
  | .atomic v r => reqOk v r
  | .swapInShared v r => reqOk v r
  | .swapInHeld v r => reqOk v r
  | .swapOut v r => reqOk v r
  | .release v r => reqOk v r
  | .invAck v r => reqOk v r
  | .jobPacket p a _ ws => portOk p && agentOk a && Nat.ble ws.length 32
  | .jobAbortPacket p a _ ws => portOk p && agentOk a && Nat.ble ws.length 32
  | .stepPacket p a _ ws => portOk p && agentOk a && Nat.ble ws.length 64
  | .mcpl p a _ _ d => portOk p && agentOk a && Nat.ble d.length 1024
  | .badPacketRx p bs _ _ => portOk p && Nat.ble bs.length 4096
  | .ack p q => portOk p && seqOk q
  | .nak p q => portOk p && seqOk q
  | .xoff p m => portOk p && Nat.blt m 8
  | .xon p m => portOk p && Nat.blt m 8
  | .ackTimer p => portOk p
  | .replayTimer p => portOk p
  | .xoffRepeat p v => portOk p && vcOk v
  | .xoffTimeout p v => portOk p && vcOk v
  | .partnerTrainingSignal p => portOk p
  | .trainingComplete p _ ts _ _ _ _ _ ss => portOk p && ts.length == 16 && ss.length == 16
  | .trainingTimeout p _ => portOk p
  | .retrainAttemptFail p _ => portOk p
  | .linkBreak p c => portOk p && Nat.blt 0 c && Nat.blt c 9
  | .bar4Read fn _ _ _ _ => fnOk fn
  | .bar4Write fn _ _ _ => fnOk fn
  | .bar4Atomicop fn _ _ w _ ops _ => fnOk fn && Nat.ble ops.length (2 * w)
  | .winWaitTimeout fn _ => fnOk fn
  | .readCompletionTimeout _ => true
  | .flr fn => fnOk fn
  | .perstNAssert p => Nat.blt p 8
  | .perstNRelease p => Nat.blt p 8
  | .hostLinkDown l => linkOk l
  | .ideIntegrityFail l st => linkOk l && Nat.blt st 9
  | .lockInterface fn => fnOk fn
  | .startInterface fn => fnOk fn
  | .stopInterface fn => fnOk fn
  | .lockedConfigWrite fn => fnOk fn
  | .spdmGetMeasurements l _ => linkOk l
  | .pqSign l _ => linkOk l
  | .pqCert l _ _ => linkOk l
  | .tlkKeyProg l p d n key _ => linkOk l && portOk p && Nat.blt d 2 && Nat.blt n 2 && key.length == 32
  | .tlkKeyGo l p n => linkOk l && portOk p && Nat.blt n 2
  | .ptmRequest => true
  | .ptmResponse _ => true
  | .ptmTimeout => true
  | .ppsEdge _ => true
  | .timeHoldover => true
  | .cmdWord fn _ _ => fnOk fn
  | .cmdLast fn _ _ => fnOk fn
  | .cmdFlush fn _ => fnOk fn
  | .bankSwap fn => fnOk fn
  | .completionBufferDrain fn => fnOk fn
  | .eventBufferDrain fn => fnOk fn
  | .responseRingDrain fn => fnOk fn
  | .tlkTrain fn p => fnOk fn && portOk p
  | .tlkRetrain fn p => fnOk fn && portOk p
  | .tlkDisableSet fn p => fnOk fn && portOk p
  | .tlkDisableClear fn p => fnOk fn && portOk p
  | .trtFreeze fn => fnOk fn
  | .trtRelease fn => fnOk fn
  | .trtPeakClr fn m => fnOk fn && Nat.blt m (2 ^ 24)
  | .engOffline fn n => fnOk fn && engineOk n
  | .engineReset fn n => fnOk fn && engineOk n
  | .engineSelfTestEnd n _ => engineOk n
  | .pstateDoze fn => fnOk fn
  | .dozeExit fn => fnOk fn
  | .pstateCellar fn => fnOk fn
  | .cellarEntryComplete => true
  | .cellarExit fn _ => fnOk fn
  | .cellarExitReady => true
  | .glbTimeSet fn _ => fnOk fn
  | .glbLifeSel fn _ => fnOk fn
  | .dirEntrySel fn _ => fnOk fn
  | .ownerFnWrite fn a _ => fnOk fn && agentOk a
  | .faultStatusClear fn b j _ => fnOk fn && Nat.blt b 20 && Nat.blt j 6
  | .fltOvfClear fn b _ _ => fnOk fn && Nat.blt b 20
  | .fltPinHoldWrite fn _ => fnOk fn
  | .viewDataRead fn _ => fnOk fn
  | .vintageLoRead fn => fnOk fn
  | .lowWordRead fn b o _ => fnOk fn && regOk b o
  | .lowWordWrite fn b o _ _ => fnOk fn && regOk b o
  | .registerWrite fn b o w _ _ => fnOk fn && (b == 0 || b == 2) && Nat.blt o (2 ^ 25) && (w == 1 || w == 2 || w == 4 || w == 8)
  | .smbusRead o _ => Nat.blt o (2 ^ 25)
  | .resetN _ => true
  | .coldBoot b => b.wf
  | .sysclkLoss => true
  | .refclkLoss => true
  | .refclkReturn => true
  | .vinRise => true
  | .inputLoss => true
  | .powerSample _ _ => true
  | .railFault r => Nat.blt r 20
  | .throttleNAssert => true
  | .throttleNRelease => true
  | .stackTempReading k _ => stackOk k
  | .junctionReading d _ => Nat.blt d 6
  | .tickBoundary => true
  | .tilePrecheck a j => agentOk a && Nat.blt j 65536
  | .measureComplete n => engineOk n
  | .writeBackComplete i => pageOk i
  | .cowCopyComplete i => pageOk i
  | .scrubComplete _ => true
  | .drainComplete r => regionOk r
  | .publishSwitch r => regionOk r
  | .rackPageSwitch r i => regionOk r && pageOk i
  | .rackRewriteDone r => regionOk r
  | .rackComplete r => regionOk r
  | .digestComplete a => agentOk a
  | .rotationSweepComplete t => tenantOk t
  | .oldKeyOverwrite t => tenantOk t
  | .pageScrubComplete i => pageOk i
  | .tenantScrubComplete t => tenantOk t
  | .rateChangeComplete k => stackOk k
  | .loftAck => true
  | .deltaFrame _ => true
  | .refresh k => stackOk k
  | .periodicRetrain k _ ls => stackOk k && ls.all Lane.ok
  | .caParityError k _ => stackOk k
  | .patrol k _ _ => stackOk k
  | .gateEntryExpiry p => xbarOk p
  | .recallDeadline i => pageOk i
  | .agentLoss a => agentOk a
  | .lostAgentReturn a => agentOk a
  | .faultRecordExpiry k => Nat.blt k 1024
  | .idemRecordExpiry a => agentOk a
  | .jobRecordExpiry a => agentOk a
  | .accessDecay => true
  | .warmUpEnd => true
  | .skewWindowEnd k => stackOk k
  | .governorEvaluation => true
  | .minuteBoundary => true
  | .faultNPulseEnd => true
  | .stackFailure k c => stackOk k && Nat.blt 0 c && Nat.blt c 6
  | .dieFailure d _ => dieOk d
  | .bridgeLoss d h => dieOk d && hubOk h
  | .engineFault n _ => engineOk n
  | .hubFailure h b _ => hubOk h && Nat.blt b 20
  | .standbyLost _ => true
  | .switchover _ => true
  | .railMismatch b j => Nat.blt b 20 && Nat.blt j 6
  | .partFailed _ => true
  | .hostLinkUp l _ _ _ => linkOk l
  | .configWrite fn k _ => fnOk fn && Nat.blt k 6
  | .readCompletion _ _ _ => true
  | .spdmRequest l c _ => linkOk l && Nat.blt c 256
  | .ideKmKeyProg l st fn => linkOk l && Nat.blt st 9 && fnOk fn
  | .jtagInstruction _ _ => true
  | .accessError h o _ => hubOk h && Nat.blt o (2 ^ 25)
  | .logRecordWrite _ => true
  | .packetStart p l => xbarOk p && Nat.blt l 4
  | .prefetchWalkComplete h a v => hubOk h && agentOk a && Nat.blt v (2 ^ 52)

end Sys2Proof
end

