-- ==== Sys2Proof/Safety.lean ====
section
/-! DEFINITION. The terms in which claims are made: the parts of the state, what a command leaves alone, the invariant of the model, and runs of
several steps. -/

namespace Sys2Proof.Machine

/-- The parts of the state: the pool's memory, the blocks of Table 1.4 that hold state, the pins, the flash, the counters, and what has
left the part. -/
inductive Part where
  | mem | rgn | dir | xlt | eng | opu | mcx | sec | cmd | pci | tlk | trt | mtr | sch | flt | mir | glb | pwr | pins | flash | latched
  | stats | out | fresh
  deriving DecidableEq, Repr

/-- The two states agree in a part. -/
def Part.same (p : Part) (s t : State) : Prop :=
  match p with
  | .mem => t.mem = s.mem
  | .rgn => t.rgn = s.rgn
  | .dir => t.dir = s.dir
  | .xlt => t.xlt = s.xlt
  | .eng => t.eng = s.eng
  | .opu => t.opu = s.opu
  | .mcx => t.mcx = s.mcx
  | .sec => t.sec = s.sec
  | .cmd => t.cmd = s.cmd
  | .pci => t.pci = s.pci
  | .tlk => t.tlk = s.tlk
  | .trt => t.trt = s.trt
  | .mtr => t.mtr = s.mtr
  | .sch => t.sch = s.sch
  | .flt => t.flt = s.flt
  | .mir => t.mir = s.mir
  | .glb => t.glb = s.glb
  | .pwr => t.pwr = s.pwr
  | .pins => t.pins = s.pins
  | .flash => t.flash = s.flash
  | .latched => t.latched = s.latched
  | .stats => t.stats = s.stats
  | .out => t.out = s.out
  | .fresh => t.fresh = s.fresh

/-- The number of a part in a mask. -/
def Part.no (p : Part) : Nat :=
  match p with
  | .mem => 0 | .rgn => 1 | .dir => 2 | .xlt => 3 | .eng => 4 | .opu => 5 | .mcx => 6 | .sec => 7 | .cmd => 8 | .pci => 9
  | .tlk => 10 | .trt => 11 | .mtr => 12 | .sch => 13 | .flt => 14 | .mir => 15 | .glb => 16 | .pwr => 17 | .pins => 18
  | .flash => 19 | .latched => 20 | .stats => 21 | .out => 22 | .fresh => 23

/-- What one command may do to the whole state, from `s` to `t`: the queue is left alone, the pool's memory stays in canonical form,
what has left the part stays sent, no free value is drawn twice, and every part outside the mask `m` is unchanged. -/
structure Frame (m : Nat) (s t : State) : Prop where
  queue : t.pending = s.pending
  mem : Memory.wf s.mem = true → Memory.wf t.mem = true
  sent : s.out <:+ t.out
  drawn : s.fresh ≤ t.fresh
  same : ∀ p : Part, m.testBit p.no = false → p.same s t

/-- The states that claims start from: the memory in its one canonical form, and every waiting command well formed. -/
structure State.Inv (s : State) : Prop where
  mem : Memory.wf s.mem = true
  queue : ∀ c ∈ s.pending, c.wf = true

/-- Lutik begins packet `p` of function `fn` as the command of opcode `op`: the function may be served now, the packet passes the common
checks of Table 13.1, its opcode is `op`, and the part's condition does not refuse it (R374, R393, R414, R449). -/
structure State.Begins (s : State) (fn : Nat) (p : Packet) (op : Nat) : Prop where
  may : s.mayBegin fn = true
  checked : p.refusal (s.intake fn).minor = none
  opcode : p.op = op
  served : s.stateRefusal fn op = none

/-- A packet begun is counted in CMD_PACKETS. -/
def State.begun (s : State) : State := s.bump blkCMD 0x0500

/-- Who is answered for a packet: the function and the packet's TAG (R373). -/
def issuer (fn : Nat) (p : Packet) : Issuer := { fn := fn, tag := p.tag }

/-- The region that DW2 of a region command names exists, and its function may command it (R42, R62). -/
structure State.Target (s : State) (fn : Nat) (p : Packet) : Prop where
  known : p.dw 2 < 4096
  live : (s.region (p.dw 2)).state ≠ .free
  allowed : s.mayRegion (issuer fn p) (s.region (p.dw 2)).owner = true

/-- The region is neither CREATING nor DESTROYING. -/
def Region.settled (g : Region) : Bool := g.state != .creating && g.state != .destroying

/-- The parts of the state that a command may change. Every other part is left alone (the rows read these from their rules; a part is listed
where any path of the command reaches it). What a command leaves waiting for the next tick boundary changes its own parts there. -/
def touches (c : Instr) : List Part :=
  match c with
  | .hello .. | .caps .. | .regionCreate .. | .regionDestroy .. | .binAdd .. | .binRevoke .. | .regionAttach .. | .regionDetach .. | .publish ..
  | .regionInfo .. | .mapUpdate .. | .mapDigest .. | .faultResolve .. | .jobSubmit .. | .jobAbort .. | .jobQuery .. | .modelLoad ..
  | .layerPlace .. | .modelUnload .. | .modelUsers .. | .decodeStep .. | .meterSet .. | .schedSet .. | .gateListLoad .. | .tenantCreate ..
  | .tenantRemove .. | .keyRotate .. | .bindWeights .. | .contractLoad .. | .powerRead .. | .faultRead .. | .historyRead .. | .faultPinHold ..
  | .routeSet .. | .mcastGroupSet .. | .funcBind .. =>
    [.dir, .cmd, .trt, .sch, .flt, .stats]
  | .commandShed .. =>
    [.cmd, .trt, .sch, .flt, .stats]
  | .acceptedDeadline .. | .completionBufferDrain .. | .eventBufferDrain .. =>
    [.cmd, .trt, .sch]
  | .load .. | .store .. | .atomic .. | .swapInShared .. | .swapInHeld .. | .swapOut .. | .release .. | .invAck .. | .jobPacket ..
  | .jobAbortPacket .. | .stepPacket .. | .mcpl .. | .badPacketRx .. =>
    [.mem, .rgn, .dir, .xlt, .eng, .opu, .mcx, .sec, .cmd, .pci, .tlk, .trt, .mtr, .sch, .flt, .mir, .stats, .out, .fresh]
  | .ack .. | .nak .. | .replayTimer .. | .xoffTimeout .. | .linkBreak .. | .hostLinkDown .. | .ideIntegrityFail .. | .stopInterface ..
  | .lockedConfigWrite .. | .tlkRetrain .. | .tlkDisableSet .. | .hostLinkUp .. | .configWrite .. =>
    [.dir, .xlt, .eng, .cmd, .pci, .tlk, .trt, .sch, .flt, .mir, .stats]
  | .xoff .. | .xon .. =>
    [.tlk, .flt, .stats]
  | .ackTimer .. =>
    [.tlk, .flt, .stats, .out]
  | .xoffRepeat .. =>
    [.flt, .stats, .out]
  | .partnerTrainingSignal .. | .trainingTimeout .. | .tlkTrain .. | .tlkDisableClear .. =>
    [.tlk]
  | .trainingComplete .. =>
    [.dir, .xlt, .eng, .sec, .cmd, .pci, .tlk, .trt, .sch, .flt, .mir, .stats, .out, .fresh]
  | .retrainAttemptFail .. =>
    [.cmd, .tlk, .trt, .sch, .flt, .stats]
  | .bar4Read .. | .bar4Write .. | .bar4Atomicop .. =>
    [.mem, .rgn, .dir, .xlt, .eng, .mcx, .cmd, .pci, .tlk, .trt, .mtr, .sch, .flt, .mir, .stats, .fresh]
  | .winWaitTimeout .. =>
    [.dir, .cmd, .pci, .trt, .sch, .flt, .stats]
  | .readCompletionTimeout .. =>
    [.dir, .eng, .sec, .cmd, .pci, .tlk, .trt, .sch, .flt, .mir, .stats]
  | .flr .. =>
    [.dir, .eng, .cmd, .pci, .trt, .sch, .flt, .stats]
  | .perstNAssert .. =>
    [.dir, .xlt, .eng, .cmd, .pci, .tlk, .trt, .sch, .flt, .mir, .pins, .stats]
  | .perstNRelease .. =>
    [.pci, .pins]
  | .lockInterface .. | .startInterface .. | .ideKmKeyProg .. =>
    [.pci]
  | .spdmGetMeasurements .. | .pqCert .. =>
    [.sec, .out]
  | .pqSign .. | .tlkKeyProg .. | .tlkKeyGo .. | .spdmRequest .. =>
    [.sec, .cmd, .trt, .sch, .flt, .stats, .out]
  | .ptmRequest .. =>
    [.glb, .out]
  | .ptmResponse .. =>
    [.cmd, .trt, .sch, .flt, .glb, .stats, .fresh]
  | .ptmTimeout .. | .ppsEdge .. | .timeHoldover .. | .glbLifeSel .. =>
    [.cmd, .trt, .sch, .flt, .glb, .stats]
  | .cmdWord .. | .cmdLast .. | .cmdFlush .. | .accessError .. =>
    [.cmd, .trt, .sch, .flt, .stats, .out]
  | .bankSwap .. =>
    [.cmd]
  | .responseRingDrain .. =>
    [.pci, .trt, .sch]
  | .trtFreeze .. | .trtRelease .. | .trtPeakClr .. =>
    [.trt]
  | .engOffline .. | .engineReset .. | .engineSelfTestEnd .. | .jobRecordExpiry .. =>
    [.eng]
  | .pstateDoze .. | .dozeExit .. | .pstateCellar .. | .dirEntrySel .. | .fltPinHoldWrite .. | .idemRecordExpiry .. =>
    [.dir]
  | .cellarEntryComplete .. =>
    [.cmd, .pci, .trt, .sch, .flt, .mir, .glb, .stats]
  | .cellarExit .. =>
    [.mcx, .flt, .glb]
  | .cellarExitReady .. | .partFailed .. =>
    [.dir, .xlt, .eng, .mcx, .sec, .cmd, .pci, .tlk, .trt, .sch, .flt, .mir, .glb, .flash, .stats]
  | .glbTimeSet .. =>
    [.glb]
  | .ownerFnWrite .. | .accessDecay .. =>
    [.dir, .xlt]
  | .faultStatusClear .. | .fltOvfClear .. | .faultNPulseEnd .. | .jtagInstruction .. =>
    [.flt]
  | .viewDataRead .. =>
    [.rgn, .cmd, .pci, .trt, .sch, .flt, .stats, .out]
  | .vintageLoRead .. =>
    [.rgn, .cmd, .trt, .sch, .flt, .stats, .out]
  | .lowWordRead .. =>
    [.rgn, .cmd, .pci, .trt, .sch, .flt, .glb, .stats, .out]
  | .lowWordWrite .. =>
    [.cmd, .pci, .trt, .sch, .flt, .glb, .stats, .out]
  | .registerWrite .. =>
    [.mem, .rgn, .dir, .xlt, .eng, .mcx, .cmd, .pci, .tlk, .trt, .mtr, .sch, .flt, .mir, .glb, .stats, .out, .fresh]
  | .smbusRead .. =>
    [.cmd, .trt, .sch, .flt, .glb, .stats, .out]
  | .resetN .. | .sysclkLoss .. | .vinRise .. | .railFault .. | .junctionReading .. =>
    [.mem, .rgn, .dir, .xlt, .eng, .opu, .mcx, .sec, .cmd, .pci, .tlk, .trt, .mtr, .sch, .flt, .mir, .glb, .pwr, .pins, .latched, .stats]
  | .coldBoot .. =>
    [.rgn, .dir, .xlt, .eng, .opu, .mcx, .sec, .cmd, .pci, .tlk, .trt, .mtr, .sch, .flt, .mir, .glb, .pwr, .flash, .latched, .stats, .fresh]
  | .refclkLoss .. =>
    [.dir, .xlt, .eng, .cmd, .pci, .tlk, .trt, .sch, .flt, .mir, .glb, .stats]
  | .refclkReturn .. =>
    [.pci, .glb]
  | .inputLoss .. =>
    [.mem, .rgn, .dir, .xlt, .eng, .opu, .mcx, .sec, .cmd, .pci, .tlk, .trt, .mtr, .sch, .flt, .mir, .glb, .pwr, .pins, .flash, .latched, .stats,
      .fresh]
  | .powerSample .. | .throttleNAssert .. =>
    [.cmd, .trt, .sch, .flt, .pwr, .stats]
  | .throttleNRelease .. =>
    [.pwr]
  | .stackTempReading .. =>
    [.rgn, .dir, .xlt, .eng, .opu, .mcx, .sec, .cmd, .pci, .tlk, .trt, .sch, .flt, .mir, .glb, .pins, .stats]
  | .tickBoundary .. =>
    [.mem, .rgn, .dir, .xlt, .eng, .opu, .mcx, .sec, .cmd, .pci, .tlk, .trt, .mtr, .sch, .flt, .mir, .glb, .pwr, .pins, .flash, .latched, .stats,
      .out, .fresh]
  | .tilePrecheck .. =>
    [.mem, .dir, .xlt, .eng, .opu, .mcx, .cmd, .trt, .sch, .flt, .mir, .stats, .fresh]
  | .measureComplete .. =>
    [.mem, .rgn, .dir, .xlt, .eng, .opu, .mcx, .cmd, .pci, .tlk, .trt, .sch, .flt, .mir, .stats]
  | .writeBackComplete .. | .cowCopyComplete .. | .publishSwitch .. | .rackPageSwitch .. | .recallDeadline .. =>
    [.mem, .rgn, .dir, .eng, .mcx, .cmd, .pci, .tlk, .trt, .sch, .flt, .mir, .stats, .fresh]
  | .scrubComplete .. =>
    [.rgn, .dir, .eng, .cmd, .trt, .sch, .mir]
  | .drainComplete .. =>
    [.rgn, .dir, .eng, .sec, .cmd, .trt, .sch, .mir]
  | .rackRewriteDone .. =>
    [.rgn, .dir, .xlt, .eng, .cmd, .trt, .sch, .flt, .mir, .stats]
  | .rackComplete .. =>
    [.rgn, .xlt, .eng, .opu, .cmd, .trt, .sch, .flt, .mir, .stats]
  | .digestComplete .. =>
    [.xlt, .mcx, .cmd, .trt, .sch, .mir, .fresh]
  | .rotationSweepComplete .. =>
    [.eng, .sec, .cmd, .trt, .sch, .flt, .mir, .stats]
  | .oldKeyOverwrite .. =>
    [.sec]
  | .pageScrubComplete .. =>
    [.rgn, .dir, .eng, .mir]
  | .tenantScrubComplete .. =>
    [.rgn, .dir, .eng, .sec, .cmd, .trt, .sch, .flt, .mir, .stats]
  | .rateChangeComplete .. =>
    [.mcx]
  | .loftAck .. =>
    [.cmd, .pci, .trt, .sch, .flt, .mir, .stats]
  | .deltaFrame .. =>
    [.cmd, .trt, .sch, .flt, .mir, .stats]
  | .refresh .. =>
    [.mcx, .glb]
  | .periodicRetrain .. =>
    [.rgn, .dir, .xlt, .eng, .opu, .mcx, .sec, .cmd, .pci, .tlk, .trt, .sch, .flt, .mir, .glb, .stats, .fresh]
  | .caParityError .. =>
    [.mcx, .cmd, .trt, .sch, .flt, .glb, .stats]
  | .patrol .. =>
    [.mem, .mcx, .cmd, .trt, .sch, .flt, .stats, .fresh]
  | .gateEntryExpiry .. =>
    [.sch]
  | .agentLoss .. =>
    [.mem, .rgn, .dir, .xlt, .eng, .opu, .mcx, .cmd, .pci, .tlk, .trt, .mtr, .sch, .flt, .mir, .stats, .fresh]
  | .lostAgentReturn .. =>
    [.dir, .xlt, .cmd, .pci, .tlk, .trt, .sch, .flt, .mir, .stats, .out]
  | .faultRecordExpiry .. =>
    [.dir, .xlt, .eng, .opu, .cmd, .trt, .sch, .flt, .mir, .stats]
  | .warmUpEnd .. =>
    [.xlt]
  | .skewWindowEnd .. =>
    [.mcx, .cmd, .trt, .sch, .flt, .stats]
  | .governorEvaluation .. =>
    [.eng, .mcx, .cmd, .trt, .sch, .flt, .glb, .pwr, .stats]
  | .minuteBoundary .. =>
    [.cmd, .trt, .sch, .flt, .glb, .pwr, .flash, .stats]
  | .stackFailure .. | .dieFailure .. | .bridgeLoss .. =>
    [.rgn, .dir, .xlt, .eng, .opu, .mcx, .sec, .cmd, .pci, .tlk, .trt, .sch, .flt, .mir, .stats]
  | .engineFault .. =>
    [.mem, .rgn, .dir, .xlt, .eng, .opu, .mcx, .cmd, .pci, .trt, .sch, .flt, .mir, .stats, .fresh]
  | .hubFailure .. | .standbyLost .. =>
    [.dir, .xlt, .eng, .cmd, .pci, .tlk, .trt, .mtr, .sch, .flt, .mir, .latched, .stats]
  | .switchover .. =>
    [.mem, .rgn, .dir, .xlt, .eng, .opu, .mcx, .sec, .cmd, .pci, .tlk, .trt, .mtr, .sch, .flt, .mir, .glb, .stats, .out, .fresh]
  | .railMismatch .. =>
    [.rgn, .dir, .xlt, .eng, .opu, .mcx, .sec, .cmd, .pci, .tlk, .trt, .mtr, .sch, .flt, .mir, .glb, .flash, .latched, .stats]
  | .readCompletion .. =>
    [.mem, .rgn, .dir, .eng, .mcx, .sec, .cmd, .pci, .tlk, .trt, .sch, .flt, .mir, .stats, .fresh]
  | .logRecordWrite .. =>
    [.glb, .flash]
  | .packetStart .. =>
    [.sec, .tlk, .trt, .sch, .flt, .stats, .out]
  | .prefetchWalkComplete .. =>
    [.mem, .xlt, .mcx, .cmd, .trt, .sch, .flt, .stats]

/-- The parts of the state that a command of opcode `op` may change when it applies. -/
def touchesOp (op : Nat) : List Part :=
  match op with
  | 0x0101 | 0x0102 | 0x0208 | 0x0408 | 0x0502 | 0x0503 | 0x0702 | 0x0802 | 0x0902 =>
    [.cmd, .trt, .sch]
  | 0x0201 =>
    [.rgn, .xlt, .eng, .cmd, .trt, .sch, .mir, .fresh]
  | 0x0202 =>
    [.mem, .rgn, .dir, .xlt, .eng, .opu, .mcx, .cmd, .pci, .tlk, .trt, .sch, .flt, .mir, .stats, .fresh]
  | 0x0203 | 0x0401 =>
    [.rgn, .eng, .cmd, .trt, .sch, .mir, .fresh]
  | 0x0204 | 0x0205 | 0x0206 =>
    [.mem, .rgn, .dir, .eng, .mcx, .cmd, .pci, .tlk, .trt, .sch, .flt, .mir, .stats, .fresh]
  | 0x0207 =>
    [.rgn, .dir, .cmd, .pci, .trt, .sch, .flt, .mir, .stats]
  | 0x0301 =>
    [.xlt, .mcx, .cmd, .trt, .sch, .mir, .fresh]
  | 0x0302 =>
    [.xlt, .cmd, .trt, .sch]
  | 0x0303 =>
    [.mem, .dir, .xlt, .eng, .opu, .mcx, .cmd, .trt, .sch, .flt, .mir, .stats, .fresh]
  | 0x0402 =>
    [.rgn, .dir, .xlt, .eng, .opu, .cmd, .trt, .sch, .flt, .mir, .stats]
  | 0x0403 | 0x0404 | 0x0406 =>
    [.opu, .cmd, .trt, .sch, .mir]
  | 0x0405 =>
    [.dir, .xlt, .eng, .opu, .cmd, .trt, .sch, .flt, .mir, .stats]
  | 0x0407 =>
    [.eng, .cmd, .trt, .sch, .mir]
  | 0x0501 =>
    [.cmd, .trt, .mtr, .sch]
  | 0x0601 =>
    [.xlt, .sec, .cmd, .trt, .sch, .mir, .fresh]
  | 0x0602 =>
    [.mem, .rgn, .dir, .xlt, .eng, .opu, .mcx, .sec, .cmd, .pci, .tlk, .trt, .mtr, .sch, .flt, .mir, .stats, .fresh]
  | 0x0603 =>
    [.eng, .sec, .cmd, .trt, .sch, .mir, .fresh]
  | 0x0604 =>
    [.mem, .rgn, .dir, .eng, .mcx, .sec, .cmd, .pci, .tlk, .trt, .sch, .flt, .mir, .stats, .fresh]
  | 0x0701 =>
    [.cmd, .trt, .sch, .pwr]
  | 0x0801 =>
    [.cmd, .trt, .sch, .flt]
  | 0x0803 =>
    [.cmd, .trt, .sch, .flt, .mir]
  | 0x0901 | 0x0903 =>
    [.dir, .xlt, .eng, .cmd, .pci, .tlk, .trt, .mtr, .sch, .flt, .mir, .stats]
  | _ => []

/-- The parts of the state that what waits for a tick boundary may change when the boundary takes it. -/
def touchesDue (x : Due) : List Part :=
  match x with
  | .cmd _ p => touchesOp p.op
  | .req .. => [.mem, .rgn, .dir, .eng, .mcx, .cmd, .pci, .tlk, .trt, .sch, .flt, .mir, .stats, .fresh]
  | .owner .. => [.xlt]
  | .expire .. => [.mem, .rgn, .dir, .eng, .mcx, .cmd, .pci, .tlk, .trt, .sch, .flt, .mir, .stats, .fresh]
  | .hold .. => [.flt, .mir]
  | .faultEnd .. => [.dir, .xlt, .eng, .opu, .cmd, .trt, .sch, .flt, .mir, .stats]
  | .pstate .. => [.dir, .xlt, .eng, .cmd, .pci, .tlk, .trt, .sch, .flt, .mir, .glb, .flash, .stats]
  | .flr .. => [.mem, .rgn, .dir, .xlt, .eng, .opu, .mcx, .cmd, .pci, .tlk, .trt, .mtr, .sch, .flt, .mir, .stats, .fresh]
  | .stack .. => [.rgn, .dir, .xlt, .eng, .opu, .mcx, .sec, .cmd, .pci, .tlk, .trt, .sch, .flt, .mir, .stats]
  | .die .. => [.rgn, .dir, .xlt, .eng, .opu, .mcx, .sec, .cmd, .pci, .tlk, .trt, .sch, .flt, .mir, .stats]

end Sys2Proof.Machine
end

