-- ==== Sys2Proof/Certificates/Slice0/Obligations.lean ====
section
/-! DEFINITION. The statements for the provers, from the numbered rules of the specification. -/

namespace Sys2Proof.Machine

end Sys2Proof.Machine

open Sys2Proof Sys2Proof.Machine

/-! ### The block as a whole -/

/-- A step takes the command at the front of the queue and answers what `exec` answers on the state with the queue's rest. -/
def Obligations.StepRunsFront : Prop :=
  ∀ (c : Instr) (rest : List Instr) (s : State), s.pending = c :: rest → step s = exec c { s with pending := rest }

/-- The model's choice (assumption log 2): with no command waiting a step idles; time passes only in the TICK_BOUNDARY row. -/
def Obligations.StepIdles : Prop :=
  ∀ s : State, s.pending = [] → step s = .next s

/-- Every command completes in every state, leaves the queue alone, takes back nothing that has left the part, and draws every free value
from a fresh place. -/
def Obligations.EveryCommandCompletes : Prop :=
  ∀ (c : Instr) (s : State), ∃ t : State, exec c s = .next t ∧ t.pending = s.pending ∧ s.out <:+ t.out ∧ s.fresh ≤ t.fresh

/-- The frame of every command, and of everything that waits for a tick boundary when the boundary takes it: a part of the state that is not among
those its rules reach is unchanged, and where its rules give it no access to the pool's memory every byte reads as before. What waits leaves the queue
of commands alone, takes back nothing that has left the part, and draws every free value from a fresh place. -/
def Obligations.CommandsTouchOnlyTheirParts : Prop :=
  (∀ (c : Instr) (s t : State), exec c s = .next t →
    (∀ p : Part, p ∉ touches c → p.same s t) ∧ (Part.mem ∉ touches c → ∀ a : Nat, Memory.get t.mem a = Memory.get s.mem a)) ∧
  (∀ (x : Due) (s : State),
    (∀ p : Part, p ∉ touchesDue x → p.same s (s.applyDue x)) ∧
    (Part.mem ∉ touchesDue x → ∀ a : Nat, Memory.get (s.applyDue x).mem a = Memory.get s.mem a) ∧
    (s.applyDue x).pending = s.pending ∧ s.out <:+ (s.applyDue x).out ∧ s.fresh ≤ (s.applyDue x).fresh)

/-- The invariant that every step keeps: the pool's memory stays in its one canonical form, and the queue holds well-formed commands. -/
def Obligations.StepKeepsInv : Prop :=
  ∀ s t : State, s.Inv → step s = .next t → t.Inv


/-! ### CMD: HELLO, CAPS, the intake and the rings (R369 to R387) -/

/-- HELLO: a major other than 1 answers BAD_VERSION with DETAIL 1 and leaves the negotiated minor; otherwise the minor becomes the smaller of
the host's and 2, and HELLO answers OK. Either way RES0 and RES1 carry what R386 lists. -/
def Obligations.HelloNegotiates : Prop :=
  ∀ (s : State) (fn : Nat) (p : Packet), s.Begins fn p 0x0101 →
    (p.fld 3 15 8 ≠ 1 →
      exec (.hello fn p) s = .next (s.begun.answer (issuer fn p) .badVersion 1 (place (s.intake fn).minor 8 0 + place 1 8 8 + place 2 8 16)
        s.glb.lutik.toNat)) ∧
    (p.fld 3 15 8 = 1 →
      exec (.hello fn p) s =
        .next ((s.begun.setIntake fn fun i => { i with minor := min (p.fld 3 7 0) 2, hello := true }).answer (issuer fn p) .ok 0
          (place (min (p.fld 3 7 0) 2) 8 0 + place 1 8 8 + place 2 8 16) s.glb.lutik.toNat))

/-- CAPS: an address that is not a multiple of 64 answers MALFORMED with DETAIL 4; otherwise 128 bytes are written through the function in the
MGMT class, and CAPS answers OK. The bytes begin with MAJOR 1, MINOR_MAX 2 and the negotiated minor, and hold FN and TENANT at bytes 24 and 25. -/
def Obligations.CapsReports : Prop :=
  ∀ (s : State) (fn : Nat) (p : Packet), s.Begins fn p 0x0102 →
    (p.addr 4 % 64 ≠ 0 → exec (.caps fn p) s = .next (s.begun.answer (issuer fn p) .malformed 4)) ∧
    (p.addr 4 % 64 = 0 → ∃ bytes, exec (.caps fn p) s = .next ((s.begun.hostWrite fn 3 (p.addr 4) bytes).answer (issuer fn p) .ok) ∧
      bytes.length = 128 ∧ bytes[0]? = some 1 ∧ bytes[1]? = some 2 ∧ bytes[2]? = some (BitVec.ofNat 8 (s.intake fn).minor) ∧
      bytes[24]? = some (BitVec.ofNat 8 fn) ∧ bytes[25]? = some (BitVec.ofNat 8 (s.func fn).tenant))

/-- CMD_WORD and CMD_LAST: a word joins the packet being written, the last one makes it whole in the filling bank with its end mark, and a word
that finds no space is dropped with its packet marked and OVERFLOW set. Nothing else changes. An access that its gate turns away (the function under reset,
in D3hot or with its TDI in ERROR; a request without the T bit where the TDI is in RUN) writes nothing; the last is counted in PCI_TDISP_REJECTED. -/
def Obligations.IntakeTakesWords : Prop :=
  ∀ (s : State) (fn : Nat) (w : Word) (tb : Bool),
    (s.regGate fn true tb ≤ 1 → exec (.cmdWord fn w tb) s = .next s ∧ exec (.cmdLast fn w tb) s = .next s) ∧
    (s.regGate fn true tb = 2 →
      exec (.cmdWord fn w tb) s = .next (s.bump blkPCI (0x0880 + 4 * (s.func fn).link)) ∧
      exec (.cmdLast fn w tb) s = .next (s.bump blkPCI (0x0880 + 4 * (s.func fn).link))) ∧
    (s.regGate fn true tb = 4 →
      (0 < (s.intake fn).space →
        exec (.cmdWord fn w tb) s = .next (s.setIntake fn fun i =>
          { i with part := some { (i.part.getD {}) with words := (i.part.getD {}).words ++ [w] } })) ∧
      ((s.intake fn).space = 0 →
        exec (.cmdWord fn w tb) s = .next (s.setIntake fn fun i =>
          { i with part := some { (i.part.getD {}) with dropped := true }, overflow := true })) ∧
      (0 < (s.intake fn).space → (s.intake fn).flush = false → ((s.intake fn).part.getD {}).dropped = false →
        exec (.cmdLast fn w tb) s = .next (s.setIntake fn fun i =>
          { i with part := none,
                   fill := i.fill ++ [{ p := { (i.part.getD {}) with words := (i.part.getD {}).words ++ [w] },
                                        dws := (i.part.getD {}).words.length + 1, at_ := s.tick }] })) ∧
      ((s.intake fn).space = 0 → (s.intake fn).flush = false →
        exec (.cmdLast fn w tb) s = .next (s.setIntake fn fun i =>
          { i with part := none, overflow := true,
                   fill := i.fill ++ [{ p := { (i.part.getD {}) with dropped := true }, dws := 0, at_ := s.tick }] })))

/-- CMD_FLUSH acts at the writer's next packet boundary: at once when no packet is being written, otherwise when the end mark comes, keeping
that packet; until then CMD_FLUSH.PENDING reads 1 and Lutik begins no packet of the function. It discards the whole packets of both banks that Lutik has
not begun and counts them in DISCARDED. BANK_SWAP: the banks change roles when the draining bank is empty and the filling bank holds a whole packet; the
packet being written moves with its words. -/
def Obligations.FlushesAndSwaps : Prop :=
  (∀ (s : State) (fn : Nat) (w : Word) (tb : Bool), s.regGate fn true tb = 4 →
    ((s.intake fn).part = none →
      exec (.cmdFlush fn tb) s = .next (s.setIntake fn fun i =>
        { i with fill := [], drain := [], flush := false, discarded := (i.fill.length + i.drain.length) % 65536 })) ∧
    ((s.intake fn).part ≠ none → exec (.cmdFlush fn tb) s = .next (s.setIntake fn fun i => { i with flush := true })) ∧
    (∀ q, (s.intake fn).part = some q → q.dropped = false → (s.intake fn).flush = true → 0 < (s.intake fn).space →
      exec (.cmdLast fn w tb) s = .next (s.setIntake fn fun i =>
        { i with part := none, drain := [], flush := false, discarded := (i.fill.length + i.drain.length) % 65536,
                 fill := [{ p := { q with words := q.words ++ [w] }, dws := q.words.length + 1, at_ := s.tick }] })) ∧
    ((s.intake fn).flush = true → s.mayBegin fn = false) ∧
    s.fnReg fn 0x100C = some (false, place (b2n (s.intake fn).flush) 1 30 + place (s.intake fn).discarded 16 0)) ∧
  (∀ (s : State) (fn : Nat), s.intakeOpen fn = true →
    ((s.intake fn).drain = [] → (s.intake fn).fill ≠ [] →
      exec (.bankSwap fn) s = .next (s.setIntake fn fun i => { i with drain := i.fill, fill := [] })) ∧
    (((s.intake fn).drain ≠ [] ∨ (s.intake fn).fill = []) → exec (.bankSwap fn) s = .next (s.setIntake fn fun i => i)))

/-- COMMAND_SHED and ACCEPTED_DEADLINE: a packet not begun 500 ticks after it became whole is answered BUSY with DETAIL 0x80_0010, counted in
CMD_SHED and not executed; a command that may end within 200 ticks writes ACCEPTED when those end. -/
def Obligations.DeadlinesAnswer : Prop :=
  ∀ (s : State) (fn : Nat),
    (∀ q r, s.mayBegin fn = true → (s.intake fn).drain = q :: r → q.at_ + 500 ≤ s.tick →
      exec (.commandShed fn) s =
        .next (((s.setIntake fn fun i => { i with drain := r }).bump blkCMD 0x0504).answer (issuer fn q.p) .busy 0x800010)) ∧
    (∀ id o, Tbl.find s.cmd.opens id = some o → o.accepted = false → o.begun + 200 ≤ s.tick →
      exec (.acceptedDeadline id) s =
        .next ((s.onCmd fun c => { c with opens := Tbl.put c.opens id { o with accepted := true } }).answer o.by_ .accepted))

/-- A record that waits is written once there is room, the oldest first: draining a buffer writes its oldest record and then drains the rest. A
completion record given to a function that is not under reset is written in order when the ring has room and nothing waits before it, and waits in the
completion buffer otherwise; it is never discarded. -/
def Obligations.RecordsWaitAndDrain : Prop :=
  (∀ (s : State) (fn : Nat),
    (∀ c r, (s.intake fn).cplBuf = c :: r → r.length < 1024 → s.cplRoom fn = true →
      ∃ t : State, exec (.completionBufferDrain fn) s = .next t ∧
        exec (.completionBufferDrain fn) ((s.setIntake fn fun i => { i with cplBuf := r }).writeCpl fn c) = .next t) ∧
    (∀ e r, (s.intake fn).evtBuf = e :: r → r.length < 64 → s.evtRoom fn = true →
      ∃ t : State, exec (.eventBufferDrain fn) s = .next t ∧
        exec (.eventBufferDrain fn) ((s.setIntake fn fun i => { i with evtBuf := r }).writeEvt fn e) = .next t) ∧
    (∀ e r, s.fnExists fn = true → (s.func fn).ringBuf = e :: r → r.length < 256 → s.ringRoom fn = true →
      ∃ t : State, exec (.responseRingDrain fn) s = .next t ∧
        exec (.responseRingDrain fn) ((s.setFn fn fun f => { f with ringBuf := r }).writeRing fn e) = .next t) ∧
    ((s.intake fn).cplBuf = [] → exec (.completionBufferDrain fn) s = .next s) ∧
    ((s.intake fn).evtBuf = [] → exec (.eventBufferDrain fn) s = .next s) ∧
    ((s.func fn).ringBuf = [] → exec (.responseRingDrain fn) s = .next s)) ∧
  (∀ (s : State) (i : Issuer) (st : Status) (d r0 r1 : Nat), s.fnExists i.fn = true → (s.func i.fn).reset = none →
    (s.cplRoom i.fn = true → (s.intake i.fn).cplBuf = [] →
      ((s.answer i st d r0 r1).intake i.fn).cpl = { (s.intake i.fn).cpl with tail := ((s.intake i.fn).cpl.tail + 1) % 2 ^ 17, signal := true }) ∧
    ((s.cplRoom i.fn = false ∨ (s.intake i.fn).cplBuf ≠ []) →
      s.answer i st d r0 r1 = s.setIntake i.fn fun x => { x with cplBuf := x.cplBuf ++
        [{ status := st, detail := d, final := st != .accepted, tag := i.tag, res0 := r0, res1 := r1 }] }))


/-! ### RGN: regions, bins and vintages (R38 to R63) -/

/-- Every region command but REGION_CREATE, once begun, waits for the next tick boundary. There it first asks whether the region of DW2 exists
(MALFORMED with DETAIL 2) and then whether its function may command that region (DENIED_RIGHTS); so refused it changes nothing but the record. -/
def Obligations.RegionCommandsAskForTheirRegion : Prop :=
  ∀ (s : State) (fn : Nat) (p : Packet) (op : Nat) (c : Instr),
    (op, c) ∈ [(0x0202, .regionDestroy fn p), (0x0203, .binAdd fn p), (0x0204, .binRevoke fn p), (0x0205, .regionAttach fn p),
      (0x0206, .regionDetach fn p), (0x0207, .publish fn p), (0x0208, .regionInfo fn p)] →
    (s.Begins fn p op → exec c s = .next (s.begun.later (.cmd fn p))) ∧
    (p.op = op → (4096 ≤ p.dw 2 ∨ (s.region (p.dw 2)).state = .free) → s.applyDue (.cmd fn p) = s.answer (issuer fn p) .malformed 2) ∧
    (p.op = op → p.dw 2 < 4096 → (s.region (p.dw 2)).state ≠ .free → s.mayRegion (issuer fn p) (s.region (p.dw 2)).owner = false →
      s.applyDue (.cmd fn p) = s.answer (issuer fn p) .deniedRights)

/-- REGION_CREATE: a field outside its allowed values answers MALFORMED with its DW at once; otherwise the command waits for the next tick boundary. There,
with a free ID and room, the region takes the bins allocated to it, its incarnation rises, the scrub of its bins begins, no byte of memory changes
yet, and the record is ACCEPTED with the region's ID in RES0. -/
def Obligations.RegionCreateAllocates : Prop :=
  ∀ (s : State) (fn : Nat) (p : Packet),
    (s.Begins fn p 0x0201 →
      (∀ d, createFault p = some d → exec (.regionCreate fn p) s = .next (s.begun.answer (issuer fn p) .malformed d)) ∧
      (createFault p = none → exec (.regionCreate fn p) s = .next (s.begun.later (.cmd fn p)))) ∧
    (∀ (u : State) (rid : Nat), p.op = 0x0201 → createFault p = none →
      s.mayRegion (issuer fn p) (p.fld 3 21 16) = true → s.tenantExists (p.fld 3 21 16) = true →
      (p.dw 2 = rid ∧ rid ≠ 0xFFFFFFFF ∧ (s.region rid).state = .free ∨ p.dw 2 = 0xFFFFFFFF ∧ s.freeRid = some rid) →
      s.tenantUse (p.fld 3 21 16) + (p.dw 4 + p.dw 6) * (if bit (p.dw 3) 7 then 2 else 1) ≤ s.quotaOf (p.fld 3 21 16) →
      (p.dw 4 + p.dw 6) * (if bit (p.dw 3) 7 then 2 else 1) ≤ s.freeTotal →
      (s.setRegion rid fun _ => createRegion p (issuer fn p)).allocate rid (p.dw 4) (p.dw 6) = .inl u →
      ∃ t : State, s.applyDue (.cmd fn p) = t.answerR16 (issuer fn p) .accepted 0 rid ∧ t.region rid = u.region rid ∧
        t.incarn rid = (u.incarn rid + 1) % 65536 ∧ t.mem = s.mem ∧
        Tbl.find t.rgn.scrubs u.rgn.nextScrub = some
          { region := rid, why := .create, bins := List.range (u.region rid).bins.length, by_ := some (issuer fn p),
            res0 := rid + 65536 * (u.region rid).bins.length, res1 := 1 })

/-- At its boundary BIN_ADD allocates further bins to a settled region and answers ACCEPTED while they are scrubbed; REGION_INFO answers a bin's place in
units of 2 MiB and its size. -/
def Obligations.BinsAreAddedAndRead : Prop :=
  ∀ (s u : State) (fn : Nat) (p : Packet),
    (s.Begins fn p 0x0203 → exec (.binAdd fn p) s = .next (s.begun.later (.cmd fn p))) ∧
    (s.Begins fn p 0x0208 → exec (.regionInfo fn p) s = .next (s.begun.later (.cmd fn p))) ∧
    (s.Target fn p → p.op = 0x0203 → p.dw 4 % pageUnits (s.region (p.dw 2)).psz = 0 → p.dw 5 % pageUnits (s.region (p.dw 2)).psz = 0 →
      p.dw 4 ≠ 0 → ((s.region (p.dw 2)).versioned = true ∨ p.dw 5 = 0) →
      ((s.region (p.dw 2)).state = .active ∨ (s.region (p.dw 2)).state = .degraded) → (s.region (p.dw 2)).rack = none →
      s.allocate (p.dw 2) (p.dw 4) (p.dw 5) = .inl u →
      (s.region (p.dw 2)).nextPage + p.dw 4 / pageUnits (s.region (p.dw 2)).psz ≤ 1048576 →
      ∃ t : State, s.applyDue (.cmd fn p) = t.answerR16 (issuer fn p) .accepted ∧ t.region (p.dw 2) = u.region (p.dw 2) ∧ t.mem = s.mem ∧
        Tbl.find t.rgn.scrubs u.rgn.nextScrub = some
          { region := p.dw 2, why := .add,
            bins := (List.range (u.region (p.dw 2)).bins.length).drop (s.region (p.dw 2)).bins.length, by_ := some (issuer fn p),
            res0 := (s.region (p.dw 2)).nextPage, res1 := p.dw 4 / pageUnits (s.region (p.dw 2)).psz }) ∧
    (∀ b, s.Target fn p → p.op = 0x0208 → (s.region (p.dw 2)).bins[p.dw 4]? = some b → b.removed = false →
      s.applyDue (.cmd fn p) = s.answer (issuer fn p) .ok 0 (b.pa / MIB2) b.units)

/-- At its boundary REGION_ATTACH gives an agent the rights and views of DW3, and withdraws from one already on the access list what they no longer
cover; REGION_DETACH withdraws every bin from the agent, and once nothing of the agent's is in flight in the region takes it off the list with every
mark of a bin withdrawn from it, and answers OK; until then the command waits for later boundaries. -/
def Obligations.AttachAndDetach : Prop :=
  ∀ (s : State) (fn : Nat) (p : Packet),
    (s.Begins fn p 0x0205 → exec (.regionAttach fn p) s = .next (s.begun.later (.cmd fn p))) ∧
    (s.Begins fn p 0x0206 → exec (.regionDetach fn p) s = .next (s.begun.later (.cmd fn p))) ∧
    (s.Target fn p → (s.region (p.dw 2)).settled = true →
      (p.op = 0x0205 → s.agentExists (p.fld 3 7 0) = true →
        (s.isProvider fn = true ∨ s.tenantOf (p.fld 3 7 0) = (s.func fn).tenant) →
        ((s.region (p.dw 2)).versioned = true → bit (p.dw 3) 11 = true ∨ bit (p.dw 3) 12 = true) → s.locked (p.dw 2) = false →
        ∀ (x : Acc) (u : State), x = { r := bit (p.dw 3) 8, w := bit (p.dw 3) 9, a := bit (p.dw 3) 10, pub := bit (p.dw 3) 11, draft := bit (p.dw 3) 12 } →
        u = (s.setRegion (p.dw 2) fun g => { g with acl := Tbl.put g.acl (p.fld 3 7 0) x }).change →
        (Tbl.find (s.region (p.dw 2)).acl (p.fld 3 7 0) = none → s.applyDue (.cmd fn p) = u.answerR16 (issuer fn p) .ok) ∧
        (Tbl.find (s.region (p.dw 2)).acl (p.fld 3 7 0) ≠ none →
          s.applyDue (.cmd fn p) = (u.narrow (p.dw 2) (p.fld 3 7 0) x).answerR16 (issuer fn p) .ok)) ∧
      (p.op = 0x0206 → (Tbl.find (s.region (p.dw 2)).acl (p.fld 3 7 0)).isSome = true →
        ∀ (u : State) (w : Revoke), u = s.revokeRegion (p.dw 2) (p.fld 3 7 0) →
        w = { by_ := issuer fn p, region := p.dw 2, agents := [p.fld 3 7 0] } →
        (u.inFlight w = false → ∃ t : State, s.applyDue (.cmd fn p) = t.answerR16 (issuer fn p) .ok ∧
          (t.region (p.dw 2)).acl = Tbl.del (u.region (p.dw 2)).acl (p.fld 3 7 0) ∧
          ∀ x ∈ (t.region (p.dw 2)).revoked, x.1 ≠ p.fld 3 7 0) ∧
        (u.inFlight w = true → s.applyDue (.cmd fn p) = u.onRgn fun r => { r with revokes := r.revokes ++ [w] })))

/-- BIN_REVOKE at its boundary: a region being created or destroyed answers BUSY with DETAIL 2; without FORCE, an agent that holds a page of the bin or
writes one back makes it BUSY with DETAIL 1 and nothing changes; otherwise the bin is withdrawn from the agents named, and the record is OK once nothing
of theirs that was admitted before is in flight to it. -/
def Obligations.BinRevokeWithdraws : Prop :=
  ∀ (s : State) (fn : Nat) (p : Packet),
    (s.Begins fn p 0x0204 → exec (.binRevoke fn p) s = .next (s.begun.later (.cmd fn p))) ∧
    (p.op = 0x0204 → s.Target fn p → bit p.flags 2 = false →
      ((s.region (p.dw 2)).settled = false → s.applyDue (.cmd fn p) = s.answer (issuer fn p) .busy 2) ∧
      ((s.region (p.dw 2)).settled = true → p.dw 4 < (s.region (p.dw 2)).bins.length →
        ((s.region (p.dw 2)).bins.getD (p.dw 4) {}).removed = false →
        ∀ (agents : List Nat) (w : Revoke), agents = (if p.fld 3 7 0 = 0xFF then (s.region (p.dw 2)).acl.map Prod.fst else [p.fld 3 7 0]) →
          w = { by_ := issuer fn p, region := p.dw 2, bin := some (p.dw 4), agents := agents } →
          (bit p.flags 1 = false → s.heldIn (s.region (p.dw 2)) (p.dw 4) agents = true →
            s.applyDue (.cmd fn p) = s.answer (issuer fn p) .busy 1) ∧
          ((bit p.flags 1 = true ∨ s.heldIn (s.region (p.dw 2)) (p.dw 4) agents = false) →
            ∀ u : State, u = s.revokeBin (p.dw 2) (p.dw 4) agents →
            (u.inFlight w = false → s.applyDue (.cmd fn p) = u.answerR16 (issuer fn p) .ok) ∧
            (u.inFlight w = true → s.applyDue (.cmd fn p) = u.onRgn fun r => { r with revokes := r.revokes ++ [w] }))))

/-- REGION_DESTROY at its boundary: a region already DESTROYING answers BUSY with DETAIL 1; otherwise a region that is neither locked by a layer nor under
publication, and with nobody attached or with FORCE, becomes DESTROYING and the record is ACCEPTED. -/
def Obligations.DestroyEndsARegion : Prop :=
  ∀ (s : State) (fn : Nat) (p : Packet),
    (s.Begins fn p 0x0202 → exec (.regionDestroy fn p) s = .next (s.begun.later (.cmd fn p))) ∧
    (p.op = 0x0202 → s.Target fn p →
      ((s.region (p.dw 2)).state = .destroying → s.applyDue (.cmd fn p) = s.answer (issuer fn p) .busy 1) ∧
      ((s.region (p.dw 2)).state ≠ .destroying → s.locked (p.dw 2) = false → (s.region (p.dw 2)).pub = none →
        (bit p.flags 1 = true ∨ (s.region (p.dw 2)).acl = [] ∧ (s.region (p.dw 2)).rack = none) →
        ∃ t : State, s.applyDue (.cmd fn p) = (t.startDestroyScrub (p.dw 2)).answerR16 (issuer fn p) .accepted ∧
          (t.region (p.dw 2)).state = .destroying ∧ (t.region (p.dw 2)).destroyBy = some (issuer fn p)))

/-- A scrub that is done ends its command: the new region is ACTIVE, the removed bin's memory is gone from it, and the destroyed region's command
ends with OK. -/
def Obligations.ScrubsEndCommands : Prop :=
  ∀ (s : State) (id : Nat) (sc : Scrub),
    (Tbl.find s.rgn.scrubs id = some sc → s.actDone (.scrub id) = true →
      (sc.why = .create → ∀ i, sc.by_ = some i →
        ∃ t : State, exec (.scrubComplete id) s = .next (t.answerR16 i .ok 0 sc.res0 sc.res1) ∧ (t.region sc.region).state = .active ∧ t.mem = s.mem) ∧
      (sc.why = .binRemove → ∃ t : State, exec (.scrubComplete id) s = .next t ∧ t.mem = s.mem ∧
        ∀ k ∈ sc.bins, ∀ b, (t.region sc.region).bins[k]? = some b → b.gone = true)) ∧
    (∀ rid rest i, (s.region rid).state = .destroying → (s.region rid).removing = false →
      (s.scrubsOf rid fun w => w == .destroy) = (id, sc) :: rest → s.actDone (.scrub id) = true → sc.by_ = some i →
      exec (.drainComplete rid) s = .next (((s.dropScrub id).freeRegion rid).answerR16 i .ok))

/-- PUBLISH at its boundary: while another publication is pending, or from a base that is not current, the answer is PUBLISH_CONFLICT with that vintage; a
draft page held by another agent without RECALL answers HELD_ELSEWHERE; otherwise the publication of the next vintage becomes pending. PUBLISH_SWITCH: once
every invalidation, write-back and copy of the region's pages is done, the command that published ends with OK and the new vintage in RES0 and RES1; with no
publication pending nothing happens. -/
def Obligations.PublicationsAreDecidedAndSwitched : Prop :=
  (∀ (s : State) (fn : Nat) (p : Packet), s.Begins fn p 0x0207 → exec (.publish fn p) s = .next (s.begun.later (.cmd fn p))) ∧
  (∀ (s : State) (fn : Nat) (p : Packet) (publisher : Option Nat), p.op = 0x0207 → s.Target fn p →
    (s.region (p.dw 2)).versioned = true →
    ((s.region (p.dw 2)).state = .active ∨ (s.region (p.dw 2)).state = .degraded) → (s.region (p.dw 2)).vintage ≠ 2 ^ 48 - 1 →
    publisher = (if (s.func fn).agent = 0 then none else some (s.func fn).agent) →
    (∀ q, (s.region (p.dw 2)).pub = some q →
      s.applyDue (.cmd fn p) = s.answerVintage (issuer fn p) .publishConflict q.vintage) ∧
    ((s.region (p.dw 2)).pub = none → p.dw 4 + 2 ^ 32 * p.fld 5 15 0 ≠ (s.region (p.dw 2)).vintage →
      s.applyDue (.cmd fn p) = s.answerVintage (issuer fn p) .publishConflict (s.region (p.dw 2)).vintage) ∧
    ((s.region (p.dw 2)).pub = none → p.dw 4 + 2 ^ 32 * p.fld 5 15 0 = (s.region (p.dw 2)).vintage →
      (s.draftsHeld (p.dw 2) publisher ≠ [] → bit p.flags 0 = false →
        ∃ n page, s.applyDue (.cmd fn p) = s.answer (issuer fn p) .heldElsewhere n page) ∧
      (s.draftsHeld (p.dw 2) publisher = [] →
        ∃ (t : State) (n : Nat), s.applyDue (.cmd fn p) = t.pubCollect (p.dw 2) ∧ (t.region (p.dw 2)).pub = some
          { phase := .recalling, publisher := publisher, vintage := (s.region (p.dw 2)).vintage + 1, by_ := issuer fn p, openId := n,
            accepted := false, since := s.tick }))) ∧
  (∀ (s : State) (rid : Nat),
    ((s.region rid).pub = none → exec (.publishSwitch rid) s = .next s) ∧
    (∀ q, (s.region rid).pub = some q → q.phase = .collecting → q.since < s.tick → s.pubReady rid = true →
      ∃ t : State, exec (.publishSwitch rid) s = .next (t.answerR16 q.by_ .ok 0 (q.vintage % 2 ^ 32) (q.vintage / 2 ^ 32)) ∧
        ∃ l, t.cmd.opens = Tbl.del l q.openId))

/-! ### DIR: requests, grants, deadlines and records (R65 to R101) -/

/-- LOAD, STORE, ATOMIC, SWAP_IN_SHARED, SWAP_IN_HELD, SWAP_OUT, RELEASE and INV_ACK, by each way they come. Through a function's request window: one that finds
256 records in the ring's buffer is dropped and counted; any other is admitted, or, between the primary's failure and boundary 1, kept undecided; where
the part serves no agent, the function's BAR is not live or it has no agent, nothing happens. As a packet of a Trellis port it goes through the port's
receive buffer. One of a BAR4 line or of an engine measure is decided with its line or its measure, and its own row does nothing. -/
def Obligations.RequestsAreAdmitted : Prop :=
  ∀ (s : State) (c : Instr) (code : ReqCode) (via : Via) (r : DirReq), reqOf c = some (code, via, r) →
    (∀ fn, via = .slot fn →
      (s.serving = true → s.barLive fn = true → (s.func fn).agent ≠ 0 →
        (256 ≤ (s.func fn).ringBuf.length → exec c s = .next ((s.hostRx fn 0 128).bump blkPCI (0x0980 + 4 * (s.func fn).link))) ∧
        ((s.func fn).ringBuf.length < 256 → s.mir.state ≠ .switching →
          exec c s = .next ((s.hostRx fn 0 128).admitReq (s.func fn).agent (.slot fn) code r)) ∧
        ((s.func fn).ringBuf.length < 256 → s.mir.state = .switching →
          exec c s = .next ((s.hostRx fn 0 128).later (.req
            { agent := (s.func fn).agent, via := .slot fn, code := code, r := r, write := code.writes, at_ := s.tick })))) ∧
      ((s.serving = false ∨ s.barLive fn = false ∨ (s.func fn).agent = 0) → exec c s = .next s)) ∧
    (∀ p a, via = .trellis p a → exec c s = .next (s.arrive p 0 code.flits c)) ∧
    ((∃ fn id piece, via = .bar4 fn id piece) ∨ via = .engine → exec c s = .next s)

/-- A request that passes every check of Table 4.4, that no record and no request in progress answers, and that is not over its meter, is decided on
its page under Table 3.7: a direct access that changes no state of the page at once, any other at step 1 of the next tick boundary, and none while the delta
has no room for what it changes. Its translation alone changes no page, no region and no byte. -/
def Obligations.PassingRequestsAreDecided : Prop :=
  (∀ (s : State) (c : Instr) (code : ReqCode) (fn agent : Nat) (r : DirReq) (t : Tr), reqOf c = some (code, .slot fn, r) →
    s.serving = true → s.barLive fn = true → (s.func fn).agent = agent → agent ≠ 0 → (s.func fn).ringBuf.length < 256 →
    s.mir.state ≠ .switching → s.tenantExists (s.tenantOf agent) = true → s.mcx.errs = [] →
    (code.direct = true → (s.meter agent).colour 1 ≠ .red ∧ t.hot = false) →
    s.findRec agent r.txid = none → s.inProgress agent r.txid = false → malformedReq code r = false →
    s.check agent r.pva (.req code) (s.fnHub fn) = (.ok, some t, 0) → s.draftRevoked agent t = false →
    (code.writes = true → t.region ∉ s.sec.binding) →
    ∃ u : State, exec c s = .next (u.decideOrDefer
        { agent := agent, via := .slot fn, code := code, r := r, write := code.writes, at_ := s.tick,
          region := t.region, home := t.home, draft := t.draft,
          tag := if code.direct && !(s.region t.region).removing then some (s.tagOf t.region) else none }) ∧
      u.mem = s.mem ∧ u.rgn = s.rgn ∧ u.dir = s.dir ∧ u.eng = s.eng) ∧
  (∀ (s : State) (q : PReq),
    (s.decidedNow q = false → s.decideOrDefer q = s.later (.req q)) ∧
    (s.decidedNow q = true → s.noRoom q = false → s.decideOrDefer q = s.decide q) ∧
    (s.noRoom q = true → s.applyDue (.req q) = (s.later (.req q)).bump blkMIR 0x050C) ∧
    (s.noRoom q = false → (s.region q.region).state = .lost → s.applyDue (.req q) = s.refuse q .regionLost) ∧
    (s.noRoom q = false → (s.region q.region).state ≠ .lost → s.withdrawn q = false → s.applyDue (.req q) = s.decide q))

/-- Table 3.7 for a page without copy, write-back, publication or queue: what each request meets in each state of the page. -/
def Obligations.TableOfTransitions : Prop :=
  ∀ (s : State) (i : Nat) (q : PReq), (s.entry i).wb = none → (s.entry i).cow = none → (s.entry i).parked = [] → (s.entry i).view = 0 →
    (s.region q.region).pub = none →
    ((s.entry i).state = .free → q.code ≠ .invAck → s.verdict i q false = .unmapped) ∧
    ((s.entry i).state = .scrubPending → (q.code = .load ∨ q.code = .swapInShared) → s.verdict i q false = .zeros) ∧
    ((s.entry i).state = .scrubPending → (q.code = .store ∨ q.code = .atomic ∨ q.code = .swapInHeld ∨ q.code = .swapOut ∨ q.code = .release) →
      s.verdict i q false = .revoked) ∧
    ((s.entry i).state = .home → (s.entry i).sharers = [] → (q.code.direct = true ∨ q.code = .swapInShared ∨ q.code = .swapInHeld) →
      s.verdict i q false = .serve) ∧
    ((s.entry i).state = .shared → (q.code = .load ∨ q.code = .swapInShared) → s.verdict i q false = .serve) ∧
    ((s.entry i).state = .shared → (∃ a ∈ (s.entry i).sharers, a ≠ q.agent) →
      (q.code = .swapInHeld → s.verdict i q false = .wait (.inval false)) ∧
      (q.code = .store ∨ q.code = .atomic → s.verdict i q false = .wait (.inval true))) ∧
    ((s.entry i).state = .held → (s.entry i).holder ≠ q.agent →
      (q.code.direct = true ∨ q.code = .swapInShared ∨ q.code = .swapInHeld) → s.verdict i q false = .wait .recall) ∧
    ((s.entry i).state = .recalling → (s.entry i).holds q.agent = false →
      (q.code.direct = true ∨ q.code = .swapInShared ∨ q.code = .swapInHeld) → s.verdict i q false = .wait .none) ∧
    ((s.entry i).state = .held → (s.entry i).holder = q.agent →
      (q.code.direct = true → s.verdict i q false = .serve) ∧
      (q.code = .swapOut → q.r.gen = (s.entry i).gen → s.verdict i q false = .writeBack) ∧
      (q.code = .release → s.verdict i q false = .letGo)) ∧
    ((s.entry i).state ≠ .free → (s.entry i).state ≠ .scrubPending → q.code = .swapOut →
      ((s.entry i).holds q.agent = false ∨ q.r.gen ≠ (s.entry i).gen) → s.verdict i q false = .stale)

/-- A LOAD of a page in HOME with an empty queue, whose line has no wrong symbol and whose generation is live, answers the 64 bytes of its line and changes no
byte; nothing else of the directory changes. -/
def Obligations.LoadReadsTheLine : Prop :=
  ∀ (s : State) (q : PReq) (i pa : Nat) (l : List Nat), q.code = .load → q.meas = none → s.retired q = false → i = s.decideIdx q.region q.home q.draft →
    (s.entry i).state = .home → (s.entry i).sharers = [] → (s.entry i).wb = none → (s.entry i).cow = none → (s.entry i).parked = [] →
    (s.entry i).view = 0 → (s.region q.region).pub = none → pa = s.linePa i q → s.copies (s.region q.region) pa = pa :: l →
    Tbl.find s.mcx.errs (pa / 64) = none → s.poisoned (pa / 64) = false →
    s.decide q = (s.toBanks q.region pa false).respondNow q (some (stackOf pa)) { data := Memory.read s.mem pa 64, txid := q.r.txid, code := .load } ∧
      (s.decide q).mem = s.mem ∧ (s.decide q).dir = s.dir

/-- A STORE to a page in HOME with an empty queue writes, in every place of its line (its copies, and the page that its page is being racked to), exactly the bytes
that its mask enables; an ATOMIC writes, in every place, exactly its field, with the operation's result on what the first copy held: the sum modulo 2^64 of an
ADD of 8 bytes, the operand of a SWAP, the second operand of a CAS whose first equals the old value. Every other byte of memory reads as before. -/
def Obligations.WritesTouchOnlyTheirBytes : Prop :=
  (∀ (s : State) (q : PReq) (i : Nat) (L C : List Nat), Memory.wf s.mem = true → q.meas = none → s.retired q = false →
    i = s.decideIdx q.region q.home q.draft →
    (s.entry i).state = .home → (s.entry i).sharers = [] → (s.entry i).wb = none → (s.entry i).cow = none → (s.entry i).parked = [] →
    (s.entry i).view = 0 → (s.region q.region).pub = none → L = s.stored (s.region q.region) (s.linePa i q) →
    C = s.copies (s.region q.region) (s.linePa i q) → C ≠ [] →
    (∀ l ∈ C, Tbl.find s.mcx.errs (l / 64) = none ∧ s.poisoned (l / 64) = false) → L.Pairwise (fun l k => l + 64 ≤ k ∨ k + 64 ≤ l) →
    (q.code = .store → q.r.data.length = 64 →
      (∀ l ∈ L, ∀ k, k < 64 → Memory.get (s.decide q).mem (l + k) =
        if bit q.r.mask k = true then q.r.data.getD k 0 else Memory.get s.mem (l + k)) ∧
      (∀ a, (∀ l ∈ L, a < l ∨ l + 64 ≤ a) → Memory.get (s.decide q).mem a = Memory.get s.mem a)) ∧
    (q.code = .atomic → ∀ w o, w = (if q.r.wide then 16 else 8) → o = q.r.pva % 64 → o + w ≤ 64 →
      (∀ l ∈ L, Memory.read (s.decide q).mem (l + o) w = atomOp q.r.atop (Memory.read s.mem (C.headD 0 + o) w) q.r.operands) ∧
      (∀ a, (∀ l ∈ L, a < l + o ∨ l + o + w ≤ a) → Memory.get (s.decide q).mem a = Memory.get s.mem a))) ∧
  (∀ (old ops : List Byte), old.length = 8 → ops.length = 32 →
    leNat (atomOp 0 old ops) = (leNat old + leNat (ops.take 8)) % 2 ^ 64 ∧ atomOp 1 old ops = ops.take 8 ∧
    (old = ops.take 8 → atomOp 2 old ops = (ops.drop 16).take 8) ∧ (old ≠ ops.take 8 → atomOp 2 old ops = old))

/-- Grants on a page with an empty queue: SWAP_IN_HELD of a page in HOME holds it for the agent under the next GEN; SWAP_IN_SHARED shares it without a new
GEN; the holder's RELEASE returns it to HOME; a SWAP_OUT that is not its holder's, or of another GEN, changes nothing and is STALE_GRANT; the last
INV_ACK of an invalidation lets the page go; and none of them changes a byte of memory. -/
def Obligations.GrantsMovePages : Prop :=
  ∀ (s : State) (q : PReq) (i : Nat) (e : DirEntry), q.meas = none → i = s.decideIdx q.region q.home q.draft → e = s.entry i →
    e.wb = none → e.cow = none → e.parked = [] → e.view = 0 → (s.region q.region).pub = none →
    (q.code = .swapInHeld → e.state = .home → e.sharers = [] →
      ((s.decide q).entry i) = e.toHeld q.agent ∧ (e.toHeld q.agent).gen = (e.gen + 1) % 2 ^ 24 ∧ (s.decide q).mem = s.mem) ∧
    (q.code = .swapInShared → e.state = .home → e.sharers = [] →
      ((s.decide q).entry i) = { e with state := .shared, sharers := [q.agent] } ∧ (s.decide q).mem = s.mem) ∧
    (q.code = .release → e.state = .held → e.holder = q.agent →
      ((s.decide q).entry i) = e.toHome ∧ (s.decide q).mem = s.mem) ∧
    (q.code = .swapOut → e.state = .held → (e.holder ≠ q.agent ∨ q.r.gen ≠ e.gen) →
      s.decide q = s.refuse q .staleGrant ∧ (s.decide q).mem = s.mem ∧ ((s.decide q).entry i) = e) ∧
    (q.code = .swapOut → e.state = .held → e.holder = q.agent → q.r.gen = e.gen →
      ∃ u : State, s.decide q = ((u.wbStart i q (bit q.r.flags 1)).setEntry i fun e => { e with wb := e.wb.map fun w => { w with early := q.early } }).reopen i ∧
        u.mem = s.mem ∧ u.entry i = { e with met := false }) ∧
    (q.code = .invAck → e.state = .recalling → e.prior = false → e.pending = [q.agent] → e.sharers = [q.agent] → q.r.gen = e.invGen →
      ((s.decide q).entry i) = { e with pending := [], sharers := [] }.toHome ∧ (s.decide q).mem = s.mem)

/-- RECALL_DEADLINE: before the tick that the deadline's boundary closes nothing happens; in that tick it waits for the boundary, after every answer of the
tick; at the deadline, a page whose holder has answered stays as it is, and a page whose holder has not and that has an empty queue returns to HOME under
the next GEN, with its bytes as they were. WRITE_BACK_COMPLETE and COW_COPY_COMPLETE wait for their last measure; then the write-back's SWAP_OUT is answered
and the page, with an empty queue, is in HOME with TORN clear, and a copy that no request waits for ends with its page as it was otherwise. -/
def Obligations.DeadlinesAndCopiesEnd : Prop :=
  (∀ (s : State) (i d : Nat) (e : DirEntry), e = s.entry i → e.state = .recalling → e.deadline = some d →
    (s.tick + 1 < d → exec (.recallDeadline i) s = .next s) ∧
    (d = s.tick + 1 → exec (.recallDeadline i) s = .next (s.later (.expire i))) ∧
    (d ≤ s.tick → e.met = true → exec (.recallDeadline i) s = .next s) ∧
    (d ≤ s.tick + 1 → e.met = true → s.applyDue (.expire i) = s) ∧
    (e.met = false → e.prior = true → e.wb = none → e.cow = none → e.parked = [] →
      (d ≤ s.tick → ∃ t : State, exec (.recallDeadline i) s = .next t ∧ t.entry i = e.genUp.toHome ∧ t.mem = s.mem) ∧
      (d ≤ s.tick + 1 → (s.applyDue (.expire i)).entry i = e.genUp.toHome ∧ (s.applyDue (.expire i)).mem = s.mem))) ∧
  (∀ (s : State) (i : Nat),
    (∀ w, (s.entry i).wb = some w → (w.cut ≠ w.total ∨ s.actDone (.writeBack i) = false) → exec (.writeBackComplete i) s = .next s) ∧
    (∀ w, (s.entry i).wb = some w → w.cut = w.total → s.actDone (.writeBack i) = true → w.keep = false → (s.entry i).nextWb = none →
      (w.early = false ∨ (s.entry i).state ≠ .recalling) →
      (s.entry i).parked = [] → w.q.meas = none →
      ∃ t : State, exec (.writeBackComplete i) s = .next t ∧ (t.entry i).state = .home ∧ (t.entry i).wb = none ∧ (t.entry i).torn = false ∧
        t.mem = s.mem) ∧
    (s.actDone (.cow i) = false → exec (.cowCopyComplete i) s = .next s) ∧
    (∀ c, (s.entry i).cow = some c → s.actDone (.cow i) = true → c.waiters = [] → (s.entry i).parked = [] → (s.entry i).state = .home →
      ∃ t : State, exec (.cowCopyComplete i) s = .next t ∧ (t.entry i) = { s.entry i with cow := none } ∧ t.mem = s.mem))

/-- Records and counters of the directory: idempotency and job records go 4096 ticks of their agent's link-up time after their completion, every access
counter is halved once at an epoch boundary while DECAY is set, the warm-up window ends 65,536 ticks after READY, a prefetch walk's end
touches the cache of its hub alone, and a write of DIR_ENTRY_SEL copies the entry it selects. AGENT_LOSS happens only AGENT_LOSS_MS after the link of a known agent went down, and it ends with the event AGENT_LOST; LOST_AGENT_RETURN of a lost agent
whose link is up again makes it up and no longer lost, and lets its next MAP_UPDATE choose its owner again. -/
def Obligations.RecordsAgeAndAgentsAreLost : Prop :=
  (∀ (s : State) (agent i fn : Nat) (v : Word),
    (∃ t : State, exec (.idemRecordExpiry agent) s = .next t ∧
      (t.agentSt agent).recs = (s.agentSt agent).recs.filter fun r => Nat.blt (s.agentSt agent).upTicks (r.at_ + 4096)) ∧
    (∃ t : State, exec (.jobRecordExpiry agent) s = .next t ∧ ∀ l, Tbl.find s.eng.recs agent = some l →
      Tbl.find t.eng.recs agent = some (l.filter fun r => Nat.blt (s.agentSt agent).upTicks (r.at_ + 4096))) ∧
    (s.tick % 2 ^ 20 = 0 → s.tick ≠ 0 → bit s.xlt.hot.toNat 16 = true → s.xlt.decayed ≠ s.tick →
      ∃ t : State, exec .accessDecay s = .next t ∧ (t.entry i).access = (s.entry i).access / 2 ∧ t.mem = s.mem) ∧
    (s.glb.boot = 7 → s.glb.readyAt + 65536 ≤ s.tick → exec .warmUpEnd s = .next (s.onXlt fun x => { x with warm := false })) ∧
    (∀ h pva, (s.xhub h).walks.contains (agent, pva) = false → exec (.prefetchWalkComplete h agent pva) s = .next s) ∧
    (∀ h pva, (s.xhub h).walks.contains (agent, pva) = true →
      ∃ t : State, exec (.prefetchWalkComplete h agent pva) s = .next t ∧ (t.xhub h).walks = (s.xhub h).walks.erase (agent, pva) ∧
        ∀ k, k ≠ h → t.xhub k = s.xhub k) ∧
    (s.mayProvide fn = true →
      exec (.dirEntrySel fn v) s = .next (s.onDir fun d => { d with sel := v.toNat % 2 ^ 20, data := s.entryWords (v.toNat % 2 ^ 20) }))) ∧
  (∀ (s : State) (agent : Nat),
    (((s.agentSt agent).known = false ∨ (s.agentSt agent).up = true ∨ (s.agentSt agent).lost = true ∨
      s.tick < (s.agentSt agent).downAt + msTicks (s.agentSt agent).lossMs) → exec (.agentLoss agent) s = .next s) ∧
    ((s.agentSt agent).known = true → (s.agentSt agent).up = false → (s.agentSt agent).lost = false → (s.agentSt agent).flr = false →
      s.cellar = false → s.glb.change = .none → (s.agentSt agent).downAt + msTicks (s.agentSt agent).lossMs ≤ s.tick →
      ∃ (u : State) (l : List Nat), exec (.agentLoss agent) s =
        .next (u.event l evAGENT_LOST (leBytes 1 agent ++ leBytes 1 (u.tenantOf agent)))) ∧
    ((s.agentSt agent).lost = true → (s.agentSt agent).up = false → s.linkUpNow agent = true →
      ∃ t : State, exec (.lostAgentReturn agent) s = .next t ∧ (t.agentSt agent).up = true ∧ (t.agentSt agent).lost = false ∧
        agent ∉ t.xlt.firstMap))


/-! ### XLT: tables, digests and fault records (R102 to R132) -/

/-- MAP_UPDATE and MAP_DIGEST, once begun, are refused at once by a field of their header that may not be so, and otherwise wait for the next tick
boundary. There a MAP_UPDATE whose every entry passes is applied whole and answers OK, and one with an entry that does not pass changes no entry; a MAP_DIGEST
takes the entries as they stand. DIGEST_COMPLETE: a digest hashes 256 entries a tick, so it is not done before; then the SHA-384 of the entries goes to the
host with COUNT and AGENT, and the record is OK with the number of leaves in RES0. -/
def Obligations.TablesChangeWholeAndDigestsEnd : Prop :=
  (∀ (s : State) (fn : Nat) (p : Packet),
    (s.Begins fn p 0x0301 →
      (mapHead p = true → exec (.mapUpdate fn p) s = .next (s.begun.answer (issuer fn p) .malformed (0xFFFF * 256 + 1))) ∧
      (mapHead p = false → exec (.mapUpdate fn p) s = .next (s.begun.later (.cmd fn p)))) ∧
    (s.Begins fn p 0x0302 →
      (∀ d, digestHead p = some d → exec (.mapDigest fn p) s = .next (s.begun.answer (issuer fn p) .malformed d)) ∧
      (digestHead p = none → exec (.mapDigest fn p) s = .next (s.begun.later (.cmd fn p))))) ∧
  (∀ (s : State) (fn : Nat) (p : Packet) (agent lvl n pva : Nat) (es : List Nat), agent = p.fld 2 7 0 → n = p.fld 3 23 16 → lvl = p.fld 3 1 0 →
    pva = p.dw 4 + 2 ^ 32 * p.fld 5 19 0 → es = ((List.range n).map fun k => entryOf p k) → s.mapHeld agent = false →
    (p.op = 0x0301 → mapHead p = false → s.mayMap (issuer fn p) agent = false → s.applyDue (.cmd fn p) = s.answer (issuer fn p) .deniedRights) ∧
    (p.op = 0x0301 → mapHead p = false → s.mayMap (issuer fn p) agent = true →
      (∀ k c, k < n → (∀ j, j < k → s.entryCause agent lvl pva n es j = none) → s.entryCause agent lvl pva n es k = some c →
        s.applyDue (.cmd fn p) = s.answer (issuer fn p) .malformed (k * 256 + c)) ∧
      ((∀ k, k < n → s.entryCause agent lvl pva n es k = none) → TABLES < (s.mapped agent lvl pva es).tables →
        s.applyDue (.cmd fn p) = s.answer (issuer fn p) .quota 7) ∧
      ((∀ k, k < n → s.entryCause agent lvl pva n es k = none) → (s.mapped agent lvl pva es).tables ≤ TABLES →
        (bit p.flags 0 = false ∨ s.tilesOf agent = []) →
        ∃ t : State, s.applyDue (.cmd fn p) = t.answer (issuer fn p) .ok ∧ t.mem = s.mem ∧ t.dir = s.dir ∧ t.eng = s.eng ∧
          t.xlt.l0 = (s.mapped agent lvl pva es).l0 ∧ t.xlt.l1 = (s.mapped agent lvl pva es).l1)) ∧
    (p.op = 0x0302 → digestHead p = none → s.mayMap (issuer fn p) agent = true →
      ∃ d : Digest, s.applyDue (.cmd fn p) = s.onXlt (fun x => { x with digests := x.digests ++ [d] }) ∧
        d.agent = agent ∧ d.count = p.dw 6 ∧ d.start = s.tick ∧ d.by_ = issuer fn p)) ∧
  (∀ (s : State) (agent : Nat) (d : Digest), (s.xlt.digests.find? fun d => d.agent == agent) = some d →
    (s.tick < d.start + ceilDiv d.count 256 → exec (.digestComplete agent) s = .next s) ∧
    (d.start + ceilDiv d.count 256 ≤ s.tick → s.xlt.heldMaps = [] →
      exec (.digestComplete agent) s =
        .next (((s.onXlt fun x => { x with digests := x.digests.erase d }).hostWrite d.by_.fn 3 d.buf
          (sha384 d.bytes ++ leBytes 4 d.count ++ leBytes 1 d.agent ++ List.replicate 11 0)).answer d.by_ .ok 0 d.leaves)))

/-- FAULT_RESOLVE, once begun, waits for the next tick boundary: there a RECORD that is not open answers MALFORMED with DETAIL 2 whoever asks, an open one that is
not the issuer's answers DENIED_RIGHTS, and otherwise, with no job waiting on it, the record closes and the answer is OK. FAULT_RECORD_EXPIRY closes it
when its lifetime ends and not before: at the boundary that ends it, unless a command settled there before has closed it. -/
def Obligations.FaultRecordsClose : Prop :=
  (∀ (s : State) (fn : Nat) (p : Packet) (slot : Nat), slot = p.fld 2 15 0 % 1024 →
    (s.Begins fn p 0x0303 → exec (.faultResolve fn p) s = .next (s.begun.later (.cmd fn p))) ∧
    (p.op = 0x0303 →
      (Tbl.find s.xlt.faults slot = none → s.applyDue (.cmd fn p) = s.answer (issuer fn p) .malformed 2) ∧
      (∀ f, Tbl.find s.xlt.faults slot = some f →
        (f.seq ≠ p.fld 2 15 0 / 1024 → s.applyDue (.cmd fn p) = s.answer (issuer fn p) .malformed 2) ∧
        (f.seq = p.fld 2 15 0 / 1024 → s.isProvider fn = false → Tbl.find s.xlt.owner f.agent ≠ some fn →
          s.applyDue (.cmd fn p) = s.answer (issuer fn p) .deniedRights) ∧
        (f.seq = p.fld 2 15 0 / 1024 → (s.isProvider fn = true ∨ Tbl.find s.xlt.owner f.agent = some fn) → f.waiters = [] →
          s.applyDue (.cmd fn p) = (s.onXlt fun x => { x with faults := Tbl.del x.faults slot }).change.answerR16 (issuer fn p) .ok)))) ∧
  (∀ (s : State) (slot : Nat),
    (Tbl.find s.xlt.faults slot = none → exec (.faultRecordExpiry slot) s = .next s) ∧
    (∀ f, Tbl.find s.xlt.faults slot = some f →
      (s.tick + 1 < f.tick + f.life → exec (.faultRecordExpiry slot) s = .next s) ∧
      (s.tick + 1 = f.tick + f.life → exec (.faultRecordExpiry slot) s = .next (s.later (.faultEnd slot f.seq))) ∧
      (f.tick + f.life ≤ s.tick → f.waiters = [] →
        exec (.faultRecordExpiry slot) s = .next (s.onXlt fun x => { x with faults := Tbl.del x.faults slot }).change) ∧
      (f.waiters = [] → s.applyDue (.faultEnd slot f.seq) = (s.onXlt fun x => { x with faults := Tbl.del x.faults slot }).change) ∧
      (∀ q, q ≠ f.seq → s.applyDue (.faultEnd slot q) = s)))

/-- TILE_PRECHECK: a job whose next tile is not due yet stays as it is, and one that is due is pre-checked; an unknown job changes nothing. -/
def Obligations.TilesArePrechecked : Prop :=
  ∀ (s : State) (agent jobid : Nat) (j : Job), s.mir.state ≠ .switching → s.failedPart = false → s.cellar = false →
    (s.job? agent jobid = none → exec (.tilePrecheck agent jobid) s = .next s) ∧
    (s.job? agent jobid = some j → j.step = none → j.preReady s.tick = false → exec (.tilePrecheck agent jobid) s = .next s) ∧
    (s.job? agent jobid = some j → j.step = none → j.preReady s.tick = true → exec (.tilePrecheck agent jobid) s = .next (s.precheckJob j)) ∧
    (∀ r, s.job? agent jobid = some j → j.step = some r → j.state = .queued → r.phase = .pre →
      exec (.tilePrecheck agent jobid) s = .next (s.precheckStep j r))

/-! ### TLK: acceptance, replay, flow control and training (R264 to R295) -/

/-- ACK, NAK and the replay timer: an ACK of a held packet frees it and all before it, with every other port as it was, and one that names a packet never
sent breaks the link with cause 6; a NAK naming E frees what was held before E and starts a replay from E, and the replay timer one from the oldest held packet, unless REPLAY_MAX replays
have brought no progress, which breaks the link with cause 2. -/
def Obligations.HeldPacketsAreFreedOrReplayed : Prop :=
  ∀ (s : State) (p seq age : Nat), s.portUp p = true →
    (age = ((s.port p).next + 4095 - seq % 4096) % 4096 →
      (age < (s.port p).held.length → ∃ t : State, exec (.ack p seq) s = .next t ∧
        (t.port p).held = (s.port p).held.drop ((s.port p).held.length - age) ∧ (t.port p).replays = 0 ∧
        (∀ q, q ≠ p → t.port q = s.port q) ∧ t.dir = s.dir ∧ t.mem = s.mem) ∧
      ((s.port p).held.length ≤ age → age < 2048 → exec (.ack p seq) s = .next (s.countRx p 3 1)) ∧
      ((s.port p).held.length ≤ age → 2048 ≤ age → exec (.ack p seq) s = .next ((s.countRx p 3 1).breakLink p 6))) ∧
    (age = ((s.port p).next + 4096 - seq % 4096) % 4096 →
      (0 < age → age = (s.port p).held.length → (s.port p).replays < s.replayMax →
        exec (.nak p seq) s = .next (((s.countRx p 3 1).setPort p fun x => { x with replay := some (seq % 4096), replays := x.replays + 1 }).bump
          blkTLK (0x0540 + 4 * p))) ∧
      (0 < age → age = (s.port p).held.length → s.replayMax ≤ (s.port p).replays →
        exec (.nak p seq) s = .next ((s.countRx p 3 1).breakLink p 2)) ∧
      (0 < age → age < (s.port p).held.length → ∃ t : State, exec (.nak p seq) s = .next t ∧
        (t.port p).held = (s.port p).held.drop ((s.port p).held.length - age) ∧ (t.port p).replay = some (seq % 4096) ∧ (t.port p).replays = 1) ∧
      ((s.port p).held.length < age → age ≤ 2048 → exec (.nak p seq) s = .next (s.countRx p 3 1)) ∧
      ((s.port p).held.length < age → 2048 < age → exec (.nak p seq) s = .next ((s.countRx p 3 1).breakLink p 6))) ∧
    (∀ h r, (s.port p).held = h :: r →
      ((s.port p).replays < s.replayMax → exec (.replayTimer p) s =
        .next ((s.setPort p fun x => { x with replay := some (h.seq % 4096), replays := x.replays + 1 }).bump blkTLK (0x0540 + 4 * p))) ∧
      (s.replayMax ≤ (s.port p).replays → exec (.replayTimer p) s = .next (s.breakLink p 2)))

/-- Flow control: XOFF holds off the VCs it names and XON releases them, with no other port changed; an XOFF is repeated while the condition holds, and a VC
held off for XOFF_US breaks the link with cause 3. The ACK timer sends the ACK that is due. -/
def Obligations.FlowControl : Prop :=
  ∀ (s : State) (p mask v : Nat), s.portUp p = true →
    (∃ t : State, exec (.xoff p mask) s = .next t ∧ (t.port p).xoffTx = maskOr (s.port p).xoffTx (mask % 8) ∧
      (∀ q, q ≠ p → t.port q = s.port q)) ∧
    (∃ t : State, exec (.xon p mask) s = .next t ∧ (t.port p).xoffTx = maskDiff (s.port p).xoffTx (mask % 8) ∧
      (∀ q, q ≠ p → t.port q = s.port q)) ∧
    (v < 3 → bit (s.port p).xoffRx v = true → (s.port p).free v ≤ (s.port p).head →
      exec (.xoffRepeat p v) s = .next (s.ctl p (.xoff (2 ^ v)))) ∧
    (∀ t0, Tbl.find (s.port p).xoffAt v = some t0 →
      (s.tick < t0 + s.xoffTicks → exec (.xoffTimeout p v) s = .next s) ∧
      (bit (s.port p).xoffTx v = true → t0 + s.xoffTicks ≤ s.tick → exec (.xoffTimeout p v) s = .next (s.breakLink p 3))) ∧
    ((s.port p).unacked = true → exec (.ackTimer p) s =
      .next (((s.setPort p fun x => { x with dupAcked := false }).setPort p fun x => { x with unacked := false, sinceAck := 0 }).ctl p
        (.ack (((s.port p).e + 4095) % 4096)))) ∧
    ((s.port p).unacked = false → exec (.ackTimer p) s = .next (s.setPort p fun x => { x with dupAcked := false }))

/-- BAD_PACKET_RX: bytes whose CRC, codewords or length are bad are counted and bring one NAK naming E; an ENC that the link does not use, or a LEN beyond
its version's limit, breaks the link with cause 6; a packet received again is counted and acknowledged, at once or, within 64 ns of the last such ACK, with
the ACK timer; a packet beyond E brings the one NAK; a packet in sequence with nothing wrong is the command that it spells; and under encryption a bad tag in
the packet expected breaks the link with cause 5. A control flit as it is sent is the ACK, NAK, XOFF or XON that it spells, and a bad one is only counted. -/
def Obligations.BadPacketsAreDiscarded : Prop :=
  (∀ (s : State) (p n : Nat) (bs : List Byte) (bad : Bool) (h : RxHead), h = rxHead bs → n = bs.length / 64 → p < 16 → s.portUp p = true →
    ((bad = true ∨ crcGood bs = false ∨ h.len + 1 ≠ n) →
      ((s.port p).nakSent = false → exec (.badPacketRx p bs false bad) s =
        .next (((s.bump blkTLK (0x0500 + 4 * p)).setPort p fun x => { x with nakSent := true, unacked := false, sinceAck := 0 }).ctl p
          (.nak (s.port p).e))) ∧
      ((s.port p).nakSent = true → exec (.badPacketRx p bs false bad) s = .next (s.bump blkTLK (0x0500 + 4 * p)))) ∧
    (crcGood bs = true → h.len + 1 = n →
      ((h.enc ≠ (s.port p).enc ∨ (s.port p).maxFlits < n) → exec (.badPacketRx p bs false false) s = .next (s.breakLink p 6)) ∧
      (h.enc = (s.port p).enc → n ≤ (s.port p).maxFlits →
        (∀ behind, behind = ((s.port p).e + 4096 - h.seq % 4096) % 4096 →
          (0 < behind → behind ≤ 2047 → (s.port p).dupAcked = false → exec (.badPacketRx p bs false false) s =
            .next (((s.bump blkTLK (0x0580 + 4 * p)).sendAck p).setPort p fun x => { x with dupAcked := true })) ∧
          (0 < behind → behind ≤ 2047 → (s.port p).dupAcked = true → exec (.badPacketRx p bs false false) s =
            .next ((s.bump blkTLK (0x0580 + 4 * p)).setPort p fun x => { x with unacked := true })) ∧
          (2047 < behind → (s.port p).nakSent = false → exec (.badPacketRx p bs false false) s =
            .next ((s.setPort p fun x => { x with nakSent := true, unacked := false, sinceAck := 0 }).ctl p (.nak (s.port p).e))) ∧
          (2047 < behind → (s.port p).nakSent = true → exec (.badPacketRx p bs false false) s = .next s)) ∧
        (h.seq = (s.port p).e → h.rsv = 0 → h.kind = 0 → h.vc ≠ 3 →
          ((s.port p).enc = false → ∀ c, rxCommand p h bs = some c → exec (.badPacketRx p bs false false) s = exec c s) ∧
          ((s.port p).enc = true → unlock (if h.keysel = 0 then (s.linkKeys p).rx0 else (s.linkKeys p).rx1) bs = none →
            exec (.badPacketRx p bs false false) s =
              .next (((s.setKeys p fun k => { k with rxSel := h.keysel }).bump blkTLK (0x0500 + 4 * p)).breakLink p 5)))))) ∧
  (∀ (s : State) (p seq mask : Nat) (bs : List Byte), s.portUp p = true → seq < 4096 → mask < 8 →
    exec (.badPacketRx p (Ctl.ack seq).wire true false) s = exec (.ack p seq) s ∧
    exec (.badPacketRx p (Ctl.nak seq).wire true false) s = exec (.nak p seq) s ∧
    exec (.badPacketRx p (Ctl.xoff mask).wire true false) s = exec (.xoff p mask) s ∧
    exec (.badPacketRx p (Ctl.xon mask).wire true false) s = exec (.xon p mask) s ∧
    (crcGood bs = false → exec (.badPacketRx p bs true false) s = .next (s.bump blkTLK (0x0500 + 4 * p))))

/-- Ports change state as Table 9.2 gives: a DOWN port starts training on its partner's signal or on TRAIN; a training that reaches its end brings the port UP
with E and SEQ at 0 and nothing held; one that fails takes it DOWN with its cause; a retrain is tried again up to four times within 10 ms;
a break of an UP port begins RETRAIN and is counted; DISABLE takes a port out and its end lets it be DOWN again. -/
def Obligations.PortsChangeState : Prop :=
  ∀ (s : State) (fn p cause : Nat),
    ((s.port p).state = .down → hubOfPort p ∉ s.mir.hubsLost → s.cellar = false → s.failedPart = false → s.glb.change = .none →
      exec (.partnerTrainingSignal p) s = .next (s.setPort p fun x => { x with state := .training }) ∧
      (s.mayProvide fn = true → p < 16 → exec (.tlkTrain fn p) s = .next (s.setPort p fun x => { x with state := .training }))) ∧
    ((s.port p).state = .training → exec (.trainingTimeout p cause) s =
      .next (s.setPort p fun x => { x with state := .down, cause := cause % 16 })) ∧
    (∀ versions trips stamps pe pr pk c0 c1 tl enc, ((s.port p).state = .training ∨ (s.port p).state = .retrain) →
      s.negotiate p versions pe pr pk = .inl (tl, enc) → (s.port p).fits (trips.foldl max 0) = true →
      ∃ u : State, exec (.trainingComplete p versions trips pe pr pk c0 c1 stamps) s = .next u.agentLinks ∧ (u.port p).state = .up ∧
        (u.port p).tl = tl ∧ (u.port p).enc = enc ∧ (u.port p).loopNs = trips.foldl max 0 ∧ (u.port p).head = headroom (trips.foldl max 0) ∧
        (u.port p).e = 0 ∧ (u.port p).next = 0 ∧ (u.port p).held = [] ∧ ∀ q, q ≠ p → u.port q = s.port q) ∧
    (∀ versions trips stamps pe pr pk c0 c1 x, (s.port p).state = .training →
      ((s.negotiate p versions pe pr pk = .inr x ∧ x < 16) ∨
        ((∃ y, s.negotiate p versions pe pr pk = .inl y) ∧ (s.port p).fits (trips.foldl max 0) = false ∧ x = 10)) →
      ∃ u : State, exec (.trainingComplete p versions trips pe pr pk c0 c1 stamps) s = .next u ∧
        u.port p = { s.port p with state := .down, cause := x } ∧ ∀ q, q ≠ p → u.port q = s.port q) ∧
    ((s.port p).state = .retrain → (cause < 10 ∨ 12 < cause) →
      ((s.port p).attempt < 4 → s.tick < (s.port p).brokeAt + 7813 →
        exec (.retrainAttemptFail p cause) s = .next (s.setPort p fun x => { x with attempt := x.attempt + 1 })) ∧
      ((4 ≤ (s.port p).attempt ∨ (s.port p).brokeAt + 7813 ≤ s.tick) → ∃ t : State, exec (.retrainAttemptFail p cause) s = .next t ∧
        (t.port p).state = .down)) ∧
    (s.portUp p = true → 1 ≤ cause → cause ≤ 8 → cause ≠ 5 →
      ∃ u : State, exec (.linkBreak p cause) s = .next (((u.bump blkTLK (0x05C0 + 4 * p)).raiseTlk p 0 cause).agentLinks) ∧
        (u.port p).state = .retrain ∧ (u.port p).cause = cause ∧ (u.port p).attempt = 1 ∧ (u.port p).brokeAt = (s.loseTraffic p).tick) ∧
    (s.mayProvide fn = true → p < 16 →
      exec (.tlkRetrain fn p) s = exec (.linkBreak p 8) s ∧
      ((s.port p).off = false → s.portUp p = false → exec (.tlkDisableSet fn p) s =
        .next (s.setPort p fun x => { x with state := .disabled, off := true, xoffRx := 0, xoffTx := 0, attempt := 0 })) ∧
      ((s.port p).off = false → s.portUp p = true → exec (.tlkDisableSet fn p) s = .next ((s.breakLink p 8 true).setPort p fun x =>
        { x with state := .disabled, off := true, xoffRx := 0, xoffTx := 0, attempt := 0 })) ∧
      ((s.port p).off = true → exec (.tlkDisableClear fn p) s =
        .next (s.setPort p fun x => { x with off := false, state := if x.started then .down else x.state })))

/-- A packet accepted in sequence advances E, and MTR takes it when its agent's route includes the port: a JOB, a job abort, a STEP and an MCPL each go where
their type says. From any other agent it is dropped and counted, with the agent's jobs, pages and bytes as they were. -/
def Obligations.PacketsAreTaken : Prop :=
  ∀ (s : State) (c : Instr) (p a v flits : Nat) (f : State → State),
    ((∃ tid ws, c = .jobPacket p a tid ws ∧ v = 0 ∧ flits = 1 + ceilDiv ws.length 16 ∧ f = fun s => s.jobIn p a tid ws) ∨
    (∃ tid ws, c = .jobAbortPacket p a tid ws ∧ v = 0 ∧ flits = 1 + ceilDiv ws.length 16 ∧ f = fun s => s.jobIn p a tid ws) ∨
    (∃ tid ws, c = .stepPacket p a tid ws ∧ v = 0 ∧ flits = 1 + ceilDiv ws.length 16 ∧ f = fun s => s.stepIn p a ws) ∨
    (∃ tag st d, c = .mcpl p a tag st d ∧ v = 2 ∧ flits = 1 + ceilDiv d.length 64 ∧ f = fun s => s.mcplIn p a tag st d)) →
    p < 16 → s.portUp p = true → flits ≤ (s.port p).maxFlits → flits ≤ (s.port p).free v → s.mir.state ≠ .switching →
    (0 < a → a ≤ 127 → bit (s.route a).ports p = true →
      ∃ u : State, exec c s = .next (f u) ∧ (u.port p).e = ((s.port p).e + 1) % 4096 ∧ u.eng = s.eng ∧ u.dir = s.dir ∧ u.mem = s.mem) ∧
    ((a = 0 ∨ 127 < a ∨ bit (s.route a).ports p = false) →
      ∃ u : State, exec c s = .next (u.bump blkTLK (0x0640 + 4 * p)) ∧ (u.port p).e = ((s.port p).e + 1) % 4096 ∧ u.eng = s.eng ∧
        u.dir = s.dir ∧ u.mem = s.mem)

/-! ### ENG: jobs, measures, engines and racking (R133 to R176, R496) -/

/-- JOB_SUBMIT, JOB_ABORT and JOB_QUERY, once begun, wait for the next tick boundary. There a JOB_SUBMIT from a function without an agent is refused with
DENIED_RIGHTS; a live JOBID joins the job, a recorded one is answered again, a new one with a good descriptor enters the table and is ACCEPTED, or
BUSY while the table is full. JOB_QUERY answers the job's state; JOB_ABORT of a job with a running measure makes it STOPPING with TIMEOUT and DETAIL 1. -/
def Obligations.JobsAreAcceptedAndAnswered : Prop :=
  ∀ (s : State) (fn : Nat) (p : Packet) (a id : Nat),
    (s.Begins fn p 0x0401 → exec (.jobSubmit fn p) s = .next (s.begun.later (.cmd fn p))) ∧
    (s.Begins fn p 0x0402 → exec (.jobAbort fn p) s = .next (s.begun.later (.cmd fn p))) ∧
    (s.Begins fn p 0x0408 → exec (.jobQuery fn p) s = .next (s.begun.later (.cmd fn p))) ∧
    (p.op = 0x0401 → (s.func fn).agent = 0 → s.applyDue (.cmd fn p) = s.answer (issuer fn p) .deniedRights) ∧
    (p.op = 0x0401 → (s.func fn).agent ≠ 0 → ¬(p.len = 36 ↔ 0x20 ≤ p.fld 4 7 0 ∧ p.fld 4 7 0 ≤ 0x3F) →
      s.applyDue (.cmd fn p) = s.answer (issuer fn p) .malformed 1) ∧
    (p.op = 0x0401 → a = (s.func fn).agent → a ≠ 0 → id = p.fld 5 15 0 → (p.len = 36 ↔ 0x20 ≤ p.fld 4 7 0 ∧ p.fld 4 7 0 ≤ 0x3F) →
      (∀ j, s.job? a id = some j → ∃ t : State, s.applyDue (.cmd fn p) = t.answerR16 (issuer fn p) .accepted ∧
        t.job? a id = some { j with waiters := j.waiters ++ [(some (issuer fn p), none)] } ∧ t.mem = s.mem) ∧
      (∀ x, s.job? a id = none → s.jobRec? a id = some x →
        s.applyDue (.cmd fn p) = s.answerR16 (issuer fn p) x.status x.detail x.res0 x.res1) ∧
      (∀ j : Job, j = { agent := a, jobid := id, by_ := some (issuer fn p), desc := p.words.drop 4, acceptedAt := s.tick } → j.op ≠ 4 →
        s.job? a id = none → s.jobRec? a id = none →
        (∀ st d, s.descRefusal j false = some (st, d) → s.applyDue (.cmd fn p) = s.answer (issuer fn p) st d) ∧
        (s.descRefusal j false = none → s.jobsFull a = true → s.applyDue (.cmd fn p) = s.answer (issuer fn p) .busy) ∧
        (s.descRefusal j false = none → s.jobsFull a = false → ∃ t : State, s.applyDue (.cmd fn p) = t.answerR16 (issuer fn p) .accepted ∧
          t.job? a id = some j ∧ t.mem = s.mem ∧ t.dir = s.dir ∧ ∀ k, k ≠ jobKey a id → Tbl.find t.eng.jobs k = Tbl.find s.eng.jobs k))) ∧
    (p.op = 0x0408 → a = p.fld 2 7 0 → id = p.fld 3 15 0 →
      (s.mayJob (issuer fn p) a = false → s.applyDue (.cmd fn p) = s.answer (issuer fn p) .deniedRights) ∧
      (∀ j, s.mayJob (issuer fn p) a = true → s.job? a id = some j →
        s.applyDue (.cmd fn p) = s.answer (issuer fn p) .ok 0 j.state.code (j.tilesDone % 65536)) ∧
      (∀ x, s.mayJob (issuer fn p) a = true → s.job? a id = none → s.jobRec? a id = some x →
        s.applyDue (.cmd fn p) = s.answer (issuer fn p) .ok 0 (4 + 256 * x.status.code) (x.res1 % 65536)) ∧
      (s.mayJob (issuer fn p) a = true → s.job? a id = none → s.jobRec? a id = none →
        s.applyDue (.cmd fn p) = s.answer (issuer fn p) .malformed 2)) ∧
    (p.op = 0x0402 → a = p.fld 2 7 0 → id = p.fld 3 15 0 →
      (s.mayJob (issuer fn p) a = false → s.applyDue (.cmd fn p) = s.answer (issuer fn p) .deniedRights) ∧
      (s.mayJob (issuer fn p) a = true → s.job? a id = none → s.jobRec? a id = none →
        s.applyDue (.cmd fn p) = s.answer (issuer fn p) .malformed 2) ∧
      (∀ x, s.mayJob (issuer fn p) a = true → s.job? a id = none → s.jobRec? a id = some x →
        s.applyDue (.cmd fn p) = s.answerR16 (issuer fn p) .ok) ∧
      (∀ j, s.mayJob (issuer fn p) a = true → s.job? a id = some j → j.isRack = false → j.agent = a → j.jobid = id →
        (j.state = .queued ∨ j.state = .running ∨ j.state = .faulted) → s.workRuns j.work = true →
        ∃ k : Job, (s.applyDue (.cmd fn p)).job? a id = some k ∧ k.state = .stopping ∧ k.status = .timeout ∧
          k.detail = 1 ∧ k.aborts = j.aborts ++ [issuer fn p] ∧ (s.applyDue (.cmd fn p)).mem = s.mem))

/-- MEASURE_COMPLETE in a pool with no wrong symbol, no poisoned line and no racking stores only in the measure's destination runs: every other byte of the
pool reads as before. A zeroing measure makes its destination read zero, a copying one makes it read as its source did, and the engine is then free. A
measure whose tags are no longer live stores nothing. -/
def Obligations.MeasuresStoreInTheirDestinations : Prop :=
  ∀ (s : State) (n : Nat),
    ((s.unit n).running = none → exec (.measureComplete n) s = .next s) ∧
    (∀ r, Memory.wf s.mem = true → s.mcx.errs = [] → s.mcx.poison = [] → (∀ e ∈ s.rgn.regions, e.2.rack = none) → (s.unit n).running = some r →
      ∃ t : State, exec (.measureComplete n) s = .next t ∧
      (∀ a, (∀ x ∈ (r.wr ++ r.wr2).flatMap id, a < x.1 ∨ x.1 + x.2 ≤ a) → Memory.get t.mem a = Memory.get s.mem a) ∧
      (s.deadSides r ≠ [] → ∀ a, Memory.get t.mem a = Memory.get s.mem a) ∧
      (s.deadSides r = [] → r.m.kind = .zero → (t.unit n).running = none ∧
        ∀ x ∈ (r.wr ++ r.wr2).flatMap id, ∀ a, x.1 ≤ a → a < x.1 + x.2 → Memory.get t.mem a = 0) ∧
      (∀ pa pb k, s.deadSides r = [] → r.m.kind = .copy → r.rd = [[(pa, k)]] → r.wr = [[(pb, k)]] → r.wr2 = [] → (t.unit n).running = none ∧
        ∀ i, i < k → Memory.get t.mem (pb + i) = Memory.get s.mem (pa + i)))

/-- Engines leave and return: OFFLINE set takes an engine out and moves its queue, OFFLINE cleared starts a self-test of 16 ticks unless the engine has
failed, a self-test failed takes it out for good; a fault fails the engine, is raised as cause 0 of ENG with its die as instance, and runs its measure
again elsewhere, or stops the job with INTERNAL once a byte had been written, all other memory as it was (with no line poisoned or racked). -/
def Obligations.EnginesLeaveAndReturn : Prop :=
  ∀ (s : State) (fn n : Nat) (after : Bool), n < 256 →
    (s.mayProvide fn = true →
      ((s.unit n).offline = false → exec (.engOffline fn n) s =
        .next (s.setUnit n fun u => { u with offline := true, moving := true, testLeft := none })) ∧
      ((s.unit n).offline = true → (s.unit n).failed = false → exec (.engineReset fn n) s =
        .next (s.setUnit n fun u => { u with offline := false, testLeft := some 16 })) ∧
      ((s.unit n).offline = true → (s.unit n).failed = true → exec (.engineReset fn n) s = .next s)) ∧
    ((s.unit n).testLeft = some 0 →
      exec (.engineSelfTestEnd n true) s = .next (s.setUnit n fun u => { u with testLeft := none }) ∧
      exec (.engineSelfTestEnd n false) s = .next (s.setUnit n fun u => { u with testLeft := none, failed := true, offline := true })) ∧
    (∀ v : State, (s.unit n).failed = false →
      v = (s.setUnit n fun u => { u with failed := true, offline := true, moving := true, testLeft := none, running := none }).raise
        blkENG (n / 64) 0 n →
      ((s.unit n).running = none → exec (.engineFault n after) s = .next v) ∧
      (∀ r, (s.unit n).running = some r →
        ((r.m.work.job? = none ∧ v.dropped r.m.work = false) ∨ (r.m.work.job? ≠ none ∧ (after = false ∨ r.wr = []))) →
        exec (.engineFault n after) s = .next (v.rerun n r.meas)) ∧
      (∀ r, (s.unit n).running = some r → r.m.work.job? = none → v.dropped r.m.work = true →
        exec (.engineFault n after) s = .next (v.workEnds r.m.work)) ∧
      (∀ r a id, (s.unit n).running = some r → r.m.work.job? = some (a, id) → after = true → r.wr ≠ [] → Memory.wf s.mem = true →
        s.mcx.errs = [] → s.mcx.poison = [] → (∀ e ∈ s.rgn.regions, e.2.rack = none) →
        ∃ u : State, exec (.engineFault n after) s = .next (u.stopJob a id .internal 0x000E01) ∧
          ∀ b, (∀ x ∈ (r.wr ++ r.wr2).flatMap (fun l => l), b < x.1 ∨ x.1 + x.2 ≤ b) → Memory.get u.mem b = Memory.get s.mem b))

/-- Racking: what is written to a page that is being copied is written to its new place too; a copied page that nothing holds back switches with its entry,
whose old place becomes FREE, and no byte changes;
the leaf rewrite gives every leaf of the region its new frame; once the old bins are scrubbed they are released and the job ends. -/
def Obligations.RackingMovesPages : Prop :=
  (∀ (s : State) (b : Bool) (x : Nat × Nat) (f : Nat × Nat × Nat), Memory.wf s.mem = true →
    (s.rgn.regions.flatMap fun e => s.forwards e.2 x.1 x.2) = [f] →
    (∀ i, i < f.2.2 → Memory.get (s.forward b x).mem (f.2.1 + i) = Memory.get s.mem (f.1 + i)) ∧
    (∀ a, (a < f.2.1 ∨ f.2.1 + f.2.2 ≤ a) → Memory.get (s.forward b x).mem a = Memory.get s.mem a)) ∧
  ∀ (s : State) (rid page : Nat) (r : Rack), (s.region rid).rack = some r →
    (∀ c, r.copying.find? (fun c => c.old == page && c.left == 0) = some c → c.new_ ≠ page →
      (s.entry page).wb = none → (s.entry page).cow = none → s.pageQuiet page (s.region rid).pageSize = true →
      ∃ u : State, exec (.rackPageSwitch rid page) s = .next (u.reopen c.new_) ∧ (u.entry c.new_).state = (s.entry page).state ∧
        (u.entry c.new_).holder = (s.entry page).holder ∧ (u.entry c.new_).sharers = (s.entry page).sharers ∧
        (u.entry c.new_).gen = (s.entry page).gen ∧ (u.entry page).state = .free ∧ u.mem = s.mem) ∧
    ((∀ c ∈ r.copying, c.old = page → c.left ≠ 0) → exec (.rackPageSwitch rid page) s = .next s) ∧
    (r.rewritten = false → r.ending = none → r.todo = [] → r.copying = [] → ∃ t : State, exec (.rackRewriteDone rid) s = .next t ∧
      (t.region rid).rack = some { r with rewritten := true } ∧ t.mem = s.mem ∧
      t.xlt.l0 = Tbl.mapKV s.xlt.l0 (fun _ l => if l.region == rid then l.renamed r (s.region rid).pageSize else l) ∧
      t.xlt.l1 = Tbl.mapKV s.xlt.l1 (fun _ l => if l.region == rid then l.renamed r (s.region rid).pageSize else l)) ∧
    (∀ id sc rest, (s.scrubsOf rid fun w => w == .rackOld) = (id, sc) :: rest → r.rewritten = true → s.actDone (.scrub id) = true →
      ∃ t : State, exec (.rackComplete rid) s = .next (t.finishJob r.agent r.jobid) ∧ (t.region rid).rack = none ∧ t.mem = s.mem ∧
        ∀ k ∈ r.oldBins, ∀ b, (t.region rid).bins[k]? = some b → b.gone = true)

/-! ### OPU: models, layers and decode steps (R205 to R228) -/

/-- MODEL_LOAD, MODEL_USERS and MODEL_UNLOAD, once begun, wait for the next tick boundary. There MODEL_LOAD of a free slot with fields in range makes the
model LOADING, of a slot in use answers BUSY; MODEL_USERS keeps the users for the next boundary; MODEL_UNLOAD of a model with no live step frees its
slot, and with one, without FORCE, answers BUSY. -/
def Obligations.ModelsAreLoadedAndUnloaded : Prop :=
  ∀ (s : State) (fn : Nat) (p : Packet) (m : Nat), m = p.fld 2 3 0 →
    (s.Begins fn p 0x0403 → exec (.modelLoad fn p) s = .next (s.begun.later (.cmd fn p))) ∧
    (s.Begins fn p 0x0405 → exec (.modelUnload fn p) s = .next (s.begun.later (.cmd fn p))) ∧
    (s.Begins fn p 0x0406 → exec (.modelUsers fn p) s = .next (s.begun.later (.cmd fn p))) ∧
    (∀ x : Model, p.op = 0x0403 → x =
        { state := .loading, owner := p.fld 3 21 16, layers := p.fld 3 8 0, fmtOut := p.fld 4 23 20, fmtIn := p.fld 4 19 16,
          hid := p.fld 4 15 0, outlen := p.fld 5 18 0, slots := p.fld 6 11 0, ctxMax := p.fld 7 20 0, buflen := bufLens p,
          users := mask128 p 15 } →
      (s.mayModel (issuer fn p) x.owner x.users = false → s.applyDue (.cmd fn p) = s.answer (issuer fn p) .deniedRights) ∧
      (s.mayModel (issuer fn p) x.owner x.users = true → (s.model m).state ≠ .free →
        s.applyDue (.cmd fn p) = s.answer (issuer fn p) .busy) ∧
      (s.mayModel (issuer fn p) x.owner x.users = true → (s.model m).state = .free → s.tenantExists x.owner = true → 0 < x.layers →
        x.layers ≤ 256 → x.fmtOut ≤ 2 → x.fmtIn ≤ 2 → 0 < x.hid → x.hid ≤ 32768 → x.outlen ≤ 262144 → 0 < x.slots → 0 < x.ctxMax →
        x.ctxMax ≤ 1048576 → (∀ n ∈ x.buflen, n ≤ 32768) →
        ∃ t : State, s.applyDue (.cmd fn p) = t.answerR16 (issuer fn p) .ok ∧ t.model m = x ∧ (∀ k, k ≠ m → t.model k = s.model k) ∧
          t.mem = s.mem)) ∧
    ((p.op = 0x0406 ∨ p.op = 0x0405) → (s.model m).state = .free → s.applyDue (.cmd fn p) = s.answer (issuer fn p) .malformed 2) ∧
    (p.op = 0x0406 → (s.model m).state ≠ .free → s.mayModel (issuer fn p) (s.model m).owner (mask128 p 4) = true →
      ∃ t : State, s.applyDue (.cmd fn p) = t.answerR16 (issuer fn p) .ok ∧
        t.model m = { s.model m with usersNext := some (mask128 p 4) } ∧ (∀ k, k ≠ m → t.model k = s.model k) ∧ t.mem = s.mem) ∧
    (p.op = 0x0405 → (s.model m).state ≠ .free → s.mayModel (issuer fn p) (s.model m).owner 0 = true →
      (s.liveSteps m ≠ [] → bit p.flags 1 = false → s.applyDue (.cmd fn p) = s.answer (issuer fn p) .busy) ∧
      (s.liveSteps m = [] → (s.model m).state ≠ .unloading →
        ∃ (t : State) (l : Tbl Model), s.applyDue (.cmd fn p) = t.answerR16 (issuer fn p) .ok ∧ t.opu.models = Tbl.del l m ∧
          t.mem = s.mem ∧ t.eng = s.eng))

/-- LAYER_PLACE and DECODE_STEP whose LENGTH does not fit their fields answer MALFORMED with DETAIL 3 at once, and otherwise wait for the next tick
boundary. There LAYER_PLACE puts the layer, its regions and its recipe in the model, which is READY once every layer is placed; a refusal of Table 7.5 is
answered and changes nothing. DECODE_STEP enters a new step under its JOBID and is ACCEPTED; a refusal of R224 is answered. -/
def Obligations.LayersArePlacedAndStepsBegin : Prop :=
  ∀ (s : State) (fn : Nat) (p : Packet),
    (s.Begins fn p 0x0404 →
      (p.len ≠ 8 + 8 * p.fld 3 22 16 → exec (.layerPlace fn p) s = .next (s.begun.answer (issuer fn p) .malformed 3)) ∧
      (p.len = 8 + 8 * p.fld 3 22 16 → exec (.layerPlace fn p) s = .next (s.begun.later (.cmd fn p)))) ∧
    (s.Begins fn p 0x0407 →
      (p.len ≠ 8 + p.fld 3 20 16 → exec (.decodeStep fn p) s = .next (s.begun.answer (issuer fn p) .malformed 3)) ∧
      (p.len = 8 + p.fld 3 20 16 → exec (.decodeStep fn p) s = .next (s.begun.later (.cmd fn p)))) ∧
    (∀ m, p.op = 0x0404 → m = p.fld 2 3 0 →
      ((s.model m).state = .free → s.applyDue (.cmd fn p) = s.answer (issuer fn p) .malformed 2) ∧
      ((s.model m).state ≠ .free → s.mayModel (issuer fn p) (s.model m).owner 0 = false →
        s.applyDue (.cmd fn p) = s.answer (issuer fn p) .deniedRights) ∧
      (∀ st d, (s.model m).state ≠ .free → s.mayModel (issuer fn p) (s.model m).owner 0 = true →
        s.placeRefusal p m (s.model m) = some (st, d) → s.applyDue (.cmd fn p) = s.answer (issuer fn p) st d) ∧
      (∀ l : Layer, (s.model m).state ≠ .free → s.mayModel (issuer fn p) (s.model m).owner 0 = true →
        s.placeRefusal p m (s.model m) = none → l =
          { die := p.fld 3 13 12, wreg := p.fld 4 11 0, kvreg := if bit (p.dw 3) 15 then none else some (p.fld 4 23 12),
            recipe := (List.range (p.fld 3 22 16)).map fun j => (p.words.drop (8 + 8 * j)).take 8 } →
        ∃ t : State, s.applyDue (.cmd fn p) = t.answerR16 (issuer fn p) .ok ∧
          (t.model m).placed = Tbl.put (s.model m).placed (p.fld 3 8 0) l ∧
          (t.model m).state = (if ((t.model m).placed.filter fun l => !l.2.lost).length = (s.model m).layers then .ready else (s.model m).state) ∧
          (∀ k, k ≠ m → t.model k = s.model k) ∧ t.mem = s.mem ∧ t.rgn = s.rgn)) ∧
    (p.op = 0x0407 → (s.func fn).agent = 0 → s.applyDue (.cmd fn p) = s.answer (issuer fn p) .deniedRights) ∧
    (∀ a id, p.op = 0x0407 → a = (s.func fn).agent → a ≠ 0 → id = p.fld 3 15 0 → s.job? a id = none → s.jobRec? a id = none →
      (∀ st d, s.stepRefusal a p.dw = some (st, d) → s.applyDue (.cmd fn p) = s.answer (issuer fn p) st d) ∧
      (s.stepRefusal a p.dw = none → ∃ (t : State) (j : Job) (r : StepRun),
        s.applyDue (.cmd fn p) = t.answerR16 (issuer fn p) .accepted ∧ t.job? a id = some j ∧ j.step = some r ∧
        r.model = p.dw 2 % 16 ∧ r.inPva = p.dw 4 + 2 ^ 32 * p.fld 5 19 0 ∧ r.outPva = p.dw 6 + 2 ^ 32 * p.fld 7 19 0 ∧
        r.seqs = ((List.range (p.fld 3 20 16)).map fun i => (p.fld (8 + i) 11 0, p.fld (8 + i) 31 12)) ∧ r.phase = .pre ∧
        t.mem = s.mem ∧ t.opu = s.opu))

/-! ### MTR, SCH and TRT: meters, schedulers, gates, routes and telemetry (R298 to R364) -/

/-- METER_SET, SCHED_SET, GATE_LIST_LOAD, ROUTE_SET and MCAST_GROUP_SET answer DENIED_RIGHTS from any function but the provider's, MALFORMED with the first
field at fault, and otherwise wait for the next tick boundary. There METER_SET arms a meter with its rates and buckets, a new one with empty buckets, or puts
it in BYPASS with its buckets empty; SCHED_SET gives a port's class weights or an agent's gate class and weight; GATE_LIST_LOAD keeps a list pending. An entry
whose end is reached in a tick gives way at step 5 of its closing boundary to the pending list at its cycle start, or to the next entry. -/
def Obligations.MetersWeightsAndGatesAreSet : Prop :=
  ∀ (s : State) (fn : Nat) (p : Packet),
    (∀ op c fault, (op, c, fault) ∈ [(0x0501, Instr.meterSet fn p, meterFault p), (0x0502, .schedSet fn p, schedFault p),
        (0x0503, .gateListLoad fn p, gateFault p), (0x0901, .routeSet fn p, routeFault p), (0x0902, .mcastGroupSet fn p, mcastFault p)] →
      s.Begins fn p op →
      (s.isProvider fn = false → exec c s = .next (s.begun.answer (issuer fn p) .deniedRights)) ∧
      (∀ d, s.isProvider fn = true → fault = some d → exec c s = .next (s.begun.answer (issuer fn p) .malformed d)) ∧
      (s.isProvider fn = true → fault = none → exec c s = .next (s.begun.later (.cmd fn p)))) ∧
    ((bit (p.dw 6) 0 = false → meterFault p = none) ∧
      (p.fld 2 6 0 ≠ 0 → p.fld 3 15 0 ≠ 0 → p.fld 3 15 0 ≤ p.fld 3 31 16 → 2048 ≤ p.fld 4 23 0 → p.fld 4 23 0 ≤ p.fld 5 23 0 →
        meterFault p = none)) ∧
    (p.op = 0x0501 → s.isProvider fn = true → p.fld 2 6 0 ≠ 0 →
      (bit (p.dw 6) 0 = true → meterFault p = none →
        s.applyDue (.cmd fn p) = (s.setMeter (p.fld 2 6 0) fun _ =>
          { active := true, home := s.homeHub (p.fld 2 6 0), cir := p.fld 3 15 0, pir := p.fld 3 31 16, cbs := p.fld 4 23 0,
            pbs := p.fld 5 23 0, tc := if (s.meter (p.fld 2 6 0)).active then min (p.fld 4 23 0) (s.meter (p.fld 2 6 0)).tc else 0,
            tp := if (s.meter (p.fld 2 6 0)).active then min (p.fld 5 23 0) (s.meter (p.fld 2 6 0)).tp else 0 }).answer (issuer fn p) .ok) ∧
      (bit (p.dw 6) 0 = false → s.applyDue (.cmd fn p) =
        (s.setMeter (p.fld 2 6 0) fun m => { m with active := false, tc := 0, tp := 0 }).answer (issuer fn p) .ok)) ∧
    (p.op = 0x0502 → s.isProvider fn = true →
      (bit (p.dw 3) 31 = true → p.fld 2 6 0 ≤ 23 → p.fld 4 7 0 ≠ 0 → p.fld 4 15 8 ≠ 0 → p.fld 4 23 16 ≠ 0 → p.fld 4 31 24 ≠ 0 →
        s.applyDue (.cmd fn p) = (s.setSch (p.fld 2 6 0) fun q =>
          { q with weights := [p.fld 4 7 0, p.fld 4 15 8, p.fld 4 23 16, p.fld 4 31 24] }).answer (issuer fn p) .ok) ∧
      (bit (p.dw 3) 31 = false → p.fld 2 6 0 ≠ 0 → p.fld 3 7 0 ≠ 0 → s.applyDue (.cmd fn p) = (s.onSch fun c =>
        { c with subs := Tbl.put c.subs (p.fld 2 6 0) (p.fld 3 10 8, p.fld 3 7 0) }).answer (issuer fn p) .ok)) ∧
    (p.op = 0x0503 → s.isProvider fn = true → p.fld 2 4 0 ≤ 23 → p.fld 3 8 0 ≤ 256 → p.len = 8 + p.fld 3 8 0 →
      (∀ w ∈ gateWords p, bits w 23 8 ≠ 0 ∧ bits w 31 24 = 0) → s.applyDue (.cmd fn p) = (s.setSch (p.fld 2 4 0) fun x =>
        { x with pendingList := some { entries := (gateWords p).map fun w => (bits w 7 0, bits w 23 8), base := p.addr 4 } }).answer
          (issuer fn p) .ok) ∧
    (∀ q, (q < 24 → exec (.gateEntryExpiry q) s = .next (s.setSch q fun x => { x with expire := true })) ∧
      (24 ≤ q → exec (.gateEntryExpiry q) s = .next s)) ∧
    (∀ q (w : State), w = s.setSch q (fun x => { x with left := x.left - 1, expire := false }) →
      (∀ g, (s.schPort q).pendingList = some g → g.starts s.glb.time.now = true →
        ((s.gateStart q).schPort q).oper = g ∧ ((s.gateStart q).schPort q).pendingList = none) ∧
      ((∀ g, (s.schPort q).pendingList = some g → g.starts s.glb.time.now = false) →
        (((s.schPort q).expire = false ∨ (s.schPort q).oper.entries = [] ∨ 1 < (s.schPort q).left) → s.gateStart q = w) ∧
        (∀ e, (s.schPort q).expire = true → (s.schPort q).left ≤ 1 → (s.schPort q).resync = false →
          (s.schPort q).oper.entries[((s.schPort q).entry + 1) % (s.schPort q).oper.entries.length]? = some e →
          s.gateStart q = w.setSch q fun x => { x with entry := (x.entry + 1) % x.oper.entries.length, left := e.2, gates := e.1 })))

/-- ROUTE_SET replaces at its boundary an agent's ports and preference, and refuses a host agent; MCAST_GROUP_SET replaces a group, and refuses a member whose
route lacks its port; an owner written applies at the boundary, and one that does not exist clears it; a freeze, its release and the clearing of peaks
act on the telemetry alone; and PACKET_START sends what the scheduler chose, a replayed packet first and as it was sent: on a Trellis port numbered, formed
into flits, counted and held until acknowledged, on a host link that is up as its TLP. -/
def Obligations.RoutesTelemetryAndPackets : Prop :=
  ∀ (s : State) (fn : Nat) (p : Packet) (a : Nat),
    (p.op = 0x0901 → s.isProvider fn = true → a = p.fld 2 7 0 → 0 < a → a ≤ 127 → p.fld 3 23 0 < 65536 →
        (p.fld 4 4 0 = 31 ∨ bit (p.fld 3 23 0) (p.fld 4 4 0) = true) →
      (s.hostAgent a = true → s.applyDue (.cmd fn p) = s.answer (issuer fn p) .malformed 2) ∧
      (s.hostAgent a = false → ∃ u : State, s.applyDue (.cmd fn p) = (u.agentLink a).answer (issuer fn p) .ok ∧
          (u.route a).ports = p.fld 3 23 0 ∧ (u.route a).pref = p.fld 4 4 0 ∧ (∀ k, k ≠ a → u.route k = s.route k) ∧
          (∀ k, k ≠ a → u.meter k = s.meter k) ∧ (u.meter a = s.meter a ∨ (u.meter a).tc = 0 ∧ (u.meter a).tp = 0) ∧
          u.mem = s.mem ∧ u.dir = s.dir)) ∧
    (∀ g : Group, p.op = 0x0902 → s.isProvider fn = true → g = { owner := p.fld 3 29 24, mask := p.fld 3 23 0, members := mcastMembers p } →
      ((∀ k, k < 16 → (bit (p.fld 3 23 0) k = true → 0 < (mcastMembers p).getD k 0 ∧ (mcastMembers p).getD k 0 ≤ 127 ∧
          bit (s.route ((mcastMembers p).getD k 0)).ports k = true) ∧ (bit (p.fld 3 23 0) k = false → (mcastMembers p).getD k 0 = 0)) →
        s.applyDue (.cmd fn p) = (s.onTrt fun t => { t with groups := Tbl.put t.groups (p.fld 2 7 0) g }).answer (issuer fn p) .ok) ∧
      (∀ k, k < 16 → (∀ i, i < k → bit (p.fld 3 23 0) i = false ∧ (mcastMembers p).getD i 0 = 0) → bit (p.fld 3 23 0) k = true →
        bit (s.route ((mcastMembers p).getD k 0)).ports k = false →
        s.applyDue (.cmd fn p) = s.answer (issuer fn p) .malformed (4 + k / 4))) ∧
    (∀ owner f, s.mayProvide fn = true →
      (a < 128 → ∃ u : State, exec (.ownerFnWrite fn a owner) s = .next (u.later (.owner a (owner % 256))) ∧ u.xlt.owner = s.xlt.owner ∧
        u.mem = s.mem) ∧
      (0 < a → a < 128 → s.fnExists f = true → s.applyDue (.owner a f) = s.setOwner a (some f)) ∧
      (0 < a → a < 128 → s.fnExists f = false → s.applyDue (.owner a f) = (s.setOwner a (some f)).setOwner a none) ∧
      exec (.trtFreeze fn) s = .next (s.onTrt fun t => { t with freezeNext := some true }) ∧
      exec (.trtRelease fn) s = .next (s.onTrt fun t => { t with freezeNext := some false }) ∧
      (∃ t : State, exec (.trtPeakClr fn owner) s = .next t ∧ (∀ q, t.port q = s.port q) ∧
        (∀ q v, q < 24 → v < 4 → bit owner q = true → Tbl.find t.trt.peaks (4 * q + v) = some (min 65535 (s.qdepth q v))) ∧
        t.trt.routes = s.trt.routes)) ∧
    (∀ q l, q < 16 → s.portUp q = true →
      (∀ h n, (s.port q).replay = some n → (s.port q).held.find? (fun h => h.seq == n) = some h → s.vcHeld q h.p.vc = false →
        exec (.packetStart q l) s = .next ((s.setPort q fun x =>
          { x with replay := if (h.seq + 1) % 4096 == x.next then none else some ((h.seq + 1) % 4096) }).emit (.packet q h.seq h.keysel h.p h.wire))) ∧
      (∀ k sq w, (s.port q).replay = none → s.choose q 0 = some (k, sq) → s.canSend q k = true → (∀ r, k.body ≠ .dmsg r) →
        w = k.wire (s.port q).next (s.linkKeys q).sel (if (s.port q).enc then some (s.linkKeys q).tx else none) →
        ∃ t : State, exec (.packetStart q l) s = .next t ∧ t.schPort q = sq ∧ (t.port q).next = ((s.port q).next + 1) % 4096 ∧
          (t.port q).held = (s.port q).held ++ [{ seq := (s.port q).next, keysel := (s.linkKeys q).sel, p := k, wire := w }] ∧
          t.out = .packet q (s.port q).next (s.linkKeys q).sel k w :: s.out ∧ (∀ x, x ≠ q → t.port x = s.port x))) ∧
    (∀ q l k sq tlp, 16 ≤ q → q < 24 → (s.link (4 * (q - 16) + l)).state = .up → s.choose q l = some (k, sq) → k.body = .tlp tlp →
      ∃ t : State, exec (.packetStart q l) s = .next t ∧ t.schPort q = sq ∧ t.out = .tlp tlp (s.tdiStream tlp.fn) :: s.out ∧ t.mem = s.mem)

/-! ### SEC: tenants, keys and the secured mailbox (R402 to R418) -/

/-- TENANT_CREATE and TENANT_REMOVE answer DENIED_RIGHTS from any function but the provider's, MALFORMED with DETAIL 2 for slot 0, and otherwise wait for the next
tick boundary. There TENANT_CREATE makes an EMPTY slot ACTIVE with a new key, its next key generation, its quota and its agents, or with UPDATE changes the
quota of a live one; TENANT_REMOVE puts a live tenant in DRAINING and starts its removal; a page's background scrub frees its entry, and the last one empties
the slot. -/
def Obligations.TenantsComeAndGo : Prop :=
  ∀ (s : State) (fn : Nat) (p : Packet) (t : Nat),
    (∀ op c, (op, c) ∈ [(0x0601, Instr.tenantCreate fn p), (0x0602, .tenantRemove fn p)] → s.Begins fn p op →
      (s.isProvider fn = false → exec c s = .next (s.begun.answer (issuer fn p) .deniedRights)) ∧
      (s.isProvider fn = true → p.fld 2 5 0 = 0 → exec c s = .next (s.begun.answer (issuer fn p) .malformed 2)) ∧
      (s.isProvider fn = true → p.fld 2 5 0 ≠ 0 → exec c s = .next (s.begun.later (.cmd fn p)))) ∧
    (p.op = 0x0601 → s.isProvider fn = true → t = p.fld 2 5 0 → t ≠ 0 →
      (bit p.flags 0 = false → (s.tenant t).state ≠ .empty → s.applyDue (.cmd fn p) = s.answer (issuer fn p) .busy 1) ∧
      (bit p.flags 0 = true → (s.tenant t).state ≠ .active → (s.tenant t).state ≠ .rotating →
        s.applyDue (.cmd fn p) = s.answer (issuer fn p) .malformed 2) ∧
      ((∀ a ∈ maskBits 128 (mask128 p 5), a ≠ 0 ∧ s.hostAgent a = false ∧ (s.tenantOf a = t ∨ s.tenantOf a = 0 ∧ s.agentFree a = true)) →
        (bit p.flags 0 = false → (s.tenant t).state = .empty → ∃ (u : State) (k : XtsKey), s.applyDue (.cmd fn p) = u.answer (issuer fn p) .ok ∧
          u.tenant t = { state := .active, gen := ((s.tenant t).gen + 1) % 256, genAt := s.tick, quota := p.fld 3 19 0, key := k } ∧
          (k.data, k.tweak) = Config.newKey s.fresh ∧ (∀ a ∈ maskBits 128 (mask128 p 5), u.tenantOf a = t) ∧ u.mem = s.mem ∧ u.rgn = s.rgn) ∧
        (bit p.flags 0 = true → ((s.tenant t).state = .active ∨ (s.tenant t).state = .rotating) →
          ∃ u : State, s.applyDue (.cmd fn p) = u.answer (issuer fn p) .ok ∧ u.tenant t = { s.tenant t with quota := p.fld 3 19 0 } ∧
            (∀ a ∈ maskBits 128 (mask128 p 5), u.tenantOf a = t) ∧ u.mem = s.mem ∧ u.rgn = s.rgn))) ∧
    (p.op = 0x0602 → s.isProvider fn = true → t = p.fld 2 5 0 → t ≠ 0 →
      (((s.tenant t).state = .empty ∨ (s.tenant t).state = .zeroized) → s.applyDue (.cmd fn p) = s.answer (issuer fn p) .malformed 2) ∧
      ((s.tenant t).state = .draining → s.applyDue (.cmd fn p) = s.answer (issuer fn p) .busy 1) ∧
      (((s.tenant t).state = .active ∨ (s.tenant t).state = .rotating) → ∃ r : Removal, ((s.applyDue (.cmd fn p)).tenant t).state = .draining ∧
        Tbl.find (s.applyDue (.cmd fn p)).sec.removals t = some r ∧ r.step = 3 ∧ r.by_ = some (issuer fn p) ∧ r.agents = s.agentsOf t)) ∧
    (∀ page, (s.entry page).state = .scrubPending → s.actDone (.pageScrub page) = true →
      ∃ u : State, exec (.pageScrubComplete page) s = .next u ∧ u.entry page = { gen := (s.entry page).gen } ∧
        (∀ k, k ≠ page → u.entry k = s.entry k) ∧ u.mem = s.mem) ∧
    (∀ r, Tbl.find s.sec.removals t = some r → r.step = 9 → s.scrubPages t = [] →
      (∀ rid ∈ s.regionsOf t, ∀ x ∈ s.scrubsOf rid fun w => w == .destroy, s.actDone (.scrub x.1) = true) →
      ∃ u : State, exec (.tenantScrubComplete t) s = .next (u.event s.providers 0x0031 (leBytes 1 t)) ∧ (u.tenant t).state = .empty ∧
        u.mem = s.mem)

/-- KEY_ROTATE and BIND_WEIGHTS wait for the next tick boundary. There KEY_ROTATE by the provider or the tenant itself starts the sweep to the next key generation
with a new key beside the old one; the sweep's end makes the tenant ACTIVE again and reports it, and four ticks later the old key is overwritten. BIND_WEIGHTS
is ACCEPTED and asks the host for its bundle. While a tenant is ROTATING a stack holds its lines below the frontier under the new key and the others under the
old one, whatever their bytes. Memory is not changed. -/
def Obligations.KeysRotateAndWeightsBind : Prop :=
  ∀ (s : State) (fn : Nat) (p : Packet) (t : Nat),
    (s.Begins fn p 0x0603 → exec (.keyRotate fn p) s = .next (s.begun.later (.cmd fn p))) ∧
    (s.Begins fn p 0x0604 → exec (.bindWeights fn p) s = .next (s.begun.later (.cmd fn p))) ∧
    (p.op = 0x0603 → t = p.fld 2 5 0 →
      (s.isProvider fn = false → (s.func fn).tenant ≠ t → s.applyDue (.cmd fn p) = s.answer (issuer fn p) .deniedRights) ∧
      ((s.isProvider fn = true ∨ (s.func fn).tenant = t) →
        (s.tenantExists t = false → s.applyDue (.cmd fn p) = s.answer (issuer fn p) .malformed 2) ∧
        (s.tenantExists t = true → (s.tenant t).state ≠ .active → s.applyDue (.cmd fn p) = s.answer (issuer fn p) .busy 1) ∧
        (s.tenantExists t = true → (s.tenant t).state = .active → s.sec.rot.isSome = true →
          s.applyDue (.cmd fn p) = s.answer (issuer fn p) .busy 2) ∧
        (s.tenantExists t = true → (s.tenant t).state = .active → s.sec.rot = none →
          ∃ (u : State) (r : Rotation) (k : XtsKey), s.applyDue (.cmd fn p) = u.answerR16 (issuer fn p) .accepted ∧
            u.tenant t = { s.tenant t with state := .rotating, gen := ((s.tenant t).gen + 1) % 256, genAt := s.tick, key := k, old := (s.tenant t).key } ∧
            (k.data, k.tweak) = Config.newKey s.fresh ∧ u.sec.rot = some r ∧ r.tenant = t ∧ r.by_ = issuer fn p ∧ u.mem = s.mem ∧ u.dir = s.dir))) ∧
    (∀ r, s.sec.rot = some r →
      ((r.tenant ≠ t ∨ s.sweepOver r = false) → exec (.rotationSweepComplete t) s = .next s) ∧
      (r.tenant = t → s.sweepOver r = true → ∃ (u : State) (fns : List Nat),
        exec (.rotationSweepComplete t) s = .next (u.event fns 0x0032 (leBytes 1 t ++ leBytes 1 (s.tenant t).gen)) ∧ u.sec.rot = none ∧
        u.tenant t = { s.tenant t with state := .active } ∧ Tbl.find u.sec.oldKey t = some s.tick ∧ u.mem = s.mem)) ∧
    (∀ at_, Tbl.find s.sec.oldKey t = some at_ →
      (s.tick < at_ + 4 → exec (.oldKeyOverwrite t) s = .next s) ∧
      (at_ + 4 ≤ s.tick → exec (.oldKeyOverwrite t) s =
        .next ((s.setTenant t fun x => { x with old := {} }).onSec fun c => { c with oldKey := Tbl.del c.oldKey t }))) ∧
    (∀ pa r, s.regionOf pa = some r → (s.region r).owner = t →
      ((s.tenant t).state ≠ .rotating → s.lineKey pa = (s.tenant t).key) ∧
      ((s.tenant t).state = .rotating → offOf pa < s.front (stackOf pa) → s.lineKey pa = (s.tenant t).key) ∧
      ((s.tenant t).state = .rotating → s.front (stackOf pa) ≤ offOf pa → s.lineKey pa = (s.tenant t).old)) ∧
    (∀ b : Binder, p.op = 0x0604 → t = p.fld 2 11 0 → b = { by_ := issuer fn p, buf := p.dw 4 + 2 ^ 32 * p.dw 5, len := p.fld 3 15 0 } →
      (s.mayRegion (issuer fn p) (s.region t).owner = false → s.applyDue (.cmd fn p) = s.answer (issuer fn p) .deniedRights) ∧
      (s.mayRegion (issuer fn p) (s.region t).owner = true → (Tbl.find s.sec.binders t).isSome = true →
        s.applyDue (.cmd fn p) = s.answer (issuer fn p) .busy 1) ∧
      (s.mayRegion (issuer fn p) (s.region t).owner = true → Tbl.find s.sec.binders t = none → b.readable = true →
        ∃ u : State, s.applyDue (.cmd fn p) = u.bundleAsk t b ∧ Tbl.find u.sec.binders t = some b ∧ t ∈ u.sec.binding ∧
          u.mem = s.mem ∧ u.dir = s.dir ∧ u.rgn = s.rgn))

/-- The mailbox of a link that is up: a GET_MEASUREMENTS is answered with the blocks and their signature, PQ_SIGN signs what was signed last,
PQ_CERT reads the chain, GET_VERSION, FINISH and END_SESSION change the session and are answered, and an unknown code is refused; a request above 64 KiB sets
the error bit. A link key is programmed and selected only in a secured session of the provider's function, never over the key in use. -/
def Obligations.MailboxesAnswer : Prop :=
  ∀ (s : State) (l : Nat) (req : List Byte), s.doeOpen l = true →
    (65536 < req.length → exec (.spdmGetMeasurements l req) s = .next (s.setSpdm l fun x => { x with doeErr := true })) ∧
    (req.length ≤ 65536 → exec (.spdmGetMeasurements l req) s = .next ((s.setSpdm l fun x =>
      { x with signed := some (req ++ s.measurements) }).emit
        (.spdm l 0x60 (s.measurements ++ Config.signR (req ++ s.measurements))))) ∧
    (req.length ≤ 65536 →
      ((s.spdmOf l).signed = none → exec (.pqSign l req) s = .next (s.spdmError l 0x04)) ∧
      (∀ x, (s.spdmOf l).signed = some x → exec (.pqSign l req) s = .next (s.emit (.spdm l 0x7E (Config.signQ x))))) ∧
    (∀ off len, exec (.pqCert l off len) s = .next (s.emit (.spdm l 0x7E (Config.pqChain off (min len 4096))))) ∧
    (∀ code, req.length ≤ 65536 →
      (code ∉ spdmCodes → exec (.spdmRequest l code req) s = .next (s.spdmError l 0x07)) ∧
      (code = 0x84 → exec (.spdmRequest l code req) s = .next ((s.setSpdm l fun x =>
        { x with version := 0, signed := none, session := false }).emit (.spdm l 4 (Config.spdmBody code req)))) ∧
      (code = 0xE5 → exec (.spdmRequest l code req) s =
        .next ((s.setSpdm l fun x => { x with session := true }).emit (.spdm l 0x65 (Config.spdmBody code req)))) ∧
      (code = 0xEC → exec (.spdmRequest l code req) s =
        .next ((s.setSpdm l fun x => { x with session := false }).emit (.spdm l 0x6C (Config.spdmBody code req))))) ∧
    (∀ q dir num key salt, q < 16 → dir < 2 → num < 2 → key.length = 32 →
      (s.keySession l = false → exec (.tlkKeyProg l q dir num key salt) s = .next (s.spdmError l 0x04)) ∧
      (s.keySession l = true → dir = 0 → (s.linkKeys q).sel = num → exec (.tlkKeyProg l q dir num key salt) s = .next (s.spdmError l 0x01)) ∧
      (s.keySession l = true → (dir = 1 ∨ (s.linkKeys q).sel ≠ num) → ∃ t : State, exec (.tlkKeyProg l q dir num key salt) s = .next t ∧
        (if dir = 0 then (if num = 0 then (t.linkKeys q).tx0 else (t.linkKeys q).tx1)
          else (if num = 0 then (t.linkKeys q).rx0 else (t.linkKeys q).rx1)) = { set := true, key := key, salt := salt % 2 ^ 32, ctr := 0 } ∧
        (t.linkKeys q).sel = (s.linkKeys q).sel ∧ (∀ x, x ≠ q → t.linkKeys x = s.linkKeys x) ∧ t.tlk = s.tlk)) ∧
    (∀ q num, q < 16 → num < 2 →
      (s.keySession l = false → exec (.tlkKeyGo l q num) s = .next (s.spdmError l 0x04)) ∧
      (s.keySession l = true → exec (.tlkKeyGo l q num) s =
        .next ((s.setKeys q fun x => { x with sel := num }).emit (.spdm l 0x7E []))))

/-! ### PWR: the contract, measurement, throttling, rails and the input (R454 to R468, R520 to R526) -/

/-- Power: CONTRACT_LOAD and POWER_READ are refused at once for their issuer or their packet's own fields, and otherwise wait for the next tick boundary. There
a CONTRACT_LOAD within Table 16.3 replaces the entries from its START; POWER_READ answers the provider the last 10 ms, the level and the entry, with the
history written where asked, and another function the last second to the nearest 5 W. A sample enters the averages and the minute's account; a minute that has
ended gives way to the next one's entry; below level 19 an evaluation of the governor sets the level that its target and the floors ask for; a rail that faults
is reported and takes its hub, its die at the boundary, or everything with it; the throttle pin, the junctions and the input act as their rows say. -/
def Obligations.PowerIsMeteredAndThrottled : Prop :=
  ∀ (s : State) (fn : Nat) (p : Packet),
    (s.Begins fn p 0x0701 →
      (s.isProvider fn = false → exec (.contractLoad fn p) s = .next (s.begun.answer (issuer fn p) .deniedRights)) ∧
      (∀ d, s.isProvider fn = true → contractFault p = some d → exec (.contractLoad fn p) s = .next (s.begun.answer (issuer fn p) .malformed d)) ∧
      (s.isProvider fn = true → 0 < p.fld 6 5 0 → p.fld 6 5 0 ≤ 60 → p.len = 8 + 2 * p.fld 6 5 0 → p.addr 4 % MIN_NS = 0 →
        exec (.contractLoad fn p) s = .next (s.begun.later (.cmd fn p)))) ∧
    (∀ d, p.op = 0x0701 → s.isProvider fn = true → s.contractCheck p = some d → s.applyDue (.cmd fn p) = s.answer (issuer fn p) .malformed d) ∧
    (∀ n start es, p.op = 0x0701 → s.isProvider fn = true → n = p.fld 6 5 0 → start = p.addr 4 → es = packetEntries p start n →
      0 < n → n ≤ 60 → p.len = 8 + 2 * n → start % MIN_NS = 0 → s.pwr.minute.start ≤ start →
      (s.pwr.contract = [] ∨ start ≤ s.contractEnd) → start + n * MIN_NS ≤ s.pwr.minute.start + 60 * MIN_NS → (∀ e ∈ es, e.ok = true) →
      ∃ t : State, s.applyDue (.cmd fn p) = t.answer (issuer fn p) .ok ∧
        t.pwr.contract = (s.pwr.contract.filter fun e => e.start < start) ++ es ∧
        (start = s.pwr.minute.start → t.pwr.inForce = es.headD {} ∧ t.pwr.holding = false) ∧
        (start ≠ s.pwr.minute.start → t.pwr.inForce = s.pwr.inForce ∧ t.pwr.holding = s.pwr.holding)) ∧
    (s.Begins fn p 0x0702 →
      (s.isProvider fn = false → bit (p.dw 2) 0 = true → exec (.powerRead fn p) s = .next (s.begun.answer (issuer fn p) .deniedRights)) ∧
      ((s.isProvider fn = true ∨ bit (p.dw 2) 0 = false) → p.addr 4 % 64 ≠ 0 →
        exec (.powerRead fn p) s = .next (s.begun.answer (issuer fn p) .malformed 4)) ∧
      ((s.isProvider fn = true ∨ bit (p.dw 2) 0 = false) → p.addr 4 % 64 = 0 →
        exec (.powerRead fn p) s = .next (s.begun.later (.cmd fn p)))) ∧
    (p.op = 0x0702 → p.addr 4 % 64 = 0 →
      (s.isProvider fn = false → bit (p.dw 2) 0 = false →
        s.applyDue (.cmd fn p) = s.answer (issuer fn p) .ok 0 (round5 s.pwr.lastS % 65536)) ∧
      (∀ u : State, s.isProvider fn = true →
        u = (if bit (p.dw 2) 0 = true then s.hostWrite fn 3 (p.addr 4)
          (padTo 256 0 (leBytes 8 s.pwr.p10At ++ leBytes 8 0 ++ s.pwr.p10s.reverse.flatMap (leBytes 2))) else s) →
        s.applyDue (.cmd fn p) = u.answer (issuer fn p) .ok 0
          (place (s.pwr.p10s.headD 0) 16 0 + place s.pwr.level 5 16 + place (stageOf s.pwr.level) 3 21 + place s.pwr.inForce.idx 8 24)
          s.pwr.minute.joules)) ∧
    (∀ mw mv,
      (s.pwr.input = false → exec (.powerSample mw mv) s = .next s) ∧
      (s.pwr.input = true → ∃ t : State, exec (.powerSample mw mv) s = .next t ∧ t.pwr.samples = (mw :: s.pwr.samples).take 100000 ∧
        t.pwr.minute.used = s.pwr.minute.used + mw ∧ t.pwr.vin = mv ∧ t.pwr.low = decide (mv < 60000) ∧ t.pwr.tooHigh = decide (80000 < mv) ∧
        t.pwr.vmin = min s.pwr.vmin (mv / 10) ∧ t.pwr.level = s.pwr.level)) ∧
    ((s.tick % 1024 ≠ 0 → exec .governorEvaluation s = .next s) ∧
      (∀ w, s.tick % 1024 = 0 → s.glb.boot = 7 → s.pwr.evalAt ≠ some s.tick → s.failedPart = false → s.mir.state ≠ .switching →
        w = s.takePwrCtrl.releaseForcing.pwr → s.pwr.level < 19 →
        ∃ t : State, exec .governorEvaluation s = .next t ∧ t.pwr.level = max (w.evalLevel s.glb.time.now) w.floor ∧
          t.pwr.evalAt = some s.tick ∧ t.mem = s.mem ∧ t.dir = s.dir)) ∧
    ((s.glb.time.now < s.pwr.minute.start + MIN_NS → exec .minuteBoundary s = .next s) ∧
      (∀ next, s.pwr.minute.start + MIN_NS ≤ s.glb.time.now → s.glb.boot = 7 → next = s.glb.time.now / MIN_NS * MIN_NS →
        ∃ t : State, exec .minuteBoundary s = .next t ∧ t.pwr.minute = { start := next } ∧
          (t.pwr.inForce, t.pwr.holding) = entryAt s.pwr.contract next ∧ t.pwr.level = s.pwr.level ∧ t.flash.block = s.flash.block + 1)) ∧
    (∀ k (v : State), k < 20 → s.pwr.input = true → s.rail k = .good → s.railSleep k = false →
      v = (s.onPwr fun w => { w with rails := Tbl.put w.rails k .fault }).raise blkPWR s.mir.primary 1 k →
      ∃ u : State, u = v.onPins (fun p => { p with pgOut := v.pgNow }) ∧ u.rail k = .fault ∧
        (k = 18 → exec (.railFault k) s = .next (u.powerOff true)) ∧
        (k = 19 → s.glb.pstate ≠ .cellar → exec (.railFault k) s = .next u) ∧
        (k = 19 → s.glb.pstate = .cellar → exec (.railFault k) s = .next (u.onPwr fun w => { w with retLost := true })) ∧
        (k < 18 → s.glb.boot ≠ 7 → exec (.railFault k) s = .next u) ∧
        (2 ≤ k → k < 14 → s.glb.boot = 7 → exec (.railFault k) s = .next (u.dieFails ((k - 2) % 4))) ∧
        ((k < 2 ∨ 14 ≤ k ∧ k < 18) → s.glb.boot = 7 → exec (.railFault k) s = .next (u.hubFails (k % 2) blkPWR 0))) ∧
    (s.pwr.thrLow = true → exec .throttleNAssert s = .next s) ∧
    (s.pwr.thrLow = false → exec .throttleNAssert s = .next (((s.onPwr fun w =>
      { w with thrLow := true, thrAct := some (s.tick + 2), minute := { w.minute with throttled := true } }).bump blkPWR 0x0504).raise blkPWR
        s.mir.primary 3 0)) ∧
    exec .throttleNRelease s = .next (s.onPwr fun w => { w with thrLow := false }) ∧
    (∀ die t0 (u : State), die < 6 → s.pwr.input = true → u = (s.onPwr fun w =>
        { w with jAt := s.tick, jDue := true, jAlert := true }).onPins (fun p => { p with tempAlert := true }) →
      (t0 ≤ 100 → exec (.junctionReading die t0) s = .next s) ∧
      (100 < t0 → t0 < 103 → exec (.junctionReading die t0) s = .next (s.onPwr fun w => { w with jAt := s.tick })) ∧
      (103 ≤ t0 → t0 < 115 → exec (.junctionReading die t0) s = .next u) ∧
      (115 ≤ t0 → exec (.junctionReading die t0) s = .next ((u.railFault die).onPwr fun w =>
        { w with rails := (if die < 2 then [14 + die, 16 + die] else [4 + die, 8 + die]).foldl (fun r k => Tbl.put r k .fault) w.rails }))) ∧
    (s.pwr.input = false → ∃ t : State, exec .vinRise s = .next t ∧ t.pwr.input = true ∧ t.pwr.rails = [] ∧ t.pins.pgOut = true ∧ t.glb.boot = 0 ∧
      t.flash = s.flash ∧ t.mem = []) ∧
    (s.pwr.input = true → ∃ t : State, exec .inputLoss s = .next t ∧ t.pwr.input = false ∧ t.pins.pgOut = false ∧ t.mem = [] ∧
      t.flash.block = s.flash.block ∧ t.flash.counters = s.flash.counters)

/-! ### FLT: fault commands, status, overflow flags and pins (R427 to R438) -/

/-- Faults: FAULT_READ, HISTORY_READ and FAULT_PIN_HOLD answer DENIED_RIGHTS from any function but the provider's, MALFORMED for an instance that Table 15.1 does
not have or a buffer off its alignment, and otherwise wait for the next tick boundary, where FAULT_READ answers an instance's status and mask and clears the
causes named, HISTORY_READ writes its 64 bytes of history, and FAULT_PIN_HOLD sets HOLD; a write to FLT_PIN sets HOLD at the boundary too, and a fatal event
of the tick after that. A status or overflow write clears the bits written as ones, and marks their counters to become zero at the next boundary; the end of a
pulse releases FAULT_N; an access error is cause 0 of GLB and a read in error returns zero; a rail mismatch takes its die or its hub out, or in a test sets
its RAIL bit alone. -/
def Obligations.FaultsAreReadAndCleared : Prop :=
  ∀ (s : State) (fn : Nat) (p : Packet) (b j : Nat),
    (∀ op c fault, (op, c, fault) ∈ [(0x0801, Instr.faultRead fn p, faultFault p), (0x0802, .historyRead fn p, historyFault p),
        (0x0803, .faultPinHold fn p, none)] → s.Begins fn p op →
      (s.isProvider fn = false → exec c s = .next (s.begun.answer (issuer fn p) .deniedRights)) ∧
      (∀ d, s.isProvider fn = true → fault = some d → exec c s = .next (s.begun.answer (issuer fn p) .malformed d)) ∧
      (s.isProvider fn = true → fault = none → exec c s = .next (s.begun.later (.cmd fn p)))) ∧
    (faultInstOk (p.fld 2 4 0) (p.fld 2 10 8) = false → faultFault p = some 2 ∧ historyFault p = some 2) ∧
    (faultInstOk (p.fld 2 4 0) (p.fld 2 10 8) = true → faultFault p = none ∧
      (p.addr 4 % 64 = 0 → historyFault p = none) ∧ (p.addr 4 % 64 ≠ 0 → historyFault p = some 4)) ∧
    (s.isProvider fn = true → b = p.fld 2 4 0 → j = p.fld 2 10 8 →
      (p.op = 0x0801 → faultInstOk b j = true → s.applyDue (.cmd fn p) =
        (s.setFlt b j fun f => f.clear (p.fld 3 15 0) (bit (p.dw 3) 16)).answer (issuer fn p) .ok 0 ((s.fltInst b j).status b) (s.fltInst b j).mask) ∧
      (p.op = 0x0802 → faultInstOk b j = true → p.addr 4 % 64 = 0 → s.applyDue (.cmd fn p) =
        (s.hostWrite fn 3 (p.addr 4) (s.fltInst b j).histBytes).answer (issuer fn p) .ok 0 (s.fltInst b j).hist.length (s.fltInst b j).written) ∧
      (p.op = 0x0803 → ∃ t : State, s.applyDue (.cmd fn p) = t.answerR16 (issuer fn p) .ok 0 (b2n t.faultLow + 2 * b2n t.flt.pulse) ∧
        t.flt = { s.flt with hold := bit (p.dw 3) 0 } ∧ t.mem = s.mem)) ∧
    (∀ v : Word, s.mayFlt fn = true →
      (faultInstOk b j = true → s.instGone b j = false →
        exec (.faultStatusClear fn b j v) s = .next (s.setFlt b j fun f => f.clear v.toNat (bit v.toNat 30))) ∧
      (s.instGone b j = true → exec (.faultStatusClear fn b j v) s = .next s) ∧
      (b < 20 → j < 64 → ∃ (t : State) (ks : List Nat), exec (.fltOvfClear fn b j v) s = .next t ∧
        (∀ x, x ∈ ks ↔ ∃ k, k < 32 ∧ bit v.toNat k = true ∧ x = statKey b (4 * (32 * j + k)) ∧ (Tbl.find s.flt.ovf x).isSome = true) ∧
        t.flt.zeroNext = s.flt.zeroNext ++ ks ∧ t.flt.ovf = ks.foldl Tbl.del s.flt.ovf ∧ t.flt.insts = s.flt.insts ∧ t.stats = s.stats) ∧
      exec (.fltPinHoldWrite fn v) s = .next (s.later (.hold (bit v.toNat 0)))) ∧
    (∀ h, (s.applyDue (.hold h)).flt = { s.flt with hold := h } ∧ (s.applyDue (.hold h)).stats = s.stats) ∧
    (s.fatalTick.flt.hold = (s.flt.hold || s.flt.fatal) ∧ s.fatalTick.flt.fatal = false) ∧
    exec .faultNPulseEnd s = .next (s.onFlt fun f => { f with pulse := false }) ∧
    (b < 2 → b ∉ s.mir.hubsLost →
      exec (.accessError b j false) s = .next (s.raise blkGLB b 0 (j % 65536)) ∧
      exec (.accessError b j true) s = .next ((s.raise blkGLB b 0 (j % 65536)).emit (.regData 0))) ∧
    (s.flt.rail = false → exec (.railMismatch b j) s = .next s) ∧
    (s.flt.rail = true → faultInstOk b j = true → s.failedPart = false →
      (s.flt.test = true → s.flt.recovery = false → s.glb.boot = 7 → exec (.railMismatch b j) s = .next (s.raiseRail b j)) ∧
      (s.flt.test = false → blkENG ≤ b → b ≤ blkMEC → b ≠ blkFLT → exec (.railMismatch b j) s = .next ((s.raiseRail b j).dieFails j)) ∧
      (∀ u : State, s.flt.test = false → (b < blkENG ∨ blkMEC < b) → (b ≠ blkFLT ∨ j < 2) → s.mir.state ≠ .switching → u = (s.raiseRail b j).loseHub j →
        ((0 ∉ u.mir.hubsLost ∨ 1 ∉ u.mir.hubsLost) →
          exec (.railMismatch b j) s = .next (u.onMir fun m => { m with state := .solo, primary := 1 - j, sent := none })) ∧
        (0 ∈ u.mir.hubsLost → 1 ∈ u.mir.hubsLost → exec (.railMismatch b j) s = .next (u.enterFailed 1))))

/-- ALERT_N is driven low while any instance has a CAUSE or RAIL bit set whose mask bit is clear, and writing 1 to a set bit clears it: no other bit and no other
instance changes. -/
def Obligations.AlertFollowsTheFaults : Prop :=
  ∀ (s : State) (fn b j : Nat) (v : Word),
    (s.alertLow = true ↔ ∃ x ∈ s.flt.insts, (∃ c, bit x.2.cause c = true ∧ bit (x.2.mask % 65536) c = false) ∨
      (x.2.rail = true ∧ bit x.2.mask 16 = false)) ∧
    (s.mayFlt fn = true → faultInstOk b j = true → s.instGone b j = false → ∃ t : State, exec (.faultStatusClear fn b j v) s = .next t ∧
      (∀ c, c < 16 → bit (t.fltInst b j).cause c = (bit (s.fltInst b j).cause c && !bit v.toNat c)) ∧
      (t.fltInst b j).rail = ((s.fltInst b j).rail && !bit v.toNat 30) ∧ (t.fltInst b j).mask = (s.fltInst b j).mask ∧
      (∀ b' j', (b', j') ≠ (b, j) → j < 8 → j' < 8 → t.fltInst b' j' = s.fltInst b' j') ∧ t.stats = s.stats ∧ t.mem = s.mem)

/-! ### GLB: network time, clocks, the log, resets, boot and power states (R472 to R502) -/

/-- Network time: a PTM request is sent when it is due, its response in time locks the clock, one unanswered for 1 ms is counted; a PPS edge near its second
locks the clock of its source; a source lost brings HOLDOVER and then FREE with cause 1; a time set waits, unless PTM holds the clock; a counter of the
lifetime store or a log record is read into its window, and the oldest record of the buffer goes to the flash. -/
def Obligations.NetworkTimeAndTheLog : Prop :=
  ∀ (s : State) (fn : Nat),
    (∀ l, l = bits s.glb.time.ctrl.toNat 12 8 → bits s.glb.time.ctrl.toNat 1 0 ≤ 1 → (s.link l).state = .up → s.glb.boot = 7 →
      (s.tick < s.glb.time.lastReq + s.glb.time.ptmTicks → exec .ptmRequest s = .next s) ∧
      (s.glb.time.lastReq + s.glb.time.ptmTicks ≤ s.tick → exec .ptmRequest s =
        .next ((s.onTime fun t => { t with asked := some s.tick, lastReq := s.tick }).emit (.ptmReq l)))) ∧
    (∀ a, s.glb.time.asked = some a →
      (∀ src, s.tick < a + msTicks 1 → ∃ t : State, exec (.ptmResponse src) s = .next t ∧ t.glb.time.asked = none ∧ t.glb.time.ptmOk = true ∧
        ((s.onTime fun t => { t with asked := none, ptmOk := true }).timeSrc = 1 → t.glb.time.state = .locked ∧ t.glb.time.lastMeas = some s.tick) ∧
        t.mem = s.mem ∧ t.dir = s.dir) ∧
      (s.tick < a + msTicks 1 → exec .ptmTimeout s = .next s) ∧
      (a + msTicks 1 ≤ s.tick → exec .ptmTimeout s =
        .next ((s.onTime fun t => { t with asked := none, ptmOk := false }).bump blkGLB 0x0504))) ∧
    (∀ tod, s.glb.time.now ≤ tod → tod < s.glb.time.now + 2560 → s.glb.boot = 7 → ∃ t : State, exec (.ppsEdge tod) s = .next t ∧
      t.glb.time.ppsAt = some s.tick ∧ t.mem = s.mem ∧ t.dir = s.dir ∧
      ((s.onTime fun t => { t with ppsAt := some s.tick }).timeSrc = 2 → s.glb.time.state ≠ .locked →
        t.glb.time.state = .locked ∧ t.glb.time.pending = none ∧ t.glb.time.lastMeas = some s.tick)) ∧
    (∀ m, s.glb.time.lastMeas = some m →
      (s.glb.time.state = .locked → 2 * max 1 s.glb.time.gap ≤ s.tick - m →
        exec .timeHoldover s = .next (s.onTime fun t => { t with state := .holdover })) ∧
      (s.glb.time.state = .holdover → 781250 ≤ s.tick - m →
        exec .timeHoldover s = .next ((s.onTime fun t => { t with state := .free }).raise blkGLB s.mir.primary 1 0))) ∧
    (∀ v : Word, s.mayGlb fn = true →
      ((s.timeSrc ≠ 1 ∨ s.glb.time.state ≠ .locked) → exec (.glbTimeSet fn v) s =
        .next (s.onTime fun t => { t with pending := some (s.glb.time.setDn.toNat + 2 ^ 32 * v.toNat) })) ∧
      (s.timeSrc = 1 → s.glb.time.state = .locked → exec (.glbTimeSet fn v) s = .next s) ∧
      (bit v.toNat 31 = false → s.flash.block = 0 → ∃ t : State, exec (.glbLifeSel fn v) s = .next t ∧ t.glb.lifeValid = false ∧
        t.glb.lifeData = padTo 8 0 [] ∧ t.flash = s.flash) ∧
      (bit v.toNat 31 = false → s.flash.block ≠ 0 → ∃ t : State, exec (.glbLifeSel fn v) s = .next t ∧ t.glb.lifeValid = true ∧
        t.glb.lifeData = padTo 8 0 [Tbl.getD s.flash.counters (bits v.toNat 17 0) 0] ∧ t.flash = s.flash) ∧
      (∀ r, bit v.toNat 31 = true → s.flash.log[bits v.toNat 17 0]? = some r → r.good = true →
        ∃ t : State, exec (.glbLifeSel fn v) s = .next t ∧ t.glb.lifeValid = true ∧
          t.glb.lifeData = padTo 8 0 ((List.range 8).map fun k => leNat ((r.bytes.drop (8 * k)).take 8)) ∧ t.flash = s.flash)) ∧
    ((s.glb.logQ = [] ∨ s.glb.saveDue = true) → ∀ good, exec (.logRecordWrite good) s = .next s) ∧
    (∀ r rest, s.glb.logQ = r :: rest → s.glb.saveDue = false →
      exec (.logRecordWrite true) s = .next ((s.onGlb fun g => { g with logQ := rest }).onFlash fun f => f.put r true) ∧
      exec (.logRecordWrite false) s = .next (s.onGlb fun g => { g with saveDue := true }))

/-- Clocks, resets and boot: REFCLK lost takes every host link out of UP, and its return leaves a link that is not DOWN as it is; SYSCLK lost, or RESET_N low
for 10 us while the part is powered, is a cold reset, which keeps only the flash; a cold boot holds at its step with its error, or, with both hubs and a valid
image and configuration, reaches READY with tenant 0 ACTIVE. -/
def Obligations.ResetsAndBoot : Prop :=
  ∀ s : State,
    (∃ t : State, exec .refclkLoss s = .next t ∧ t.glb.refclk = false ∧ (∀ l, l < 32 → (t.link l).state ≠ .up) ∧ t.mem = s.mem) ∧
    (s.glb.refclk = true → exec .refclkReturn s = .next s) ∧
    (s.glb.refclk = false → ∃ t : State, exec .refclkReturn s = .next t ∧ t.glb.refclk = true ∧ t.mem = s.mem ∧
      (∀ l, l < 32 → (s.link l).state ≠ .down → t.link l = s.link l)) ∧
    (s.powered = true →
      exec .sysclkLoss s = .next (s.cold.onGlb fun g => { g with sysclk := false }) ∧
      (∀ ns, 10000 ≤ ns → exec (.resetN ns) s = .next s.cold)) ∧
    (s.powered = false → exec .sysclkLoss s = .next s ∧ ∀ ns, exec (.resetN ns) s = .next s) ∧
    (∀ ns, ns < 10000 → exec (.resetN ns) s = .next s) ∧
    (s.cold.mem = [] ∧ s.cold.flash = s.flash ∧ s.cold.glb = State.reset.glb ∧ s.cold.dir = State.reset.dir ∧ s.cold.rgn = State.reset.rgn) ∧
    (∀ b : BootInfo, s.glb.boot ≠ 0 → exec (.coldBoot b) s = .next s) ∧
    (∀ b : BootInfo, s.glb.boot = 0 → s.failedPart = false → s.pins.pgOut = true →
      (∀ step err, bootHold b = some (step, err) → ∃ t : State, exec (.coldBoot b) s = .next t ∧ t.glb.boot = step ∧ t.glb.bootErr = err ∧
        t.glb.strap = b.strap % 64 ∧ t.mem = s.mem) ∧
      (∀ lb cb, bootHold b = none → (s.onGlb fun g => { g with strap := b.strap % 64, sysclk := true, refclk := true }).bootHubs b = [] →
        pickSlot b.rpmc b.lutikCtr b.lutikA.ok b.lutikB.ok b.lutikA.svn b.lutikB.svn = some lb →
        pickSlot b.rpmc b.blobCtr (blobValid b.blobA b.flashBytes) (blobValid b.blobB b.flashBytes) b.blobA.svn b.blobB.svn = some cb →
        ∃ t : State, exec (.coldBoot b) s = .next t ∧ t.glb.boot = 7 ∧ t.glb.hubA = true ∧ t.glb.hubB = true ∧
          (∃ k : XtsKey, t.sec.tenants = [(0, { state := .active, key := k })]) ∧ t.mem = s.mem ∧
          (s.pwr.rails = [] → b.stacksFailed = [] → b.lanes = [] → t.sec.lutikB = lb ∧ t.sec.cfgB = cb ∧ t.mir.state = .paired ∧ t.mir.primary = 0)))

/-- Power states: a write of TARGET that is open is settled at the next tick boundary, where 1 and 0 move between G-DOZE and G-ACTIVE, 3 acts as 0, and 2 is refused
with the first cause of R499 that holds, leaving TARGET, or begins the entry, which ends once every stack is in self-refresh; TARGET 0, 1 or 3 through the watch
link begins the exit, which ends in its state once the stacks have retrained, or in FAILED where RET was lost. -/
def Obligations.PowerStatesChange : Prop :=
  ∀ (s : State) (fn : Nat),
    (s.targetOpen fn = true →
      exec (.pstateDoze fn) s = .next (s.later (.pstate fn 1)) ∧ exec (.dozeExit fn) s = .next (s.later (.pstate fn 0)) ∧
      exec (.pstateCellar fn) s = .next (s.later (.pstate fn 2))) ∧
    (s.targetOpen fn = false →
      exec (.pstateDoze fn) s = .next s ∧ exec (.dozeExit fn) s = .next s ∧ exec (.pstateCellar fn) s = .next s ∧
      ∀ t0, s.applyDue (.pstate fn t0) = s) ∧
    (s.targetOpen fn = true → s.glb.change = .none →
      s.applyDue (.pstate fn 1) = s.onGlb (fun g => { g with target := 1, pstate := .doze }) ∧
      (∀ t0, t0 ≠ 1 → t0 ≠ 2 → s.applyDue (.pstate fn t0) = s.onGlb fun g => { g with target := t0, pstate := .active }) ∧
      (s.cellarRefusal ≠ 0 → s.applyDue (.pstate fn 2) = s.onGlb fun g => { g with refuse := s.cellarRefusal }) ∧
      (s.cellarRefusal = 0 → ∃ t : State, s.applyDue (.pstate fn 2) = t ∧ t.glb.target = 2 ∧ t.glb.change = .entering ∧
        t.glb.grace = some s.tick ∧ t.mem = s.mem ∧ t.rgn = s.rgn)) ∧
    (∀ a, s.targetOpen fn = true → s.glb.change = .exiting a → ∀ t0, t0 ≠ 2 →
      s.applyDue (.pstate fn t0) = s.onGlb fun g => { g with target := t0, change := .exiting (if t0 = 1 then 1 else 0) }) ∧
    ((s.glb.change ≠ .entering ∨ s.stacksIn .selfRefresh = false) → exec .cellarEntryComplete s = .next s) ∧
    (s.glb.change = .entering → s.stacksIn .selfRefresh = true → ∃ t : State, exec .cellarEntryComplete s = .next t ∧ t.glb.pstate = .cellar ∧
      t.glb.change = .none ∧ t.mem = s.mem ∧ t.mcx = s.mcx) ∧
    (∀ target, s.mayPstate fn = true → fn = s.watchFn → s.cellar = true → s.glb.change = .none → target ≠ 2 →
      ∃ t : State, exec (.cellarExit fn target) s = .next t ∧ t.glb.target = target ∧ t.glb.change = .exiting (if target = 1 then 1 else 0) ∧
        t.mcx = { s.mcx with wakeAt := some (s.tick + 1 + msTicks 3) } ∧ t.flt = { s.flt with rail := true, recovery := true } ∧
        t.mem = s.mem ∧ t.dir = s.dir) ∧
    (∀ target, (fn ≠ s.watchFn ∨ target = 2) → exec (.cellarExit fn target) s = .next s) ∧
    (∀ t0, s.glb.change = .exiting t0 →
      (s.pwr.retLost = true → exec .cellarExitReady s = .next (s.enterFailed 3)) ∧
      (s.pwr.retLost = false → s.stacksIn .ready = false → exec .cellarExitReady s = .next s) ∧
      (s.pwr.retLost = false → s.stacksIn .ready = true → ∃ t : State, exec .cellarExitReady s = .next t ∧
        t.glb.pstate = (if t0 = 1 then .doze else .active) ∧ t.glb.change = .none ∧ t.glb.grace = some (s.tick + msTicks 60) ∧ t.mem = s.mem))

/-! ### PCI: BAR4, reads of the host, functions, links, IDE and TDISP (R318 to R343, R495) -/

/-- BAR4: a request to a function whose BAR is not live is an Unsupported Request, as is one without the T bit to a function in RUN (counted as refused) and
one to a function with no agent (counted as failed); a read is cut in the 64-byte lines that it touches, a write in lines with the bytes and enables it
gives each, an AtomicOp of a kind that R325 takes is one request; each line is admitted for the function's agent. A posted write is never answered. Every
request that arrives is counted on its port. -/
def Obligations.WindowRequestsAreCut : Prop :=
  ∀ (s : State) (fn off len id op width : Nat) (data : List Byte) (tb : Bool) (r v : State), r = s.hostRx fn 0 0 → v = s.hostRx fn 0 data.length →
    s.serving = true → s.fnExists fn = true → (s.link (s.func fn).link).state = .up →
    (s.barLive fn = false →
      exec (.bar4Read fn off len id tb) s = .next (r.hostTlp 0 1 (.cpl fn id 1 [])) ∧
      exec (.bar4Write fn off data tb) s = .next v ∧
      exec (.bar4Atomicop fn off op width id data tb) s = .next (v.hostTlp 0 1 (.cpl fn id 1 []))) ∧
    (s.barLive fn = true → (s.func fn).tdi = .run → tb = false →
      exec (.bar4Read fn off len id tb) s = .next ((r.bump blkPCI (0x0880 + 4 * (r.func fn).link)).hostTlp 0 1 (.cpl fn id 1 [])) ∧
      exec (.bar4Write fn off data tb) s = .next (v.bump blkPCI (0x0880 + 4 * (v.func fn).link)) ∧
      exec (.bar4Atomicop fn off op width id data tb) s =
        .next ((v.bump blkPCI (0x0880 + 4 * (v.func fn).link)).hostTlp 0 1 (.cpl fn id 1 []))) ∧
    (s.barLive fn = true → ((s.func fn).tdi ≠ .run ∨ tb = true) → (s.func fn).agent = 0 →
      exec (.bar4Read fn off len id tb) s = .next ((r.bump blkPCI (0x0800 + 4 * (r.func fn).link)).hostTlp 0 1 (.cpl fn id 1 [])) ∧
      exec (.bar4Write fn off data tb) s = .next (v.bump blkPCI (0x0800 + 4 * (v.func fn).link)) ∧
      exec (.bar4Atomicop fn off op width id data tb) s =
        .next ((v.bump blkPCI (0x0800 + 4 * (v.func fn).link)).hostTlp 0 1 (.cpl fn id 1 []))) ∧
    (s.barLive fn = true → ((s.func fn).tdi ≠ .run ∨ tb = true) → (s.func fn).agent ≠ 0 →
      (len = 0 → exec (.bar4Read fn off len id tb) s = .next (r.hostTlp 0 1 (.cpl fn id 0 []))) ∧
      (∀ n w, 0 < len → n = (off + len - 1) / 64 + 1 - off / 64 → w = { fn := fn, id := id, off := off, len := len, total := n, at_ := r.tick } →
        exec (.bar4Read fn off len id tb) s = .next ((List.range n).foldl (fun s k =>
          s.admitIn (s.func fn).agent (.bar4 fn id k) .load { pva := s.barPva fn ((off / 64 + k) * 64) })
          (r.onPci fun c => { c with wins := c.wins ++ [w] }))) ∧
      (data = [] → exec (.bar4Write fn off data tb) s = .next v) ∧
      (∀ n, data ≠ [] → n = (off + data.length - 1) / 64 + 1 - off / 64 →
        exec (.bar4Write fn off data tb) s = .next ((List.range n).foldl (fun s k =>
          s.admitIn (s.func fn).agent (.bar4 fn (2 ^ 32) k) .store { pva := s.barPva fn ((off / 64 + k) * 64),
                                                                     mask := (linePiece off (off / 64 + k) data).2,
                                                                     data := (linePiece off (off / 64 + k) data).1 }) v)) ∧
      (∀ (w : WinReq) (u : State), w = { fn := fn, id := id, off := off, len := width, atomic := true, total := 1, at_ := v.tick } →
          u = v.onPci (fun c => { c with wins := c.wins ++ [w] }) →
        (width = 8 → op < 2 → exec (.bar4Atomicop fn off op width id data tb) s =
          .next (u.admitIn (u.func fn).agent (.bar4 fn id 0) .atomic
            { pva := u.barPva fn off, atop := op, wide := false, operands := padTo 32 0 data })) ∧
        ((width = 8 ∨ width = 16) → op = 2 → exec (.bar4Atomicop fn off op width id data tb) s =
          .next (u.admitIn (u.func fn).agent (.bar4 fn id 0) .atomic
            { pva := u.barPva fn off, atop := 2, wide := width == 16,
              operands := padTo 16 0 (data.take width) ++ padTo 16 0 (data.drop width) }))) ∧
      ((width ≠ 8 ∧ width ≠ 16 ∨ 2 < op ∨ width = 16 ∧ op ≠ 2) → exec (.bar4Atomicop fn off op width id data tb) s =
        .next ((v.bump blkPCI (0x0800 + 4 * (v.func fn).link)).hostTlp 0 1 (.cpl fn id 1 [])))) ∧
    (∀ k i, i < 64 →
      (bit (linePiece off k data).2 i = true ↔ off ≤ 64 * k + i ∧ 64 * k + i < off + data.length) ∧
      (off ≤ 64 * k + i → 64 * k + i < off + data.length → (linePiece off k data).1.getD i 0 = data.getD (64 * k + i - off) 0))

/-- What the host answers late, or not at all: a BAR4 request parked for WIN_WAIT_MS ends with Completer Abort and its error is kept for the function; a read of
the part is served with the data of its completions, and fails on an error status or after CTO_MS. FUNC_BIND is the provider's, for a function that
exists and is UNLOCKED. -/
def Obligations.HostReadsEnd : Prop :=
  ∀ (s : State) (fn : Nat) (p : Packet) (tag id : Nat) (data : List Byte),
    (∀ w, (s.pci.wins.find? fun w => w.fn == fn && w.id == id) = some w →
      (s.tick < w.at_ + s.winWait → exec (.winWaitTimeout fn id) s = .next s) ∧
      (w.at_ + s.winWait ≤ s.tick → ∃ u : State, exec (.winWaitTimeout fn id) s = .next (u.hostTlp 0 1 (.cpl fn id 2 [])) ∧
        (∀ x ∈ u.pci.wins, ¬ (x.fn = fn ∧ x.id = id)) ∧ ((s.func? fn).isSome = true → (u.func fn).winErr = true) ∧ u.mem = s.mem)) ∧
    ((s.pci.wins.find? fun w => w.fn == fn && w.id == id) = none → exec (.winWaitTimeout fn id) s = .next s) ∧
    ((s.pci.reads.find? fun r => r.tag == tag) = none →
      exec (.readCompletion tag 0 data) s = .next s ∧ exec (.readCompletionTimeout tag) s = .next s) ∧
    (∀ r l (v : State), (s.pci.reads.find? fun r => r.tag == tag) = some r → l = (s.func r.fn).link →
        v = s.hostRx r.fn (match r.why with | .bundle _ _ => 1 | _ => 2) data.length →
      (r.len ≤ data.length → 0 < r.len → exec (.readCompletion tag 0 data) s =
        .next ((v.onPci fun c => { c with reads := c.reads.filter fun x => x.tag != tag }).readData r (data.take r.len))) ∧
      (data.length < r.len → data ≠ [] → exec (.readCompletion tag 0 data) s =
        .next ((v.onPci fun c => { c with reads := c.reads.map fun x => if x.tag == tag then r.rest data.length else x }).readData r data)) ∧
      (∀ status, status ≠ 0 → status ≠ 3 → exec (.readCompletion tag status data) s =
        .next ((v.onPci fun c => { c with reads := c.reads.filter fun x => x.tag != tag }).readFail r .internal 0x000101)) ∧
      exec (.readCompletion tag 3 data) s =
        .next (((v.onPci fun c => { c with reads := c.reads.filter fun x => x.tag != tag }).raise blkPCI (hubOfHostPort (portOfLink l)) 3 l).readFail r
          .internal 0x000101) ∧
      (s.tick < r.at_ + s.ctoTicks → exec (.readCompletionTimeout tag) s = .next s) ∧
      (r.at_ + s.ctoTicks ≤ s.tick → exec (.readCompletionTimeout tag) s =
        .next ((((s.onPci fun c => { c with reads := c.reads.filter fun x => x.tag != tag }).bump blkPCI (0x0900 + 4 * l)).raise blkPCI
          (hubOfHostPort (portOfLink l)) 2 l).readFail r .timeout 0))) ∧
    (s.Begins fn p 0x0903 →
      (s.isProvider fn = false → exec (.funcBind fn p) s = .next (s.begun.answer (issuer fn p) .deniedRights)) ∧
      (s.isProvider fn = true → exec (.funcBind fn p) s = .next (s.begun.later (.cmd fn p)))) ∧
    (p.op = 0x0903 → s.isProvider fn = true →
      (s.fnExists (p.fld 2 7 0) = false → s.applyDue (.cmd fn p) = s.answer (issuer fn p) .malformed 2) ∧
      (s.fnExists (p.fld 2 7 0) = true → s.isProvider (p.fld 2 7 0) = true → p.fld 3 21 16 ≠ 0 →
        s.applyDue (.cmd fn p) = s.answer (issuer fn p) .malformed 3) ∧
      (∀ f : Func, s.fnExists (p.fld 2 7 0) = true → (s.isProvider (p.fld 2 7 0) = false ∨ p.fld 3 21 16 = 0) → f = s.func (p.fld 2 7 0) →
        (p.fld 3 6 0 = 0 ∨ (s.hostAgent (p.fld 3 6 0) = true ∨ (s.route (p.fld 3 6 0)).ports % 65536 = 0) ∧
          ∀ g ∈ s.fnsOf (p.fld 3 6 0), g ≠ p.fld 2 7 0 → s.fnPort g = s.fnPort (p.fld 2 7 0) ∧ (s.func g).tenant = p.fld 3 21 16) →
        (f.tdi ≠ .unlocked → s.applyDue (.cmd fn p) = s.answer (issuer fn p) .busy 1) ∧
        (f.tdi = .unlocked → p.fld 3 21 16 ≠ f.tenant → s.fnBusy (p.fld 2 7 0) = true →
          s.applyDue (.cmd fn p) = s.answer (issuer fn p) .busy 2) ∧
        (f.tdi = .unlocked → (p.fld 3 21 16 = f.tenant ∨ s.fnBusy (p.fld 2 7 0) = false) →
          s.applyDue (.cmd fn p) = (s.bind (p.fld 2 7 0) (p.fld 3 6 0) (p.fld 3 21 16)).answer (issuer fn p) .ok ∧
          (p.fld 3 6 0 = 0 → f.agent = 0 → ((s.bind (p.fld 2 7 0) 0 (p.fld 3 21 16)).func (p.fld 2 7 0)) =
            { f with agent := 0, tenant := p.fld 3 21 16 }))))

/-- Functions, links and TDIs: a function-level reset reaches the function, and a PF's VFs with it, and is not begun again while it runs; PERST_N holds its
port in reset and its release ends that, with the links of other ports and every function as they were; a link that leaves UP takes its traffic and is raised;
one that may train comes UP at its rate, or stays DOWN with cause 1 where the partner offers no Flit Mode; IDE keys and failures, the TDI states and configuration writes act on their stream or function alone. -/
def Obligations.FunctionsAndLinksChange : Prop :=
  ∀ (s : State) (fn n l stream kind v : Nat) (flit : Bool),
    ((s.fnExists fn = false ∨ (s.func fn).reset.isSome = true) → exec (.flr fn) s = .next s) ∧
    (s.fnExists fn = true → (s.func fn).reset = none →
      ((s.func fn).vf ≠ 0 → s.flrSet fn = [fn]) ∧
      ∃ u : State, u = (s.flrSet fn).foldl (fun s g => s.flrStart g) s ∧ exec (.flr fn) s =
        .next (if (u.func fn).vf = 0 then u.setFn fn fun f => { f with vfEnable := false, numVfs := 0 } else u)) ∧
    ((8 ≤ n ∨ n ∈ s.pins.perst) → exec (.perstNAssert n) s = .next s) ∧
    (n < 8 → n ∉ s.pins.perst → ∃ t : State, exec (.perstNAssert n) s = .next t ∧ t.pins = { s.pins with perst := insertBy id n s.pins.perst }) ∧
    (n ∉ s.pins.perst → exec (.perstNRelease n) s = .next s) ∧
    (n ∈ s.pins.perst → ∃ t : State, exec (.perstNRelease n) s = .next t ∧ t.pins.perst = s.pins.perst.filter (fun m => m != n) ∧
      (∀ k, (∀ i, i < 4 → k ≠ 4 * n + i) → t.link k = s.link k) ∧ t.pci.funcs = s.pci.funcs) ∧
    (((s.link l).state = .up ∨ (s.link l).state = .recovery) →
      exec (.hostLinkDown l) s = .next ((s.linkDown l).raise blkPCI (hubOfHostPort (portOfLink l)) 0 l)) ∧
    ((s.link l).state ≠ .up → (s.link l).state ≠ .recovery → exec (.hostLinkDown l) s = .next s) ∧
    (s.mayTrain l = false → exec (.hostLinkUp l kind v flit) s = .next s) ∧
    (s.mayTrain l = true → exec (.hostLinkUp l kind v false) s =
      .next (s.setLink l fun k => { k with state := .down, rate := 0, width := 0, cause := 1 })) ∧
    (s.mayTrain l = true → ∃ u : State, exec (.hostLinkUp l kind v true) s = .next u.agentLinks ∧ (u.link l).state = .up ∧ (u.link l).cause = 0 ∧
      (s.cellar = false → (u.link l).rate = kind % 8 ∧ (u.link l).width = v % 32) ∧
      (s.cellar = true → (u.link l).rate = 0 ∧ (u.link l).width = 1) ∧ ∀ k, k ≠ l → u.link k = s.link k) ∧
    (∀ x, Tbl.find (s.link l).ide stream = some x →
      ((x.keyed = false ∨ x.secure = false) → exec (.ideIntegrityFail l stream) s = .next s) ∧
      (x.keyed = true → x.secure = true → ∃ u : State, u =
          (s.setLink l fun k => { k with ide := Tbl.upd k.ide stream fun y => { y with secure := false } }).raise blkPCI
            (hubOfHostPort (portOfLink l)) 1 l ∧
        (x.fn = none → exec (.ideIntegrityFail l stream) s = .next u) ∧
        (∀ g, x.fn = some g → exec (.ideIntegrityFail l stream) s = exec (.lockedConfigWrite g) u))) ∧
    ((s.link l).state ≠ .absent →
      exec (.ideKmKeyProg l 0 fn) s = .next (s.setLink l fun k =>
        { k with ide := Tbl.put k.ide 0 { fn := none, keyed := true, secure := true } }) ∧
      (0 < stream → stream ≤ 8 → s.fnExists fn = true → (s.func fn).link = l → exec (.ideKmKeyProg l stream fn) s = .next (s.setLink l fun k =>
        { k with ide := Tbl.put k.ide stream { fn := some fn, keyed := true, secure := true } }))) ∧
    (s.fnExists fn = true →
      ((s.func fn).tdi = .unlocked → (s.func fn).reset = none → (s.func fn).agent ≠ 0 → (s.func fn).tenant ≠ 0 → s.keyedStream fn = true →
        exec (.lockInterface fn) s = .next (s.setFn fn fun f => { f with tdi := .locked })) ∧
      (((s.func fn).tdi ≠ .unlocked ∨ s.keyedStream fn = false) → exec (.lockInterface fn) s = .next s) ∧
      ((s.func fn).tdi = .locked → exec (.startInterface fn) s = .next (s.setFn fn fun f => { f with tdi := .run })) ∧
      ((s.func fn).tdi ≠ .locked → exec (.startInterface fn) s = .next s) ∧
      exec (.stopInterface fn) s = .next ((s.setFn fn fun f => { f with tdi := .unlocked }).agentLink (s.func fn).agent) ∧
      (((s.func fn).tdi = .locked ∨ (s.func fn).tdi = .run) → exec (.lockedConfigWrite fn) s =
        .next ((s.setFn fn fun f => { f with tdi := .error }).agentLink (s.func fn).agent)) ∧
      ((s.func fn).tdi ≠ .locked → (s.func fn).tdi ≠ .run → exec (.lockedConfigWrite fn) s = .next s)) ∧
    (s.fnExists fn = true → (s.func fn).reset = none → (s.link (s.func fn).link).state = .up →
      exec (.configWrite fn 0 v) s = .next ((s.setFn fn fun f => { f with bme := v % 2 == 1 }).agentLink (s.func fn).agent) ∧
      ((s.func fn).tdi ≠ .locked → (s.func fn).tdi ≠ .run →
        ((s.func fn).vf = 0 → exec (.configWrite fn 1 v) s = .next (s.setFn fn fun f => { f with vfEnable := v % 2 == 1 }).agentLinks) ∧
        ((s.func fn).vf = 0 → (s.func fn).vfEnable = false → v ≤ (s.func fn).totalVfs →
          exec (.configWrite fn 2 v) s = .next (s.setFn fn fun f => { f with numVfs := v })) ∧
        exec (.configWrite fn 4 v) s = .next (s.setFn fn fun f => { f with msixEn := v % 2 == 1 })) ∧
      (((s.func fn).tdi = .locked ∨ (s.func fn).tdi = .run) → (kind = 1 ∨ kind = 2 ∨ kind = 4) →
        exec (.configWrite fn kind v) s = exec (.lockedConfigWrite fn) s) ∧
      exec (.configWrite fn 3 3) s = .next (s.setFn fn fun f => { f with d3 := true }) ∧
      exec (.configWrite fn 3 0) s = .next (s.setFn fn fun f => { f with d3 := false }) ∧
      (v < 3 → exec (.configWrite fn 5 v) s = .next (s.setFn fn fun f => { f with mps := v })))

/-! ### MIR: the loft, the loss of a hub, switchover and FAILED (R426, R439 to R449) -/

/-- The loft: an acknowledgement makes the delta sent the loft's content and lets go what waited for it; a frame is counted good or bad. A hub that fails loses
its ports: a standby no more than that, the primary of a PAIRED part begins a switchover; a lost standby is declared once its cause holds, and the part is SOLO;
the switchover at boundary 1 makes the standby primary with the loft's content and is counted once; and the part enters FAILED for the cases of R448
alone, with its keys overwritten, its stacks in self-refresh and its bytes kept. -/
def Obligations.TheLoftTakesOver : Prop :=
  ∀ (s : State) (cause h blk : Nat),
    ((s.paired = false ∨ s.mir.sent = none) →
      exec .loftAck s = .next s ∧ exec (.deltaFrame true) s = .next s ∧ exec (.deltaFrame false) s = .next s) ∧
    (∀ t l, s.paired = true → s.mir.sent = some (t, l) →
      exec .loftAck s = .next ((s.onMir fun m => { m with loft := l, sent := none }).release t) ∧
      exec (.deltaFrame true) s = .next (s.onMir fun m => { m with frameFails := 0 }) ∧
      exec (.deltaFrame false) s = .next (((s.onMir fun m => { m with badFrames := m.badFrames + 1, frameFails := m.frameFails + 1 }).bump
        blkMIR 0x0508).raise blkMIR s.mir.primary 0 (s.tick % 65536))) ∧
    ((2 ≤ h ∨ h ∈ s.mir.hubsLost ∨ s.failedPart = true) → exec (.hubFailure h blk cause) s = .next s) ∧
    (∀ u v : State, h < 2 → h ∉ s.mir.hubsLost → s.failedPart = false →
        u = (if faultInstOk blk h && faultClass blk cause == some .fatal then s.raise blk h cause 0xFFFF else s) → v = (u.recross h).loseHub h →
      (v.paired = false ∨ h ≠ v.mir.primary → exec (.hubFailure h blk cause) s = .next v) ∧
      (v.paired = true → h = v.mir.primary → ∃ t : State, exec (.hubFailure h blk cause) s = .next t ∧
        t.mir.state = .switching ∧ t.mir.cause = hubCause blk cause ∧ t.mir.sent = none ∧ t.flt.rail = true ∧ t.mem = s.mem ∧ t.rgn = s.rgn)) ∧
    ((s.paired = false ∨ s.mir.primary ∈ s.mir.hubsLost) → exec (.standbyLost cause) s = .next s) ∧
    (s.paired = true → s.mir.primary ∉ s.mir.hubsLost →
      (cause = 3 → s.mir.frameFails < 2 → s.mir.badFrames ≤ 16 → exec (.standbyLost cause) s = .next s) ∧
      (cause = 2 → (∀ x, s.mir.sent = some x → s.tick < x.1 + 1) → exec (.standbyLost cause) s = .next s) ∧
      ((cause = 1 ∨ cause = 4 ∨ cause = 5 ∨ cause = 3 ∧ (2 ≤ s.mir.frameFails ∨ 16 < s.mir.badFrames) ∨
          cause = 2 ∧ ∃ x, s.mir.sent = some x ∧ x.1 + 1 ≤ s.tick) →
        ∃ u v w : State, exec (.standbyLost cause) s =
            .next (w.event w.providers evSTANDBY_LOST (leBytes 1 (1 - s.mir.primary) ++ leBytes 1 cause)) ∧
          u.mir.state = .solo ∧ u.mir.cause = cause ∧ u.mir.sent = none ∧ u.mem = s.mem ∧ u.rgn = s.rgn ∧ v = u.release s.tick ∧
          w = v.raise blkMIR v.mir.primary 1 (s.tick % 65536))) ∧
    ((s.mir.state ≠ .switching ∨ (1 - s.mir.primary) ∈ s.mir.hubsLost) → exec (.switchover cause) s = .next s) ∧
    (∀ u : State, s.mir.state = .switching → (1 - s.mir.primary) ∉ s.mir.hubsLost →
      u = (s.onMir fun m => { m with state := .solo, primary := 1 - s.mir.primary, cause := if cause = 0 then m.cause else cause,
                                     changes := 0 }).takeLoft →
      ∃ t v : State, exec (.switchover cause) s = .next t ∧ t.glb = (s.lifeAdd 3).glb ∧ t.pwr = s.pwr ∧
        v = ((u.gateStep.onFlt fun f => { f with rail := false, recovery := false }).lifeAdd 3).raise blkMIR (1 - s.mir.primary) 2
          ((s.tick + 1) % 65536) ∧
        t = (v.event v.providers evSWITCHOVER (leBytes 1 (1 - s.mir.primary) ++ [0, 0, 0] ++ leBytes 4 (s.tick + 1))).takeKept) ∧
    (s.failedPart = true → exec (.partFailed cause) s = .next s) ∧
    (∀ both : Bool, both = (s.mir.hubsLost.contains 0 && s.mir.hubsLost.contains 1) → s.failedPart = false →
      ((cause = 1 ∧ s.glb.boot ≠ 7 ∧ both = true ∨ cause = 2 ∧ s.mir.state = .switching ∨ cause = 3 ∧ s.mir.state = .solo ∧ both = true ∨
          cause = 3 ∧ s.pwr.retLost = true ∧ s.glb.change ≠ .none ∨ cause = 4 ∧ both = true) →
        ∃ t : State, exec (.partFailed cause) s = .next t ∧ t.sec.live = false ∧ t.sec.int = {} ∧ t.sec.bindings = [] ∧ t.sec.binders = [] ∧
          (∀ i, (t.tenant i).key = {} ∧ (t.tenant i).old = {} ∧ (t.tenant i).state = (s.tenant i).state) ∧ t.mem = s.mem ∧ t.rgn = s.rgn ∧ ∀ k, k < 16 → (t.stack k).state = .failed ∨ (t.stack k).state = .selfRefresh) ∧
      ((cause = 0 ∨ 4 < cause ∨ (cause = 1 ∨ cause = 4) ∧ both = false ∨ cause = 2 ∧ s.mir.state ≠ .switching) →
        exec (.partFailed cause) s = .next s))

/-! ### MCX: refresh, retraining, temperature, the patrol, skew and failures (R237 to R262, R451, R452) -/

/-- A served stack: a boundary of its refresh grid, every third one or every one while HOT, has its refresh counted once, and a refresh off the grid nothing;
a retrain takes two ticks from its boundary, with a refresh; a lane it finds is mapped onto a spare, and one that no spare covers fails the stack; a bad retrain is
repeated once and then fails the stack; parity errors are counted and eight in a tick retrain it; a rate change ends at its boundary; a reading sets its
temperature, above 95 C it is reported, at 100 C the stack fails; the patrol leaves a clean line alone, counts a corrected one, rewrites one from its other copy and
poisons one without; the end of a skew window is evaluated by its samples. A failure is recorded and settled at the next tick boundary, before READY at once:
a failed stack stays failed, a failed die fails its stacks and keeps no staging, and a lost bridge fails its die only with the other. -/
def Obligations.StacksAreServedAndFail : Prop :=
  ∀ (s : State) (k t0 cause : Nat), k < 16 →
    (s.stackFailed k = true →
      exec (.refresh k) s = .next s ∧ exec (.stackFailure k cause) s = .next s ∧ exec (.rateChangeComplete k) s = .next s ∧
      (∀ ok, exec (.caParityError k ok) s = .next s) ∧ ∀ g ls, exec (.periodicRetrain k g ls) s = .next s) ∧
    (∀ (m : Nat) (count : Nat → State), (s.stack k).served = true → m = (if (s.stack k).hot then 1 else 3) →
      (count = fun t => (s.setStack k fun x => { x with refAt := some t }).lifeAdd (64 + k)) →
      ((s.tick + k) % m = 0 → (s.stack k).refAt ≠ some s.tick → exec (.refresh k) s = .next (count s.tick)) ∧
      (((s.tick + k) % m ≠ 0 ∨ (s.stack k).refAt = some s.tick) → (s.tick + 1 + k) % m = 0 → (s.stack k).refAt ≠ some (s.tick + 1) →
        exec (.refresh k) s = .next (count (s.tick + 1))) ∧
      ((s.tick + k) % m ≠ 0 → (s.tick + 1 + k) % m ≠ 0 → exec (.refresh k) s = .next s) ∧
      ((s.stack k).refAt = some (s.tick + 1) → (s.tick + k) % m ≠ 0 → exec (.refresh k) s = .next s)) ∧
    ((s.stack k).state ≠ .retrain → s.tick % 16384 ≠ 32 + 64 * k → (s.tick + 1) % 16384 ≠ 32 + 64 * k →
      ∀ g ls, exec (.periodicRetrain k g ls) s = .next s) ∧
    (((s.stack k).state = .ready ∨ (s.stack k).state = .rateChange) → (s.tick + 1) % 16384 = 32 + 64 * k →
      ∀ g ls, exec (.periodicRetrain k g ls) s = .next (s.setStack k fun x => { x with plan := some (g, ls) })) ∧
    ((s.stack k).state = .ready → s.tick % 16384 = 32 + 64 * k →
      (∃ t : State, exec (.periodicRetrain k true []) s = .next t ∧ t.mem = s.mem ∧ (∀ j, j ≠ k → t.stack j = s.stack j) ∧
        t.stack k = { s.stack k with state := .retrain, busyTo := s.tick + 2, plan := none, refAt := some s.tick }) ∧
      ((s.stack k).fails = 0 → ∃ t : State, exec (.periodicRetrain k false []) s = .next t ∧ t.mem = s.mem ∧ (∀ j, j ≠ k → t.stack j = s.stack j) ∧
        t.stack k = { s.stack k with state := .retrain, fails := 1, busyTo := s.tick + 4, plan := none, refAt := some s.tick })) ∧
    (((s.stack k).state = .ready ∧ s.tick % 16384 = 32 + 64 * k ∨ (s.stack k).state = .retrain) → 1 ≤ (s.stack k).fails → s.glb.boot = 7 →
      (∀ c, Due.stack k c ∉ s.dir.due) → ∃ t : State, exec (.periodicRetrain k false []) s = .next (t.later (.stack k 2)) ∧
        (t.stack k).state = .retrain ∧ t.dir = s.dir ∧ t.mem = s.mem) ∧
    (∀ (l : Lane) (n : Nat), (s.stack k).state = .retrain → l ∉ (s.stack k).lanes →
      n = ((s.stack k).lanes.filter fun y => y.ch == l.ch && y.ca == l.ca).length →
      (n < (if l.ca then 1 else 2) → exec (.periodicRetrain k true [l]) s =
        .next ((s.setStack k fun x => { x with lanes := x.lanes ++ [l] }).raise blkSPH (dieOfStack k) 0 (k * 256 + l.ch % 256))) ∧
      ((if l.ca then 1 else 2) ≤ n → exec (.periodicRetrain k true [l]) s = exec (.stackFailure k 1) s)) ∧
    (∀ ok old n, (s.stack k).served = true → old = (if (s.stack k).caTick = s.tick then (s.stack k).caErrs else 0) → n = old + (if ok then 1 else 2) →
      ∃ t : State, exec (.caParityError k ok) s = .next t ∧ (t.stack k).caErrs = n ∧ (t.stack k).caTick = s.tick ∧ t.mem = s.mem ∧
        ((n < 8 ∨ 8 ≤ old) → (t.stack k).state = (s.stack k).state ∧ (t.stack k).busyTo = (s.stack k).busyTo) ∧
        (old < 8 → 8 ≤ n → (s.stack k).state = .ready → (t.stack k).state = .retrain ∧ (t.stack k).busyTo = s.tick + 3) ∧
        (old < 8 → 8 ≤ n → (s.stack k).state = .retrain → (t.stack k).busyTo = (s.stack k).busyTo + 2)) ∧
    ((s.stack k).state = .rateChange →
      (s.tick + 1 < (s.stack k).busyTo → exec (.rateChangeComplete k) s = .next s) ∧
      (s.tick + 1 = (s.stack k).busyTo → exec (.rateChangeComplete k) s = .next (s.setStack k fun x => { x with rateEnd := true })) ∧
      ((s.stack k).busyTo ≤ s.tick → exec (.rateChangeComplete k) s =
        .next (s.setStack k fun x => { x with state := .ready, slow := s.pwr.down, rateEnd := false }))) ∧
    ((s.stack k).state ≠ .rateChange → exec (.rateChangeComplete k) s = .next s) ∧
    (∃ u : State, (u.stack k).temp = t0 % 256 ∧ (u.stack k).state = (s.stack k).state ∧ (u.stack k).hotDue = ((s.stack k).hotDue || Nat.ble 86 t0) ∧
      (95 < t0 → u.pins.tempAlert = true) ∧ (t0 ≤ 95 → u.pins = s.pins) ∧ u.mem = s.mem ∧ u.dir = s.dir ∧ (∀ j, j ≠ k → u.stack j = s.stack j) ∧
      (t0 < 100 → exec (.stackTempReading k t0) s = .next u) ∧ (100 ≤ t0 → exec (.stackTempReading k t0) s = exec (.stackFailure k 4) u)) ∧
    (∀ line pa, (s.stack k).served = true → line * 64 < HOLE_OFF → bits s.mcx.ctrl.toNat 23 16 ≠ 0 → pa = SLOT * k + 64 * line →
      s.poisoned (pa / 64) = false → Tbl.find s.mcx.errs (pa / 64) = none →
      (exec (.patrol k line 0) s = .next (s.setStack k fun x => { x with patrolled := x.patrolled + 1 })) ∧
      (∃ u : State, exec (.patrol k line 1) s = .next (u.foundCe k) ∧ u.mem = s.mem ∧ u.mcx.poison = s.mcx.poison ∧ Tbl.find u.mcx.errs (pa / 64) = none) ∧
      (s.otherCopy pa = none → (offOf pa < RSV_OFF ∨ (paIdx pa).isSome = true) → ∃ u : State, exec (.patrol k line 2) s =
        .next ((u.foundUe pa).raise blkMCX (dieOfStack k) 1 k) ∧ u.poisoned (pa / 64) = true ∧ u.mem = s.mem) ∧
      (∀ b, s.otherCopy pa = some b → s.stackFailed (stackOf b) = false → s.poisoned (b / 64) = false → Tbl.find s.mcx.errs (b / 64) = none →
        b / 64 ≠ pa / 64 → ∃ u : State, exec (.patrol k line 2) s = .next u ∧ u.poisoned (pa / 64) = false ∧
          u.mem = Memory.write s.mem pa (Memory.read s.mem b 64))) ∧
    ((s.stack k).closed = none → exec (.skewWindowEnd k) s = .next s) ∧
    (∀ (w : Window) (r : Nat), (s.stack k).closed = some w → r = skewRatio w.sumP w.sumQ w.samples →
      (r ≤ max 0x0100 w.limit → ∃ t : State, exec (.skewWindowEnd k) s = .next t ∧ t.mem = s.mem ∧ (∀ j, j ≠ k → t.stack j = s.stack j) ∧
        t.stack k = { s.stack k with ratio := r, closed := none, skewLast := false }) ∧
      (max 0x0100 w.limit < r → (s.stack k).skewLast = true → ∃ t : State, exec (.skewWindowEnd k) s = .next t ∧ t.mem = s.mem ∧
        t.stack k = { s.stack k with ratio := r, closed := none, skewRegion := w.region }) ∧
      (max 0x0100 w.limit < r → (s.stack k).skewLast = false → ∃ (t : State) (fns : List Nat), exec (.skewWindowEnd k) s =
          .next ((t.bump blkMCX (0x05C0 + 4 * k)).event fns evBANK_SKEW
            (leBytes 2 w.region ++ leBytes 1 k ++ leBytes 1 (s.region w.region).hash ++ leBytes 2 r)) ∧ t.mem = s.mem ∧
        fns = s.providers ++ ((s.fnsOfTenant (s.region w.region).owner).filter fun fn => !s.isProvider fn) ∧
        t.stack k = { s.stack k with ratio := r, closed := none, skewLast := true, skewRegion := w.region, skew := true })) ∧
    ((cause = 0 ∨ 5 < cause) → exec (.stackFailure k cause) s = .next s) ∧
    (1 ≤ cause → cause ≤ 5 → s.stackFailed k = false → (∀ c, Due.stack k c ∉ s.dir.due) →
      (s.glb.boot = 7 → exec (.stackFailure k cause) s = .next (s.later (.stack k cause))) ∧
      (s.glb.boot ≠ 7 → exec (.stackFailure k cause) s = .next (s.applyDue (.stack k cause)))) ∧
    (s.stackFailed k = false → ((s.applyDue (.stack k cause)).stack k).state = .failed ∧ ((s.applyDue (.stack k cause)).stack k).cause = cause ∧
      (∀ j, j ≠ k → (s.applyDue (.stack k cause)).stack j = s.stack j) ∧ (s.applyDue (.stack k cause)).mem = s.mem) ∧
    (∀ d, (4 ≤ d ∨ d ∈ s.mir.diesLost ∨ Due.die d ∈ s.dir.due → exec (.dieFailure d cause) s = .next s) ∧
      (d < 4 → d ∉ s.mir.diesLost → Due.die d ∉ s.dir.due →
        (s.glb.boot = 7 → exec (.dieFailure d cause) s = .next (s.later (.die d))) ∧
        (s.glb.boot ≠ 7 → exec (.dieFailure d cause) s = .next (s.applyDue (.die d)))) ∧
      (∀ t : State, d < 4 → d ∉ s.mir.diesLost → t = s.applyDue (.die d) → (∀ j, j < 4 → (t.stack (4 * d + j)).state = .failed) ∧
        (∃ v : State, t = v.onOpu fun x => { x with used := Tbl.del x.used d, stage := Tbl.del x.stage d }) ∧ t.mem = s.mem)) ∧
    (∀ (d h : Nat) (u : State), d < 4 → h < 2 → (d, h) ∉ s.mir.bridgesLost → d ∉ s.mir.diesLost → h ∉ s.mir.hubsLost →
      u = (s.onMir fun m => { m with bridgesLost := m.bridgesLost ++ [(d, h)] }).raise blkFLT h 0 d →
      ((d, 1 - h) ∉ s.mir.bridgesLost → (1 - h) ∉ s.mir.hubsLost → exec (.bridgeLoss d h) s = .next u) ∧
      (((d, 1 - h) ∈ s.mir.bridgesLost ∨ (1 - h) ∈ s.mir.hubsLost) → exec (.bridgeLoss d h) s = exec (.dieFailure d 0) u))

/-! ### The register windows and the tick (R5, R8, R11, R21, R62, R63, R431, R509, R510, R530 to R538) -/

/-- Registers: an access to BAR0 or BAR2 passes its function's gate, or a read of it answers Unsupported Request and a write does nothing. A view or a 32-bit low
word reads its register and keeps the high word; the low word of an RW pair is held until its high word is written; a write of an RW register of BAR2 applies
at the next boundary, one of a wrong width or alignment changes nothing and is reported, and a read of one returns zero; SMBus reads the three windows; a JTAG test
needs STRAP[3]; a vintage read latches the upper bits. A boundary of a READY part first settles what waited for it, in order with the deadlines last and HOLD after
all, and raises the tick count by one. -/
def Obligations.RegistersReadAndWrite : Prop :=
  ∀ (s : State) (fn off width : Nat) (v : Word) (dv : DWord) (tb : Bool),
    (s.regGate fn true tb = 0 → exec (.viewDataRead fn tb) s = .next s ∧ exec (.lowWordRead fn 0 off tb) s = .next s ∧
      exec (.lowWordWrite fn 0 off v tb) s = .next s ∧ exec (.registerWrite fn 0 off width dv tb) s = .next s) ∧
    (s.regGate fn true tb = 1 → exec (.viewDataRead fn tb) s = .next (s.emit .regUr) ∧ exec (.lowWordRead fn 0 off tb) s = .next (s.emit .regUr) ∧
      exec (.lowWordWrite fn 0 off v tb) s = .next s ∧ exec (.registerWrite fn 0 off width dv tb) s = .next s) ∧
    (∀ u : State, s.regGate fn true tb = 2 → u = s.bump blkPCI (0x0880 + 4 * (s.func fn).link) →
      exec (.viewDataRead fn tb) s = .next (u.emit .regUr) ∧ exec (.lowWordRead fn 0 off tb) s = .next (u.emit .regUr) ∧
      exec (.lowWordWrite fn 0 off v tb) s = .next u ∧ exec (.registerWrite fn 0 off width dv tb) s = .next u) ∧
    ((s.regGate fn false false = 0 → exec (.vintageLoRead fn) s = .next s) ∧
      (s.regGate fn false false = 1 → exec (.vintageLoRead fn) s = .next (s.emit .regUr)) ∧
      (s.regGate fn false false = 4 → s.isProvider fn = true → s.windowOn blkRGN = true → exec (.vintageLoRead fn) s =
        .next ((s.onRgn fun r => { r with vintageHi := (s.region s.rgn.sel).vintage / 2 ^ 32 % 65536 }).emit
          (.regData ((s.region s.rgn.sel).vintage % 2 ^ 32))))) ∧
    (s.regGate fn true tb = 4 → s.viewServed fn = false → exec (.viewDataRead fn tb) s = .next s) ∧
    (∀ a, s.regGate fn true tb = 4 → s.viewServed fn = true → a = (s.func fn).viewAddr % 2 ^ 25 / 4 * 4 →
      (s.isProvider fn = true → ¬ (a = 0x80000C ∧ s.windowOn blkRGN = true) → exec (.viewDataRead fn tb) s =
        .next ((s.setFn fn fun f => { f with viewDenied := false }).emit (.regData (s.provRead a)))) ∧
      (s.isProvider fn = false → s.windowOn (a / 0x100000) = true → (s.bar2Reg a).isSome = true → s.highOf a = false →
        everyFn (a / 0x100000) (a % 0x100000) = false → (s.func fn).tenant = 0 →
        exec (.viewDataRead fn tb) s = .next ((s.setFn fn fun f => { f with viewDenied := true }).emit (.regData 0)))) ∧
    (∀ bar, s.regGate fn (bar == 0) tb = 4 → ¬ (bar = 0 ∧ off = 0x88) →
      (∀ x, s.regOf fn bar off = some (true, x) → ∃ t : State, exec (.lowWordRead fn bar off tb) s = .next t ∧ t.out = .regData (x % 2 ^ 32) :: s.out ∧
        Tbl.find t.glb.hiLatch (latchKey fn bar off + 4) = some (x / 2 ^ 32) ∧ t.mem = s.mem) ∧
      (∀ x, ¬ (bar = 2 ∧ off = 0x80000C) → s.regOf fn bar off = some (false, x) → exec (.lowWordRead fn bar off tb) s = .next (s.emit (.regData x))) ∧
      (s.regOf fn bar off = none → exec (.lowWordRead fn bar off tb) s = .next (s.emit (.regData 0)))) ∧
    (∀ base, s.regGate fn true tb = 4 → (base = 0x20 ∨ base = 0x1020 ∨ base = 0x1040) →
      exec (.lowWordWrite fn 0 base v tb) s = .next (s.onGlb fun g => { g with loHold := Tbl.put g.loHold (latchKey fn 0 base) v.toNat }) ∧
      (Tbl.find s.glb.loHold (latchKey fn 0 base) = some width → exec (.registerWrite fn 0 (base + 4) 4 dv tb) s =
        .next ((s.onGlb fun g => { g with loHold := Tbl.del g.loHold (latchKey fn 0 base) }).write0 fn base (width + 2 ^ 32 * (dv.toNat % 2 ^ 32))))) ∧
    (s.regGate fn false tb = 4 →
      (s.regAt fn 2 off = none → exec (.registerWrite fn 2 off width dv tb) s = .next s) ∧
      (∀ base, s.regAt fn 2 off = some (base, false) → (off % 4 ≠ 0 ∨ width ≠ 4) →
        exec (.registerWrite fn 2 off width dv tb) s = exec (.accessError (s.fnHub fn) off false) s) ∧
      (∀ r, r ∈ laterRegs → s.regAt fn 2 r.1 = some (r.1, false) → exec (.registerWrite fn 2 r.1 4 dv tb) s =
        .next (s.onGlb fun g => { g with regNext := g.regNext ++ [(r.1, maskAnd (dv.toNat % 2 ^ 32) r.2)] })) ∧
      (s.regAt fn 2 0x800000 = some (0x800000, false) →
        exec (.registerWrite fn 2 0x800000 4 dv tb) s = .next (s.onRgn fun r => { r with sel := dv.toNat % 4096 }))) ∧
    (∀ (h : Nat) (u : State), u = (if 2 ≤ h ∨ h ∈ s.mir.hubsLost then s else s.raise blkGLB h 0 (off % 65536)) →
      exec (.accessError h off false) s = .next u ∧ exec (.accessError h off true) s = .next (u.emit (.regData 0))) ∧
    ((s.powered = false ∨ s.glb.boot = 0) → ∀ ok, exec (.smbusRead off ok) s = .next s) ∧
    (exec (.smbusRead off false) s = .next s) ∧
    (s.powered = true → s.glb.boot ≠ 0 →
      (off / 0x100000 ≠ blkGLB → off / 0x100000 ≠ blkFLT → off / 0x100000 ≠ blkPWR →
        exec (.smbusRead off true) s = .next (s.emit (.smbus (leBytes 4 0)))) ∧
      (off % 4 ≠ 0 → (s.bar2Reg (off / 4 * 4)).isSome = true → (off / 0x100000 = blkGLB ∨ off / 0x100000 = blkFLT ∨ off / 0x100000 = blkPWR) →
        exec (.smbusRead off true) s = .next ((s.accessErr s.mir.primary off).emit (.smbus (leBytes 4 0)))) ∧
      (off % 4 = 0 → (off / 0x100000 = blkGLB ∨ off / 0x100000 = blkFLT ∨ off / 0x100000 = blkPWR) →
        ∃ t : State, exec (.smbusRead off true) s = .next t ∧ t.out = .smbus (leBytes 4 (s.provRead off % 2 ^ 32)) :: s.out ∧ t.mem = s.mem)) ∧
    (∀ (code : Nat) (on : Bool),
      ((s.powered = false ∨ code = 0 ∨ 1 < code ∧ bit s.glb.strap 3 = false) → exec (.jtagInstruction code on) s = .next s) ∧
      (s.powered = true → s.glb.boot = 7 → s.mir.state ≠ .switching → s.glb.change = .none → (code = 1 ∨ 1 < code ∧ bit s.glb.strap 3 = true) →
        exec (.jtagInstruction code on) s = .next (s.onFlt fun f => { f with test := on, rail := on }))) ∧
    ((s.powered = false ∨ s.glb.boot ≠ 7) → exec .tickBoundary s = .next s) ∧
    (s.powered = true → s.glb.boot = 7 → ∃ t : State, exec .tickBoundary s = .next t ∧ t.tick = s.tick + 1 ∧ t.glb.boot = 7 ∧
      (s.glb.time.pending = none → t.glb.time.now = s.glb.time.next.getD (s.glb.time.now + 1280) ∧ t.glb.time.next = none)) ∧
    (∃ rest : State → State, ∀ w : State, w.powered = true → w.glb.boot = 7 → w.mir.state ≠ .switching → w.failedPart = false → w.cellar = false →
      exec .tickBoundary w = .next (rest w.writesTick.dueTick)) ∧
    (∀ (u : State) (first last : List Due), first = s.dir.due.filter (fun x => !x.isExpire) → last = s.dir.due.filter Due.isExpire →
      u = ((first ++ last).foldl (fun w x => w.applyDue x) (s.onDir fun d => { d with due := [] })) →
      s.dueTick = u.onFlt fun f => { f with hold := f.hold || f.fatal, fatal := false })

/-! ### Reset (R10, R489, R493) -/

/-- The invariant of the model holds right after reset. -/
def Obligations.ResetInv : Prop := State.reset.Inv

/-- Right after a cold reset: no command waits, no byte of the stacks is kept, every region ID is free, every directory entry is FREE with GEN 0, no
job, model, binding or tenant exists, every meter is in BYPASS with no credit, every gate list is empty, every port's credit is 6144, 4096 and 6144 flits, the
boot is at step 0, the tick count and network time are 0, and the RW registers hold the values of their Reset columns. Where the specification gives no value
(the model's own choice, named in assumption log 3) the statement says nothing. -/
def Obligations.ResetValues : Prop :=
  ∀ (i fn : Nat),
    State.reset.pending = [] ∧ State.reset.mem = [] ∧ State.reset.dir.due = [] ∧ (State.reset.region i).state = .free ∧ (State.reset.entry i).state = .free ∧
    (State.reset.entry i).gen = 0 ∧ State.reset.eng.jobs = [] ∧ (State.reset.model i).state = .free ∧ State.reset.sec.bindings = [] ∧
    (State.reset.tenant i).state = .empty ∧ (State.reset.meter i).active = false ∧ (State.reset.meter i).tc = 0 ∧ (State.reset.meter i).tp = 0 ∧
    (State.reset.schPort i).oper.entries = [] ∧ (State.reset.schPort i).pendingList = none ∧ (State.reset.port i).alloc = 0x18040180 ∧
    State.reset.glb.boot = 0 ∧ State.reset.glb.tick = 0 ∧ State.reset.glb.time.now = 0 ∧ State.reset.glb.pstate = .active ∧
    (State.reset.intake fn).minor = 0 ∧ (State.reset.intake fn).hello = false ∧ (State.reset.intake fn).fill = [] ∧
    State.reset.pci.ctrl = 0x000A0014 ∧ State.reset.tlk.timers = 0x07D001F4 ∧ State.reset.tlk.retry = 8 ∧ State.reset.xlt.ctrl = 0x00040064 ∧
    State.reset.xlt.hot = 0x00011000 ∧ State.reset.dir.ctrl = 0x003200A0 ∧ State.reset.eng.ctrl = 0x00100131 ∧ State.reset.opu.ctrl = 8 ∧
    State.reset.opu.stepCtrl = 16 ∧ State.reset.mcx.ctrl = 0x00400400 ∧ State.reset.glb.time.ctrl = 0x04000000 ∧ State.reset.glb.time.step = 1000 ∧
    State.reset.pwr.ctrl = 0x00000CF8 ∧ State.reset.pwr.vmin = 0xFFFF ∧ State.reset.stats = [] ∧ State.reset.flt.hold = false ∧
    State.reset.mir.state = .paired ∧ State.reset.mir.primary = 0
end

