-- ==== Sys2Proof/Laws/Memory.lean ====
section
/-! SUPPORT. The pool's memory: every operation keeps the canonical form, a read after a write gives the byte written, and a write leaves
every other address alone. -/

namespace Sys2Proof.Machine

variable {α : Type}

/-! ### Tables -/

/-- Keys strictly rising, as a proposition. -/
abbrev Rising (t : Tbl α) : Prop := t.Pairwise fun a b => a.1 < b.1

theorem Tbl.mem_put {t : Tbl α} {k : Nat} {v : α} {e : Nat × α} (h : e ∈ Tbl.put t k v) : e = (k, v) ∨ e ∈ t := by
  induction t with
  | nil => simp [Tbl.put] at h; exact .inl h
  | cons p r ih =>
    obtain ⟨j, w⟩ := p
    simp only [Tbl.put] at h
    split at h
    · rcases List.mem_cons.1 h with h | h
      · exact .inl h
      · exact .inr (List.mem_cons_of_mem _ h)
    · split at h
      · rcases List.mem_cons.1 h with h | h
        · exact .inl h
        · exact .inr h
      · rcases List.mem_cons.1 h with h | h
        · exact .inr (h ▸ List.mem_cons_self)
        · rcases ih h with h | h
          · exact .inl h
          · exact .inr (List.mem_cons_of_mem _ h)

theorem Tbl.put_rising {t : Tbl α} {k : Nat} {v : α} (h : Rising t) : Rising (Tbl.put t k v) := by
  induction t with
  | nil => simp [Tbl.put]
  | cons p r ih =>
    obtain ⟨j, w⟩ := p
    have hr := List.pairwise_cons.1 h
    simp only [Tbl.put]
    split
    · next e => exact List.pairwise_cons.2 ⟨fun a ha => e ▸ hr.1 a ha, hr.2⟩
    · split
      · next e => exact List.pairwise_cons.2 ⟨fun a ha => by
          rcases List.mem_cons.1 ha with rfl | ha
          · exact e
          · exact Nat.lt_trans e (hr.1 a ha), h⟩
      · next e1 e2 => exact List.pairwise_cons.2 ⟨fun a ha => by
          rcases Tbl.mem_put ha with rfl | ha
          · show j < k; omega
          · exact hr.1 a ha, ih hr.2⟩

theorem Tbl.del_sublist {t : Tbl α} {k : Nat} : (Tbl.del t k).Sublist t := by
  induction t with
  | nil => exact List.Sublist.refl _
  | cons p r ih =>
    obtain ⟨j, w⟩ := p
    simp only [Tbl.del]
    split
    · exact List.sublist_cons_self _ _
    · split
      · exact List.Sublist.refl _
      · exact ih.cons_cons _

theorem Tbl.find_none_of_lt {t : Tbl α} {j k : Nat} (h : ∀ e ∈ t, j < e.1) (hk : k ≤ j) : Tbl.find t k = none := by
  cases t with
  | nil => rfl
  | cons p r =>
    obtain ⟨i, w⟩ := p
    have := h (i, w) List.mem_cons_self
    have : k < i := Nat.lt_of_le_of_lt hk this
    simp [Tbl.find, Nat.ne_of_gt this, this]

@[simp] theorem Tbl.find_put {t : Tbl α} {k : Nat} {v : α} (a : Nat) :
    Tbl.find (Tbl.put t k v) a = if a = k then some v else Tbl.find t a := by
  induction t with
  | nil =>
    simp only [Tbl.put, Tbl.find]
    by_cases e : a = k
    · simp [e]
    · simp [e, Ne.symm e]
  | cons p r ih =>
    obtain ⟨j, w⟩ := p
    simp only [Tbl.put]
    split
    · next e =>
      subst e
      by_cases f : a = j
      · simp [Tbl.find, f]
      · simp [Tbl.find, f, Ne.symm f]
    · split
      · next e1 e2 =>
        by_cases f : a = k
        · simp [Tbl.find, f]
        · by_cases g : a < k
          · have : a < j := Nat.lt_trans g e2
            simp [Tbl.find, f, Ne.symm f, g, this, Nat.ne_of_gt this]
          · simp [Tbl.find, f, Ne.symm f, g]
      · next e1 e2 =>
        simp only [Tbl.find, ih]
        by_cases f : a = k
        · subst f
          simp [e1, e2]
        · simp [f]

@[simp] theorem Tbl.getD_put {t : Tbl α} {k : Nat} {v : α} (a : Nat) (d : α) :
    Tbl.getD (Tbl.put t k v) a d = if a = k then v else Tbl.getD t a d := by
  unfold Tbl.getD
  rw [Tbl.find_put]
  split <;> rfl

@[simp] theorem Tbl.getD_modD {t : Tbl α} {k : Nat} {f : α → α} (a : Nat) (d : α) :
    Tbl.getD (Tbl.modD t k d f) a d = if a = k then f (Tbl.getD t k d) else Tbl.getD t a d := Tbl.getD_put a d

@[simp] theorem Tbl.find_upd {t : Tbl α} {k : Nat} {f : α → α} (a : Nat) :
    Tbl.find (Tbl.upd t k f) a = if a = k then (Tbl.find t a).map f else Tbl.find t a := by
  induction t with
  | nil => simp [Tbl.upd, Tbl.find]
  | cons p r ih =>
    obtain ⟨j, w⟩ := p
    simp only [Tbl.upd]
    split
    · next e =>
      subst e
      by_cases g : a = j
      · simp [Tbl.find, g]
      · simp [Tbl.find, g, Ne.symm g]
    · split
      · next e1 e2 =>
        by_cases g : a = k
        · subst g; simp [Tbl.find, e1, e2]
        · simp [g]
      · next e1 e2 =>
        simp only [Tbl.find, ih]
        by_cases g : a = k
        · subst g; simp [e1, e2]
        · simp [g]

theorem Tbl.find_del {t : Tbl α} (h : Rising t) (k a : Nat) : Tbl.find (Tbl.del t k) a = if a = k then none else Tbl.find t a := by
  induction t with
  | nil => simp [Tbl.del, Tbl.find]
  | cons p r ih =>
    obtain ⟨j, w⟩ := p
    have hr := List.pairwise_cons.1 h
    simp only [Tbl.del]
    split
    · next e =>
      subst e
      by_cases g : a = j
      · simp [g, Tbl.find_none_of_lt (fun e he => hr.1 e he) (Nat.le_refl _)]
      · simp only [Tbl.find, g, Ne.symm g, if_false]
        split
        · next l => exact Tbl.find_none_of_lt (fun e he => hr.1 e he) (Nat.le_of_lt l)
        · rfl
    · split
      · next e1 e2 =>
        by_cases g : a = k
        · subst g; simp [Tbl.find, e1, e2]
        · simp [g]
      · next e1 e2 =>
        simp only [Tbl.find, ih hr.2]
        by_cases g : a = k
        · subst g; simp [e1, e2]
        · simp [g]

/-! ### The canonical form -/

theorem Memory.wf_iff {m : Memory} : Memory.wf m = true ↔ (∀ c ∈ m, c.2 ≠ 0) ∧ Rising m := by
  induction m with
  | nil => simp [Memory.wf]
  | cons p r ih =>
    obtain ⟨a, b⟩ := p
    cases r with
    | nil => simp [Memory.wf]
    | cons q r =>
      obtain ⟨c, d⟩ := q
      simp only [Memory.wf, Bool.and_eq_true, bne_iff_ne, decide_eq_true_eq] at ih ⊢
      constructor
      · rintro ⟨⟨hb, hac⟩, hr⟩
        obtain ⟨h1, h2⟩ := ih.1 hr
        refine ⟨fun x hx => ?_, List.pairwise_cons.2 ⟨fun x hx => ?_, h2⟩⟩
        · rcases List.mem_cons.1 hx with rfl | hx
          · exact hb
          · exact h1 x hx
        · rcases List.mem_cons.1 hx with rfl | hx
          · exact hac
          · exact Nat.lt_trans hac ((List.pairwise_cons.1 h2).1 x hx)
      · rintro ⟨h1, h2⟩
        have h3 := List.pairwise_cons.1 h2
        exact ⟨⟨h1 _ List.mem_cons_self, h3.1 _ List.mem_cons_self⟩,
          ih.2 ⟨fun x hx => h1 x (List.mem_cons_of_mem _ hx), h3.2⟩⟩

theorem Memory.wf_sublist {m n : Memory} (h : n.Sublist m) (w : Memory.wf m = true) : Memory.wf n = true := by
  obtain ⟨h1, h2⟩ := Memory.wf_iff.1 w
  exact Memory.wf_iff.2 ⟨fun c hc => h1 c (h.subset hc), h2.sublist h⟩

theorem Memory.set_wf {m : Memory} {a : Nat} {b : Byte} (w : Memory.wf m = true) : Memory.wf (Memory.set m a b) = true := by
  unfold Memory.set
  split
  · exact Memory.wf_sublist Tbl.del_sublist w
  · next hb =>
    obtain ⟨h1, h2⟩ := Memory.wf_iff.1 w
    refine Memory.wf_iff.2 ⟨fun c hc => ?_, Tbl.put_rising h2⟩
    rcases Tbl.mem_put hc with rfl | hc
    · exact hb
    · exact h1 c hc

theorem Memory.write_wf {m : Memory} {a : Nat} {bs : List Byte} (w : Memory.wf m = true) : Memory.wf (Memory.write m a bs) = true := by
  induction bs generalizing m a with
  | nil => exact w
  | cons b bs ih => exact ih (Memory.set_wf w)

theorem Memory.writeMasked_wf {m : Memory} {a k : Nat} {bs : List Byte} (w : Memory.wf m = true) :
    Memory.wf (Memory.writeMasked m a k bs) = true := by
  induction bs generalizing m a k with
  | nil => exact w
  | cons b bs ih =>
    unfold Memory.writeMasked
    split
    · exact ih (Memory.set_wf w)
    · exact ih w

theorem Memory.zero_wf {m : Memory} {a n : Nat} (w : Memory.wf m = true) : Memory.wf (Memory.zero m a n) = true :=
  Memory.wf_sublist List.filter_sublist w

theorem Memory.sets_wf {m : Memory} {a : Nat} {cs : List Host.Cell} (w : Memory.wf m = true) :
    Memory.wf (cs.foldl (fun m c => Memory.set m (a + c.1) c.2) m) = true := by
  induction cs generalizing m with
  | nil => exact w
  | cons c cs ih => exact ih (Memory.set_wf w)

theorem Memory.paste_wf {m : Memory} {a n : Nat} {cs : List Host.Cell} (w : Memory.wf m = true) :
    Memory.wf (Memory.paste m a n cs) = true := Memory.sets_wf (Memory.zero_wf w)

theorem Memory.copy_wf {m : Memory} {src dst n : Nat} (w : Memory.wf m = true) : Memory.wf (Memory.copy m src dst n) = true :=
  Memory.paste_wf w

theorem scatterCells_wf {m : Memory} {off : Nat} {rs : List (Nat × Nat)} {cs : List Host.Cell} (w : Memory.wf m = true) :
    Memory.wf (scatterCells m off rs cs) = true := by
  induction rs generalizing m off with
  | nil => exact w
  | cons r rs ih => exact ih (Memory.paste_wf w)

/-! ### Reading after writing -/

theorem Memory.get_set {m : Memory} (w : Memory.wf m = true) (a : Nat) (b : Byte) (c : Nat) :
    Memory.get (Memory.set m a b) c = if c = a then b else Memory.get m c := by
  unfold Memory.get Memory.set
  by_cases hb : b = 0
  · simp only [hb, if_true]
    unfold Tbl.getD
    rw [Tbl.find_del (Memory.wf_iff.1 w).2]
    split <;> rfl
  · simp only [hb, if_false]
    exact Tbl.getD_put c 0

theorem Memory.get_write_out {m : Memory} (w : Memory.wf m = true) {a : Nat} {bs : List Byte} {c : Nat}
    (h : c < a ∨ a + bs.length ≤ c) : Memory.get (Memory.write m a bs) c = Memory.get m c := by
  induction bs generalizing m a with
  | nil => rfl
  | cons b bs ih =>
    simp only [List.length_cons] at h
    unfold Memory.write
    rw [ih (Memory.set_wf w) (by omega), Memory.get_set w]
    exact if_neg (by omega)

theorem Memory.get_write_in {m : Memory} (w : Memory.wf m = true) {a : Nat} {bs : List Byte} {i : Nat} (h : i < bs.length) :
    Memory.get (Memory.write m a bs) (a + i) = bs[i] := by
  induction bs generalizing m a i with
  | nil => exact absurd h (by simp)
  | cons b bs ih =>
    unfold Memory.write
    cases i with
    | zero =>
      rw [Memory.get_write_out (Memory.set_wf w) (by omega), Memory.get_set w]
      simp
    | succ i =>
      have h' : i < bs.length := by simpa using h
      have := ih (m := Memory.set m a b) (a := a + 1) (Memory.set_wf w) h'
      rw [show a + (i + 1) = a + 1 + i by omega, this]
      simp

end Sys2Proof.Machine
end

