-- ==== Sys2Proof/Laws/FrameCore.lean ====
section
/-! SUPPORT. The frame of a step, composed: `Frame m s t` is reflexive and transitive, a change of one part needs that part's bit, and a loop keeps
the frame that its body keeps. The lemmas are in chaining form: from `Frame m s0 s` they give `Frame m s0` of what an operation makes of `s`. -/

namespace Sys2Proof.Machine

/-- Every part of mask `a` is one of mask `b`. -/
abbrev Sub (a b : Nat) : Prop := a &&& b = a

theorem Sub.bit {a b i : Nat} (h : Sub a b) (ha : a.testBit i = true) : b.testBit i = true := by
  have : (a &&& b).testBit i = true := by rw [show a &&& b = a from h]; exact ha
  rw [Nat.testBit_and, Bool.and_eq_true] at this
  exact this.2

theorem Sub.trans {a b c : Nat} (h : Sub a b) (k : Sub b c) : Sub a c := by
  unfold Sub at *
  rw [← h, Nat.and_assoc, k]

theorem Frame.refl (m : Nat) (s : State) : Frame m s s :=
  ⟨rfl, id, List.suffix_refl _, Nat.le_refl _, fun p _ => by cases p <;> rfl⟩

theorem Part.same_trans (p : Part) {s t u : State} (h : p.same s t) (k : p.same t u) : p.same s u := by
  cases p <;> exact Eq.trans k h

theorem Frame.trans {m : Nat} {s t u : State} (h : Frame m s t) (k : Frame m t u) : Frame m s u :=
  ⟨k.queue.trans h.queue, fun w => k.mem (h.mem w), h.sent.trans k.sent, Nat.le_trans h.drawn k.drawn,
    fun p b => p.same_trans (h.same p b) (k.same p b)⟩

theorem Frame.weaken {a b : Nat} {s t : State} (hs : Sub a b) (h : Frame a s t) : Frame b s t :=
  ⟨h.queue, h.mem, h.sent, h.drawn, fun p hp => h.same p (by
    cases ha : a.testBit p.no
    · rfl
    · rw [hs.bit ha] at hp; exact absurd hp (by simp))⟩

/-- The state that a pair holds on its left. -/
theorem frame_fst {m : Nat} {α : Type} {s0 t : State} {x : State × α} {b : α} (h : Frame m s0 x.1) (e : x = (t, b)) : Frame m s0 t := by
  rw [e] at h; exact h

/-- The state that a pair holds on its right. -/
theorem frame_snd {m : Nat} {α : Type} {s0 t : State} {x : α × State} {b : α} (h : Frame m s0 x.2) (e : x = (b, t)) : Frame m s0 t := by
  rw [e] at h; exact h

theorem foldl_frame {m : Nat} {α : Type} {s0 : State} {f : State → α → State} {l : List α} {s : State} (h : Frame m s0 s)
    (hf : ∀ s x, Frame m s0 s → Frame m s0 (f s x)) : Frame m s0 (l.foldl f s) := by
  induction l generalizing s with
  | nil => exact h
  | cons x xs ih => exact ih (hf s x h)

theorem foldl_fst_frame {m : Nat} {α β : Type} {s0 : State} {f : State × β → α → State × β} {l : List α} {x : State × β}
    (h : Frame m s0 x.1) (hf : ∀ y a, Frame m s0 y.1 → Frame m s0 (f y a).1) : Frame m s0 (l.foldl f x).1 := by
  induction l generalizing x with
  | nil => exact h
  | cons a xs ih => exact ih (hf x a h)

theorem foldl_snd_frame {m : Nat} {α β : Type} {s0 : State} {f : β × State → α → β × State} {l : List α} {x : β × State}
    (h : Frame m s0 x.2) (hf : ∀ y a, Frame m s0 y.2 → Frame m s0 (f y a).2) : Frame m s0 (l.foldl f x).2 := by
  induction l generalizing x with
  | nil => exact h
  | cons a xs ih => exact ih (hf x a h)

theorem foldl_some_frame {m : Nat} {α : Type} {s0 t : State} {f : Option State → α → Option State} {l : List α} {a : Option State}
    (e : l.foldl f a = some t) (hn : ∀ x, f none x = none)
    (hs : ∀ s x u, f (some s) x = some u → Frame m s0 s → Frame m s0 u) (h : ∀ s, a = some s → Frame m s0 s) : Frame m s0 t := by
  induction l generalizing a with
  | nil => exact h t e
  | cons x xs ih =>
    refine ih e fun u hu => ?_
    cases a with
    | none => rw [hn] at hu; contradiction
    | some s => exact hs s x u hu (h s rfl)

/-! ### One part changed -/

theorem State.setMem_frame {m : Nat} {s0 s : State} {x : List Host.Cell} (hm : Sub 1 m) (hw : Memory.wf s.mem = true → Memory.wf x = true)
    (h : Frame m s0 s) : Frame m s0 (s.setMem x) :=
  h.trans ⟨rfl, hw, List.suffix_refl _, Nat.le_refl _, fun p hp => by
    cases p <;> first | rfl | exact absurd hp (by simp [Part.no, hm.bit (i := 0) rfl])⟩

theorem rgn_frame {m : Nat} {s0 s : State} {x} (hm : Sub 2 m) (h : Frame m s0 s) : Frame m s0 { s with rgn := x } :=
  h.trans ⟨rfl, id, List.suffix_refl _, Nat.le_refl _, fun p hp => by
    cases p <;> first | rfl | exact absurd hp (by simp [Part.no, hm.bit (i := 1) rfl])⟩

theorem State.onRgn_frame {m : Nat} {s0 s : State} {f} (hm : Sub 2 m) (h : Frame m s0 s) : Frame m s0 (s.onRgn f) := rgn_frame hm h

theorem dir_frame {m : Nat} {s0 s : State} {x} (hm : Sub 4 m) (h : Frame m s0 s) : Frame m s0 { s with dir := x } :=
  h.trans ⟨rfl, id, List.suffix_refl _, Nat.le_refl _, fun p hp => by
    cases p <;> first | rfl | exact absurd hp (by simp [Part.no, hm.bit (i := 2) rfl])⟩

theorem State.onDir_frame {m : Nat} {s0 s : State} {f} (hm : Sub 4 m) (h : Frame m s0 s) : Frame m s0 (s.onDir f) := dir_frame hm h

theorem xlt_frame {m : Nat} {s0 s : State} {x} (hm : Sub 8 m) (h : Frame m s0 s) : Frame m s0 { s with xlt := x } :=
  h.trans ⟨rfl, id, List.suffix_refl _, Nat.le_refl _, fun p hp => by
    cases p <;> first | rfl | exact absurd hp (by simp [Part.no, hm.bit (i := 3) rfl])⟩

theorem State.onXlt_frame {m : Nat} {s0 s : State} {f} (hm : Sub 8 m) (h : Frame m s0 s) : Frame m s0 (s.onXlt f) := xlt_frame hm h

theorem eng_frame {m : Nat} {s0 s : State} {x} (hm : Sub 16 m) (h : Frame m s0 s) : Frame m s0 { s with eng := x } :=
  h.trans ⟨rfl, id, List.suffix_refl _, Nat.le_refl _, fun p hp => by
    cases p <;> first | rfl | exact absurd hp (by simp [Part.no, hm.bit (i := 4) rfl])⟩

theorem State.onEng_frame {m : Nat} {s0 s : State} {f} (hm : Sub 16 m) (h : Frame m s0 s) : Frame m s0 (s.onEng f) := eng_frame hm h

theorem opu_frame {m : Nat} {s0 s : State} {x} (hm : Sub 32 m) (h : Frame m s0 s) : Frame m s0 { s with opu := x } :=
  h.trans ⟨rfl, id, List.suffix_refl _, Nat.le_refl _, fun p hp => by
    cases p <;> first | rfl | exact absurd hp (by simp [Part.no, hm.bit (i := 5) rfl])⟩

theorem State.onOpu_frame {m : Nat} {s0 s : State} {f} (hm : Sub 32 m) (h : Frame m s0 s) : Frame m s0 (s.onOpu f) := opu_frame hm h

theorem mcx_frame {m : Nat} {s0 s : State} {x} (hm : Sub 64 m) (h : Frame m s0 s) : Frame m s0 { s with mcx := x } :=
  h.trans ⟨rfl, id, List.suffix_refl _, Nat.le_refl _, fun p hp => by
    cases p <;> first | rfl | exact absurd hp (by simp [Part.no, hm.bit (i := 6) rfl])⟩

theorem State.onMcx_frame {m : Nat} {s0 s : State} {f} (hm : Sub 64 m) (h : Frame m s0 s) : Frame m s0 (s.onMcx f) := mcx_frame hm h

theorem sec_frame {m : Nat} {s0 s : State} {x} (hm : Sub 128 m) (h : Frame m s0 s) : Frame m s0 { s with sec := x } :=
  h.trans ⟨rfl, id, List.suffix_refl _, Nat.le_refl _, fun p hp => by
    cases p <;> first | rfl | exact absurd hp (by simp [Part.no, hm.bit (i := 7) rfl])⟩

theorem State.onSec_frame {m : Nat} {s0 s : State} {f} (hm : Sub 128 m) (h : Frame m s0 s) : Frame m s0 (s.onSec f) := sec_frame hm h

theorem cmd_frame {m : Nat} {s0 s : State} {x} (hm : Sub 256 m) (h : Frame m s0 s) : Frame m s0 { s with cmd := x } :=
  h.trans ⟨rfl, id, List.suffix_refl _, Nat.le_refl _, fun p hp => by
    cases p <;> first | rfl | exact absurd hp (by simp [Part.no, hm.bit (i := 8) rfl])⟩

theorem State.onCmd_frame {m : Nat} {s0 s : State} {f} (hm : Sub 256 m) (h : Frame m s0 s) : Frame m s0 (s.onCmd f) := cmd_frame hm h

theorem pci_frame {m : Nat} {s0 s : State} {x} (hm : Sub 512 m) (h : Frame m s0 s) : Frame m s0 { s with pci := x } :=
  h.trans ⟨rfl, id, List.suffix_refl _, Nat.le_refl _, fun p hp => by
    cases p <;> first | rfl | exact absurd hp (by simp [Part.no, hm.bit (i := 9) rfl])⟩

theorem State.onPci_frame {m : Nat} {s0 s : State} {f} (hm : Sub 512 m) (h : Frame m s0 s) : Frame m s0 (s.onPci f) := pci_frame hm h

theorem tlk_frame {m : Nat} {s0 s : State} {x} (hm : Sub 1024 m) (h : Frame m s0 s) : Frame m s0 { s with tlk := x } :=
  h.trans ⟨rfl, id, List.suffix_refl _, Nat.le_refl _, fun p hp => by
    cases p <;> first | rfl | exact absurd hp (by simp [Part.no, hm.bit (i := 10) rfl])⟩

theorem State.onTlk_frame {m : Nat} {s0 s : State} {f} (hm : Sub 1024 m) (h : Frame m s0 s) : Frame m s0 (s.onTlk f) := tlk_frame hm h

theorem trt_frame {m : Nat} {s0 s : State} {x} (hm : Sub 2048 m) (h : Frame m s0 s) : Frame m s0 { s with trt := x } :=
  h.trans ⟨rfl, id, List.suffix_refl _, Nat.le_refl _, fun p hp => by
    cases p <;> first | rfl | exact absurd hp (by simp [Part.no, hm.bit (i := 11) rfl])⟩

theorem State.onTrt_frame {m : Nat} {s0 s : State} {f} (hm : Sub 2048 m) (h : Frame m s0 s) : Frame m s0 (s.onTrt f) := trt_frame hm h

theorem mtr_frame {m : Nat} {s0 s : State} {x} (hm : Sub 4096 m) (h : Frame m s0 s) : Frame m s0 { s with mtr := x } :=
  h.trans ⟨rfl, id, List.suffix_refl _, Nat.le_refl _, fun p hp => by
    cases p <;> first | rfl | exact absurd hp (by simp [Part.no, hm.bit (i := 12) rfl])⟩

theorem State.onMtr_frame {m : Nat} {s0 s : State} {f} (hm : Sub 4096 m) (h : Frame m s0 s) : Frame m s0 (s.onMtr f) := mtr_frame hm h

theorem sch_frame {m : Nat} {s0 s : State} {x} (hm : Sub 8192 m) (h : Frame m s0 s) : Frame m s0 { s with sch := x } :=
  h.trans ⟨rfl, id, List.suffix_refl _, Nat.le_refl _, fun p hp => by
    cases p <;> first | rfl | exact absurd hp (by simp [Part.no, hm.bit (i := 13) rfl])⟩

theorem State.onSch_frame {m : Nat} {s0 s : State} {f} (hm : Sub 8192 m) (h : Frame m s0 s) : Frame m s0 (s.onSch f) := sch_frame hm h

theorem flt_frame {m : Nat} {s0 s : State} {x} (hm : Sub 16384 m) (h : Frame m s0 s) : Frame m s0 { s with flt := x } :=
  h.trans ⟨rfl, id, List.suffix_refl _, Nat.le_refl _, fun p hp => by
    cases p <;> first | rfl | exact absurd hp (by simp [Part.no, hm.bit (i := 14) rfl])⟩

theorem State.onFlt_frame {m : Nat} {s0 s : State} {f} (hm : Sub 16384 m) (h : Frame m s0 s) : Frame m s0 (s.onFlt f) := flt_frame hm h

theorem mir_frame {m : Nat} {s0 s : State} {x} (hm : Sub 32768 m) (h : Frame m s0 s) : Frame m s0 { s with mir := x } :=
  h.trans ⟨rfl, id, List.suffix_refl _, Nat.le_refl _, fun p hp => by
    cases p <;> first | rfl | exact absurd hp (by simp [Part.no, hm.bit (i := 15) rfl])⟩

theorem State.onMir_frame {m : Nat} {s0 s : State} {f} (hm : Sub 32768 m) (h : Frame m s0 s) : Frame m s0 (s.onMir f) := mir_frame hm h

theorem glb_frame {m : Nat} {s0 s : State} {x} (hm : Sub 65536 m) (h : Frame m s0 s) : Frame m s0 { s with glb := x } :=
  h.trans ⟨rfl, id, List.suffix_refl _, Nat.le_refl _, fun p hp => by
    cases p <;> first | rfl | exact absurd hp (by simp [Part.no, hm.bit (i := 16) rfl])⟩

theorem State.onGlb_frame {m : Nat} {s0 s : State} {f} (hm : Sub 65536 m) (h : Frame m s0 s) : Frame m s0 (s.onGlb f) := glb_frame hm h

theorem pwr_frame {m : Nat} {s0 s : State} {x} (hm : Sub 131072 m) (h : Frame m s0 s) : Frame m s0 { s with pwr := x } :=
  h.trans ⟨rfl, id, List.suffix_refl _, Nat.le_refl _, fun p hp => by
    cases p <;> first | rfl | exact absurd hp (by simp [Part.no, hm.bit (i := 17) rfl])⟩

theorem State.onPwr_frame {m : Nat} {s0 s : State} {f} (hm : Sub 131072 m) (h : Frame m s0 s) : Frame m s0 (s.onPwr f) := pwr_frame hm h

theorem pins_frame {m : Nat} {s0 s : State} {x} (hm : Sub 262144 m) (h : Frame m s0 s) : Frame m s0 { s with pins := x } :=
  h.trans ⟨rfl, id, List.suffix_refl _, Nat.le_refl _, fun p hp => by
    cases p <;> first | rfl | exact absurd hp (by simp [Part.no, hm.bit (i := 18) rfl])⟩

theorem State.onPins_frame {m : Nat} {s0 s : State} {f} (hm : Sub 262144 m) (h : Frame m s0 s) : Frame m s0 (s.onPins f) := pins_frame hm h

theorem flash_frame {m : Nat} {s0 s : State} {x} (hm : Sub 524288 m) (h : Frame m s0 s) : Frame m s0 { s with flash := x } :=
  h.trans ⟨rfl, id, List.suffix_refl _, Nat.le_refl _, fun p hp => by
    cases p <;> first | rfl | exact absurd hp (by simp [Part.no, hm.bit (i := 19) rfl])⟩

theorem State.onFlash_frame {m : Nat} {s0 s : State} {f} (hm : Sub 524288 m) (h : Frame m s0 s) : Frame m s0 (s.onFlash f) := flash_frame hm h

theorem latched_frame {m : Nat} {s0 s : State} {x} (hm : Sub 1048576 m) (h : Frame m s0 s) : Frame m s0 { s with latched := x } :=
  h.trans ⟨rfl, id, List.suffix_refl _, Nat.le_refl _, fun p hp => by
    cases p <;> first | rfl | exact absurd hp (by simp [Part.no, hm.bit (i := 20) rfl])⟩

theorem State.onLatched_frame {m : Nat} {s0 s : State} {f} (hm : Sub 1048576 m) (h : Frame m s0 s) : Frame m s0 (s.onLatched f) := latched_frame hm h

theorem stats_frame {m : Nat} {s0 s : State} {x} (hm : Sub 2097152 m) (h : Frame m s0 s) : Frame m s0 { s with stats := x } :=
  h.trans ⟨rfl, id, List.suffix_refl _, Nat.le_refl _, fun p hp => by
    cases p <;> first | rfl | exact absurd hp (by simp [Part.no, hm.bit (i := 21) rfl])⟩

theorem State.onStats_frame {m : Nat} {s0 s : State} {f} (hm : Sub 2097152 m) (h : Frame m s0 s) : Frame m s0 (s.onStats f) := stats_frame hm h

theorem State.emit_frame {m : Nat} {s0 s : State} {o : Out} (hm : Sub 4194304 m) (h : Frame m s0 s) : Frame m s0 (s.emit o) :=
  h.trans ⟨rfl, id, List.suffix_cons _ _, Nat.le_refl _, fun p hp => by
    cases p <;> first | rfl | exact absurd hp (by simp [Part.no, hm.bit (i := 22) rfl])⟩

theorem fresh_frame {m : Nat} {s0 s : State} {n : Nat} (hm : Sub 8388608 m) (hn : s.fresh ≤ n) (h : Frame m s0 s) :
    Frame m s0 { s with fresh := n } :=
  h.trans ⟨rfl, id, List.suffix_refl _, hn, fun p hp => by
    cases p <;> first | rfl | exact absurd hp (by simp [Part.no, hm.bit (i := 23) rfl])⟩

theorem State.draw_frame {m : Nat} {s0 s : State} (hm : Sub 8388608 m) (h : Frame m s0 s) : Frame m s0 s.draw.2 :=
  fresh_frame hm (Nat.le_succ _) h

theorem State.onTime_frame {m : Nat} {s0 s : State} {f} (hm : Sub 65536 m) (h : Frame m s0 s) : Frame m s0 (s.onTime f) := State.onGlb_frame hm h

end Sys2Proof.Machine
end

