-- ==== Sys2Proof/Laws/FrameBase.lean ====
section
/-! SUPPORT. The frame of every operation of Machine/Base.lean: which parts of the state it may change. -/

namespace Sys2Proof.Machine

variable {msk : Nat} {s0 : State}

theorem State.setFn_frame {s : State} {fn : Nat} {f : Func → Func} (hM : Sub 512 msk) (hF : Frame msk s0 s) : Frame msk s0 (State.setFn s fn f) := by
  have b512 : Sub 512 msk := Sub.trans (b := 512) rfl hM
  unfold State.setFn
  with_reducible repeat' (first | assumption | apply State.onPci_frame b512)

theorem State.setIntake_frame {s : State} {fn : Nat} {f : Intake → Intake} (hM : Sub 256 msk) (hF : Frame msk s0 s) : Frame msk s0 (State.setIntake s fn f) := by
  have b256 : Sub 256 msk := Sub.trans (b := 256) rfl hM
  unfold State.setIntake
  with_reducible repeat' (first | assumption | apply State.onCmd_frame b256)

theorem State.setAgent_frame {s : State} {agent : Nat} {f : AgentSt → AgentSt} (hM : Sub 4 msk) (hF : Frame msk s0 s) : Frame msk s0 (State.setAgent s agent f) := by
  have b4 : Sub 4 msk := Sub.trans (b := 4) rfl hM
  unfold State.setAgent
  with_reducible repeat' (first | assumption | apply State.onDir_frame b4)

theorem State.setRoute_frame {s : State} {agent : Nat} {f : Route → Route} (hM : Sub 2048 msk) (hF : Frame msk s0 s) : Frame msk s0 (State.setRoute s agent f) := by
  have b2048 : Sub 2048 msk := Sub.trans (b := 2048) rfl hM
  unfold State.setRoute
  with_reducible repeat' (first | assumption | apply State.onTrt_frame b2048)

theorem State.setPort_frame {s : State} {p : Nat} {f : Port → Port} (hM : Sub 1024 msk) (hF : Frame msk s0 s) : Frame msk s0 (State.setPort s p f) := by
  have b1024 : Sub 1024 msk := Sub.trans (b := 1024) rfl hM
  unfold State.setPort
  with_reducible repeat' (first | assumption | apply State.onTlk_frame b1024)

theorem State.setSch_frame {s : State} {p : Nat} {f : SchPort → SchPort} (hM : Sub 8192 msk) (hF : Frame msk s0 s) : Frame msk s0 (State.setSch s p f) := by
  have b8192 : Sub 8192 msk := Sub.trans (b := 8192) rfl hM
  unfold State.setSch
  with_reducible repeat' (first | assumption | apply State.onSch_frame b8192)

theorem State.setEntry_frame {s : State} {i : Nat} {f : DirEntry → DirEntry} (hM : Sub 4 msk) (hF : Frame msk s0 s) : Frame msk s0 (State.setEntry s i f) := by
  have b4 : Sub 4 msk := Sub.trans (b := 4) rfl hM
  unfold State.setEntry
  with_reducible repeat' (first | assumption | apply State.onDir_frame b4)

theorem State.setRegion_frame {s : State} {r : Nat} {f : Region → Region} (hM : Sub 2 msk) (hF : Frame msk s0 s) : Frame msk s0 (State.setRegion s r f) := by
  have b2 : Sub 2 msk := Sub.trans (b := 2) rfl hM
  unfold State.setRegion
  with_reducible repeat' (first | assumption | apply State.onRgn_frame b2)

theorem State.setUnit_frame {s : State} {n : Nat} {f : EngUnit → EngUnit} (hM : Sub 16 msk) (hF : Frame msk s0 s) : Frame msk s0 (State.setUnit s n f) := by
  have b16 : Sub 16 msk := Sub.trans (b := 16) rfl hM
  unfold State.setUnit
  with_reducible repeat' (first | assumption | apply State.onEng_frame b16)

theorem State.setJob_frame {s : State} {agent jobid : Nat} {f : Job → Job} (hM : Sub 16 msk) (hF : Frame msk s0 s) : Frame msk s0 (State.setJob s agent jobid f) := by
  have b16 : Sub 16 msk := Sub.trans (b := 16) rfl hM
  unfold State.setJob
  with_reducible repeat' (first | assumption | apply State.onEng_frame b16)

end Sys2Proof.Machine
end

