-- ==== Sys2Proof/Laws/FrameOps.lean ====
section
/-! SUPPORT. The frame of every operation of Machine/Ops.lean: which parts of the state it may change. -/

namespace Sys2Proof.Machine

variable {msk : Nat} {s0 : State}

theorem State.bumpRaw_frame {s : State} {blk off n : Nat} (hM : Sub 2113536 msk) (hF : Frame msk s0 s) : Frame msk s0 (State.bumpRaw s blk off n).1 := by
  have b16384 : Sub 16384 msk := Sub.trans (b := 2113536) rfl hM
  have b2097152 : Sub 2097152 msk := Sub.trans (b := 2113536) rfl hM
  unfold State.bumpRaw
  with_reducible repeat' (first | assumption | apply State.onStats_frame b2097152 | apply State.onFlt_frame b16384 | split | extract_lets)

theorem State.countTx_frame {s : State} {p v flits n : Nat} (hM : Sub 2113536 msk) (hF : Frame msk s0 s) : Frame msk s0 (State.countTx s p v flits n) := by
  have b2113536 : Sub 2113536 msk := Sub.trans (b := 2113536) rfl hM
  unfold State.countTx
  with_reducible repeat' (first | assumption | apply State.bumpRaw_frame b2113536 | extract_lets)

theorem State.countRx_frame {s : State} {p v flits n : Nat} (hM : Sub 2113536 msk) (hF : Frame msk s0 s) : Frame msk s0 (State.countRx s p v flits n) := by
  have b2113536 : Sub 2113536 msk := Sub.trans (b := 2113536) rfl hM
  unfold State.countRx
  with_reducible repeat' (first | assumption | apply State.bumpRaw_frame b2113536 | extract_lets)

theorem State.hostRx_frame {s : State} {fn v n : Nat} (hM : Sub 2113536 msk) (hF : Frame msk s0 s) : Frame msk s0 (State.hostRx s fn v n) := by
  have b2113536 : Sub 2113536 msk := Sub.trans (b := 2113536) rfl hM
  unfold State.hostRx
  with_reducible repeat' (first | assumption | apply State.countRx_frame b2113536 | dsimp -zeta only | dsimp -zeta +zetaDelta only)

theorem State.enqueue_frame {s : State} {p : Nat} {k : Pkt} (hM : Sub 10240 msk) (hF : Frame msk s0 s) : Frame msk s0 (State.enqueue s p k) := by
  have b2048 : Sub 2048 msk := Sub.trans (b := 10240) rfl hM
  have b8192 : Sub 8192 msk := Sub.trans (b := 10240) rfl hM
  unfold State.enqueue
  with_reducible repeat' (first | assumption | apply State.setSch_frame b8192 | apply State.onTrt_frame b2048 | extract_lets)

theorem State.hostTlp_frame {s : State} {cls v : Nat} {t : HostTlp} (hM : Sub 10240 msk) (hF : Frame msk s0 s) : Frame msk s0 (State.hostTlp s cls v t) := by
  have b10240 : Sub 10240 msk := Sub.trans (b := 10240) rfl hM
  unfold State.hostTlp
  with_reducible repeat' (first | assumption | apply State.enqueue_frame b10240 | extract_lets)

theorem State.hostWrite_frame {s : State} {fn cls addr : Nat} {data : List Byte} (hM : Sub 10240 msk) (hF : Frame msk s0 s) : Frame msk s0 (State.hostWrite s fn cls addr data) := by
  have b10240 : Sub 10240 msk := Sub.trans (b := 10240) rfl hM
  unfold State.hostWrite
  with_reducible repeat' (first | assumption | apply State.hostTlp_frame b10240)

theorem State.msix_frame {s : State} {fn cls vec : Nat} (hM : Sub 10752 msk) (hF : Frame msk s0 s) : Frame msk s0 (State.msix s fn cls vec) := by
  have b512 : Sub 512 msk := Sub.trans (b := 10752) rfl hM
  have b10240 : Sub 10240 msk := Sub.trans (b := 10752) rfl hM
  unfold State.msix
  with_reducible repeat' (first | assumption | apply State.setFn_frame b512 | apply State.hostTlp_frame b10240 | split | extract_lets)

theorem State.writeCpl_frame {s : State} {fn : Nat} {c : CplRec} (hM : Sub 10496 msk) (hF : Frame msk s0 s) : Frame msk s0 (State.writeCpl s fn c) := by
  have b256 : Sub 256 msk := Sub.trans (b := 10496) rfl hM
  have b10240 : Sub 10240 msk := Sub.trans (b := 10496) rfl hM
  unfold State.writeCpl
  with_reducible repeat' (first | assumption | apply State.hostWrite_frame b10240 | apply State.setIntake_frame b256 | split | extract_lets | refine frame_fst ?_ (by assumption) | refine frame_snd ?_ (by assumption))

theorem State.putCpl_frame {s : State} {fn : Nat} {c : CplRec} (hM : Sub 10496 msk) (hF : Frame msk s0 s) : Frame msk s0 (State.putCpl s fn c) := by
  have b256 : Sub 256 msk := Sub.trans (b := 10496) rfl hM
  have b10496 : Sub 10496 msk := Sub.trans (b := 10496) rfl hM
  unfold State.putCpl
  with_reducible repeat' (first | assumption | apply State.setIntake_frame b256 | apply State.writeCpl_frame b10496 | split)

theorem State.writeEvt_frame {s : State} {fn : Nat} {e : EvtRec} (hM : Sub 10496 msk) (hF : Frame msk s0 s) : Frame msk s0 (State.writeEvt s fn e) := by
  have b256 : Sub 256 msk := Sub.trans (b := 10496) rfl hM
  have b10240 : Sub 10240 msk := Sub.trans (b := 10496) rfl hM
  unfold State.writeEvt
  with_reducible repeat' (first | assumption | apply State.hostWrite_frame b10240 | apply State.setIntake_frame b256 | extract_lets)

theorem State.putEvt_frame {s : State} {fn : Nat} {e : EvtRec} (hM : Sub 2124032 msk) (hF : Frame msk s0 s) : Frame msk s0 (State.putEvt s fn e).1 := by
  have b256 : Sub 256 msk := Sub.trans (b := 2124032) rfl hM
  have b10496 : Sub 10496 msk := Sub.trans (b := 2124032) rfl hM
  have b2113536 : Sub 2113536 msk := Sub.trans (b := 2124032) rfl hM
  unfold State.putEvt
  with_reducible repeat' (first | assumption | apply State.writeEvt_frame b10496 | apply State.setIntake_frame b256 | apply State.bumpRaw_frame b2113536 | split | extract_lets)

theorem State.putEvts_frame {s : State} {fns : List Nat} {ev : Nat} {payload : List Byte} (hM : Sub 2124032 msk) (hF : Frame msk s0 s) : Frame msk s0 (State.putEvts s fns ev payload).1 := by
  have b2124032 : Sub 2124032 msk := Sub.trans (b := 2124032) rfl hM
  unfold State.putEvts
  with_reducible repeat' (first | assumption | apply State.putEvt_frame b2124032 | refine foldl_frame ?_ ?_ | refine foldl_fst_frame ?_ ?_ | refine foldl_snd_frame ?_ ?_ | intro _ _ _ | intro _ _ | split | extract_lets | refine frame_fst ?_ (by assumption) | refine frame_snd ?_ (by assumption))

theorem State.setFlt_frame {s : State} {blk j : Nat} {f : FltInst → FltInst} (hM : Sub 16384 msk) (hF : Frame msk s0 s) : Frame msk s0 (State.setFlt s blk j f) := by
  have b16384 : Sub 16384 msk := Sub.trans (b := 16384) rfl hM
  unfold State.setFlt
  with_reducible repeat' (first | assumption | apply State.onFlt_frame b16384)

theorem State.fatalPin_frame {s : State} (hM : Sub 16384 msk) (hF : Frame msk s0 s) : Frame msk s0 (State.fatalPin s) := by
  have b16384 : Sub 16384 msk := Sub.trans (b := 16384) rfl hM
  unfold State.fatalPin
  with_reducible repeat' (first | assumption | apply State.onFlt_frame b16384)

theorem State.raiseCore_frame {s : State} {blk j cause info : Nat} (hM : Sub 2124032 msk) (hF : Frame msk s0 s) : Frame msk s0 (State.raiseCore s blk j cause info).1 := by
  have b16384 : Sub 16384 msk := Sub.trans (b := 2124032) rfl hM
  have b2124032 : Sub 2124032 msk := Sub.trans (b := 2124032) rfl hM
  unfold State.raiseCore
  with_reducible repeat' (first | assumption | apply State.setFlt_frame b16384 | apply State.fatalPin_frame b16384 | apply State.putEvts_frame b2124032 | split | extract_lets | refine frame_fst ?_ (by assumption) | refine frame_snd ?_ (by assumption))

theorem State.afterEvt_frame {m : Nat} {s0 : State} {p : State × Option Nat} (hm : Sub 2124032 m) (h : Frame m s0 p.1) :
    Frame m s0 (State.afterEvt p) := by
  unfold State.afterEvt
  split
  · exact h
  · exact State.raiseCore_frame hm h

theorem State.raise_frame {s : State} {blk j cause info : Nat} (hM : Sub 2124032 msk) (hF : Frame msk s0 s) : Frame msk s0 (State.raise s blk j cause info) := by
  have b2124032 : Sub 2124032 msk := Sub.trans (b := 2124032) rfl hM
  unfold State.raise
  with_reducible repeat' (first | assumption | apply State.afterEvt_frame b2124032 | apply State.raiseCore_frame b2124032)

theorem State.event_frame {s : State} {fns : List Nat} {ev : Nat} {payload : List Byte} (hM : Sub 2124032 msk) (hF : Frame msk s0 s) : Frame msk s0 (State.event s fns ev payload) := by
  have b2124032 : Sub 2124032 msk := Sub.trans (b := 2124032) rfl hM
  unfold State.event
  with_reducible repeat' (first | assumption | apply State.afterEvt_frame b2124032 | apply State.putEvts_frame b2124032)

theorem State.bump_frame {s : State} {blk off n : Nat} (hM : Sub 2124032 msk) (hF : Frame msk s0 s) : Frame msk s0 (State.bump s blk off n) := by
  have b2113536 : Sub 2113536 msk := Sub.trans (b := 2124032) rfl hM
  have b2124032 : Sub 2124032 msk := Sub.trans (b := 2124032) rfl hM
  unfold State.bump
  with_reducible repeat' (first | assumption | apply State.bumpRaw_frame b2113536 | apply State.event_frame b2124032 | split | extract_lets | refine frame_fst ?_ (by assumption) | refine frame_snd ?_ (by assumption))

theorem State.raiseRail_frame {s : State} {blk j : Nat} (hM : Sub 2124032 msk) (hF : Frame msk s0 s) : Frame msk s0 (State.raiseRail s blk j) := by
  have b16384 : Sub 16384 msk := Sub.trans (b := 2124032) rfl hM
  have b2124032 : Sub 2124032 msk := Sub.trans (b := 2124032) rfl hM
  unfold State.raiseRail
  with_reducible repeat' (first | assumption | apply State.setFlt_frame b16384 | apply State.event_frame b2124032 | split | extract_lets)

theorem State.change_frame {s : State} (hM : Sub 32768 msk) (hF : Frame msk s0 s) : Frame msk s0 (State.change s) := by
  have b32768 : Sub 32768 msk := Sub.trans (b := 32768) rfl hM
  unfold State.change
  with_reducible repeat' (first | assumption | apply State.onMir_frame b32768 | split)

theorem State.answerHeld_frame {s : State} {fn : Nat} {c : CplRec} (hM : Sub 43264 msk) (hF : Frame msk s0 s) : Frame msk s0 (State.answerHeld s fn c) := by
  have b10496 : Sub 10496 msk := Sub.trans (b := 43264) rfl hM
  have b32768 : Sub 32768 msk := Sub.trans (b := 43264) rfl hM
  unfold State.answerHeld
  with_reducible repeat' (first | assumption | apply State.change_frame b32768 | apply State.onMir_frame b32768 | apply State.putCpl_frame b10496 | split)

theorem State.answer_frame {s : State} {i : Issuer} {st : Status} {detail res0 res1 : Nat} (hM : Sub 10496 msk) (hF : Frame msk s0 s) : Frame msk s0 (State.answer s i st detail res0 res1) := by
  have b10496 : Sub 10496 msk := Sub.trans (b := 10496) rfl hM
  unfold State.answer
  with_reducible repeat' (first | assumption | apply State.putCpl_frame b10496)

theorem State.answerR16_frame {s : State} {i : Issuer} {st : Status} {detail res0 res1 : Nat} (hM : Sub 43264 msk) (hF : Frame msk s0 s) : Frame msk s0 (State.answerR16 s i st detail res0 res1) := by
  have b43264 : Sub 43264 msk := Sub.trans (b := 43264) rfl hM
  unfold State.answerR16
  with_reducible repeat' (first | assumption | apply State.answerHeld_frame b43264)

end Sys2Proof.Machine
end

