-- ==== Sys2Proof/Laws/FrameEgress.lean ====
section
/-! SUPPORT. The frame of every operation of Machine/Egress.lean: which parts of the state it may change. -/

namespace Sys2Proof.Machine

variable {msk : Nat} {s0 : State}

theorem State.writeRing_frame {s : State} {fn : Nat} {r : Resp} (hM : Sub 10752 msk) (hF : Frame msk s0 s) : Frame msk s0 (State.writeRing s fn r) := by
  have b512 : Sub 512 msk := Sub.trans (b := 10752) rfl hM
  have b10240 : Sub 10240 msk := Sub.trans (b := 10752) rfl hM
  have b10752 : Sub 10752 msk := Sub.trans (b := 10752) rfl hM
  unfold State.writeRing
  with_reducible repeat' (first | assumption | apply State.hostWrite_frame b10240 | apply State.setFn_frame b512 | apply State.msix_frame b10752 | split | extract_lets)

theorem State.putRing_frame {s : State} {fn : Nat} {r : Resp} (hM : Sub 2124544 msk) (hF : Frame msk s0 s) : Frame msk s0 (State.putRing s fn r) := by
  have b512 : Sub 512 msk := Sub.trans (b := 2124544) rfl hM
  have b10752 : Sub 10752 msk := Sub.trans (b := 2124544) rfl hM
  have b2124032 : Sub 2124032 msk := Sub.trans (b := 2124544) rfl hM
  unfold State.putRing
  with_reducible repeat' (first | assumption | apply State.writeRing_frame b10752 | apply State.setFn_frame b512 | apply State.bump_frame b2124032 | split)

theorem State.sendPkt_frame {s : State} {p : Nat} {k : Pkt} (hM : Sub 10240 msk) (hF : Frame msk s0 s) : Frame msk s0 (State.sendPkt s p k) := by
  have b10240 : Sub 10240 msk := Sub.trans (b := 10240) rfl hM
  unfold State.sendPkt
  with_reducible repeat' (first | assumption | apply State.enqueue_frame b10240 | split)

theorem State.barPiece_frame {s : State} {id fn piece : Nat} {r : Resp} (hM : Sub 512 msk) (hF : Frame msk s0 s) : Frame msk s0 (State.barPiece s id fn piece r) := by
  have b512 : Sub 512 msk := Sub.trans (b := 512) rfl hM
  unfold State.barPiece
  with_reducible repeat' (first | assumption | apply State.onPci_frame b512 | split)

theorem State.winError_frame {s : State} {fn pva : Nat} {st : Status} (hM : Sub 2124544 msk) (hF : Frame msk s0 s) : Frame msk s0 (State.winError s fn pva st) := by
  have b512 : Sub 512 msk := Sub.trans (b := 2124544) rfl hM
  have b2124032 : Sub 2124032 msk := Sub.trans (b := 2124544) rfl hM
  unfold State.winError
  with_reducible repeat' (first | assumption | apply State.setFn_frame b512 | apply State.bump_frame b2124032 | extract_lets)

theorem State.barFinish_frame {s : State} (hM : Sub 2124544 msk) (hF : Frame msk s0 s) : Frame msk s0 (State.barFinish s) := by
  have b512 : Sub 512 msk := Sub.trans (b := 2124544) rfl hM
  have b10240 : Sub 10240 msk := Sub.trans (b := 2124544) rfl hM
  have b2124544 : Sub 2124544 msk := Sub.trans (b := 2124544) rfl hM
  unfold State.barFinish
  with_reducible repeat' (first | assumption | apply State.onPci_frame b512 | apply State.winError_frame b2124544 | apply State.hostTlp_frame b10240 | refine foldl_frame ?_ ?_ | refine foldl_fst_frame ?_ ?_ | refine foldl_snd_frame ?_ ?_ | intro _ _ _ | intro _ _ | split | extract_lets | refine frame_fst ?_ (by assumption) | refine frame_snd ?_ (by assumption))

theorem State.respondVia_frame {s : State} {agent : Nat} {via : Via} {stack : Option Nat} {r : Resp} (hM : Sub 2124544 msk) (hF : Frame msk s0 s) : Frame msk s0 (State.respondVia s agent via stack r) := by
  have b512 : Sub 512 msk := Sub.trans (b := 2124544) rfl hM
  have b10240 : Sub 10240 msk := Sub.trans (b := 2124544) rfl hM
  have b2124544 : Sub 2124544 msk := Sub.trans (b := 2124544) rfl hM
  unfold State.respondVia
  with_reducible repeat' (first | assumption | apply State.sendPkt_frame b10240 | apply State.putRing_frame b2124544 | apply State.barPiece_frame b512 | apply State.barFinish_frame b2124544 | apply State.winError_frame b2124544 | split | extract_lets | refine frame_fst ?_ (by assumption) | refine frame_snd ?_ (by assumption))

theorem State.respondNow_frame {s : State} {q : PReq} {stack : Option Nat} {r : Resp} (hM : Sub 2124544 msk) (hF : Frame msk s0 s) : Frame msk s0 (State.respondNow s q stack r) := by
  have b2124544 : Sub 2124544 msk := Sub.trans (b := 2124544) rfl hM
  unfold State.respondNow
  with_reducible repeat' (first | assumption | apply State.respondVia_frame b2124544 | refine foldl_frame ?_ ?_ | refine foldl_fst_frame ?_ ?_ | refine foldl_snd_frame ?_ ?_ | intro _ _ _ | intro _ _ | split | extract_lets | refine frame_fst ?_ (by assumption) | refine frame_snd ?_ (by assumption))

theorem State.respondHeld_frame {s : State} {q : PReq} {stack : Option Nat} {r : Resp} (hM : Sub 2157312 msk) (hF : Frame msk s0 s) : Frame msk s0 (State.respondHeld s q stack r) := by
  have b32768 : Sub 32768 msk := Sub.trans (b := 2157312) rfl hM
  have b2124544 : Sub 2124544 msk := Sub.trans (b := 2157312) rfl hM
  unfold State.respondHeld
  with_reducible repeat' (first | assumption | apply State.change_frame b32768 | apply State.onMir_frame b32768 | apply State.respondNow_frame b2124544 | split)

theorem State.release_frame {s : State} {t : Nat} (hM : Sub 2157312 msk) (hF : Frame msk s0 s) : Frame msk s0 (State.release s t) := by
  have b10240 : Sub 10240 msk := Sub.trans (b := 2157312) rfl hM
  have b10496 : Sub 10496 msk := Sub.trans (b := 2157312) rfl hM
  have b32768 : Sub 32768 msk := Sub.trans (b := 2157312) rfl hM
  have b2124544 : Sub 2124544 msk := Sub.trans (b := 2157312) rfl hM
  unfold State.release
  with_reducible repeat' (first | assumption | apply State.onMir_frame b32768 | apply State.putCpl_frame b10496 | apply State.respondNow_frame b2124544 | apply State.sendPkt_frame b10240 | refine foldl_frame ?_ ?_ | refine foldl_fst_frame ?_ ?_ | refine foldl_snd_frame ?_ ?_ | intro _ _ _ | intro _ _ | split | extract_lets | refine frame_fst ?_ (by assumption) | refine frame_snd ?_ (by assumption))

theorem State.sendHeld_frame {s : State} {p : Nat} {k : Pkt} (hM : Sub 43008 msk) (hF : Frame msk s0 s) : Frame msk s0 (State.sendHeld s p k) := by
  have b10240 : Sub 10240 msk := Sub.trans (b := 43008) rfl hM
  have b32768 : Sub 32768 msk := Sub.trans (b := 43008) rfl hM
  unfold State.sendHeld
  with_reducible repeat' (first | assumption | apply State.change_frame b32768 | apply State.onMir_frame b32768 | apply State.sendPkt_frame b10240 | split)

theorem State.selectMsgPort_frame {msk : Nat} {s0 s : State} {agent : Nat} (hM : Sub 2124032 msk) (hF : Frame msk s0 s) :
    Frame msk s0 (s.selectMsgPort agent) := by
  have b2048 : Sub 2048 msk := Sub.trans (b := 2124032) rfl hM
  have b10240 : Sub 10240 msk := Sub.trans (b := 2124032) rfl hM
  unfold State.selectMsgPort
  split
  · exact hF
  · extract_lets rt p w1 w2 s1 ks s2 n
    clear_value w2 p
    have h1 : Frame msk s0 s1 := State.setRoute_frame b2048 hF
    have h2 : Frame msk s0 s2 := State.setRoute_frame b2048 h1
    split
    · exact foldl_frame h2 fun _ _ h => State.sendPkt_frame b10240 h
    · split
      · exact h2
      · exact State.bump_frame hM h2
    · exact h1

theorem State.message_frame {s : State} {agent : Nat} {r : Resp} (hM : Sub 2124544 msk) (hF : Frame msk s0 s) : Frame msk s0 (State.message s agent r) := by
  have b2048 : Sub 2048 msk := Sub.trans (b := 2124544) rfl hM
  have b10240 : Sub 10240 msk := Sub.trans (b := 2124544) rfl hM
  have b2124032 : Sub 2124032 msk := Sub.trans (b := 2124544) rfl hM
  have b2124544 : Sub 2124544 msk := Sub.trans (b := 2124544) rfl hM
  unfold State.message
  with_reducible repeat' (first | assumption | apply State.putRing_frame b2124544 | apply State.bump_frame b2124032 | apply State.selectMsgPort_frame b2124032 | apply State.setRoute_frame b2048 | apply State.sendPkt_frame b10240 | split | extract_lets | refine frame_fst ?_ (by assumption) | refine frame_snd ?_ (by assumption))

end Sys2Proof.Machine
end

