-- ==== Sys2Proof/Laws/FrameXlt.lean ====
section
/-! SUPPORT. The frame of every operation of Machine/Xlt.lean: which parts of the state it may change. -/

namespace Sys2Proof.Machine

variable {msk : Nat} {s0 : State}

theorem State.setXhub_frame {s : State} {h : Nat} {f : XHub → XHub} (hM : Sub 8 msk) (hF : Frame msk s0 s) : Frame msk s0 (State.setXhub s h f) := by
  have b8 : Sub 8 msk := Sub.trans (b := 8) rfl hM
  unfold State.setXhub
  with_reducible repeat' (first | assumption | apply State.onXlt_frame b8)

theorem State.cacheFill_frame {s : State} {h : Nat} {c : CLine} (hM : Sub 2124040 msk) (hF : Frame msk s0 s) : Frame msk s0 (State.cacheFill s h c) := by
  have b8 : Sub 8 msk := Sub.trans (b := 2124040) rfl hM
  have b2124032 : Sub 2124032 msk := Sub.trans (b := 2124040) rfl hM
  unfold State.cacheFill
  with_reducible repeat' (first | assumption | apply State.setXhub_frame b8 | apply State.bump_frame b2124032 | split | extract_lets)

theorem State.ptrFill_frame {s : State} {h agent pva : Nat} (hM : Sub 8 msk) (hF : Frame msk s0 s) : Frame msk s0 (State.ptrFill s h agent pva) := by
  have b8 : Sub 8 msk := Sub.trans (b := 8) rfl hM
  unfold State.ptrFill
  with_reducible repeat' (first | assumption | apply State.setXhub_frame b8 | split | extract_lets)

theorem State.cacheUse_frame {s : State} {h agent pva : Nat} {pre : Bool} (hM : Sub 2124040 msk) (hF : Frame msk s0 s) : Frame msk s0 (State.cacheUse s h agent pva pre) := by
  have b8 : Sub 8 msk := Sub.trans (b := 2124040) rfl hM
  have b2124032 : Sub 2124032 msk := Sub.trans (b := 2124040) rfl hM
  have b2124040 : Sub 2124040 msk := Sub.trans (b := 2124040) rfl hM
  unfold State.cacheUse
  with_reducible repeat' (first | assumption | apply State.ptrFill_frame b8 | apply State.bump_frame b2124032 | apply State.cacheFill_frame b2124040 | split | extract_lets | refine frame_fst ?_ (by assumption) | refine frame_snd ?_ (by assumption))

theorem State.cacheDrop_frame {s : State} {agent lo len : Nat} (hM : Sub 8 msk) (hF : Frame msk s0 s) : Frame msk s0 (State.cacheDrop s agent lo len) := by
  have b8 : Sub 8 msk := Sub.trans (b := 8) rfl hM
  unfold State.cacheDrop
  with_reducible repeat' (first | assumption | apply State.setXhub_frame b8 | refine foldl_frame ?_ ?_ | refine foldl_fst_frame ?_ ?_ | refine foldl_snd_frame ?_ ?_ | intro _ _ _ | intro _ _ | split)

theorem State.prefetch_frame {s : State} {h agent : Nat} {pvas : List Nat} (hM : Sub 8 msk) (hF : Frame msk s0 s) : Frame msk s0 (State.prefetch s h agent pvas) := by
  have b8 : Sub 8 msk := Sub.trans (b := 8) rfl hM
  unfold State.prefetch
  with_reducible repeat' (first | assumption | apply State.setXhub_frame b8 | refine foldl_frame ?_ ?_ | refine foldl_fst_frame ?_ ?_ | refine foldl_snd_frame ?_ ?_ | intro _ _ _ | intro _ _ | split)

theorem State.prefetchFill_frame {s : State} {h agent pva : Nat} (hM : Sub 2124040 msk) (hF : Frame msk s0 s) : Frame msk s0 (State.prefetchFill s h agent pva) := by
  have b8 : Sub 8 msk := Sub.trans (b := 2124040) rfl hM
  have b2124040 : Sub 2124040 msk := Sub.trans (b := 2124040) rfl hM
  unfold State.prefetchFill
  with_reducible repeat' (first | assumption | apply State.setXhub_frame b8 | apply State.ptrFill_frame b8 | apply State.cacheFill_frame b2124040 | split | extract_lets | dsimp -zeta only | dsimp -zeta +zetaDelta only | refine frame_fst ?_ (by assumption) | refine frame_snd ?_ (by assumption))

theorem State.streamUse_frame {s : State} {h agent stream b : Nat} (hM : Sub 8 msk) (hF : Frame msk s0 s) : Frame msk s0 (State.streamUse s h agent stream b) := by
  have b8 : Sub 8 msk := Sub.trans (b := 8) rfl hM
  unfold State.streamUse
  with_reducible repeat' (first | assumption | apply State.setXhub_frame b8 | extract_lets)

theorem State.countHot_frame {s : State} {agent idx region base psize : Nat} {write : Bool} (hM : Sub 2124036 msk) (hF : Frame msk s0 s) : Frame msk s0 (State.countHot s agent idx region base psize write) := by
  have b4 : Sub 4 msk := Sub.trans (b := 2124036) rfl hM
  have b2124032 : Sub 2124032 msk := Sub.trans (b := 2124036) rfl hM
  unfold State.countHot
  with_reducible repeat' (first | assumption | apply State.setEntry_frame b4 | apply State.bump_frame b2124032 | apply State.setAgent_frame b4 | apply State.event_frame b2124032 | split | extract_lets | refine frame_fst ?_ (by assumption) | refine frame_snd ?_ (by assumption))

end Sys2Proof.Machine
end

