-- ==== Sys2Proof/Laws/FramePool.lean ====
section
/-! SUPPORT. The frame of every operation of Machine/Pool.lean: which parts of the state it may change. -/

namespace Sys2Proof.Machine

variable {msk : Nat} {s0 : State}

theorem State.setPoison_frame {s : State} {line : Nat} (hM : Sub 64 msk) (hF : Frame msk s0 s) : Frame msk s0 (State.setPoison s line) := by
  have b64 : Sub 64 msk := Sub.trans (b := 64) rfl hM
  unfold State.setPoison
  with_reducible repeat' (first | assumption | apply State.onMcx_frame b64 | split)

theorem State.clearPoison_frame {s : State} {pa n : Nat} (hM : Sub 64 msk) (hF : Frame msk s0 s) : Frame msk s0 (State.clearPoison s pa n) := by
  have b64 : Sub 64 msk := Sub.trans (b := 64) rfl hM
  unfold State.clearPoison
  with_reducible repeat' (first | assumption | apply State.onMcx_frame b64 | extract_lets)

theorem State.copyPoison_frame {s : State} {src dst n : Nat} (hM : Sub 64 msk) (hF : Frame msk s0 s) : Frame msk s0 (State.copyPoison s src dst n) := by
  have b64 : Sub 64 msk := Sub.trans (b := 64) rfl hM
  unfold State.copyPoison
  with_reducible repeat' (first | assumption | apply State.clearPoison_frame b64 | apply State.setPoison_frame b64 | refine foldl_frame ?_ ?_ | refine foldl_fst_frame ?_ ?_ | refine foldl_snd_frame ?_ ?_ | intro _ _ _ | intro _ _ | extract_lets)

theorem State.foundUe_frame {s : State} {pa : Nat} (hM : Sub 2124032 msk) (hF : Frame msk s0 s) : Frame msk s0 (State.foundUe s pa) := by
  have b2124032 : Sub 2124032 msk := Sub.trans (b := 2124032) rfl hM
  unfold State.foundUe
  with_reducible repeat' (first | assumption | apply State.bump_frame b2124032)

theorem State.foundCe_frame {s : State} {k : Nat} (hM : Sub 2124032 msk) (hF : Frame msk s0 s) : Frame msk s0 (State.foundCe s k) := by
  have b2124032 : Sub 2124032 msk := Sub.trans (b := 2124032) rfl hM
  unfold State.foundCe
  with_reducible repeat' (first | assumption | apply State.bump_frame b2124032 | apply State.raise_frame b2124032 | dsimp -zeta only | dsimp -zeta +zetaDelta only)

theorem State.checkLine_frame {s : State} {line : Nat} (hM : Sub 2124097 msk) (hF : Frame msk s0 s) : Frame msk s0 (State.checkLine s line) := by
  have b1 : Sub 1 msk := Sub.trans (b := 2124097) rfl hM
  have b64 : Sub 64 msk := Sub.trans (b := 2124097) rfl hM
  have b2124032 : Sub 2124032 msk := Sub.trans (b := 2124097) rfl hM
  unfold State.checkLine
  with_reducible repeat' (first | assumption | apply State.onMcx_frame b64 | apply State.foundCe_frame b2124032 | apply State.setMem_frame b1 | apply State.setPoison_frame b64 | exact fun w => Memory.write_wf w | exact fun w => Memory.writeMasked_wf w | exact fun w => Memory.copy_wf w | exact fun w => scatterCells_wf w | split | extract_lets | dsimp -zeta only | dsimp -zeta +zetaDelta only | refine frame_fst ?_ (by assumption) | refine frame_snd ?_ (by assumption))

theorem State.tryLine_frame {s : State} {pa : Nat} (hM : Sub 2124097 msk) (hF : Frame msk s0 s) : Frame msk s0 (State.tryLine s pa).1 := by
  have b2124032 : Sub 2124032 msk := Sub.trans (b := 2124097) rfl hM
  have b2124097 : Sub 2124097 msk := Sub.trans (b := 2124097) rfl hM
  unfold State.tryLine
  with_reducible repeat' (first | assumption | apply State.checkLine_frame b2124097 | apply State.foundUe_frame b2124032 | split | extract_lets | dsimp -zeta only | dsimp -zeta +zetaDelta only)

theorem State.readEntry_frame {s : State} {h agent : Nat} {pas : Nat × Nat} (hM : Sub 2124097 msk) (hF : Frame msk s0 s) : Frame msk s0 (State.readEntry s h agent pas) := by
  have b2124032 : Sub 2124032 msk := Sub.trans (b := 2124097) rfl hM
  have b2124097 : Sub 2124097 msk := Sub.trans (b := 2124097) rfl hM
  unfold State.readEntry
  with_reducible repeat' (first | assumption | apply State.tryLine_frame b2124097 | apply State.raise_frame b2124032 | split | extract_lets | dsimp -zeta only | dsimp -zeta +zetaDelta only | refine frame_fst ?_ (by assumption) | refine frame_snd ?_ (by assumption))

theorem State.readTables_frame {s : State} {h agent pva : Nat} (hM : Sub 2124097 msk) (hF : Frame msk s0 s) : Frame msk s0 (State.readTables s h agent pva) := by
  have b2124097 : Sub 2124097 msk := Sub.trans (b := 2124097) rfl hM
  unfold State.readTables
  with_reducible repeat' (first | assumption | apply State.readEntry_frame b2124097 | refine foldl_frame ?_ ?_ | refine foldl_fst_frame ?_ ?_ | refine foldl_snd_frame ?_ ?_ | intro _ _ _ | intro _ _ | split | extract_lets | dsimp -zeta only | dsimp -zeta +zetaDelta only)

theorem State.prefetchDone_frame {s : State} {h agent pva : Nat} (hM : Sub 2124105 msk) (hF : Frame msk s0 s) : Frame msk s0 (State.prefetchDone s h agent pva) := by
  have b2124040 : Sub 2124040 msk := Sub.trans (b := 2124105) rfl hM
  have b2124097 : Sub 2124097 msk := Sub.trans (b := 2124105) rfl hM
  unfold State.prefetchDone
  with_reducible repeat' (first | assumption | apply State.readTables_frame b2124097 | apply State.prefetchFill_frame b2124040 | split)

theorem State.checkRange_frame {s : State} {pa n : Nat} (hM : Sub 2124097 msk) (hF : Frame msk s0 s) : Frame msk s0 (State.checkRange s pa n) := by
  have b2124097 : Sub 2124097 msk := Sub.trans (b := 2124097) rfl hM
  unfold State.checkRange
  with_reducible repeat' (first | assumption | apply State.checkLine_frame b2124097 | refine foldl_frame ?_ ?_ | refine foldl_fst_frame ?_ ?_ | refine foldl_snd_frame ?_ ?_ | intro _ _ _ | intro _ _ | dsimp -zeta only | dsimp -zeta +zetaDelta only)

theorem State.checkCopies_frame {s : State} {cs : List Nat} (hM : Sub 2124097 msk) (hF : Frame msk s0 s) : Frame msk s0 (State.checkCopies s cs) := by
  have b2124097 : Sub 2124097 msk := Sub.trans (b := 2124097) rfl hM
  unfold State.checkCopies
  with_reducible repeat' (first | assumption | apply State.checkLine_frame b2124097 | refine foldl_frame ?_ ?_ | refine foldl_fst_frame ?_ ?_ | refine foldl_snd_frame ?_ ?_ | intro _ _ _ | intro _ _ | split | extract_lets | dsimp -zeta only | dsimp -zeta +zetaDelta only | refine frame_fst ?_ (by assumption) | refine frame_snd ?_ (by assumption))

theorem State.readLine_frame {s : State} {g : Region} {pa : Nat} (hM : Sub 2124097 msk) (hF : Frame msk s0 s) : Frame msk s0 (State.readLine s g pa).1 := by
  have b1 : Sub 1 msk := Sub.trans (b := 2124097) rfl hM
  have b64 : Sub 64 msk := Sub.trans (b := 2124097) rfl hM
  have b2124032 : Sub 2124032 msk := Sub.trans (b := 2124097) rfl hM
  have b2124097 : Sub 2124097 msk := Sub.trans (b := 2124097) rfl hM
  unfold State.readLine
  with_reducible repeat' (first | assumption | apply State.checkCopies_frame b2124097 | apply State.setMem_frame b1 | apply State.clearPoison_frame b64 | apply State.foundUe_frame b2124032 | apply State.bump_frame b2124032 | apply State.raise_frame b2124032 | exact fun w => Memory.write_wf w | exact fun w => Memory.writeMasked_wf w | exact fun w => Memory.copy_wf w | exact fun w => scatterCells_wf w | refine foldl_frame ?_ ?_ | refine foldl_fst_frame ?_ ?_ | refine foldl_snd_frame ?_ ?_ | intro _ _ _ | intro _ _ | split | extract_lets | dsimp -zeta only | dsimp -zeta +zetaDelta only | refine frame_fst ?_ (by assumption) | refine frame_snd ?_ (by assumption))

theorem State.writeLine_frame {s : State} {g : Region} {pa mask : Nat} {d : List Byte} (hM : Sub 65 msk) (hF : Frame msk s0 s) : Frame msk s0 (State.writeLine s g pa mask d) := by
  have b1 : Sub 1 msk := Sub.trans (b := 65) rfl hM
  have b64 : Sub 64 msk := Sub.trans (b := 65) rfl hM
  unfold State.writeLine
  with_reducible repeat' (first | assumption | apply State.setMem_frame b1 | apply State.clearPoison_frame b64 | exact fun w => Memory.write_wf w | exact fun w => Memory.writeMasked_wf w | exact fun w => Memory.copy_wf w | exact fun w => scatterCells_wf w | refine foldl_frame ?_ ?_ | refine foldl_fst_frame ?_ ?_ | refine foldl_snd_frame ?_ ?_ | intro _ _ _ | intro _ _ | split | extract_lets)

theorem State.pickStart_frame {s : State} {k u n : Nat} (hM : Sub 8388608 msk) (hF : Frame msk s0 s) : Frame msk s0 (State.pickStart s k u n).2 := by
  have b8388608 : Sub 8388608 msk := Sub.trans (b := 8388608) rfl hM
  unfold State.pickStart
  with_reducible repeat' (first | assumption | apply State.draw_frame b8388608 | split | extract_lets | refine frame_fst ?_ (by assumption) | refine frame_snd ?_ (by assumption))

theorem State.pickRuns_frame {s : State} {k u n : Nat} (hM : Sub 8388608 msk) (hF : Frame msk s0 s) : Frame msk s0 (State.pickRuns s k u n).2 := by
  have b8388608 : Sub 8388608 msk := Sub.trans (b := 8388608) rfl hM
  unfold State.pickRuns
  with_reducible repeat' (first | assumption | apply State.pickStart_frame b8388608 | split | extract_lets | dsimp -zeta only | dsimp -zeta +zetaDelta only | refine frame_fst ?_ (by assumption) | refine frame_snd ?_ (by assumption))

theorem State.allocStack_frame {s : State} {rid k : Nat} {second : Option Nat} {u first step n : Nat} {reserve : Bool} (hM : Sub 8388610 msk)
    (hF : Frame msk s0 s) : Frame msk s0 (State.allocStack s rid k second u first step n reserve).1 := by
  have b2 : Sub 2 msk := Sub.trans (b := 8388610) rfl hM
  have b8 : Sub 8388608 msk := Sub.trans (b := 8388610) rfl hM
  have hp : ∀ {t : State} {a b c : Nat}, Frame msk s0 t → Frame msk s0 (t.pickRuns a b c).2 := fun h => State.pickRuns_frame b8 h
  unfold State.allocStack
  split
  · exact hF
  cases second with
  | none => exact foldl_fst_frame (hp hF) fun _ _ h => State.setRegion_frame b2 h
  | some j => exact foldl_fst_frame (hp (hp hF)) fun _ _ h => State.setRegion_frame b2 (State.setRegion_frame b2 h)

theorem State.allocPages_frame {s : State} {rid p0 n : Nat} {reserve : Bool} (hM : Sub 8388610 msk) (hF : Frame msk s0 s) : Frame msk s0 (State.allocPages s rid p0 n reserve).1 := by
  have b8388610 : Sub 8388610 msk := Sub.trans (b := 8388610) rfl hM
  unfold State.allocPages
  with_reducible repeat' (first | assumption | apply State.allocStack_frame b8388610 | refine foldl_frame ?_ ?_ | refine foldl_fst_frame ?_ ?_ | refine foldl_snd_frame ?_ ?_ | intro _ _ _ | intro _ _ | split | extract_lets | refine frame_fst ?_ (by assumption) | refine frame_snd ?_ (by assumption))

theorem State.allocate_frame {msk : Nat} {s0 s : State} {rid data reserve : Nat} {t : State} (hM : Sub 8388610 msk)
    (e : s.allocate rid data reserve = .inl t) (hF : Frame msk s0 s) : Frame msk s0 t := by
  have b2 : Sub 2 msk := Sub.trans (b := 8388610) rfl hM
  unfold State.allocate at e
  extract_lets g u need beyond at e
  generalize h1 : s.allocPages rid _ _ false = x at e
  dsimp only at e
  generalize h2 : x.1.allocPages rid 0 _ true = y at e
  split at e
  · contradiction
  split at e
  · contradiction
  split at e
  · contradiction
  split at e
  · contradiction
  injection e with e
  exact e ▸ State.setRegion_frame b2 (h2 ▸ State.allocPages_frame hM (h1 ▸ State.allocPages_frame hM hF))

theorem State.takeCow_frame {msk : Nat} {s0 s : State} {rid d : Nat} {t : State} (hM : Sub 8388610 msk)
    (e : s.takeCow rid = .inl (d, t)) (hF : Frame msk s0 s) : Frame msk s0 t := by
  have b2 : Sub 2 msk := Sub.trans (b := 8388610) rfl hM
  have b8388608 : Sub 8388608 msk := Sub.trans (b := 8388610) rfl hM
  unfold State.takeCow at e
  extract_lets g at e
  split at e
  · injection e with e; injection e with _ e; exact e ▸ State.draw_frame b8388608 hF
  · rename_i u _ _
    clear_value u
    by_cases hq : s.quotaOf g.owner < s.tenantUse g.owner + if g.mirror then 2 * u else u
    · rw [if_pos hq] at e; contradiction
    rw [if_neg hq] at e
    generalize s.pickOvf _ _ = o at e
    cases o with
    | none => contradiction
    | some k => injection e with e; injection e with _ e; exact e ▸ State.onRgn_frame b2 hF

theorem State.giveBack_frame {s : State} {rid i : Nat} (hM : Sub 6 msk) (hF : Frame msk s0 s) : Frame msk s0 (State.giveBack s rid i) := by
  have b2 : Sub 2 msk := Sub.trans (b := 6) rfl hM
  have b4 : Sub 4 msk := Sub.trans (b := 6) rfl hM
  unfold State.giveBack
  with_reducible repeat' (first | assumption | apply State.setEntry_frame b4 | apply State.onRgn_frame b2 | refine foldl_frame ?_ ?_ | refine foldl_fst_frame ?_ ?_ | refine foldl_snd_frame ?_ ?_ | intro _ _ _ | intro _ _ | split | extract_lets)

end Sys2Proof.Machine
end

