-- ==== Sys2Proof/Laws/FrameMec.lean ====
section
/-! SUPPORT. The frame of every operation of Machine/Mec.lean: which parts of the state it may change. -/

namespace Sys2Proof.Machine

variable {msk : Nat} {s0 : State}

theorem State.drawKey_frame {s : State} (hM : Sub 8388608 msk) (hF : Frame msk s0 s) : Frame msk s0 (State.drawKey s).2 := by
  have b8388608 : Sub 8388608 msk := Sub.trans (b := 8388608) rfl hM
  unfold State.drawKey
  with_reducible repeat' (first | assumption | apply State.draw_frame b8388608 | split | extract_lets | dsimp -zeta only | dsimp -zeta +zetaDelta only | refine frame_fst ?_ (by assumption) | refine frame_snd ?_ (by assumption))

theorem State.retire_frame {s : State} {slot : Nat} {runs : List (Nat × Nat)} (hM : Sub 2124032 msk) (hF : Frame msk s0 s) : Frame msk s0 (State.retire s slot runs) := by
  have b2124032 : Sub 2124032 msk := Sub.trans (b := 2124032) rfl hM
  unfold State.retire
  with_reducible repeat' (first | assumption | apply State.bump_frame b2124032 | apply State.raise_frame b2124032 | refine foldl_frame ?_ ?_ | refine foldl_fst_frame ?_ ?_ | refine foldl_snd_frame ?_ ?_ | intro _ _ _ | intro _ _ | extract_lets | dsimp -zeta only | dsimp -zeta +zetaDelta only)

end Sys2Proof.Machine
end

