-- ==== Sys2Proof/Laws/FrameBank.lean ====
section
/-! SUPPORT. The frame of every operation of Machine/Bank.lean: which parts of the state it may change. -/

namespace Sys2Proof.Machine

variable {msk : Nat} {s0 : State}

theorem State.setStack_frame {s : State} {k : Nat} {f : Stack → Stack} (hM : Sub 64 msk) (hF : Frame msk s0 s) : Frame msk s0 (State.setStack s k f) := by
  have b64 : Sub 64 msk := Sub.trans (b := 64) rfl hM
  unfold State.setStack
  with_reducible repeat' (first | assumption | apply State.onMcx_frame b64)

theorem State.toBanks_frame {s : State} {rid pa : Nat} {write : Bool} (hM : Sub 64 msk) (hF : Frame msk s0 s) : Frame msk s0 (State.toBanks s rid pa write) := by
  have b64 : Sub 64 msk := Sub.trans (b := 64) rfl hM
  unfold State.toBanks
  with_reducible repeat' (first | assumption | apply State.setStack_frame b64 | refine foldl_frame ?_ ?_ | refine foldl_fst_frame ?_ ?_ | refine foldl_snd_frame ?_ ?_ | intro _ _ _ | intro _ _ | split | extract_lets | dsimp -zeta only | dsimp -zeta +zetaDelta only)

end Sys2Proof.Machine
end

