-- ==== Sys2Proof/Laws/FrameWork.lean ====
section
/-! SUPPORT. The frame of every operation of Machine/Work.lean: which parts of the state it may change. -/

namespace Sys2Proof.Machine

variable {msk : Nat} {s0 : State}

theorem State.addAct_frame {s : State} {a : Act} (hM : Sub 16 msk) (hF : Frame msk s0 s) : Frame msk s0 (State.addAct s a) := by
  have b16 : Sub 16 msk := Sub.trans (b := 16) rfl hM
  unfold State.addAct
  with_reducible repeat' (first | assumption | apply State.onEng_frame b16)

theorem State.setAct_frame {s : State} {w : Work} {f : Act → Act} (hM : Sub 16 msk) (hF : Frame msk s0 s) : Frame msk s0 (State.setAct s w f) := by
  have b16 : Sub 16 msk := Sub.trans (b := 16) rfl hM
  unfold State.setAct
  with_reducible repeat' (first | assumption | apply State.onEng_frame b16 | split)

theorem State.dropAct_frame {s : State} {w : Work} (hM : Sub 16 msk) (hF : Frame msk s0 s) : Frame msk s0 (State.dropAct s w) := by
  have b16 : Sub 16 msk := Sub.trans (b := 16) rfl hM
  unfold State.dropAct
  with_reducible repeat' (first | assumption | apply State.onEng_frame b16)

theorem State.wbAsk_frame {s : State} {i : Nat} {w : WriteBack} {n : Nat} (hM : Sub 11776 msk) (hF : Frame msk s0 s) : Frame msk s0 (State.wbAsk s i w n) := by
  have b512 : Sub 512 msk := Sub.trans (b := 11776) rfl hM
  have b1024 : Sub 1024 msk := Sub.trans (b := 11776) rfl hM
  have b10240 : Sub 10240 msk := Sub.trans (b := 11776) rfl hM
  unfold State.wbAsk
  with_reducible repeat' (first | assumption | apply State.onPci_frame b512 | apply State.hostTlp_frame b10240 | apply State.onTlk_frame b1024 | apply State.sendPkt_frame b10240 | split | extract_lets | refine frame_fst ?_ (by assumption) | refine frame_snd ?_ (by assumption))

theorem State.wbPump_frame {s : State} {i : Nat} {fuel9 : Nat} (hM : Sub 11780 msk) (hF : Frame msk s0 s) : Frame msk s0 (State.wbPump s i fuel9) := by
  have b4 : Sub 4 msk := Sub.trans (b := 11780) rfl hM
  have b11776 : Sub 11776 msk := Sub.trans (b := 11780) rfl hM
  induction fuel9 generalizing s i with
  | zero => unfold State.wbPump; with_reducible repeat' (first | assumption | apply State.wbAsk_frame b11776 | apply State.setEntry_frame b4 | refine foldl_frame ?_ ?_ | refine foldl_fst_frame ?_ ?_ | refine foldl_snd_frame ?_ ?_ | intro _ _ _ | intro _ _ | split | extract_lets | refine frame_fst ?_ (by assumption) | refine frame_snd ?_ (by assumption))
  | succ fuel9 ih =>
    unfold State.wbPump
    with_reducible repeat' (first | assumption | apply ih | apply State.wbAsk_frame b11776 | apply State.setEntry_frame b4 | refine foldl_frame ?_ ?_ | refine foldl_fst_frame ?_ ?_ | refine foldl_snd_frame ?_ ?_ | intro _ _ _ | intro _ _ | split | extract_lets | refine frame_fst ?_ (by assumption) | refine frame_snd ?_ (by assumption))

theorem State.wbCut_frame {s : State} {i : Nat} {fuel9 : Nat} (hM : Sub 20 msk) (hF : Frame msk s0 s) : Frame msk s0 (State.wbCut s i fuel9) := by
  have b4 : Sub 4 msk := Sub.trans (b := 20) rfl hM
  have b16 : Sub 16 msk := Sub.trans (b := 20) rfl hM
  induction fuel9 generalizing s i with
  | zero => unfold State.wbCut; with_reducible repeat' (first | assumption | apply State.setAct_frame b16 | apply State.setEntry_frame b4 | split | extract_lets | refine frame_fst ?_ (by assumption) | refine frame_snd ?_ (by assumption))
  | succ fuel9 ih =>
    unfold State.wbCut
    with_reducible repeat' (first | assumption | apply ih | apply State.setAct_frame b16 | apply State.setEntry_frame b4 | split | extract_lets | refine frame_fst ?_ (by assumption) | refine frame_snd ?_ (by assumption))

theorem State.wbStart_frame {s : State} {i : Nat} {q : PReq} {keep : Bool} (hM : Sub 11796 msk) (hF : Frame msk s0 s) : Frame msk s0 (State.wbStart s i q keep) := by
  have b4 : Sub 4 msk := Sub.trans (b := 11796) rfl hM
  have b16 : Sub 16 msk := Sub.trans (b := 11796) rfl hM
  have b11780 : Sub 11780 msk := Sub.trans (b := 11796) rfl hM
  unfold State.wbStart
  with_reducible repeat' (first | assumption | apply State.setEntry_frame b4 | apply State.addAct_frame b16 | apply State.wbPump_frame b11780 | extract_lets)

theorem State.dropReads_frame {s : State} {i : Nat} (hM : Sub 1536 msk) (hF : Frame msk s0 s) : Frame msk s0 (State.dropReads s i) := by
  have b512 : Sub 512 msk := Sub.trans (b := 1536) rfl hM
  have b1024 : Sub 1024 msk := Sub.trans (b := 1536) rfl hM
  unfold State.dropReads
  with_reducible repeat' (first | assumption | apply State.onPci_frame b512 | apply State.onTlk_frame b1024 | split | extract_lets | refine frame_fst ?_ (by assumption) | refine frame_snd ?_ (by assumption))

end Sys2Proof.Machine
end

