-- ==== Sys2Proof/Laws/FrameMeter.lean ====
section
/-! SUPPORT. The frame of every operation of Machine/Meter.lean: which parts of the state it may change. -/

namespace Sys2Proof.Machine

variable {msk : Nat} {s0 : State}

theorem State.setMeter_frame {s : State} {agent : Nat} {f : Meter → Meter} (hM : Sub 4096 msk) (hF : Frame msk s0 s) : Frame msk s0 (State.setMeter s agent f) := by
  have b4096 : Sub 4096 msk := Sub.trans (b := 4096) rfl hM
  unfold State.setMeter
  with_reducible repeat' (first | assumption | apply State.onMtr_frame b4096)

theorem State.spend_frame {s : State} {agent b : Nat} {c : Colour} (hM : Sub 2128128 msk) (hF : Frame msk s0 s) : Frame msk s0 (State.spend s agent b c) := by
  have b4096 : Sub 4096 msk := Sub.trans (b := 2128128) rfl hM
  have b2124032 : Sub 2124032 msk := Sub.trans (b := 2128128) rfl hM
  unfold State.spend
  with_reducible repeat' (first | assumption | apply State.setMeter_frame b4096 | apply State.bump_frame b2124032 | split | extract_lets | refine frame_fst ?_ (by assumption) | refine frame_snd ?_ (by assumption))

end Sys2Proof.Machine
end

