-- ==== Sys2Proof/Laws/FrameDir.lean ====
section
/-! SUPPORT. The frame of every operation of Machine/Dir.lean: which parts of the state it may change. -/

namespace Sys2Proof.Machine

variable {msk : Nat} {s0 : State}

theorem State.dirMsg_frame {s : State} {i agent msg gen left cause : Nat} (hM : Sub 2124544 msk) (hF : Frame msk s0 s) : Frame msk s0 (State.dirMsg s i agent msg gen left cause) := by
  have b2124544 : Sub 2124544 msk := Sub.trans (b := 2124544) rfl hM
  unfold State.dirMsg
  with_reducible repeat' (first | assumption | apply State.message_frame b2124544)

theorem State.grantEnded_frame {s : State} {i agent gen : Nat} {cause : Status} (hM : Sub 2124544 msk) (hF : Frame msk s0 s) : Frame msk s0 (State.grantEnded s i agent gen cause) := by
  have b2124544 : Sub 2124544 msk := Sub.trans (b := 2124544) rfl hM
  unfold State.grantEnded
  with_reducible repeat' (first | assumption | apply State.dirMsg_frame b2124544)

theorem State.requeue_frame {s : State} {n : Nat} {m : Meas} (hM : Sub 16 msk) (hF : Frame msk s0 s) : Frame msk s0 (State.requeue s n m) := by
  have b16 : Sub 16 msk := Sub.trans (b := 16) rfl hM
  unfold State.requeue
  with_reducible repeat' (first | assumption | apply State.setUnit_frame b16)

theorem State.putRec_frame {s : State} {q : PReq} {page : Option Nat} {r : Resp} (hM : Sub 4 msk) (hF : Frame msk s0 s) : Frame msk s0 (State.putRec s q page r) := by
  have b4 : Sub 4 msk := Sub.trans (b := 4) rfl hM
  unfold State.putRec
  with_reducible repeat' (first | assumption | apply State.setAgent_frame b4)

theorem State.finish_frame {s : State} {q : PReq} {page : Option Nat} {change : Bool} {stack : Option Nat} {r : Resp} (hM : Sub 2157332 msk) (hF : Frame msk s0 s) : Frame msk s0 (State.finish s q page change stack r) := by
  have b4 : Sub 4 msk := Sub.trans (b := 2157332) rfl hM
  have b16 : Sub 16 msk := Sub.trans (b := 2157332) rfl hM
  have b2124544 : Sub 2124544 msk := Sub.trans (b := 2157332) rfl hM
  have b2157312 : Sub 2157312 msk := Sub.trans (b := 2157332) rfl hM
  unfold State.finish
  with_reducible repeat' (first | assumption | apply State.requeue_frame b16 | apply State.putRec_frame b4 | apply State.respondHeld_frame b2157312 | apply State.respondNow_frame b2124544 | split | extract_lets | refine frame_fst ?_ (by assumption) | refine frame_snd ?_ (by assumption))

theorem State.refuse_frame {s : State} {q : PReq} {st : Status} {detail : Nat} (hM : Sub 2157332 msk) (hF : Frame msk s0 s) : Frame msk s0 (State.refuse s q st detail) := by
  have b2157332 : Sub 2157332 msk := Sub.trans (b := 2157332) rfl hM
  unfold State.refuse
  with_reducible repeat' (first | assumption | apply State.finish_frame b2157332)

theorem State.logDie_frame {s : State} {q : PReq} {i : Nat} {r : Resp} (hM : Sub 32768 msk) (hF : Frame msk s0 s) : Frame msk s0 (State.logDie s q i r) := by
  have b32768 : Sub 32768 msk := Sub.trans (b := 32768) rfl hM
  unfold State.logDie
  with_reducible repeat' (first | assumption | apply State.onMir_frame b32768)

theorem State.retireReq_frame {s : State} {i : Nat} {q : PReq} (hM : Sub 2157332 msk) (hF : Frame msk s0 s) : Frame msk s0 (State.retireReq s i q) := by
  have b2124032 : Sub 2124032 msk := Sub.trans (b := 2157332) rfl hM
  have b2157332 : Sub 2157332 msk := Sub.trans (b := 2157332) rfl hM
  unfold State.retireReq
  with_reducible repeat' (first | assumption | apply State.retire_frame b2124032 | apply State.refuse_frame b2157332 | split | extract_lets | dsimp -zeta only | dsimp -zeta +zetaDelta only)

theorem State.doLoad_frame {s : State} {i : Nat} {q : PReq} (hM : Sub 2157397 msk) (hF : Frame msk s0 s) : Frame msk s0 (State.doLoad s i q) := by
  have b64 : Sub 64 msk := Sub.trans (b := 2157397) rfl hM
  have b2124097 : Sub 2124097 msk := Sub.trans (b := 2157397) rfl hM
  have b2157332 : Sub 2157332 msk := Sub.trans (b := 2157397) rfl hM
  unfold State.doLoad
  with_reducible repeat' (first | assumption | apply State.toBanks_frame b64 | apply State.readLine_frame b2124097 | apply State.finish_frame b2157332 | apply State.refuse_frame b2157332 | split | extract_lets | refine frame_fst ?_ (by assumption) | refine frame_snd ?_ (by assumption))

theorem State.doStore_frame {s : State} {i : Nat} {q : PReq} (hM : Sub 2157397 msk) (hF : Frame msk s0 s) : Frame msk s0 (State.doStore s i q) := by
  have b64 : Sub 64 msk := Sub.trans (b := 2157397) rfl hM
  have b65 : Sub 65 msk := Sub.trans (b := 2157397) rfl hM
  have b32768 : Sub 32768 msk := Sub.trans (b := 2157397) rfl hM
  have b2124097 : Sub 2124097 msk := Sub.trans (b := 2157397) rfl hM
  have b2157332 : Sub 2157332 msk := Sub.trans (b := 2157397) rfl hM
  unfold State.doStore
  with_reducible repeat' (first | assumption | apply State.toBanks_frame b64 | apply State.readLine_frame b2124097 | apply State.refuse_frame b2157332 | apply State.writeLine_frame b65 | apply State.logDie_frame b32768 | apply State.finish_frame b2157332 | split | extract_lets | refine frame_fst ?_ (by assumption) | refine frame_snd ?_ (by assumption))

theorem State.doAtomic_frame {s : State} {i : Nat} {q : PReq} (hM : Sub 2157397 msk) (hF : Frame msk s0 s) : Frame msk s0 (State.doAtomic s i q) := by
  have b64 : Sub 64 msk := Sub.trans (b := 2157397) rfl hM
  have b65 : Sub 65 msk := Sub.trans (b := 2157397) rfl hM
  have b32768 : Sub 32768 msk := Sub.trans (b := 2157397) rfl hM
  have b2124097 : Sub 2124097 msk := Sub.trans (b := 2157397) rfl hM
  have b2157332 : Sub 2157332 msk := Sub.trans (b := 2157397) rfl hM
  unfold State.doAtomic
  with_reducible repeat' (first | assumption | apply State.toBanks_frame b64 | apply State.readLine_frame b2124097 | apply State.refuse_frame b2157332 | apply State.writeLine_frame b65 | apply State.logDie_frame b32768 | apply State.finish_frame b2157332 | split | extract_lets | refine frame_fst ?_ (by assumption) | refine frame_snd ?_ (by assumption))

theorem State.perform_frame {s : State} {i : Nat} {q : PReq} (hM : Sub 2157397 msk) (hF : Frame msk s0 s) : Frame msk s0 (State.perform s i q) := by
  have b16 : Sub 16 msk := Sub.trans (b := 2157397) rfl hM
  have b2157332 : Sub 2157332 msk := Sub.trans (b := 2157397) rfl hM
  have b2157397 : Sub 2157397 msk := Sub.trans (b := 2157397) rfl hM
  unfold State.perform
  with_reducible repeat' (first | assumption | apply State.requeue_frame b16 | apply State.retireReq_frame b2157332 | apply State.doLoad_frame b2157397 | apply State.doStore_frame b2157397 | apply State.doAtomic_frame b2157397 | split | refine frame_fst ?_ (by assumption) | refine frame_snd ?_ (by assumption))

theorem State.oweData_frame {s : State} {q : PReq} {i : Nat} {zeros : Bool} (hM : Sub 20 msk) (hF : Frame msk s0 s) : Frame msk s0 (State.oweData s q i zeros) := by
  have b4 : Sub 4 msk := Sub.trans (b := 20) rfl hM
  have b16 : Sub 16 msk := Sub.trans (b := 20) rfl hM
  unfold State.oweData
  with_reducible repeat' (first | assumption | apply State.onDir_frame b4 | apply State.addAct_frame b16 | split | extract_lets)

theorem State.grant_frame {s : State} {i : Nat} {q : PReq} (hM : Sub 2157332 msk) (hF : Frame msk s0 s) : Frame msk s0 (State.grant s i q) := by
  have b20 : Sub 20 msk := Sub.trans (b := 2157332) rfl hM
  have b2157332 : Sub 2157332 msk := Sub.trans (b := 2157332) rfl hM
  unfold State.grant
  with_reducible repeat' (first | assumption | apply State.finish_frame b2157332 | apply State.oweData_frame b20 | split | extract_lets)

theorem State.startRecall_frame {s : State} {i : Nat} (hM : Sub 2157316 msk) (hF : Frame msk s0 s) : Frame msk s0 (State.startRecall s i) := by
  have b4 : Sub 4 msk := Sub.trans (b := 2157316) rfl hM
  have b32768 : Sub 32768 msk := Sub.trans (b := 2157316) rfl hM
  have b2124032 : Sub 2124032 msk := Sub.trans (b := 2157316) rfl hM
  have b2124544 : Sub 2124544 msk := Sub.trans (b := 2157316) rfl hM
  unfold State.startRecall
  with_reducible repeat' (first | assumption | apply State.setEntry_frame b4 | apply State.change_frame b32768 | apply State.dirMsg_frame b2124544 | apply State.bump_frame b2124032 | extract_lets)

theorem State.startInval_frame {s : State} {i agent : Nat} {clearOwn : Bool} (hM : Sub 2157316 msk) (hF : Frame msk s0 s) : Frame msk s0 (State.startInval s i agent clearOwn) := by
  have b4 : Sub 4 msk := Sub.trans (b := 2157316) rfl hM
  have b32768 : Sub 32768 msk := Sub.trans (b := 2157316) rfl hM
  have b2124032 : Sub 2124032 msk := Sub.trans (b := 2157316) rfl hM
  have b2124544 : Sub 2124544 msk := Sub.trans (b := 2157316) rfl hM
  unfold State.startInval
  with_reducible repeat' (first | assumption | apply State.setEntry_frame b4 | apply State.change_frame b32768 | apply State.dirMsg_frame b2124544 | apply State.bump_frame b2124032 | refine foldl_frame ?_ ?_ | refine foldl_fst_frame ?_ ?_ | refine foldl_snd_frame ?_ ?_ | intro _ _ _ | intro _ _ | split | extract_lets)

theorem State.start_frame {s : State} {i : Nat} {q : PReq} {w : WStart} (hM : Sub 2157316 msk) (hF : Frame msk s0 s) : Frame msk s0 (State.start s i q w) := by
  have b2157316 : Sub 2157316 msk := Sub.trans (b := 2157316) rfl hM
  unfold State.start
  with_reducible repeat' (first | assumption | apply State.startRecall_frame b2157316 | apply State.startInval_frame b2157316 | split | refine frame_fst ?_ (by assumption) | refine frame_snd ?_ (by assumption))

theorem State.park_frame {s : State} {i : Nat} {q : PReq} (hM : Sub 32772 msk) (hF : Frame msk s0 s) : Frame msk s0 (State.park s i q) := by
  have b4 : Sub 4 msk := Sub.trans (b := 32772) rfl hM
  have b32768 : Sub 32768 msk := Sub.trans (b := 32772) rfl hM
  unfold State.park
  with_reducible repeat' (first | assumption | apply State.setEntry_frame b4 | apply State.change_frame b32768 | apply State.onDir_frame b4 | extract_lets)

theorem State.meet_frame {s : State} {i : Nat} {q : PReq} (hM : Sub 4 msk) (hF : Frame msk s0 s) : Frame msk s0 (State.meet s i q) := by
  have b4 : Sub 4 msk := Sub.trans (b := 4) rfl hM
  unfold State.meet
  with_reducible repeat' (first | assumption | apply State.setEntry_frame b4 | split | extract_lets | dsimp -zeta only | dsimp -zeta +zetaDelta only)

theorem State.waitFor_frame {s : State} {i : Nat} {q : PReq} {w : WStart} (hM : Sub 2157332 msk) (hF : Frame msk s0 s) : Frame msk s0 (State.waitFor s i q w) := by
  have b4 : Sub 4 msk := Sub.trans (b := 2157332) rfl hM
  have b32772 : Sub 32772 msk := Sub.trans (b := 2157332) rfl hM
  have b2124032 : Sub 2124032 msk := Sub.trans (b := 2157332) rfl hM
  have b2157316 : Sub 2157316 msk := Sub.trans (b := 2157332) rfl hM
  have b2157332 : Sub 2157332 msk := Sub.trans (b := 2157332) rfl hM
  unfold State.waitFor
  with_reducible repeat' (first | assumption | apply State.refuse_frame b2157332 | apply State.raise_frame b2124032 | apply State.park_frame b32772 | apply State.meet_frame b4 | apply State.start_frame b2157316 | split)

theorem State.startCow_frame {s : State} {rid p d : Nat} {fresh : Bool} {waiters : List PReq} (hM : Sub 32788 msk) (hF : Frame msk s0 s) : Frame msk s0 (State.startCow s rid p d fresh waiters) := by
  have b4 : Sub 4 msk := Sub.trans (b := 32788) rfl hM
  have b16 : Sub 16 msk := Sub.trans (b := 32788) rfl hM
  have b32768 : Sub 32768 msk := Sub.trans (b := 32788) rfl hM
  unfold State.startCow
  with_reducible repeat' (first | assumption | apply State.setEntry_frame b4 | apply State.change_frame b32768 | apply State.addAct_frame b16 | extract_lets)

theorem State.tornEvent_frame {s : State} {i agent : Nat} {cause : Status} (hM : Sub 2124032 msk) (hF : Frame msk s0 s) : Frame msk s0 (State.tornEvent s i agent cause) := by
  have b2124032 : Sub 2124032 msk := Sub.trans (b := 2124032) rfl hM
  unfold State.tornEvent
  with_reducible repeat' (first | assumption | apply State.event_frame b2124032 | extract_lets)

theorem State.stopWb_frame {s : State} {i : Nat} {cause : Status} {detail : Nat} (hM : Sub 2158356 msk) (hF : Frame msk s0 s) : Frame msk s0 (State.stopWb s i cause detail) := by
  have b4 : Sub 4 msk := Sub.trans (b := 2158356) rfl hM
  have b16 : Sub 16 msk := Sub.trans (b := 2158356) rfl hM
  have b1536 : Sub 1536 msk := Sub.trans (b := 2158356) rfl hM
  have b32768 : Sub 32768 msk := Sub.trans (b := 2158356) rfl hM
  have b2124032 : Sub 2124032 msk := Sub.trans (b := 2158356) rfl hM
  have b2157332 : Sub 2157332 msk := Sub.trans (b := 2158356) rfl hM
  unfold State.stopWb
  with_reducible repeat' (first | assumption | apply State.dropAct_frame b16 | apply State.dropReads_frame b1536 | apply State.setEntry_frame b4 | apply State.change_frame b32768 | apply State.bump_frame b2124032 | apply State.tornEvent_frame b2124032 | apply State.finish_frame b2157332 | split | extract_lets | refine frame_fst ?_ (by assumption) | refine frame_snd ?_ (by assumption))

theorem State.startNext_frame {s : State} {i : Nat} {next : Option WriteBack} (hM : Sub 11796 msk) (hF : Frame msk s0 s) : Frame msk s0 (State.startNext s i next) := by
  have b4 : Sub 4 msk := Sub.trans (b := 11796) rfl hM
  have b11796 : Sub 11796 msk := Sub.trans (b := 11796) rfl hM
  unfold State.startNext
  with_reducible repeat' (first | assumption | apply State.setEntry_frame b4 | apply State.wbStart_frame b11796 | split | refine frame_fst ?_ (by assumption) | refine frame_snd ?_ (by assumption))

theorem State.breakWb_frame {s : State} {i : Nat} {cause : Status} {detail : Nat} (hM : Sub 2158356 msk) (hF : Frame msk s0 s) : Frame msk s0 (State.breakWb s i cause detail) := by
  have b4 : Sub 4 msk := Sub.trans (b := 2158356) rfl hM
  have b11796 : Sub 11796 msk := Sub.trans (b := 2158356) rfl hM
  have b2158356 : Sub 2158356 msk := Sub.trans (b := 2158356) rfl hM
  unfold State.breakWb
  with_reducible repeat' (first | assumption | apply State.stopWb_frame b2158356 | apply State.startNext_frame b11796 | apply State.setEntry_frame b4 | split | extract_lets | dsimp -zeta only | dsimp -zeta +zetaDelta only | refine frame_fst ?_ (by assumption) | refine frame_snd ?_ (by assumption))

theorem State.act_frame {s : State} {i : Nat} {q : PReq} {front : Bool} {v : Verdict} (hM : Sub 10547031 msk) (hF : Frame msk s0 s) : Frame msk s0 (State.act s i q front v).1 := by
  have b4 : Sub 4 msk := Sub.trans (b := 10547031) rfl hM
  have b20 : Sub 20 msk := Sub.trans (b := 10547031) rfl hM
  have b11796 : Sub 11796 msk := Sub.trans (b := 10547031) rfl hM
  have b32768 : Sub 32768 msk := Sub.trans (b := 10547031) rfl hM
  have b32788 : Sub 32788 msk := Sub.trans (b := 10547031) rfl hM
  have b2124032 : Sub 2124032 msk := Sub.trans (b := 10547031) rfl hM
  have b2157316 : Sub 2157316 msk := Sub.trans (b := 10547031) rfl hM
  have b2157332 : Sub 2157332 msk := Sub.trans (b := 10547031) rfl hM
  have b2157397 : Sub 2157397 msk := Sub.trans (b := 10547031) rfl hM
  have b8388610 : Sub 8388610 msk := Sub.trans (b := 10547031) rfl hM
  unfold State.act
  with_reducible repeat' (first | assumption | apply State.bump_frame b2124032 | apply State.refuse_frame b2157332 | apply State.retireReq_frame b2157332 | apply State.finish_frame b2157332 | apply State.oweData_frame b20 | apply State.setEntry_frame b4 | apply State.change_frame b32768 | apply State.wbStart_frame b11796 | apply State.perform_frame b2157397 | apply State.grant_frame b2157332 | refine State.takeCow_frame b8388610 (by assumption) ?_ | apply State.startCow_frame b32788 | apply State.start_frame b2157316 | apply State.waitFor_frame b2157332 | split | extract_lets | refine frame_fst ?_ (by assumption) | refine frame_snd ?_ (by assumption))

theorem State.settle_frame {s : State} {i : Nat} (hM : Sub 32772 msk) (hF : Frame msk s0 s) : Frame msk s0 (State.settle s i) := by
  have b4 : Sub 4 msk := Sub.trans (b := 32772) rfl hM
  have b32768 : Sub 32768 msk := Sub.trans (b := 32772) rfl hM
  unfold State.settle
  with_reducible repeat' (first | assumption | apply State.setEntry_frame b4 | apply State.change_frame b32768 | split | extract_lets)

theorem State.serve_frame {s : State} {i : Nat} {fuel9 : Nat} (hM : Sub 10547031 msk) (hF : Frame msk s0 s) : Frame msk s0 (State.serve s i fuel9) := by
  have b4 : Sub 4 msk := Sub.trans (b := 10547031) rfl hM
  have b32772 : Sub 32772 msk := Sub.trans (b := 10547031) rfl hM
  have b10547031 : Sub 10547031 msk := Sub.trans (b := 10547031) rfl hM
  induction fuel9 generalizing s i with
  | zero => unfold State.serve; with_reducible repeat' (first | assumption | apply State.setEntry_frame b4 | apply State.act_frame b10547031 | apply State.settle_frame b32772 | split | extract_lets | refine frame_fst ?_ (by assumption) | refine frame_snd ?_ (by assumption))
  | succ fuel9 ih =>
    unfold State.serve
    with_reducible repeat' (first | assumption | apply ih | apply State.setEntry_frame b4 | apply State.act_frame b10547031 | apply State.settle_frame b32772 | split | extract_lets | refine frame_fst ?_ (by assumption) | refine frame_snd ?_ (by assumption))

theorem State.follow_frame {s : State} {i : Nat} (hM : Sub 10547031 msk) (hF : Frame msk s0 s) : Frame msk s0 (State.follow s i) := by
  have b4 : Sub 4 msk := Sub.trans (b := 10547031) rfl hM
  have b10547031 : Sub 10547031 msk := Sub.trans (b := 10547031) rfl hM
  unfold State.follow
  with_reducible repeat' (first | assumption | apply State.setEntry_frame b4 | apply State.serve_frame b10547031 | split | extract_lets | dsimp -zeta only | dsimp -zeta +zetaDelta only | refine frame_fst ?_ (by assumption) | refine frame_snd ?_ (by assumption))

theorem State.reopen_frame {s : State} {i : Nat} (hM : Sub 10547031 msk) (hF : Frame msk s0 s) : Frame msk s0 (State.reopen s i) := by
  have b32772 : Sub 32772 msk := Sub.trans (b := 10547031) rfl hM
  have b10547031 : Sub 10547031 msk := Sub.trans (b := 10547031) rfl hM
  unfold State.reopen
  with_reducible repeat' (first | assumption | apply State.settle_frame b32772 | apply State.serve_frame b10547031 | apply State.follow_frame b10547031 | extract_lets)

theorem State.decide_frame {s : State} {q : PReq} (hM : Sub 10547031 msk) (hF : Frame msk s0 s) : Frame msk s0 (State.decide s q) := by
  have b10547031 : Sub 10547031 msk := Sub.trans (b := 10547031) rfl hM
  unfold State.decide
  with_reducible repeat' (first | assumption | apply State.act_frame b10547031 | apply State.reopen_frame b10547031 | extract_lets)

theorem State.endGrant_frame {s : State} {i agent : Nat} {cause : Option Status} {torn : Status} (hM : Sub 10547031 msk) (hF : Frame msk s0 s) : Frame msk s0 (State.endGrant s i agent cause torn) := by
  have b4 : Sub 4 msk := Sub.trans (b := 10547031) rfl hM
  have b32768 : Sub 32768 msk := Sub.trans (b := 10547031) rfl hM
  have b2124544 : Sub 2124544 msk := Sub.trans (b := 10547031) rfl hM
  have b2157332 : Sub 2157332 msk := Sub.trans (b := 10547031) rfl hM
  have b2158356 : Sub 2158356 msk := Sub.trans (b := 10547031) rfl hM
  have b10547031 : Sub 10547031 msk := Sub.trans (b := 10547031) rfl hM
  unfold State.endGrant
  with_reducible repeat' (first | assumption | apply State.grantEnded_frame b2124544 | apply State.stopWb_frame b2158356 | apply State.refuse_frame b2157332 | apply State.setEntry_frame b4 | apply State.change_frame b32768 | apply State.reopen_frame b10547031 | split | extract_lets | dsimp -zeta only | dsimp -zeta +zetaDelta only | refine frame_fst ?_ (by assumption) | refine frame_snd ?_ (by assumption))

theorem State.sentNow_frame {s : State} {i : Nat} (hM : Sub 4 msk) (hF : Frame msk s0 s) : Frame msk s0 (State.sentNow s i) := by
  have b4 : Sub 4 msk := Sub.trans (b := 4) rfl hM
  unfold State.sentNow
  with_reducible repeat' (first | assumption | apply State.setEntry_frame b4 | split | extract_lets | dsimp -zeta only | dsimp -zeta +zetaDelta only)

theorem State.expireAt_frame {s : State} {t i : Nat} (hM : Sub 10547031 msk) (hF : Frame msk s0 s) : Frame msk s0 (State.expireAt s t i) := by
  have b4 : Sub 4 msk := Sub.trans (b := 10547031) rfl hM
  have b32768 : Sub 32768 msk := Sub.trans (b := 10547031) rfl hM
  have b2124032 : Sub 2124032 msk := Sub.trans (b := 10547031) rfl hM
  have b2124544 : Sub 2124544 msk := Sub.trans (b := 10547031) rfl hM
  have b2158356 : Sub 2158356 msk := Sub.trans (b := 10547031) rfl hM
  have b10547031 : Sub 10547031 msk := Sub.trans (b := 10547031) rfl hM
  unfold State.expireAt
  with_reducible repeat' (first | assumption | apply State.stopWb_frame b2158356 | apply State.setEntry_frame b4 | apply State.change_frame b32768 | apply State.grantEnded_frame b2124544 | apply State.bump_frame b2124032 | apply State.reopen_frame b10547031 | refine foldl_frame ?_ ?_ | refine foldl_fst_frame ?_ ?_ | refine foldl_snd_frame ?_ ?_ | intro _ _ _ | intro _ _ | split | extract_lets | dsimp -zeta only | dsimp -zeta +zetaDelta only | refine frame_fst ?_ (by assumption) | refine frame_snd ?_ (by assumption))

theorem State.expire_frame {s : State} {i : Nat} (hM : Sub 10547031 msk) (hF : Frame msk s0 s) : Frame msk s0 (State.expire s i) := by
  have b4 : Sub 4 msk := Sub.trans (b := 10547031) rfl hM
  have b10547031 : Sub 10547031 msk := Sub.trans (b := 10547031) rfl hM
  unfold State.expire
  with_reducible repeat' (first | assumption | apply State.expireAt_frame b10547031 | apply State.sentNow_frame b4 | apply State.onDir_frame b4 | split | extract_lets | dsimp -zeta only | dsimp -zeta +zetaDelta only | refine frame_fst ?_ (by assumption) | refine frame_snd ?_ (by assumption))

theorem State.wbDone_frame {s : State} {i : Nat} (hM : Sub 10547031 msk) (hF : Frame msk s0 s) : Frame msk s0 (State.wbDone s i) := by
  have b4 : Sub 4 msk := Sub.trans (b := 10547031) rfl hM
  have b16 : Sub 16 msk := Sub.trans (b := 10547031) rfl hM
  have b1536 : Sub 1536 msk := Sub.trans (b := 10547031) rfl hM
  have b11796 : Sub 11796 msk := Sub.trans (b := 10547031) rfl hM
  have b32768 : Sub 32768 msk := Sub.trans (b := 10547031) rfl hM
  have b2157332 : Sub 2157332 msk := Sub.trans (b := 10547031) rfl hM
  have b10547031 : Sub 10547031 msk := Sub.trans (b := 10547031) rfl hM
  unfold State.wbDone
  with_reducible repeat' (first | assumption | apply State.dropAct_frame b16 | apply State.dropReads_frame b1536 | apply State.setEntry_frame b4 | apply State.change_frame b32768 | apply State.finish_frame b2157332 | apply State.startNext_frame b11796 | apply State.reopen_frame b10547031 | split | extract_lets | dsimp -zeta only | dsimp -zeta +zetaDelta only | refine frame_fst ?_ (by assumption) | refine frame_snd ?_ (by assumption))

theorem State.cowDone_frame {s : State} {i : Nat} (hM : Sub 10547031 msk) (hF : Frame msk s0 s) : Frame msk s0 (State.cowDone s i) := by
  have b4 : Sub 4 msk := Sub.trans (b := 10547031) rfl hM
  have b16 : Sub 16 msk := Sub.trans (b := 10547031) rfl hM
  have b32768 : Sub 32768 msk := Sub.trans (b := 10547031) rfl hM
  have b32772 : Sub 32772 msk := Sub.trans (b := 10547031) rfl hM
  have b10547031 : Sub 10547031 msk := Sub.trans (b := 10547031) rfl hM
  unfold State.cowDone
  with_reducible repeat' (first | assumption | apply State.dropAct_frame b16 | apply State.setEntry_frame b4 | apply State.change_frame b32768 | apply State.act_frame b10547031 | apply State.settle_frame b32772 | apply State.reopen_frame b10547031 | refine foldl_frame ?_ ?_ | refine foldl_fst_frame ?_ ?_ | refine foldl_snd_frame ?_ ?_ | intro _ _ _ | intro _ _ | split | extract_lets | refine frame_fst ?_ (by assumption) | refine frame_snd ?_ (by assumption))

end Sys2Proof.Machine
end

