-- ==== Sys2Proof/Laws/FrameAdmit.lean ====
section
/-! SUPPORT. The frame of every operation of Machine/Admit.lean: which parts of the state it may change. -/

namespace Sys2Proof.Machine

variable {msk : Nat} {s0 : State}

theorem State.joinProgress_frame {s : State} {agent txid : Nat} {via : Via} (hM : Sub 4 msk) (hF : Frame msk s0 s) : Frame msk s0 (State.joinProgress s agent txid via) := by
  have b4 : Sub 4 msk := Sub.trans (b := 4) rfl hM
  unfold State.joinProgress
  with_reducible repeat' (first | assumption | apply State.onDir_frame b4)

theorem State.later_frame {s : State} {x : Due} (hM : Sub 4 msk) (hF : Frame msk s0 s) : Frame msk s0 (State.later s x) := by
  have b4 : Sub 4 msk := Sub.trans (b := 4) rfl hM
  unfold State.later
  with_reducible repeat' (first | assumption | apply State.onDir_frame b4 | dsimp -zeta only | dsimp -zeta +zetaDelta only)

theorem State.decideOrDefer_frame {s : State} {q : PReq} (hM : Sub 10547031 msk) (hF : Frame msk s0 s) : Frame msk s0 (State.decideOrDefer s q) := by
  have b4 : Sub 4 msk := Sub.trans (b := 10547031) rfl hM
  have b2124032 : Sub 2124032 msk := Sub.trans (b := 10547031) rfl hM
  have b10547031 : Sub 10547031 msk := Sub.trans (b := 10547031) rfl hM
  unfold State.decideOrDefer
  with_reducible repeat' (first | assumption | apply State.later_frame b4 | apply State.bump_frame b2124032 | apply State.decide_frame b10547031 | split)

theorem State.decideDue_frame {s : State} {q : PReq} (hM : Sub 10547031 msk) (hF : Frame msk s0 s) : Frame msk s0 (State.decideDue s q) := by
  have b2157332 : Sub 2157332 msk := Sub.trans (b := 10547031) rfl hM
  have b10547031 : Sub 10547031 msk := Sub.trans (b := 10547031) rfl hM
  unfold State.decideDue
  with_reducible repeat' (first | assumption | apply State.refuse_frame b2157332 | apply State.decide_frame b10547031 | split | extract_lets | dsimp -zeta only | dsimp -zeta +zetaDelta only | refine frame_fst ?_ (by assumption) | refine frame_snd ?_ (by assumption))

theorem State.dueReq_frame {s : State} {q : PReq} (hM : Sub 10547031 msk) (hF : Frame msk s0 s) : Frame msk s0 (State.dueReq s q) := by
  have b4 : Sub 4 msk := Sub.trans (b := 10547031) rfl hM
  have b2124032 : Sub 2124032 msk := Sub.trans (b := 10547031) rfl hM
  have b10547031 : Sub 10547031 msk := Sub.trans (b := 10547031) rfl hM
  unfold State.dueReq
  with_reducible repeat' (first | assumption | apply State.later_frame b4 | apply State.bump_frame b2124032 | apply State.decideDue_frame b10547031 | split | dsimp -zeta only | dsimp -zeta +zetaDelta only)

theorem State.translate_frame {s : State} {q : PReq} (hM : Sub 10547039 msk) (hF : Frame msk s0 s) : Frame msk s0 (State.translate s q) := by
  have b4 : Sub 4 msk := Sub.trans (b := 10547039) rfl hM
  have b2124032 : Sub 2124032 msk := Sub.trans (b := 10547039) rfl hM
  have b2124036 : Sub 2124036 msk := Sub.trans (b := 10547039) rfl hM
  have b2124040 : Sub 2124040 msk := Sub.trans (b := 10547039) rfl hM
  have b2124097 : Sub 2124097 msk := Sub.trans (b := 10547039) rfl hM
  have b2124544 : Sub 2124544 msk := Sub.trans (b := 10547039) rfl hM
  have b2157312 : Sub 2157312 msk := Sub.trans (b := 10547039) rfl hM
  have b2157332 : Sub 2157332 msk := Sub.trans (b := 10547039) rfl hM
  have b10547031 : Sub 10547031 msk := Sub.trans (b := 10547039) rfl hM
  unfold State.translate
  with_reducible repeat' (first | assumption | apply State.readTables_frame b2124097 | apply State.cacheUse_frame b2124040 | apply State.raise_frame b2124032 | apply State.bump_frame b2124032 | apply State.respondHeld_frame b2157312 | apply State.respondNow_frame b2124544 | apply State.joinProgress_frame b4 | apply State.finish_frame b2157332 | apply State.refuse_frame b2157332 | apply State.countHot_frame b2124036 | apply State.decideOrDefer_frame b10547031 | split | extract_lets | dsimp -zeta only | dsimp -zeta +zetaDelta only | refine frame_fst ?_ (by assumption) | refine frame_snd ?_ (by assumption))

theorem State.admitReq_frame {s : State} {agent : Nat} {via : Via} {code : ReqCode} {r : DirReq} (hM : Sub 10551135 msk) (hF : Frame msk s0 s) : Frame msk s0 (State.admitReq s agent via code r) := by
  have b2128128 : Sub 2128128 msk := Sub.trans (b := 10551135) rfl hM
  have b2157332 : Sub 2157332 msk := Sub.trans (b := 10551135) rfl hM
  have b10547039 : Sub 10547039 msk := Sub.trans (b := 10551135) rfl hM
  unfold State.admitReq
  with_reducible repeat' (first | assumption | apply State.spend_frame b2128128 | apply State.finish_frame b2157332 | apply State.translate_frame b10547039 | split | extract_lets)

theorem State.dropDue_frame {s : State} {p : PReq → Bool} (hM : Sub 4 msk) (hF : Frame msk s0 s) : Frame msk s0 (State.dropDue s p) := by
  have b4 : Sub 4 msk := Sub.trans (b := 4) rfl hM
  unfold State.dropDue
  with_reducible repeat' (first | assumption | apply State.onDir_frame b4 | dsimp -zeta only | dsimp -zeta +zetaDelta only)

theorem State.dropParked_frame {s : State} {p : PReq → Bool} (hM : Sub 4 msk) (hF : Frame msk s0 s) : Frame msk s0 (State.dropParked s p) := by
  have b4 : Sub 4 msk := Sub.trans (b := 4) rfl hM
  unfold State.dropParked
  with_reducible repeat' (first | assumption | apply State.onDir_frame b4)

theorem State.transferEnds_frame {s : State} {id : Nat} {now : Bool} (hM : Sub 2124548 msk) (hF : Frame msk s0 s) : Frame msk s0 (State.transferEnds s id now) := by
  have b4 : Sub 4 msk := Sub.trans (b := 2124548) rfl hM
  have b2124544 : Sub 2124544 msk := Sub.trans (b := 2124548) rfl hM
  unfold State.transferEnds
  with_reducible repeat' (first | assumption | apply State.onDir_frame b4 | apply State.putRing_frame b2124544 | split | extract_lets | dsimp -zeta only | dsimp -zeta +zetaDelta only | refine frame_fst ?_ (by assumption) | refine frame_snd ?_ (by assumption))

theorem State.stopData_frame {s : State} {p : PReq → Nat → Bool} {st : Option Status} {detail : Nat} {now : Bool} (hM : Sub 2124564 msk) (hF : Frame msk s0 s) : Frame msk s0 (State.stopData s p st detail now) := by
  have b4 : Sub 4 msk := Sub.trans (b := 2124564) rfl hM
  have b16 : Sub 16 msk := Sub.trans (b := 2124564) rfl hM
  have b2124548 : Sub 2124548 msk := Sub.trans (b := 2124564) rfl hM
  unfold State.stopData
  with_reducible repeat' (first | assumption | apply State.dropAct_frame b16 | apply State.onDir_frame b4 | apply State.transferEnds_frame b2124548 | refine foldl_frame ?_ ?_ | refine foldl_fst_frame ?_ ?_ | refine foldl_snd_frame ?_ ?_ | intro _ _ _ | intro _ _ | split | extract_lets | refine frame_fst ?_ (by assumption) | refine frame_snd ?_ (by assumption))

theorem State.dropResponses_frame {s : State} {agent : Nat} (hM : Sub 33280 msk) (hF : Frame msk s0 s) : Frame msk s0 (State.dropResponses s agent) := by
  have b512 : Sub 512 msk := Sub.trans (b := 33280) rfl hM
  have b32768 : Sub 32768 msk := Sub.trans (b := 33280) rfl hM
  unfold State.dropResponses
  with_reducible repeat' (first | assumption | apply State.onMir_frame b32768 | apply State.setFn_frame b512 | refine foldl_frame ?_ ?_ | refine foldl_fst_frame ?_ ?_ | refine foldl_snd_frame ?_ ?_ | intro _ _ _ | intro _ _ | split | extract_lets | dsimp -zeta only | dsimp -zeta +zetaDelta only | refine frame_fst ?_ (by assumption) | refine frame_snd ?_ (by assumption))

theorem State.agentDown_frame {s : State} {agent : Nat} {flr : Bool} {torn : Status} (hM : Sub 2158356 msk) (hF : Frame msk s0 s) : Frame msk s0 (State.agentDown s agent flr torn) := by
  have b4 : Sub 4 msk := Sub.trans (b := 2158356) rfl hM
  have b32768 : Sub 32768 msk := Sub.trans (b := 2158356) rfl hM
  have b33280 : Sub 33280 msk := Sub.trans (b := 2158356) rfl hM
  have b2124564 : Sub 2124564 msk := Sub.trans (b := 2158356) rfl hM
  have b2158356 : Sub 2158356 msk := Sub.trans (b := 2158356) rfl hM
  unfold State.agentDown
  with_reducible repeat' (first | assumption | apply State.setAgent_frame b4 | apply State.dropParked_frame b4 | apply State.dropResponses_frame b33280 | apply State.setEntry_frame b4 | apply State.breakWb_frame b2158356 | apply State.stopData_frame b2124564 | apply State.change_frame b32768 | refine foldl_frame ?_ ?_ | refine foldl_fst_frame ?_ ?_ | refine foldl_snd_frame ?_ ?_ | intro _ _ _ | intro _ _ | split | extract_lets)

theorem State.agentUp_frame {s : State} {agent : Nat} (hM : Sub 2157324 msk) (hF : Frame msk s0 s) : Frame msk s0 (State.agentUp s agent) := by
  have b4 : Sub 4 msk := Sub.trans (b := 2157324) rfl hM
  have b8 : Sub 8 msk := Sub.trans (b := 2157324) rfl hM
  have b32768 : Sub 32768 msk := Sub.trans (b := 2157324) rfl hM
  have b2124544 : Sub 2124544 msk := Sub.trans (b := 2157324) rfl hM
  unfold State.agentUp
  with_reducible repeat' (first | assumption | apply State.setAgent_frame b4 | apply State.change_frame b32768 | apply State.onXlt_frame b8 | apply State.message_frame b2124544 | split | extract_lets)

theorem State.agentLink_frame {s : State} {agent : Nat} (hM : Sub 2158364 msk) (hF : Frame msk s0 s) : Frame msk s0 (State.agentLink s agent) := by
  have b2157324 : Sub 2157324 msk := Sub.trans (b := 2158364) rfl hM
  have b2158356 : Sub 2158356 msk := Sub.trans (b := 2158364) rfl hM
  unfold State.agentLink
  with_reducible repeat' (first | assumption | apply State.agentUp_frame b2157324 | apply State.agentDown_frame b2158356 | split)

theorem State.agentLinks_frame {s : State} (hM : Sub 2158364 msk) (hF : Frame msk s0 s) : Frame msk s0 (State.agentLinks s) := by
  have b2158364 : Sub 2158364 msk := Sub.trans (b := 2158364) rfl hM
  unfold State.agentLinks
  with_reducible repeat' (first | assumption | apply State.agentLink_frame b2158364 | refine foldl_frame ?_ ?_ | refine foldl_fst_frame ?_ ?_ | refine foldl_snd_frame ?_ ?_ | intro _ _ _ | intro _ _)

end Sys2Proof.Machine
end

