-- ==== Sys2Proof/Laws/FrameCmd.lean ====
section
/-! SUPPORT. The frame of every operation of Machine/Cmd.lean: which parts of the state it may change. -/

namespace Sys2Proof.Machine

variable {msk : Nat} {s0 : State}

theorem State.refusePacket_frame {s : State} {fn : Nat} {p : Packet} {x : Status × Nat × Bool} (hM : Sub 2124032 msk) (hF : Frame msk s0 s) : Frame msk s0 (State.refusePacket s fn p x) := by
  have b256 : Sub 256 msk := Sub.trans (b := 2124032) rfl hM
  have b10496 : Sub 10496 msk := Sub.trans (b := 2124032) rfl hM
  have b2124032 : Sub 2124032 msk := Sub.trans (b := 2124032) rfl hM
  unfold State.refusePacket
  with_reducible repeat' (first | assumption | apply State.setIntake_frame b256 | apply State.bump_frame b2124032 | apply State.raise_frame b2124032 | apply State.answer_frame b10496 | split | extract_lets)

theorem State.beginPacket_frame {s : State} {fn : Nat} {p : Packet} {f : State → Issuer → State} (hM : Sub 2124032 msk) (hf : ∀ (x0 : State) (x1 : Issuer), Frame msk s0 x0 → Frame msk s0 (f x0 x1)) (hF : Frame msk s0 s) : Frame msk s0 (State.beginPacket s fn p f) := by
  have b10496 : Sub 10496 msk := Sub.trans (b := 2124032) rfl hM
  have b2124032 : Sub 2124032 msk := Sub.trans (b := 2124032) rfl hM
  unfold State.beginPacket
  with_reducible repeat' (first | assumption | apply hf | apply State.bump_frame b2124032 | apply State.refusePacket_frame b2124032 | apply State.answer_frame b10496 | intro _ _ _ | intro _ _ | split | extract_lets | refine frame_fst ?_ (by assumption) | refine frame_snd ?_ (by assumption))

theorem State.command_frame {s : State} {fn : Nat} {p : Packet} {op : Nat} {f : State → Issuer → State} (hM : Sub 2124032 msk) (hf : ∀ (x0 : State) (x1 : Issuer), Frame msk s0 x0 → Frame msk s0 (f x0 x1)) (hF : Frame msk s0 s) : Frame msk s0 (State.command s fn p op f) := by
  have b2124032 : Sub 2124032 msk := Sub.trans (b := 2124032) rfl hM
  unfold State.command
  with_reducible repeat' (first | assumption | apply hf | apply State.bump_frame b2124032 | apply State.refusePacket_frame b2124032 | apply State.beginPacket_frame b2124032 | intro _ _ _ | intro _ _ | split | refine frame_fst ?_ (by assumption) | refine frame_snd ?_ (by assumption))

theorem State.malformed_frame {s : State} {i : Issuer} {d : Nat} (hM : Sub 10496 msk) (hF : Frame msk s0 s) : Frame msk s0 (State.malformed s i d) := by
  have b10496 : Sub 10496 msk := Sub.trans (b := 10496) rfl hM
  unfold State.malformed
  with_reducible repeat' (first | assumption | apply State.answer_frame b10496)

theorem State.denied_frame {s : State} {i : Issuer} (hM : Sub 10496 msk) (hF : Frame msk s0 s) : Frame msk s0 (State.denied s i) := by
  have b10496 : Sub 10496 msk := Sub.trans (b := 10496) rfl hM
  unfold State.denied
  with_reducible repeat' (first | assumption | apply State.answer_frame b10496)

theorem State.busy_frame {s : State} {i : Issuer} {d : Nat} (hM : Sub 10496 msk) (hF : Frame msk s0 s) : Frame msk s0 (State.busy s i d) := by
  have b10496 : Sub 10496 msk := Sub.trans (b := 10496) rfl hM
  unfold State.busy
  with_reducible repeat' (first | assumption | apply State.answer_frame b10496)

theorem State.openCmd_frame {s : State} {i : Issuer} {op : Nat} {accepted : Bool} (hM : Sub 256 msk) (hF : Frame msk s0 s) : Frame msk s0 (State.openCmd s i op accepted).2 := by
  have b256 : Sub 256 msk := Sub.trans (b := 256) rfl hM
  unfold State.openCmd
  with_reducible repeat' (first | assumption | apply State.onCmd_frame b256 | extract_lets)

theorem State.closeCmd_frame {s : State} {n : Nat} (hM : Sub 256 msk) (hF : Frame msk s0 s) : Frame msk s0 (State.closeCmd s n) := by
  have b256 : Sub 256 msk := Sub.trans (b := 256) rfl hM
  unfold State.closeCmd
  with_reducible repeat' (first | assumption | apply State.onCmd_frame b256)

theorem State.acceptOpen_frame {s : State} {n : Nat} (hM : Sub 10496 msk) (hF : Frame msk s0 s) : Frame msk s0 (State.acceptOpen s n) := by
  have b256 : Sub 256 msk := Sub.trans (b := 10496) rfl hM
  have b10496 : Sub 10496 msk := Sub.trans (b := 10496) rfl hM
  unfold State.acceptOpen
  with_reducible repeat' (first | assumption | apply State.onCmd_frame b256 | apply State.answer_frame b10496 | split | refine frame_fst ?_ (by assumption) | refine frame_snd ?_ (by assumption))

end Sys2Proof.Machine
end

