-- ==== Sys2Proof/Laws/State.lean ====
section
/-! SUPPORT. One lemma per field per update of the state: what each modifier of one part leaves in each field. Each holds by definition and is a
simp lemma, so that no proof unfolds a record update. -/

namespace Sys2Proof.Machine

@[simp] theorem State.onRgn_pending (s : State) (f : Rgn → Rgn) : (s.onRgn f).pending = s.pending := rfl
@[simp] theorem State.onRgn_mem (s : State) (f : Rgn → Rgn) : (s.onRgn f).mem = s.mem := rfl
@[simp] theorem State.onRgn_rgn (s : State) (f : Rgn → Rgn) : (s.onRgn f).rgn = f s.rgn := rfl
@[simp] theorem State.onRgn_dir (s : State) (f : Rgn → Rgn) : (s.onRgn f).dir = s.dir := rfl
@[simp] theorem State.onRgn_xlt (s : State) (f : Rgn → Rgn) : (s.onRgn f).xlt = s.xlt := rfl
@[simp] theorem State.onRgn_eng (s : State) (f : Rgn → Rgn) : (s.onRgn f).eng = s.eng := rfl
@[simp] theorem State.onRgn_opu (s : State) (f : Rgn → Rgn) : (s.onRgn f).opu = s.opu := rfl
@[simp] theorem State.onRgn_mcx (s : State) (f : Rgn → Rgn) : (s.onRgn f).mcx = s.mcx := rfl
@[simp] theorem State.onRgn_sec (s : State) (f : Rgn → Rgn) : (s.onRgn f).sec = s.sec := rfl
@[simp] theorem State.onRgn_cmd (s : State) (f : Rgn → Rgn) : (s.onRgn f).cmd = s.cmd := rfl
@[simp] theorem State.onRgn_pci (s : State) (f : Rgn → Rgn) : (s.onRgn f).pci = s.pci := rfl
@[simp] theorem State.onRgn_tlk (s : State) (f : Rgn → Rgn) : (s.onRgn f).tlk = s.tlk := rfl
@[simp] theorem State.onRgn_trt (s : State) (f : Rgn → Rgn) : (s.onRgn f).trt = s.trt := rfl
@[simp] theorem State.onRgn_mtr (s : State) (f : Rgn → Rgn) : (s.onRgn f).mtr = s.mtr := rfl
@[simp] theorem State.onRgn_sch (s : State) (f : Rgn → Rgn) : (s.onRgn f).sch = s.sch := rfl
@[simp] theorem State.onRgn_flt (s : State) (f : Rgn → Rgn) : (s.onRgn f).flt = s.flt := rfl
@[simp] theorem State.onRgn_mir (s : State) (f : Rgn → Rgn) : (s.onRgn f).mir = s.mir := rfl
@[simp] theorem State.onRgn_glb (s : State) (f : Rgn → Rgn) : (s.onRgn f).glb = s.glb := rfl
@[simp] theorem State.onRgn_pwr (s : State) (f : Rgn → Rgn) : (s.onRgn f).pwr = s.pwr := rfl
@[simp] theorem State.onRgn_pins (s : State) (f : Rgn → Rgn) : (s.onRgn f).pins = s.pins := rfl
@[simp] theorem State.onRgn_flash (s : State) (f : Rgn → Rgn) : (s.onRgn f).flash = s.flash := rfl
@[simp] theorem State.onRgn_latched (s : State) (f : Rgn → Rgn) : (s.onRgn f).latched = s.latched := rfl
@[simp] theorem State.onRgn_stats (s : State) (f : Rgn → Rgn) : (s.onRgn f).stats = s.stats := rfl
@[simp] theorem State.onRgn_out (s : State) (f : Rgn → Rgn) : (s.onRgn f).out = s.out := rfl
@[simp] theorem State.onRgn_fresh (s : State) (f : Rgn → Rgn) : (s.onRgn f).fresh = s.fresh := rfl

@[simp] theorem State.onDir_pending (s : State) (f : Dir → Dir) : (s.onDir f).pending = s.pending := rfl
@[simp] theorem State.onDir_mem (s : State) (f : Dir → Dir) : (s.onDir f).mem = s.mem := rfl
@[simp] theorem State.onDir_rgn (s : State) (f : Dir → Dir) : (s.onDir f).rgn = s.rgn := rfl
@[simp] theorem State.onDir_dir (s : State) (f : Dir → Dir) : (s.onDir f).dir = f s.dir := rfl
@[simp] theorem State.onDir_xlt (s : State) (f : Dir → Dir) : (s.onDir f).xlt = s.xlt := rfl
@[simp] theorem State.onDir_eng (s : State) (f : Dir → Dir) : (s.onDir f).eng = s.eng := rfl
@[simp] theorem State.onDir_opu (s : State) (f : Dir → Dir) : (s.onDir f).opu = s.opu := rfl
@[simp] theorem State.onDir_mcx (s : State) (f : Dir → Dir) : (s.onDir f).mcx = s.mcx := rfl
@[simp] theorem State.onDir_sec (s : State) (f : Dir → Dir) : (s.onDir f).sec = s.sec := rfl
@[simp] theorem State.onDir_cmd (s : State) (f : Dir → Dir) : (s.onDir f).cmd = s.cmd := rfl
@[simp] theorem State.onDir_pci (s : State) (f : Dir → Dir) : (s.onDir f).pci = s.pci := rfl
@[simp] theorem State.onDir_tlk (s : State) (f : Dir → Dir) : (s.onDir f).tlk = s.tlk := rfl
@[simp] theorem State.onDir_trt (s : State) (f : Dir → Dir) : (s.onDir f).trt = s.trt := rfl
@[simp] theorem State.onDir_mtr (s : State) (f : Dir → Dir) : (s.onDir f).mtr = s.mtr := rfl
@[simp] theorem State.onDir_sch (s : State) (f : Dir → Dir) : (s.onDir f).sch = s.sch := rfl
@[simp] theorem State.onDir_flt (s : State) (f : Dir → Dir) : (s.onDir f).flt = s.flt := rfl
@[simp] theorem State.onDir_mir (s : State) (f : Dir → Dir) : (s.onDir f).mir = s.mir := rfl
@[simp] theorem State.onDir_glb (s : State) (f : Dir → Dir) : (s.onDir f).glb = s.glb := rfl
@[simp] theorem State.onDir_pwr (s : State) (f : Dir → Dir) : (s.onDir f).pwr = s.pwr := rfl
@[simp] theorem State.onDir_pins (s : State) (f : Dir → Dir) : (s.onDir f).pins = s.pins := rfl
@[simp] theorem State.onDir_flash (s : State) (f : Dir → Dir) : (s.onDir f).flash = s.flash := rfl
@[simp] theorem State.onDir_latched (s : State) (f : Dir → Dir) : (s.onDir f).latched = s.latched := rfl
@[simp] theorem State.onDir_stats (s : State) (f : Dir → Dir) : (s.onDir f).stats = s.stats := rfl
@[simp] theorem State.onDir_out (s : State) (f : Dir → Dir) : (s.onDir f).out = s.out := rfl
@[simp] theorem State.onDir_fresh (s : State) (f : Dir → Dir) : (s.onDir f).fresh = s.fresh := rfl

@[simp] theorem State.onXlt_pending (s : State) (f : Xlt → Xlt) : (s.onXlt f).pending = s.pending := rfl
@[simp] theorem State.onXlt_mem (s : State) (f : Xlt → Xlt) : (s.onXlt f).mem = s.mem := rfl
@[simp] theorem State.onXlt_rgn (s : State) (f : Xlt → Xlt) : (s.onXlt f).rgn = s.rgn := rfl
@[simp] theorem State.onXlt_dir (s : State) (f : Xlt → Xlt) : (s.onXlt f).dir = s.dir := rfl
@[simp] theorem State.onXlt_xlt (s : State) (f : Xlt → Xlt) : (s.onXlt f).xlt = f s.xlt := rfl
@[simp] theorem State.onXlt_eng (s : State) (f : Xlt → Xlt) : (s.onXlt f).eng = s.eng := rfl
@[simp] theorem State.onXlt_opu (s : State) (f : Xlt → Xlt) : (s.onXlt f).opu = s.opu := rfl
@[simp] theorem State.onXlt_mcx (s : State) (f : Xlt → Xlt) : (s.onXlt f).mcx = s.mcx := rfl
@[simp] theorem State.onXlt_sec (s : State) (f : Xlt → Xlt) : (s.onXlt f).sec = s.sec := rfl
@[simp] theorem State.onXlt_cmd (s : State) (f : Xlt → Xlt) : (s.onXlt f).cmd = s.cmd := rfl
@[simp] theorem State.onXlt_pci (s : State) (f : Xlt → Xlt) : (s.onXlt f).pci = s.pci := rfl
@[simp] theorem State.onXlt_tlk (s : State) (f : Xlt → Xlt) : (s.onXlt f).tlk = s.tlk := rfl
@[simp] theorem State.onXlt_trt (s : State) (f : Xlt → Xlt) : (s.onXlt f).trt = s.trt := rfl
@[simp] theorem State.onXlt_mtr (s : State) (f : Xlt → Xlt) : (s.onXlt f).mtr = s.mtr := rfl
@[simp] theorem State.onXlt_sch (s : State) (f : Xlt → Xlt) : (s.onXlt f).sch = s.sch := rfl
@[simp] theorem State.onXlt_flt (s : State) (f : Xlt → Xlt) : (s.onXlt f).flt = s.flt := rfl
@[simp] theorem State.onXlt_mir (s : State) (f : Xlt → Xlt) : (s.onXlt f).mir = s.mir := rfl
@[simp] theorem State.onXlt_glb (s : State) (f : Xlt → Xlt) : (s.onXlt f).glb = s.glb := rfl
@[simp] theorem State.onXlt_pwr (s : State) (f : Xlt → Xlt) : (s.onXlt f).pwr = s.pwr := rfl
@[simp] theorem State.onXlt_pins (s : State) (f : Xlt → Xlt) : (s.onXlt f).pins = s.pins := rfl
@[simp] theorem State.onXlt_flash (s : State) (f : Xlt → Xlt) : (s.onXlt f).flash = s.flash := rfl
@[simp] theorem State.onXlt_latched (s : State) (f : Xlt → Xlt) : (s.onXlt f).latched = s.latched := rfl
@[simp] theorem State.onXlt_stats (s : State) (f : Xlt → Xlt) : (s.onXlt f).stats = s.stats := rfl
@[simp] theorem State.onXlt_out (s : State) (f : Xlt → Xlt) : (s.onXlt f).out = s.out := rfl
@[simp] theorem State.onXlt_fresh (s : State) (f : Xlt → Xlt) : (s.onXlt f).fresh = s.fresh := rfl

@[simp] theorem State.onEng_pending (s : State) (f : Eng → Eng) : (s.onEng f).pending = s.pending := rfl
@[simp] theorem State.onEng_mem (s : State) (f : Eng → Eng) : (s.onEng f).mem = s.mem := rfl
@[simp] theorem State.onEng_rgn (s : State) (f : Eng → Eng) : (s.onEng f).rgn = s.rgn := rfl
@[simp] theorem State.onEng_dir (s : State) (f : Eng → Eng) : (s.onEng f).dir = s.dir := rfl
@[simp] theorem State.onEng_xlt (s : State) (f : Eng → Eng) : (s.onEng f).xlt = s.xlt := rfl
@[simp] theorem State.onEng_eng (s : State) (f : Eng → Eng) : (s.onEng f).eng = f s.eng := rfl
@[simp] theorem State.onEng_opu (s : State) (f : Eng → Eng) : (s.onEng f).opu = s.opu := rfl
@[simp] theorem State.onEng_mcx (s : State) (f : Eng → Eng) : (s.onEng f).mcx = s.mcx := rfl
@[simp] theorem State.onEng_sec (s : State) (f : Eng → Eng) : (s.onEng f).sec = s.sec := rfl
@[simp] theorem State.onEng_cmd (s : State) (f : Eng → Eng) : (s.onEng f).cmd = s.cmd := rfl
@[simp] theorem State.onEng_pci (s : State) (f : Eng → Eng) : (s.onEng f).pci = s.pci := rfl
@[simp] theorem State.onEng_tlk (s : State) (f : Eng → Eng) : (s.onEng f).tlk = s.tlk := rfl
@[simp] theorem State.onEng_trt (s : State) (f : Eng → Eng) : (s.onEng f).trt = s.trt := rfl
@[simp] theorem State.onEng_mtr (s : State) (f : Eng → Eng) : (s.onEng f).mtr = s.mtr := rfl
@[simp] theorem State.onEng_sch (s : State) (f : Eng → Eng) : (s.onEng f).sch = s.sch := rfl
@[simp] theorem State.onEng_flt (s : State) (f : Eng → Eng) : (s.onEng f).flt = s.flt := rfl
@[simp] theorem State.onEng_mir (s : State) (f : Eng → Eng) : (s.onEng f).mir = s.mir := rfl
@[simp] theorem State.onEng_glb (s : State) (f : Eng → Eng) : (s.onEng f).glb = s.glb := rfl
@[simp] theorem State.onEng_pwr (s : State) (f : Eng → Eng) : (s.onEng f).pwr = s.pwr := rfl
@[simp] theorem State.onEng_pins (s : State) (f : Eng → Eng) : (s.onEng f).pins = s.pins := rfl
@[simp] theorem State.onEng_flash (s : State) (f : Eng → Eng) : (s.onEng f).flash = s.flash := rfl
@[simp] theorem State.onEng_latched (s : State) (f : Eng → Eng) : (s.onEng f).latched = s.latched := rfl
@[simp] theorem State.onEng_stats (s : State) (f : Eng → Eng) : (s.onEng f).stats = s.stats := rfl
@[simp] theorem State.onEng_out (s : State) (f : Eng → Eng) : (s.onEng f).out = s.out := rfl
@[simp] theorem State.onEng_fresh (s : State) (f : Eng → Eng) : (s.onEng f).fresh = s.fresh := rfl

@[simp] theorem State.onOpu_pending (s : State) (f : Opu → Opu) : (s.onOpu f).pending = s.pending := rfl
@[simp] theorem State.onOpu_mem (s : State) (f : Opu → Opu) : (s.onOpu f).mem = s.mem := rfl
@[simp] theorem State.onOpu_rgn (s : State) (f : Opu → Opu) : (s.onOpu f).rgn = s.rgn := rfl
@[simp] theorem State.onOpu_dir (s : State) (f : Opu → Opu) : (s.onOpu f).dir = s.dir := rfl
@[simp] theorem State.onOpu_xlt (s : State) (f : Opu → Opu) : (s.onOpu f).xlt = s.xlt := rfl
@[simp] theorem State.onOpu_eng (s : State) (f : Opu → Opu) : (s.onOpu f).eng = s.eng := rfl
@[simp] theorem State.onOpu_opu (s : State) (f : Opu → Opu) : (s.onOpu f).opu = f s.opu := rfl
@[simp] theorem State.onOpu_mcx (s : State) (f : Opu → Opu) : (s.onOpu f).mcx = s.mcx := rfl
@[simp] theorem State.onOpu_sec (s : State) (f : Opu → Opu) : (s.onOpu f).sec = s.sec := rfl
@[simp] theorem State.onOpu_cmd (s : State) (f : Opu → Opu) : (s.onOpu f).cmd = s.cmd := rfl
@[simp] theorem State.onOpu_pci (s : State) (f : Opu → Opu) : (s.onOpu f).pci = s.pci := rfl
@[simp] theorem State.onOpu_tlk (s : State) (f : Opu → Opu) : (s.onOpu f).tlk = s.tlk := rfl
@[simp] theorem State.onOpu_trt (s : State) (f : Opu → Opu) : (s.onOpu f).trt = s.trt := rfl
@[simp] theorem State.onOpu_mtr (s : State) (f : Opu → Opu) : (s.onOpu f).mtr = s.mtr := rfl
@[simp] theorem State.onOpu_sch (s : State) (f : Opu → Opu) : (s.onOpu f).sch = s.sch := rfl
@[simp] theorem State.onOpu_flt (s : State) (f : Opu → Opu) : (s.onOpu f).flt = s.flt := rfl
@[simp] theorem State.onOpu_mir (s : State) (f : Opu → Opu) : (s.onOpu f).mir = s.mir := rfl
@[simp] theorem State.onOpu_glb (s : State) (f : Opu → Opu) : (s.onOpu f).glb = s.glb := rfl
@[simp] theorem State.onOpu_pwr (s : State) (f : Opu → Opu) : (s.onOpu f).pwr = s.pwr := rfl
@[simp] theorem State.onOpu_pins (s : State) (f : Opu → Opu) : (s.onOpu f).pins = s.pins := rfl
@[simp] theorem State.onOpu_flash (s : State) (f : Opu → Opu) : (s.onOpu f).flash = s.flash := rfl
@[simp] theorem State.onOpu_latched (s : State) (f : Opu → Opu) : (s.onOpu f).latched = s.latched := rfl
@[simp] theorem State.onOpu_stats (s : State) (f : Opu → Opu) : (s.onOpu f).stats = s.stats := rfl
@[simp] theorem State.onOpu_out (s : State) (f : Opu → Opu) : (s.onOpu f).out = s.out := rfl
@[simp] theorem State.onOpu_fresh (s : State) (f : Opu → Opu) : (s.onOpu f).fresh = s.fresh := rfl

@[simp] theorem State.onMcx_pending (s : State) (f : Mcx → Mcx) : (s.onMcx f).pending = s.pending := rfl
@[simp] theorem State.onMcx_mem (s : State) (f : Mcx → Mcx) : (s.onMcx f).mem = s.mem := rfl
@[simp] theorem State.onMcx_rgn (s : State) (f : Mcx → Mcx) : (s.onMcx f).rgn = s.rgn := rfl
@[simp] theorem State.onMcx_dir (s : State) (f : Mcx → Mcx) : (s.onMcx f).dir = s.dir := rfl
@[simp] theorem State.onMcx_xlt (s : State) (f : Mcx → Mcx) : (s.onMcx f).xlt = s.xlt := rfl
@[simp] theorem State.onMcx_eng (s : State) (f : Mcx → Mcx) : (s.onMcx f).eng = s.eng := rfl
@[simp] theorem State.onMcx_opu (s : State) (f : Mcx → Mcx) : (s.onMcx f).opu = s.opu := rfl
@[simp] theorem State.onMcx_mcx (s : State) (f : Mcx → Mcx) : (s.onMcx f).mcx = f s.mcx := rfl
@[simp] theorem State.onMcx_sec (s : State) (f : Mcx → Mcx) : (s.onMcx f).sec = s.sec := rfl
@[simp] theorem State.onMcx_cmd (s : State) (f : Mcx → Mcx) : (s.onMcx f).cmd = s.cmd := rfl
@[simp] theorem State.onMcx_pci (s : State) (f : Mcx → Mcx) : (s.onMcx f).pci = s.pci := rfl
@[simp] theorem State.onMcx_tlk (s : State) (f : Mcx → Mcx) : (s.onMcx f).tlk = s.tlk := rfl
@[simp] theorem State.onMcx_trt (s : State) (f : Mcx → Mcx) : (s.onMcx f).trt = s.trt := rfl
@[simp] theorem State.onMcx_mtr (s : State) (f : Mcx → Mcx) : (s.onMcx f).mtr = s.mtr := rfl
@[simp] theorem State.onMcx_sch (s : State) (f : Mcx → Mcx) : (s.onMcx f).sch = s.sch := rfl
@[simp] theorem State.onMcx_flt (s : State) (f : Mcx → Mcx) : (s.onMcx f).flt = s.flt := rfl
@[simp] theorem State.onMcx_mir (s : State) (f : Mcx → Mcx) : (s.onMcx f).mir = s.mir := rfl
@[simp] theorem State.onMcx_glb (s : State) (f : Mcx → Mcx) : (s.onMcx f).glb = s.glb := rfl
@[simp] theorem State.onMcx_pwr (s : State) (f : Mcx → Mcx) : (s.onMcx f).pwr = s.pwr := rfl
@[simp] theorem State.onMcx_pins (s : State) (f : Mcx → Mcx) : (s.onMcx f).pins = s.pins := rfl
@[simp] theorem State.onMcx_flash (s : State) (f : Mcx → Mcx) : (s.onMcx f).flash = s.flash := rfl
@[simp] theorem State.onMcx_latched (s : State) (f : Mcx → Mcx) : (s.onMcx f).latched = s.latched := rfl
@[simp] theorem State.onMcx_stats (s : State) (f : Mcx → Mcx) : (s.onMcx f).stats = s.stats := rfl
@[simp] theorem State.onMcx_out (s : State) (f : Mcx → Mcx) : (s.onMcx f).out = s.out := rfl
@[simp] theorem State.onMcx_fresh (s : State) (f : Mcx → Mcx) : (s.onMcx f).fresh = s.fresh := rfl

@[simp] theorem State.onSec_pending (s : State) (f : Sec → Sec) : (s.onSec f).pending = s.pending := rfl
@[simp] theorem State.onSec_mem (s : State) (f : Sec → Sec) : (s.onSec f).mem = s.mem := rfl
@[simp] theorem State.onSec_rgn (s : State) (f : Sec → Sec) : (s.onSec f).rgn = s.rgn := rfl
@[simp] theorem State.onSec_dir (s : State) (f : Sec → Sec) : (s.onSec f).dir = s.dir := rfl
@[simp] theorem State.onSec_xlt (s : State) (f : Sec → Sec) : (s.onSec f).xlt = s.xlt := rfl
@[simp] theorem State.onSec_eng (s : State) (f : Sec → Sec) : (s.onSec f).eng = s.eng := rfl
@[simp] theorem State.onSec_opu (s : State) (f : Sec → Sec) : (s.onSec f).opu = s.opu := rfl
@[simp] theorem State.onSec_mcx (s : State) (f : Sec → Sec) : (s.onSec f).mcx = s.mcx := rfl
@[simp] theorem State.onSec_sec (s : State) (f : Sec → Sec) : (s.onSec f).sec = f s.sec := rfl
@[simp] theorem State.onSec_cmd (s : State) (f : Sec → Sec) : (s.onSec f).cmd = s.cmd := rfl
@[simp] theorem State.onSec_pci (s : State) (f : Sec → Sec) : (s.onSec f).pci = s.pci := rfl
@[simp] theorem State.onSec_tlk (s : State) (f : Sec → Sec) : (s.onSec f).tlk = s.tlk := rfl
@[simp] theorem State.onSec_trt (s : State) (f : Sec → Sec) : (s.onSec f).trt = s.trt := rfl
@[simp] theorem State.onSec_mtr (s : State) (f : Sec → Sec) : (s.onSec f).mtr = s.mtr := rfl
@[simp] theorem State.onSec_sch (s : State) (f : Sec → Sec) : (s.onSec f).sch = s.sch := rfl
@[simp] theorem State.onSec_flt (s : State) (f : Sec → Sec) : (s.onSec f).flt = s.flt := rfl
@[simp] theorem State.onSec_mir (s : State) (f : Sec → Sec) : (s.onSec f).mir = s.mir := rfl
@[simp] theorem State.onSec_glb (s : State) (f : Sec → Sec) : (s.onSec f).glb = s.glb := rfl
@[simp] theorem State.onSec_pwr (s : State) (f : Sec → Sec) : (s.onSec f).pwr = s.pwr := rfl
@[simp] theorem State.onSec_pins (s : State) (f : Sec → Sec) : (s.onSec f).pins = s.pins := rfl
@[simp] theorem State.onSec_flash (s : State) (f : Sec → Sec) : (s.onSec f).flash = s.flash := rfl
@[simp] theorem State.onSec_latched (s : State) (f : Sec → Sec) : (s.onSec f).latched = s.latched := rfl
@[simp] theorem State.onSec_stats (s : State) (f : Sec → Sec) : (s.onSec f).stats = s.stats := rfl
@[simp] theorem State.onSec_out (s : State) (f : Sec → Sec) : (s.onSec f).out = s.out := rfl
@[simp] theorem State.onSec_fresh (s : State) (f : Sec → Sec) : (s.onSec f).fresh = s.fresh := rfl

@[simp] theorem State.onCmd_pending (s : State) (f : Cmd → Cmd) : (s.onCmd f).pending = s.pending := rfl
@[simp] theorem State.onCmd_mem (s : State) (f : Cmd → Cmd) : (s.onCmd f).mem = s.mem := rfl
@[simp] theorem State.onCmd_rgn (s : State) (f : Cmd → Cmd) : (s.onCmd f).rgn = s.rgn := rfl
@[simp] theorem State.onCmd_dir (s : State) (f : Cmd → Cmd) : (s.onCmd f).dir = s.dir := rfl
@[simp] theorem State.onCmd_xlt (s : State) (f : Cmd → Cmd) : (s.onCmd f).xlt = s.xlt := rfl
@[simp] theorem State.onCmd_eng (s : State) (f : Cmd → Cmd) : (s.onCmd f).eng = s.eng := rfl
@[simp] theorem State.onCmd_opu (s : State) (f : Cmd → Cmd) : (s.onCmd f).opu = s.opu := rfl
@[simp] theorem State.onCmd_mcx (s : State) (f : Cmd → Cmd) : (s.onCmd f).mcx = s.mcx := rfl
@[simp] theorem State.onCmd_sec (s : State) (f : Cmd → Cmd) : (s.onCmd f).sec = s.sec := rfl
@[simp] theorem State.onCmd_cmd (s : State) (f : Cmd → Cmd) : (s.onCmd f).cmd = f s.cmd := rfl
@[simp] theorem State.onCmd_pci (s : State) (f : Cmd → Cmd) : (s.onCmd f).pci = s.pci := rfl
@[simp] theorem State.onCmd_tlk (s : State) (f : Cmd → Cmd) : (s.onCmd f).tlk = s.tlk := rfl
@[simp] theorem State.onCmd_trt (s : State) (f : Cmd → Cmd) : (s.onCmd f).trt = s.trt := rfl
@[simp] theorem State.onCmd_mtr (s : State) (f : Cmd → Cmd) : (s.onCmd f).mtr = s.mtr := rfl
@[simp] theorem State.onCmd_sch (s : State) (f : Cmd → Cmd) : (s.onCmd f).sch = s.sch := rfl
@[simp] theorem State.onCmd_flt (s : State) (f : Cmd → Cmd) : (s.onCmd f).flt = s.flt := rfl
@[simp] theorem State.onCmd_mir (s : State) (f : Cmd → Cmd) : (s.onCmd f).mir = s.mir := rfl
@[simp] theorem State.onCmd_glb (s : State) (f : Cmd → Cmd) : (s.onCmd f).glb = s.glb := rfl
@[simp] theorem State.onCmd_pwr (s : State) (f : Cmd → Cmd) : (s.onCmd f).pwr = s.pwr := rfl
@[simp] theorem State.onCmd_pins (s : State) (f : Cmd → Cmd) : (s.onCmd f).pins = s.pins := rfl
@[simp] theorem State.onCmd_flash (s : State) (f : Cmd → Cmd) : (s.onCmd f).flash = s.flash := rfl
@[simp] theorem State.onCmd_latched (s : State) (f : Cmd → Cmd) : (s.onCmd f).latched = s.latched := rfl
@[simp] theorem State.onCmd_stats (s : State) (f : Cmd → Cmd) : (s.onCmd f).stats = s.stats := rfl
@[simp] theorem State.onCmd_out (s : State) (f : Cmd → Cmd) : (s.onCmd f).out = s.out := rfl
@[simp] theorem State.onCmd_fresh (s : State) (f : Cmd → Cmd) : (s.onCmd f).fresh = s.fresh := rfl

@[simp] theorem State.onPci_pending (s : State) (f : Pci → Pci) : (s.onPci f).pending = s.pending := rfl
@[simp] theorem State.onPci_mem (s : State) (f : Pci → Pci) : (s.onPci f).mem = s.mem := rfl
@[simp] theorem State.onPci_rgn (s : State) (f : Pci → Pci) : (s.onPci f).rgn = s.rgn := rfl
@[simp] theorem State.onPci_dir (s : State) (f : Pci → Pci) : (s.onPci f).dir = s.dir := rfl
@[simp] theorem State.onPci_xlt (s : State) (f : Pci → Pci) : (s.onPci f).xlt = s.xlt := rfl
@[simp] theorem State.onPci_eng (s : State) (f : Pci → Pci) : (s.onPci f).eng = s.eng := rfl
@[simp] theorem State.onPci_opu (s : State) (f : Pci → Pci) : (s.onPci f).opu = s.opu := rfl
@[simp] theorem State.onPci_mcx (s : State) (f : Pci → Pci) : (s.onPci f).mcx = s.mcx := rfl
@[simp] theorem State.onPci_sec (s : State) (f : Pci → Pci) : (s.onPci f).sec = s.sec := rfl
@[simp] theorem State.onPci_cmd (s : State) (f : Pci → Pci) : (s.onPci f).cmd = s.cmd := rfl
@[simp] theorem State.onPci_pci (s : State) (f : Pci → Pci) : (s.onPci f).pci = f s.pci := rfl
@[simp] theorem State.onPci_tlk (s : State) (f : Pci → Pci) : (s.onPci f).tlk = s.tlk := rfl
@[simp] theorem State.onPci_trt (s : State) (f : Pci → Pci) : (s.onPci f).trt = s.trt := rfl
@[simp] theorem State.onPci_mtr (s : State) (f : Pci → Pci) : (s.onPci f).mtr = s.mtr := rfl
@[simp] theorem State.onPci_sch (s : State) (f : Pci → Pci) : (s.onPci f).sch = s.sch := rfl
@[simp] theorem State.onPci_flt (s : State) (f : Pci → Pci) : (s.onPci f).flt = s.flt := rfl
@[simp] theorem State.onPci_mir (s : State) (f : Pci → Pci) : (s.onPci f).mir = s.mir := rfl
@[simp] theorem State.onPci_glb (s : State) (f : Pci → Pci) : (s.onPci f).glb = s.glb := rfl
@[simp] theorem State.onPci_pwr (s : State) (f : Pci → Pci) : (s.onPci f).pwr = s.pwr := rfl
@[simp] theorem State.onPci_pins (s : State) (f : Pci → Pci) : (s.onPci f).pins = s.pins := rfl
@[simp] theorem State.onPci_flash (s : State) (f : Pci → Pci) : (s.onPci f).flash = s.flash := rfl
@[simp] theorem State.onPci_latched (s : State) (f : Pci → Pci) : (s.onPci f).latched = s.latched := rfl
@[simp] theorem State.onPci_stats (s : State) (f : Pci → Pci) : (s.onPci f).stats = s.stats := rfl
@[simp] theorem State.onPci_out (s : State) (f : Pci → Pci) : (s.onPci f).out = s.out := rfl
@[simp] theorem State.onPci_fresh (s : State) (f : Pci → Pci) : (s.onPci f).fresh = s.fresh := rfl

@[simp] theorem State.onTlk_pending (s : State) (f : Tlk → Tlk) : (s.onTlk f).pending = s.pending := rfl
@[simp] theorem State.onTlk_mem (s : State) (f : Tlk → Tlk) : (s.onTlk f).mem = s.mem := rfl
@[simp] theorem State.onTlk_rgn (s : State) (f : Tlk → Tlk) : (s.onTlk f).rgn = s.rgn := rfl
@[simp] theorem State.onTlk_dir (s : State) (f : Tlk → Tlk) : (s.onTlk f).dir = s.dir := rfl
@[simp] theorem State.onTlk_xlt (s : State) (f : Tlk → Tlk) : (s.onTlk f).xlt = s.xlt := rfl
@[simp] theorem State.onTlk_eng (s : State) (f : Tlk → Tlk) : (s.onTlk f).eng = s.eng := rfl
@[simp] theorem State.onTlk_opu (s : State) (f : Tlk → Tlk) : (s.onTlk f).opu = s.opu := rfl
@[simp] theorem State.onTlk_mcx (s : State) (f : Tlk → Tlk) : (s.onTlk f).mcx = s.mcx := rfl
@[simp] theorem State.onTlk_sec (s : State) (f : Tlk → Tlk) : (s.onTlk f).sec = s.sec := rfl
@[simp] theorem State.onTlk_cmd (s : State) (f : Tlk → Tlk) : (s.onTlk f).cmd = s.cmd := rfl
@[simp] theorem State.onTlk_pci (s : State) (f : Tlk → Tlk) : (s.onTlk f).pci = s.pci := rfl
@[simp] theorem State.onTlk_tlk (s : State) (f : Tlk → Tlk) : (s.onTlk f).tlk = f s.tlk := rfl
@[simp] theorem State.onTlk_trt (s : State) (f : Tlk → Tlk) : (s.onTlk f).trt = s.trt := rfl
@[simp] theorem State.onTlk_mtr (s : State) (f : Tlk → Tlk) : (s.onTlk f).mtr = s.mtr := rfl
@[simp] theorem State.onTlk_sch (s : State) (f : Tlk → Tlk) : (s.onTlk f).sch = s.sch := rfl
@[simp] theorem State.onTlk_flt (s : State) (f : Tlk → Tlk) : (s.onTlk f).flt = s.flt := rfl
@[simp] theorem State.onTlk_mir (s : State) (f : Tlk → Tlk) : (s.onTlk f).mir = s.mir := rfl
@[simp] theorem State.onTlk_glb (s : State) (f : Tlk → Tlk) : (s.onTlk f).glb = s.glb := rfl
@[simp] theorem State.onTlk_pwr (s : State) (f : Tlk → Tlk) : (s.onTlk f).pwr = s.pwr := rfl
@[simp] theorem State.onTlk_pins (s : State) (f : Tlk → Tlk) : (s.onTlk f).pins = s.pins := rfl
@[simp] theorem State.onTlk_flash (s : State) (f : Tlk → Tlk) : (s.onTlk f).flash = s.flash := rfl
@[simp] theorem State.onTlk_latched (s : State) (f : Tlk → Tlk) : (s.onTlk f).latched = s.latched := rfl
@[simp] theorem State.onTlk_stats (s : State) (f : Tlk → Tlk) : (s.onTlk f).stats = s.stats := rfl
@[simp] theorem State.onTlk_out (s : State) (f : Tlk → Tlk) : (s.onTlk f).out = s.out := rfl
@[simp] theorem State.onTlk_fresh (s : State) (f : Tlk → Tlk) : (s.onTlk f).fresh = s.fresh := rfl

@[simp] theorem State.onTrt_pending (s : State) (f : Trt → Trt) : (s.onTrt f).pending = s.pending := rfl
@[simp] theorem State.onTrt_mem (s : State) (f : Trt → Trt) : (s.onTrt f).mem = s.mem := rfl
@[simp] theorem State.onTrt_rgn (s : State) (f : Trt → Trt) : (s.onTrt f).rgn = s.rgn := rfl
@[simp] theorem State.onTrt_dir (s : State) (f : Trt → Trt) : (s.onTrt f).dir = s.dir := rfl
@[simp] theorem State.onTrt_xlt (s : State) (f : Trt → Trt) : (s.onTrt f).xlt = s.xlt := rfl
@[simp] theorem State.onTrt_eng (s : State) (f : Trt → Trt) : (s.onTrt f).eng = s.eng := rfl
@[simp] theorem State.onTrt_opu (s : State) (f : Trt → Trt) : (s.onTrt f).opu = s.opu := rfl
@[simp] theorem State.onTrt_mcx (s : State) (f : Trt → Trt) : (s.onTrt f).mcx = s.mcx := rfl
@[simp] theorem State.onTrt_sec (s : State) (f : Trt → Trt) : (s.onTrt f).sec = s.sec := rfl
@[simp] theorem State.onTrt_cmd (s : State) (f : Trt → Trt) : (s.onTrt f).cmd = s.cmd := rfl
@[simp] theorem State.onTrt_pci (s : State) (f : Trt → Trt) : (s.onTrt f).pci = s.pci := rfl
@[simp] theorem State.onTrt_tlk (s : State) (f : Trt → Trt) : (s.onTrt f).tlk = s.tlk := rfl
@[simp] theorem State.onTrt_trt (s : State) (f : Trt → Trt) : (s.onTrt f).trt = f s.trt := rfl
@[simp] theorem State.onTrt_mtr (s : State) (f : Trt → Trt) : (s.onTrt f).mtr = s.mtr := rfl
@[simp] theorem State.onTrt_sch (s : State) (f : Trt → Trt) : (s.onTrt f).sch = s.sch := rfl
@[simp] theorem State.onTrt_flt (s : State) (f : Trt → Trt) : (s.onTrt f).flt = s.flt := rfl
@[simp] theorem State.onTrt_mir (s : State) (f : Trt → Trt) : (s.onTrt f).mir = s.mir := rfl
@[simp] theorem State.onTrt_glb (s : State) (f : Trt → Trt) : (s.onTrt f).glb = s.glb := rfl
@[simp] theorem State.onTrt_pwr (s : State) (f : Trt → Trt) : (s.onTrt f).pwr = s.pwr := rfl
@[simp] theorem State.onTrt_pins (s : State) (f : Trt → Trt) : (s.onTrt f).pins = s.pins := rfl
@[simp] theorem State.onTrt_flash (s : State) (f : Trt → Trt) : (s.onTrt f).flash = s.flash := rfl
@[simp] theorem State.onTrt_latched (s : State) (f : Trt → Trt) : (s.onTrt f).latched = s.latched := rfl
@[simp] theorem State.onTrt_stats (s : State) (f : Trt → Trt) : (s.onTrt f).stats = s.stats := rfl
@[simp] theorem State.onTrt_out (s : State) (f : Trt → Trt) : (s.onTrt f).out = s.out := rfl
@[simp] theorem State.onTrt_fresh (s : State) (f : Trt → Trt) : (s.onTrt f).fresh = s.fresh := rfl

@[simp] theorem State.onMtr_pending (s : State) (f : Tbl Meter → Tbl Meter) : (s.onMtr f).pending = s.pending := rfl
@[simp] theorem State.onMtr_mem (s : State) (f : Tbl Meter → Tbl Meter) : (s.onMtr f).mem = s.mem := rfl
@[simp] theorem State.onMtr_rgn (s : State) (f : Tbl Meter → Tbl Meter) : (s.onMtr f).rgn = s.rgn := rfl
@[simp] theorem State.onMtr_dir (s : State) (f : Tbl Meter → Tbl Meter) : (s.onMtr f).dir = s.dir := rfl
@[simp] theorem State.onMtr_xlt (s : State) (f : Tbl Meter → Tbl Meter) : (s.onMtr f).xlt = s.xlt := rfl
@[simp] theorem State.onMtr_eng (s : State) (f : Tbl Meter → Tbl Meter) : (s.onMtr f).eng = s.eng := rfl
@[simp] theorem State.onMtr_opu (s : State) (f : Tbl Meter → Tbl Meter) : (s.onMtr f).opu = s.opu := rfl
@[simp] theorem State.onMtr_mcx (s : State) (f : Tbl Meter → Tbl Meter) : (s.onMtr f).mcx = s.mcx := rfl
@[simp] theorem State.onMtr_sec (s : State) (f : Tbl Meter → Tbl Meter) : (s.onMtr f).sec = s.sec := rfl
@[simp] theorem State.onMtr_cmd (s : State) (f : Tbl Meter → Tbl Meter) : (s.onMtr f).cmd = s.cmd := rfl
@[simp] theorem State.onMtr_pci (s : State) (f : Tbl Meter → Tbl Meter) : (s.onMtr f).pci = s.pci := rfl
@[simp] theorem State.onMtr_tlk (s : State) (f : Tbl Meter → Tbl Meter) : (s.onMtr f).tlk = s.tlk := rfl
@[simp] theorem State.onMtr_trt (s : State) (f : Tbl Meter → Tbl Meter) : (s.onMtr f).trt = s.trt := rfl
@[simp] theorem State.onMtr_mtr (s : State) (f : Tbl Meter → Tbl Meter) : (s.onMtr f).mtr = f s.mtr := rfl
@[simp] theorem State.onMtr_sch (s : State) (f : Tbl Meter → Tbl Meter) : (s.onMtr f).sch = s.sch := rfl
@[simp] theorem State.onMtr_flt (s : State) (f : Tbl Meter → Tbl Meter) : (s.onMtr f).flt = s.flt := rfl
@[simp] theorem State.onMtr_mir (s : State) (f : Tbl Meter → Tbl Meter) : (s.onMtr f).mir = s.mir := rfl
@[simp] theorem State.onMtr_glb (s : State) (f : Tbl Meter → Tbl Meter) : (s.onMtr f).glb = s.glb := rfl
@[simp] theorem State.onMtr_pwr (s : State) (f : Tbl Meter → Tbl Meter) : (s.onMtr f).pwr = s.pwr := rfl
@[simp] theorem State.onMtr_pins (s : State) (f : Tbl Meter → Tbl Meter) : (s.onMtr f).pins = s.pins := rfl
@[simp] theorem State.onMtr_flash (s : State) (f : Tbl Meter → Tbl Meter) : (s.onMtr f).flash = s.flash := rfl
@[simp] theorem State.onMtr_latched (s : State) (f : Tbl Meter → Tbl Meter) : (s.onMtr f).latched = s.latched := rfl
@[simp] theorem State.onMtr_stats (s : State) (f : Tbl Meter → Tbl Meter) : (s.onMtr f).stats = s.stats := rfl
@[simp] theorem State.onMtr_out (s : State) (f : Tbl Meter → Tbl Meter) : (s.onMtr f).out = s.out := rfl
@[simp] theorem State.onMtr_fresh (s : State) (f : Tbl Meter → Tbl Meter) : (s.onMtr f).fresh = s.fresh := rfl

@[simp] theorem State.onSch_pending (s : State) (f : Sch → Sch) : (s.onSch f).pending = s.pending := rfl
@[simp] theorem State.onSch_mem (s : State) (f : Sch → Sch) : (s.onSch f).mem = s.mem := rfl
@[simp] theorem State.onSch_rgn (s : State) (f : Sch → Sch) : (s.onSch f).rgn = s.rgn := rfl
@[simp] theorem State.onSch_dir (s : State) (f : Sch → Sch) : (s.onSch f).dir = s.dir := rfl
@[simp] theorem State.onSch_xlt (s : State) (f : Sch → Sch) : (s.onSch f).xlt = s.xlt := rfl
@[simp] theorem State.onSch_eng (s : State) (f : Sch → Sch) : (s.onSch f).eng = s.eng := rfl
@[simp] theorem State.onSch_opu (s : State) (f : Sch → Sch) : (s.onSch f).opu = s.opu := rfl
@[simp] theorem State.onSch_mcx (s : State) (f : Sch → Sch) : (s.onSch f).mcx = s.mcx := rfl
@[simp] theorem State.onSch_sec (s : State) (f : Sch → Sch) : (s.onSch f).sec = s.sec := rfl
@[simp] theorem State.onSch_cmd (s : State) (f : Sch → Sch) : (s.onSch f).cmd = s.cmd := rfl
@[simp] theorem State.onSch_pci (s : State) (f : Sch → Sch) : (s.onSch f).pci = s.pci := rfl
@[simp] theorem State.onSch_tlk (s : State) (f : Sch → Sch) : (s.onSch f).tlk = s.tlk := rfl
@[simp] theorem State.onSch_trt (s : State) (f : Sch → Sch) : (s.onSch f).trt = s.trt := rfl
@[simp] theorem State.onSch_mtr (s : State) (f : Sch → Sch) : (s.onSch f).mtr = s.mtr := rfl
@[simp] theorem State.onSch_sch (s : State) (f : Sch → Sch) : (s.onSch f).sch = f s.sch := rfl
@[simp] theorem State.onSch_flt (s : State) (f : Sch → Sch) : (s.onSch f).flt = s.flt := rfl
@[simp] theorem State.onSch_mir (s : State) (f : Sch → Sch) : (s.onSch f).mir = s.mir := rfl
@[simp] theorem State.onSch_glb (s : State) (f : Sch → Sch) : (s.onSch f).glb = s.glb := rfl
@[simp] theorem State.onSch_pwr (s : State) (f : Sch → Sch) : (s.onSch f).pwr = s.pwr := rfl
@[simp] theorem State.onSch_pins (s : State) (f : Sch → Sch) : (s.onSch f).pins = s.pins := rfl
@[simp] theorem State.onSch_flash (s : State) (f : Sch → Sch) : (s.onSch f).flash = s.flash := rfl
@[simp] theorem State.onSch_latched (s : State) (f : Sch → Sch) : (s.onSch f).latched = s.latched := rfl
@[simp] theorem State.onSch_stats (s : State) (f : Sch → Sch) : (s.onSch f).stats = s.stats := rfl
@[simp] theorem State.onSch_out (s : State) (f : Sch → Sch) : (s.onSch f).out = s.out := rfl
@[simp] theorem State.onSch_fresh (s : State) (f : Sch → Sch) : (s.onSch f).fresh = s.fresh := rfl

@[simp] theorem State.onFlt_pending (s : State) (f : Flt → Flt) : (s.onFlt f).pending = s.pending := rfl
@[simp] theorem State.onFlt_mem (s : State) (f : Flt → Flt) : (s.onFlt f).mem = s.mem := rfl
@[simp] theorem State.onFlt_rgn (s : State) (f : Flt → Flt) : (s.onFlt f).rgn = s.rgn := rfl
@[simp] theorem State.onFlt_dir (s : State) (f : Flt → Flt) : (s.onFlt f).dir = s.dir := rfl
@[simp] theorem State.onFlt_xlt (s : State) (f : Flt → Flt) : (s.onFlt f).xlt = s.xlt := rfl
@[simp] theorem State.onFlt_eng (s : State) (f : Flt → Flt) : (s.onFlt f).eng = s.eng := rfl
@[simp] theorem State.onFlt_opu (s : State) (f : Flt → Flt) : (s.onFlt f).opu = s.opu := rfl
@[simp] theorem State.onFlt_mcx (s : State) (f : Flt → Flt) : (s.onFlt f).mcx = s.mcx := rfl
@[simp] theorem State.onFlt_sec (s : State) (f : Flt → Flt) : (s.onFlt f).sec = s.sec := rfl
@[simp] theorem State.onFlt_cmd (s : State) (f : Flt → Flt) : (s.onFlt f).cmd = s.cmd := rfl
@[simp] theorem State.onFlt_pci (s : State) (f : Flt → Flt) : (s.onFlt f).pci = s.pci := rfl
@[simp] theorem State.onFlt_tlk (s : State) (f : Flt → Flt) : (s.onFlt f).tlk = s.tlk := rfl
@[simp] theorem State.onFlt_trt (s : State) (f : Flt → Flt) : (s.onFlt f).trt = s.trt := rfl
@[simp] theorem State.onFlt_mtr (s : State) (f : Flt → Flt) : (s.onFlt f).mtr = s.mtr := rfl
@[simp] theorem State.onFlt_sch (s : State) (f : Flt → Flt) : (s.onFlt f).sch = s.sch := rfl
@[simp] theorem State.onFlt_flt (s : State) (f : Flt → Flt) : (s.onFlt f).flt = f s.flt := rfl
@[simp] theorem State.onFlt_mir (s : State) (f : Flt → Flt) : (s.onFlt f).mir = s.mir := rfl
@[simp] theorem State.onFlt_glb (s : State) (f : Flt → Flt) : (s.onFlt f).glb = s.glb := rfl
@[simp] theorem State.onFlt_pwr (s : State) (f : Flt → Flt) : (s.onFlt f).pwr = s.pwr := rfl
@[simp] theorem State.onFlt_pins (s : State) (f : Flt → Flt) : (s.onFlt f).pins = s.pins := rfl
@[simp] theorem State.onFlt_flash (s : State) (f : Flt → Flt) : (s.onFlt f).flash = s.flash := rfl
@[simp] theorem State.onFlt_latched (s : State) (f : Flt → Flt) : (s.onFlt f).latched = s.latched := rfl
@[simp] theorem State.onFlt_stats (s : State) (f : Flt → Flt) : (s.onFlt f).stats = s.stats := rfl
@[simp] theorem State.onFlt_out (s : State) (f : Flt → Flt) : (s.onFlt f).out = s.out := rfl
@[simp] theorem State.onFlt_fresh (s : State) (f : Flt → Flt) : (s.onFlt f).fresh = s.fresh := rfl

@[simp] theorem State.onMir_pending (s : State) (f : Mir → Mir) : (s.onMir f).pending = s.pending := rfl
@[simp] theorem State.onMir_mem (s : State) (f : Mir → Mir) : (s.onMir f).mem = s.mem := rfl
@[simp] theorem State.onMir_rgn (s : State) (f : Mir → Mir) : (s.onMir f).rgn = s.rgn := rfl
@[simp] theorem State.onMir_dir (s : State) (f : Mir → Mir) : (s.onMir f).dir = s.dir := rfl
@[simp] theorem State.onMir_xlt (s : State) (f : Mir → Mir) : (s.onMir f).xlt = s.xlt := rfl
@[simp] theorem State.onMir_eng (s : State) (f : Mir → Mir) : (s.onMir f).eng = s.eng := rfl
@[simp] theorem State.onMir_opu (s : State) (f : Mir → Mir) : (s.onMir f).opu = s.opu := rfl
@[simp] theorem State.onMir_mcx (s : State) (f : Mir → Mir) : (s.onMir f).mcx = s.mcx := rfl
@[simp] theorem State.onMir_sec (s : State) (f : Mir → Mir) : (s.onMir f).sec = s.sec := rfl
@[simp] theorem State.onMir_cmd (s : State) (f : Mir → Mir) : (s.onMir f).cmd = s.cmd := rfl
@[simp] theorem State.onMir_pci (s : State) (f : Mir → Mir) : (s.onMir f).pci = s.pci := rfl
@[simp] theorem State.onMir_tlk (s : State) (f : Mir → Mir) : (s.onMir f).tlk = s.tlk := rfl
@[simp] theorem State.onMir_trt (s : State) (f : Mir → Mir) : (s.onMir f).trt = s.trt := rfl
@[simp] theorem State.onMir_mtr (s : State) (f : Mir → Mir) : (s.onMir f).mtr = s.mtr := rfl
@[simp] theorem State.onMir_sch (s : State) (f : Mir → Mir) : (s.onMir f).sch = s.sch := rfl
@[simp] theorem State.onMir_flt (s : State) (f : Mir → Mir) : (s.onMir f).flt = s.flt := rfl
@[simp] theorem State.onMir_mir (s : State) (f : Mir → Mir) : (s.onMir f).mir = f s.mir := rfl
@[simp] theorem State.onMir_glb (s : State) (f : Mir → Mir) : (s.onMir f).glb = s.glb := rfl
@[simp] theorem State.onMir_pwr (s : State) (f : Mir → Mir) : (s.onMir f).pwr = s.pwr := rfl
@[simp] theorem State.onMir_pins (s : State) (f : Mir → Mir) : (s.onMir f).pins = s.pins := rfl
@[simp] theorem State.onMir_flash (s : State) (f : Mir → Mir) : (s.onMir f).flash = s.flash := rfl
@[simp] theorem State.onMir_latched (s : State) (f : Mir → Mir) : (s.onMir f).latched = s.latched := rfl
@[simp] theorem State.onMir_stats (s : State) (f : Mir → Mir) : (s.onMir f).stats = s.stats := rfl
@[simp] theorem State.onMir_out (s : State) (f : Mir → Mir) : (s.onMir f).out = s.out := rfl
@[simp] theorem State.onMir_fresh (s : State) (f : Mir → Mir) : (s.onMir f).fresh = s.fresh := rfl

@[simp] theorem State.onGlb_pending (s : State) (f : Glb → Glb) : (s.onGlb f).pending = s.pending := rfl
@[simp] theorem State.onGlb_mem (s : State) (f : Glb → Glb) : (s.onGlb f).mem = s.mem := rfl
@[simp] theorem State.onGlb_rgn (s : State) (f : Glb → Glb) : (s.onGlb f).rgn = s.rgn := rfl
@[simp] theorem State.onGlb_dir (s : State) (f : Glb → Glb) : (s.onGlb f).dir = s.dir := rfl
@[simp] theorem State.onGlb_xlt (s : State) (f : Glb → Glb) : (s.onGlb f).xlt = s.xlt := rfl
@[simp] theorem State.onGlb_eng (s : State) (f : Glb → Glb) : (s.onGlb f).eng = s.eng := rfl
@[simp] theorem State.onGlb_opu (s : State) (f : Glb → Glb) : (s.onGlb f).opu = s.opu := rfl
@[simp] theorem State.onGlb_mcx (s : State) (f : Glb → Glb) : (s.onGlb f).mcx = s.mcx := rfl
@[simp] theorem State.onGlb_sec (s : State) (f : Glb → Glb) : (s.onGlb f).sec = s.sec := rfl
@[simp] theorem State.onGlb_cmd (s : State) (f : Glb → Glb) : (s.onGlb f).cmd = s.cmd := rfl
@[simp] theorem State.onGlb_pci (s : State) (f : Glb → Glb) : (s.onGlb f).pci = s.pci := rfl
@[simp] theorem State.onGlb_tlk (s : State) (f : Glb → Glb) : (s.onGlb f).tlk = s.tlk := rfl
@[simp] theorem State.onGlb_trt (s : State) (f : Glb → Glb) : (s.onGlb f).trt = s.trt := rfl
@[simp] theorem State.onGlb_mtr (s : State) (f : Glb → Glb) : (s.onGlb f).mtr = s.mtr := rfl
@[simp] theorem State.onGlb_sch (s : State) (f : Glb → Glb) : (s.onGlb f).sch = s.sch := rfl
@[simp] theorem State.onGlb_flt (s : State) (f : Glb → Glb) : (s.onGlb f).flt = s.flt := rfl
@[simp] theorem State.onGlb_mir (s : State) (f : Glb → Glb) : (s.onGlb f).mir = s.mir := rfl
@[simp] theorem State.onGlb_glb (s : State) (f : Glb → Glb) : (s.onGlb f).glb = f s.glb := rfl
@[simp] theorem State.onGlb_pwr (s : State) (f : Glb → Glb) : (s.onGlb f).pwr = s.pwr := rfl
@[simp] theorem State.onGlb_pins (s : State) (f : Glb → Glb) : (s.onGlb f).pins = s.pins := rfl
@[simp] theorem State.onGlb_flash (s : State) (f : Glb → Glb) : (s.onGlb f).flash = s.flash := rfl
@[simp] theorem State.onGlb_latched (s : State) (f : Glb → Glb) : (s.onGlb f).latched = s.latched := rfl
@[simp] theorem State.onGlb_stats (s : State) (f : Glb → Glb) : (s.onGlb f).stats = s.stats := rfl
@[simp] theorem State.onGlb_out (s : State) (f : Glb → Glb) : (s.onGlb f).out = s.out := rfl
@[simp] theorem State.onGlb_fresh (s : State) (f : Glb → Glb) : (s.onGlb f).fresh = s.fresh := rfl

@[simp] theorem State.onPwr_pending (s : State) (f : Pwr → Pwr) : (s.onPwr f).pending = s.pending := rfl
@[simp] theorem State.onPwr_mem (s : State) (f : Pwr → Pwr) : (s.onPwr f).mem = s.mem := rfl
@[simp] theorem State.onPwr_rgn (s : State) (f : Pwr → Pwr) : (s.onPwr f).rgn = s.rgn := rfl
@[simp] theorem State.onPwr_dir (s : State) (f : Pwr → Pwr) : (s.onPwr f).dir = s.dir := rfl
@[simp] theorem State.onPwr_xlt (s : State) (f : Pwr → Pwr) : (s.onPwr f).xlt = s.xlt := rfl
@[simp] theorem State.onPwr_eng (s : State) (f : Pwr → Pwr) : (s.onPwr f).eng = s.eng := rfl
@[simp] theorem State.onPwr_opu (s : State) (f : Pwr → Pwr) : (s.onPwr f).opu = s.opu := rfl
@[simp] theorem State.onPwr_mcx (s : State) (f : Pwr → Pwr) : (s.onPwr f).mcx = s.mcx := rfl
@[simp] theorem State.onPwr_sec (s : State) (f : Pwr → Pwr) : (s.onPwr f).sec = s.sec := rfl
@[simp] theorem State.onPwr_cmd (s : State) (f : Pwr → Pwr) : (s.onPwr f).cmd = s.cmd := rfl
@[simp] theorem State.onPwr_pci (s : State) (f : Pwr → Pwr) : (s.onPwr f).pci = s.pci := rfl
@[simp] theorem State.onPwr_tlk (s : State) (f : Pwr → Pwr) : (s.onPwr f).tlk = s.tlk := rfl
@[simp] theorem State.onPwr_trt (s : State) (f : Pwr → Pwr) : (s.onPwr f).trt = s.trt := rfl
@[simp] theorem State.onPwr_mtr (s : State) (f : Pwr → Pwr) : (s.onPwr f).mtr = s.mtr := rfl
@[simp] theorem State.onPwr_sch (s : State) (f : Pwr → Pwr) : (s.onPwr f).sch = s.sch := rfl
@[simp] theorem State.onPwr_flt (s : State) (f : Pwr → Pwr) : (s.onPwr f).flt = s.flt := rfl
@[simp] theorem State.onPwr_mir (s : State) (f : Pwr → Pwr) : (s.onPwr f).mir = s.mir := rfl
@[simp] theorem State.onPwr_glb (s : State) (f : Pwr → Pwr) : (s.onPwr f).glb = s.glb := rfl
@[simp] theorem State.onPwr_pwr (s : State) (f : Pwr → Pwr) : (s.onPwr f).pwr = f s.pwr := rfl
@[simp] theorem State.onPwr_pins (s : State) (f : Pwr → Pwr) : (s.onPwr f).pins = s.pins := rfl
@[simp] theorem State.onPwr_flash (s : State) (f : Pwr → Pwr) : (s.onPwr f).flash = s.flash := rfl
@[simp] theorem State.onPwr_latched (s : State) (f : Pwr → Pwr) : (s.onPwr f).latched = s.latched := rfl
@[simp] theorem State.onPwr_stats (s : State) (f : Pwr → Pwr) : (s.onPwr f).stats = s.stats := rfl
@[simp] theorem State.onPwr_out (s : State) (f : Pwr → Pwr) : (s.onPwr f).out = s.out := rfl
@[simp] theorem State.onPwr_fresh (s : State) (f : Pwr → Pwr) : (s.onPwr f).fresh = s.fresh := rfl

@[simp] theorem State.onPins_pending (s : State) (f : Pins → Pins) : (s.onPins f).pending = s.pending := rfl
@[simp] theorem State.onPins_mem (s : State) (f : Pins → Pins) : (s.onPins f).mem = s.mem := rfl
@[simp] theorem State.onPins_rgn (s : State) (f : Pins → Pins) : (s.onPins f).rgn = s.rgn := rfl
@[simp] theorem State.onPins_dir (s : State) (f : Pins → Pins) : (s.onPins f).dir = s.dir := rfl
@[simp] theorem State.onPins_xlt (s : State) (f : Pins → Pins) : (s.onPins f).xlt = s.xlt := rfl
@[simp] theorem State.onPins_eng (s : State) (f : Pins → Pins) : (s.onPins f).eng = s.eng := rfl
@[simp] theorem State.onPins_opu (s : State) (f : Pins → Pins) : (s.onPins f).opu = s.opu := rfl
@[simp] theorem State.onPins_mcx (s : State) (f : Pins → Pins) : (s.onPins f).mcx = s.mcx := rfl
@[simp] theorem State.onPins_sec (s : State) (f : Pins → Pins) : (s.onPins f).sec = s.sec := rfl
@[simp] theorem State.onPins_cmd (s : State) (f : Pins → Pins) : (s.onPins f).cmd = s.cmd := rfl
@[simp] theorem State.onPins_pci (s : State) (f : Pins → Pins) : (s.onPins f).pci = s.pci := rfl
@[simp] theorem State.onPins_tlk (s : State) (f : Pins → Pins) : (s.onPins f).tlk = s.tlk := rfl
@[simp] theorem State.onPins_trt (s : State) (f : Pins → Pins) : (s.onPins f).trt = s.trt := rfl
@[simp] theorem State.onPins_mtr (s : State) (f : Pins → Pins) : (s.onPins f).mtr = s.mtr := rfl
@[simp] theorem State.onPins_sch (s : State) (f : Pins → Pins) : (s.onPins f).sch = s.sch := rfl
@[simp] theorem State.onPins_flt (s : State) (f : Pins → Pins) : (s.onPins f).flt = s.flt := rfl
@[simp] theorem State.onPins_mir (s : State) (f : Pins → Pins) : (s.onPins f).mir = s.mir := rfl
@[simp] theorem State.onPins_glb (s : State) (f : Pins → Pins) : (s.onPins f).glb = s.glb := rfl
@[simp] theorem State.onPins_pwr (s : State) (f : Pins → Pins) : (s.onPins f).pwr = s.pwr := rfl
@[simp] theorem State.onPins_pins (s : State) (f : Pins → Pins) : (s.onPins f).pins = f s.pins := rfl
@[simp] theorem State.onPins_flash (s : State) (f : Pins → Pins) : (s.onPins f).flash = s.flash := rfl
@[simp] theorem State.onPins_latched (s : State) (f : Pins → Pins) : (s.onPins f).latched = s.latched := rfl
@[simp] theorem State.onPins_stats (s : State) (f : Pins → Pins) : (s.onPins f).stats = s.stats := rfl
@[simp] theorem State.onPins_out (s : State) (f : Pins → Pins) : (s.onPins f).out = s.out := rfl
@[simp] theorem State.onPins_fresh (s : State) (f : Pins → Pins) : (s.onPins f).fresh = s.fresh := rfl

@[simp] theorem State.onFlash_pending (s : State) (f : Flash → Flash) : (s.onFlash f).pending = s.pending := rfl
@[simp] theorem State.onFlash_mem (s : State) (f : Flash → Flash) : (s.onFlash f).mem = s.mem := rfl
@[simp] theorem State.onFlash_rgn (s : State) (f : Flash → Flash) : (s.onFlash f).rgn = s.rgn := rfl
@[simp] theorem State.onFlash_dir (s : State) (f : Flash → Flash) : (s.onFlash f).dir = s.dir := rfl
@[simp] theorem State.onFlash_xlt (s : State) (f : Flash → Flash) : (s.onFlash f).xlt = s.xlt := rfl
@[simp] theorem State.onFlash_eng (s : State) (f : Flash → Flash) : (s.onFlash f).eng = s.eng := rfl
@[simp] theorem State.onFlash_opu (s : State) (f : Flash → Flash) : (s.onFlash f).opu = s.opu := rfl
@[simp] theorem State.onFlash_mcx (s : State) (f : Flash → Flash) : (s.onFlash f).mcx = s.mcx := rfl
@[simp] theorem State.onFlash_sec (s : State) (f : Flash → Flash) : (s.onFlash f).sec = s.sec := rfl
@[simp] theorem State.onFlash_cmd (s : State) (f : Flash → Flash) : (s.onFlash f).cmd = s.cmd := rfl
@[simp] theorem State.onFlash_pci (s : State) (f : Flash → Flash) : (s.onFlash f).pci = s.pci := rfl
@[simp] theorem State.onFlash_tlk (s : State) (f : Flash → Flash) : (s.onFlash f).tlk = s.tlk := rfl
@[simp] theorem State.onFlash_trt (s : State) (f : Flash → Flash) : (s.onFlash f).trt = s.trt := rfl
@[simp] theorem State.onFlash_mtr (s : State) (f : Flash → Flash) : (s.onFlash f).mtr = s.mtr := rfl
@[simp] theorem State.onFlash_sch (s : State) (f : Flash → Flash) : (s.onFlash f).sch = s.sch := rfl
@[simp] theorem State.onFlash_flt (s : State) (f : Flash → Flash) : (s.onFlash f).flt = s.flt := rfl
@[simp] theorem State.onFlash_mir (s : State) (f : Flash → Flash) : (s.onFlash f).mir = s.mir := rfl
@[simp] theorem State.onFlash_glb (s : State) (f : Flash → Flash) : (s.onFlash f).glb = s.glb := rfl
@[simp] theorem State.onFlash_pwr (s : State) (f : Flash → Flash) : (s.onFlash f).pwr = s.pwr := rfl
@[simp] theorem State.onFlash_pins (s : State) (f : Flash → Flash) : (s.onFlash f).pins = s.pins := rfl
@[simp] theorem State.onFlash_flash (s : State) (f : Flash → Flash) : (s.onFlash f).flash = f s.flash := rfl
@[simp] theorem State.onFlash_latched (s : State) (f : Flash → Flash) : (s.onFlash f).latched = s.latched := rfl
@[simp] theorem State.onFlash_stats (s : State) (f : Flash → Flash) : (s.onFlash f).stats = s.stats := rfl
@[simp] theorem State.onFlash_out (s : State) (f : Flash → Flash) : (s.onFlash f).out = s.out := rfl
@[simp] theorem State.onFlash_fresh (s : State) (f : Flash → Flash) : (s.onFlash f).fresh = s.fresh := rfl

@[simp] theorem State.onLatched_pending (s : State) (f : Tbl Nat → Tbl Nat) : (s.onLatched f).pending = s.pending := rfl
@[simp] theorem State.onLatched_mem (s : State) (f : Tbl Nat → Tbl Nat) : (s.onLatched f).mem = s.mem := rfl
@[simp] theorem State.onLatched_rgn (s : State) (f : Tbl Nat → Tbl Nat) : (s.onLatched f).rgn = s.rgn := rfl
@[simp] theorem State.onLatched_dir (s : State) (f : Tbl Nat → Tbl Nat) : (s.onLatched f).dir = s.dir := rfl
@[simp] theorem State.onLatched_xlt (s : State) (f : Tbl Nat → Tbl Nat) : (s.onLatched f).xlt = s.xlt := rfl
@[simp] theorem State.onLatched_eng (s : State) (f : Tbl Nat → Tbl Nat) : (s.onLatched f).eng = s.eng := rfl
@[simp] theorem State.onLatched_opu (s : State) (f : Tbl Nat → Tbl Nat) : (s.onLatched f).opu = s.opu := rfl
@[simp] theorem State.onLatched_mcx (s : State) (f : Tbl Nat → Tbl Nat) : (s.onLatched f).mcx = s.mcx := rfl
@[simp] theorem State.onLatched_sec (s : State) (f : Tbl Nat → Tbl Nat) : (s.onLatched f).sec = s.sec := rfl
@[simp] theorem State.onLatched_cmd (s : State) (f : Tbl Nat → Tbl Nat) : (s.onLatched f).cmd = s.cmd := rfl
@[simp] theorem State.onLatched_pci (s : State) (f : Tbl Nat → Tbl Nat) : (s.onLatched f).pci = s.pci := rfl
@[simp] theorem State.onLatched_tlk (s : State) (f : Tbl Nat → Tbl Nat) : (s.onLatched f).tlk = s.tlk := rfl
@[simp] theorem State.onLatched_trt (s : State) (f : Tbl Nat → Tbl Nat) : (s.onLatched f).trt = s.trt := rfl
@[simp] theorem State.onLatched_mtr (s : State) (f : Tbl Nat → Tbl Nat) : (s.onLatched f).mtr = s.mtr := rfl
@[simp] theorem State.onLatched_sch (s : State) (f : Tbl Nat → Tbl Nat) : (s.onLatched f).sch = s.sch := rfl
@[simp] theorem State.onLatched_flt (s : State) (f : Tbl Nat → Tbl Nat) : (s.onLatched f).flt = s.flt := rfl
@[simp] theorem State.onLatched_mir (s : State) (f : Tbl Nat → Tbl Nat) : (s.onLatched f).mir = s.mir := rfl
@[simp] theorem State.onLatched_glb (s : State) (f : Tbl Nat → Tbl Nat) : (s.onLatched f).glb = s.glb := rfl
@[simp] theorem State.onLatched_pwr (s : State) (f : Tbl Nat → Tbl Nat) : (s.onLatched f).pwr = s.pwr := rfl
@[simp] theorem State.onLatched_pins (s : State) (f : Tbl Nat → Tbl Nat) : (s.onLatched f).pins = s.pins := rfl
@[simp] theorem State.onLatched_flash (s : State) (f : Tbl Nat → Tbl Nat) : (s.onLatched f).flash = s.flash := rfl
@[simp] theorem State.onLatched_latched (s : State) (f : Tbl Nat → Tbl Nat) : (s.onLatched f).latched = f s.latched := rfl
@[simp] theorem State.onLatched_stats (s : State) (f : Tbl Nat → Tbl Nat) : (s.onLatched f).stats = s.stats := rfl
@[simp] theorem State.onLatched_out (s : State) (f : Tbl Nat → Tbl Nat) : (s.onLatched f).out = s.out := rfl
@[simp] theorem State.onLatched_fresh (s : State) (f : Tbl Nat → Tbl Nat) : (s.onLatched f).fresh = s.fresh := rfl

@[simp] theorem State.onStats_pending (s : State) (f : Tbl Nat → Tbl Nat) : (s.onStats f).pending = s.pending := rfl
@[simp] theorem State.onStats_mem (s : State) (f : Tbl Nat → Tbl Nat) : (s.onStats f).mem = s.mem := rfl
@[simp] theorem State.onStats_rgn (s : State) (f : Tbl Nat → Tbl Nat) : (s.onStats f).rgn = s.rgn := rfl
@[simp] theorem State.onStats_dir (s : State) (f : Tbl Nat → Tbl Nat) : (s.onStats f).dir = s.dir := rfl
@[simp] theorem State.onStats_xlt (s : State) (f : Tbl Nat → Tbl Nat) : (s.onStats f).xlt = s.xlt := rfl
@[simp] theorem State.onStats_eng (s : State) (f : Tbl Nat → Tbl Nat) : (s.onStats f).eng = s.eng := rfl
@[simp] theorem State.onStats_opu (s : State) (f : Tbl Nat → Tbl Nat) : (s.onStats f).opu = s.opu := rfl
@[simp] theorem State.onStats_mcx (s : State) (f : Tbl Nat → Tbl Nat) : (s.onStats f).mcx = s.mcx := rfl
@[simp] theorem State.onStats_sec (s : State) (f : Tbl Nat → Tbl Nat) : (s.onStats f).sec = s.sec := rfl
@[simp] theorem State.onStats_cmd (s : State) (f : Tbl Nat → Tbl Nat) : (s.onStats f).cmd = s.cmd := rfl
@[simp] theorem State.onStats_pci (s : State) (f : Tbl Nat → Tbl Nat) : (s.onStats f).pci = s.pci := rfl
@[simp] theorem State.onStats_tlk (s : State) (f : Tbl Nat → Tbl Nat) : (s.onStats f).tlk = s.tlk := rfl
@[simp] theorem State.onStats_trt (s : State) (f : Tbl Nat → Tbl Nat) : (s.onStats f).trt = s.trt := rfl
@[simp] theorem State.onStats_mtr (s : State) (f : Tbl Nat → Tbl Nat) : (s.onStats f).mtr = s.mtr := rfl
@[simp] theorem State.onStats_sch (s : State) (f : Tbl Nat → Tbl Nat) : (s.onStats f).sch = s.sch := rfl
@[simp] theorem State.onStats_flt (s : State) (f : Tbl Nat → Tbl Nat) : (s.onStats f).flt = s.flt := rfl
@[simp] theorem State.onStats_mir (s : State) (f : Tbl Nat → Tbl Nat) : (s.onStats f).mir = s.mir := rfl
@[simp] theorem State.onStats_glb (s : State) (f : Tbl Nat → Tbl Nat) : (s.onStats f).glb = s.glb := rfl
@[simp] theorem State.onStats_pwr (s : State) (f : Tbl Nat → Tbl Nat) : (s.onStats f).pwr = s.pwr := rfl
@[simp] theorem State.onStats_pins (s : State) (f : Tbl Nat → Tbl Nat) : (s.onStats f).pins = s.pins := rfl
@[simp] theorem State.onStats_flash (s : State) (f : Tbl Nat → Tbl Nat) : (s.onStats f).flash = s.flash := rfl
@[simp] theorem State.onStats_latched (s : State) (f : Tbl Nat → Tbl Nat) : (s.onStats f).latched = s.latched := rfl
@[simp] theorem State.onStats_stats (s : State) (f : Tbl Nat → Tbl Nat) : (s.onStats f).stats = f s.stats := rfl
@[simp] theorem State.onStats_out (s : State) (f : Tbl Nat → Tbl Nat) : (s.onStats f).out = s.out := rfl
@[simp] theorem State.onStats_fresh (s : State) (f : Tbl Nat → Tbl Nat) : (s.onStats f).fresh = s.fresh := rfl

@[simp] theorem State.setMem_pending (s : State) (m : List Host.Cell) : (s.setMem m).pending = s.pending := rfl
@[simp] theorem State.setMem_mem (s : State) (m : List Host.Cell) : (s.setMem m).mem = m := rfl
@[simp] theorem State.setMem_rgn (s : State) (m : List Host.Cell) : (s.setMem m).rgn = s.rgn := rfl
@[simp] theorem State.setMem_dir (s : State) (m : List Host.Cell) : (s.setMem m).dir = s.dir := rfl
@[simp] theorem State.setMem_xlt (s : State) (m : List Host.Cell) : (s.setMem m).xlt = s.xlt := rfl
@[simp] theorem State.setMem_eng (s : State) (m : List Host.Cell) : (s.setMem m).eng = s.eng := rfl
@[simp] theorem State.setMem_opu (s : State) (m : List Host.Cell) : (s.setMem m).opu = s.opu := rfl
@[simp] theorem State.setMem_mcx (s : State) (m : List Host.Cell) : (s.setMem m).mcx = s.mcx := rfl
@[simp] theorem State.setMem_sec (s : State) (m : List Host.Cell) : (s.setMem m).sec = s.sec := rfl
@[simp] theorem State.setMem_cmd (s : State) (m : List Host.Cell) : (s.setMem m).cmd = s.cmd := rfl
@[simp] theorem State.setMem_pci (s : State) (m : List Host.Cell) : (s.setMem m).pci = s.pci := rfl
@[simp] theorem State.setMem_tlk (s : State) (m : List Host.Cell) : (s.setMem m).tlk = s.tlk := rfl
@[simp] theorem State.setMem_trt (s : State) (m : List Host.Cell) : (s.setMem m).trt = s.trt := rfl
@[simp] theorem State.setMem_mtr (s : State) (m : List Host.Cell) : (s.setMem m).mtr = s.mtr := rfl
@[simp] theorem State.setMem_sch (s : State) (m : List Host.Cell) : (s.setMem m).sch = s.sch := rfl
@[simp] theorem State.setMem_flt (s : State) (m : List Host.Cell) : (s.setMem m).flt = s.flt := rfl
@[simp] theorem State.setMem_mir (s : State) (m : List Host.Cell) : (s.setMem m).mir = s.mir := rfl
@[simp] theorem State.setMem_glb (s : State) (m : List Host.Cell) : (s.setMem m).glb = s.glb := rfl
@[simp] theorem State.setMem_pwr (s : State) (m : List Host.Cell) : (s.setMem m).pwr = s.pwr := rfl
@[simp] theorem State.setMem_pins (s : State) (m : List Host.Cell) : (s.setMem m).pins = s.pins := rfl
@[simp] theorem State.setMem_flash (s : State) (m : List Host.Cell) : (s.setMem m).flash = s.flash := rfl
@[simp] theorem State.setMem_latched (s : State) (m : List Host.Cell) : (s.setMem m).latched = s.latched := rfl
@[simp] theorem State.setMem_stats (s : State) (m : List Host.Cell) : (s.setMem m).stats = s.stats := rfl
@[simp] theorem State.setMem_out (s : State) (m : List Host.Cell) : (s.setMem m).out = s.out := rfl
@[simp] theorem State.setMem_fresh (s : State) (m : List Host.Cell) : (s.setMem m).fresh = s.fresh := rfl

@[simp] theorem State.emit_pending (s : State) (o : Out) : (s.emit o).pending = s.pending := rfl
@[simp] theorem State.emit_mem (s : State) (o : Out) : (s.emit o).mem = s.mem := rfl
@[simp] theorem State.emit_rgn (s : State) (o : Out) : (s.emit o).rgn = s.rgn := rfl
@[simp] theorem State.emit_dir (s : State) (o : Out) : (s.emit o).dir = s.dir := rfl
@[simp] theorem State.emit_xlt (s : State) (o : Out) : (s.emit o).xlt = s.xlt := rfl
@[simp] theorem State.emit_eng (s : State) (o : Out) : (s.emit o).eng = s.eng := rfl
@[simp] theorem State.emit_opu (s : State) (o : Out) : (s.emit o).opu = s.opu := rfl
@[simp] theorem State.emit_mcx (s : State) (o : Out) : (s.emit o).mcx = s.mcx := rfl
@[simp] theorem State.emit_sec (s : State) (o : Out) : (s.emit o).sec = s.sec := rfl
@[simp] theorem State.emit_cmd (s : State) (o : Out) : (s.emit o).cmd = s.cmd := rfl
@[simp] theorem State.emit_pci (s : State) (o : Out) : (s.emit o).pci = s.pci := rfl
@[simp] theorem State.emit_tlk (s : State) (o : Out) : (s.emit o).tlk = s.tlk := rfl
@[simp] theorem State.emit_trt (s : State) (o : Out) : (s.emit o).trt = s.trt := rfl
@[simp] theorem State.emit_mtr (s : State) (o : Out) : (s.emit o).mtr = s.mtr := rfl
@[simp] theorem State.emit_sch (s : State) (o : Out) : (s.emit o).sch = s.sch := rfl
@[simp] theorem State.emit_flt (s : State) (o : Out) : (s.emit o).flt = s.flt := rfl
@[simp] theorem State.emit_mir (s : State) (o : Out) : (s.emit o).mir = s.mir := rfl
@[simp] theorem State.emit_glb (s : State) (o : Out) : (s.emit o).glb = s.glb := rfl
@[simp] theorem State.emit_pwr (s : State) (o : Out) : (s.emit o).pwr = s.pwr := rfl
@[simp] theorem State.emit_pins (s : State) (o : Out) : (s.emit o).pins = s.pins := rfl
@[simp] theorem State.emit_flash (s : State) (o : Out) : (s.emit o).flash = s.flash := rfl
@[simp] theorem State.emit_latched (s : State) (o : Out) : (s.emit o).latched = s.latched := rfl
@[simp] theorem State.emit_stats (s : State) (o : Out) : (s.emit o).stats = s.stats := rfl
@[simp] theorem State.emit_out (s : State) (o : Out) : (s.emit o).out = o :: s.out := rfl
@[simp] theorem State.emit_fresh (s : State) (o : Out) : (s.emit o).fresh = s.fresh := rfl

@[simp] theorem State.draw_value (s : State) : s.draw.1 = s.fresh := rfl
@[simp] theorem State.draw_pending (s : State)  : (s.draw.2).pending = s.pending := rfl
@[simp] theorem State.draw_mem (s : State)  : (s.draw.2).mem = s.mem := rfl
@[simp] theorem State.draw_rgn (s : State)  : (s.draw.2).rgn = s.rgn := rfl
@[simp] theorem State.draw_dir (s : State)  : (s.draw.2).dir = s.dir := rfl
@[simp] theorem State.draw_xlt (s : State)  : (s.draw.2).xlt = s.xlt := rfl
@[simp] theorem State.draw_eng (s : State)  : (s.draw.2).eng = s.eng := rfl
@[simp] theorem State.draw_opu (s : State)  : (s.draw.2).opu = s.opu := rfl
@[simp] theorem State.draw_mcx (s : State)  : (s.draw.2).mcx = s.mcx := rfl
@[simp] theorem State.draw_sec (s : State)  : (s.draw.2).sec = s.sec := rfl
@[simp] theorem State.draw_cmd (s : State)  : (s.draw.2).cmd = s.cmd := rfl
@[simp] theorem State.draw_pci (s : State)  : (s.draw.2).pci = s.pci := rfl
@[simp] theorem State.draw_tlk (s : State)  : (s.draw.2).tlk = s.tlk := rfl
@[simp] theorem State.draw_trt (s : State)  : (s.draw.2).trt = s.trt := rfl
@[simp] theorem State.draw_mtr (s : State)  : (s.draw.2).mtr = s.mtr := rfl
@[simp] theorem State.draw_sch (s : State)  : (s.draw.2).sch = s.sch := rfl
@[simp] theorem State.draw_flt (s : State)  : (s.draw.2).flt = s.flt := rfl
@[simp] theorem State.draw_mir (s : State)  : (s.draw.2).mir = s.mir := rfl
@[simp] theorem State.draw_glb (s : State)  : (s.draw.2).glb = s.glb := rfl
@[simp] theorem State.draw_pwr (s : State)  : (s.draw.2).pwr = s.pwr := rfl
@[simp] theorem State.draw_pins (s : State)  : (s.draw.2).pins = s.pins := rfl
@[simp] theorem State.draw_flash (s : State)  : (s.draw.2).flash = s.flash := rfl
@[simp] theorem State.draw_latched (s : State)  : (s.draw.2).latched = s.latched := rfl
@[simp] theorem State.draw_stats (s : State)  : (s.draw.2).stats = s.stats := rfl
@[simp] theorem State.draw_out (s : State)  : (s.draw.2).out = s.out := rfl
@[simp] theorem State.draw_fresh (s : State)  : (s.draw.2).fresh = s.fresh + 1 := rfl

@[simp] theorem State.onTime_pending (s : State) (f : Time → Time) : (s.onTime f).pending = s.pending := rfl
@[simp] theorem State.onTime_mem (s : State) (f : Time → Time) : (s.onTime f).mem = s.mem := rfl
@[simp] theorem State.onTime_rgn (s : State) (f : Time → Time) : (s.onTime f).rgn = s.rgn := rfl
@[simp] theorem State.onTime_dir (s : State) (f : Time → Time) : (s.onTime f).dir = s.dir := rfl
@[simp] theorem State.onTime_xlt (s : State) (f : Time → Time) : (s.onTime f).xlt = s.xlt := rfl
@[simp] theorem State.onTime_eng (s : State) (f : Time → Time) : (s.onTime f).eng = s.eng := rfl
@[simp] theorem State.onTime_opu (s : State) (f : Time → Time) : (s.onTime f).opu = s.opu := rfl
@[simp] theorem State.onTime_mcx (s : State) (f : Time → Time) : (s.onTime f).mcx = s.mcx := rfl
@[simp] theorem State.onTime_sec (s : State) (f : Time → Time) : (s.onTime f).sec = s.sec := rfl
@[simp] theorem State.onTime_cmd (s : State) (f : Time → Time) : (s.onTime f).cmd = s.cmd := rfl
@[simp] theorem State.onTime_pci (s : State) (f : Time → Time) : (s.onTime f).pci = s.pci := rfl
@[simp] theorem State.onTime_tlk (s : State) (f : Time → Time) : (s.onTime f).tlk = s.tlk := rfl
@[simp] theorem State.onTime_trt (s : State) (f : Time → Time) : (s.onTime f).trt = s.trt := rfl
@[simp] theorem State.onTime_mtr (s : State) (f : Time → Time) : (s.onTime f).mtr = s.mtr := rfl
@[simp] theorem State.onTime_sch (s : State) (f : Time → Time) : (s.onTime f).sch = s.sch := rfl
@[simp] theorem State.onTime_flt (s : State) (f : Time → Time) : (s.onTime f).flt = s.flt := rfl
@[simp] theorem State.onTime_mir (s : State) (f : Time → Time) : (s.onTime f).mir = s.mir := rfl
@[simp] theorem State.onTime_glb (s : State) (f : Time → Time) : (s.onTime f).glb = { s.glb with time := f s.glb.time } := rfl
@[simp] theorem State.onTime_pwr (s : State) (f : Time → Time) : (s.onTime f).pwr = s.pwr := rfl
@[simp] theorem State.onTime_pins (s : State) (f : Time → Time) : (s.onTime f).pins = s.pins := rfl
@[simp] theorem State.onTime_flash (s : State) (f : Time → Time) : (s.onTime f).flash = s.flash := rfl
@[simp] theorem State.onTime_latched (s : State) (f : Time → Time) : (s.onTime f).latched = s.latched := rfl
@[simp] theorem State.onTime_stats (s : State) (f : Time → Time) : (s.onTime f).stats = s.stats := rfl
@[simp] theorem State.onTime_out (s : State) (f : Time → Time) : (s.onTime f).out = s.out := rfl
@[simp] theorem State.onTime_fresh (s : State) (f : Time → Time) : (s.onTime f).fresh = s.fresh := rfl

@[simp] theorem State.setFn_pending (s : State) (fn : Nat) (f : Func → Func) : (s.setFn fn f).pending = s.pending := rfl
@[simp] theorem State.setFn_mem (s : State) (fn : Nat) (f : Func → Func) : (s.setFn fn f).mem = s.mem := rfl
@[simp] theorem State.setFn_rgn (s : State) (fn : Nat) (f : Func → Func) : (s.setFn fn f).rgn = s.rgn := rfl
@[simp] theorem State.setFn_dir (s : State) (fn : Nat) (f : Func → Func) : (s.setFn fn f).dir = s.dir := rfl
@[simp] theorem State.setFn_xlt (s : State) (fn : Nat) (f : Func → Func) : (s.setFn fn f).xlt = s.xlt := rfl
@[simp] theorem State.setFn_eng (s : State) (fn : Nat) (f : Func → Func) : (s.setFn fn f).eng = s.eng := rfl
@[simp] theorem State.setFn_opu (s : State) (fn : Nat) (f : Func → Func) : (s.setFn fn f).opu = s.opu := rfl
@[simp] theorem State.setFn_mcx (s : State) (fn : Nat) (f : Func → Func) : (s.setFn fn f).mcx = s.mcx := rfl
@[simp] theorem State.setFn_sec (s : State) (fn : Nat) (f : Func → Func) : (s.setFn fn f).sec = s.sec := rfl
@[simp] theorem State.setFn_cmd (s : State) (fn : Nat) (f : Func → Func) : (s.setFn fn f).cmd = s.cmd := rfl
@[simp] theorem State.setFn_pci (s : State) (fn : Nat) (f : Func → Func) : (s.setFn fn f).pci = { s.pci with funcs := Tbl.upd s.pci.funcs fn f } := rfl
@[simp] theorem State.setFn_tlk (s : State) (fn : Nat) (f : Func → Func) : (s.setFn fn f).tlk = s.tlk := rfl
@[simp] theorem State.setFn_trt (s : State) (fn : Nat) (f : Func → Func) : (s.setFn fn f).trt = s.trt := rfl
@[simp] theorem State.setFn_mtr (s : State) (fn : Nat) (f : Func → Func) : (s.setFn fn f).mtr = s.mtr := rfl
@[simp] theorem State.setFn_sch (s : State) (fn : Nat) (f : Func → Func) : (s.setFn fn f).sch = s.sch := rfl
@[simp] theorem State.setFn_flt (s : State) (fn : Nat) (f : Func → Func) : (s.setFn fn f).flt = s.flt := rfl
@[simp] theorem State.setFn_mir (s : State) (fn : Nat) (f : Func → Func) : (s.setFn fn f).mir = s.mir := rfl
@[simp] theorem State.setFn_glb (s : State) (fn : Nat) (f : Func → Func) : (s.setFn fn f).glb = s.glb := rfl
@[simp] theorem State.setFn_pwr (s : State) (fn : Nat) (f : Func → Func) : (s.setFn fn f).pwr = s.pwr := rfl
@[simp] theorem State.setFn_pins (s : State) (fn : Nat) (f : Func → Func) : (s.setFn fn f).pins = s.pins := rfl
@[simp] theorem State.setFn_flash (s : State) (fn : Nat) (f : Func → Func) : (s.setFn fn f).flash = s.flash := rfl
@[simp] theorem State.setFn_latched (s : State) (fn : Nat) (f : Func → Func) : (s.setFn fn f).latched = s.latched := rfl
@[simp] theorem State.setFn_stats (s : State) (fn : Nat) (f : Func → Func) : (s.setFn fn f).stats = s.stats := rfl
@[simp] theorem State.setFn_out (s : State) (fn : Nat) (f : Func → Func) : (s.setFn fn f).out = s.out := rfl
@[simp] theorem State.setFn_fresh (s : State) (fn : Nat) (f : Func → Func) : (s.setFn fn f).fresh = s.fresh := rfl

@[simp] theorem State.setIntake_pending (s : State) (k : Nat) (f : Intake → Intake) : (s.setIntake k f).pending = s.pending := rfl
@[simp] theorem State.setIntake_mem (s : State) (k : Nat) (f : Intake → Intake) : (s.setIntake k f).mem = s.mem := rfl
@[simp] theorem State.setIntake_rgn (s : State) (k : Nat) (f : Intake → Intake) : (s.setIntake k f).rgn = s.rgn := rfl
@[simp] theorem State.setIntake_dir (s : State) (k : Nat) (f : Intake → Intake) : (s.setIntake k f).dir = s.dir := rfl
@[simp] theorem State.setIntake_xlt (s : State) (k : Nat) (f : Intake → Intake) : (s.setIntake k f).xlt = s.xlt := rfl
@[simp] theorem State.setIntake_eng (s : State) (k : Nat) (f : Intake → Intake) : (s.setIntake k f).eng = s.eng := rfl
@[simp] theorem State.setIntake_opu (s : State) (k : Nat) (f : Intake → Intake) : (s.setIntake k f).opu = s.opu := rfl
@[simp] theorem State.setIntake_mcx (s : State) (k : Nat) (f : Intake → Intake) : (s.setIntake k f).mcx = s.mcx := rfl
@[simp] theorem State.setIntake_sec (s : State) (k : Nat) (f : Intake → Intake) : (s.setIntake k f).sec = s.sec := rfl
@[simp] theorem State.setIntake_cmd (s : State) (k : Nat) (f : Intake → Intake) : (s.setIntake k f).cmd = { s.cmd with fns := Tbl.modD s.cmd.fns k {} f } := rfl
@[simp] theorem State.setIntake_pci (s : State) (k : Nat) (f : Intake → Intake) : (s.setIntake k f).pci = s.pci := rfl
@[simp] theorem State.setIntake_tlk (s : State) (k : Nat) (f : Intake → Intake) : (s.setIntake k f).tlk = s.tlk := rfl
@[simp] theorem State.setIntake_trt (s : State) (k : Nat) (f : Intake → Intake) : (s.setIntake k f).trt = s.trt := rfl
@[simp] theorem State.setIntake_mtr (s : State) (k : Nat) (f : Intake → Intake) : (s.setIntake k f).mtr = s.mtr := rfl
@[simp] theorem State.setIntake_sch (s : State) (k : Nat) (f : Intake → Intake) : (s.setIntake k f).sch = s.sch := rfl
@[simp] theorem State.setIntake_flt (s : State) (k : Nat) (f : Intake → Intake) : (s.setIntake k f).flt = s.flt := rfl
@[simp] theorem State.setIntake_mir (s : State) (k : Nat) (f : Intake → Intake) : (s.setIntake k f).mir = s.mir := rfl
@[simp] theorem State.setIntake_glb (s : State) (k : Nat) (f : Intake → Intake) : (s.setIntake k f).glb = s.glb := rfl
@[simp] theorem State.setIntake_pwr (s : State) (k : Nat) (f : Intake → Intake) : (s.setIntake k f).pwr = s.pwr := rfl
@[simp] theorem State.setIntake_pins (s : State) (k : Nat) (f : Intake → Intake) : (s.setIntake k f).pins = s.pins := rfl
@[simp] theorem State.setIntake_flash (s : State) (k : Nat) (f : Intake → Intake) : (s.setIntake k f).flash = s.flash := rfl
@[simp] theorem State.setIntake_latched (s : State) (k : Nat) (f : Intake → Intake) : (s.setIntake k f).latched = s.latched := rfl
@[simp] theorem State.setIntake_stats (s : State) (k : Nat) (f : Intake → Intake) : (s.setIntake k f).stats = s.stats := rfl
@[simp] theorem State.setIntake_out (s : State) (k : Nat) (f : Intake → Intake) : (s.setIntake k f).out = s.out := rfl
@[simp] theorem State.setIntake_fresh (s : State) (k : Nat) (f : Intake → Intake) : (s.setIntake k f).fresh = s.fresh := rfl

@[simp] theorem State.setAgent_pending (s : State) (k : Nat) (f : AgentSt → AgentSt) : (s.setAgent k f).pending = s.pending := rfl
@[simp] theorem State.setAgent_mem (s : State) (k : Nat) (f : AgentSt → AgentSt) : (s.setAgent k f).mem = s.mem := rfl
@[simp] theorem State.setAgent_rgn (s : State) (k : Nat) (f : AgentSt → AgentSt) : (s.setAgent k f).rgn = s.rgn := rfl
@[simp] theorem State.setAgent_dir (s : State) (k : Nat) (f : AgentSt → AgentSt) : (s.setAgent k f).dir = { s.dir with agents := Tbl.modD s.dir.agents k {} f } := rfl
@[simp] theorem State.setAgent_xlt (s : State) (k : Nat) (f : AgentSt → AgentSt) : (s.setAgent k f).xlt = s.xlt := rfl
@[simp] theorem State.setAgent_eng (s : State) (k : Nat) (f : AgentSt → AgentSt) : (s.setAgent k f).eng = s.eng := rfl
@[simp] theorem State.setAgent_opu (s : State) (k : Nat) (f : AgentSt → AgentSt) : (s.setAgent k f).opu = s.opu := rfl
@[simp] theorem State.setAgent_mcx (s : State) (k : Nat) (f : AgentSt → AgentSt) : (s.setAgent k f).mcx = s.mcx := rfl
@[simp] theorem State.setAgent_sec (s : State) (k : Nat) (f : AgentSt → AgentSt) : (s.setAgent k f).sec = s.sec := rfl
@[simp] theorem State.setAgent_cmd (s : State) (k : Nat) (f : AgentSt → AgentSt) : (s.setAgent k f).cmd = s.cmd := rfl
@[simp] theorem State.setAgent_pci (s : State) (k : Nat) (f : AgentSt → AgentSt) : (s.setAgent k f).pci = s.pci := rfl
@[simp] theorem State.setAgent_tlk (s : State) (k : Nat) (f : AgentSt → AgentSt) : (s.setAgent k f).tlk = s.tlk := rfl
@[simp] theorem State.setAgent_trt (s : State) (k : Nat) (f : AgentSt → AgentSt) : (s.setAgent k f).trt = s.trt := rfl
@[simp] theorem State.setAgent_mtr (s : State) (k : Nat) (f : AgentSt → AgentSt) : (s.setAgent k f).mtr = s.mtr := rfl
@[simp] theorem State.setAgent_sch (s : State) (k : Nat) (f : AgentSt → AgentSt) : (s.setAgent k f).sch = s.sch := rfl
@[simp] theorem State.setAgent_flt (s : State) (k : Nat) (f : AgentSt → AgentSt) : (s.setAgent k f).flt = s.flt := rfl
@[simp] theorem State.setAgent_mir (s : State) (k : Nat) (f : AgentSt → AgentSt) : (s.setAgent k f).mir = s.mir := rfl
@[simp] theorem State.setAgent_glb (s : State) (k : Nat) (f : AgentSt → AgentSt) : (s.setAgent k f).glb = s.glb := rfl
@[simp] theorem State.setAgent_pwr (s : State) (k : Nat) (f : AgentSt → AgentSt) : (s.setAgent k f).pwr = s.pwr := rfl
@[simp] theorem State.setAgent_pins (s : State) (k : Nat) (f : AgentSt → AgentSt) : (s.setAgent k f).pins = s.pins := rfl
@[simp] theorem State.setAgent_flash (s : State) (k : Nat) (f : AgentSt → AgentSt) : (s.setAgent k f).flash = s.flash := rfl
@[simp] theorem State.setAgent_latched (s : State) (k : Nat) (f : AgentSt → AgentSt) : (s.setAgent k f).latched = s.latched := rfl
@[simp] theorem State.setAgent_stats (s : State) (k : Nat) (f : AgentSt → AgentSt) : (s.setAgent k f).stats = s.stats := rfl
@[simp] theorem State.setAgent_out (s : State) (k : Nat) (f : AgentSt → AgentSt) : (s.setAgent k f).out = s.out := rfl
@[simp] theorem State.setAgent_fresh (s : State) (k : Nat) (f : AgentSt → AgentSt) : (s.setAgent k f).fresh = s.fresh := rfl

@[simp] theorem State.setRoute_pending (s : State) (k : Nat) (f : Route → Route) : (s.setRoute k f).pending = s.pending := rfl
@[simp] theorem State.setRoute_mem (s : State) (k : Nat) (f : Route → Route) : (s.setRoute k f).mem = s.mem := rfl
@[simp] theorem State.setRoute_rgn (s : State) (k : Nat) (f : Route → Route) : (s.setRoute k f).rgn = s.rgn := rfl
@[simp] theorem State.setRoute_dir (s : State) (k : Nat) (f : Route → Route) : (s.setRoute k f).dir = s.dir := rfl
@[simp] theorem State.setRoute_xlt (s : State) (k : Nat) (f : Route → Route) : (s.setRoute k f).xlt = s.xlt := rfl
@[simp] theorem State.setRoute_eng (s : State) (k : Nat) (f : Route → Route) : (s.setRoute k f).eng = s.eng := rfl
@[simp] theorem State.setRoute_opu (s : State) (k : Nat) (f : Route → Route) : (s.setRoute k f).opu = s.opu := rfl
@[simp] theorem State.setRoute_mcx (s : State) (k : Nat) (f : Route → Route) : (s.setRoute k f).mcx = s.mcx := rfl
@[simp] theorem State.setRoute_sec (s : State) (k : Nat) (f : Route → Route) : (s.setRoute k f).sec = s.sec := rfl
@[simp] theorem State.setRoute_cmd (s : State) (k : Nat) (f : Route → Route) : (s.setRoute k f).cmd = s.cmd := rfl
@[simp] theorem State.setRoute_pci (s : State) (k : Nat) (f : Route → Route) : (s.setRoute k f).pci = s.pci := rfl
@[simp] theorem State.setRoute_tlk (s : State) (k : Nat) (f : Route → Route) : (s.setRoute k f).tlk = s.tlk := rfl
@[simp] theorem State.setRoute_trt (s : State) (k : Nat) (f : Route → Route) : (s.setRoute k f).trt = { s.trt with routes := Tbl.modD s.trt.routes k {} f } := rfl
@[simp] theorem State.setRoute_mtr (s : State) (k : Nat) (f : Route → Route) : (s.setRoute k f).mtr = s.mtr := rfl
@[simp] theorem State.setRoute_sch (s : State) (k : Nat) (f : Route → Route) : (s.setRoute k f).sch = s.sch := rfl
@[simp] theorem State.setRoute_flt (s : State) (k : Nat) (f : Route → Route) : (s.setRoute k f).flt = s.flt := rfl
@[simp] theorem State.setRoute_mir (s : State) (k : Nat) (f : Route → Route) : (s.setRoute k f).mir = s.mir := rfl
@[simp] theorem State.setRoute_glb (s : State) (k : Nat) (f : Route → Route) : (s.setRoute k f).glb = s.glb := rfl
@[simp] theorem State.setRoute_pwr (s : State) (k : Nat) (f : Route → Route) : (s.setRoute k f).pwr = s.pwr := rfl
@[simp] theorem State.setRoute_pins (s : State) (k : Nat) (f : Route → Route) : (s.setRoute k f).pins = s.pins := rfl
@[simp] theorem State.setRoute_flash (s : State) (k : Nat) (f : Route → Route) : (s.setRoute k f).flash = s.flash := rfl
@[simp] theorem State.setRoute_latched (s : State) (k : Nat) (f : Route → Route) : (s.setRoute k f).latched = s.latched := rfl
@[simp] theorem State.setRoute_stats (s : State) (k : Nat) (f : Route → Route) : (s.setRoute k f).stats = s.stats := rfl
@[simp] theorem State.setRoute_out (s : State) (k : Nat) (f : Route → Route) : (s.setRoute k f).out = s.out := rfl
@[simp] theorem State.setRoute_fresh (s : State) (k : Nat) (f : Route → Route) : (s.setRoute k f).fresh = s.fresh := rfl

@[simp] theorem State.setPort_pending (s : State) (k : Nat) (f : Port → Port) : (s.setPort k f).pending = s.pending := rfl
@[simp] theorem State.setPort_mem (s : State) (k : Nat) (f : Port → Port) : (s.setPort k f).mem = s.mem := rfl
@[simp] theorem State.setPort_rgn (s : State) (k : Nat) (f : Port → Port) : (s.setPort k f).rgn = s.rgn := rfl
@[simp] theorem State.setPort_dir (s : State) (k : Nat) (f : Port → Port) : (s.setPort k f).dir = s.dir := rfl
@[simp] theorem State.setPort_xlt (s : State) (k : Nat) (f : Port → Port) : (s.setPort k f).xlt = s.xlt := rfl
@[simp] theorem State.setPort_eng (s : State) (k : Nat) (f : Port → Port) : (s.setPort k f).eng = s.eng := rfl
@[simp] theorem State.setPort_opu (s : State) (k : Nat) (f : Port → Port) : (s.setPort k f).opu = s.opu := rfl
@[simp] theorem State.setPort_mcx (s : State) (k : Nat) (f : Port → Port) : (s.setPort k f).mcx = s.mcx := rfl
@[simp] theorem State.setPort_sec (s : State) (k : Nat) (f : Port → Port) : (s.setPort k f).sec = s.sec := rfl
@[simp] theorem State.setPort_cmd (s : State) (k : Nat) (f : Port → Port) : (s.setPort k f).cmd = s.cmd := rfl
@[simp] theorem State.setPort_pci (s : State) (k : Nat) (f : Port → Port) : (s.setPort k f).pci = s.pci := rfl
@[simp] theorem State.setPort_tlk (s : State) (k : Nat) (f : Port → Port) : (s.setPort k f).tlk = { s.tlk with ports := Tbl.modD s.tlk.ports k {} f } := rfl
@[simp] theorem State.setPort_trt (s : State) (k : Nat) (f : Port → Port) : (s.setPort k f).trt = s.trt := rfl
@[simp] theorem State.setPort_mtr (s : State) (k : Nat) (f : Port → Port) : (s.setPort k f).mtr = s.mtr := rfl
@[simp] theorem State.setPort_sch (s : State) (k : Nat) (f : Port → Port) : (s.setPort k f).sch = s.sch := rfl
@[simp] theorem State.setPort_flt (s : State) (k : Nat) (f : Port → Port) : (s.setPort k f).flt = s.flt := rfl
@[simp] theorem State.setPort_mir (s : State) (k : Nat) (f : Port → Port) : (s.setPort k f).mir = s.mir := rfl
@[simp] theorem State.setPort_glb (s : State) (k : Nat) (f : Port → Port) : (s.setPort k f).glb = s.glb := rfl
@[simp] theorem State.setPort_pwr (s : State) (k : Nat) (f : Port → Port) : (s.setPort k f).pwr = s.pwr := rfl
@[simp] theorem State.setPort_pins (s : State) (k : Nat) (f : Port → Port) : (s.setPort k f).pins = s.pins := rfl
@[simp] theorem State.setPort_flash (s : State) (k : Nat) (f : Port → Port) : (s.setPort k f).flash = s.flash := rfl
@[simp] theorem State.setPort_latched (s : State) (k : Nat) (f : Port → Port) : (s.setPort k f).latched = s.latched := rfl
@[simp] theorem State.setPort_stats (s : State) (k : Nat) (f : Port → Port) : (s.setPort k f).stats = s.stats := rfl
@[simp] theorem State.setPort_out (s : State) (k : Nat) (f : Port → Port) : (s.setPort k f).out = s.out := rfl
@[simp] theorem State.setPort_fresh (s : State) (k : Nat) (f : Port → Port) : (s.setPort k f).fresh = s.fresh := rfl

@[simp] theorem State.setSch_pending (s : State) (k : Nat) (f : SchPort → SchPort) : (s.setSch k f).pending = s.pending := rfl
@[simp] theorem State.setSch_mem (s : State) (k : Nat) (f : SchPort → SchPort) : (s.setSch k f).mem = s.mem := rfl
@[simp] theorem State.setSch_rgn (s : State) (k : Nat) (f : SchPort → SchPort) : (s.setSch k f).rgn = s.rgn := rfl
@[simp] theorem State.setSch_dir (s : State) (k : Nat) (f : SchPort → SchPort) : (s.setSch k f).dir = s.dir := rfl
@[simp] theorem State.setSch_xlt (s : State) (k : Nat) (f : SchPort → SchPort) : (s.setSch k f).xlt = s.xlt := rfl
@[simp] theorem State.setSch_eng (s : State) (k : Nat) (f : SchPort → SchPort) : (s.setSch k f).eng = s.eng := rfl
@[simp] theorem State.setSch_opu (s : State) (k : Nat) (f : SchPort → SchPort) : (s.setSch k f).opu = s.opu := rfl
@[simp] theorem State.setSch_mcx (s : State) (k : Nat) (f : SchPort → SchPort) : (s.setSch k f).mcx = s.mcx := rfl
@[simp] theorem State.setSch_sec (s : State) (k : Nat) (f : SchPort → SchPort) : (s.setSch k f).sec = s.sec := rfl
@[simp] theorem State.setSch_cmd (s : State) (k : Nat) (f : SchPort → SchPort) : (s.setSch k f).cmd = s.cmd := rfl
@[simp] theorem State.setSch_pci (s : State) (k : Nat) (f : SchPort → SchPort) : (s.setSch k f).pci = s.pci := rfl
@[simp] theorem State.setSch_tlk (s : State) (k : Nat) (f : SchPort → SchPort) : (s.setSch k f).tlk = s.tlk := rfl
@[simp] theorem State.setSch_trt (s : State) (k : Nat) (f : SchPort → SchPort) : (s.setSch k f).trt = s.trt := rfl
@[simp] theorem State.setSch_mtr (s : State) (k : Nat) (f : SchPort → SchPort) : (s.setSch k f).mtr = s.mtr := rfl
@[simp] theorem State.setSch_sch (s : State) (k : Nat) (f : SchPort → SchPort) : (s.setSch k f).sch = { s.sch with ports := Tbl.modD s.sch.ports k {} f } := rfl
@[simp] theorem State.setSch_flt (s : State) (k : Nat) (f : SchPort → SchPort) : (s.setSch k f).flt = s.flt := rfl
@[simp] theorem State.setSch_mir (s : State) (k : Nat) (f : SchPort → SchPort) : (s.setSch k f).mir = s.mir := rfl
@[simp] theorem State.setSch_glb (s : State) (k : Nat) (f : SchPort → SchPort) : (s.setSch k f).glb = s.glb := rfl
@[simp] theorem State.setSch_pwr (s : State) (k : Nat) (f : SchPort → SchPort) : (s.setSch k f).pwr = s.pwr := rfl
@[simp] theorem State.setSch_pins (s : State) (k : Nat) (f : SchPort → SchPort) : (s.setSch k f).pins = s.pins := rfl
@[simp] theorem State.setSch_flash (s : State) (k : Nat) (f : SchPort → SchPort) : (s.setSch k f).flash = s.flash := rfl
@[simp] theorem State.setSch_latched (s : State) (k : Nat) (f : SchPort → SchPort) : (s.setSch k f).latched = s.latched := rfl
@[simp] theorem State.setSch_stats (s : State) (k : Nat) (f : SchPort → SchPort) : (s.setSch k f).stats = s.stats := rfl
@[simp] theorem State.setSch_out (s : State) (k : Nat) (f : SchPort → SchPort) : (s.setSch k f).out = s.out := rfl
@[simp] theorem State.setSch_fresh (s : State) (k : Nat) (f : SchPort → SchPort) : (s.setSch k f).fresh = s.fresh := rfl

@[simp] theorem State.setEntry_pending (s : State) (k : Nat) (f : DirEntry → DirEntry) : (s.setEntry k f).pending = s.pending := rfl
@[simp] theorem State.setEntry_mem (s : State) (k : Nat) (f : DirEntry → DirEntry) : (s.setEntry k f).mem = s.mem := rfl
@[simp] theorem State.setEntry_rgn (s : State) (k : Nat) (f : DirEntry → DirEntry) : (s.setEntry k f).rgn = s.rgn := rfl
@[simp] theorem State.setEntry_dir (s : State) (k : Nat) (f : DirEntry → DirEntry) : (s.setEntry k f).dir = { s.dir with entries := Tbl.modD s.dir.entries k {} f } := rfl
@[simp] theorem State.setEntry_xlt (s : State) (k : Nat) (f : DirEntry → DirEntry) : (s.setEntry k f).xlt = s.xlt := rfl
@[simp] theorem State.setEntry_eng (s : State) (k : Nat) (f : DirEntry → DirEntry) : (s.setEntry k f).eng = s.eng := rfl
@[simp] theorem State.setEntry_opu (s : State) (k : Nat) (f : DirEntry → DirEntry) : (s.setEntry k f).opu = s.opu := rfl
@[simp] theorem State.setEntry_mcx (s : State) (k : Nat) (f : DirEntry → DirEntry) : (s.setEntry k f).mcx = s.mcx := rfl
@[simp] theorem State.setEntry_sec (s : State) (k : Nat) (f : DirEntry → DirEntry) : (s.setEntry k f).sec = s.sec := rfl
@[simp] theorem State.setEntry_cmd (s : State) (k : Nat) (f : DirEntry → DirEntry) : (s.setEntry k f).cmd = s.cmd := rfl
@[simp] theorem State.setEntry_pci (s : State) (k : Nat) (f : DirEntry → DirEntry) : (s.setEntry k f).pci = s.pci := rfl
@[simp] theorem State.setEntry_tlk (s : State) (k : Nat) (f : DirEntry → DirEntry) : (s.setEntry k f).tlk = s.tlk := rfl
@[simp] theorem State.setEntry_trt (s : State) (k : Nat) (f : DirEntry → DirEntry) : (s.setEntry k f).trt = s.trt := rfl
@[simp] theorem State.setEntry_mtr (s : State) (k : Nat) (f : DirEntry → DirEntry) : (s.setEntry k f).mtr = s.mtr := rfl
@[simp] theorem State.setEntry_sch (s : State) (k : Nat) (f : DirEntry → DirEntry) : (s.setEntry k f).sch = s.sch := rfl
@[simp] theorem State.setEntry_flt (s : State) (k : Nat) (f : DirEntry → DirEntry) : (s.setEntry k f).flt = s.flt := rfl
@[simp] theorem State.setEntry_mir (s : State) (k : Nat) (f : DirEntry → DirEntry) : (s.setEntry k f).mir = s.mir := rfl
@[simp] theorem State.setEntry_glb (s : State) (k : Nat) (f : DirEntry → DirEntry) : (s.setEntry k f).glb = s.glb := rfl
@[simp] theorem State.setEntry_pwr (s : State) (k : Nat) (f : DirEntry → DirEntry) : (s.setEntry k f).pwr = s.pwr := rfl
@[simp] theorem State.setEntry_pins (s : State) (k : Nat) (f : DirEntry → DirEntry) : (s.setEntry k f).pins = s.pins := rfl
@[simp] theorem State.setEntry_flash (s : State) (k : Nat) (f : DirEntry → DirEntry) : (s.setEntry k f).flash = s.flash := rfl
@[simp] theorem State.setEntry_latched (s : State) (k : Nat) (f : DirEntry → DirEntry) : (s.setEntry k f).latched = s.latched := rfl
@[simp] theorem State.setEntry_stats (s : State) (k : Nat) (f : DirEntry → DirEntry) : (s.setEntry k f).stats = s.stats := rfl
@[simp] theorem State.setEntry_out (s : State) (k : Nat) (f : DirEntry → DirEntry) : (s.setEntry k f).out = s.out := rfl
@[simp] theorem State.setEntry_fresh (s : State) (k : Nat) (f : DirEntry → DirEntry) : (s.setEntry k f).fresh = s.fresh := rfl

@[simp] theorem State.setRegion_pending (s : State) (k : Nat) (f : Region → Region) : (s.setRegion k f).pending = s.pending := rfl
@[simp] theorem State.setRegion_mem (s : State) (k : Nat) (f : Region → Region) : (s.setRegion k f).mem = s.mem := rfl
@[simp] theorem State.setRegion_rgn (s : State) (k : Nat) (f : Region → Region) : (s.setRegion k f).rgn = { s.rgn with regions := Tbl.modD s.rgn.regions k {} f } := rfl
@[simp] theorem State.setRegion_dir (s : State) (k : Nat) (f : Region → Region) : (s.setRegion k f).dir = s.dir := rfl
@[simp] theorem State.setRegion_xlt (s : State) (k : Nat) (f : Region → Region) : (s.setRegion k f).xlt = s.xlt := rfl
@[simp] theorem State.setRegion_eng (s : State) (k : Nat) (f : Region → Region) : (s.setRegion k f).eng = s.eng := rfl
@[simp] theorem State.setRegion_opu (s : State) (k : Nat) (f : Region → Region) : (s.setRegion k f).opu = s.opu := rfl
@[simp] theorem State.setRegion_mcx (s : State) (k : Nat) (f : Region → Region) : (s.setRegion k f).mcx = s.mcx := rfl
@[simp] theorem State.setRegion_sec (s : State) (k : Nat) (f : Region → Region) : (s.setRegion k f).sec = s.sec := rfl
@[simp] theorem State.setRegion_cmd (s : State) (k : Nat) (f : Region → Region) : (s.setRegion k f).cmd = s.cmd := rfl
@[simp] theorem State.setRegion_pci (s : State) (k : Nat) (f : Region → Region) : (s.setRegion k f).pci = s.pci := rfl
@[simp] theorem State.setRegion_tlk (s : State) (k : Nat) (f : Region → Region) : (s.setRegion k f).tlk = s.tlk := rfl
@[simp] theorem State.setRegion_trt (s : State) (k : Nat) (f : Region → Region) : (s.setRegion k f).trt = s.trt := rfl
@[simp] theorem State.setRegion_mtr (s : State) (k : Nat) (f : Region → Region) : (s.setRegion k f).mtr = s.mtr := rfl
@[simp] theorem State.setRegion_sch (s : State) (k : Nat) (f : Region → Region) : (s.setRegion k f).sch = s.sch := rfl
@[simp] theorem State.setRegion_flt (s : State) (k : Nat) (f : Region → Region) : (s.setRegion k f).flt = s.flt := rfl
@[simp] theorem State.setRegion_mir (s : State) (k : Nat) (f : Region → Region) : (s.setRegion k f).mir = s.mir := rfl
@[simp] theorem State.setRegion_glb (s : State) (k : Nat) (f : Region → Region) : (s.setRegion k f).glb = s.glb := rfl
@[simp] theorem State.setRegion_pwr (s : State) (k : Nat) (f : Region → Region) : (s.setRegion k f).pwr = s.pwr := rfl
@[simp] theorem State.setRegion_pins (s : State) (k : Nat) (f : Region → Region) : (s.setRegion k f).pins = s.pins := rfl
@[simp] theorem State.setRegion_flash (s : State) (k : Nat) (f : Region → Region) : (s.setRegion k f).flash = s.flash := rfl
@[simp] theorem State.setRegion_latched (s : State) (k : Nat) (f : Region → Region) : (s.setRegion k f).latched = s.latched := rfl
@[simp] theorem State.setRegion_stats (s : State) (k : Nat) (f : Region → Region) : (s.setRegion k f).stats = s.stats := rfl
@[simp] theorem State.setRegion_out (s : State) (k : Nat) (f : Region → Region) : (s.setRegion k f).out = s.out := rfl
@[simp] theorem State.setRegion_fresh (s : State) (k : Nat) (f : Region → Region) : (s.setRegion k f).fresh = s.fresh := rfl

@[simp] theorem State.setUnit_pending (s : State) (k : Nat) (f : EngUnit → EngUnit) : (s.setUnit k f).pending = s.pending := rfl
@[simp] theorem State.setUnit_mem (s : State) (k : Nat) (f : EngUnit → EngUnit) : (s.setUnit k f).mem = s.mem := rfl
@[simp] theorem State.setUnit_rgn (s : State) (k : Nat) (f : EngUnit → EngUnit) : (s.setUnit k f).rgn = s.rgn := rfl
@[simp] theorem State.setUnit_dir (s : State) (k : Nat) (f : EngUnit → EngUnit) : (s.setUnit k f).dir = s.dir := rfl
@[simp] theorem State.setUnit_xlt (s : State) (k : Nat) (f : EngUnit → EngUnit) : (s.setUnit k f).xlt = s.xlt := rfl
@[simp] theorem State.setUnit_eng (s : State) (k : Nat) (f : EngUnit → EngUnit) : (s.setUnit k f).eng = { s.eng with units := Tbl.modD s.eng.units k {} f } := rfl
@[simp] theorem State.setUnit_opu (s : State) (k : Nat) (f : EngUnit → EngUnit) : (s.setUnit k f).opu = s.opu := rfl
@[simp] theorem State.setUnit_mcx (s : State) (k : Nat) (f : EngUnit → EngUnit) : (s.setUnit k f).mcx = s.mcx := rfl
@[simp] theorem State.setUnit_sec (s : State) (k : Nat) (f : EngUnit → EngUnit) : (s.setUnit k f).sec = s.sec := rfl
@[simp] theorem State.setUnit_cmd (s : State) (k : Nat) (f : EngUnit → EngUnit) : (s.setUnit k f).cmd = s.cmd := rfl
@[simp] theorem State.setUnit_pci (s : State) (k : Nat) (f : EngUnit → EngUnit) : (s.setUnit k f).pci = s.pci := rfl
@[simp] theorem State.setUnit_tlk (s : State) (k : Nat) (f : EngUnit → EngUnit) : (s.setUnit k f).tlk = s.tlk := rfl
@[simp] theorem State.setUnit_trt (s : State) (k : Nat) (f : EngUnit → EngUnit) : (s.setUnit k f).trt = s.trt := rfl
@[simp] theorem State.setUnit_mtr (s : State) (k : Nat) (f : EngUnit → EngUnit) : (s.setUnit k f).mtr = s.mtr := rfl
@[simp] theorem State.setUnit_sch (s : State) (k : Nat) (f : EngUnit → EngUnit) : (s.setUnit k f).sch = s.sch := rfl
@[simp] theorem State.setUnit_flt (s : State) (k : Nat) (f : EngUnit → EngUnit) : (s.setUnit k f).flt = s.flt := rfl
@[simp] theorem State.setUnit_mir (s : State) (k : Nat) (f : EngUnit → EngUnit) : (s.setUnit k f).mir = s.mir := rfl
@[simp] theorem State.setUnit_glb (s : State) (k : Nat) (f : EngUnit → EngUnit) : (s.setUnit k f).glb = s.glb := rfl
@[simp] theorem State.setUnit_pwr (s : State) (k : Nat) (f : EngUnit → EngUnit) : (s.setUnit k f).pwr = s.pwr := rfl
@[simp] theorem State.setUnit_pins (s : State) (k : Nat) (f : EngUnit → EngUnit) : (s.setUnit k f).pins = s.pins := rfl
@[simp] theorem State.setUnit_flash (s : State) (k : Nat) (f : EngUnit → EngUnit) : (s.setUnit k f).flash = s.flash := rfl
@[simp] theorem State.setUnit_latched (s : State) (k : Nat) (f : EngUnit → EngUnit) : (s.setUnit k f).latched = s.latched := rfl
@[simp] theorem State.setUnit_stats (s : State) (k : Nat) (f : EngUnit → EngUnit) : (s.setUnit k f).stats = s.stats := rfl
@[simp] theorem State.setUnit_out (s : State) (k : Nat) (f : EngUnit → EngUnit) : (s.setUnit k f).out = s.out := rfl
@[simp] theorem State.setUnit_fresh (s : State) (k : Nat) (f : EngUnit → EngUnit) : (s.setUnit k f).fresh = s.fresh := rfl

@[simp] theorem State.setJob_pending (s : State) (a j : Nat) (f : Job → Job) : (s.setJob a j f).pending = s.pending := rfl
@[simp] theorem State.setJob_mem (s : State) (a j : Nat) (f : Job → Job) : (s.setJob a j f).mem = s.mem := rfl
@[simp] theorem State.setJob_rgn (s : State) (a j : Nat) (f : Job → Job) : (s.setJob a j f).rgn = s.rgn := rfl
@[simp] theorem State.setJob_dir (s : State) (a j : Nat) (f : Job → Job) : (s.setJob a j f).dir = s.dir := rfl
@[simp] theorem State.setJob_xlt (s : State) (a j : Nat) (f : Job → Job) : (s.setJob a j f).xlt = s.xlt := rfl
@[simp] theorem State.setJob_eng (s : State) (a j : Nat) (f : Job → Job) : (s.setJob a j f).eng = { s.eng with jobs := Tbl.upd s.eng.jobs (jobKey a j) f } := rfl
@[simp] theorem State.setJob_opu (s : State) (a j : Nat) (f : Job → Job) : (s.setJob a j f).opu = s.opu := rfl
@[simp] theorem State.setJob_mcx (s : State) (a j : Nat) (f : Job → Job) : (s.setJob a j f).mcx = s.mcx := rfl
@[simp] theorem State.setJob_sec (s : State) (a j : Nat) (f : Job → Job) : (s.setJob a j f).sec = s.sec := rfl
@[simp] theorem State.setJob_cmd (s : State) (a j : Nat) (f : Job → Job) : (s.setJob a j f).cmd = s.cmd := rfl
@[simp] theorem State.setJob_pci (s : State) (a j : Nat) (f : Job → Job) : (s.setJob a j f).pci = s.pci := rfl
@[simp] theorem State.setJob_tlk (s : State) (a j : Nat) (f : Job → Job) : (s.setJob a j f).tlk = s.tlk := rfl
@[simp] theorem State.setJob_trt (s : State) (a j : Nat) (f : Job → Job) : (s.setJob a j f).trt = s.trt := rfl
@[simp] theorem State.setJob_mtr (s : State) (a j : Nat) (f : Job → Job) : (s.setJob a j f).mtr = s.mtr := rfl
@[simp] theorem State.setJob_sch (s : State) (a j : Nat) (f : Job → Job) : (s.setJob a j f).sch = s.sch := rfl
@[simp] theorem State.setJob_flt (s : State) (a j : Nat) (f : Job → Job) : (s.setJob a j f).flt = s.flt := rfl
@[simp] theorem State.setJob_mir (s : State) (a j : Nat) (f : Job → Job) : (s.setJob a j f).mir = s.mir := rfl
@[simp] theorem State.setJob_glb (s : State) (a j : Nat) (f : Job → Job) : (s.setJob a j f).glb = s.glb := rfl
@[simp] theorem State.setJob_pwr (s : State) (a j : Nat) (f : Job → Job) : (s.setJob a j f).pwr = s.pwr := rfl
@[simp] theorem State.setJob_pins (s : State) (a j : Nat) (f : Job → Job) : (s.setJob a j f).pins = s.pins := rfl
@[simp] theorem State.setJob_flash (s : State) (a j : Nat) (f : Job → Job) : (s.setJob a j f).flash = s.flash := rfl
@[simp] theorem State.setJob_latched (s : State) (a j : Nat) (f : Job → Job) : (s.setJob a j f).latched = s.latched := rfl
@[simp] theorem State.setJob_stats (s : State) (a j : Nat) (f : Job → Job) : (s.setJob a j f).stats = s.stats := rfl
@[simp] theorem State.setJob_out (s : State) (a j : Nat) (f : Job → Job) : (s.setJob a j f).out = s.out := rfl
@[simp] theorem State.setJob_fresh (s : State) (a j : Nat) (f : Job → Job) : (s.setJob a j f).fresh = s.fresh := rfl

end Sys2Proof.Machine
end

