-- ==== Sys2Proof/Laws/Ops.lean ====
section
/-! SUPPORT. What the shared operations leave alone, field by field, as simp lemmas: counters, events, causes, host writes and records. Each follows
from the operation's frame. -/

namespace Sys2Proof.Machine

@[simp] theorem State.bumpRaw_pending (s : State) (blk off n : Nat) : (s.bumpRaw blk off n).1.pending = s.pending := (State.bumpRaw_frame (msk := 2113536) rfl (Frame.refl _ s)).queue
@[simp] theorem State.bumpRaw_mem (s : State) (blk off n : Nat) : (s.bumpRaw blk off n).1.mem = s.mem := (State.bumpRaw_frame (msk := 2113536) rfl (Frame.refl _ s)).same .mem rfl
@[simp] theorem State.bumpRaw_rgn (s : State) (blk off n : Nat) : (s.bumpRaw blk off n).1.rgn = s.rgn := (State.bumpRaw_frame (msk := 2113536) rfl (Frame.refl _ s)).same .rgn rfl
@[simp] theorem State.bumpRaw_dir (s : State) (blk off n : Nat) : (s.bumpRaw blk off n).1.dir = s.dir := (State.bumpRaw_frame (msk := 2113536) rfl (Frame.refl _ s)).same .dir rfl
@[simp] theorem State.bumpRaw_xlt (s : State) (blk off n : Nat) : (s.bumpRaw blk off n).1.xlt = s.xlt := (State.bumpRaw_frame (msk := 2113536) rfl (Frame.refl _ s)).same .xlt rfl
@[simp] theorem State.bumpRaw_eng (s : State) (blk off n : Nat) : (s.bumpRaw blk off n).1.eng = s.eng := (State.bumpRaw_frame (msk := 2113536) rfl (Frame.refl _ s)).same .eng rfl
@[simp] theorem State.bumpRaw_opu (s : State) (blk off n : Nat) : (s.bumpRaw blk off n).1.opu = s.opu := (State.bumpRaw_frame (msk := 2113536) rfl (Frame.refl _ s)).same .opu rfl
@[simp] theorem State.bumpRaw_mcx (s : State) (blk off n : Nat) : (s.bumpRaw blk off n).1.mcx = s.mcx := (State.bumpRaw_frame (msk := 2113536) rfl (Frame.refl _ s)).same .mcx rfl
@[simp] theorem State.bumpRaw_sec (s : State) (blk off n : Nat) : (s.bumpRaw blk off n).1.sec = s.sec := (State.bumpRaw_frame (msk := 2113536) rfl (Frame.refl _ s)).same .sec rfl
@[simp] theorem State.bumpRaw_cmd (s : State) (blk off n : Nat) : (s.bumpRaw blk off n).1.cmd = s.cmd := (State.bumpRaw_frame (msk := 2113536) rfl (Frame.refl _ s)).same .cmd rfl
@[simp] theorem State.bumpRaw_pci (s : State) (blk off n : Nat) : (s.bumpRaw blk off n).1.pci = s.pci := (State.bumpRaw_frame (msk := 2113536) rfl (Frame.refl _ s)).same .pci rfl
@[simp] theorem State.bumpRaw_tlk (s : State) (blk off n : Nat) : (s.bumpRaw blk off n).1.tlk = s.tlk := (State.bumpRaw_frame (msk := 2113536) rfl (Frame.refl _ s)).same .tlk rfl
@[simp] theorem State.bumpRaw_trt (s : State) (blk off n : Nat) : (s.bumpRaw blk off n).1.trt = s.trt := (State.bumpRaw_frame (msk := 2113536) rfl (Frame.refl _ s)).same .trt rfl
@[simp] theorem State.bumpRaw_mtr (s : State) (blk off n : Nat) : (s.bumpRaw blk off n).1.mtr = s.mtr := (State.bumpRaw_frame (msk := 2113536) rfl (Frame.refl _ s)).same .mtr rfl
@[simp] theorem State.bumpRaw_sch (s : State) (blk off n : Nat) : (s.bumpRaw blk off n).1.sch = s.sch := (State.bumpRaw_frame (msk := 2113536) rfl (Frame.refl _ s)).same .sch rfl
@[simp] theorem State.bumpRaw_mir (s : State) (blk off n : Nat) : (s.bumpRaw blk off n).1.mir = s.mir := (State.bumpRaw_frame (msk := 2113536) rfl (Frame.refl _ s)).same .mir rfl
@[simp] theorem State.bumpRaw_glb (s : State) (blk off n : Nat) : (s.bumpRaw blk off n).1.glb = s.glb := (State.bumpRaw_frame (msk := 2113536) rfl (Frame.refl _ s)).same .glb rfl
@[simp] theorem State.bumpRaw_pwr (s : State) (blk off n : Nat) : (s.bumpRaw blk off n).1.pwr = s.pwr := (State.bumpRaw_frame (msk := 2113536) rfl (Frame.refl _ s)).same .pwr rfl
@[simp] theorem State.bumpRaw_pins (s : State) (blk off n : Nat) : (s.bumpRaw blk off n).1.pins = s.pins := (State.bumpRaw_frame (msk := 2113536) rfl (Frame.refl _ s)).same .pins rfl
@[simp] theorem State.bumpRaw_flash (s : State) (blk off n : Nat) : (s.bumpRaw blk off n).1.flash = s.flash := (State.bumpRaw_frame (msk := 2113536) rfl (Frame.refl _ s)).same .flash rfl
@[simp] theorem State.bumpRaw_latched (s : State) (blk off n : Nat) : (s.bumpRaw blk off n).1.latched = s.latched := (State.bumpRaw_frame (msk := 2113536) rfl (Frame.refl _ s)).same .latched rfl
@[simp] theorem State.bumpRaw_out (s : State) (blk off n : Nat) : (s.bumpRaw blk off n).1.out = s.out := (State.bumpRaw_frame (msk := 2113536) rfl (Frame.refl _ s)).same .out rfl
@[simp] theorem State.bumpRaw_fresh (s : State) (blk off n : Nat) : (s.bumpRaw blk off n).1.fresh = s.fresh := (State.bumpRaw_frame (msk := 2113536) rfl (Frame.refl _ s)).same .fresh rfl

@[simp] theorem State.bump_pending (s : State) (blk off n : Nat) : (s.bump blk off n).pending = s.pending := (State.bump_frame (msk := 2124032) rfl (Frame.refl _ s)).queue
@[simp] theorem State.bump_mem (s : State) (blk off n : Nat) : (s.bump blk off n).mem = s.mem := (State.bump_frame (msk := 2124032) rfl (Frame.refl _ s)).same .mem rfl
@[simp] theorem State.bump_rgn (s : State) (blk off n : Nat) : (s.bump blk off n).rgn = s.rgn := (State.bump_frame (msk := 2124032) rfl (Frame.refl _ s)).same .rgn rfl
@[simp] theorem State.bump_dir (s : State) (blk off n : Nat) : (s.bump blk off n).dir = s.dir := (State.bump_frame (msk := 2124032) rfl (Frame.refl _ s)).same .dir rfl
@[simp] theorem State.bump_xlt (s : State) (blk off n : Nat) : (s.bump blk off n).xlt = s.xlt := (State.bump_frame (msk := 2124032) rfl (Frame.refl _ s)).same .xlt rfl
@[simp] theorem State.bump_eng (s : State) (blk off n : Nat) : (s.bump blk off n).eng = s.eng := (State.bump_frame (msk := 2124032) rfl (Frame.refl _ s)).same .eng rfl
@[simp] theorem State.bump_opu (s : State) (blk off n : Nat) : (s.bump blk off n).opu = s.opu := (State.bump_frame (msk := 2124032) rfl (Frame.refl _ s)).same .opu rfl
@[simp] theorem State.bump_mcx (s : State) (blk off n : Nat) : (s.bump blk off n).mcx = s.mcx := (State.bump_frame (msk := 2124032) rfl (Frame.refl _ s)).same .mcx rfl
@[simp] theorem State.bump_sec (s : State) (blk off n : Nat) : (s.bump blk off n).sec = s.sec := (State.bump_frame (msk := 2124032) rfl (Frame.refl _ s)).same .sec rfl
@[simp] theorem State.bump_pci (s : State) (blk off n : Nat) : (s.bump blk off n).pci = s.pci := (State.bump_frame (msk := 2124032) rfl (Frame.refl _ s)).same .pci rfl
@[simp] theorem State.bump_tlk (s : State) (blk off n : Nat) : (s.bump blk off n).tlk = s.tlk := (State.bump_frame (msk := 2124032) rfl (Frame.refl _ s)).same .tlk rfl
@[simp] theorem State.bump_mtr (s : State) (blk off n : Nat) : (s.bump blk off n).mtr = s.mtr := (State.bump_frame (msk := 2124032) rfl (Frame.refl _ s)).same .mtr rfl
@[simp] theorem State.bump_mir (s : State) (blk off n : Nat) : (s.bump blk off n).mir = s.mir := (State.bump_frame (msk := 2124032) rfl (Frame.refl _ s)).same .mir rfl
@[simp] theorem State.bump_glb (s : State) (blk off n : Nat) : (s.bump blk off n).glb = s.glb := (State.bump_frame (msk := 2124032) rfl (Frame.refl _ s)).same .glb rfl
@[simp] theorem State.bump_pwr (s : State) (blk off n : Nat) : (s.bump blk off n).pwr = s.pwr := (State.bump_frame (msk := 2124032) rfl (Frame.refl _ s)).same .pwr rfl
@[simp] theorem State.bump_pins (s : State) (blk off n : Nat) : (s.bump blk off n).pins = s.pins := (State.bump_frame (msk := 2124032) rfl (Frame.refl _ s)).same .pins rfl
@[simp] theorem State.bump_flash (s : State) (blk off n : Nat) : (s.bump blk off n).flash = s.flash := (State.bump_frame (msk := 2124032) rfl (Frame.refl _ s)).same .flash rfl
@[simp] theorem State.bump_latched (s : State) (blk off n : Nat) : (s.bump blk off n).latched = s.latched := (State.bump_frame (msk := 2124032) rfl (Frame.refl _ s)).same .latched rfl
@[simp] theorem State.bump_out (s : State) (blk off n : Nat) : (s.bump blk off n).out = s.out := (State.bump_frame (msk := 2124032) rfl (Frame.refl _ s)).same .out rfl
@[simp] theorem State.bump_fresh (s : State) (blk off n : Nat) : (s.bump blk off n).fresh = s.fresh := (State.bump_frame (msk := 2124032) rfl (Frame.refl _ s)).same .fresh rfl

@[simp] theorem State.enqueue_pending (s : State) (p : Nat) (k : Pkt) : (s.enqueue p k).pending = s.pending := (State.enqueue_frame (msk := 10240) rfl (Frame.refl _ s)).queue
@[simp] theorem State.enqueue_mem (s : State) (p : Nat) (k : Pkt) : (s.enqueue p k).mem = s.mem := (State.enqueue_frame (msk := 10240) rfl (Frame.refl _ s)).same .mem rfl
@[simp] theorem State.enqueue_rgn (s : State) (p : Nat) (k : Pkt) : (s.enqueue p k).rgn = s.rgn := (State.enqueue_frame (msk := 10240) rfl (Frame.refl _ s)).same .rgn rfl
@[simp] theorem State.enqueue_dir (s : State) (p : Nat) (k : Pkt) : (s.enqueue p k).dir = s.dir := (State.enqueue_frame (msk := 10240) rfl (Frame.refl _ s)).same .dir rfl
@[simp] theorem State.enqueue_xlt (s : State) (p : Nat) (k : Pkt) : (s.enqueue p k).xlt = s.xlt := (State.enqueue_frame (msk := 10240) rfl (Frame.refl _ s)).same .xlt rfl
@[simp] theorem State.enqueue_eng (s : State) (p : Nat) (k : Pkt) : (s.enqueue p k).eng = s.eng := (State.enqueue_frame (msk := 10240) rfl (Frame.refl _ s)).same .eng rfl
@[simp] theorem State.enqueue_opu (s : State) (p : Nat) (k : Pkt) : (s.enqueue p k).opu = s.opu := (State.enqueue_frame (msk := 10240) rfl (Frame.refl _ s)).same .opu rfl
@[simp] theorem State.enqueue_mcx (s : State) (p : Nat) (k : Pkt) : (s.enqueue p k).mcx = s.mcx := (State.enqueue_frame (msk := 10240) rfl (Frame.refl _ s)).same .mcx rfl
@[simp] theorem State.enqueue_sec (s : State) (p : Nat) (k : Pkt) : (s.enqueue p k).sec = s.sec := (State.enqueue_frame (msk := 10240) rfl (Frame.refl _ s)).same .sec rfl
@[simp] theorem State.enqueue_cmd (s : State) (p : Nat) (k : Pkt) : (s.enqueue p k).cmd = s.cmd := (State.enqueue_frame (msk := 10240) rfl (Frame.refl _ s)).same .cmd rfl
@[simp] theorem State.enqueue_pci (s : State) (p : Nat) (k : Pkt) : (s.enqueue p k).pci = s.pci := (State.enqueue_frame (msk := 10240) rfl (Frame.refl _ s)).same .pci rfl
@[simp] theorem State.enqueue_tlk (s : State) (p : Nat) (k : Pkt) : (s.enqueue p k).tlk = s.tlk := (State.enqueue_frame (msk := 10240) rfl (Frame.refl _ s)).same .tlk rfl
@[simp] theorem State.enqueue_mtr (s : State) (p : Nat) (k : Pkt) : (s.enqueue p k).mtr = s.mtr := (State.enqueue_frame (msk := 10240) rfl (Frame.refl _ s)).same .mtr rfl
@[simp] theorem State.enqueue_flt (s : State) (p : Nat) (k : Pkt) : (s.enqueue p k).flt = s.flt := (State.enqueue_frame (msk := 10240) rfl (Frame.refl _ s)).same .flt rfl
@[simp] theorem State.enqueue_mir (s : State) (p : Nat) (k : Pkt) : (s.enqueue p k).mir = s.mir := (State.enqueue_frame (msk := 10240) rfl (Frame.refl _ s)).same .mir rfl
@[simp] theorem State.enqueue_glb (s : State) (p : Nat) (k : Pkt) : (s.enqueue p k).glb = s.glb := (State.enqueue_frame (msk := 10240) rfl (Frame.refl _ s)).same .glb rfl
@[simp] theorem State.enqueue_pwr (s : State) (p : Nat) (k : Pkt) : (s.enqueue p k).pwr = s.pwr := (State.enqueue_frame (msk := 10240) rfl (Frame.refl _ s)).same .pwr rfl
@[simp] theorem State.enqueue_pins (s : State) (p : Nat) (k : Pkt) : (s.enqueue p k).pins = s.pins := (State.enqueue_frame (msk := 10240) rfl (Frame.refl _ s)).same .pins rfl
@[simp] theorem State.enqueue_flash (s : State) (p : Nat) (k : Pkt) : (s.enqueue p k).flash = s.flash := (State.enqueue_frame (msk := 10240) rfl (Frame.refl _ s)).same .flash rfl
@[simp] theorem State.enqueue_latched (s : State) (p : Nat) (k : Pkt) : (s.enqueue p k).latched = s.latched := (State.enqueue_frame (msk := 10240) rfl (Frame.refl _ s)).same .latched rfl
@[simp] theorem State.enqueue_stats (s : State) (p : Nat) (k : Pkt) : (s.enqueue p k).stats = s.stats := (State.enqueue_frame (msk := 10240) rfl (Frame.refl _ s)).same .stats rfl
@[simp] theorem State.enqueue_out (s : State) (p : Nat) (k : Pkt) : (s.enqueue p k).out = s.out := (State.enqueue_frame (msk := 10240) rfl (Frame.refl _ s)).same .out rfl
@[simp] theorem State.enqueue_fresh (s : State) (p : Nat) (k : Pkt) : (s.enqueue p k).fresh = s.fresh := (State.enqueue_frame (msk := 10240) rfl (Frame.refl _ s)).same .fresh rfl

@[simp] theorem State.hostTlp_pending (s : State) (cls v : Nat) (t : HostTlp) : (s.hostTlp cls v t).pending = s.pending := (State.hostTlp_frame (msk := 10240) rfl (Frame.refl _ s)).queue
@[simp] theorem State.hostTlp_mem (s : State) (cls v : Nat) (t : HostTlp) : (s.hostTlp cls v t).mem = s.mem := (State.hostTlp_frame (msk := 10240) rfl (Frame.refl _ s)).same .mem rfl
@[simp] theorem State.hostTlp_rgn (s : State) (cls v : Nat) (t : HostTlp) : (s.hostTlp cls v t).rgn = s.rgn := (State.hostTlp_frame (msk := 10240) rfl (Frame.refl _ s)).same .rgn rfl
@[simp] theorem State.hostTlp_dir (s : State) (cls v : Nat) (t : HostTlp) : (s.hostTlp cls v t).dir = s.dir := (State.hostTlp_frame (msk := 10240) rfl (Frame.refl _ s)).same .dir rfl
@[simp] theorem State.hostTlp_xlt (s : State) (cls v : Nat) (t : HostTlp) : (s.hostTlp cls v t).xlt = s.xlt := (State.hostTlp_frame (msk := 10240) rfl (Frame.refl _ s)).same .xlt rfl
@[simp] theorem State.hostTlp_eng (s : State) (cls v : Nat) (t : HostTlp) : (s.hostTlp cls v t).eng = s.eng := (State.hostTlp_frame (msk := 10240) rfl (Frame.refl _ s)).same .eng rfl
@[simp] theorem State.hostTlp_opu (s : State) (cls v : Nat) (t : HostTlp) : (s.hostTlp cls v t).opu = s.opu := (State.hostTlp_frame (msk := 10240) rfl (Frame.refl _ s)).same .opu rfl
@[simp] theorem State.hostTlp_mcx (s : State) (cls v : Nat) (t : HostTlp) : (s.hostTlp cls v t).mcx = s.mcx := (State.hostTlp_frame (msk := 10240) rfl (Frame.refl _ s)).same .mcx rfl
@[simp] theorem State.hostTlp_sec (s : State) (cls v : Nat) (t : HostTlp) : (s.hostTlp cls v t).sec = s.sec := (State.hostTlp_frame (msk := 10240) rfl (Frame.refl _ s)).same .sec rfl
@[simp] theorem State.hostTlp_cmd (s : State) (cls v : Nat) (t : HostTlp) : (s.hostTlp cls v t).cmd = s.cmd := (State.hostTlp_frame (msk := 10240) rfl (Frame.refl _ s)).same .cmd rfl
@[simp] theorem State.hostTlp_pci (s : State) (cls v : Nat) (t : HostTlp) : (s.hostTlp cls v t).pci = s.pci := (State.hostTlp_frame (msk := 10240) rfl (Frame.refl _ s)).same .pci rfl
@[simp] theorem State.hostTlp_tlk (s : State) (cls v : Nat) (t : HostTlp) : (s.hostTlp cls v t).tlk = s.tlk := (State.hostTlp_frame (msk := 10240) rfl (Frame.refl _ s)).same .tlk rfl
@[simp] theorem State.hostTlp_mtr (s : State) (cls v : Nat) (t : HostTlp) : (s.hostTlp cls v t).mtr = s.mtr := (State.hostTlp_frame (msk := 10240) rfl (Frame.refl _ s)).same .mtr rfl
@[simp] theorem State.hostTlp_flt (s : State) (cls v : Nat) (t : HostTlp) : (s.hostTlp cls v t).flt = s.flt := (State.hostTlp_frame (msk := 10240) rfl (Frame.refl _ s)).same .flt rfl
@[simp] theorem State.hostTlp_mir (s : State) (cls v : Nat) (t : HostTlp) : (s.hostTlp cls v t).mir = s.mir := (State.hostTlp_frame (msk := 10240) rfl (Frame.refl _ s)).same .mir rfl
@[simp] theorem State.hostTlp_glb (s : State) (cls v : Nat) (t : HostTlp) : (s.hostTlp cls v t).glb = s.glb := (State.hostTlp_frame (msk := 10240) rfl (Frame.refl _ s)).same .glb rfl
@[simp] theorem State.hostTlp_pwr (s : State) (cls v : Nat) (t : HostTlp) : (s.hostTlp cls v t).pwr = s.pwr := (State.hostTlp_frame (msk := 10240) rfl (Frame.refl _ s)).same .pwr rfl
@[simp] theorem State.hostTlp_pins (s : State) (cls v : Nat) (t : HostTlp) : (s.hostTlp cls v t).pins = s.pins := (State.hostTlp_frame (msk := 10240) rfl (Frame.refl _ s)).same .pins rfl
@[simp] theorem State.hostTlp_flash (s : State) (cls v : Nat) (t : HostTlp) : (s.hostTlp cls v t).flash = s.flash := (State.hostTlp_frame (msk := 10240) rfl (Frame.refl _ s)).same .flash rfl
@[simp] theorem State.hostTlp_latched (s : State) (cls v : Nat) (t : HostTlp) : (s.hostTlp cls v t).latched = s.latched := (State.hostTlp_frame (msk := 10240) rfl (Frame.refl _ s)).same .latched rfl
@[simp] theorem State.hostTlp_stats (s : State) (cls v : Nat) (t : HostTlp) : (s.hostTlp cls v t).stats = s.stats := (State.hostTlp_frame (msk := 10240) rfl (Frame.refl _ s)).same .stats rfl
@[simp] theorem State.hostTlp_out (s : State) (cls v : Nat) (t : HostTlp) : (s.hostTlp cls v t).out = s.out := (State.hostTlp_frame (msk := 10240) rfl (Frame.refl _ s)).same .out rfl
@[simp] theorem State.hostTlp_fresh (s : State) (cls v : Nat) (t : HostTlp) : (s.hostTlp cls v t).fresh = s.fresh := (State.hostTlp_frame (msk := 10240) rfl (Frame.refl _ s)).same .fresh rfl

@[simp] theorem State.hostWrite_pending (s : State) (fn cls addr : Nat) (data : List Byte) : (s.hostWrite fn cls addr data).pending = s.pending := (State.hostWrite_frame (msk := 10240) rfl (Frame.refl _ s)).queue
@[simp] theorem State.hostWrite_mem (s : State) (fn cls addr : Nat) (data : List Byte) : (s.hostWrite fn cls addr data).mem = s.mem := (State.hostWrite_frame (msk := 10240) rfl (Frame.refl _ s)).same .mem rfl
@[simp] theorem State.hostWrite_rgn (s : State) (fn cls addr : Nat) (data : List Byte) : (s.hostWrite fn cls addr data).rgn = s.rgn := (State.hostWrite_frame (msk := 10240) rfl (Frame.refl _ s)).same .rgn rfl
@[simp] theorem State.hostWrite_dir (s : State) (fn cls addr : Nat) (data : List Byte) : (s.hostWrite fn cls addr data).dir = s.dir := (State.hostWrite_frame (msk := 10240) rfl (Frame.refl _ s)).same .dir rfl
@[simp] theorem State.hostWrite_xlt (s : State) (fn cls addr : Nat) (data : List Byte) : (s.hostWrite fn cls addr data).xlt = s.xlt := (State.hostWrite_frame (msk := 10240) rfl (Frame.refl _ s)).same .xlt rfl
@[simp] theorem State.hostWrite_eng (s : State) (fn cls addr : Nat) (data : List Byte) : (s.hostWrite fn cls addr data).eng = s.eng := (State.hostWrite_frame (msk := 10240) rfl (Frame.refl _ s)).same .eng rfl
@[simp] theorem State.hostWrite_opu (s : State) (fn cls addr : Nat) (data : List Byte) : (s.hostWrite fn cls addr data).opu = s.opu := (State.hostWrite_frame (msk := 10240) rfl (Frame.refl _ s)).same .opu rfl
@[simp] theorem State.hostWrite_mcx (s : State) (fn cls addr : Nat) (data : List Byte) : (s.hostWrite fn cls addr data).mcx = s.mcx := (State.hostWrite_frame (msk := 10240) rfl (Frame.refl _ s)).same .mcx rfl
@[simp] theorem State.hostWrite_sec (s : State) (fn cls addr : Nat) (data : List Byte) : (s.hostWrite fn cls addr data).sec = s.sec := (State.hostWrite_frame (msk := 10240) rfl (Frame.refl _ s)).same .sec rfl
@[simp] theorem State.hostWrite_cmd (s : State) (fn cls addr : Nat) (data : List Byte) : (s.hostWrite fn cls addr data).cmd = s.cmd := (State.hostWrite_frame (msk := 10240) rfl (Frame.refl _ s)).same .cmd rfl
@[simp] theorem State.hostWrite_pci (s : State) (fn cls addr : Nat) (data : List Byte) : (s.hostWrite fn cls addr data).pci = s.pci := (State.hostWrite_frame (msk := 10240) rfl (Frame.refl _ s)).same .pci rfl
@[simp] theorem State.hostWrite_tlk (s : State) (fn cls addr : Nat) (data : List Byte) : (s.hostWrite fn cls addr data).tlk = s.tlk := (State.hostWrite_frame (msk := 10240) rfl (Frame.refl _ s)).same .tlk rfl
@[simp] theorem State.hostWrite_mtr (s : State) (fn cls addr : Nat) (data : List Byte) : (s.hostWrite fn cls addr data).mtr = s.mtr := (State.hostWrite_frame (msk := 10240) rfl (Frame.refl _ s)).same .mtr rfl
@[simp] theorem State.hostWrite_flt (s : State) (fn cls addr : Nat) (data : List Byte) : (s.hostWrite fn cls addr data).flt = s.flt := (State.hostWrite_frame (msk := 10240) rfl (Frame.refl _ s)).same .flt rfl
@[simp] theorem State.hostWrite_mir (s : State) (fn cls addr : Nat) (data : List Byte) : (s.hostWrite fn cls addr data).mir = s.mir := (State.hostWrite_frame (msk := 10240) rfl (Frame.refl _ s)).same .mir rfl
@[simp] theorem State.hostWrite_glb (s : State) (fn cls addr : Nat) (data : List Byte) : (s.hostWrite fn cls addr data).glb = s.glb := (State.hostWrite_frame (msk := 10240) rfl (Frame.refl _ s)).same .glb rfl
@[simp] theorem State.hostWrite_pwr (s : State) (fn cls addr : Nat) (data : List Byte) : (s.hostWrite fn cls addr data).pwr = s.pwr := (State.hostWrite_frame (msk := 10240) rfl (Frame.refl _ s)).same .pwr rfl
@[simp] theorem State.hostWrite_pins (s : State) (fn cls addr : Nat) (data : List Byte) : (s.hostWrite fn cls addr data).pins = s.pins := (State.hostWrite_frame (msk := 10240) rfl (Frame.refl _ s)).same .pins rfl
@[simp] theorem State.hostWrite_flash (s : State) (fn cls addr : Nat) (data : List Byte) : (s.hostWrite fn cls addr data).flash = s.flash := (State.hostWrite_frame (msk := 10240) rfl (Frame.refl _ s)).same .flash rfl
@[simp] theorem State.hostWrite_latched (s : State) (fn cls addr : Nat) (data : List Byte) : (s.hostWrite fn cls addr data).latched = s.latched := (State.hostWrite_frame (msk := 10240) rfl (Frame.refl _ s)).same .latched rfl
@[simp] theorem State.hostWrite_stats (s : State) (fn cls addr : Nat) (data : List Byte) : (s.hostWrite fn cls addr data).stats = s.stats := (State.hostWrite_frame (msk := 10240) rfl (Frame.refl _ s)).same .stats rfl
@[simp] theorem State.hostWrite_out (s : State) (fn cls addr : Nat) (data : List Byte) : (s.hostWrite fn cls addr data).out = s.out := (State.hostWrite_frame (msk := 10240) rfl (Frame.refl _ s)).same .out rfl
@[simp] theorem State.hostWrite_fresh (s : State) (fn cls addr : Nat) (data : List Byte) : (s.hostWrite fn cls addr data).fresh = s.fresh := (State.hostWrite_frame (msk := 10240) rfl (Frame.refl _ s)).same .fresh rfl

@[simp] theorem State.msix_pending (s : State) (fn cls vec : Nat) : (s.msix fn cls vec).pending = s.pending := (State.msix_frame (msk := 10752) rfl (Frame.refl _ s)).queue
@[simp] theorem State.msix_mem (s : State) (fn cls vec : Nat) : (s.msix fn cls vec).mem = s.mem := (State.msix_frame (msk := 10752) rfl (Frame.refl _ s)).same .mem rfl
@[simp] theorem State.msix_rgn (s : State) (fn cls vec : Nat) : (s.msix fn cls vec).rgn = s.rgn := (State.msix_frame (msk := 10752) rfl (Frame.refl _ s)).same .rgn rfl
@[simp] theorem State.msix_dir (s : State) (fn cls vec : Nat) : (s.msix fn cls vec).dir = s.dir := (State.msix_frame (msk := 10752) rfl (Frame.refl _ s)).same .dir rfl
@[simp] theorem State.msix_xlt (s : State) (fn cls vec : Nat) : (s.msix fn cls vec).xlt = s.xlt := (State.msix_frame (msk := 10752) rfl (Frame.refl _ s)).same .xlt rfl
@[simp] theorem State.msix_eng (s : State) (fn cls vec : Nat) : (s.msix fn cls vec).eng = s.eng := (State.msix_frame (msk := 10752) rfl (Frame.refl _ s)).same .eng rfl
@[simp] theorem State.msix_opu (s : State) (fn cls vec : Nat) : (s.msix fn cls vec).opu = s.opu := (State.msix_frame (msk := 10752) rfl (Frame.refl _ s)).same .opu rfl
@[simp] theorem State.msix_mcx (s : State) (fn cls vec : Nat) : (s.msix fn cls vec).mcx = s.mcx := (State.msix_frame (msk := 10752) rfl (Frame.refl _ s)).same .mcx rfl
@[simp] theorem State.msix_sec (s : State) (fn cls vec : Nat) : (s.msix fn cls vec).sec = s.sec := (State.msix_frame (msk := 10752) rfl (Frame.refl _ s)).same .sec rfl
@[simp] theorem State.msix_cmd (s : State) (fn cls vec : Nat) : (s.msix fn cls vec).cmd = s.cmd := (State.msix_frame (msk := 10752) rfl (Frame.refl _ s)).same .cmd rfl
@[simp] theorem State.msix_tlk (s : State) (fn cls vec : Nat) : (s.msix fn cls vec).tlk = s.tlk := (State.msix_frame (msk := 10752) rfl (Frame.refl _ s)).same .tlk rfl
@[simp] theorem State.msix_mtr (s : State) (fn cls vec : Nat) : (s.msix fn cls vec).mtr = s.mtr := (State.msix_frame (msk := 10752) rfl (Frame.refl _ s)).same .mtr rfl
@[simp] theorem State.msix_flt (s : State) (fn cls vec : Nat) : (s.msix fn cls vec).flt = s.flt := (State.msix_frame (msk := 10752) rfl (Frame.refl _ s)).same .flt rfl
@[simp] theorem State.msix_mir (s : State) (fn cls vec : Nat) : (s.msix fn cls vec).mir = s.mir := (State.msix_frame (msk := 10752) rfl (Frame.refl _ s)).same .mir rfl
@[simp] theorem State.msix_glb (s : State) (fn cls vec : Nat) : (s.msix fn cls vec).glb = s.glb := (State.msix_frame (msk := 10752) rfl (Frame.refl _ s)).same .glb rfl
@[simp] theorem State.msix_pwr (s : State) (fn cls vec : Nat) : (s.msix fn cls vec).pwr = s.pwr := (State.msix_frame (msk := 10752) rfl (Frame.refl _ s)).same .pwr rfl
@[simp] theorem State.msix_pins (s : State) (fn cls vec : Nat) : (s.msix fn cls vec).pins = s.pins := (State.msix_frame (msk := 10752) rfl (Frame.refl _ s)).same .pins rfl
@[simp] theorem State.msix_flash (s : State) (fn cls vec : Nat) : (s.msix fn cls vec).flash = s.flash := (State.msix_frame (msk := 10752) rfl (Frame.refl _ s)).same .flash rfl
@[simp] theorem State.msix_latched (s : State) (fn cls vec : Nat) : (s.msix fn cls vec).latched = s.latched := (State.msix_frame (msk := 10752) rfl (Frame.refl _ s)).same .latched rfl
@[simp] theorem State.msix_stats (s : State) (fn cls vec : Nat) : (s.msix fn cls vec).stats = s.stats := (State.msix_frame (msk := 10752) rfl (Frame.refl _ s)).same .stats rfl
@[simp] theorem State.msix_out (s : State) (fn cls vec : Nat) : (s.msix fn cls vec).out = s.out := (State.msix_frame (msk := 10752) rfl (Frame.refl _ s)).same .out rfl
@[simp] theorem State.msix_fresh (s : State) (fn cls vec : Nat) : (s.msix fn cls vec).fresh = s.fresh := (State.msix_frame (msk := 10752) rfl (Frame.refl _ s)).same .fresh rfl

@[simp] theorem State.writeCpl_pending (s : State) (fn : Nat) (c : CplRec) : (s.writeCpl fn c).pending = s.pending := (State.writeCpl_frame (msk := 10496) rfl (Frame.refl _ s)).queue
@[simp] theorem State.writeCpl_mem (s : State) (fn : Nat) (c : CplRec) : (s.writeCpl fn c).mem = s.mem := (State.writeCpl_frame (msk := 10496) rfl (Frame.refl _ s)).same .mem rfl
@[simp] theorem State.writeCpl_rgn (s : State) (fn : Nat) (c : CplRec) : (s.writeCpl fn c).rgn = s.rgn := (State.writeCpl_frame (msk := 10496) rfl (Frame.refl _ s)).same .rgn rfl
@[simp] theorem State.writeCpl_dir (s : State) (fn : Nat) (c : CplRec) : (s.writeCpl fn c).dir = s.dir := (State.writeCpl_frame (msk := 10496) rfl (Frame.refl _ s)).same .dir rfl
@[simp] theorem State.writeCpl_xlt (s : State) (fn : Nat) (c : CplRec) : (s.writeCpl fn c).xlt = s.xlt := (State.writeCpl_frame (msk := 10496) rfl (Frame.refl _ s)).same .xlt rfl
@[simp] theorem State.writeCpl_eng (s : State) (fn : Nat) (c : CplRec) : (s.writeCpl fn c).eng = s.eng := (State.writeCpl_frame (msk := 10496) rfl (Frame.refl _ s)).same .eng rfl
@[simp] theorem State.writeCpl_opu (s : State) (fn : Nat) (c : CplRec) : (s.writeCpl fn c).opu = s.opu := (State.writeCpl_frame (msk := 10496) rfl (Frame.refl _ s)).same .opu rfl
@[simp] theorem State.writeCpl_mcx (s : State) (fn : Nat) (c : CplRec) : (s.writeCpl fn c).mcx = s.mcx := (State.writeCpl_frame (msk := 10496) rfl (Frame.refl _ s)).same .mcx rfl
@[simp] theorem State.writeCpl_sec (s : State) (fn : Nat) (c : CplRec) : (s.writeCpl fn c).sec = s.sec := (State.writeCpl_frame (msk := 10496) rfl (Frame.refl _ s)).same .sec rfl
@[simp] theorem State.writeCpl_pci (s : State) (fn : Nat) (c : CplRec) : (s.writeCpl fn c).pci = s.pci := (State.writeCpl_frame (msk := 10496) rfl (Frame.refl _ s)).same .pci rfl
@[simp] theorem State.writeCpl_tlk (s : State) (fn : Nat) (c : CplRec) : (s.writeCpl fn c).tlk = s.tlk := (State.writeCpl_frame (msk := 10496) rfl (Frame.refl _ s)).same .tlk rfl
@[simp] theorem State.writeCpl_mtr (s : State) (fn : Nat) (c : CplRec) : (s.writeCpl fn c).mtr = s.mtr := (State.writeCpl_frame (msk := 10496) rfl (Frame.refl _ s)).same .mtr rfl
@[simp] theorem State.writeCpl_flt (s : State) (fn : Nat) (c : CplRec) : (s.writeCpl fn c).flt = s.flt := (State.writeCpl_frame (msk := 10496) rfl (Frame.refl _ s)).same .flt rfl
@[simp] theorem State.writeCpl_mir (s : State) (fn : Nat) (c : CplRec) : (s.writeCpl fn c).mir = s.mir := (State.writeCpl_frame (msk := 10496) rfl (Frame.refl _ s)).same .mir rfl
@[simp] theorem State.writeCpl_glb (s : State) (fn : Nat) (c : CplRec) : (s.writeCpl fn c).glb = s.glb := (State.writeCpl_frame (msk := 10496) rfl (Frame.refl _ s)).same .glb rfl
@[simp] theorem State.writeCpl_pwr (s : State) (fn : Nat) (c : CplRec) : (s.writeCpl fn c).pwr = s.pwr := (State.writeCpl_frame (msk := 10496) rfl (Frame.refl _ s)).same .pwr rfl
@[simp] theorem State.writeCpl_pins (s : State) (fn : Nat) (c : CplRec) : (s.writeCpl fn c).pins = s.pins := (State.writeCpl_frame (msk := 10496) rfl (Frame.refl _ s)).same .pins rfl
@[simp] theorem State.writeCpl_flash (s : State) (fn : Nat) (c : CplRec) : (s.writeCpl fn c).flash = s.flash := (State.writeCpl_frame (msk := 10496) rfl (Frame.refl _ s)).same .flash rfl
@[simp] theorem State.writeCpl_latched (s : State) (fn : Nat) (c : CplRec) : (s.writeCpl fn c).latched = s.latched := (State.writeCpl_frame (msk := 10496) rfl (Frame.refl _ s)).same .latched rfl
@[simp] theorem State.writeCpl_stats (s : State) (fn : Nat) (c : CplRec) : (s.writeCpl fn c).stats = s.stats := (State.writeCpl_frame (msk := 10496) rfl (Frame.refl _ s)).same .stats rfl
@[simp] theorem State.writeCpl_out (s : State) (fn : Nat) (c : CplRec) : (s.writeCpl fn c).out = s.out := (State.writeCpl_frame (msk := 10496) rfl (Frame.refl _ s)).same .out rfl
@[simp] theorem State.writeCpl_fresh (s : State) (fn : Nat) (c : CplRec) : (s.writeCpl fn c).fresh = s.fresh := (State.writeCpl_frame (msk := 10496) rfl (Frame.refl _ s)).same .fresh rfl

@[simp] theorem State.putCpl_pending (s : State) (fn : Nat) (c : CplRec) : (s.putCpl fn c).pending = s.pending := (State.putCpl_frame (msk := 10496) rfl (Frame.refl _ s)).queue
@[simp] theorem State.putCpl_mem (s : State) (fn : Nat) (c : CplRec) : (s.putCpl fn c).mem = s.mem := (State.putCpl_frame (msk := 10496) rfl (Frame.refl _ s)).same .mem rfl
@[simp] theorem State.putCpl_rgn (s : State) (fn : Nat) (c : CplRec) : (s.putCpl fn c).rgn = s.rgn := (State.putCpl_frame (msk := 10496) rfl (Frame.refl _ s)).same .rgn rfl
@[simp] theorem State.putCpl_dir (s : State) (fn : Nat) (c : CplRec) : (s.putCpl fn c).dir = s.dir := (State.putCpl_frame (msk := 10496) rfl (Frame.refl _ s)).same .dir rfl
@[simp] theorem State.putCpl_xlt (s : State) (fn : Nat) (c : CplRec) : (s.putCpl fn c).xlt = s.xlt := (State.putCpl_frame (msk := 10496) rfl (Frame.refl _ s)).same .xlt rfl
@[simp] theorem State.putCpl_eng (s : State) (fn : Nat) (c : CplRec) : (s.putCpl fn c).eng = s.eng := (State.putCpl_frame (msk := 10496) rfl (Frame.refl _ s)).same .eng rfl
@[simp] theorem State.putCpl_opu (s : State) (fn : Nat) (c : CplRec) : (s.putCpl fn c).opu = s.opu := (State.putCpl_frame (msk := 10496) rfl (Frame.refl _ s)).same .opu rfl
@[simp] theorem State.putCpl_mcx (s : State) (fn : Nat) (c : CplRec) : (s.putCpl fn c).mcx = s.mcx := (State.putCpl_frame (msk := 10496) rfl (Frame.refl _ s)).same .mcx rfl
@[simp] theorem State.putCpl_sec (s : State) (fn : Nat) (c : CplRec) : (s.putCpl fn c).sec = s.sec := (State.putCpl_frame (msk := 10496) rfl (Frame.refl _ s)).same .sec rfl
@[simp] theorem State.putCpl_pci (s : State) (fn : Nat) (c : CplRec) : (s.putCpl fn c).pci = s.pci := (State.putCpl_frame (msk := 10496) rfl (Frame.refl _ s)).same .pci rfl
@[simp] theorem State.putCpl_tlk (s : State) (fn : Nat) (c : CplRec) : (s.putCpl fn c).tlk = s.tlk := (State.putCpl_frame (msk := 10496) rfl (Frame.refl _ s)).same .tlk rfl
@[simp] theorem State.putCpl_mtr (s : State) (fn : Nat) (c : CplRec) : (s.putCpl fn c).mtr = s.mtr := (State.putCpl_frame (msk := 10496) rfl (Frame.refl _ s)).same .mtr rfl
@[simp] theorem State.putCpl_flt (s : State) (fn : Nat) (c : CplRec) : (s.putCpl fn c).flt = s.flt := (State.putCpl_frame (msk := 10496) rfl (Frame.refl _ s)).same .flt rfl
@[simp] theorem State.putCpl_mir (s : State) (fn : Nat) (c : CplRec) : (s.putCpl fn c).mir = s.mir := (State.putCpl_frame (msk := 10496) rfl (Frame.refl _ s)).same .mir rfl
@[simp] theorem State.putCpl_glb (s : State) (fn : Nat) (c : CplRec) : (s.putCpl fn c).glb = s.glb := (State.putCpl_frame (msk := 10496) rfl (Frame.refl _ s)).same .glb rfl
@[simp] theorem State.putCpl_pwr (s : State) (fn : Nat) (c : CplRec) : (s.putCpl fn c).pwr = s.pwr := (State.putCpl_frame (msk := 10496) rfl (Frame.refl _ s)).same .pwr rfl
@[simp] theorem State.putCpl_pins (s : State) (fn : Nat) (c : CplRec) : (s.putCpl fn c).pins = s.pins := (State.putCpl_frame (msk := 10496) rfl (Frame.refl _ s)).same .pins rfl
@[simp] theorem State.putCpl_flash (s : State) (fn : Nat) (c : CplRec) : (s.putCpl fn c).flash = s.flash := (State.putCpl_frame (msk := 10496) rfl (Frame.refl _ s)).same .flash rfl
@[simp] theorem State.putCpl_latched (s : State) (fn : Nat) (c : CplRec) : (s.putCpl fn c).latched = s.latched := (State.putCpl_frame (msk := 10496) rfl (Frame.refl _ s)).same .latched rfl
@[simp] theorem State.putCpl_stats (s : State) (fn : Nat) (c : CplRec) : (s.putCpl fn c).stats = s.stats := (State.putCpl_frame (msk := 10496) rfl (Frame.refl _ s)).same .stats rfl
@[simp] theorem State.putCpl_out (s : State) (fn : Nat) (c : CplRec) : (s.putCpl fn c).out = s.out := (State.putCpl_frame (msk := 10496) rfl (Frame.refl _ s)).same .out rfl
@[simp] theorem State.putCpl_fresh (s : State) (fn : Nat) (c : CplRec) : (s.putCpl fn c).fresh = s.fresh := (State.putCpl_frame (msk := 10496) rfl (Frame.refl _ s)).same .fresh rfl

@[simp] theorem State.writeEvt_pending (s : State) (fn : Nat) (e : EvtRec) : (s.writeEvt fn e).pending = s.pending := (State.writeEvt_frame (msk := 10496) rfl (Frame.refl _ s)).queue
@[simp] theorem State.writeEvt_mem (s : State) (fn : Nat) (e : EvtRec) : (s.writeEvt fn e).mem = s.mem := (State.writeEvt_frame (msk := 10496) rfl (Frame.refl _ s)).same .mem rfl
@[simp] theorem State.writeEvt_rgn (s : State) (fn : Nat) (e : EvtRec) : (s.writeEvt fn e).rgn = s.rgn := (State.writeEvt_frame (msk := 10496) rfl (Frame.refl _ s)).same .rgn rfl
@[simp] theorem State.writeEvt_dir (s : State) (fn : Nat) (e : EvtRec) : (s.writeEvt fn e).dir = s.dir := (State.writeEvt_frame (msk := 10496) rfl (Frame.refl _ s)).same .dir rfl
@[simp] theorem State.writeEvt_xlt (s : State) (fn : Nat) (e : EvtRec) : (s.writeEvt fn e).xlt = s.xlt := (State.writeEvt_frame (msk := 10496) rfl (Frame.refl _ s)).same .xlt rfl
@[simp] theorem State.writeEvt_eng (s : State) (fn : Nat) (e : EvtRec) : (s.writeEvt fn e).eng = s.eng := (State.writeEvt_frame (msk := 10496) rfl (Frame.refl _ s)).same .eng rfl
@[simp] theorem State.writeEvt_opu (s : State) (fn : Nat) (e : EvtRec) : (s.writeEvt fn e).opu = s.opu := (State.writeEvt_frame (msk := 10496) rfl (Frame.refl _ s)).same .opu rfl
@[simp] theorem State.writeEvt_mcx (s : State) (fn : Nat) (e : EvtRec) : (s.writeEvt fn e).mcx = s.mcx := (State.writeEvt_frame (msk := 10496) rfl (Frame.refl _ s)).same .mcx rfl
@[simp] theorem State.writeEvt_sec (s : State) (fn : Nat) (e : EvtRec) : (s.writeEvt fn e).sec = s.sec := (State.writeEvt_frame (msk := 10496) rfl (Frame.refl _ s)).same .sec rfl
@[simp] theorem State.writeEvt_pci (s : State) (fn : Nat) (e : EvtRec) : (s.writeEvt fn e).pci = s.pci := (State.writeEvt_frame (msk := 10496) rfl (Frame.refl _ s)).same .pci rfl
@[simp] theorem State.writeEvt_tlk (s : State) (fn : Nat) (e : EvtRec) : (s.writeEvt fn e).tlk = s.tlk := (State.writeEvt_frame (msk := 10496) rfl (Frame.refl _ s)).same .tlk rfl
@[simp] theorem State.writeEvt_mtr (s : State) (fn : Nat) (e : EvtRec) : (s.writeEvt fn e).mtr = s.mtr := (State.writeEvt_frame (msk := 10496) rfl (Frame.refl _ s)).same .mtr rfl
@[simp] theorem State.writeEvt_flt (s : State) (fn : Nat) (e : EvtRec) : (s.writeEvt fn e).flt = s.flt := (State.writeEvt_frame (msk := 10496) rfl (Frame.refl _ s)).same .flt rfl
@[simp] theorem State.writeEvt_mir (s : State) (fn : Nat) (e : EvtRec) : (s.writeEvt fn e).mir = s.mir := (State.writeEvt_frame (msk := 10496) rfl (Frame.refl _ s)).same .mir rfl
@[simp] theorem State.writeEvt_glb (s : State) (fn : Nat) (e : EvtRec) : (s.writeEvt fn e).glb = s.glb := (State.writeEvt_frame (msk := 10496) rfl (Frame.refl _ s)).same .glb rfl
@[simp] theorem State.writeEvt_pwr (s : State) (fn : Nat) (e : EvtRec) : (s.writeEvt fn e).pwr = s.pwr := (State.writeEvt_frame (msk := 10496) rfl (Frame.refl _ s)).same .pwr rfl
@[simp] theorem State.writeEvt_pins (s : State) (fn : Nat) (e : EvtRec) : (s.writeEvt fn e).pins = s.pins := (State.writeEvt_frame (msk := 10496) rfl (Frame.refl _ s)).same .pins rfl
@[simp] theorem State.writeEvt_flash (s : State) (fn : Nat) (e : EvtRec) : (s.writeEvt fn e).flash = s.flash := (State.writeEvt_frame (msk := 10496) rfl (Frame.refl _ s)).same .flash rfl
@[simp] theorem State.writeEvt_latched (s : State) (fn : Nat) (e : EvtRec) : (s.writeEvt fn e).latched = s.latched := (State.writeEvt_frame (msk := 10496) rfl (Frame.refl _ s)).same .latched rfl
@[simp] theorem State.writeEvt_stats (s : State) (fn : Nat) (e : EvtRec) : (s.writeEvt fn e).stats = s.stats := (State.writeEvt_frame (msk := 10496) rfl (Frame.refl _ s)).same .stats rfl
@[simp] theorem State.writeEvt_out (s : State) (fn : Nat) (e : EvtRec) : (s.writeEvt fn e).out = s.out := (State.writeEvt_frame (msk := 10496) rfl (Frame.refl _ s)).same .out rfl
@[simp] theorem State.writeEvt_fresh (s : State) (fn : Nat) (e : EvtRec) : (s.writeEvt fn e).fresh = s.fresh := (State.writeEvt_frame (msk := 10496) rfl (Frame.refl _ s)).same .fresh rfl

@[simp] theorem State.putEvt_pending (s : State) (fn : Nat) (e : EvtRec) : (s.putEvt fn e).1.pending = s.pending := (State.putEvt_frame (msk := 2124032) rfl (Frame.refl _ s)).queue
@[simp] theorem State.putEvt_mem (s : State) (fn : Nat) (e : EvtRec) : (s.putEvt fn e).1.mem = s.mem := (State.putEvt_frame (msk := 2124032) rfl (Frame.refl _ s)).same .mem rfl
@[simp] theorem State.putEvt_rgn (s : State) (fn : Nat) (e : EvtRec) : (s.putEvt fn e).1.rgn = s.rgn := (State.putEvt_frame (msk := 2124032) rfl (Frame.refl _ s)).same .rgn rfl
@[simp] theorem State.putEvt_dir (s : State) (fn : Nat) (e : EvtRec) : (s.putEvt fn e).1.dir = s.dir := (State.putEvt_frame (msk := 2124032) rfl (Frame.refl _ s)).same .dir rfl
@[simp] theorem State.putEvt_xlt (s : State) (fn : Nat) (e : EvtRec) : (s.putEvt fn e).1.xlt = s.xlt := (State.putEvt_frame (msk := 2124032) rfl (Frame.refl _ s)).same .xlt rfl
@[simp] theorem State.putEvt_eng (s : State) (fn : Nat) (e : EvtRec) : (s.putEvt fn e).1.eng = s.eng := (State.putEvt_frame (msk := 2124032) rfl (Frame.refl _ s)).same .eng rfl
@[simp] theorem State.putEvt_opu (s : State) (fn : Nat) (e : EvtRec) : (s.putEvt fn e).1.opu = s.opu := (State.putEvt_frame (msk := 2124032) rfl (Frame.refl _ s)).same .opu rfl
@[simp] theorem State.putEvt_mcx (s : State) (fn : Nat) (e : EvtRec) : (s.putEvt fn e).1.mcx = s.mcx := (State.putEvt_frame (msk := 2124032) rfl (Frame.refl _ s)).same .mcx rfl
@[simp] theorem State.putEvt_sec (s : State) (fn : Nat) (e : EvtRec) : (s.putEvt fn e).1.sec = s.sec := (State.putEvt_frame (msk := 2124032) rfl (Frame.refl _ s)).same .sec rfl
@[simp] theorem State.putEvt_pci (s : State) (fn : Nat) (e : EvtRec) : (s.putEvt fn e).1.pci = s.pci := (State.putEvt_frame (msk := 2124032) rfl (Frame.refl _ s)).same .pci rfl
@[simp] theorem State.putEvt_tlk (s : State) (fn : Nat) (e : EvtRec) : (s.putEvt fn e).1.tlk = s.tlk := (State.putEvt_frame (msk := 2124032) rfl (Frame.refl _ s)).same .tlk rfl
@[simp] theorem State.putEvt_mtr (s : State) (fn : Nat) (e : EvtRec) : (s.putEvt fn e).1.mtr = s.mtr := (State.putEvt_frame (msk := 2124032) rfl (Frame.refl _ s)).same .mtr rfl
@[simp] theorem State.putEvt_mir (s : State) (fn : Nat) (e : EvtRec) : (s.putEvt fn e).1.mir = s.mir := (State.putEvt_frame (msk := 2124032) rfl (Frame.refl _ s)).same .mir rfl
@[simp] theorem State.putEvt_glb (s : State) (fn : Nat) (e : EvtRec) : (s.putEvt fn e).1.glb = s.glb := (State.putEvt_frame (msk := 2124032) rfl (Frame.refl _ s)).same .glb rfl
@[simp] theorem State.putEvt_pwr (s : State) (fn : Nat) (e : EvtRec) : (s.putEvt fn e).1.pwr = s.pwr := (State.putEvt_frame (msk := 2124032) rfl (Frame.refl _ s)).same .pwr rfl
@[simp] theorem State.putEvt_pins (s : State) (fn : Nat) (e : EvtRec) : (s.putEvt fn e).1.pins = s.pins := (State.putEvt_frame (msk := 2124032) rfl (Frame.refl _ s)).same .pins rfl
@[simp] theorem State.putEvt_flash (s : State) (fn : Nat) (e : EvtRec) : (s.putEvt fn e).1.flash = s.flash := (State.putEvt_frame (msk := 2124032) rfl (Frame.refl _ s)).same .flash rfl
@[simp] theorem State.putEvt_latched (s : State) (fn : Nat) (e : EvtRec) : (s.putEvt fn e).1.latched = s.latched := (State.putEvt_frame (msk := 2124032) rfl (Frame.refl _ s)).same .latched rfl
@[simp] theorem State.putEvt_out (s : State) (fn : Nat) (e : EvtRec) : (s.putEvt fn e).1.out = s.out := (State.putEvt_frame (msk := 2124032) rfl (Frame.refl _ s)).same .out rfl
@[simp] theorem State.putEvt_fresh (s : State) (fn : Nat) (e : EvtRec) : (s.putEvt fn e).1.fresh = s.fresh := (State.putEvt_frame (msk := 2124032) rfl (Frame.refl _ s)).same .fresh rfl

@[simp] theorem State.putEvts_pending (s : State) (fns : List Nat) (ev : Nat) (payload : List Byte) : (s.putEvts fns ev payload).1.pending = s.pending := (State.putEvts_frame (msk := 2124032) rfl (Frame.refl _ s)).queue
@[simp] theorem State.putEvts_mem (s : State) (fns : List Nat) (ev : Nat) (payload : List Byte) : (s.putEvts fns ev payload).1.mem = s.mem := (State.putEvts_frame (msk := 2124032) rfl (Frame.refl _ s)).same .mem rfl
@[simp] theorem State.putEvts_rgn (s : State) (fns : List Nat) (ev : Nat) (payload : List Byte) : (s.putEvts fns ev payload).1.rgn = s.rgn := (State.putEvts_frame (msk := 2124032) rfl (Frame.refl _ s)).same .rgn rfl
@[simp] theorem State.putEvts_dir (s : State) (fns : List Nat) (ev : Nat) (payload : List Byte) : (s.putEvts fns ev payload).1.dir = s.dir := (State.putEvts_frame (msk := 2124032) rfl (Frame.refl _ s)).same .dir rfl
@[simp] theorem State.putEvts_xlt (s : State) (fns : List Nat) (ev : Nat) (payload : List Byte) : (s.putEvts fns ev payload).1.xlt = s.xlt := (State.putEvts_frame (msk := 2124032) rfl (Frame.refl _ s)).same .xlt rfl
@[simp] theorem State.putEvts_eng (s : State) (fns : List Nat) (ev : Nat) (payload : List Byte) : (s.putEvts fns ev payload).1.eng = s.eng := (State.putEvts_frame (msk := 2124032) rfl (Frame.refl _ s)).same .eng rfl
@[simp] theorem State.putEvts_opu (s : State) (fns : List Nat) (ev : Nat) (payload : List Byte) : (s.putEvts fns ev payload).1.opu = s.opu := (State.putEvts_frame (msk := 2124032) rfl (Frame.refl _ s)).same .opu rfl
@[simp] theorem State.putEvts_mcx (s : State) (fns : List Nat) (ev : Nat) (payload : List Byte) : (s.putEvts fns ev payload).1.mcx = s.mcx := (State.putEvts_frame (msk := 2124032) rfl (Frame.refl _ s)).same .mcx rfl
@[simp] theorem State.putEvts_sec (s : State) (fns : List Nat) (ev : Nat) (payload : List Byte) : (s.putEvts fns ev payload).1.sec = s.sec := (State.putEvts_frame (msk := 2124032) rfl (Frame.refl _ s)).same .sec rfl
@[simp] theorem State.putEvts_pci (s : State) (fns : List Nat) (ev : Nat) (payload : List Byte) : (s.putEvts fns ev payload).1.pci = s.pci := (State.putEvts_frame (msk := 2124032) rfl (Frame.refl _ s)).same .pci rfl
@[simp] theorem State.putEvts_tlk (s : State) (fns : List Nat) (ev : Nat) (payload : List Byte) : (s.putEvts fns ev payload).1.tlk = s.tlk := (State.putEvts_frame (msk := 2124032) rfl (Frame.refl _ s)).same .tlk rfl
@[simp] theorem State.putEvts_mtr (s : State) (fns : List Nat) (ev : Nat) (payload : List Byte) : (s.putEvts fns ev payload).1.mtr = s.mtr := (State.putEvts_frame (msk := 2124032) rfl (Frame.refl _ s)).same .mtr rfl
@[simp] theorem State.putEvts_mir (s : State) (fns : List Nat) (ev : Nat) (payload : List Byte) : (s.putEvts fns ev payload).1.mir = s.mir := (State.putEvts_frame (msk := 2124032) rfl (Frame.refl _ s)).same .mir rfl
@[simp] theorem State.putEvts_glb (s : State) (fns : List Nat) (ev : Nat) (payload : List Byte) : (s.putEvts fns ev payload).1.glb = s.glb := (State.putEvts_frame (msk := 2124032) rfl (Frame.refl _ s)).same .glb rfl
@[simp] theorem State.putEvts_pwr (s : State) (fns : List Nat) (ev : Nat) (payload : List Byte) : (s.putEvts fns ev payload).1.pwr = s.pwr := (State.putEvts_frame (msk := 2124032) rfl (Frame.refl _ s)).same .pwr rfl
@[simp] theorem State.putEvts_pins (s : State) (fns : List Nat) (ev : Nat) (payload : List Byte) : (s.putEvts fns ev payload).1.pins = s.pins := (State.putEvts_frame (msk := 2124032) rfl (Frame.refl _ s)).same .pins rfl
@[simp] theorem State.putEvts_flash (s : State) (fns : List Nat) (ev : Nat) (payload : List Byte) : (s.putEvts fns ev payload).1.flash = s.flash := (State.putEvts_frame (msk := 2124032) rfl (Frame.refl _ s)).same .flash rfl
@[simp] theorem State.putEvts_latched (s : State) (fns : List Nat) (ev : Nat) (payload : List Byte) : (s.putEvts fns ev payload).1.latched = s.latched := (State.putEvts_frame (msk := 2124032) rfl (Frame.refl _ s)).same .latched rfl
@[simp] theorem State.putEvts_out (s : State) (fns : List Nat) (ev : Nat) (payload : List Byte) : (s.putEvts fns ev payload).1.out = s.out := (State.putEvts_frame (msk := 2124032) rfl (Frame.refl _ s)).same .out rfl
@[simp] theorem State.putEvts_fresh (s : State) (fns : List Nat) (ev : Nat) (payload : List Byte) : (s.putEvts fns ev payload).1.fresh = s.fresh := (State.putEvts_frame (msk := 2124032) rfl (Frame.refl _ s)).same .fresh rfl

@[simp] theorem State.raiseCore_pending (s : State) (blk j cause info : Nat) : (s.raiseCore blk j cause info).1.pending = s.pending := (State.raiseCore_frame (msk := 2124032) rfl (Frame.refl _ s)).queue
@[simp] theorem State.raiseCore_mem (s : State) (blk j cause info : Nat) : (s.raiseCore blk j cause info).1.mem = s.mem := (State.raiseCore_frame (msk := 2124032) rfl (Frame.refl _ s)).same .mem rfl
@[simp] theorem State.raiseCore_rgn (s : State) (blk j cause info : Nat) : (s.raiseCore blk j cause info).1.rgn = s.rgn := (State.raiseCore_frame (msk := 2124032) rfl (Frame.refl _ s)).same .rgn rfl
@[simp] theorem State.raiseCore_dir (s : State) (blk j cause info : Nat) : (s.raiseCore blk j cause info).1.dir = s.dir := (State.raiseCore_frame (msk := 2124032) rfl (Frame.refl _ s)).same .dir rfl
@[simp] theorem State.raiseCore_xlt (s : State) (blk j cause info : Nat) : (s.raiseCore blk j cause info).1.xlt = s.xlt := (State.raiseCore_frame (msk := 2124032) rfl (Frame.refl _ s)).same .xlt rfl
@[simp] theorem State.raiseCore_eng (s : State) (blk j cause info : Nat) : (s.raiseCore blk j cause info).1.eng = s.eng := (State.raiseCore_frame (msk := 2124032) rfl (Frame.refl _ s)).same .eng rfl
@[simp] theorem State.raiseCore_opu (s : State) (blk j cause info : Nat) : (s.raiseCore blk j cause info).1.opu = s.opu := (State.raiseCore_frame (msk := 2124032) rfl (Frame.refl _ s)).same .opu rfl
@[simp] theorem State.raiseCore_mcx (s : State) (blk j cause info : Nat) : (s.raiseCore blk j cause info).1.mcx = s.mcx := (State.raiseCore_frame (msk := 2124032) rfl (Frame.refl _ s)).same .mcx rfl
@[simp] theorem State.raiseCore_sec (s : State) (blk j cause info : Nat) : (s.raiseCore blk j cause info).1.sec = s.sec := (State.raiseCore_frame (msk := 2124032) rfl (Frame.refl _ s)).same .sec rfl
@[simp] theorem State.raiseCore_pci (s : State) (blk j cause info : Nat) : (s.raiseCore blk j cause info).1.pci = s.pci := (State.raiseCore_frame (msk := 2124032) rfl (Frame.refl _ s)).same .pci rfl
@[simp] theorem State.raiseCore_tlk (s : State) (blk j cause info : Nat) : (s.raiseCore blk j cause info).1.tlk = s.tlk := (State.raiseCore_frame (msk := 2124032) rfl (Frame.refl _ s)).same .tlk rfl
@[simp] theorem State.raiseCore_mtr (s : State) (blk j cause info : Nat) : (s.raiseCore blk j cause info).1.mtr = s.mtr := (State.raiseCore_frame (msk := 2124032) rfl (Frame.refl _ s)).same .mtr rfl
@[simp] theorem State.raiseCore_mir (s : State) (blk j cause info : Nat) : (s.raiseCore blk j cause info).1.mir = s.mir := (State.raiseCore_frame (msk := 2124032) rfl (Frame.refl _ s)).same .mir rfl
@[simp] theorem State.raiseCore_glb (s : State) (blk j cause info : Nat) : (s.raiseCore blk j cause info).1.glb = s.glb := (State.raiseCore_frame (msk := 2124032) rfl (Frame.refl _ s)).same .glb rfl
@[simp] theorem State.raiseCore_pwr (s : State) (blk j cause info : Nat) : (s.raiseCore blk j cause info).1.pwr = s.pwr := (State.raiseCore_frame (msk := 2124032) rfl (Frame.refl _ s)).same .pwr rfl
@[simp] theorem State.raiseCore_pins (s : State) (blk j cause info : Nat) : (s.raiseCore blk j cause info).1.pins = s.pins := (State.raiseCore_frame (msk := 2124032) rfl (Frame.refl _ s)).same .pins rfl
@[simp] theorem State.raiseCore_flash (s : State) (blk j cause info : Nat) : (s.raiseCore blk j cause info).1.flash = s.flash := (State.raiseCore_frame (msk := 2124032) rfl (Frame.refl _ s)).same .flash rfl
@[simp] theorem State.raiseCore_latched (s : State) (blk j cause info : Nat) : (s.raiseCore blk j cause info).1.latched = s.latched := (State.raiseCore_frame (msk := 2124032) rfl (Frame.refl _ s)).same .latched rfl
@[simp] theorem State.raiseCore_out (s : State) (blk j cause info : Nat) : (s.raiseCore blk j cause info).1.out = s.out := (State.raiseCore_frame (msk := 2124032) rfl (Frame.refl _ s)).same .out rfl
@[simp] theorem State.raiseCore_fresh (s : State) (blk j cause info : Nat) : (s.raiseCore blk j cause info).1.fresh = s.fresh := (State.raiseCore_frame (msk := 2124032) rfl (Frame.refl _ s)).same .fresh rfl

@[simp] theorem State.raise_pending (s : State) (blk j cause info : Nat) : (s.raise blk j cause info).pending = s.pending := (State.raise_frame (msk := 2124032) rfl (Frame.refl _ s)).queue
@[simp] theorem State.raise_mem (s : State) (blk j cause info : Nat) : (s.raise blk j cause info).mem = s.mem := (State.raise_frame (msk := 2124032) rfl (Frame.refl _ s)).same .mem rfl
@[simp] theorem State.raise_rgn (s : State) (blk j cause info : Nat) : (s.raise blk j cause info).rgn = s.rgn := (State.raise_frame (msk := 2124032) rfl (Frame.refl _ s)).same .rgn rfl
@[simp] theorem State.raise_dir (s : State) (blk j cause info : Nat) : (s.raise blk j cause info).dir = s.dir := (State.raise_frame (msk := 2124032) rfl (Frame.refl _ s)).same .dir rfl
@[simp] theorem State.raise_xlt (s : State) (blk j cause info : Nat) : (s.raise blk j cause info).xlt = s.xlt := (State.raise_frame (msk := 2124032) rfl (Frame.refl _ s)).same .xlt rfl
@[simp] theorem State.raise_eng (s : State) (blk j cause info : Nat) : (s.raise blk j cause info).eng = s.eng := (State.raise_frame (msk := 2124032) rfl (Frame.refl _ s)).same .eng rfl
@[simp] theorem State.raise_opu (s : State) (blk j cause info : Nat) : (s.raise blk j cause info).opu = s.opu := (State.raise_frame (msk := 2124032) rfl (Frame.refl _ s)).same .opu rfl
@[simp] theorem State.raise_mcx (s : State) (blk j cause info : Nat) : (s.raise blk j cause info).mcx = s.mcx := (State.raise_frame (msk := 2124032) rfl (Frame.refl _ s)).same .mcx rfl
@[simp] theorem State.raise_sec (s : State) (blk j cause info : Nat) : (s.raise blk j cause info).sec = s.sec := (State.raise_frame (msk := 2124032) rfl (Frame.refl _ s)).same .sec rfl
@[simp] theorem State.raise_pci (s : State) (blk j cause info : Nat) : (s.raise blk j cause info).pci = s.pci := (State.raise_frame (msk := 2124032) rfl (Frame.refl _ s)).same .pci rfl
@[simp] theorem State.raise_tlk (s : State) (blk j cause info : Nat) : (s.raise blk j cause info).tlk = s.tlk := (State.raise_frame (msk := 2124032) rfl (Frame.refl _ s)).same .tlk rfl
@[simp] theorem State.raise_mtr (s : State) (blk j cause info : Nat) : (s.raise blk j cause info).mtr = s.mtr := (State.raise_frame (msk := 2124032) rfl (Frame.refl _ s)).same .mtr rfl
@[simp] theorem State.raise_mir (s : State) (blk j cause info : Nat) : (s.raise blk j cause info).mir = s.mir := (State.raise_frame (msk := 2124032) rfl (Frame.refl _ s)).same .mir rfl
@[simp] theorem State.raise_glb (s : State) (blk j cause info : Nat) : (s.raise blk j cause info).glb = s.glb := (State.raise_frame (msk := 2124032) rfl (Frame.refl _ s)).same .glb rfl
@[simp] theorem State.raise_pwr (s : State) (blk j cause info : Nat) : (s.raise blk j cause info).pwr = s.pwr := (State.raise_frame (msk := 2124032) rfl (Frame.refl _ s)).same .pwr rfl
@[simp] theorem State.raise_pins (s : State) (blk j cause info : Nat) : (s.raise blk j cause info).pins = s.pins := (State.raise_frame (msk := 2124032) rfl (Frame.refl _ s)).same .pins rfl
@[simp] theorem State.raise_flash (s : State) (blk j cause info : Nat) : (s.raise blk j cause info).flash = s.flash := (State.raise_frame (msk := 2124032) rfl (Frame.refl _ s)).same .flash rfl
@[simp] theorem State.raise_latched (s : State) (blk j cause info : Nat) : (s.raise blk j cause info).latched = s.latched := (State.raise_frame (msk := 2124032) rfl (Frame.refl _ s)).same .latched rfl
@[simp] theorem State.raise_out (s : State) (blk j cause info : Nat) : (s.raise blk j cause info).out = s.out := (State.raise_frame (msk := 2124032) rfl (Frame.refl _ s)).same .out rfl
@[simp] theorem State.raise_fresh (s : State) (blk j cause info : Nat) : (s.raise blk j cause info).fresh = s.fresh := (State.raise_frame (msk := 2124032) rfl (Frame.refl _ s)).same .fresh rfl

@[simp] theorem State.event_pending (s : State) (fns : List Nat) (ev : Nat) (payload : List Byte) : (s.event fns ev payload).pending = s.pending := (State.event_frame (msk := 2124032) rfl (Frame.refl _ s)).queue
@[simp] theorem State.event_mem (s : State) (fns : List Nat) (ev : Nat) (payload : List Byte) : (s.event fns ev payload).mem = s.mem := (State.event_frame (msk := 2124032) rfl (Frame.refl _ s)).same .mem rfl
@[simp] theorem State.event_rgn (s : State) (fns : List Nat) (ev : Nat) (payload : List Byte) : (s.event fns ev payload).rgn = s.rgn := (State.event_frame (msk := 2124032) rfl (Frame.refl _ s)).same .rgn rfl
@[simp] theorem State.event_dir (s : State) (fns : List Nat) (ev : Nat) (payload : List Byte) : (s.event fns ev payload).dir = s.dir := (State.event_frame (msk := 2124032) rfl (Frame.refl _ s)).same .dir rfl
@[simp] theorem State.event_xlt (s : State) (fns : List Nat) (ev : Nat) (payload : List Byte) : (s.event fns ev payload).xlt = s.xlt := (State.event_frame (msk := 2124032) rfl (Frame.refl _ s)).same .xlt rfl
@[simp] theorem State.event_eng (s : State) (fns : List Nat) (ev : Nat) (payload : List Byte) : (s.event fns ev payload).eng = s.eng := (State.event_frame (msk := 2124032) rfl (Frame.refl _ s)).same .eng rfl
@[simp] theorem State.event_opu (s : State) (fns : List Nat) (ev : Nat) (payload : List Byte) : (s.event fns ev payload).opu = s.opu := (State.event_frame (msk := 2124032) rfl (Frame.refl _ s)).same .opu rfl
@[simp] theorem State.event_mcx (s : State) (fns : List Nat) (ev : Nat) (payload : List Byte) : (s.event fns ev payload).mcx = s.mcx := (State.event_frame (msk := 2124032) rfl (Frame.refl _ s)).same .mcx rfl
@[simp] theorem State.event_sec (s : State) (fns : List Nat) (ev : Nat) (payload : List Byte) : (s.event fns ev payload).sec = s.sec := (State.event_frame (msk := 2124032) rfl (Frame.refl _ s)).same .sec rfl
@[simp] theorem State.event_pci (s : State) (fns : List Nat) (ev : Nat) (payload : List Byte) : (s.event fns ev payload).pci = s.pci := (State.event_frame (msk := 2124032) rfl (Frame.refl _ s)).same .pci rfl
@[simp] theorem State.event_tlk (s : State) (fns : List Nat) (ev : Nat) (payload : List Byte) : (s.event fns ev payload).tlk = s.tlk := (State.event_frame (msk := 2124032) rfl (Frame.refl _ s)).same .tlk rfl
@[simp] theorem State.event_mtr (s : State) (fns : List Nat) (ev : Nat) (payload : List Byte) : (s.event fns ev payload).mtr = s.mtr := (State.event_frame (msk := 2124032) rfl (Frame.refl _ s)).same .mtr rfl
@[simp] theorem State.event_mir (s : State) (fns : List Nat) (ev : Nat) (payload : List Byte) : (s.event fns ev payload).mir = s.mir := (State.event_frame (msk := 2124032) rfl (Frame.refl _ s)).same .mir rfl
@[simp] theorem State.event_glb (s : State) (fns : List Nat) (ev : Nat) (payload : List Byte) : (s.event fns ev payload).glb = s.glb := (State.event_frame (msk := 2124032) rfl (Frame.refl _ s)).same .glb rfl
@[simp] theorem State.event_pwr (s : State) (fns : List Nat) (ev : Nat) (payload : List Byte) : (s.event fns ev payload).pwr = s.pwr := (State.event_frame (msk := 2124032) rfl (Frame.refl _ s)).same .pwr rfl
@[simp] theorem State.event_pins (s : State) (fns : List Nat) (ev : Nat) (payload : List Byte) : (s.event fns ev payload).pins = s.pins := (State.event_frame (msk := 2124032) rfl (Frame.refl _ s)).same .pins rfl
@[simp] theorem State.event_flash (s : State) (fns : List Nat) (ev : Nat) (payload : List Byte) : (s.event fns ev payload).flash = s.flash := (State.event_frame (msk := 2124032) rfl (Frame.refl _ s)).same .flash rfl
@[simp] theorem State.event_latched (s : State) (fns : List Nat) (ev : Nat) (payload : List Byte) : (s.event fns ev payload).latched = s.latched := (State.event_frame (msk := 2124032) rfl (Frame.refl _ s)).same .latched rfl
@[simp] theorem State.event_out (s : State) (fns : List Nat) (ev : Nat) (payload : List Byte) : (s.event fns ev payload).out = s.out := (State.event_frame (msk := 2124032) rfl (Frame.refl _ s)).same .out rfl
@[simp] theorem State.event_fresh (s : State) (fns : List Nat) (ev : Nat) (payload : List Byte) : (s.event fns ev payload).fresh = s.fresh := (State.event_frame (msk := 2124032) rfl (Frame.refl _ s)).same .fresh rfl

@[simp] theorem State.raiseRail_pending (s : State) (blk j : Nat) : (s.raiseRail blk j).pending = s.pending := (State.raiseRail_frame (msk := 2124032) rfl (Frame.refl _ s)).queue
@[simp] theorem State.raiseRail_mem (s : State) (blk j : Nat) : (s.raiseRail blk j).mem = s.mem := (State.raiseRail_frame (msk := 2124032) rfl (Frame.refl _ s)).same .mem rfl
@[simp] theorem State.raiseRail_rgn (s : State) (blk j : Nat) : (s.raiseRail blk j).rgn = s.rgn := (State.raiseRail_frame (msk := 2124032) rfl (Frame.refl _ s)).same .rgn rfl
@[simp] theorem State.raiseRail_dir (s : State) (blk j : Nat) : (s.raiseRail blk j).dir = s.dir := (State.raiseRail_frame (msk := 2124032) rfl (Frame.refl _ s)).same .dir rfl
@[simp] theorem State.raiseRail_xlt (s : State) (blk j : Nat) : (s.raiseRail blk j).xlt = s.xlt := (State.raiseRail_frame (msk := 2124032) rfl (Frame.refl _ s)).same .xlt rfl
@[simp] theorem State.raiseRail_eng (s : State) (blk j : Nat) : (s.raiseRail blk j).eng = s.eng := (State.raiseRail_frame (msk := 2124032) rfl (Frame.refl _ s)).same .eng rfl
@[simp] theorem State.raiseRail_opu (s : State) (blk j : Nat) : (s.raiseRail blk j).opu = s.opu := (State.raiseRail_frame (msk := 2124032) rfl (Frame.refl _ s)).same .opu rfl
@[simp] theorem State.raiseRail_mcx (s : State) (blk j : Nat) : (s.raiseRail blk j).mcx = s.mcx := (State.raiseRail_frame (msk := 2124032) rfl (Frame.refl _ s)).same .mcx rfl
@[simp] theorem State.raiseRail_sec (s : State) (blk j : Nat) : (s.raiseRail blk j).sec = s.sec := (State.raiseRail_frame (msk := 2124032) rfl (Frame.refl _ s)).same .sec rfl
@[simp] theorem State.raiseRail_pci (s : State) (blk j : Nat) : (s.raiseRail blk j).pci = s.pci := (State.raiseRail_frame (msk := 2124032) rfl (Frame.refl _ s)).same .pci rfl
@[simp] theorem State.raiseRail_tlk (s : State) (blk j : Nat) : (s.raiseRail blk j).tlk = s.tlk := (State.raiseRail_frame (msk := 2124032) rfl (Frame.refl _ s)).same .tlk rfl
@[simp] theorem State.raiseRail_mtr (s : State) (blk j : Nat) : (s.raiseRail blk j).mtr = s.mtr := (State.raiseRail_frame (msk := 2124032) rfl (Frame.refl _ s)).same .mtr rfl
@[simp] theorem State.raiseRail_mir (s : State) (blk j : Nat) : (s.raiseRail blk j).mir = s.mir := (State.raiseRail_frame (msk := 2124032) rfl (Frame.refl _ s)).same .mir rfl
@[simp] theorem State.raiseRail_glb (s : State) (blk j : Nat) : (s.raiseRail blk j).glb = s.glb := (State.raiseRail_frame (msk := 2124032) rfl (Frame.refl _ s)).same .glb rfl
@[simp] theorem State.raiseRail_pwr (s : State) (blk j : Nat) : (s.raiseRail blk j).pwr = s.pwr := (State.raiseRail_frame (msk := 2124032) rfl (Frame.refl _ s)).same .pwr rfl
@[simp] theorem State.raiseRail_pins (s : State) (blk j : Nat) : (s.raiseRail blk j).pins = s.pins := (State.raiseRail_frame (msk := 2124032) rfl (Frame.refl _ s)).same .pins rfl
@[simp] theorem State.raiseRail_flash (s : State) (blk j : Nat) : (s.raiseRail blk j).flash = s.flash := (State.raiseRail_frame (msk := 2124032) rfl (Frame.refl _ s)).same .flash rfl
@[simp] theorem State.raiseRail_latched (s : State) (blk j : Nat) : (s.raiseRail blk j).latched = s.latched := (State.raiseRail_frame (msk := 2124032) rfl (Frame.refl _ s)).same .latched rfl
@[simp] theorem State.raiseRail_out (s : State) (blk j : Nat) : (s.raiseRail blk j).out = s.out := (State.raiseRail_frame (msk := 2124032) rfl (Frame.refl _ s)).same .out rfl
@[simp] theorem State.raiseRail_fresh (s : State) (blk j : Nat) : (s.raiseRail blk j).fresh = s.fresh := (State.raiseRail_frame (msk := 2124032) rfl (Frame.refl _ s)).same .fresh rfl

@[simp] theorem State.change_pending (s : State) : (s.change).pending = s.pending := (State.change_frame (msk := 32768) rfl (Frame.refl _ s)).queue
@[simp] theorem State.change_mem (s : State) : (s.change).mem = s.mem := (State.change_frame (msk := 32768) rfl (Frame.refl _ s)).same .mem rfl
@[simp] theorem State.change_rgn (s : State) : (s.change).rgn = s.rgn := (State.change_frame (msk := 32768) rfl (Frame.refl _ s)).same .rgn rfl
@[simp] theorem State.change_dir (s : State) : (s.change).dir = s.dir := (State.change_frame (msk := 32768) rfl (Frame.refl _ s)).same .dir rfl
@[simp] theorem State.change_xlt (s : State) : (s.change).xlt = s.xlt := (State.change_frame (msk := 32768) rfl (Frame.refl _ s)).same .xlt rfl
@[simp] theorem State.change_eng (s : State) : (s.change).eng = s.eng := (State.change_frame (msk := 32768) rfl (Frame.refl _ s)).same .eng rfl
@[simp] theorem State.change_opu (s : State) : (s.change).opu = s.opu := (State.change_frame (msk := 32768) rfl (Frame.refl _ s)).same .opu rfl
@[simp] theorem State.change_mcx (s : State) : (s.change).mcx = s.mcx := (State.change_frame (msk := 32768) rfl (Frame.refl _ s)).same .mcx rfl
@[simp] theorem State.change_sec (s : State) : (s.change).sec = s.sec := (State.change_frame (msk := 32768) rfl (Frame.refl _ s)).same .sec rfl
@[simp] theorem State.change_cmd (s : State) : (s.change).cmd = s.cmd := (State.change_frame (msk := 32768) rfl (Frame.refl _ s)).same .cmd rfl
@[simp] theorem State.change_pci (s : State) : (s.change).pci = s.pci := (State.change_frame (msk := 32768) rfl (Frame.refl _ s)).same .pci rfl
@[simp] theorem State.change_tlk (s : State) : (s.change).tlk = s.tlk := (State.change_frame (msk := 32768) rfl (Frame.refl _ s)).same .tlk rfl
@[simp] theorem State.change_trt (s : State) : (s.change).trt = s.trt := (State.change_frame (msk := 32768) rfl (Frame.refl _ s)).same .trt rfl
@[simp] theorem State.change_mtr (s : State) : (s.change).mtr = s.mtr := (State.change_frame (msk := 32768) rfl (Frame.refl _ s)).same .mtr rfl
@[simp] theorem State.change_sch (s : State) : (s.change).sch = s.sch := (State.change_frame (msk := 32768) rfl (Frame.refl _ s)).same .sch rfl
@[simp] theorem State.change_flt (s : State) : (s.change).flt = s.flt := (State.change_frame (msk := 32768) rfl (Frame.refl _ s)).same .flt rfl
@[simp] theorem State.change_glb (s : State) : (s.change).glb = s.glb := (State.change_frame (msk := 32768) rfl (Frame.refl _ s)).same .glb rfl
@[simp] theorem State.change_pwr (s : State) : (s.change).pwr = s.pwr := (State.change_frame (msk := 32768) rfl (Frame.refl _ s)).same .pwr rfl
@[simp] theorem State.change_pins (s : State) : (s.change).pins = s.pins := (State.change_frame (msk := 32768) rfl (Frame.refl _ s)).same .pins rfl
@[simp] theorem State.change_flash (s : State) : (s.change).flash = s.flash := (State.change_frame (msk := 32768) rfl (Frame.refl _ s)).same .flash rfl
@[simp] theorem State.change_latched (s : State) : (s.change).latched = s.latched := (State.change_frame (msk := 32768) rfl (Frame.refl _ s)).same .latched rfl
@[simp] theorem State.change_stats (s : State) : (s.change).stats = s.stats := (State.change_frame (msk := 32768) rfl (Frame.refl _ s)).same .stats rfl
@[simp] theorem State.change_out (s : State) : (s.change).out = s.out := (State.change_frame (msk := 32768) rfl (Frame.refl _ s)).same .out rfl
@[simp] theorem State.change_fresh (s : State) : (s.change).fresh = s.fresh := (State.change_frame (msk := 32768) rfl (Frame.refl _ s)).same .fresh rfl

@[simp] theorem State.answerHeld_pending (s : State) (fn : Nat) (c : CplRec) : (s.answerHeld fn c).pending = s.pending := (State.answerHeld_frame (msk := 43264) rfl (Frame.refl _ s)).queue
@[simp] theorem State.answerHeld_mem (s : State) (fn : Nat) (c : CplRec) : (s.answerHeld fn c).mem = s.mem := (State.answerHeld_frame (msk := 43264) rfl (Frame.refl _ s)).same .mem rfl
@[simp] theorem State.answerHeld_rgn (s : State) (fn : Nat) (c : CplRec) : (s.answerHeld fn c).rgn = s.rgn := (State.answerHeld_frame (msk := 43264) rfl (Frame.refl _ s)).same .rgn rfl
@[simp] theorem State.answerHeld_dir (s : State) (fn : Nat) (c : CplRec) : (s.answerHeld fn c).dir = s.dir := (State.answerHeld_frame (msk := 43264) rfl (Frame.refl _ s)).same .dir rfl
@[simp] theorem State.answerHeld_xlt (s : State) (fn : Nat) (c : CplRec) : (s.answerHeld fn c).xlt = s.xlt := (State.answerHeld_frame (msk := 43264) rfl (Frame.refl _ s)).same .xlt rfl
@[simp] theorem State.answerHeld_eng (s : State) (fn : Nat) (c : CplRec) : (s.answerHeld fn c).eng = s.eng := (State.answerHeld_frame (msk := 43264) rfl (Frame.refl _ s)).same .eng rfl
@[simp] theorem State.answerHeld_opu (s : State) (fn : Nat) (c : CplRec) : (s.answerHeld fn c).opu = s.opu := (State.answerHeld_frame (msk := 43264) rfl (Frame.refl _ s)).same .opu rfl
@[simp] theorem State.answerHeld_mcx (s : State) (fn : Nat) (c : CplRec) : (s.answerHeld fn c).mcx = s.mcx := (State.answerHeld_frame (msk := 43264) rfl (Frame.refl _ s)).same .mcx rfl
@[simp] theorem State.answerHeld_sec (s : State) (fn : Nat) (c : CplRec) : (s.answerHeld fn c).sec = s.sec := (State.answerHeld_frame (msk := 43264) rfl (Frame.refl _ s)).same .sec rfl
@[simp] theorem State.answerHeld_pci (s : State) (fn : Nat) (c : CplRec) : (s.answerHeld fn c).pci = s.pci := (State.answerHeld_frame (msk := 43264) rfl (Frame.refl _ s)).same .pci rfl
@[simp] theorem State.answerHeld_tlk (s : State) (fn : Nat) (c : CplRec) : (s.answerHeld fn c).tlk = s.tlk := (State.answerHeld_frame (msk := 43264) rfl (Frame.refl _ s)).same .tlk rfl
@[simp] theorem State.answerHeld_mtr (s : State) (fn : Nat) (c : CplRec) : (s.answerHeld fn c).mtr = s.mtr := (State.answerHeld_frame (msk := 43264) rfl (Frame.refl _ s)).same .mtr rfl
@[simp] theorem State.answerHeld_flt (s : State) (fn : Nat) (c : CplRec) : (s.answerHeld fn c).flt = s.flt := (State.answerHeld_frame (msk := 43264) rfl (Frame.refl _ s)).same .flt rfl
@[simp] theorem State.answerHeld_glb (s : State) (fn : Nat) (c : CplRec) : (s.answerHeld fn c).glb = s.glb := (State.answerHeld_frame (msk := 43264) rfl (Frame.refl _ s)).same .glb rfl
@[simp] theorem State.answerHeld_pwr (s : State) (fn : Nat) (c : CplRec) : (s.answerHeld fn c).pwr = s.pwr := (State.answerHeld_frame (msk := 43264) rfl (Frame.refl _ s)).same .pwr rfl
@[simp] theorem State.answerHeld_pins (s : State) (fn : Nat) (c : CplRec) : (s.answerHeld fn c).pins = s.pins := (State.answerHeld_frame (msk := 43264) rfl (Frame.refl _ s)).same .pins rfl
@[simp] theorem State.answerHeld_flash (s : State) (fn : Nat) (c : CplRec) : (s.answerHeld fn c).flash = s.flash := (State.answerHeld_frame (msk := 43264) rfl (Frame.refl _ s)).same .flash rfl
@[simp] theorem State.answerHeld_latched (s : State) (fn : Nat) (c : CplRec) : (s.answerHeld fn c).latched = s.latched := (State.answerHeld_frame (msk := 43264) rfl (Frame.refl _ s)).same .latched rfl
@[simp] theorem State.answerHeld_stats (s : State) (fn : Nat) (c : CplRec) : (s.answerHeld fn c).stats = s.stats := (State.answerHeld_frame (msk := 43264) rfl (Frame.refl _ s)).same .stats rfl
@[simp] theorem State.answerHeld_out (s : State) (fn : Nat) (c : CplRec) : (s.answerHeld fn c).out = s.out := (State.answerHeld_frame (msk := 43264) rfl (Frame.refl _ s)).same .out rfl
@[simp] theorem State.answerHeld_fresh (s : State) (fn : Nat) (c : CplRec) : (s.answerHeld fn c).fresh = s.fresh := (State.answerHeld_frame (msk := 43264) rfl (Frame.refl _ s)).same .fresh rfl

@[simp] theorem State.answer_pending (s : State) (i : Issuer) (st : Status) (detail res0 res1 : Nat) : (s.answer i st detail res0 res1).pending = s.pending := (State.answer_frame (msk := 10496) rfl (Frame.refl _ s)).queue
@[simp] theorem State.answer_mem (s : State) (i : Issuer) (st : Status) (detail res0 res1 : Nat) : (s.answer i st detail res0 res1).mem = s.mem := (State.answer_frame (msk := 10496) rfl (Frame.refl _ s)).same .mem rfl
@[simp] theorem State.answer_rgn (s : State) (i : Issuer) (st : Status) (detail res0 res1 : Nat) : (s.answer i st detail res0 res1).rgn = s.rgn := (State.answer_frame (msk := 10496) rfl (Frame.refl _ s)).same .rgn rfl
@[simp] theorem State.answer_dir (s : State) (i : Issuer) (st : Status) (detail res0 res1 : Nat) : (s.answer i st detail res0 res1).dir = s.dir := (State.answer_frame (msk := 10496) rfl (Frame.refl _ s)).same .dir rfl
@[simp] theorem State.answer_xlt (s : State) (i : Issuer) (st : Status) (detail res0 res1 : Nat) : (s.answer i st detail res0 res1).xlt = s.xlt := (State.answer_frame (msk := 10496) rfl (Frame.refl _ s)).same .xlt rfl
@[simp] theorem State.answer_eng (s : State) (i : Issuer) (st : Status) (detail res0 res1 : Nat) : (s.answer i st detail res0 res1).eng = s.eng := (State.answer_frame (msk := 10496) rfl (Frame.refl _ s)).same .eng rfl
@[simp] theorem State.answer_opu (s : State) (i : Issuer) (st : Status) (detail res0 res1 : Nat) : (s.answer i st detail res0 res1).opu = s.opu := (State.answer_frame (msk := 10496) rfl (Frame.refl _ s)).same .opu rfl
@[simp] theorem State.answer_mcx (s : State) (i : Issuer) (st : Status) (detail res0 res1 : Nat) : (s.answer i st detail res0 res1).mcx = s.mcx := (State.answer_frame (msk := 10496) rfl (Frame.refl _ s)).same .mcx rfl
@[simp] theorem State.answer_sec (s : State) (i : Issuer) (st : Status) (detail res0 res1 : Nat) : (s.answer i st detail res0 res1).sec = s.sec := (State.answer_frame (msk := 10496) rfl (Frame.refl _ s)).same .sec rfl
@[simp] theorem State.answer_pci (s : State) (i : Issuer) (st : Status) (detail res0 res1 : Nat) : (s.answer i st detail res0 res1).pci = s.pci := (State.answer_frame (msk := 10496) rfl (Frame.refl _ s)).same .pci rfl
@[simp] theorem State.answer_tlk (s : State) (i : Issuer) (st : Status) (detail res0 res1 : Nat) : (s.answer i st detail res0 res1).tlk = s.tlk := (State.answer_frame (msk := 10496) rfl (Frame.refl _ s)).same .tlk rfl
@[simp] theorem State.answer_mtr (s : State) (i : Issuer) (st : Status) (detail res0 res1 : Nat) : (s.answer i st detail res0 res1).mtr = s.mtr := (State.answer_frame (msk := 10496) rfl (Frame.refl _ s)).same .mtr rfl
@[simp] theorem State.answer_flt (s : State) (i : Issuer) (st : Status) (detail res0 res1 : Nat) : (s.answer i st detail res0 res1).flt = s.flt := (State.answer_frame (msk := 10496) rfl (Frame.refl _ s)).same .flt rfl
@[simp] theorem State.answer_mir (s : State) (i : Issuer) (st : Status) (detail res0 res1 : Nat) : (s.answer i st detail res0 res1).mir = s.mir := (State.answer_frame (msk := 10496) rfl (Frame.refl _ s)).same .mir rfl
@[simp] theorem State.answer_glb (s : State) (i : Issuer) (st : Status) (detail res0 res1 : Nat) : (s.answer i st detail res0 res1).glb = s.glb := (State.answer_frame (msk := 10496) rfl (Frame.refl _ s)).same .glb rfl
@[simp] theorem State.answer_pwr (s : State) (i : Issuer) (st : Status) (detail res0 res1 : Nat) : (s.answer i st detail res0 res1).pwr = s.pwr := (State.answer_frame (msk := 10496) rfl (Frame.refl _ s)).same .pwr rfl
@[simp] theorem State.answer_pins (s : State) (i : Issuer) (st : Status) (detail res0 res1 : Nat) : (s.answer i st detail res0 res1).pins = s.pins := (State.answer_frame (msk := 10496) rfl (Frame.refl _ s)).same .pins rfl
@[simp] theorem State.answer_flash (s : State) (i : Issuer) (st : Status) (detail res0 res1 : Nat) : (s.answer i st detail res0 res1).flash = s.flash := (State.answer_frame (msk := 10496) rfl (Frame.refl _ s)).same .flash rfl
@[simp] theorem State.answer_latched (s : State) (i : Issuer) (st : Status) (detail res0 res1 : Nat) : (s.answer i st detail res0 res1).latched = s.latched := (State.answer_frame (msk := 10496) rfl (Frame.refl _ s)).same .latched rfl
@[simp] theorem State.answer_stats (s : State) (i : Issuer) (st : Status) (detail res0 res1 : Nat) : (s.answer i st detail res0 res1).stats = s.stats := (State.answer_frame (msk := 10496) rfl (Frame.refl _ s)).same .stats rfl
@[simp] theorem State.answer_out (s : State) (i : Issuer) (st : Status) (detail res0 res1 : Nat) : (s.answer i st detail res0 res1).out = s.out := (State.answer_frame (msk := 10496) rfl (Frame.refl _ s)).same .out rfl
@[simp] theorem State.answer_fresh (s : State) (i : Issuer) (st : Status) (detail res0 res1 : Nat) : (s.answer i st detail res0 res1).fresh = s.fresh := (State.answer_frame (msk := 10496) rfl (Frame.refl _ s)).same .fresh rfl

@[simp] theorem State.answerR16_pending (s : State) (i : Issuer) (st : Status) (detail res0 res1 : Nat) : (s.answerR16 i st detail res0 res1).pending = s.pending := (State.answerR16_frame (msk := 43264) rfl (Frame.refl _ s)).queue
@[simp] theorem State.answerR16_mem (s : State) (i : Issuer) (st : Status) (detail res0 res1 : Nat) : (s.answerR16 i st detail res0 res1).mem = s.mem := (State.answerR16_frame (msk := 43264) rfl (Frame.refl _ s)).same .mem rfl
@[simp] theorem State.answerR16_rgn (s : State) (i : Issuer) (st : Status) (detail res0 res1 : Nat) : (s.answerR16 i st detail res0 res1).rgn = s.rgn := (State.answerR16_frame (msk := 43264) rfl (Frame.refl _ s)).same .rgn rfl
@[simp] theorem State.answerR16_dir (s : State) (i : Issuer) (st : Status) (detail res0 res1 : Nat) : (s.answerR16 i st detail res0 res1).dir = s.dir := (State.answerR16_frame (msk := 43264) rfl (Frame.refl _ s)).same .dir rfl
@[simp] theorem State.answerR16_xlt (s : State) (i : Issuer) (st : Status) (detail res0 res1 : Nat) : (s.answerR16 i st detail res0 res1).xlt = s.xlt := (State.answerR16_frame (msk := 43264) rfl (Frame.refl _ s)).same .xlt rfl
@[simp] theorem State.answerR16_eng (s : State) (i : Issuer) (st : Status) (detail res0 res1 : Nat) : (s.answerR16 i st detail res0 res1).eng = s.eng := (State.answerR16_frame (msk := 43264) rfl (Frame.refl _ s)).same .eng rfl
@[simp] theorem State.answerR16_opu (s : State) (i : Issuer) (st : Status) (detail res0 res1 : Nat) : (s.answerR16 i st detail res0 res1).opu = s.opu := (State.answerR16_frame (msk := 43264) rfl (Frame.refl _ s)).same .opu rfl
@[simp] theorem State.answerR16_mcx (s : State) (i : Issuer) (st : Status) (detail res0 res1 : Nat) : (s.answerR16 i st detail res0 res1).mcx = s.mcx := (State.answerR16_frame (msk := 43264) rfl (Frame.refl _ s)).same .mcx rfl
@[simp] theorem State.answerR16_sec (s : State) (i : Issuer) (st : Status) (detail res0 res1 : Nat) : (s.answerR16 i st detail res0 res1).sec = s.sec := (State.answerR16_frame (msk := 43264) rfl (Frame.refl _ s)).same .sec rfl
@[simp] theorem State.answerR16_pci (s : State) (i : Issuer) (st : Status) (detail res0 res1 : Nat) : (s.answerR16 i st detail res0 res1).pci = s.pci := (State.answerR16_frame (msk := 43264) rfl (Frame.refl _ s)).same .pci rfl
@[simp] theorem State.answerR16_tlk (s : State) (i : Issuer) (st : Status) (detail res0 res1 : Nat) : (s.answerR16 i st detail res0 res1).tlk = s.tlk := (State.answerR16_frame (msk := 43264) rfl (Frame.refl _ s)).same .tlk rfl
@[simp] theorem State.answerR16_mtr (s : State) (i : Issuer) (st : Status) (detail res0 res1 : Nat) : (s.answerR16 i st detail res0 res1).mtr = s.mtr := (State.answerR16_frame (msk := 43264) rfl (Frame.refl _ s)).same .mtr rfl
@[simp] theorem State.answerR16_flt (s : State) (i : Issuer) (st : Status) (detail res0 res1 : Nat) : (s.answerR16 i st detail res0 res1).flt = s.flt := (State.answerR16_frame (msk := 43264) rfl (Frame.refl _ s)).same .flt rfl
@[simp] theorem State.answerR16_glb (s : State) (i : Issuer) (st : Status) (detail res0 res1 : Nat) : (s.answerR16 i st detail res0 res1).glb = s.glb := (State.answerR16_frame (msk := 43264) rfl (Frame.refl _ s)).same .glb rfl
@[simp] theorem State.answerR16_pwr (s : State) (i : Issuer) (st : Status) (detail res0 res1 : Nat) : (s.answerR16 i st detail res0 res1).pwr = s.pwr := (State.answerR16_frame (msk := 43264) rfl (Frame.refl _ s)).same .pwr rfl
@[simp] theorem State.answerR16_pins (s : State) (i : Issuer) (st : Status) (detail res0 res1 : Nat) : (s.answerR16 i st detail res0 res1).pins = s.pins := (State.answerR16_frame (msk := 43264) rfl (Frame.refl _ s)).same .pins rfl
@[simp] theorem State.answerR16_flash (s : State) (i : Issuer) (st : Status) (detail res0 res1 : Nat) : (s.answerR16 i st detail res0 res1).flash = s.flash := (State.answerR16_frame (msk := 43264) rfl (Frame.refl _ s)).same .flash rfl
@[simp] theorem State.answerR16_latched (s : State) (i : Issuer) (st : Status) (detail res0 res1 : Nat) : (s.answerR16 i st detail res0 res1).latched = s.latched := (State.answerR16_frame (msk := 43264) rfl (Frame.refl _ s)).same .latched rfl
@[simp] theorem State.answerR16_stats (s : State) (i : Issuer) (st : Status) (detail res0 res1 : Nat) : (s.answerR16 i st detail res0 res1).stats = s.stats := (State.answerR16_frame (msk := 43264) rfl (Frame.refl _ s)).same .stats rfl
@[simp] theorem State.answerR16_out (s : State) (i : Issuer) (st : Status) (detail res0 res1 : Nat) : (s.answerR16 i st detail res0 res1).out = s.out := (State.answerR16_frame (msk := 43264) rfl (Frame.refl _ s)).same .out rfl
@[simp] theorem State.answerR16_fresh (s : State) (i : Issuer) (st : Status) (detail res0 res1 : Nat) : (s.answerR16 i st detail res0 res1).fresh = s.fresh := (State.answerR16_frame (msk := 43264) rfl (Frame.refl _ s)).same .fresh rfl

@[simp] theorem State.countTx_pending (s : State) (p v flits n : Nat) : (s.countTx p v flits n).pending = s.pending := (State.countTx_frame (msk := 2113536) rfl (Frame.refl _ s)).queue
@[simp] theorem State.countTx_mem (s : State) (p v flits n : Nat) : (s.countTx p v flits n).mem = s.mem := (State.countTx_frame (msk := 2113536) rfl (Frame.refl _ s)).same .mem rfl
@[simp] theorem State.countTx_rgn (s : State) (p v flits n : Nat) : (s.countTx p v flits n).rgn = s.rgn := (State.countTx_frame (msk := 2113536) rfl (Frame.refl _ s)).same .rgn rfl
@[simp] theorem State.countTx_dir (s : State) (p v flits n : Nat) : (s.countTx p v flits n).dir = s.dir := (State.countTx_frame (msk := 2113536) rfl (Frame.refl _ s)).same .dir rfl
@[simp] theorem State.countTx_xlt (s : State) (p v flits n : Nat) : (s.countTx p v flits n).xlt = s.xlt := (State.countTx_frame (msk := 2113536) rfl (Frame.refl _ s)).same .xlt rfl
@[simp] theorem State.countTx_eng (s : State) (p v flits n : Nat) : (s.countTx p v flits n).eng = s.eng := (State.countTx_frame (msk := 2113536) rfl (Frame.refl _ s)).same .eng rfl
@[simp] theorem State.countTx_opu (s : State) (p v flits n : Nat) : (s.countTx p v flits n).opu = s.opu := (State.countTx_frame (msk := 2113536) rfl (Frame.refl _ s)).same .opu rfl
@[simp] theorem State.countTx_mcx (s : State) (p v flits n : Nat) : (s.countTx p v flits n).mcx = s.mcx := (State.countTx_frame (msk := 2113536) rfl (Frame.refl _ s)).same .mcx rfl
@[simp] theorem State.countTx_sec (s : State) (p v flits n : Nat) : (s.countTx p v flits n).sec = s.sec := (State.countTx_frame (msk := 2113536) rfl (Frame.refl _ s)).same .sec rfl
@[simp] theorem State.countTx_cmd (s : State) (p v flits n : Nat) : (s.countTx p v flits n).cmd = s.cmd := (State.countTx_frame (msk := 2113536) rfl (Frame.refl _ s)).same .cmd rfl
@[simp] theorem State.countTx_pci (s : State) (p v flits n : Nat) : (s.countTx p v flits n).pci = s.pci := (State.countTx_frame (msk := 2113536) rfl (Frame.refl _ s)).same .pci rfl
@[simp] theorem State.countTx_tlk (s : State) (p v flits n : Nat) : (s.countTx p v flits n).tlk = s.tlk := (State.countTx_frame (msk := 2113536) rfl (Frame.refl _ s)).same .tlk rfl
@[simp] theorem State.countTx_trt (s : State) (p v flits n : Nat) : (s.countTx p v flits n).trt = s.trt := (State.countTx_frame (msk := 2113536) rfl (Frame.refl _ s)).same .trt rfl
@[simp] theorem State.countTx_mtr (s : State) (p v flits n : Nat) : (s.countTx p v flits n).mtr = s.mtr := (State.countTx_frame (msk := 2113536) rfl (Frame.refl _ s)).same .mtr rfl
@[simp] theorem State.countTx_sch (s : State) (p v flits n : Nat) : (s.countTx p v flits n).sch = s.sch := (State.countTx_frame (msk := 2113536) rfl (Frame.refl _ s)).same .sch rfl
@[simp] theorem State.countTx_mir (s : State) (p v flits n : Nat) : (s.countTx p v flits n).mir = s.mir := (State.countTx_frame (msk := 2113536) rfl (Frame.refl _ s)).same .mir rfl
@[simp] theorem State.countTx_glb (s : State) (p v flits n : Nat) : (s.countTx p v flits n).glb = s.glb := (State.countTx_frame (msk := 2113536) rfl (Frame.refl _ s)).same .glb rfl
@[simp] theorem State.countTx_pwr (s : State) (p v flits n : Nat) : (s.countTx p v flits n).pwr = s.pwr := (State.countTx_frame (msk := 2113536) rfl (Frame.refl _ s)).same .pwr rfl
@[simp] theorem State.countTx_pins (s : State) (p v flits n : Nat) : (s.countTx p v flits n).pins = s.pins := (State.countTx_frame (msk := 2113536) rfl (Frame.refl _ s)).same .pins rfl
@[simp] theorem State.countTx_flash (s : State) (p v flits n : Nat) : (s.countTx p v flits n).flash = s.flash := (State.countTx_frame (msk := 2113536) rfl (Frame.refl _ s)).same .flash rfl
@[simp] theorem State.countTx_latched (s : State) (p v flits n : Nat) : (s.countTx p v flits n).latched = s.latched := (State.countTx_frame (msk := 2113536) rfl (Frame.refl _ s)).same .latched rfl
@[simp] theorem State.countTx_out (s : State) (p v flits n : Nat) : (s.countTx p v flits n).out = s.out := (State.countTx_frame (msk := 2113536) rfl (Frame.refl _ s)).same .out rfl
@[simp] theorem State.countTx_fresh (s : State) (p v flits n : Nat) : (s.countTx p v flits n).fresh = s.fresh := (State.countTx_frame (msk := 2113536) rfl (Frame.refl _ s)).same .fresh rfl

@[simp] theorem State.countRx_pending (s : State) (p v flits n : Nat) : (s.countRx p v flits n).pending = s.pending := (State.countRx_frame (msk := 2113536) rfl (Frame.refl _ s)).queue
@[simp] theorem State.countRx_mem (s : State) (p v flits n : Nat) : (s.countRx p v flits n).mem = s.mem := (State.countRx_frame (msk := 2113536) rfl (Frame.refl _ s)).same .mem rfl
@[simp] theorem State.countRx_rgn (s : State) (p v flits n : Nat) : (s.countRx p v flits n).rgn = s.rgn := (State.countRx_frame (msk := 2113536) rfl (Frame.refl _ s)).same .rgn rfl
@[simp] theorem State.countRx_dir (s : State) (p v flits n : Nat) : (s.countRx p v flits n).dir = s.dir := (State.countRx_frame (msk := 2113536) rfl (Frame.refl _ s)).same .dir rfl
@[simp] theorem State.countRx_xlt (s : State) (p v flits n : Nat) : (s.countRx p v flits n).xlt = s.xlt := (State.countRx_frame (msk := 2113536) rfl (Frame.refl _ s)).same .xlt rfl
@[simp] theorem State.countRx_eng (s : State) (p v flits n : Nat) : (s.countRx p v flits n).eng = s.eng := (State.countRx_frame (msk := 2113536) rfl (Frame.refl _ s)).same .eng rfl
@[simp] theorem State.countRx_opu (s : State) (p v flits n : Nat) : (s.countRx p v flits n).opu = s.opu := (State.countRx_frame (msk := 2113536) rfl (Frame.refl _ s)).same .opu rfl
@[simp] theorem State.countRx_mcx (s : State) (p v flits n : Nat) : (s.countRx p v flits n).mcx = s.mcx := (State.countRx_frame (msk := 2113536) rfl (Frame.refl _ s)).same .mcx rfl
@[simp] theorem State.countRx_sec (s : State) (p v flits n : Nat) : (s.countRx p v flits n).sec = s.sec := (State.countRx_frame (msk := 2113536) rfl (Frame.refl _ s)).same .sec rfl
@[simp] theorem State.countRx_cmd (s : State) (p v flits n : Nat) : (s.countRx p v flits n).cmd = s.cmd := (State.countRx_frame (msk := 2113536) rfl (Frame.refl _ s)).same .cmd rfl
@[simp] theorem State.countRx_pci (s : State) (p v flits n : Nat) : (s.countRx p v flits n).pci = s.pci := (State.countRx_frame (msk := 2113536) rfl (Frame.refl _ s)).same .pci rfl
@[simp] theorem State.countRx_tlk (s : State) (p v flits n : Nat) : (s.countRx p v flits n).tlk = s.tlk := (State.countRx_frame (msk := 2113536) rfl (Frame.refl _ s)).same .tlk rfl
@[simp] theorem State.countRx_trt (s : State) (p v flits n : Nat) : (s.countRx p v flits n).trt = s.trt := (State.countRx_frame (msk := 2113536) rfl (Frame.refl _ s)).same .trt rfl
@[simp] theorem State.countRx_mtr (s : State) (p v flits n : Nat) : (s.countRx p v flits n).mtr = s.mtr := (State.countRx_frame (msk := 2113536) rfl (Frame.refl _ s)).same .mtr rfl
@[simp] theorem State.countRx_sch (s : State) (p v flits n : Nat) : (s.countRx p v flits n).sch = s.sch := (State.countRx_frame (msk := 2113536) rfl (Frame.refl _ s)).same .sch rfl
@[simp] theorem State.countRx_mir (s : State) (p v flits n : Nat) : (s.countRx p v flits n).mir = s.mir := (State.countRx_frame (msk := 2113536) rfl (Frame.refl _ s)).same .mir rfl
@[simp] theorem State.countRx_glb (s : State) (p v flits n : Nat) : (s.countRx p v flits n).glb = s.glb := (State.countRx_frame (msk := 2113536) rfl (Frame.refl _ s)).same .glb rfl
@[simp] theorem State.countRx_pwr (s : State) (p v flits n : Nat) : (s.countRx p v flits n).pwr = s.pwr := (State.countRx_frame (msk := 2113536) rfl (Frame.refl _ s)).same .pwr rfl
@[simp] theorem State.countRx_pins (s : State) (p v flits n : Nat) : (s.countRx p v flits n).pins = s.pins := (State.countRx_frame (msk := 2113536) rfl (Frame.refl _ s)).same .pins rfl
@[simp] theorem State.countRx_flash (s : State) (p v flits n : Nat) : (s.countRx p v flits n).flash = s.flash := (State.countRx_frame (msk := 2113536) rfl (Frame.refl _ s)).same .flash rfl
@[simp] theorem State.countRx_latched (s : State) (p v flits n : Nat) : (s.countRx p v flits n).latched = s.latched := (State.countRx_frame (msk := 2113536) rfl (Frame.refl _ s)).same .latched rfl
@[simp] theorem State.countRx_out (s : State) (p v flits n : Nat) : (s.countRx p v flits n).out = s.out := (State.countRx_frame (msk := 2113536) rfl (Frame.refl _ s)).same .out rfl
@[simp] theorem State.countRx_fresh (s : State) (p v flits n : Nat) : (s.countRx p v flits n).fresh = s.fresh := (State.countRx_frame (msk := 2113536) rfl (Frame.refl _ s)).same .fresh rfl

@[simp] theorem State.malformed_pending (s : State) (i : Issuer) (d : Nat) : (s.malformed i d).pending = s.pending := (State.malformed_frame (msk := 10496) rfl (Frame.refl _ s)).queue
@[simp] theorem State.malformed_mem (s : State) (i : Issuer) (d : Nat) : (s.malformed i d).mem = s.mem := (State.malformed_frame (msk := 10496) rfl (Frame.refl _ s)).same .mem rfl
@[simp] theorem State.malformed_rgn (s : State) (i : Issuer) (d : Nat) : (s.malformed i d).rgn = s.rgn := (State.malformed_frame (msk := 10496) rfl (Frame.refl _ s)).same .rgn rfl
@[simp] theorem State.malformed_dir (s : State) (i : Issuer) (d : Nat) : (s.malformed i d).dir = s.dir := (State.malformed_frame (msk := 10496) rfl (Frame.refl _ s)).same .dir rfl
@[simp] theorem State.malformed_xlt (s : State) (i : Issuer) (d : Nat) : (s.malformed i d).xlt = s.xlt := (State.malformed_frame (msk := 10496) rfl (Frame.refl _ s)).same .xlt rfl
@[simp] theorem State.malformed_eng (s : State) (i : Issuer) (d : Nat) : (s.malformed i d).eng = s.eng := (State.malformed_frame (msk := 10496) rfl (Frame.refl _ s)).same .eng rfl
@[simp] theorem State.malformed_opu (s : State) (i : Issuer) (d : Nat) : (s.malformed i d).opu = s.opu := (State.malformed_frame (msk := 10496) rfl (Frame.refl _ s)).same .opu rfl
@[simp] theorem State.malformed_mcx (s : State) (i : Issuer) (d : Nat) : (s.malformed i d).mcx = s.mcx := (State.malformed_frame (msk := 10496) rfl (Frame.refl _ s)).same .mcx rfl
@[simp] theorem State.malformed_sec (s : State) (i : Issuer) (d : Nat) : (s.malformed i d).sec = s.sec := (State.malformed_frame (msk := 10496) rfl (Frame.refl _ s)).same .sec rfl
@[simp] theorem State.malformed_pci (s : State) (i : Issuer) (d : Nat) : (s.malformed i d).pci = s.pci := (State.malformed_frame (msk := 10496) rfl (Frame.refl _ s)).same .pci rfl
@[simp] theorem State.malformed_tlk (s : State) (i : Issuer) (d : Nat) : (s.malformed i d).tlk = s.tlk := (State.malformed_frame (msk := 10496) rfl (Frame.refl _ s)).same .tlk rfl
@[simp] theorem State.malformed_mtr (s : State) (i : Issuer) (d : Nat) : (s.malformed i d).mtr = s.mtr := (State.malformed_frame (msk := 10496) rfl (Frame.refl _ s)).same .mtr rfl
@[simp] theorem State.malformed_flt (s : State) (i : Issuer) (d : Nat) : (s.malformed i d).flt = s.flt := (State.malformed_frame (msk := 10496) rfl (Frame.refl _ s)).same .flt rfl
@[simp] theorem State.malformed_mir (s : State) (i : Issuer) (d : Nat) : (s.malformed i d).mir = s.mir := (State.malformed_frame (msk := 10496) rfl (Frame.refl _ s)).same .mir rfl
@[simp] theorem State.malformed_glb (s : State) (i : Issuer) (d : Nat) : (s.malformed i d).glb = s.glb := (State.malformed_frame (msk := 10496) rfl (Frame.refl _ s)).same .glb rfl
@[simp] theorem State.malformed_pwr (s : State) (i : Issuer) (d : Nat) : (s.malformed i d).pwr = s.pwr := (State.malformed_frame (msk := 10496) rfl (Frame.refl _ s)).same .pwr rfl
@[simp] theorem State.malformed_pins (s : State) (i : Issuer) (d : Nat) : (s.malformed i d).pins = s.pins := (State.malformed_frame (msk := 10496) rfl (Frame.refl _ s)).same .pins rfl
@[simp] theorem State.malformed_flash (s : State) (i : Issuer) (d : Nat) : (s.malformed i d).flash = s.flash := (State.malformed_frame (msk := 10496) rfl (Frame.refl _ s)).same .flash rfl
@[simp] theorem State.malformed_latched (s : State) (i : Issuer) (d : Nat) : (s.malformed i d).latched = s.latched := (State.malformed_frame (msk := 10496) rfl (Frame.refl _ s)).same .latched rfl
@[simp] theorem State.malformed_stats (s : State) (i : Issuer) (d : Nat) : (s.malformed i d).stats = s.stats := (State.malformed_frame (msk := 10496) rfl (Frame.refl _ s)).same .stats rfl
@[simp] theorem State.malformed_out (s : State) (i : Issuer) (d : Nat) : (s.malformed i d).out = s.out := (State.malformed_frame (msk := 10496) rfl (Frame.refl _ s)).same .out rfl
@[simp] theorem State.malformed_fresh (s : State) (i : Issuer) (d : Nat) : (s.malformed i d).fresh = s.fresh := (State.malformed_frame (msk := 10496) rfl (Frame.refl _ s)).same .fresh rfl

@[simp] theorem State.denied_pending (s : State) (i : Issuer) : (s.denied i).pending = s.pending := (State.denied_frame (msk := 10496) rfl (Frame.refl _ s)).queue
@[simp] theorem State.denied_mem (s : State) (i : Issuer) : (s.denied i).mem = s.mem := (State.denied_frame (msk := 10496) rfl (Frame.refl _ s)).same .mem rfl
@[simp] theorem State.denied_rgn (s : State) (i : Issuer) : (s.denied i).rgn = s.rgn := (State.denied_frame (msk := 10496) rfl (Frame.refl _ s)).same .rgn rfl
@[simp] theorem State.denied_dir (s : State) (i : Issuer) : (s.denied i).dir = s.dir := (State.denied_frame (msk := 10496) rfl (Frame.refl _ s)).same .dir rfl
@[simp] theorem State.denied_xlt (s : State) (i : Issuer) : (s.denied i).xlt = s.xlt := (State.denied_frame (msk := 10496) rfl (Frame.refl _ s)).same .xlt rfl
@[simp] theorem State.denied_eng (s : State) (i : Issuer) : (s.denied i).eng = s.eng := (State.denied_frame (msk := 10496) rfl (Frame.refl _ s)).same .eng rfl
@[simp] theorem State.denied_opu (s : State) (i : Issuer) : (s.denied i).opu = s.opu := (State.denied_frame (msk := 10496) rfl (Frame.refl _ s)).same .opu rfl
@[simp] theorem State.denied_mcx (s : State) (i : Issuer) : (s.denied i).mcx = s.mcx := (State.denied_frame (msk := 10496) rfl (Frame.refl _ s)).same .mcx rfl
@[simp] theorem State.denied_sec (s : State) (i : Issuer) : (s.denied i).sec = s.sec := (State.denied_frame (msk := 10496) rfl (Frame.refl _ s)).same .sec rfl
@[simp] theorem State.denied_pci (s : State) (i : Issuer) : (s.denied i).pci = s.pci := (State.denied_frame (msk := 10496) rfl (Frame.refl _ s)).same .pci rfl
@[simp] theorem State.denied_tlk (s : State) (i : Issuer) : (s.denied i).tlk = s.tlk := (State.denied_frame (msk := 10496) rfl (Frame.refl _ s)).same .tlk rfl
@[simp] theorem State.denied_mtr (s : State) (i : Issuer) : (s.denied i).mtr = s.mtr := (State.denied_frame (msk := 10496) rfl (Frame.refl _ s)).same .mtr rfl
@[simp] theorem State.denied_flt (s : State) (i : Issuer) : (s.denied i).flt = s.flt := (State.denied_frame (msk := 10496) rfl (Frame.refl _ s)).same .flt rfl
@[simp] theorem State.denied_mir (s : State) (i : Issuer) : (s.denied i).mir = s.mir := (State.denied_frame (msk := 10496) rfl (Frame.refl _ s)).same .mir rfl
@[simp] theorem State.denied_glb (s : State) (i : Issuer) : (s.denied i).glb = s.glb := (State.denied_frame (msk := 10496) rfl (Frame.refl _ s)).same .glb rfl
@[simp] theorem State.denied_pwr (s : State) (i : Issuer) : (s.denied i).pwr = s.pwr := (State.denied_frame (msk := 10496) rfl (Frame.refl _ s)).same .pwr rfl
@[simp] theorem State.denied_pins (s : State) (i : Issuer) : (s.denied i).pins = s.pins := (State.denied_frame (msk := 10496) rfl (Frame.refl _ s)).same .pins rfl
@[simp] theorem State.denied_flash (s : State) (i : Issuer) : (s.denied i).flash = s.flash := (State.denied_frame (msk := 10496) rfl (Frame.refl _ s)).same .flash rfl
@[simp] theorem State.denied_latched (s : State) (i : Issuer) : (s.denied i).latched = s.latched := (State.denied_frame (msk := 10496) rfl (Frame.refl _ s)).same .latched rfl
@[simp] theorem State.denied_stats (s : State) (i : Issuer) : (s.denied i).stats = s.stats := (State.denied_frame (msk := 10496) rfl (Frame.refl _ s)).same .stats rfl
@[simp] theorem State.denied_out (s : State) (i : Issuer) : (s.denied i).out = s.out := (State.denied_frame (msk := 10496) rfl (Frame.refl _ s)).same .out rfl
@[simp] theorem State.denied_fresh (s : State) (i : Issuer) : (s.denied i).fresh = s.fresh := (State.denied_frame (msk := 10496) rfl (Frame.refl _ s)).same .fresh rfl

@[simp] theorem State.busy_pending (s : State) (i : Issuer) (d : Nat) : (s.busy i d).pending = s.pending := (State.busy_frame (msk := 10496) rfl (Frame.refl _ s)).queue
@[simp] theorem State.busy_mem (s : State) (i : Issuer) (d : Nat) : (s.busy i d).mem = s.mem := (State.busy_frame (msk := 10496) rfl (Frame.refl _ s)).same .mem rfl
@[simp] theorem State.busy_rgn (s : State) (i : Issuer) (d : Nat) : (s.busy i d).rgn = s.rgn := (State.busy_frame (msk := 10496) rfl (Frame.refl _ s)).same .rgn rfl
@[simp] theorem State.busy_dir (s : State) (i : Issuer) (d : Nat) : (s.busy i d).dir = s.dir := (State.busy_frame (msk := 10496) rfl (Frame.refl _ s)).same .dir rfl
@[simp] theorem State.busy_xlt (s : State) (i : Issuer) (d : Nat) : (s.busy i d).xlt = s.xlt := (State.busy_frame (msk := 10496) rfl (Frame.refl _ s)).same .xlt rfl
@[simp] theorem State.busy_eng (s : State) (i : Issuer) (d : Nat) : (s.busy i d).eng = s.eng := (State.busy_frame (msk := 10496) rfl (Frame.refl _ s)).same .eng rfl
@[simp] theorem State.busy_opu (s : State) (i : Issuer) (d : Nat) : (s.busy i d).opu = s.opu := (State.busy_frame (msk := 10496) rfl (Frame.refl _ s)).same .opu rfl
@[simp] theorem State.busy_mcx (s : State) (i : Issuer) (d : Nat) : (s.busy i d).mcx = s.mcx := (State.busy_frame (msk := 10496) rfl (Frame.refl _ s)).same .mcx rfl
@[simp] theorem State.busy_sec (s : State) (i : Issuer) (d : Nat) : (s.busy i d).sec = s.sec := (State.busy_frame (msk := 10496) rfl (Frame.refl _ s)).same .sec rfl
@[simp] theorem State.busy_pci (s : State) (i : Issuer) (d : Nat) : (s.busy i d).pci = s.pci := (State.busy_frame (msk := 10496) rfl (Frame.refl _ s)).same .pci rfl
@[simp] theorem State.busy_tlk (s : State) (i : Issuer) (d : Nat) : (s.busy i d).tlk = s.tlk := (State.busy_frame (msk := 10496) rfl (Frame.refl _ s)).same .tlk rfl
@[simp] theorem State.busy_mtr (s : State) (i : Issuer) (d : Nat) : (s.busy i d).mtr = s.mtr := (State.busy_frame (msk := 10496) rfl (Frame.refl _ s)).same .mtr rfl
@[simp] theorem State.busy_flt (s : State) (i : Issuer) (d : Nat) : (s.busy i d).flt = s.flt := (State.busy_frame (msk := 10496) rfl (Frame.refl _ s)).same .flt rfl
@[simp] theorem State.busy_mir (s : State) (i : Issuer) (d : Nat) : (s.busy i d).mir = s.mir := (State.busy_frame (msk := 10496) rfl (Frame.refl _ s)).same .mir rfl
@[simp] theorem State.busy_glb (s : State) (i : Issuer) (d : Nat) : (s.busy i d).glb = s.glb := (State.busy_frame (msk := 10496) rfl (Frame.refl _ s)).same .glb rfl
@[simp] theorem State.busy_pwr (s : State) (i : Issuer) (d : Nat) : (s.busy i d).pwr = s.pwr := (State.busy_frame (msk := 10496) rfl (Frame.refl _ s)).same .pwr rfl
@[simp] theorem State.busy_pins (s : State) (i : Issuer) (d : Nat) : (s.busy i d).pins = s.pins := (State.busy_frame (msk := 10496) rfl (Frame.refl _ s)).same .pins rfl
@[simp] theorem State.busy_flash (s : State) (i : Issuer) (d : Nat) : (s.busy i d).flash = s.flash := (State.busy_frame (msk := 10496) rfl (Frame.refl _ s)).same .flash rfl
@[simp] theorem State.busy_latched (s : State) (i : Issuer) (d : Nat) : (s.busy i d).latched = s.latched := (State.busy_frame (msk := 10496) rfl (Frame.refl _ s)).same .latched rfl
@[simp] theorem State.busy_stats (s : State) (i : Issuer) (d : Nat) : (s.busy i d).stats = s.stats := (State.busy_frame (msk := 10496) rfl (Frame.refl _ s)).same .stats rfl
@[simp] theorem State.busy_out (s : State) (i : Issuer) (d : Nat) : (s.busy i d).out = s.out := (State.busy_frame (msk := 10496) rfl (Frame.refl _ s)).same .out rfl
@[simp] theorem State.busy_fresh (s : State) (i : Issuer) (d : Nat) : (s.busy i d).fresh = s.fresh := (State.busy_frame (msk := 10496) rfl (Frame.refl _ s)).same .fresh rfl

@[simp] theorem State.refusePacket_pending (s : State) (fn : Nat) (p : Packet) (x : Status × Nat × Bool) : (s.refusePacket fn p x).pending = s.pending := (State.refusePacket_frame (msk := 2124032) rfl (Frame.refl _ s)).queue
@[simp] theorem State.refusePacket_mem (s : State) (fn : Nat) (p : Packet) (x : Status × Nat × Bool) : (s.refusePacket fn p x).mem = s.mem := (State.refusePacket_frame (msk := 2124032) rfl (Frame.refl _ s)).same .mem rfl
@[simp] theorem State.refusePacket_rgn (s : State) (fn : Nat) (p : Packet) (x : Status × Nat × Bool) : (s.refusePacket fn p x).rgn = s.rgn := (State.refusePacket_frame (msk := 2124032) rfl (Frame.refl _ s)).same .rgn rfl
@[simp] theorem State.refusePacket_dir (s : State) (fn : Nat) (p : Packet) (x : Status × Nat × Bool) : (s.refusePacket fn p x).dir = s.dir := (State.refusePacket_frame (msk := 2124032) rfl (Frame.refl _ s)).same .dir rfl
@[simp] theorem State.refusePacket_xlt (s : State) (fn : Nat) (p : Packet) (x : Status × Nat × Bool) : (s.refusePacket fn p x).xlt = s.xlt := (State.refusePacket_frame (msk := 2124032) rfl (Frame.refl _ s)).same .xlt rfl
@[simp] theorem State.refusePacket_eng (s : State) (fn : Nat) (p : Packet) (x : Status × Nat × Bool) : (s.refusePacket fn p x).eng = s.eng := (State.refusePacket_frame (msk := 2124032) rfl (Frame.refl _ s)).same .eng rfl
@[simp] theorem State.refusePacket_opu (s : State) (fn : Nat) (p : Packet) (x : Status × Nat × Bool) : (s.refusePacket fn p x).opu = s.opu := (State.refusePacket_frame (msk := 2124032) rfl (Frame.refl _ s)).same .opu rfl
@[simp] theorem State.refusePacket_mcx (s : State) (fn : Nat) (p : Packet) (x : Status × Nat × Bool) : (s.refusePacket fn p x).mcx = s.mcx := (State.refusePacket_frame (msk := 2124032) rfl (Frame.refl _ s)).same .mcx rfl
@[simp] theorem State.refusePacket_sec (s : State) (fn : Nat) (p : Packet) (x : Status × Nat × Bool) : (s.refusePacket fn p x).sec = s.sec := (State.refusePacket_frame (msk := 2124032) rfl (Frame.refl _ s)).same .sec rfl
@[simp] theorem State.refusePacket_pci (s : State) (fn : Nat) (p : Packet) (x : Status × Nat × Bool) : (s.refusePacket fn p x).pci = s.pci := (State.refusePacket_frame (msk := 2124032) rfl (Frame.refl _ s)).same .pci rfl
@[simp] theorem State.refusePacket_tlk (s : State) (fn : Nat) (p : Packet) (x : Status × Nat × Bool) : (s.refusePacket fn p x).tlk = s.tlk := (State.refusePacket_frame (msk := 2124032) rfl (Frame.refl _ s)).same .tlk rfl
@[simp] theorem State.refusePacket_mtr (s : State) (fn : Nat) (p : Packet) (x : Status × Nat × Bool) : (s.refusePacket fn p x).mtr = s.mtr := (State.refusePacket_frame (msk := 2124032) rfl (Frame.refl _ s)).same .mtr rfl
@[simp] theorem State.refusePacket_mir (s : State) (fn : Nat) (p : Packet) (x : Status × Nat × Bool) : (s.refusePacket fn p x).mir = s.mir := (State.refusePacket_frame (msk := 2124032) rfl (Frame.refl _ s)).same .mir rfl
@[simp] theorem State.refusePacket_glb (s : State) (fn : Nat) (p : Packet) (x : Status × Nat × Bool) : (s.refusePacket fn p x).glb = s.glb := (State.refusePacket_frame (msk := 2124032) rfl (Frame.refl _ s)).same .glb rfl
@[simp] theorem State.refusePacket_pwr (s : State) (fn : Nat) (p : Packet) (x : Status × Nat × Bool) : (s.refusePacket fn p x).pwr = s.pwr := (State.refusePacket_frame (msk := 2124032) rfl (Frame.refl _ s)).same .pwr rfl
@[simp] theorem State.refusePacket_pins (s : State) (fn : Nat) (p : Packet) (x : Status × Nat × Bool) : (s.refusePacket fn p x).pins = s.pins := (State.refusePacket_frame (msk := 2124032) rfl (Frame.refl _ s)).same .pins rfl
@[simp] theorem State.refusePacket_flash (s : State) (fn : Nat) (p : Packet) (x : Status × Nat × Bool) : (s.refusePacket fn p x).flash = s.flash := (State.refusePacket_frame (msk := 2124032) rfl (Frame.refl _ s)).same .flash rfl
@[simp] theorem State.refusePacket_latched (s : State) (fn : Nat) (p : Packet) (x : Status × Nat × Bool) : (s.refusePacket fn p x).latched = s.latched := (State.refusePacket_frame (msk := 2124032) rfl (Frame.refl _ s)).same .latched rfl
@[simp] theorem State.refusePacket_out (s : State) (fn : Nat) (p : Packet) (x : Status × Nat × Bool) : (s.refusePacket fn p x).out = s.out := (State.refusePacket_frame (msk := 2124032) rfl (Frame.refl _ s)).same .out rfl
@[simp] theorem State.refusePacket_fresh (s : State) (fn : Nat) (p : Packet) (x : Status × Nat × Bool) : (s.refusePacket fn p x).fresh = s.fresh := (State.refusePacket_frame (msk := 2124032) rfl (Frame.refl _ s)).same .fresh rfl

@[simp] theorem State.setFlt_pending (s : State) (blk j : Nat) (f : FltInst → FltInst) : (s.setFlt blk j f).pending = s.pending := (State.setFlt_frame (msk := 16384) rfl (Frame.refl _ s)).queue
@[simp] theorem State.setFlt_mem (s : State) (blk j : Nat) (f : FltInst → FltInst) : (s.setFlt blk j f).mem = s.mem := (State.setFlt_frame (msk := 16384) rfl (Frame.refl _ s)).same .mem rfl
@[simp] theorem State.setFlt_rgn (s : State) (blk j : Nat) (f : FltInst → FltInst) : (s.setFlt blk j f).rgn = s.rgn := (State.setFlt_frame (msk := 16384) rfl (Frame.refl _ s)).same .rgn rfl
@[simp] theorem State.setFlt_dir (s : State) (blk j : Nat) (f : FltInst → FltInst) : (s.setFlt blk j f).dir = s.dir := (State.setFlt_frame (msk := 16384) rfl (Frame.refl _ s)).same .dir rfl
@[simp] theorem State.setFlt_xlt (s : State) (blk j : Nat) (f : FltInst → FltInst) : (s.setFlt blk j f).xlt = s.xlt := (State.setFlt_frame (msk := 16384) rfl (Frame.refl _ s)).same .xlt rfl
@[simp] theorem State.setFlt_eng (s : State) (blk j : Nat) (f : FltInst → FltInst) : (s.setFlt blk j f).eng = s.eng := (State.setFlt_frame (msk := 16384) rfl (Frame.refl _ s)).same .eng rfl
@[simp] theorem State.setFlt_opu (s : State) (blk j : Nat) (f : FltInst → FltInst) : (s.setFlt blk j f).opu = s.opu := (State.setFlt_frame (msk := 16384) rfl (Frame.refl _ s)).same .opu rfl
@[simp] theorem State.setFlt_mcx (s : State) (blk j : Nat) (f : FltInst → FltInst) : (s.setFlt blk j f).mcx = s.mcx := (State.setFlt_frame (msk := 16384) rfl (Frame.refl _ s)).same .mcx rfl
@[simp] theorem State.setFlt_sec (s : State) (blk j : Nat) (f : FltInst → FltInst) : (s.setFlt blk j f).sec = s.sec := (State.setFlt_frame (msk := 16384) rfl (Frame.refl _ s)).same .sec rfl
@[simp] theorem State.setFlt_cmd (s : State) (blk j : Nat) (f : FltInst → FltInst) : (s.setFlt blk j f).cmd = s.cmd := (State.setFlt_frame (msk := 16384) rfl (Frame.refl _ s)).same .cmd rfl
@[simp] theorem State.setFlt_pci (s : State) (blk j : Nat) (f : FltInst → FltInst) : (s.setFlt blk j f).pci = s.pci := (State.setFlt_frame (msk := 16384) rfl (Frame.refl _ s)).same .pci rfl
@[simp] theorem State.setFlt_tlk (s : State) (blk j : Nat) (f : FltInst → FltInst) : (s.setFlt blk j f).tlk = s.tlk := (State.setFlt_frame (msk := 16384) rfl (Frame.refl _ s)).same .tlk rfl
@[simp] theorem State.setFlt_trt (s : State) (blk j : Nat) (f : FltInst → FltInst) : (s.setFlt blk j f).trt = s.trt := (State.setFlt_frame (msk := 16384) rfl (Frame.refl _ s)).same .trt rfl
@[simp] theorem State.setFlt_mtr (s : State) (blk j : Nat) (f : FltInst → FltInst) : (s.setFlt blk j f).mtr = s.mtr := (State.setFlt_frame (msk := 16384) rfl (Frame.refl _ s)).same .mtr rfl
@[simp] theorem State.setFlt_sch (s : State) (blk j : Nat) (f : FltInst → FltInst) : (s.setFlt blk j f).sch = s.sch := (State.setFlt_frame (msk := 16384) rfl (Frame.refl _ s)).same .sch rfl
@[simp] theorem State.setFlt_mir (s : State) (blk j : Nat) (f : FltInst → FltInst) : (s.setFlt blk j f).mir = s.mir := (State.setFlt_frame (msk := 16384) rfl (Frame.refl _ s)).same .mir rfl
@[simp] theorem State.setFlt_glb (s : State) (blk j : Nat) (f : FltInst → FltInst) : (s.setFlt blk j f).glb = s.glb := (State.setFlt_frame (msk := 16384) rfl (Frame.refl _ s)).same .glb rfl
@[simp] theorem State.setFlt_pwr (s : State) (blk j : Nat) (f : FltInst → FltInst) : (s.setFlt blk j f).pwr = s.pwr := (State.setFlt_frame (msk := 16384) rfl (Frame.refl _ s)).same .pwr rfl
@[simp] theorem State.setFlt_pins (s : State) (blk j : Nat) (f : FltInst → FltInst) : (s.setFlt blk j f).pins = s.pins := (State.setFlt_frame (msk := 16384) rfl (Frame.refl _ s)).same .pins rfl
@[simp] theorem State.setFlt_flash (s : State) (blk j : Nat) (f : FltInst → FltInst) : (s.setFlt blk j f).flash = s.flash := (State.setFlt_frame (msk := 16384) rfl (Frame.refl _ s)).same .flash rfl
@[simp] theorem State.setFlt_latched (s : State) (blk j : Nat) (f : FltInst → FltInst) : (s.setFlt blk j f).latched = s.latched := (State.setFlt_frame (msk := 16384) rfl (Frame.refl _ s)).same .latched rfl
@[simp] theorem State.setFlt_stats (s : State) (blk j : Nat) (f : FltInst → FltInst) : (s.setFlt blk j f).stats = s.stats := (State.setFlt_frame (msk := 16384) rfl (Frame.refl _ s)).same .stats rfl
@[simp] theorem State.setFlt_out (s : State) (blk j : Nat) (f : FltInst → FltInst) : (s.setFlt blk j f).out = s.out := (State.setFlt_frame (msk := 16384) rfl (Frame.refl _ s)).same .out rfl
@[simp] theorem State.setFlt_fresh (s : State) (blk j : Nat) (f : FltInst → FltInst) : (s.setFlt blk j f).fresh = s.fresh := (State.setFlt_frame (msk := 16384) rfl (Frame.refl _ s)).same .fresh rfl

@[simp] theorem State.fatalPin_pending (s : State) : (s.fatalPin).pending = s.pending := (State.fatalPin_frame (msk := 16384) rfl (Frame.refl _ s)).queue
@[simp] theorem State.fatalPin_mem (s : State) : (s.fatalPin).mem = s.mem := (State.fatalPin_frame (msk := 16384) rfl (Frame.refl _ s)).same .mem rfl
@[simp] theorem State.fatalPin_rgn (s : State) : (s.fatalPin).rgn = s.rgn := (State.fatalPin_frame (msk := 16384) rfl (Frame.refl _ s)).same .rgn rfl
@[simp] theorem State.fatalPin_dir (s : State) : (s.fatalPin).dir = s.dir := (State.fatalPin_frame (msk := 16384) rfl (Frame.refl _ s)).same .dir rfl
@[simp] theorem State.fatalPin_xlt (s : State) : (s.fatalPin).xlt = s.xlt := (State.fatalPin_frame (msk := 16384) rfl (Frame.refl _ s)).same .xlt rfl
@[simp] theorem State.fatalPin_eng (s : State) : (s.fatalPin).eng = s.eng := (State.fatalPin_frame (msk := 16384) rfl (Frame.refl _ s)).same .eng rfl
@[simp] theorem State.fatalPin_opu (s : State) : (s.fatalPin).opu = s.opu := (State.fatalPin_frame (msk := 16384) rfl (Frame.refl _ s)).same .opu rfl
@[simp] theorem State.fatalPin_mcx (s : State) : (s.fatalPin).mcx = s.mcx := (State.fatalPin_frame (msk := 16384) rfl (Frame.refl _ s)).same .mcx rfl
@[simp] theorem State.fatalPin_sec (s : State) : (s.fatalPin).sec = s.sec := (State.fatalPin_frame (msk := 16384) rfl (Frame.refl _ s)).same .sec rfl
@[simp] theorem State.fatalPin_cmd (s : State) : (s.fatalPin).cmd = s.cmd := (State.fatalPin_frame (msk := 16384) rfl (Frame.refl _ s)).same .cmd rfl
@[simp] theorem State.fatalPin_pci (s : State) : (s.fatalPin).pci = s.pci := (State.fatalPin_frame (msk := 16384) rfl (Frame.refl _ s)).same .pci rfl
@[simp] theorem State.fatalPin_tlk (s : State) : (s.fatalPin).tlk = s.tlk := (State.fatalPin_frame (msk := 16384) rfl (Frame.refl _ s)).same .tlk rfl
@[simp] theorem State.fatalPin_trt (s : State) : (s.fatalPin).trt = s.trt := (State.fatalPin_frame (msk := 16384) rfl (Frame.refl _ s)).same .trt rfl
@[simp] theorem State.fatalPin_mtr (s : State) : (s.fatalPin).mtr = s.mtr := (State.fatalPin_frame (msk := 16384) rfl (Frame.refl _ s)).same .mtr rfl
@[simp] theorem State.fatalPin_sch (s : State) : (s.fatalPin).sch = s.sch := (State.fatalPin_frame (msk := 16384) rfl (Frame.refl _ s)).same .sch rfl
@[simp] theorem State.fatalPin_mir (s : State) : (s.fatalPin).mir = s.mir := (State.fatalPin_frame (msk := 16384) rfl (Frame.refl _ s)).same .mir rfl
@[simp] theorem State.fatalPin_glb (s : State) : (s.fatalPin).glb = s.glb := (State.fatalPin_frame (msk := 16384) rfl (Frame.refl _ s)).same .glb rfl
@[simp] theorem State.fatalPin_pwr (s : State) : (s.fatalPin).pwr = s.pwr := (State.fatalPin_frame (msk := 16384) rfl (Frame.refl _ s)).same .pwr rfl
@[simp] theorem State.fatalPin_pins (s : State) : (s.fatalPin).pins = s.pins := (State.fatalPin_frame (msk := 16384) rfl (Frame.refl _ s)).same .pins rfl
@[simp] theorem State.fatalPin_flash (s : State) : (s.fatalPin).flash = s.flash := (State.fatalPin_frame (msk := 16384) rfl (Frame.refl _ s)).same .flash rfl
@[simp] theorem State.fatalPin_latched (s : State) : (s.fatalPin).latched = s.latched := (State.fatalPin_frame (msk := 16384) rfl (Frame.refl _ s)).same .latched rfl
@[simp] theorem State.fatalPin_stats (s : State) : (s.fatalPin).stats = s.stats := (State.fatalPin_frame (msk := 16384) rfl (Frame.refl _ s)).same .stats rfl
@[simp] theorem State.fatalPin_out (s : State) : (s.fatalPin).out = s.out := (State.fatalPin_frame (msk := 16384) rfl (Frame.refl _ s)).same .out rfl
@[simp] theorem State.fatalPin_fresh (s : State) : (s.fatalPin).fresh = s.fresh := (State.fatalPin_frame (msk := 16384) rfl (Frame.refl _ s)).same .fresh rfl

@[simp] theorem State.later_pending (s : State) (x : Due) : (s.later x).pending = s.pending := (State.later_frame (msk := 4) rfl (Frame.refl _ s)).queue
@[simp] theorem State.later_mem (s : State) (x : Due) : (s.later x).mem = s.mem := (State.later_frame (msk := 4) rfl (Frame.refl _ s)).same .mem rfl
@[simp] theorem State.later_rgn (s : State) (x : Due) : (s.later x).rgn = s.rgn := (State.later_frame (msk := 4) rfl (Frame.refl _ s)).same .rgn rfl
@[simp] theorem State.later_xlt (s : State) (x : Due) : (s.later x).xlt = s.xlt := (State.later_frame (msk := 4) rfl (Frame.refl _ s)).same .xlt rfl
@[simp] theorem State.later_eng (s : State) (x : Due) : (s.later x).eng = s.eng := (State.later_frame (msk := 4) rfl (Frame.refl _ s)).same .eng rfl
@[simp] theorem State.later_opu (s : State) (x : Due) : (s.later x).opu = s.opu := (State.later_frame (msk := 4) rfl (Frame.refl _ s)).same .opu rfl
@[simp] theorem State.later_mcx (s : State) (x : Due) : (s.later x).mcx = s.mcx := (State.later_frame (msk := 4) rfl (Frame.refl _ s)).same .mcx rfl
@[simp] theorem State.later_sec (s : State) (x : Due) : (s.later x).sec = s.sec := (State.later_frame (msk := 4) rfl (Frame.refl _ s)).same .sec rfl
@[simp] theorem State.later_cmd (s : State) (x : Due) : (s.later x).cmd = s.cmd := (State.later_frame (msk := 4) rfl (Frame.refl _ s)).same .cmd rfl
@[simp] theorem State.later_pci (s : State) (x : Due) : (s.later x).pci = s.pci := (State.later_frame (msk := 4) rfl (Frame.refl _ s)).same .pci rfl
@[simp] theorem State.later_tlk (s : State) (x : Due) : (s.later x).tlk = s.tlk := (State.later_frame (msk := 4) rfl (Frame.refl _ s)).same .tlk rfl
@[simp] theorem State.later_trt (s : State) (x : Due) : (s.later x).trt = s.trt := (State.later_frame (msk := 4) rfl (Frame.refl _ s)).same .trt rfl
@[simp] theorem State.later_mtr (s : State) (x : Due) : (s.later x).mtr = s.mtr := (State.later_frame (msk := 4) rfl (Frame.refl _ s)).same .mtr rfl
@[simp] theorem State.later_sch (s : State) (x : Due) : (s.later x).sch = s.sch := (State.later_frame (msk := 4) rfl (Frame.refl _ s)).same .sch rfl
@[simp] theorem State.later_flt (s : State) (x : Due) : (s.later x).flt = s.flt := (State.later_frame (msk := 4) rfl (Frame.refl _ s)).same .flt rfl
@[simp] theorem State.later_mir (s : State) (x : Due) : (s.later x).mir = s.mir := (State.later_frame (msk := 4) rfl (Frame.refl _ s)).same .mir rfl
@[simp] theorem State.later_glb (s : State) (x : Due) : (s.later x).glb = s.glb := (State.later_frame (msk := 4) rfl (Frame.refl _ s)).same .glb rfl
@[simp] theorem State.later_pwr (s : State) (x : Due) : (s.later x).pwr = s.pwr := (State.later_frame (msk := 4) rfl (Frame.refl _ s)).same .pwr rfl
@[simp] theorem State.later_pins (s : State) (x : Due) : (s.later x).pins = s.pins := (State.later_frame (msk := 4) rfl (Frame.refl _ s)).same .pins rfl
@[simp] theorem State.later_flash (s : State) (x : Due) : (s.later x).flash = s.flash := (State.later_frame (msk := 4) rfl (Frame.refl _ s)).same .flash rfl
@[simp] theorem State.later_latched (s : State) (x : Due) : (s.later x).latched = s.latched := (State.later_frame (msk := 4) rfl (Frame.refl _ s)).same .latched rfl
@[simp] theorem State.later_stats (s : State) (x : Due) : (s.later x).stats = s.stats := (State.later_frame (msk := 4) rfl (Frame.refl _ s)).same .stats rfl
@[simp] theorem State.later_out (s : State) (x : Due) : (s.later x).out = s.out := (State.later_frame (msk := 4) rfl (Frame.refl _ s)).same .out rfl
@[simp] theorem State.later_fresh (s : State) (x : Due) : (s.later x).fresh = s.fresh := (State.later_frame (msk := 4) rfl (Frame.refl _ s)).same .fresh rfl

@[simp] theorem State.later_dir (s : State) (x : Due) : (s.later x).dir = { s.dir with due := s.dir.due ++ [x] } := rfl

end Sys2Proof.Machine
end

