-- ==== Sys2Proof/Laws/Read.lean ====
section
/-! SUPPORT. Reading one entry of a table after it was changed, and what events and counters leave alone in a function's intake. -/

namespace Sys2Proof.Machine

theorem Tbl.getD_upd {α : Type} {t : Tbl α} {k : Nat} {f : α → α} (a : Nat) (d : α) :
    Tbl.getD (Tbl.upd t k f) a d = if a = k then ((Tbl.find t a).map f).getD d else Tbl.getD t a d := by
  unfold Tbl.getD
  rw [Tbl.find_upd]
  split <;> rfl

@[simp] theorem State.func?_setFn (s : State) (fn g : Nat) (f : Func → Func) :
    (s.setFn fn f).func? g = if g = fn then (s.func? g).map f else s.func? g := by
  simp [State.func?]

@[simp] theorem State.intake_setIntake (s : State) (fn g : Nat) (f : Intake → Intake) :
    (s.setIntake fn f).intake g = if g = fn then f (s.intake fn) else s.intake g := by
  simp [State.intake]

@[simp] theorem State.agentSt_setAgent (s : State) (k g : Nat) (f : AgentSt → AgentSt) :
    (s.setAgent k f).agentSt g = if g = k then f (s.agentSt k) else s.agentSt g := by
  simp [State.agentSt]

@[simp] theorem State.route_setRoute (s : State) (k g : Nat) (f : Route → Route) :
    (s.setRoute k f).route g = if g = k then f (s.route k) else s.route g := by
  simp [State.route]

@[simp] theorem State.port_setPort (s : State) (k g : Nat) (f : Port → Port) :
    (s.setPort k f).port g = if g = k then f (s.port k) else s.port g := by
  simp [State.port]

@[simp] theorem State.schPort_setSch (s : State) (k g : Nat) (f : SchPort → SchPort) :
    (s.setSch k f).schPort g = if g = k then f (s.schPort k) else s.schPort g := by
  simp [State.schPort]

@[simp] theorem State.entry_setEntry (s : State) (k g : Nat) (f : DirEntry → DirEntry) :
    (s.setEntry k f).entry g = if g = k then f (s.entry k) else s.entry g := by
  simp [State.entry]

@[simp] theorem State.region_setRegion (s : State) (k g : Nat) (f : Region → Region) :
    (s.setRegion k f).region g = if g = k then f (s.region k) else s.region g := by
  simp [State.region]

@[simp] theorem State.unit_setUnit (s : State) (k g : Nat) (f : EngUnit → EngUnit) :
    (s.setUnit k f).unit g = if g = k then f (s.unit k) else s.unit g := by
  simp [State.unit]

@[simp] theorem State.fltInst_setFlt (s : State) (b j b' j' : Nat) (f : FltInst → FltInst) :
    (s.setFlt b j f).fltInst b' j' = if b' * 8 + j' = b * 8 + j then f (s.fltInst b j) else s.fltInst b' j' := by
  simp [State.fltInst, State.setFlt]

/-- Two changes of an intake that agree on what it holds make the same state. -/
theorem State.setIntake_congr {s : State} {fn : Nat} {f h : Intake → Intake} (e : f (s.intake fn) = h (s.intake fn)) :
    s.setIntake fn f = s.setIntake fn h := by
  unfold State.setIntake State.onCmd Tbl.modD
  unfold State.intake at e
  simp only [e]

@[simp] theorem State.setFn_intake (s : State) (fn g : Nat) (f : Func → Func) : (s.setFn fn f).intake g = s.intake g := rfl
@[simp] theorem State.hostWrite_intake (s : State) (fn c a g : Nat) (d : List Byte) : (s.hostWrite fn c a d).intake g = s.intake g := by
  simp [State.intake]
@[simp] theorem State.hostTlp_intake (s : State) (c v g : Nat) (d : HostTlp) : (s.hostTlp c v d).intake g = s.intake g := by
  simp [State.intake]

/-! ### What events leave alone in an intake -/

/-- Two intakes that differ in their event side at most. -/
def Intake.CmdSide (i j : Intake) : Prop :=
  { j with evt := i.evt, evtBuf := i.evtBuf, evtLost := i.evtLost, loss := i.loss } = i

theorem Intake.CmdSide.refl (i : Intake) : i.CmdSide i := rfl

theorem Intake.CmdSide.trans {i j k : Intake} (h : i.CmdSide j) (g : j.CmdSide k) : i.CmdSide k := by
  unfold Intake.CmdSide at *
  rw [← h, ← g]

section
variable {i : Intake} {s : State} {g : Nat}

theorem State.other_cmdSide {t : State} (e : t.cmd = s.cmd) (h : i.CmdSide (s.intake g)) : i.CmdSide (t.intake g) := by
  unfold State.intake; rw [e]; exact h

theorem State.setFlt_cmdSide {blk j : Nat} {f : FltInst → FltInst} (h : i.CmdSide (s.intake g)) : i.CmdSide ((s.setFlt blk j f).intake g) :=
  State.other_cmdSide (by simp) h

theorem State.fatalPin_cmdSide (h : i.CmdSide (s.intake g)) : i.CmdSide (s.fatalPin.intake g) := State.other_cmdSide (by simp) h

theorem State.writeEvt_cmdSide {fn : Nat} {e : EvtRec} (h : i.CmdSide (s.intake g)) : i.CmdSide ((s.writeEvt fn e).intake g) := by
  refine h.trans ?_
  unfold State.writeEvt Intake.CmdSide
  simp only [State.intake_setIntake]
  split
  · subst g; simp [State.intake]
  · simp [State.intake]

theorem State.setEvt_cmdSide {fn : Nat} {f : Intake → Intake} (hf : ∀ x : Intake, x.CmdSide (f x)) (h : i.CmdSide (s.intake g)) :
    i.CmdSide ((s.setIntake fn f).intake g) := by
  simp only [State.intake_setIntake]
  split
  · subst g; exact h.trans (hf _)
  · exact h

theorem State.putEvt_cmdSide {fn : Nat} {e : EvtRec} (h : i.CmdSide (s.intake g)) : i.CmdSide ((s.putEvt fn e).1.intake g) := by
  unfold State.putEvt
  extract_lets
  split
  · exact h
  · split
    · exact State.writeEvt_cmdSide h
    · split
      · exact State.setEvt_cmdSide (fun _ => rfl) h
      · refine State.other_cmdSide (State.bumpRaw_cmd ..) ?_
        exact State.setEvt_cmdSide (fun _ => rfl) h

theorem State.putEvts_cmdSide {fns : List Nat} {ev : Nat} {d : List Byte} (h : i.CmdSide (s.intake g)) :
    i.CmdSide ((s.putEvts fns ev d).1.intake g) := by
  unfold State.putEvts
  have : ∀ (l : List Nat) (x : State × Option Nat), i.CmdSide (x.1.intake g) → i.CmdSide
      ((l.foldl (fun (acc : State × Option Nat) fn =>
        let (s, lost) := acc.1.putEvt fn { event := ev, tick := acc.1.tick % 2 ^ 32, payload := d }
        (s, if lost then some fn else acc.2)) x).1.intake g) := by
    intro l
    induction l with
    | nil => intro x h; exact h
    | cons a r ih => intro x h; exact ih _ (State.putEvt_cmdSide h)
  exact this fns (s, none) h

theorem State.raiseCore_cmdSide {blk j cause info : Nat} (h : i.CmdSide (s.intake g)) :
    i.CmdSide ((s.raiseCore blk j cause info).1.intake g) := by
  unfold State.raiseCore
  extract_lets
  with_reducible repeat' (first | assumption | apply State.putEvts_cmdSide | apply State.setFlt_cmdSide | apply State.fatalPin_cmdSide | split | extract_lets)

theorem State.afterEvt_cmdSide {p : State × Option Nat} (h : i.CmdSide (p.1.intake g)) : i.CmdSide ((State.afterEvt p).intake g) := by
  unfold State.afterEvt
  split
  · exact h
  · exact State.raiseCore_cmdSide h

theorem State.raise_cmdSide {blk j cause info : Nat} (h : i.CmdSide (s.intake g)) : i.CmdSide ((s.raise blk j cause info).intake g) :=
  State.afterEvt_cmdSide (State.raiseCore_cmdSide h)

theorem State.event_cmdSide {fns : List Nat} {ev : Nat} {d : List Byte} (h : i.CmdSide (s.intake g)) :
    i.CmdSide ((s.event fns ev d).intake g) :=
  State.afterEvt_cmdSide (State.putEvts_cmdSide h)

theorem State.bump_cmdSide {blk off n : Nat} (h : i.CmdSide (s.intake g)) : i.CmdSide ((s.bump blk off n).intake g) := by
  unfold State.bump
  have k : i.CmdSide ((s.bumpRaw blk off n).1.intake g) := State.other_cmdSide (by simp) h
  split
  rename_i e
  rw [e] at k
  split
  · exact State.event_cmdSide k
  · exact k

end

theorem Intake.CmdSide.minor {i j : Intake} (h : i.CmdSide j) : j.minor = i.minor := by unfold Intake.CmdSide at h; rw [← h]
theorem Intake.CmdSide.cplBuf {i j : Intake} (h : i.CmdSide j) : j.cplBuf = i.cplBuf := by unfold Intake.CmdSide at h; rw [← h]
theorem Intake.CmdSide.cpl {i j : Intake} (h : i.CmdSide j) : j.cpl = i.cpl := by unfold Intake.CmdSide at h; rw [← h]

@[simp] theorem State.bump_minor (s : State) (blk off n g : Nat) : ((s.bump blk off n).intake g).minor = (s.intake g).minor :=
  (State.bump_cmdSide (.refl _)).minor
@[simp] theorem State.raise_minor (s : State) (blk j c n g : Nat) : ((s.raise blk j c n).intake g).minor = (s.intake g).minor :=
  (State.raise_cmdSide (.refl _)).minor
@[simp] theorem State.event_minor (s : State) (l : List Nat) (ev : Nat) (d : List Byte) (g : Nat) :
    ((s.event l ev d).intake g).minor = (s.intake g).minor :=
  (State.event_cmdSide (.refl _)).minor

/-- A counter after a bump that does not saturate it. -/
theorem State.bump_stat (s : State) (blk off n : Nat) (h : s.stat blk off + n < statMax blk off) :
    (s.bump blk off n) = s.onStats fun t => Tbl.put t (statKey blk off) (s.stat blk off + n) := by
  have e : satAt (statMax blk off) (s.stat blk off + n) = s.stat blk off + n := by
    unfold satAt; rw [if_pos (Nat.le_of_lt h)]
  have ne : (s.stat blk off + n == statMax blk off) = false := by simp; omega
  unfold State.bump State.bumpRaw
  simp only [e, ne]
  rfl

/-! ### What counters, events and records leave alone in TRT: everything but the peak depths -/

section
variable {s0 s : State}

/-- TRT differs in its peak depths at most. -/
def TrtSide (s t : State) : Prop := { t.trt with peaks := s.trt.peaks } = s.trt

theorem TrtSide.refl (s : State) : TrtSide s s := rfl

theorem TrtSide.routes (h : TrtSide s0 s) : s.trt.routes = s0.trt.routes := by unfold TrtSide at h; rw [← h]

theorem TrtSide.other {t : State} (e : t.trt = s.trt) (h : TrtSide s0 s) : TrtSide s0 t := by unfold TrtSide; rw [e]; exact h

theorem State.enqueue_trtSide {p : Nat} {k : Pkt} (h : TrtSide s0 s) : TrtSide s0 (s.enqueue p k) := h

theorem State.hostTlp_trtSide {c v : Nat} {d : HostTlp} (h : TrtSide s0 s) : TrtSide s0 (s.hostTlp c v d) := h

theorem State.hostWrite_trtSide {fn c a : Nat} {d : List Byte} (h : TrtSide s0 s) : TrtSide s0 (s.hostWrite fn c a d) := h

theorem State.setIntake_trtSide {fn : Nat} {f : Intake → Intake} (h : TrtSide s0 s) : TrtSide s0 (s.setIntake fn f) := h

theorem State.writeCpl_trtSide {fn : Nat} {c : CplRec} (h : TrtSide s0 s) : TrtSide s0 (s.writeCpl fn c) := by
  unfold State.writeCpl
  exact State.setIntake_trtSide (State.hostWrite_trtSide (State.hostWrite_trtSide (State.hostWrite_trtSide h)))

theorem State.putCpl_trtSide {fn : Nat} {c : CplRec} (h : TrtSide s0 s) : TrtSide s0 (s.putCpl fn c) := by
  unfold State.putCpl
  with_reducible repeat' (first | assumption | apply State.setIntake_trtSide | apply State.writeCpl_trtSide | split)

theorem State.writeEvt_trtSide {fn : Nat} {e : EvtRec} (h : TrtSide s0 s) : TrtSide s0 (s.writeEvt fn e) := by
  unfold State.writeEvt
  exact State.setIntake_trtSide (State.hostWrite_trtSide (State.hostWrite_trtSide h))

theorem State.putEvt_trtSide {fn : Nat} {e : EvtRec} (h : TrtSide s0 s) : TrtSide s0 (s.putEvt fn e).1 := by
  unfold State.putEvt
  extract_lets
  split
  · exact h
  · split
    · exact State.writeEvt_trtSide h
    · split
      · exact State.setIntake_trtSide h
      · refine TrtSide.other (State.bumpRaw_trt ..) ?_
        exact State.setIntake_trtSide h

theorem State.putEvts_trtSide {fns : List Nat} {ev : Nat} {d : List Byte} (h : TrtSide s0 s) : TrtSide s0 (s.putEvts fns ev d).1 := by
  unfold State.putEvts
  have : ∀ (l : List Nat) (x : State × Option Nat), TrtSide s0 x.1 → TrtSide s0
      (l.foldl (fun (acc : State × Option Nat) fn =>
        let (s, lost) := acc.1.putEvt fn { event := ev, tick := acc.1.tick % 2 ^ 32, payload := d }
        (s, if lost then some fn else acc.2)) x).1 := by
    intro l
    induction l with
    | nil => intro x h; exact h
    | cons a r ih => intro x h; exact ih _ (State.putEvt_trtSide h)
  exact this fns (s, none) h

theorem State.raiseCore_trtSide {blk j cause info : Nat} (h : TrtSide s0 s) : TrtSide s0 (s.raiseCore blk j cause info).1 := by
  have a : ∀ {u : State} {f : FltInst → FltInst}, TrtSide s0 u → TrtSide s0 (u.setFlt blk j f) := fun h => h
  have b : ∀ {u : State}, TrtSide s0 u → TrtSide s0 u.fatalPin := fun h => h
  unfold State.raiseCore
  extract_lets
  with_reducible repeat' (first | assumption | apply State.putEvts_trtSide | apply a | apply b | split | extract_lets)

theorem State.afterEvt_trtSide {p : State × Option Nat} (h : TrtSide s0 p.1) : TrtSide s0 (State.afterEvt p) := by
  unfold State.afterEvt
  split
  · exact h
  · exact State.raiseCore_trtSide h

theorem State.raise_trtSide {blk j cause info : Nat} (h : TrtSide s0 s) : TrtSide s0 (s.raise blk j cause info) :=
  State.afterEvt_trtSide (State.raiseCore_trtSide h)

theorem State.event_trtSide {fns : List Nat} {ev : Nat} {d : List Byte} (h : TrtSide s0 s) : TrtSide s0 (s.event fns ev d) :=
  State.afterEvt_trtSide (State.putEvts_trtSide h)

theorem State.bump_trtSide {blk off n : Nat} (h : TrtSide s0 s) : TrtSide s0 (s.bump blk off n) := by
  unfold State.bump
  have k : TrtSide s0 (s.bumpRaw blk off n).1 := TrtSide.other (State.bumpRaw_trt ..) h
  split
  rename_i e
  rw [e] at k
  split
  · exact State.event_trtSide k
  · exact k

end

@[simp] theorem State.bump_routes (s : State) (blk off n : Nat) : (s.bump blk off n).trt.routes = s.trt.routes :=
  (State.bump_trtSide (.refl s)).routes

end Sys2Proof.Machine
end

