-- ==== Sys2Proof/Laws/Begin.lean ====
section
/-! SUPPORT. What a command row is once Lutik begins its packet: the command's own operation on the state with the packet counted. -/

namespace Sys2Proof.Machine

@[simp] theorem State.begun_minor (s : State) (fn : Nat) : (s.begun.intake fn).minor = (s.intake fn).minor := State.bump_minor ..

theorem State.begun_stateRefusal (s : State) (fn op : Nat) : s.begun.stateRefusal fn op = s.stateRefusal fn op := by
  simp [State.begun, State.stateRefusal, State.failedPart, State.cellar, State.tenantExists, State.func, State.func?, State.tenant]

theorem State.cmdRow_begins {s : State} {fn : Nat} {p : Packet} {op : Nat} (h : s.Begins fn p op) :
    s.cmdRow op fn p = s.begun.beginCmd (issuer fn p) p := by
  obtain ⟨h1, h2, h3, h4⟩ := h
  subst h3
  unfold State.cmdRow State.command
  simp only [h1, h2, Bool.not_true, Bool.false_eq_true, if_false, beq_self_eq_true, if_true]
  unfold State.beginPacket
  rw [show s.bump blkCMD 0x0500 = s.begun from rfl]
  simp only [State.begun_minor, State.begun_stateRefusal, h2, h4]
  rfl

/-- A command other than HELLO and CAPS that nothing refuses waits for the next tick boundary (R543). -/
theorem State.beginCmd_waits {s : State} {i : Issuer} {p : Packet} (h1 : p.op ≠ 0x0101) (h2 : p.op ≠ 0x0102)
    (h : s.beginRefusal i p = none) : s.beginCmd i p = s.later (.cmd i.fn p) := by
  unfold State.beginCmd
  split
  · exact absurd ‹_› h1
  · exact absurd ‹_› h2
  · rw [h]

/-- One that its issuer or its fields refuse is answered at once (R543). -/
theorem State.beginCmd_refused {s : State} {i : Issuer} {p : Packet} {st : Status} {d : Nat} (h1 : p.op ≠ 0x0101) (h2 : p.op ≠ 0x0102)
    (h : s.beginRefusal i p = some (st, d)) : s.beginCmd i p = s.answer i st d := by
  unfold State.beginCmd
  split
  · exact absurd ‹_› h1
  · exact absurd ‹_› h2
  · rw [h]

@[simp] theorem State.begun_mem (s : State) : s.begun.mem = s.mem := State.bump_mem ..
@[simp] theorem State.begun_rgn (s : State) : s.begun.rgn = s.rgn := State.bump_rgn ..
@[simp] theorem State.begun_dir (s : State) : s.begun.dir = s.dir := State.bump_dir ..
@[simp] theorem State.begun_xlt (s : State) : s.begun.xlt = s.xlt := State.bump_xlt ..
@[simp] theorem State.begun_eng (s : State) : s.begun.eng = s.eng := State.bump_eng ..
@[simp] theorem State.begun_opu (s : State) : s.begun.opu = s.opu := State.bump_opu ..
@[simp] theorem State.begun_mcx (s : State) : s.begun.mcx = s.mcx := State.bump_mcx ..
@[simp] theorem State.begun_sec (s : State) : s.begun.sec = s.sec := State.bump_sec ..
@[simp] theorem State.begun_pci (s : State) : s.begun.pci = s.pci := State.bump_pci ..
@[simp] theorem State.begun_tlk (s : State) : s.begun.tlk = s.tlk := State.bump_tlk ..
@[simp] theorem State.begun_mtr (s : State) : s.begun.mtr = s.mtr := State.bump_mtr ..
@[simp] theorem State.begun_mir (s : State) : s.begun.mir = s.mir := State.bump_mir ..
@[simp] theorem State.begun_glb (s : State) : s.begun.glb = s.glb := State.bump_glb ..
@[simp] theorem State.begun_pwr (s : State) : s.begun.pwr = s.pwr := State.bump_pwr ..
@[simp] theorem State.begun_pins (s : State) : s.begun.pins = s.pins := State.bump_pins ..
@[simp] theorem State.begun_flash (s : State) : s.begun.flash = s.flash := State.bump_flash ..
@[simp] theorem State.begun_latched (s : State) : s.begun.latched = s.latched := State.bump_latched ..
@[simp] theorem State.begun_out (s : State) : s.begun.out = s.out := State.bump_out ..
@[simp] theorem State.begun_fresh (s : State) : s.begun.fresh = s.fresh := State.bump_fresh ..
@[simp] theorem State.begun_pending (s : State) : s.begun.pending = s.pending := State.bump_pending ..

@[simp] theorem State.begun_routes (s : State) : s.begun.trt.routes = s.trt.routes := State.bump_routes ..
/-! ### Readers of the parts that counting a packet leaves alone -/

@[simp] theorem State.begun_region (s : State) (r : Nat) : s.begun.region r = s.region r := by simp [State.region]
@[simp] theorem State.begun_entry (s : State) (i : Nat) : s.begun.entry i = s.entry i := by simp [State.entry]
@[simp] theorem State.begun_func? (s : State) (n : Nat) : s.begun.func? n = s.func? n := by simp [State.func?]
@[simp] theorem State.begun_func (s : State) (n : Nat) : s.begun.func n = s.func n := by simp [State.func, State.func?]
@[simp] theorem State.begun_link (s : State) (n : Nat) : s.begun.link n = s.link n := by simp [State.link]
@[simp] theorem State.begun_altProvider (s : State) : s.begun.altProvider = s.altProvider := by simp [State.altProvider]
@[simp] theorem State.begun_isProvider (s : State) (n : Nat) : s.begun.isProvider n = s.isProvider n := by simp [State.isProvider]
@[simp] theorem State.begun_fnExists (s : State) (n : Nat) : s.begun.fnExists n = s.fnExists n := by unfold State.fnExists State.pfOf; simp
@[simp] theorem State.begun_provider (s : State) (i : Issuer) : s.begun.provider i = s.provider i := by simp [State.provider]
@[simp] theorem State.begun_tenant (s : State) (n : Nat) : s.begun.tenant n = s.tenant n := by simp [State.tenant]
@[simp] theorem State.begun_tenantExists (s : State) (n : Nat) : s.begun.tenantExists n = s.tenantExists n := by simp [State.tenantExists]
@[simp] theorem State.begun_mayRegion (s : State) (i : Issuer) (o : Nat) : s.begun.mayRegion i o = s.mayRegion i o := by simp [State.mayRegion]
@[simp] theorem State.begun_tick (s : State) : s.begun.tick = s.tick := by simp [State.tick]
@[simp] theorem State.begun_fnsOf (s : State) (a : Nat) : s.begun.fnsOf a = s.fnsOf a := by simp [State.fnsOf]
@[simp] theorem State.begun_hostAgent (s : State) (a : Nat) : s.begun.hostAgent a = s.hostAgent a := by simp [State.hostAgent]
@[simp] theorem State.begun_tenantOf (s : State) (a : Nat) : s.begun.tenantOf a = s.tenantOf a := by simp [State.tenantOf]
@[simp] theorem State.begun_agentSt (s : State) (a : Nat) : s.begun.agentSt a = s.agentSt a := by simp [State.agentSt]
@[simp] theorem State.begun_agentExists (s : State) (a : Nat) : s.begun.agentExists a = s.agentExists a := by simp [State.agentExists, State.agentKnown, State.route, State.begun_routes]
@[simp] theorem State.begun_unit (s : State) (n : Nat) : s.begun.unit n = s.unit n := by simp [State.unit]
@[simp] theorem State.begun_job? (s : State) (a j : Nat) : s.begun.job? a j = s.job? a j := by simp [State.job?]
@[simp] theorem State.begun_layers (s : State) : s.begun.layers = s.layers := by simp [State.layers]
@[simp] theorem State.begun_lockedW (s : State) (r : Nat) : s.begun.lockedW r = s.lockedW r := by simp [State.lockedW]
@[simp] theorem State.begun_lockedKv (s : State) (r : Nat) : s.begun.lockedKv r = s.lockedKv r := by simp [State.lockedKv]
@[simp] theorem State.begun_locked (s : State) (r : Nat) : s.begun.locked r = s.locked r := by simp [State.locked]
@[simp] theorem State.begun_entriesOf (s : State) (g : Region) (b : Nat) : s.begun.entriesOf g b = s.entriesOf g b := by simp [State.entriesOf]
@[simp] theorem State.begun_heldIn (s : State) (g : Region) (b : Nat) (l : List Nat) : s.begun.heldIn g b l = s.heldIn g b l := by simp [State.heldIn]
@[simp] theorem State.begun_regionIdxs (s : State) (r : Nat) : s.begun.regionIdxs r = s.regionIdxs r := by simp [State.regionIdxs]
@[simp] theorem State.begun_draftsHeld (s : State) (r : Nat) (o : Option Nat) : s.begun.draftsHeld r o = s.draftsHeld r o := by simp [State.draftsHeld]
@[simp] theorem State.begun_incarn (s : State) (r : Nat) : s.begun.incarn r = s.incarn r := by simp [State.incarn]
@[simp] theorem State.begun_paired (s : State) : s.begun.paired = s.paired := by simp [State.paired]
@[simp] theorem State.begun_stack (s : State) (k : Nat) : s.begun.stack k = s.stack k := by simp [State.stack]
@[simp] theorem State.begun_stackFailed (s : State) (k : Nat) : s.begun.stackFailed k = s.stackFailed k := by simp [State.stackFailed]

theorem State.begun_beginRefusal (s : State) (i : Issuer) (p : Packet) : s.begun.beginRefusal i p = s.beginRefusal i p := by
  simp only [State.beginRefusal, State.begun_provider]

theorem begins_hello {s : State} {fn : Nat} {p : Packet} (h : s.Begins fn p 0x0101) :
    exec (.hello fn p) s = .next (s.begun.doHello (issuer fn p) p) := by
  refine congrArg Host.Outcome.next ((State.cmdRow_begins h).trans ?_)
  unfold State.beginCmd; rw [h.opcode]; rfl

theorem begins_caps {s : State} {fn : Nat} {p : Packet} (h : s.Begins fn p 0x0102) :
    exec (.caps fn p) s = .next (s.begun.doCaps (issuer fn p) p) := by
  refine congrArg Host.Outcome.next ((State.cmdRow_begins h).trans ?_)
  unfold State.beginCmd; rw [h.opcode]; rfl

/-- What a command row answers when Lutik begins its packet: refused at once, or waiting for the next boundary (R543). -/
theorem State.cmdRow_later {s : State} {fn : Nat} {p : Packet} {op : Nat} (h : s.Begins fn p op) (h1 : op ≠ 0x0101) (h2 : op ≠ 0x0102)
    (hr : s.beginRefusal (issuer fn p) p = none) : s.cmdRow op fn p = s.begun.later (.cmd fn p) :=
  (State.cmdRow_begins h).trans (State.beginCmd_waits (h.opcode ▸ h1) (h.opcode ▸ h2) ((State.begun_beginRefusal ..).trans hr))

theorem State.cmdRow_refused {s : State} {fn : Nat} {p : Packet} {op d : Nat} {st : Status} (h : s.Begins fn p op) (h1 : op ≠ 0x0101)
    (h2 : op ≠ 0x0102) (hr : s.beginRefusal (issuer fn p) p = some (st, d)) : s.cmdRow op fn p = s.begun.answer (issuer fn p) st d :=
  (State.cmdRow_begins h).trans (State.beginCmd_refused (h.opcode ▸ h1) (h.opcode ▸ h2) ((State.begun_beginRefusal ..).trans hr))

theorem begins_regionCreate {s : State} {fn : Nat} {p : Packet} (h : s.Begins fn p 0x0201) (hr : s.beginRefusal (issuer fn p) p = none) :
    exec (.regionCreate fn p) s = .next (s.begun.later (.cmd fn p)) := congrArg Host.Outcome.next (State.cmdRow_later h (by decide) (by decide) hr)

theorem refused_regionCreate {s : State} {fn : Nat} {p : Packet} {st : Status} {d : Nat} (h : s.Begins fn p 0x0201)
    (hr : s.beginRefusal (issuer fn p) p = some (st, d)) : exec (.regionCreate fn p) s = .next (s.begun.answer (issuer fn p) st d) :=
  congrArg Host.Outcome.next (State.cmdRow_refused h (by decide) (by decide) hr)

theorem begins_regionDestroy {s : State} {fn : Nat} {p : Packet} (h : s.Begins fn p 0x0202) (hr : s.beginRefusal (issuer fn p) p = none) :
    exec (.regionDestroy fn p) s = .next (s.begun.later (.cmd fn p)) := congrArg Host.Outcome.next (State.cmdRow_later h (by decide) (by decide) hr)

theorem refused_regionDestroy {s : State} {fn : Nat} {p : Packet} {st : Status} {d : Nat} (h : s.Begins fn p 0x0202)
    (hr : s.beginRefusal (issuer fn p) p = some (st, d)) : exec (.regionDestroy fn p) s = .next (s.begun.answer (issuer fn p) st d) :=
  congrArg Host.Outcome.next (State.cmdRow_refused h (by decide) (by decide) hr)

theorem begins_binAdd {s : State} {fn : Nat} {p : Packet} (h : s.Begins fn p 0x0203) (hr : s.beginRefusal (issuer fn p) p = none) :
    exec (.binAdd fn p) s = .next (s.begun.later (.cmd fn p)) := congrArg Host.Outcome.next (State.cmdRow_later h (by decide) (by decide) hr)

theorem refused_binAdd {s : State} {fn : Nat} {p : Packet} {st : Status} {d : Nat} (h : s.Begins fn p 0x0203)
    (hr : s.beginRefusal (issuer fn p) p = some (st, d)) : exec (.binAdd fn p) s = .next (s.begun.answer (issuer fn p) st d) :=
  congrArg Host.Outcome.next (State.cmdRow_refused h (by decide) (by decide) hr)

theorem begins_binRevoke {s : State} {fn : Nat} {p : Packet} (h : s.Begins fn p 0x0204) (hr : s.beginRefusal (issuer fn p) p = none) :
    exec (.binRevoke fn p) s = .next (s.begun.later (.cmd fn p)) := congrArg Host.Outcome.next (State.cmdRow_later h (by decide) (by decide) hr)

theorem refused_binRevoke {s : State} {fn : Nat} {p : Packet} {st : Status} {d : Nat} (h : s.Begins fn p 0x0204)
    (hr : s.beginRefusal (issuer fn p) p = some (st, d)) : exec (.binRevoke fn p) s = .next (s.begun.answer (issuer fn p) st d) :=
  congrArg Host.Outcome.next (State.cmdRow_refused h (by decide) (by decide) hr)

theorem begins_regionAttach {s : State} {fn : Nat} {p : Packet} (h : s.Begins fn p 0x0205) (hr : s.beginRefusal (issuer fn p) p = none) :
    exec (.regionAttach fn p) s = .next (s.begun.later (.cmd fn p)) := congrArg Host.Outcome.next (State.cmdRow_later h (by decide) (by decide) hr)

theorem refused_regionAttach {s : State} {fn : Nat} {p : Packet} {st : Status} {d : Nat} (h : s.Begins fn p 0x0205)
    (hr : s.beginRefusal (issuer fn p) p = some (st, d)) : exec (.regionAttach fn p) s = .next (s.begun.answer (issuer fn p) st d) :=
  congrArg Host.Outcome.next (State.cmdRow_refused h (by decide) (by decide) hr)

theorem begins_regionDetach {s : State} {fn : Nat} {p : Packet} (h : s.Begins fn p 0x0206) (hr : s.beginRefusal (issuer fn p) p = none) :
    exec (.regionDetach fn p) s = .next (s.begun.later (.cmd fn p)) := congrArg Host.Outcome.next (State.cmdRow_later h (by decide) (by decide) hr)

theorem refused_regionDetach {s : State} {fn : Nat} {p : Packet} {st : Status} {d : Nat} (h : s.Begins fn p 0x0206)
    (hr : s.beginRefusal (issuer fn p) p = some (st, d)) : exec (.regionDetach fn p) s = .next (s.begun.answer (issuer fn p) st d) :=
  congrArg Host.Outcome.next (State.cmdRow_refused h (by decide) (by decide) hr)

theorem begins_publish {s : State} {fn : Nat} {p : Packet} (h : s.Begins fn p 0x0207) (hr : s.beginRefusal (issuer fn p) p = none) :
    exec (.publish fn p) s = .next (s.begun.later (.cmd fn p)) := congrArg Host.Outcome.next (State.cmdRow_later h (by decide) (by decide) hr)

theorem refused_publish {s : State} {fn : Nat} {p : Packet} {st : Status} {d : Nat} (h : s.Begins fn p 0x0207)
    (hr : s.beginRefusal (issuer fn p) p = some (st, d)) : exec (.publish fn p) s = .next (s.begun.answer (issuer fn p) st d) :=
  congrArg Host.Outcome.next (State.cmdRow_refused h (by decide) (by decide) hr)

theorem begins_regionInfo {s : State} {fn : Nat} {p : Packet} (h : s.Begins fn p 0x0208) (hr : s.beginRefusal (issuer fn p) p = none) :
    exec (.regionInfo fn p) s = .next (s.begun.later (.cmd fn p)) := congrArg Host.Outcome.next (State.cmdRow_later h (by decide) (by decide) hr)

theorem refused_regionInfo {s : State} {fn : Nat} {p : Packet} {st : Status} {d : Nat} (h : s.Begins fn p 0x0208)
    (hr : s.beginRefusal (issuer fn p) p = some (st, d)) : exec (.regionInfo fn p) s = .next (s.begun.answer (issuer fn p) st d) :=
  congrArg Host.Outcome.next (State.cmdRow_refused h (by decide) (by decide) hr)

theorem begins_mapUpdate {s : State} {fn : Nat} {p : Packet} (h : s.Begins fn p 0x0301) (hr : s.beginRefusal (issuer fn p) p = none) :
    exec (.mapUpdate fn p) s = .next (s.begun.later (.cmd fn p)) := congrArg Host.Outcome.next (State.cmdRow_later h (by decide) (by decide) hr)

theorem refused_mapUpdate {s : State} {fn : Nat} {p : Packet} {st : Status} {d : Nat} (h : s.Begins fn p 0x0301)
    (hr : s.beginRefusal (issuer fn p) p = some (st, d)) : exec (.mapUpdate fn p) s = .next (s.begun.answer (issuer fn p) st d) :=
  congrArg Host.Outcome.next (State.cmdRow_refused h (by decide) (by decide) hr)

theorem begins_mapDigest {s : State} {fn : Nat} {p : Packet} (h : s.Begins fn p 0x0302) (hr : s.beginRefusal (issuer fn p) p = none) :
    exec (.mapDigest fn p) s = .next (s.begun.later (.cmd fn p)) := congrArg Host.Outcome.next (State.cmdRow_later h (by decide) (by decide) hr)

theorem refused_mapDigest {s : State} {fn : Nat} {p : Packet} {st : Status} {d : Nat} (h : s.Begins fn p 0x0302)
    (hr : s.beginRefusal (issuer fn p) p = some (st, d)) : exec (.mapDigest fn p) s = .next (s.begun.answer (issuer fn p) st d) :=
  congrArg Host.Outcome.next (State.cmdRow_refused h (by decide) (by decide) hr)

theorem begins_faultResolve {s : State} {fn : Nat} {p : Packet} (h : s.Begins fn p 0x0303) (hr : s.beginRefusal (issuer fn p) p = none) :
    exec (.faultResolve fn p) s = .next (s.begun.later (.cmd fn p)) := congrArg Host.Outcome.next (State.cmdRow_later h (by decide) (by decide) hr)

theorem refused_faultResolve {s : State} {fn : Nat} {p : Packet} {st : Status} {d : Nat} (h : s.Begins fn p 0x0303)
    (hr : s.beginRefusal (issuer fn p) p = some (st, d)) : exec (.faultResolve fn p) s = .next (s.begun.answer (issuer fn p) st d) :=
  congrArg Host.Outcome.next (State.cmdRow_refused h (by decide) (by decide) hr)

theorem begins_jobSubmit {s : State} {fn : Nat} {p : Packet} (h : s.Begins fn p 0x0401) (hr : s.beginRefusal (issuer fn p) p = none) :
    exec (.jobSubmit fn p) s = .next (s.begun.later (.cmd fn p)) := congrArg Host.Outcome.next (State.cmdRow_later h (by decide) (by decide) hr)

theorem refused_jobSubmit {s : State} {fn : Nat} {p : Packet} {st : Status} {d : Nat} (h : s.Begins fn p 0x0401)
    (hr : s.beginRefusal (issuer fn p) p = some (st, d)) : exec (.jobSubmit fn p) s = .next (s.begun.answer (issuer fn p) st d) :=
  congrArg Host.Outcome.next (State.cmdRow_refused h (by decide) (by decide) hr)

theorem begins_jobAbort {s : State} {fn : Nat} {p : Packet} (h : s.Begins fn p 0x0402) (hr : s.beginRefusal (issuer fn p) p = none) :
    exec (.jobAbort fn p) s = .next (s.begun.later (.cmd fn p)) := congrArg Host.Outcome.next (State.cmdRow_later h (by decide) (by decide) hr)

theorem refused_jobAbort {s : State} {fn : Nat} {p : Packet} {st : Status} {d : Nat} (h : s.Begins fn p 0x0402)
    (hr : s.beginRefusal (issuer fn p) p = some (st, d)) : exec (.jobAbort fn p) s = .next (s.begun.answer (issuer fn p) st d) :=
  congrArg Host.Outcome.next (State.cmdRow_refused h (by decide) (by decide) hr)

theorem begins_jobQuery {s : State} {fn : Nat} {p : Packet} (h : s.Begins fn p 0x0408) (hr : s.beginRefusal (issuer fn p) p = none) :
    exec (.jobQuery fn p) s = .next (s.begun.later (.cmd fn p)) := congrArg Host.Outcome.next (State.cmdRow_later h (by decide) (by decide) hr)

theorem refused_jobQuery {s : State} {fn : Nat} {p : Packet} {st : Status} {d : Nat} (h : s.Begins fn p 0x0408)
    (hr : s.beginRefusal (issuer fn p) p = some (st, d)) : exec (.jobQuery fn p) s = .next (s.begun.answer (issuer fn p) st d) :=
  congrArg Host.Outcome.next (State.cmdRow_refused h (by decide) (by decide) hr)

theorem begins_modelLoad {s : State} {fn : Nat} {p : Packet} (h : s.Begins fn p 0x0403) (hr : s.beginRefusal (issuer fn p) p = none) :
    exec (.modelLoad fn p) s = .next (s.begun.later (.cmd fn p)) := congrArg Host.Outcome.next (State.cmdRow_later h (by decide) (by decide) hr)

theorem refused_modelLoad {s : State} {fn : Nat} {p : Packet} {st : Status} {d : Nat} (h : s.Begins fn p 0x0403)
    (hr : s.beginRefusal (issuer fn p) p = some (st, d)) : exec (.modelLoad fn p) s = .next (s.begun.answer (issuer fn p) st d) :=
  congrArg Host.Outcome.next (State.cmdRow_refused h (by decide) (by decide) hr)

theorem begins_layerPlace {s : State} {fn : Nat} {p : Packet} (h : s.Begins fn p 0x0404) (hr : s.beginRefusal (issuer fn p) p = none) :
    exec (.layerPlace fn p) s = .next (s.begun.later (.cmd fn p)) := congrArg Host.Outcome.next (State.cmdRow_later h (by decide) (by decide) hr)

theorem refused_layerPlace {s : State} {fn : Nat} {p : Packet} {st : Status} {d : Nat} (h : s.Begins fn p 0x0404)
    (hr : s.beginRefusal (issuer fn p) p = some (st, d)) : exec (.layerPlace fn p) s = .next (s.begun.answer (issuer fn p) st d) :=
  congrArg Host.Outcome.next (State.cmdRow_refused h (by decide) (by decide) hr)

theorem begins_modelUnload {s : State} {fn : Nat} {p : Packet} (h : s.Begins fn p 0x0405) (hr : s.beginRefusal (issuer fn p) p = none) :
    exec (.modelUnload fn p) s = .next (s.begun.later (.cmd fn p)) := congrArg Host.Outcome.next (State.cmdRow_later h (by decide) (by decide) hr)

theorem refused_modelUnload {s : State} {fn : Nat} {p : Packet} {st : Status} {d : Nat} (h : s.Begins fn p 0x0405)
    (hr : s.beginRefusal (issuer fn p) p = some (st, d)) : exec (.modelUnload fn p) s = .next (s.begun.answer (issuer fn p) st d) :=
  congrArg Host.Outcome.next (State.cmdRow_refused h (by decide) (by decide) hr)

theorem begins_modelUsers {s : State} {fn : Nat} {p : Packet} (h : s.Begins fn p 0x0406) (hr : s.beginRefusal (issuer fn p) p = none) :
    exec (.modelUsers fn p) s = .next (s.begun.later (.cmd fn p)) := congrArg Host.Outcome.next (State.cmdRow_later h (by decide) (by decide) hr)

theorem refused_modelUsers {s : State} {fn : Nat} {p : Packet} {st : Status} {d : Nat} (h : s.Begins fn p 0x0406)
    (hr : s.beginRefusal (issuer fn p) p = some (st, d)) : exec (.modelUsers fn p) s = .next (s.begun.answer (issuer fn p) st d) :=
  congrArg Host.Outcome.next (State.cmdRow_refused h (by decide) (by decide) hr)

theorem begins_decodeStep {s : State} {fn : Nat} {p : Packet} (h : s.Begins fn p 0x0407) (hr : s.beginRefusal (issuer fn p) p = none) :
    exec (.decodeStep fn p) s = .next (s.begun.later (.cmd fn p)) := congrArg Host.Outcome.next (State.cmdRow_later h (by decide) (by decide) hr)

theorem refused_decodeStep {s : State} {fn : Nat} {p : Packet} {st : Status} {d : Nat} (h : s.Begins fn p 0x0407)
    (hr : s.beginRefusal (issuer fn p) p = some (st, d)) : exec (.decodeStep fn p) s = .next (s.begun.answer (issuer fn p) st d) :=
  congrArg Host.Outcome.next (State.cmdRow_refused h (by decide) (by decide) hr)

theorem begins_meterSet {s : State} {fn : Nat} {p : Packet} (h : s.Begins fn p 0x0501) (hr : s.beginRefusal (issuer fn p) p = none) :
    exec (.meterSet fn p) s = .next (s.begun.later (.cmd fn p)) := congrArg Host.Outcome.next (State.cmdRow_later h (by decide) (by decide) hr)

theorem refused_meterSet {s : State} {fn : Nat} {p : Packet} {st : Status} {d : Nat} (h : s.Begins fn p 0x0501)
    (hr : s.beginRefusal (issuer fn p) p = some (st, d)) : exec (.meterSet fn p) s = .next (s.begun.answer (issuer fn p) st d) :=
  congrArg Host.Outcome.next (State.cmdRow_refused h (by decide) (by decide) hr)

theorem begins_schedSet {s : State} {fn : Nat} {p : Packet} (h : s.Begins fn p 0x0502) (hr : s.beginRefusal (issuer fn p) p = none) :
    exec (.schedSet fn p) s = .next (s.begun.later (.cmd fn p)) := congrArg Host.Outcome.next (State.cmdRow_later h (by decide) (by decide) hr)

theorem refused_schedSet {s : State} {fn : Nat} {p : Packet} {st : Status} {d : Nat} (h : s.Begins fn p 0x0502)
    (hr : s.beginRefusal (issuer fn p) p = some (st, d)) : exec (.schedSet fn p) s = .next (s.begun.answer (issuer fn p) st d) :=
  congrArg Host.Outcome.next (State.cmdRow_refused h (by decide) (by decide) hr)

theorem begins_gateListLoad {s : State} {fn : Nat} {p : Packet} (h : s.Begins fn p 0x0503) (hr : s.beginRefusal (issuer fn p) p = none) :
    exec (.gateListLoad fn p) s = .next (s.begun.later (.cmd fn p)) := congrArg Host.Outcome.next (State.cmdRow_later h (by decide) (by decide) hr)

theorem refused_gateListLoad {s : State} {fn : Nat} {p : Packet} {st : Status} {d : Nat} (h : s.Begins fn p 0x0503)
    (hr : s.beginRefusal (issuer fn p) p = some (st, d)) : exec (.gateListLoad fn p) s = .next (s.begun.answer (issuer fn p) st d) :=
  congrArg Host.Outcome.next (State.cmdRow_refused h (by decide) (by decide) hr)

theorem begins_tenantCreate {s : State} {fn : Nat} {p : Packet} (h : s.Begins fn p 0x0601) (hr : s.beginRefusal (issuer fn p) p = none) :
    exec (.tenantCreate fn p) s = .next (s.begun.later (.cmd fn p)) := congrArg Host.Outcome.next (State.cmdRow_later h (by decide) (by decide) hr)

theorem refused_tenantCreate {s : State} {fn : Nat} {p : Packet} {st : Status} {d : Nat} (h : s.Begins fn p 0x0601)
    (hr : s.beginRefusal (issuer fn p) p = some (st, d)) : exec (.tenantCreate fn p) s = .next (s.begun.answer (issuer fn p) st d) :=
  congrArg Host.Outcome.next (State.cmdRow_refused h (by decide) (by decide) hr)

theorem begins_tenantRemove {s : State} {fn : Nat} {p : Packet} (h : s.Begins fn p 0x0602) (hr : s.beginRefusal (issuer fn p) p = none) :
    exec (.tenantRemove fn p) s = .next (s.begun.later (.cmd fn p)) := congrArg Host.Outcome.next (State.cmdRow_later h (by decide) (by decide) hr)

theorem refused_tenantRemove {s : State} {fn : Nat} {p : Packet} {st : Status} {d : Nat} (h : s.Begins fn p 0x0602)
    (hr : s.beginRefusal (issuer fn p) p = some (st, d)) : exec (.tenantRemove fn p) s = .next (s.begun.answer (issuer fn p) st d) :=
  congrArg Host.Outcome.next (State.cmdRow_refused h (by decide) (by decide) hr)

theorem begins_keyRotate {s : State} {fn : Nat} {p : Packet} (h : s.Begins fn p 0x0603) (hr : s.beginRefusal (issuer fn p) p = none) :
    exec (.keyRotate fn p) s = .next (s.begun.later (.cmd fn p)) := congrArg Host.Outcome.next (State.cmdRow_later h (by decide) (by decide) hr)

theorem refused_keyRotate {s : State} {fn : Nat} {p : Packet} {st : Status} {d : Nat} (h : s.Begins fn p 0x0603)
    (hr : s.beginRefusal (issuer fn p) p = some (st, d)) : exec (.keyRotate fn p) s = .next (s.begun.answer (issuer fn p) st d) :=
  congrArg Host.Outcome.next (State.cmdRow_refused h (by decide) (by decide) hr)

theorem begins_bindWeights {s : State} {fn : Nat} {p : Packet} (h : s.Begins fn p 0x0604) (hr : s.beginRefusal (issuer fn p) p = none) :
    exec (.bindWeights fn p) s = .next (s.begun.later (.cmd fn p)) := congrArg Host.Outcome.next (State.cmdRow_later h (by decide) (by decide) hr)

theorem refused_bindWeights {s : State} {fn : Nat} {p : Packet} {st : Status} {d : Nat} (h : s.Begins fn p 0x0604)
    (hr : s.beginRefusal (issuer fn p) p = some (st, d)) : exec (.bindWeights fn p) s = .next (s.begun.answer (issuer fn p) st d) :=
  congrArg Host.Outcome.next (State.cmdRow_refused h (by decide) (by decide) hr)

theorem begins_contractLoad {s : State} {fn : Nat} {p : Packet} (h : s.Begins fn p 0x0701) (hr : s.beginRefusal (issuer fn p) p = none) :
    exec (.contractLoad fn p) s = .next (s.begun.later (.cmd fn p)) := congrArg Host.Outcome.next (State.cmdRow_later h (by decide) (by decide) hr)

theorem refused_contractLoad {s : State} {fn : Nat} {p : Packet} {st : Status} {d : Nat} (h : s.Begins fn p 0x0701)
    (hr : s.beginRefusal (issuer fn p) p = some (st, d)) : exec (.contractLoad fn p) s = .next (s.begun.answer (issuer fn p) st d) :=
  congrArg Host.Outcome.next (State.cmdRow_refused h (by decide) (by decide) hr)

theorem begins_powerRead {s : State} {fn : Nat} {p : Packet} (h : s.Begins fn p 0x0702) (hr : s.beginRefusal (issuer fn p) p = none) :
    exec (.powerRead fn p) s = .next (s.begun.later (.cmd fn p)) := congrArg Host.Outcome.next (State.cmdRow_later h (by decide) (by decide) hr)

theorem refused_powerRead {s : State} {fn : Nat} {p : Packet} {st : Status} {d : Nat} (h : s.Begins fn p 0x0702)
    (hr : s.beginRefusal (issuer fn p) p = some (st, d)) : exec (.powerRead fn p) s = .next (s.begun.answer (issuer fn p) st d) :=
  congrArg Host.Outcome.next (State.cmdRow_refused h (by decide) (by decide) hr)

theorem begins_faultRead {s : State} {fn : Nat} {p : Packet} (h : s.Begins fn p 0x0801) (hr : s.beginRefusal (issuer fn p) p = none) :
    exec (.faultRead fn p) s = .next (s.begun.later (.cmd fn p)) := congrArg Host.Outcome.next (State.cmdRow_later h (by decide) (by decide) hr)

theorem refused_faultRead {s : State} {fn : Nat} {p : Packet} {st : Status} {d : Nat} (h : s.Begins fn p 0x0801)
    (hr : s.beginRefusal (issuer fn p) p = some (st, d)) : exec (.faultRead fn p) s = .next (s.begun.answer (issuer fn p) st d) :=
  congrArg Host.Outcome.next (State.cmdRow_refused h (by decide) (by decide) hr)

theorem begins_historyRead {s : State} {fn : Nat} {p : Packet} (h : s.Begins fn p 0x0802) (hr : s.beginRefusal (issuer fn p) p = none) :
    exec (.historyRead fn p) s = .next (s.begun.later (.cmd fn p)) := congrArg Host.Outcome.next (State.cmdRow_later h (by decide) (by decide) hr)

theorem refused_historyRead {s : State} {fn : Nat} {p : Packet} {st : Status} {d : Nat} (h : s.Begins fn p 0x0802)
    (hr : s.beginRefusal (issuer fn p) p = some (st, d)) : exec (.historyRead fn p) s = .next (s.begun.answer (issuer fn p) st d) :=
  congrArg Host.Outcome.next (State.cmdRow_refused h (by decide) (by decide) hr)

theorem begins_faultPinHold {s : State} {fn : Nat} {p : Packet} (h : s.Begins fn p 0x0803) (hr : s.beginRefusal (issuer fn p) p = none) :
    exec (.faultPinHold fn p) s = .next (s.begun.later (.cmd fn p)) := congrArg Host.Outcome.next (State.cmdRow_later h (by decide) (by decide) hr)

theorem refused_faultPinHold {s : State} {fn : Nat} {p : Packet} {st : Status} {d : Nat} (h : s.Begins fn p 0x0803)
    (hr : s.beginRefusal (issuer fn p) p = some (st, d)) : exec (.faultPinHold fn p) s = .next (s.begun.answer (issuer fn p) st d) :=
  congrArg Host.Outcome.next (State.cmdRow_refused h (by decide) (by decide) hr)

theorem begins_routeSet {s : State} {fn : Nat} {p : Packet} (h : s.Begins fn p 0x0901) (hr : s.beginRefusal (issuer fn p) p = none) :
    exec (.routeSet fn p) s = .next (s.begun.later (.cmd fn p)) := congrArg Host.Outcome.next (State.cmdRow_later h (by decide) (by decide) hr)

theorem refused_routeSet {s : State} {fn : Nat} {p : Packet} {st : Status} {d : Nat} (h : s.Begins fn p 0x0901)
    (hr : s.beginRefusal (issuer fn p) p = some (st, d)) : exec (.routeSet fn p) s = .next (s.begun.answer (issuer fn p) st d) :=
  congrArg Host.Outcome.next (State.cmdRow_refused h (by decide) (by decide) hr)

theorem begins_mcastGroupSet {s : State} {fn : Nat} {p : Packet} (h : s.Begins fn p 0x0902) (hr : s.beginRefusal (issuer fn p) p = none) :
    exec (.mcastGroupSet fn p) s = .next (s.begun.later (.cmd fn p)) := congrArg Host.Outcome.next (State.cmdRow_later h (by decide) (by decide) hr)

theorem refused_mcastGroupSet {s : State} {fn : Nat} {p : Packet} {st : Status} {d : Nat} (h : s.Begins fn p 0x0902)
    (hr : s.beginRefusal (issuer fn p) p = some (st, d)) : exec (.mcastGroupSet fn p) s = .next (s.begun.answer (issuer fn p) st d) :=
  congrArg Host.Outcome.next (State.cmdRow_refused h (by decide) (by decide) hr)

theorem begins_funcBind {s : State} {fn : Nat} {p : Packet} (h : s.Begins fn p 0x0903) (hr : s.beginRefusal (issuer fn p) p = none) :
    exec (.funcBind fn p) s = .next (s.begun.later (.cmd fn p)) := congrArg Host.Outcome.next (State.cmdRow_later h (by decide) (by decide) hr)

theorem refused_funcBind {s : State} {fn : Nat} {p : Packet} {st : Status} {d : Nat} (h : s.Begins fn p 0x0903)
    (hr : s.beginRefusal (issuer fn p) p = some (st, d)) : exec (.funcBind fn p) s = .next (s.begun.answer (issuer fn p) st d) :=
  congrArg Host.Outcome.next (State.cmdRow_refused h (by decide) (by decide) hr)

end Sys2Proof.Machine
end

