-- ==== Sys2Proof/Laws/FrameJobs.lean ====
section
/-! SUPPORT. The frame of every operation of Machine/Jobs.lean: which parts of the state it may change. -/

namespace Sys2Proof.Machine

variable {msk : Nat} {s0 : State}

theorem State.jobAnswer_frame {s : State} {agent jobid : Nat} {w : Option Issuer × Option Nat} {st : Status} {detail r0 r1 : Nat} (hM : Sub 43264 msk) (hF : Frame msk s0 s) : Frame msk s0 (State.jobAnswer s agent jobid w st detail r0 r1) := by
  have b43008 : Sub 43008 msk := Sub.trans (b := 43264) rfl hM
  have b43264 : Sub 43264 msk := Sub.trans (b := 43264) rfl hM
  unfold State.jobAnswer
  with_reducible repeat' (first | assumption | apply State.answerR16_frame b43264 | apply State.sendHeld_frame b43008 | split | refine frame_fst ?_ (by assumption) | refine frame_snd ?_ (by assumption))

theorem State.jobRefuse_frame {s : State} {agent jobid : Nat} {w : Option Issuer × Option Nat} {st : Status} {detail : Nat} (hM : Sub 10496 msk) (hF : Frame msk s0 s) : Frame msk s0 (State.jobRefuse s agent jobid w st detail) := by
  have b10240 : Sub 10240 msk := Sub.trans (b := 10496) rfl hM
  have b10496 : Sub 10496 msk := Sub.trans (b := 10496) rfl hM
  unfold State.jobRefuse
  with_reducible repeat' (first | assumption | apply State.answer_frame b10496 | apply State.sendPkt_frame b10240 | split | refine frame_fst ?_ (by assumption) | refine frame_snd ?_ (by assumption))

theorem State.leaveFaults_frame {s : State} {agent jobid : Nat} (hM : Sub 8 msk) (hF : Frame msk s0 s) : Frame msk s0 (State.leaveFaults s agent jobid) := by
  have b8 : Sub 8 msk := Sub.trans (b := 8) rfl hM
  unfold State.leaveFaults
  with_reducible repeat' (first | assumption | apply State.onXlt_frame b8)

theorem State.freeStage_frame {s : State} {o : OutAcc} (hM : Sub 32 msk) (hF : Frame msk s0 s) : Frame msk s0 (State.freeStage s o) := by
  have b32 : Sub 32 msk := Sub.trans (b := 32) rfl hM
  unfold State.freeStage
  with_reducible repeat' (first | assumption | apply State.onOpu_frame b32 | split)

theorem State.freeStore_frame {s : State} {key : Nat} {r : StepRun} (hM : Sub 32 msk) (hF : Frame msk s0 s) : Frame msk s0 (State.freeStore s key r) := by
  have b32 : Sub 32 msk := Sub.trans (b := 32) rfl hM
  unfold State.freeStore
  with_reducible repeat' (first | assumption | apply State.onOpu_frame b32 | refine foldl_frame ?_ ?_ | refine foldl_fst_frame ?_ ?_ | refine foldl_snd_frame ?_ ?_ | intro _ _ _ | intro _ _)

theorem State.unloadCheck_frame {s : State} {m : Nat} (hM : Sub 43296 msk) (hF : Frame msk s0 s) : Frame msk s0 (State.unloadCheck s m) := by
  have b32 : Sub 32 msk := Sub.trans (b := 43296) rfl hM
  have b43264 : Sub 43264 msk := Sub.trans (b := 43296) rfl hM
  unfold State.unloadCheck
  with_reducible repeat' (first | assumption | apply State.onOpu_frame b32 | apply State.answerR16_frame b43264 | split | extract_lets | refine frame_fst ?_ (by assumption) | refine frame_snd ?_ (by assumption))

theorem State.jobRecord_frame {s : State} {j : Job} (hM : Sub 16 msk) (hF : Frame msk s0 s) : Frame msk s0 (State.jobRecord s j) := by
  have b16 : Sub 16 msk := Sub.trans (b := 16) rfl hM
  unfold State.jobRecord
  with_reducible repeat' (first | assumption | apply State.onEng_frame b16 | extract_lets)

theorem State.syncCheck_frame {s : State} (hM : Sub 10504 msk) (hF : Frame msk s0 s) : Frame msk s0 (State.syncCheck s) := by
  have b8 : Sub 8 msk := Sub.trans (b := 10504) rfl hM
  have b256 : Sub 256 msk := Sub.trans (b := 10504) rfl hM
  have b10496 : Sub 10496 msk := Sub.trans (b := 10504) rfl hM
  unfold State.syncCheck
  with_reducible repeat' (first | assumption | apply State.onXlt_frame b8 | apply State.closeCmd_frame b256 | apply State.answer_frame b10496 | refine foldl_frame ?_ ?_ | refine foldl_fst_frame ?_ ?_ | refine foldl_snd_frame ?_ ?_ | intro _ _ _ | intro _ _ | split | extract_lets | refine frame_fst ?_ (by assumption) | refine frame_snd ?_ (by assumption))

theorem State.finishJob_frame {s : State} {agent jobid : Nat} (hM : Sub 2156856 msk) (hF : Frame msk s0 s) : Frame msk s0 (State.finishJob s agent jobid) := by
  have b16 : Sub 16 msk := Sub.trans (b := 2156856) rfl hM
  have b32 : Sub 32 msk := Sub.trans (b := 2156856) rfl hM
  have b10504 : Sub 10504 msk := Sub.trans (b := 2156856) rfl hM
  have b43264 : Sub 43264 msk := Sub.trans (b := 2156856) rfl hM
  have b43296 : Sub 43296 msk := Sub.trans (b := 2156856) rfl hM
  have b2124032 : Sub 2124032 msk := Sub.trans (b := 2156856) rfl hM
  unfold State.finishJob
  with_reducible repeat' (first | assumption | apply State.freeStage_frame b32 | apply State.freeStore_frame b32 | apply State.onEng_frame b16 | apply State.jobAnswer_frame b43264 | apply State.jobRecord_frame b16 | apply State.answerR16_frame b43264 | apply State.bump_frame b2124032 | apply State.unloadCheck_frame b43296 | apply State.syncCheck_frame b10504 | refine foldl_frame ?_ ?_ | refine foldl_fst_frame ?_ ?_ | refine foldl_snd_frame ?_ ?_ | intro _ _ _ | intro _ _ | split | extract_lets | refine frame_fst ?_ (by assumption) | refine frame_snd ?_ (by assumption))

theorem State.dropMeasures_frame {s : State} {w : Work} (hM : Sub 20 msk) (hF : Frame msk s0 s) : Frame msk s0 (State.dropMeasures s w) := by
  have b4 : Sub 4 msk := Sub.trans (b := 20) rfl hM
  have b16 : Sub 16 msk := Sub.trans (b := 20) rfl hM
  unfold State.dropMeasures
  with_reducible repeat' (first | assumption | apply State.onEng_frame b16 | apply State.dropParked_frame b4 | split | extract_lets | refine frame_fst ?_ (by assumption) | refine frame_snd ?_ (by assumption))

theorem State.stopJob_frame {s : State} {agent jobid : Nat} {st : Status} {detail : Nat} {silent : Bool} (hM : Sub 2156860 msk) (hF : Frame msk s0 s) : Frame msk s0 (State.stopJob s agent jobid st detail silent) := by
  have b8 : Sub 8 msk := Sub.trans (b := 2156860) rfl hM
  have b16 : Sub 16 msk := Sub.trans (b := 2156860) rfl hM
  have b20 : Sub 20 msk := Sub.trans (b := 2156860) rfl hM
  have b32 : Sub 32 msk := Sub.trans (b := 2156860) rfl hM
  have b32768 : Sub 32768 msk := Sub.trans (b := 2156860) rfl hM
  have b2156856 : Sub 2156856 msk := Sub.trans (b := 2156860) rfl hM
  unfold State.stopJob
  with_reducible repeat' (first | assumption | apply State.setJob_frame b16 | apply State.leaveFaults_frame b8 | apply State.dropMeasures_frame b20 | apply State.freeStage_frame b32 | apply State.change_frame b32768 | apply State.finishJob_frame b2156856 | refine foldl_frame ?_ ?_ | refine foldl_fst_frame ?_ ?_ | refine foldl_snd_frame ?_ ?_ | intro _ _ _ | intro _ _ | split | extract_lets | refine frame_fst ?_ (by assumption) | refine frame_snd ?_ (by assumption))

theorem State.stopJobs_frame {s : State} {p : Job → Bool} {st : Status} {detail : Nat} {silent : Bool} (hM : Sub 2156860 msk) (hF : Frame msk s0 s) : Frame msk s0 (State.stopJobs s p st detail silent) := by
  have b2156860 : Sub 2156860 msk := Sub.trans (b := 2156860) rfl hM
  unfold State.stopJobs
  with_reducible repeat' (first | assumption | apply State.stopJob_frame b2156860 | refine foldl_frame ?_ ?_ | refine foldl_fst_frame ?_ ?_ | refine foldl_snd_frame ?_ ?_ | intro _ _ _ | intro _ _)

end Sys2Proof.Machine
end

