-- ==== Sys2Proof/Laws/FrameRgnOps.lean ====
section
/-! SUPPORT. The frame of every operation of Machine/RgnOps.lean: which parts of the state it may change. -/

namespace Sys2Proof.Machine

variable {msk : Nat} {s0 : State}

theorem State.refuseParked_frame {s : State} {i : Nat} {p : PReq → Bool} {st : Status} (hM : Sub 2157332 msk) (hF : Frame msk s0 s) : Frame msk s0 (State.refuseParked s i p st) := by
  have b4 : Sub 4 msk := Sub.trans (b := 2157332) rfl hM
  have b2157332 : Sub 2157332 msk := Sub.trans (b := 2157332) rfl hM
  unfold State.refuseParked
  with_reducible repeat' (first | assumption | apply State.setEntry_frame b4 | apply State.refuse_frame b2157332 | refine foldl_frame ?_ ?_ | refine foldl_fst_frame ?_ ?_ | refine foldl_snd_frame ?_ ?_ | intro _ _ _ | intro _ _ | split | extract_lets | refine frame_fst ?_ (by assumption) | refine frame_snd ?_ (by assumption))

theorem State.revokeOn_frame {s : State} {idxs : List Nat} {agent : Nat} (hM : Sub 10547031 msk) (hF : Frame msk s0 s) : Frame msk s0 (State.revokeOn s idxs agent) := by
  have b2124564 : Sub 2124564 msk := Sub.trans (b := 10547031) rfl hM
  have b2157332 : Sub 2157332 msk := Sub.trans (b := 10547031) rfl hM
  have b10547031 : Sub 10547031 msk := Sub.trans (b := 10547031) rfl hM
  unfold State.revokeOn
  with_reducible repeat' (first | assumption | apply State.stopData_frame b2124564 | apply State.refuseParked_frame b2157332 | apply State.endGrant_frame b10547031 | refine foldl_frame ?_ ?_ | refine foldl_fst_frame ?_ ?_ | refine foldl_snd_frame ?_ ?_ | intro _ _ _ | intro _ _ | extract_lets)

theorem State.revokeAll_frame {s : State} {idxs agents : List Nat} (hM : Sub 10547031 msk) (hF : Frame msk s0 s) : Frame msk s0 (State.revokeAll s idxs agents) := by
  have b2157332 : Sub 2157332 msk := Sub.trans (b := 10547031) rfl hM
  have b10547031 : Sub 10547031 msk := Sub.trans (b := 10547031) rfl hM
  unfold State.revokeAll
  with_reducible repeat' (first | assumption | apply State.refuseParked_frame b2157332 | apply State.revokeOn_frame b10547031 | refine foldl_frame ?_ ?_ | refine foldl_fst_frame ?_ ?_ | refine foldl_snd_frame ?_ ?_ | intro _ _ _ | intro _ _ | extract_lets | dsimp -zeta only | dsimp -zeta +zetaDelta only)

theorem State.revokeBin_frame {s : State} {rid b : Nat} {agents : List Nat} (hM : Sub 10547031 msk) (hF : Frame msk s0 s) : Frame msk s0 (State.revokeBin s rid b agents) := by
  have b2 : Sub 2 msk := Sub.trans (b := 10547031) rfl hM
  have b32768 : Sub 32768 msk := Sub.trans (b := 10547031) rfl hM
  have b10547031 : Sub 10547031 msk := Sub.trans (b := 10547031) rfl hM
  unfold State.revokeBin
  with_reducible repeat' (first | assumption | apply State.setRegion_frame b2 | apply State.change_frame b32768 | apply State.revokeAll_frame b10547031 | extract_lets)

theorem State.startScrub_frame {s : State} {sc : Scrub} {segs : List Seg} (hM : Sub 18 msk) (hF : Frame msk s0 s) : Frame msk s0 (State.startScrub s sc segs) := by
  have b2 : Sub 2 msk := Sub.trans (b := 18) rfl hM
  have b16 : Sub 16 msk := Sub.trans (b := 18) rfl hM
  unfold State.startScrub
  with_reducible repeat' (first | assumption | apply State.onRgn_frame b2 | apply State.addAct_frame b16 | extract_lets)

theorem State.dropScrub_frame {s : State} {id : Nat} (hM : Sub 18 msk) (hF : Frame msk s0 s) : Frame msk s0 (State.dropScrub s id) := by
  have b2 : Sub 2 msk := Sub.trans (b := 18) rfl hM
  have b16 : Sub 16 msk := Sub.trans (b := 18) rfl hM
  unfold State.dropScrub
  with_reducible repeat' (first | assumption | apply State.dropAct_frame b16 | apply State.onRgn_frame b2)

theorem State.startDestroyScrub_frame {s : State} {rid : Nat} (hM : Sub 18 msk) (hF : Frame msk s0 s) : Frame msk s0 (State.startDestroyScrub s rid) := by
  have b18 : Sub 18 msk := Sub.trans (b := 18) rfl hM
  unfold State.startDestroyScrub
  with_reducible repeat' (first | assumption | apply State.startScrub_frame b18 | split | extract_lets)

theorem State.freeRegion_frame {s : State} {rid : Nat} (hM : Sub 32902 msk) (hF : Frame msk s0 s) : Frame msk s0 (State.freeRegion s rid) := by
  have b2 : Sub 2 msk := Sub.trans (b := 32902) rfl hM
  have b4 : Sub 4 msk := Sub.trans (b := 32902) rfl hM
  have b128 : Sub 128 msk := Sub.trans (b := 32902) rfl hM
  have b32768 : Sub 32768 msk := Sub.trans (b := 32902) rfl hM
  unfold State.freeRegion
  with_reducible repeat' (first | assumption | apply State.onDir_frame b4 | apply State.onSec_frame b128 | apply State.onRgn_frame b2 | apply State.change_frame b32768 | split | extract_lets)

theorem State.dropAccess_frame {s : State} {rid : Nat} {agents : List Nat} (hM : Sub 32770 msk) (hF : Frame msk s0 s) : Frame msk s0 (State.dropAccess s rid agents) := by
  have b2 : Sub 2 msk := Sub.trans (b := 32770) rfl hM
  have b32768 : Sub 32768 msk := Sub.trans (b := 32770) rfl hM
  unfold State.dropAccess
  with_reducible repeat' (first | assumption | apply State.setRegion_frame b2 | apply State.change_frame b32768 | refine foldl_frame ?_ ?_ | refine foldl_fst_frame ?_ ?_ | refine foldl_snd_frame ?_ ?_ | intro _ _ _ | intro _ _ | dsimp -zeta only | dsimp -zeta +zetaDelta only)

theorem State.stopRegionWork_frame {s : State} {rid : Nat} {st : Status} (hM : Sub 2158356 msk) (hF : Frame msk s0 s) : Frame msk s0 (State.stopRegionWork s rid st) := by
  have b4 : Sub 4 msk := Sub.trans (b := 2158356) rfl hM
  have b16 : Sub 16 msk := Sub.trans (b := 2158356) rfl hM
  have b2124564 : Sub 2124564 msk := Sub.trans (b := 2158356) rfl hM
  have b2157332 : Sub 2157332 msk := Sub.trans (b := 2158356) rfl hM
  have b2158356 : Sub 2158356 msk := Sub.trans (b := 2158356) rfl hM
  unfold State.stopRegionWork
  with_reducible repeat' (first | assumption | apply State.stopData_frame b2124564 | apply State.refuseParked_frame b2157332 | apply State.stopWb_frame b2158356 | apply State.refuse_frame b2157332 | apply State.dropAct_frame b16 | apply State.setEntry_frame b4 | refine foldl_frame ?_ ?_ | refine foldl_fst_frame ?_ ?_ | refine foldl_snd_frame ?_ ?_ | intro _ _ _ | intro _ _ | split | extract_lets | dsimp -zeta only | dsimp -zeta +zetaDelta only | refine frame_fst ?_ (by assumption) | refine frame_snd ?_ (by assumption))

theorem State.enterHome_frame {s : State} {rid : Nat} {idxs : List Nat} (hM : Sub 4 msk) (hF : Frame msk s0 s) : Frame msk s0 (State.enterHome s rid idxs) := by
  have b4 : Sub 4 msk := Sub.trans (b := 4) rfl hM
  unfold State.enterHome
  with_reducible repeat' (first | assumption | apply State.setEntry_frame b4 | refine foldl_frame ?_ ?_ | refine foldl_fst_frame ?_ ?_ | refine foldl_snd_frame ?_ ?_ | intro _ _ _ | intro _ _ | split | extract_lets)

theorem State.scrubDone_frame {s : State} {id : Nat} (hM : Sub 43286 msk) (hF : Frame msk s0 s) : Frame msk s0 (State.scrubDone s id) := by
  have b2 : Sub 2 msk := Sub.trans (b := 43286) rfl hM
  have b4 : Sub 4 msk := Sub.trans (b := 43286) rfl hM
  have b18 : Sub 18 msk := Sub.trans (b := 43286) rfl hM
  have b32768 : Sub 32768 msk := Sub.trans (b := 43286) rfl hM
  have b43264 : Sub 43264 msk := Sub.trans (b := 43286) rfl hM
  unfold State.scrubDone
  with_reducible repeat' (first | assumption | apply State.dropScrub_frame b18 | apply State.change_frame b32768 | apply State.setRegion_frame b2 | apply State.enterHome_frame b4 | apply State.answerR16_frame b43264 | split | extract_lets | refine frame_fst ?_ (by assumption) | refine frame_snd ?_ (by assumption))

theorem State.drainDone_frame {s : State} {rid : Nat} (hM : Sub 43414 msk) (hF : Frame msk s0 s) : Frame msk s0 (State.drainDone s rid) := by
  have b18 : Sub 18 msk := Sub.trans (b := 43414) rfl hM
  have b32902 : Sub 32902 msk := Sub.trans (b := 43414) rfl hM
  have b43264 : Sub 43264 msk := Sub.trans (b := 43414) rfl hM
  unfold State.drainDone
  with_reducible repeat' (first | assumption | apply State.startDestroyScrub_frame b18 | apply State.dropScrub_frame b18 | apply State.freeRegion_frame b32902 | apply State.answerR16_frame b43264 | split | extract_lets | refine frame_fst ?_ (by assumption) | refine frame_snd ?_ (by assumption))

theorem State.onTarget_frame {s : State} {i : Issuer} {p : Packet} {f : Nat → Region → State} (hM : Sub 10496 msk) (hf : ∀ (x0 : Nat) (x1 : Region), Frame msk s0 (f x0 x1)) (hF : Frame msk s0 s) : Frame msk s0 (State.onTarget s i p f) := by
  have b10496 : Sub 10496 msk := Sub.trans (b := 10496) rfl hM
  unfold State.onTarget
  with_reducible repeat' (first | assumption | apply hf | apply State.malformed_frame b10496 | apply State.denied_frame b10496 | intro _ _ _ | intro _ _ | split | extract_lets)

theorem State.newIncarn_frame {s : State} {rid : Nat} (hM : Sub 10 msk) (hF : Frame msk s0 s) : Frame msk s0 (State.newIncarn s rid) := by
  have b2 : Sub 2 msk := Sub.trans (b := 10) rfl hM
  have b8 : Sub 8 msk := Sub.trans (b := 10) rfl hM
  unfold State.newIncarn
  with_reducible repeat' (first | assumption | apply State.onRgn_frame b2 | apply State.onXlt_frame b8 | split | extract_lets)

theorem State.doRegionCreate_frame {msk : Nat} {s0 s : State} {i : Issuer} {p : Packet} (hM : Sub 8431898 msk)
    (hF : Frame msk s0 s) : Frame msk s0 (s.doRegionCreate i p) := by
  have b2 : Sub 2 msk := Sub.trans (b := 8431898) rfl hM
  have b10496 : Sub 10496 msk := Sub.trans (b := 8431898) rfl hM
  have b43264 : Sub 43264 msk := Sub.trans (b := 8431898) rfl hM
  have b18 : Sub 18 msk := Sub.trans (b := 8431898) rfl hM
  have hx : ∀ s sc z, Frame msk s0 s → Frame msk s0 (s.startScrub sc z) := fun _ _ _ h => State.startScrub_frame b18 h
  unfold State.doRegionCreate
  split
  · exact State.malformed_frame b10496 hF
  · extract_lets g data need rid
    clear_value rid need g data
    split
    · exact State.denied_frame b10496 hF
    · split
      · exact State.malformed_frame b10496 hF
      · split
        · exact State.busy_frame b10496 hF
        · split
          · exact State.answer_frame b10496 hF
          · split
            · exact State.answer_frame b10496 hF
            · split
              · exact State.answer_frame b10496 hF
              · split
                · exact State.answer_frame b10496 hF
                · next h => exact State.answerR16_frame b43264 (hx _ _ _ (State.newIncarn_frame (Sub.trans (b := 8431898) rfl hM) (State.allocate_frame (Sub.trans (b := 8431898) rfl hM) h (State.setRegion_frame b2 hF))))

theorem State.doBinAdd_frame {s : State} {i : Issuer} {p : Packet} (hM : Sub 8431890 msk) (hF : Frame msk s0 s) : Frame msk s0 (State.doBinAdd s i p) := by
  have b18 : Sub 18 msk := Sub.trans (b := 8431890) rfl hM
  have b10496 : Sub 10496 msk := Sub.trans (b := 8431890) rfl hM
  have b43264 : Sub 43264 msk := Sub.trans (b := 8431890) rfl hM
  have b8388610 : Sub 8388610 msk := Sub.trans (b := 8431890) rfl hM
  unfold State.doBinAdd
  with_reducible repeat' (first | assumption | apply State.onTarget_frame b10496 | apply State.malformed_frame b10496 | apply State.busy_frame b10496 | apply State.answer_frame b10496 | refine State.allocate_frame b8388610 (by assumption) ?_ | apply State.startScrub_frame b18 | apply State.answerR16_frame b43264 | intro _ _ _ | intro _ _ | split | extract_lets | refine frame_fst ?_ (by assumption) | refine frame_snd ?_ (by assumption))

theorem State.discardDraft_frame {s : State} {i : Nat} (hM : Sub 10547031 msk) (hF : Frame msk s0 s) : Frame msk s0 (State.discardDraft s i) := by
  have b4 : Sub 4 msk := Sub.trans (b := 10547031) rfl hM
  have b16 : Sub 16 msk := Sub.trans (b := 10547031) rfl hM
  have b10547031 : Sub 10547031 msk := Sub.trans (b := 10547031) rfl hM
  unfold State.discardDraft
  with_reducible repeat' (first | assumption | apply State.dropAct_frame b16 | apply State.setEntry_frame b4 | apply State.reopen_frame b10547031 | extract_lets | dsimp -zeta only | dsimp -zeta +zetaDelta only)

theorem State.removeBin_frame {s : State} {rid b : Nat} (hM : Sub 10547031 msk) (hF : Frame msk s0 s) : Frame msk s0 (State.removeBin s rid b) := by
  have b2 : Sub 2 msk := Sub.trans (b := 10547031) rfl hM
  have b4 : Sub 4 msk := Sub.trans (b := 10547031) rfl hM
  have b6 : Sub 6 msk := Sub.trans (b := 10547031) rfl hM
  have b16 : Sub 16 msk := Sub.trans (b := 10547031) rfl hM
  have b18 : Sub 18 msk := Sub.trans (b := 10547031) rfl hM
  have b10547031 : Sub 10547031 msk := Sub.trans (b := 10547031) rfl hM
  unfold State.removeBin
  with_reducible repeat' (first | assumption | apply State.discardDraft_frame b10547031 | apply State.revokeAll_frame b10547031 | apply State.dropAct_frame b16 | apply State.giveBack_frame b6 | apply State.setEntry_frame b4 | apply State.setRegion_frame b2 | apply State.startScrub_frame b18 | refine foldl_frame ?_ ?_ | refine foldl_fst_frame ?_ ?_ | refine foldl_snd_frame ?_ ?_ | intro _ _ _ | intro _ _ | split | extract_lets | dsimp -zeta only | dsimp -zeta +zetaDelta only | refine frame_fst ?_ (by assumption) | refine frame_snd ?_ (by assumption))

theorem State.endRevoke_frame {s : State} {w : Revoke} (hM : Sub 10547031 msk) (hF : Frame msk s0 s) : Frame msk s0 (State.endRevoke s w) := by
  have b32770 : Sub 32770 msk := Sub.trans (b := 10547031) rfl hM
  have b43264 : Sub 43264 msk := Sub.trans (b := 10547031) rfl hM
  have b10547031 : Sub 10547031 msk := Sub.trans (b := 10547031) rfl hM
  unfold State.endRevoke
  with_reducible repeat' (first | assumption | apply State.removeBin_frame b10547031 | apply State.dropAccess_frame b32770 | apply State.answerR16_frame b43264 | split | extract_lets | dsimp -zeta only | dsimp -zeta +zetaDelta only | refine frame_fst ?_ (by assumption) | refine frame_snd ?_ (by assumption))

theorem State.settleRevoke_frame {s : State} {w : Revoke} (hM : Sub 10547031 msk) (hF : Frame msk s0 s) : Frame msk s0 (State.settleRevoke s w) := by
  have b2 : Sub 2 msk := Sub.trans (b := 10547031) rfl hM
  have b10547031 : Sub 10547031 msk := Sub.trans (b := 10547031) rfl hM
  unfold State.settleRevoke
  with_reducible repeat' (first | assumption | apply State.onRgn_frame b2 | apply State.endRevoke_frame b10547031 | split | dsimp -zeta only | dsimp -zeta +zetaDelta only)

theorem State.revokesTick_frame {s : State} (hM : Sub 10547031 msk) (hF : Frame msk s0 s) : Frame msk s0 (State.revokesTick s) := by
  have b2 : Sub 2 msk := Sub.trans (b := 10547031) rfl hM
  have b10547031 : Sub 10547031 msk := Sub.trans (b := 10547031) rfl hM
  unfold State.revokesTick
  with_reducible repeat' (first | assumption | apply State.settleRevoke_frame b10547031 | apply State.onRgn_frame b2 | refine foldl_frame ?_ ?_ | refine foldl_fst_frame ?_ ?_ | refine foldl_snd_frame ?_ ?_ | intro _ _ _ | intro _ _ | dsimp -zeta only | dsimp -zeta +zetaDelta only)

theorem State.doBinRevoke_frame {s : State} {i : Issuer} {p : Packet} (hM : Sub 10547031 msk) (hF : Frame msk s0 s) : Frame msk s0 (State.doBinRevoke s i p) := by
  have b10496 : Sub 10496 msk := Sub.trans (b := 10547031) rfl hM
  have b10547031 : Sub 10547031 msk := Sub.trans (b := 10547031) rfl hM
  unfold State.doBinRevoke
  with_reducible repeat' (first | assumption | apply State.onTarget_frame b10496 | apply State.malformed_frame b10496 | apply State.busy_frame b10496 | apply State.revokeBin_frame b10547031 | apply State.settleRevoke_frame b10547031 | intro _ _ _ | intro _ _ | split | extract_lets | dsimp -zeta only | dsimp -zeta +zetaDelta only)

theorem State.narrow_frame {s : State} {rid agent : Nat} {x : Acc} (hM : Sub 10547031 msk) (hF : Frame msk s0 s) : Frame msk s0 (State.narrow s rid agent x) := by
  have b2157332 : Sub 2157332 msk := Sub.trans (b := 10547031) rfl hM
  have b10547031 : Sub 10547031 msk := Sub.trans (b := 10547031) rfl hM
  unfold State.narrow
  with_reducible repeat' (first | assumption | apply State.refuseParked_frame b2157332 | apply State.revokeOn_frame b10547031 | refine foldl_frame ?_ ?_ | refine foldl_fst_frame ?_ ?_ | refine foldl_snd_frame ?_ ?_ | intro _ _ _ | intro _ _ | split | extract_lets)

theorem State.doRegionAttach_frame {s : State} {i : Issuer} {p : Packet} (hM : Sub 10547031 msk) (hF : Frame msk s0 s) : Frame msk s0 (State.doRegionAttach s i p) := by
  have b2 : Sub 2 msk := Sub.trans (b := 10547031) rfl hM
  have b10496 : Sub 10496 msk := Sub.trans (b := 10547031) rfl hM
  have b32768 : Sub 32768 msk := Sub.trans (b := 10547031) rfl hM
  have b43264 : Sub 43264 msk := Sub.trans (b := 10547031) rfl hM
  have b10547031 : Sub 10547031 msk := Sub.trans (b := 10547031) rfl hM
  unfold State.doRegionAttach
  with_reducible repeat' (first | assumption | apply State.onTarget_frame b10496 | apply State.malformed_frame b10496 | apply State.denied_frame b10496 | apply State.busy_frame b10496 | apply State.setRegion_frame b2 | apply State.change_frame b32768 | apply State.narrow_frame b10547031 | apply State.answerR16_frame b43264 | intro _ _ _ | intro _ _ | split | extract_lets | dsimp -zeta only | dsimp -zeta +zetaDelta only)

theorem State.revokeRegion_frame {s : State} {rid a : Nat} (hM : Sub 10547031 msk) (hF : Frame msk s0 s) : Frame msk s0 (State.revokeRegion s rid a) := by
  have b2 : Sub 2 msk := Sub.trans (b := 10547031) rfl hM
  have b32768 : Sub 32768 msk := Sub.trans (b := 10547031) rfl hM
  have b10547031 : Sub 10547031 msk := Sub.trans (b := 10547031) rfl hM
  unfold State.revokeRegion
  with_reducible repeat' (first | assumption | apply State.setRegion_frame b2 | apply State.change_frame b32768 | apply State.revokeOn_frame b10547031 | extract_lets | dsimp -zeta only | dsimp -zeta +zetaDelta only)

theorem State.detach_frame {s : State} {rid a : Nat} (hM : Sub 10547031 msk) (hF : Frame msk s0 s) : Frame msk s0 (State.detach s rid a) := by
  have b32770 : Sub 32770 msk := Sub.trans (b := 10547031) rfl hM
  have b10547031 : Sub 10547031 msk := Sub.trans (b := 10547031) rfl hM
  unfold State.detach
  with_reducible repeat' (first | assumption | apply State.revokeOn_frame b10547031 | apply State.dropAccess_frame b32770)

theorem State.doRegionDetach_frame {s : State} {i : Issuer} {p : Packet} (hM : Sub 10547031 msk) (hF : Frame msk s0 s) : Frame msk s0 (State.doRegionDetach s i p) := by
  have b10496 : Sub 10496 msk := Sub.trans (b := 10547031) rfl hM
  have b10547031 : Sub 10547031 msk := Sub.trans (b := 10547031) rfl hM
  unfold State.doRegionDetach
  with_reducible repeat' (first | assumption | apply State.onTarget_frame b10496 | apply State.malformed_frame b10496 | apply State.busy_frame b10496 | apply State.revokeRegion_frame b10547031 | apply State.settleRevoke_frame b10547031 | intro _ _ _ | intro _ _ | split | extract_lets)

theorem State.rackOver_frame {s : State} {rid : Nat} {free : Bool} (hM : Sub 2 msk) (hF : Frame msk s0 s) : Frame msk s0 (State.rackOver s rid free) := by
  have b2 : Sub 2 msk := Sub.trans (b := 2) rfl hM
  unfold State.rackOver
  with_reducible repeat' (first | assumption | apply State.setRegion_frame b2 | split | dsimp -zeta only | dsimp -zeta +zetaDelta only | refine frame_fst ?_ (by assumption) | refine frame_snd ?_ (by assumption))

theorem State.stopRack_frame {s : State} {rid : Nat} {st : Status} {detail : Nat} {silent free : Bool} (hM : Sub 2156862 msk) (hF : Frame msk s0 s) : Frame msk s0 (State.stopRack s rid st detail silent free) := by
  have b2 : Sub 2 msk := Sub.trans (b := 2156862) rfl hM
  have b16 : Sub 16 msk := Sub.trans (b := 2156862) rfl hM
  have b2156860 : Sub 2156860 msk := Sub.trans (b := 2156862) rfl hM
  unfold State.stopRack
  with_reducible repeat' (first | assumption | apply State.dropAct_frame b16 | apply State.setRegion_frame b2 | apply State.rackOver_frame b2 | apply State.stopJob_frame b2156860 | split | extract_lets | refine frame_fst ?_ (by assumption) | refine frame_snd ?_ (by assumption))

theorem State.rackEnd_frame {s : State} {rid : Nat} (hM : Sub 2156858 msk) (hF : Frame msk s0 s) : Frame msk s0 (State.rackEnd s rid) := by
  have b2 : Sub 2 msk := Sub.trans (b := 2156858) rfl hM
  have b32768 : Sub 32768 msk := Sub.trans (b := 2156858) rfl hM
  have b2156856 : Sub 2156856 msk := Sub.trans (b := 2156858) rfl hM
  unfold State.rackEnd
  with_reducible repeat' (first | assumption | apply State.rackOver_frame b2 | apply State.change_frame b32768 | apply State.finishJob_frame b2156856 | split | extract_lets | dsimp -zeta only | dsimp -zeta +zetaDelta only | refine frame_fst ?_ (by assumption) | refine frame_snd ?_ (by assumption))

theorem State.doRegionDestroy_frame {s : State} {i : Issuer} {p : Packet} (hM : Sub 10547071 msk) (hF : Frame msk s0 s) : Frame msk s0 (State.doRegionDestroy s i p) := by
  have b2 : Sub 2 msk := Sub.trans (b := 10547071) rfl hM
  have b18 : Sub 18 msk := Sub.trans (b := 10547071) rfl hM
  have b10496 : Sub 10496 msk := Sub.trans (b := 10547071) rfl hM
  have b32768 : Sub 32768 msk := Sub.trans (b := 10547071) rfl hM
  have b43264 : Sub 43264 msk := Sub.trans (b := 10547071) rfl hM
  have b2156862 : Sub 2156862 msk := Sub.trans (b := 10547071) rfl hM
  have b2158356 : Sub 2158356 msk := Sub.trans (b := 10547071) rfl hM
  have b10547031 : Sub 10547031 msk := Sub.trans (b := 10547071) rfl hM
  unfold State.doRegionDestroy
  with_reducible repeat' (first | assumption | apply State.onTarget_frame b10496 | apply State.busy_frame b10496 | apply State.stopRack_frame b2156862 | apply State.revokeAll_frame b10547031 | apply State.stopRegionWork_frame b2158356 | apply State.answerR16_frame b43264 | apply State.dropScrub_frame b18 | apply State.setRegion_frame b2 | apply State.change_frame b32768 | apply State.startDestroyScrub_frame b18 | refine foldl_frame ?_ ?_ | refine foldl_fst_frame ?_ ?_ | refine foldl_snd_frame ?_ ?_ | intro _ _ _ | intro _ _ | split | extract_lets | refine frame_fst ?_ (by assumption) | refine frame_snd ?_ (by assumption))

theorem State.doRegionInfo_frame {s : State} {i : Issuer} {p : Packet} (hM : Sub 10496 msk) (hF : Frame msk s0 s) : Frame msk s0 (State.doRegionInfo s i p) := by
  have b10496 : Sub 10496 msk := Sub.trans (b := 10496) rfl hM
  unfold State.doRegionInfo
  with_reducible repeat' (first | assumption | apply State.onTarget_frame b10496 | apply State.malformed_frame b10496 | apply State.answer_frame b10496 | intro _ _ _ | intro _ _ | split | extract_lets)

theorem State.pubInval_frame {s : State} {rid : Nat} (hM : Sub 2157316 msk) (hF : Frame msk s0 s) : Frame msk s0 (State.pubInval s rid) := by
  have b2157316 : Sub 2157316 msk := Sub.trans (b := 2157316) rfl hM
  unfold State.pubInval
  with_reducible repeat' (first | assumption | apply State.startInval_frame b2157316 | refine foldl_frame ?_ ?_ | refine foldl_fst_frame ?_ ?_ | refine foldl_snd_frame ?_ ?_ | intro _ _ _ | intro _ _ | split | extract_lets | dsimp -zeta only | dsimp -zeta +zetaDelta only)

theorem State.pubCollect_frame {s : State} {rid : Nat} (hM : Sub 2157318 msk) (hF : Frame msk s0 s) : Frame msk s0 (State.pubCollect s rid) := by
  have b2 : Sub 2 msk := Sub.trans (b := 2157318) rfl hM
  have b2157316 : Sub 2157316 msk := Sub.trans (b := 2157318) rfl hM
  unfold State.pubCollect
  with_reducible repeat' (first | assumption | apply State.setRegion_frame b2 | apply State.pubInval_frame b2157316)

theorem State.pubProceed_frame {s : State} {rid : Nat} (hM : Sub 2157318 msk) (hF : Frame msk s0 s) : Frame msk s0 (State.pubProceed s rid) := by
  have b2157316 : Sub 2157316 msk := Sub.trans (b := 2157318) rfl hM
  have b2157318 : Sub 2157318 msk := Sub.trans (b := 2157318) rfl hM
  unfold State.pubProceed
  with_reducible repeat' (first | assumption | apply State.pubInval_frame b2157316 | apply State.pubCollect_frame b2157318 | split | refine frame_fst ?_ (by assumption) | refine frame_snd ?_ (by assumption))

theorem State.answerVintage_frame {s : State} {i : Issuer} {st : Status} {v : Nat} (hM : Sub 10496 msk) (hF : Frame msk s0 s) : Frame msk s0 (State.answerVintage s i st v) := by
  have b10496 : Sub 10496 msk := Sub.trans (b := 10496) rfl hM
  unfold State.answerVintage
  with_reducible repeat' (first | assumption | apply State.answer_frame b10496)

theorem State.doPublish_frame {s : State} {i : Issuer} {p : Packet} (hM : Sub 2157318 msk) (hF : Frame msk s0 s) : Frame msk s0 (State.doPublish s i p) := by
  have b2 : Sub 2 msk := Sub.trans (b := 2157318) rfl hM
  have b256 : Sub 256 msk := Sub.trans (b := 2157318) rfl hM
  have b10496 : Sub 10496 msk := Sub.trans (b := 2157318) rfl hM
  have b32768 : Sub 32768 msk := Sub.trans (b := 2157318) rfl hM
  have b2157316 : Sub 2157316 msk := Sub.trans (b := 2157318) rfl hM
  have b2157318 : Sub 2157318 msk := Sub.trans (b := 2157318) rfl hM
  unfold State.doPublish
  with_reducible repeat' (first | assumption | apply State.onTarget_frame b10496 | apply State.malformed_frame b10496 | apply State.answer_frame b10496 | apply State.busy_frame b10496 | apply State.answerVintage_frame b10496 | apply State.openCmd_frame b256 | apply State.setRegion_frame b2 | apply State.change_frame b32768 | apply State.pubCollect_frame b2157318 | apply State.startRecall_frame b2157316 | refine foldl_frame ?_ ?_ | refine foldl_fst_frame ?_ ?_ | refine foldl_snd_frame ?_ ?_ | intro _ _ _ | intro _ _ | split | extract_lets | refine frame_fst ?_ (by assumption) | refine frame_snd ?_ (by assumption))

theorem State.pubSwitch_frame {s : State} {rid home : Nat} {publisher : Option Nat} (hM : Sub 10547031 msk) (hF : Frame msk s0 s) : Frame msk s0 (State.pubSwitch s rid home publisher) := by
  have b2 : Sub 2 msk := Sub.trans (b := 10547031) rfl hM
  have b4 : Sub 4 msk := Sub.trans (b := 10547031) rfl hM
  have b32788 : Sub 32788 msk := Sub.trans (b := 10547031) rfl hM
  have b8388610 : Sub 8388610 msk := Sub.trans (b := 10547031) rfl hM
  have b10547031 : Sub 10547031 msk := Sub.trans (b := 10547031) rfl hM
  unfold State.pubSwitch
  with_reducible repeat' (first | assumption | apply State.setRegion_frame b2 | apply State.setEntry_frame b4 | refine State.takeCow_frame b8388610 (by assumption) ?_ | apply State.endGrant_frame b10547031 | apply State.startCow_frame b32788 | split | extract_lets | refine frame_fst ?_ (by assumption) | refine frame_snd ?_ (by assumption))

theorem State.publishSwitch_frame {s : State} {rid : Nat} (hM : Sub 10547031 msk) (hF : Frame msk s0 s) : Frame msk s0 (State.publishSwitch s rid) := by
  have b2 : Sub 2 msk := Sub.trans (b := 10547031) rfl hM
  have b256 : Sub 256 msk := Sub.trans (b := 10547031) rfl hM
  have b32768 : Sub 32768 msk := Sub.trans (b := 10547031) rfl hM
  have b43264 : Sub 43264 msk := Sub.trans (b := 10547031) rfl hM
  have b10547031 : Sub 10547031 msk := Sub.trans (b := 10547031) rfl hM
  unfold State.publishSwitch
  with_reducible repeat' (first | assumption | apply State.pubSwitch_frame b10547031 | apply State.setRegion_frame b2 | apply State.change_frame b32768 | apply State.reopen_frame b10547031 | apply State.closeCmd_frame b256 | apply State.answerR16_frame b43264 | refine foldl_frame ?_ ?_ | refine foldl_fst_frame ?_ ?_ | refine foldl_snd_frame ?_ ?_ | intro _ _ _ | intro _ _ | split | extract_lets | refine frame_fst ?_ (by assumption) | refine frame_snd ?_ (by assumption))

theorem State.pubRelease_frame {s : State} {rid : Nat} (hM : Sub 10547031 msk) (hF : Frame msk s0 s) : Frame msk s0 (State.pubRelease s rid) := by
  have b2 : Sub 2 msk := Sub.trans (b := 10547031) rfl hM
  have b6 : Sub 6 msk := Sub.trans (b := 10547031) rfl hM
  have b32768 : Sub 32768 msk := Sub.trans (b := 10547031) rfl hM
  have b10547031 : Sub 10547031 msk := Sub.trans (b := 10547031) rfl hM
  unfold State.pubRelease
  with_reducible repeat' (first | assumption | apply State.giveBack_frame b6 | apply State.setRegion_frame b2 | apply State.change_frame b32768 | apply State.reopen_frame b10547031 | refine foldl_frame ?_ ?_ | refine foldl_fst_frame ?_ ?_ | refine foldl_snd_frame ?_ ?_ | intro _ _ _ | intro _ _ | split | extract_lets | refine frame_fst ?_ (by assumption) | refine frame_snd ?_ (by assumption))

theorem State.endPub_frame {s : State} {rid : Nat} {st : Option Status} (hM : Sub 43266 msk) (hF : Frame msk s0 s) : Frame msk s0 (State.endPub s rid st) := by
  have b2 : Sub 2 msk := Sub.trans (b := 43266) rfl hM
  have b256 : Sub 256 msk := Sub.trans (b := 43266) rfl hM
  have b43264 : Sub 43264 msk := Sub.trans (b := 43266) rfl hM
  unfold State.endPub
  with_reducible repeat' (first | assumption | apply State.setRegion_frame b2 | apply State.closeCmd_frame b256 | apply State.answerR16_frame b43264 | split | extract_lets | refine frame_fst ?_ (by assumption) | refine frame_snd ?_ (by assumption))

end Sys2Proof.Machine
end

