-- ==== Sys2Proof/Laws/FrameRack.lean ====
section
/-! SUPPORT. The frame of every operation of Machine/Rack.lean: which parts of the state it may change. -/

namespace Sys2Proof.Machine

variable {msk : Nat} {s0 : State}

theorem State.allocRanges_frame {s : State} {rid : Nat} {reserve : Bool} {rs : List (Nat × Nat)} (hM : Sub 8388610 msk) (hF : Frame msk s0 s) : Frame msk s0 (State.allocRanges s rid reserve rs).1 := by
  have b8388610 : Sub 8388610 msk := Sub.trans (b := 8388610) rfl hM
  unfold State.allocRanges
  with_reducible repeat' (first | assumption | apply State.allocPages_frame b8388610 | refine foldl_frame ?_ ?_ | refine foldl_fst_frame ?_ ?_ | refine foldl_snd_frame ?_ ?_ | intro _ _ _ | intro _ _ | split | extract_lets | refine frame_fst ?_ (by assumption) | refine frame_snd ?_ (by assumption))

theorem State.rackAlloc_frame {s : State} {rid : Nat} {data : List Nat} {reserve : Nat} {t : State} (hM : Sub 8388610 msk)
    (e : s.rackAlloc rid data reserve = .inl t) (hF : Frame msk s0 s) : Frame msk s0 t := by
  unfold State.rackAlloc at e
  extract_lets g need at e
  clear_value need
  split at e
  · contradiction
  generalize h1 : s.allocRanges rid false _ = x at e
  dsimp only at e
  generalize h2 : x.1.allocRanges rid true _ = y at e
  split at e
  · contradiction
  split at e
  · contradiction
  injection e with e
  exact e ▸ h2 ▸ State.allocRanges_frame hM (h1 ▸ State.allocRanges_frame hM hF)

theorem State.rackFeed_frame {s : State} {rid : Nat} (hM : Sub 18 msk) (hF : Frame msk s0 s) : Frame msk s0 (State.rackFeed s rid) := by
  have b2 : Sub 2 msk := Sub.trans (b := 18) rfl hM
  have b16 : Sub 16 msk := Sub.trans (b := 18) rfl hM
  unfold State.rackFeed
  with_reducible repeat' (first | assumption | apply State.setRegion_frame b2 | apply State.setAct_frame b16 | refine foldl_frame ?_ ?_ | refine foldl_fst_frame ?_ ?_ | refine foldl_snd_frame ?_ ?_ | intro _ _ _ | intro _ _ | split | extract_lets | refine frame_fst ?_ (by assumption) | refine frame_snd ?_ (by assumption))

theorem State.rackFeeds_frame {s : State} (hM : Sub 18 msk) (hF : Frame msk s0 s) : Frame msk s0 (State.rackFeeds s) := by
  have b18 : Sub 18 msk := Sub.trans (b := 18) rfl hM
  unfold State.rackFeeds
  with_reducible repeat' (first | assumption | apply State.rackFeed_frame b18 | refine foldl_frame ?_ ?_ | refine foldl_fst_frame ?_ ?_ | refine foldl_snd_frame ?_ ?_ | intro _ _ _ | intro _ _ | dsimp -zeta only | dsimp -zeta +zetaDelta only)

theorem State.rackBegin_frame {s : State} {j : Job} {t9 : State} (hM : Sub 8421394 msk) (e9 : (State.rackBegin s j) = .inl t9) (hF : Frame msk s0 s) : Frame msk s0 t9 := by
  have b2 : Sub 2 msk := Sub.trans (b := 8421394) rfl hM
  have b16 : Sub 16 msk := Sub.trans (b := 8421394) rfl hM
  have b18 : Sub 18 msk := Sub.trans (b := 8421394) rfl hM
  have b32768 : Sub 32768 msk := Sub.trans (b := 8421394) rfl hM
  have b8388610 : Sub 8388610 msk := Sub.trans (b := 8421394) rfl hM
  unfold State.rackBegin at e9
  repeat' (first | contradiction | (simp only [Sum.inl.injEq, Option.some.injEq, Prod.mk.injEq] at e9; obtain ⟨_, e9⟩ := e9; subst e9) | (injection e9 with e9; subst e9) | split at e9 | dsimp only at e9)
  all_goals with_reducible repeat' (first | assumption | apply State.setRegion_frame b2 | refine State.rackAlloc_frame b8388610 (by assumption) ?_ | apply State.addAct_frame b16 | apply State.rackFeed_frame b18 | apply State.change_frame b32768 | split | extract_lets | refine frame_fst ?_ (by assumption) | refine frame_snd ?_ (by assumption))

theorem State.rackCopied_frame {s : State} {rid old n : Nat} (hM : Sub 18 msk) (hF : Frame msk s0 s) : Frame msk s0 (State.rackCopied s rid old n) := by
  have b2 : Sub 2 msk := Sub.trans (b := 18) rfl hM
  have b16 : Sub 16 msk := Sub.trans (b := 18) rfl hM
  unfold State.rackCopied
  with_reducible repeat' (first | assumption | apply State.setJob_frame b16 | apply State.setRegion_frame b2 | split | refine frame_fst ?_ (by assumption) | refine frame_snd ?_ (by assumption))

theorem State.rackScrub_frame {s : State} {rid : Nat} (hM : Sub 18 msk) (hF : Frame msk s0 s) : Frame msk s0 (State.rackScrub s rid) := by
  have b16 : Sub 16 msk := Sub.trans (b := 18) rfl hM
  have b18 : Sub 18 msk := Sub.trans (b := 18) rfl hM
  unfold State.rackScrub
  with_reducible repeat' (first | assumption | apply State.dropAct_frame b16 | apply State.startScrub_frame b18 | split | extract_lets | dsimp -zeta only | dsimp -zeta +zetaDelta only | refine frame_fst ?_ (by assumption) | refine frame_snd ?_ (by assumption))

theorem State.moveWork_frame {s : State} {o n : Nat} (hM : Sub 20 msk) (hF : Frame msk s0 s) : Frame msk s0 (State.moveWork s o n) := by
  have b4 : Sub 4 msk := Sub.trans (b := 20) rfl hM
  have b16 : Sub 16 msk := Sub.trans (b := 20) rfl hM
  unfold State.moveWork
  with_reducible repeat' (first | assumption | apply State.onEng_frame b16 | apply State.onDir_frame b4 | split | extract_lets)

theorem State.rackSwitch_frame {s : State} {rid old : Nat} (hM : Sub 10547031 msk) (hF : Frame msk s0 s) : Frame msk s0 (State.rackSwitch s rid old) := by
  have b2 : Sub 2 msk := Sub.trans (b := 10547031) rfl hM
  have b4 : Sub 4 msk := Sub.trans (b := 10547031) rfl hM
  have b16 : Sub 16 msk := Sub.trans (b := 10547031) rfl hM
  have b18 : Sub 18 msk := Sub.trans (b := 10547031) rfl hM
  have b20 : Sub 20 msk := Sub.trans (b := 10547031) rfl hM
  have b32768 : Sub 32768 msk := Sub.trans (b := 10547031) rfl hM
  have b10547031 : Sub 10547031 msk := Sub.trans (b := 10547031) rfl hM
  unfold State.rackSwitch
  with_reducible repeat' (first | assumption | apply State.setEntry_frame b4 | apply State.onDir_frame b4 | apply State.setRegion_frame b2 | apply State.moveWork_frame b20 | apply State.setJob_frame b16 | apply State.change_frame b32768 | apply State.rackScrub_frame b18 | apply State.reopen_frame b10547031 | split | extract_lets | dsimp -zeta only | dsimp -zeta +zetaDelta only | refine frame_fst ?_ (by assumption) | refine frame_snd ?_ (by assumption))

theorem State.rehome_frame {s : State} {rid : Nat} {r : Rack} (hM : Sub 20 msk) (hF : Frame msk s0 s) : Frame msk s0 (State.rehome s rid r) := by
  have b4 : Sub 4 msk := Sub.trans (b := 20) rfl hM
  have b16 : Sub 16 msk := Sub.trans (b := 20) rfl hM
  unfold State.rehome
  with_reducible repeat' (first | assumption | apply State.onDir_frame b4 | apply State.onEng_frame b16 | split | extract_lets)

theorem State.rackRewrite_frame {s : State} {rid : Nat} (hM : Sub 2156830 msk) (hF : Frame msk s0 s) : Frame msk s0 (State.rackRewrite s rid) := by
  have b2 : Sub 2 msk := Sub.trans (b := 2156830) rfl hM
  have b8 : Sub 8 msk := Sub.trans (b := 2156830) rfl hM
  have b20 : Sub 20 msk := Sub.trans (b := 2156830) rfl hM
  have b32768 : Sub 32768 msk := Sub.trans (b := 2156830) rfl hM
  have b2124032 : Sub 2124032 msk := Sub.trans (b := 2156830) rfl hM
  unfold State.rackRewrite
  with_reducible repeat' (first | assumption | apply State.onXlt_frame b8 | apply State.cacheDrop_frame b8 | apply State.rehome_frame b20 | apply State.setRegion_frame b2 | apply State.event_frame b2124032 | apply State.change_frame b32768 | refine foldl_frame ?_ ?_ | refine foldl_fst_frame ?_ ?_ | refine foldl_snd_frame ?_ ?_ | intro _ _ _ | intro _ _ | split | extract_lets | refine frame_fst ?_ (by assumption) | refine frame_snd ?_ (by assumption))

theorem State.rackDone_frame {s : State} {rid : Nat} (hM : Sub 2156858 msk) (hF : Frame msk s0 s) : Frame msk s0 (State.rackDone s rid) := by
  have b2 : Sub 2 msk := Sub.trans (b := 2156858) rfl hM
  have b16 : Sub 16 msk := Sub.trans (b := 2156858) rfl hM
  have b18 : Sub 18 msk := Sub.trans (b := 2156858) rfl hM
  have b32768 : Sub 32768 msk := Sub.trans (b := 2156858) rfl hM
  have b2156856 : Sub 2156856 msk := Sub.trans (b := 2156858) rfl hM
  unfold State.rackDone
  with_reducible repeat' (first | assumption | apply State.dropScrub_frame b18 | apply State.setRegion_frame b2 | apply State.change_frame b32768 | apply State.setJob_frame b16 | apply State.finishJob_frame b2156856 | split | extract_lets | refine frame_fst ?_ (by assumption) | refine frame_snd ?_ (by assumption))

theorem State.rackAbort_frame {s : State} {rid : Nat} {st : Status} {detail : Nat} (hM : Sub 2156862 msk) (hF : Frame msk s0 s) : Frame msk s0 (State.rackAbort s rid st detail) := by
  have b2156862 : Sub 2156862 msk := Sub.trans (b := 2156862) rfl hM
  unfold State.rackAbort
  with_reducible repeat' (first | assumption | apply State.stopRack_frame b2156862)

end Sys2Proof.Machine
end

