-- ==== Sys2Proof/Laws/FrameXltCmd.lean ====
section
/-! SUPPORT. The frame of every operation of Machine/XltCmd.lean: which parts of the state it may change. -/

namespace Sys2Proof.Machine

variable {msk : Nat} {s0 : State}

theorem State.setOwner_frame {s : State} {agent : Nat} {fn : Option Nat} (hM : Sub 8 msk) (hF : Frame msk s0 s) : Frame msk s0 (State.setOwner s agent fn) := by
  have b8 : Sub 8 msk := Sub.trans (b := 8) rfl hM
  unfold State.setOwner
  with_reducible repeat' (first | assumption | apply State.onXlt_frame b8 | split | refine frame_fst ?_ (by assumption) | refine frame_snd ?_ (by assumption))

theorem State.deriveOwner_frame {s : State} {agent : Nat} (hM : Sub 8 msk) (hF : Frame msk s0 s) : Frame msk s0 (State.deriveOwner s agent) := by
  have b8 : Sub 8 msk := Sub.trans (b := 8) rfl hM
  unfold State.deriveOwner
  with_reducible repeat' (first | assumption | apply State.setOwner_frame b8 | split)

theorem State.firstOwner_frame {s : State} {agent fn : Nat} (hM : Sub 8 msk) (hF : Frame msk s0 s) : Frame msk s0 (State.firstOwner s agent fn) := by
  have b8 : Sub 8 msk := Sub.trans (b := 8) rfl hM
  unfold State.firstOwner
  with_reducible repeat' (first | assumption | apply State.onXlt_frame b8 | apply State.setOwner_frame b8 | split | extract_lets)

theorem State.placeTable_frame {s : State} {lvl agent pva : Nat} (hM : Sub 8388680 msk) (hF : Frame msk s0 s) : Frame msk s0 (State.placeTable s lvl agent pva) := by
  have b8 : Sub 8 msk := Sub.trans (b := 8388680) rfl hM
  have b64 : Sub 64 msk := Sub.trans (b := 8388680) rfl hM
  have b8388608 : Sub 8388608 msk := Sub.trans (b := 8388680) rfl hM
  unfold State.placeTable
  with_reducible repeat' (first | assumption | apply State.draw_frame b8388608 | apply State.onXlt_frame b8 | apply State.clearPoison_frame b64 | split | extract_lets | dsimp -zeta only | dsimp -zeta +zetaDelta only | refine frame_fst ?_ (by assumption) | refine frame_snd ?_ (by assumption))

theorem State.writeTables_frame {s : State} {x : Xlt} {agent lvl pva n : Nat} (hM : Sub 8388680 msk) (hF : Frame msk s0 s) : Frame msk s0 (State.writeTables s x agent lvl pva n) := by
  have b8 : Sub 8 msk := Sub.trans (b := 8388680) rfl hM
  have b64 : Sub 64 msk := Sub.trans (b := 8388680) rfl hM
  have b8388680 : Sub 8388680 msk := Sub.trans (b := 8388680) rfl hM
  unfold State.writeTables
  with_reducible repeat' (first | assumption | apply State.onXlt_frame b8 | apply State.placeTable_frame b8388680 | apply State.clearPoison_frame b64 | split | extract_lets | dsimp -zeta only | dsimp -zeta +zetaDelta only | refine frame_fst ?_ (by assumption) | refine frame_snd ?_ (by assumption))

theorem State.mapUpdateNow_frame {s : State} {i : Issuer} {p : Packet} (hM : Sub 8431944 msk) (hF : Frame msk s0 s) : Frame msk s0 (State.mapUpdateNow s i p) := by
  have b8 : Sub 8 msk := Sub.trans (b := 8431944) rfl hM
  have b256 : Sub 256 msk := Sub.trans (b := 8431944) rfl hM
  have b10496 : Sub 10496 msk := Sub.trans (b := 8431944) rfl hM
  have b32768 : Sub 32768 msk := Sub.trans (b := 8431944) rfl hM
  have b8388680 : Sub 8388680 msk := Sub.trans (b := 8431944) rfl hM
  unfold State.mapUpdateNow
  with_reducible repeat' (first | assumption | apply State.malformed_frame b10496 | apply State.denied_frame b10496 | apply State.answer_frame b10496 | apply State.writeTables_frame b8388680 | apply State.change_frame b32768 | apply State.cacheDrop_frame b8 | apply State.firstOwner_frame b8 | apply State.openCmd_frame b256 | apply State.onXlt_frame b8 | split | extract_lets | refine frame_fst ?_ (by assumption) | refine frame_snd ?_ (by assumption))

theorem State.hold_frame {s : State} {i : Issuer} {p : Packet} (hM : Sub 8 msk) (hF : Frame msk s0 s) : Frame msk s0 (State.hold s i p) := by
  have b8 : Sub 8 msk := Sub.trans (b := 8) rfl hM
  unfold State.hold
  with_reducible repeat' (first | assumption | apply State.onXlt_frame b8)

theorem State.doMapUpdate_frame {s : State} {i : Issuer} {p : Packet} (hM : Sub 8431944 msk) (hF : Frame msk s0 s) : Frame msk s0 (State.doMapUpdate s i p) := by
  have b8 : Sub 8 msk := Sub.trans (b := 8431944) rfl hM
  have b8431944 : Sub 8431944 msk := Sub.trans (b := 8431944) rfl hM
  unfold State.doMapUpdate
  with_reducible repeat' (first | assumption | apply State.hold_frame b8 | apply State.mapUpdateNow_frame b8431944 | split)

theorem State.mapDigestNow_frame {s : State} {i : Issuer} {p : Packet} (hM : Sub 10504 msk) (hF : Frame msk s0 s) : Frame msk s0 (State.mapDigestNow s i p) := by
  have b8 : Sub 8 msk := Sub.trans (b := 10504) rfl hM
  have b10496 : Sub 10496 msk := Sub.trans (b := 10504) rfl hM
  unfold State.mapDigestNow
  with_reducible repeat' (first | assumption | apply State.malformed_frame b10496 | apply State.denied_frame b10496 | apply State.onXlt_frame b8 | split | extract_lets | refine frame_fst ?_ (by assumption) | refine frame_snd ?_ (by assumption))

theorem State.doMapDigest_frame {s : State} {i : Issuer} {p : Packet} (hM : Sub 10504 msk) (hF : Frame msk s0 s) : Frame msk s0 (State.doMapDigest s i p) := by
  have b8 : Sub 8 msk := Sub.trans (b := 10504) rfl hM
  have b10504 : Sub 10504 msk := Sub.trans (b := 10504) rfl hM
  unfold State.doMapDigest
  with_reducible repeat' (first | assumption | apply State.hold_frame b8 | apply State.mapDigestNow_frame b10504 | split)

theorem State.runHeld_frame {s : State} {agent : Nat} {fuel9 : Nat} (hM : Sub 8431944 msk) (hF : Frame msk s0 s) : Frame msk s0 (State.runHeld s agent fuel9) := by
  have b8 : Sub 8 msk := Sub.trans (b := 8431944) rfl hM
  have b10504 : Sub 10504 msk := Sub.trans (b := 8431944) rfl hM
  have b8431944 : Sub 8431944 msk := Sub.trans (b := 8431944) rfl hM
  induction fuel9 generalizing s agent with
  | zero => unfold State.runHeld; with_reducible repeat' (first | assumption | apply State.onXlt_frame b8 | apply State.mapDigestNow_frame b10504 | apply State.mapUpdateNow_frame b8431944 | split | extract_lets | refine frame_fst ?_ (by assumption) | refine frame_snd ?_ (by assumption))
  | succ fuel9 ih =>
    unfold State.runHeld
    with_reducible repeat' (first | assumption | apply ih | apply State.onXlt_frame b8 | apply State.mapDigestNow_frame b10504 | apply State.mapUpdateNow_frame b8431944 | split | extract_lets | refine frame_fst ?_ (by assumption) | refine frame_snd ?_ (by assumption))

theorem State.digestDone_frame {s : State} {agent : Nat} (hM : Sub 8431944 msk) (hF : Frame msk s0 s) : Frame msk s0 (State.digestDone s agent) := by
  have b8 : Sub 8 msk := Sub.trans (b := 8431944) rfl hM
  have b10240 : Sub 10240 msk := Sub.trans (b := 8431944) rfl hM
  have b10496 : Sub 10496 msk := Sub.trans (b := 8431944) rfl hM
  have b8431944 : Sub 8431944 msk := Sub.trans (b := 8431944) rfl hM
  unfold State.digestDone
  with_reducible repeat' (first | assumption | apply State.onXlt_frame b8 | apply State.hostWrite_frame b10240 | apply State.answer_frame b10496 | apply State.runHeld_frame b8431944 | split | extract_lets | refine frame_fst ?_ (by assumption) | refine frame_snd ?_ (by assumption))

theorem State.tileFault_frame {msk : Nat} {s0 s : State} {agent jobid pva high cause kind : Nat} (hM : Sub 10545416 msk)
    (hF : Frame msk s0 s) : Frame msk s0 (s.tileFault agent jobid pva high cause kind).1 := by
  have b8 : Sub 8 msk := Sub.trans (b := 10545416) rfl hM
  have b32768 : Sub 32768 msk := Sub.trans (b := 10545416) rfl hM
  have b2124032 : Sub 2124032 msk := Sub.trans (b := 10545416) rfl hM
  have b8388608 : Sub 8388608 msk := Sub.trans (b := 10545416) rfl hM
  unfold State.tileFault
  split
  · exact State.change_frame b32768 (State.bump_frame b2124032 (State.onXlt_frame b8 hF))
  · generalize List.filter (fun k => (Tbl.find s.xlt.faults k).isNone) (List.range 1024) = free
    cases free with
    | nil => exact State.bump_frame b2124032 hF
    | cons k0 r =>
      exact State.event_frame b2124032 (State.change_frame b32768 (State.bump_frame b2124032 (State.onXlt_frame b8
        (State.draw_frame b8388608 hF))))

theorem State.failRecord_frame {s : State} {slot : Nat} {st : Status} (hM : Sub 2156860 msk) (hF : Frame msk s0 s) : Frame msk s0 (State.failRecord s slot st) := by
  have b8 : Sub 8 msk := Sub.trans (b := 2156860) rfl hM
  have b32768 : Sub 32768 msk := Sub.trans (b := 2156860) rfl hM
  have b2156860 : Sub 2156860 msk := Sub.trans (b := 2156860) rfl hM
  unfold State.failRecord
  with_reducible repeat' (first | assumption | apply State.onXlt_frame b8 | apply State.change_frame b32768 | apply State.stopJob_frame b2156860 | refine foldl_frame ?_ ?_ | refine foldl_fst_frame ?_ ?_ | refine foldl_snd_frame ?_ ?_ | intro _ _ _ | intro _ _ | split | extract_lets | refine frame_fst ?_ (by assumption) | refine frame_snd ?_ (by assumption))

theorem State.faultExpire_frame {s : State} {slot : Nat} (hM : Sub 2156860 msk) (hF : Frame msk s0 s) : Frame msk s0 (State.faultExpire s slot) := by
  have b4 : Sub 4 msk := Sub.trans (b := 2156860) rfl hM
  have b2156860 : Sub 2156860 msk := Sub.trans (b := 2156860) rfl hM
  unfold State.faultExpire
  with_reducible repeat' (first | assumption | apply State.later_frame b4 | apply State.failRecord_frame b2156860 | split | refine frame_fst ?_ (by assumption) | refine frame_snd ?_ (by assumption))

theorem State.faultEnd_frame {s : State} {slot seq : Nat} (hM : Sub 2156860 msk) (hF : Frame msk s0 s) : Frame msk s0 (State.faultEnd s slot seq) := by
  have b2156860 : Sub 2156860 msk := Sub.trans (b := 2156860) rfl hM
  unfold State.faultEnd
  with_reducible repeat' (first | assumption | apply State.failRecord_frame b2156860 | split | dsimp -zeta only | dsimp -zeta +zetaDelta only | refine frame_fst ?_ (by assumption) | refine frame_snd ?_ (by assumption))

end Sys2Proof.Machine
end

