-- ==== Sys2Proof/Laws/FrameEngTile.lean ====
section
/-! SUPPORT. The frame of every operation of Machine/EngTile.lean: which parts of the state it may change. -/

namespace Sys2Proof.Machine

variable {msk : Nat} {s0 : State}

theorem State.readCheck_frame {s : State} {g : Region} {rs : List (Nat × Nat)} (hM : Sub 2124097 msk) (hF : Frame msk s0 s) : Frame msk s0 (State.readCheck s g rs) := by
  have b2124097 : Sub 2124097 msk := Sub.trans (b := 2124097) rfl hM
  unfold State.readCheck
  with_reducible repeat' (first | assumption | apply State.readLine_frame b2124097 | refine foldl_frame ?_ ?_ | refine foldl_fst_frame ?_ ?_ | refine foldl_snd_frame ?_ ?_ | intro _ _ _ | intro _ _ | extract_lets | dsimp -zeta only | dsimp -zeta +zetaDelta only)

theorem State.readPva_frame {s : State} {ps : List TPage} {runs : List (Nat × Nat)} (hM : Sub 2124097 msk) (hF : Frame msk s0 s) : Frame msk s0 (State.readPva s ps runs).1 := by
  have b2124097 : Sub 2124097 msk := Sub.trans (b := 2124097) rfl hM
  unfold State.readPva
  with_reducible repeat' (first | assumption | apply State.readCheck_frame b2124097 | refine foldl_frame ?_ ?_ | refine foldl_fst_frame ?_ ?_ | refine foldl_snd_frame ?_ ?_ | intro _ _ _ | intro _ _ | split | extract_lets | dsimp -zeta only | dsimp -zeta +zetaDelta only)

theorem State.noteHole_frame {s : State} {agent pva : Nat} (hM : Sub 2124032 msk) (hF : Frame msk s0 s) : Frame msk s0 (State.noteHole s agent pva) := by
  have b2124032 : Sub 2124032 msk := Sub.trans (b := 2124032) rfl hM
  unfold State.noteHole
  with_reducible repeat' (first | assumption | apply State.raise_frame b2124032 | split | dsimp -zeta only | dsimp -zeta +zetaDelta only)

theorem State.preCache_frame {s : State} {agent : Nat} {ops : List (Bool × List Nat)} (hM : Sub 2124040 msk) (hF : Frame msk s0 s) : Frame msk s0 (State.preCache s agent ops) := by
  have b2124032 : Sub 2124032 msk := Sub.trans (b := 2124040) rfl hM
  have b2124040 : Sub 2124040 msk := Sub.trans (b := 2124040) rfl hM
  unfold State.preCache
  with_reducible repeat' (first | assumption | apply State.cacheUse_frame b2124040 | apply State.noteHole_frame b2124032 | refine foldl_frame ?_ ?_ | refine foldl_fst_frame ?_ ?_ | refine foldl_snd_frame ?_ ?_ | intro _ _ _ | intro _ _)

theorem State.preTile_frame {s : State} {agent : Nat} {ops : List (Bool × List Nat)} {also : List Nat} (hM : Sub 2124105 msk) (hF : Frame msk s0 s) : Frame msk s0 (State.preTile s agent ops also).1 := by
  have b2124040 : Sub 2124040 msk := Sub.trans (b := 2124105) rfl hM
  have b2124097 : Sub 2124097 msk := Sub.trans (b := 2124105) rfl hM
  unfold State.preTile
  with_reducible repeat' (first | assumption | apply State.readTables_frame b2124097 | apply State.preCache_frame b2124040 | refine foldl_frame ?_ ?_ | refine foldl_fst_frame ?_ ?_ | refine foldl_snd_frame ?_ ?_ | intro _ _ _ | intro _ _ | extract_lets | dsimp -zeta only | dsimp -zeta +zetaDelta only)

theorem State.prefetchTile_frame {s : State} {j : Job} {k : Nat} (hM : Sub 8 msk) (hF : Frame msk s0 s) : Frame msk s0 (State.prefetchTile s j k) := by
  have b8 : Sub 8 msk := Sub.trans (b := 8) rfl hM
  unfold State.prefetchTile
  with_reducible repeat' (first | assumption | apply State.streamUse_frame b8 | apply State.prefetch_frame b8 | split | extract_lets | refine frame_fst ?_ (by assumption) | refine frame_snd ?_ (by assumption))

end Sys2Proof.Machine
end

