-- ==== Sys2Proof/Laws/FrameEngJob.lean ====
section
/-! SUPPORT. The frame of every operation of Machine/EngJob.lean: which parts of the state it may change. -/

namespace Sys2Proof.Machine

variable {msk : Nat} {s0 : State}

theorem State.placeMeas_frame {s : State} {m : Meas} {fixed : Option Nat} {n9 : Nat} {t9 : State} (hM : Sub 16 msk) (e9 : (State.placeMeas s m fixed) = some (n9, t9)) (hF : Frame msk s0 s) : Frame msk s0 t9 := by
  have b16 : Sub 16 msk := Sub.trans (b := 16) rfl hM
  unfold State.placeMeas at e9
  repeat' (first | contradiction | (simp only [Sum.inl.injEq, Option.some.injEq, Prod.mk.injEq] at e9; obtain ⟨_, e9⟩ := e9; subst e9) | (injection e9 with e9; subst e9) | split at e9 | dsimp only at e9)
  all_goals with_reducible repeat' (first | assumption | apply State.setUnit_frame b16 | apply State.onEng_frame b16 | split | extract_lets | refine frame_fst ?_ (by assumption) | refine frame_snd ?_ (by assumption))

theorem State.takeStage_frame {s : State} {d need : Nat} {t9 : State} (hM : Sub 32 msk) (e9 : (State.takeStage s d need) = some t9) (hF : Frame msk s0 s) : Frame msk s0 t9 := by
  have b32 : Sub 32 msk := Sub.trans (b := 32) rfl hM
  unfold State.takeStage at e9
  repeat' (first | contradiction | (simp only [Sum.inl.injEq, Option.some.injEq, Prod.mk.injEq] at e9; obtain ⟨_, e9⟩ := e9; subst e9) | (injection e9 with e9; subst e9) | split at e9 | dsimp only at e9)
  all_goals with_reducible repeat' (first | assumption | apply State.onOpu_frame b32 | split | extract_lets)

theorem State.stageFor_frame {msk : Nat} {s0 s : State} {j : Job} {m : Meas} {t : State} (hM : Sub 48 msk)
    (e : s.stageFor j m = .ok t) (hF : Frame msk s0 s) : Frame msk s0 t := by
  have b16 : Sub 16 msk := Sub.trans (b := 48) rfl hM
  have b32 : Sub 32 msk := Sub.trans (b := 48) rfl hM
  unfold State.stageFor at e
  dsimp only at e
  generalize (m.outIds j.op) = l at e
  suffices H : ∀ (a : Staged), (∀ u, a = .ok u → Frame msk s0 u) → l.foldl _ a = .ok t → Frame msk s0 t from
    H _ (fun u h => by injection h with h; exact h ▸ hF) e
  clear e
  induction l with
  | nil => intro a h e; exact h t e
  | cons x xs ih =>
    intro a h e
    refine ih _ (fun u hu => ?_) e
    cases a with
    | ok v =>
      have hv := h v rfl
      dsimp only at hu
      split at hu
      · injection hu with hu; exact hu ▸ hv
      · split at hu
        · injection hu with hu; exact hu ▸ hv
        · split at hu
          · contradiction
          · split at hu
            · contradiction
            · next w hw => injection hu with hu; exact hu ▸ State.setJob_frame b16 (State.takeStage_frame b32 hw hv)
    | wait => contradiction
    | never => contradiction

theorem State.feedJob_frame {s : State} {agent jobid : Nat} {fuel9 : Nat} (hM : Sub 2156860 msk) (hF : Frame msk s0 s) : Frame msk s0 (State.feedJob s agent jobid fuel9) := by
  have b16 : Sub 16 msk := Sub.trans (b := 2156860) rfl hM
  have b48 : Sub 48 msk := Sub.trans (b := 2156860) rfl hM
  have b2124032 : Sub 2124032 msk := Sub.trans (b := 2156860) rfl hM
  have b2156860 : Sub 2156860 msk := Sub.trans (b := 2156860) rfl hM
  induction fuel9 generalizing s agent jobid with
  | zero => unfold State.feedJob; with_reducible repeat' (first | assumption | refine State.stageFor_frame b48 (by assumption) ?_ | apply State.stopJob_frame b2156860 | apply State.bump_frame b2124032 | refine State.placeMeas_frame b16 (by assumption) ?_ | apply State.setJob_frame b16 | split | extract_lets | refine frame_fst ?_ (by assumption) | refine frame_snd ?_ (by assumption))
  | succ fuel9 ih =>
    unfold State.feedJob
    with_reducible repeat' (first | assumption | apply ih | refine State.stageFor_frame b48 (by assumption) ?_ | apply State.stopJob_frame b2156860 | apply State.bump_frame b2124032 | refine State.placeMeas_frame b16 (by assumption) ?_ | apply State.setJob_frame b16 | split | extract_lets | refine frame_fst ?_ (by assumption) | refine frame_snd ?_ (by assumption))

theorem State.faultJob_frame {s : State} {agent jobid pva high cause kind : Nat} {held : Bool} (hM : Sub 10545468 msk) (hF : Frame msk s0 s) : Frame msk s0 (State.faultJob s agent jobid pva high cause kind held) := by
  have b16 : Sub 16 msk := Sub.trans (b := 10545468) rfl hM
  have b32768 : Sub 32768 msk := Sub.trans (b := 10545468) rfl hM
  have b2156860 : Sub 2156860 msk := Sub.trans (b := 10545468) rfl hM
  have b10545416 : Sub 10545416 msk := Sub.trans (b := 10545468) rfl hM
  unfold State.faultJob
  with_reducible repeat' (first | assumption | apply State.tileFault_frame b10545416 | apply State.setJob_frame b16 | apply State.change_frame b32768 | apply State.stopJob_frame b2156860 | split | extract_lets | refine frame_fst ?_ (by assumption) | refine frame_snd ?_ (by assumption))

theorem State.preRange_frame {s : State} {j : Job} {w : Bool} {a n : Nat} (hM : Sub 10545533 msk) (hF : Frame msk s0 s) : Frame msk s0 (State.preRange s j w a n).1 := by
  have b2124105 : Sub 2124105 msk := Sub.trans (b := 10545533) rfl hM
  have b2156860 : Sub 2156860 msk := Sub.trans (b := 10545533) rfl hM
  have b10545468 : Sub 10545468 msk := Sub.trans (b := 10545533) rfl hM
  unfold State.preRange
  with_reducible repeat' (first | assumption | apply State.preTile_frame b2124105 | apply State.stopJob_frame b2156860 | apply State.faultJob_frame b10545468 | split | extract_lets | dsimp -zeta only | dsimp -zeta +zetaDelta only | refine frame_fst ?_ (by assumption) | refine frame_snd ?_ (by assumption))

theorem State.growDst_frame {s : State} {agent jobid need total : Nat} {fuel9 : Nat} (hM : Sub 10545533 msk) (hF : Frame msk s0 s) : Frame msk s0 (State.growDst s agent jobid need total fuel9).1 := by
  have b16 : Sub 16 msk := Sub.trans (b := 10545533) rfl hM
  have b10545533 : Sub 10545533 msk := Sub.trans (b := 10545533) rfl hM
  induction fuel9 generalizing s agent jobid need total with
  | zero => unfold State.growDst; with_reducible repeat' (first | assumption | apply State.preRange_frame b10545533 | apply State.setJob_frame b16 | split | extract_lets | refine frame_fst ?_ (by assumption) | refine frame_snd ?_ (by assumption))
  | succ fuel9 ih =>
    unfold State.growDst
    with_reducible repeat' (first | assumption | apply ih | apply State.preRange_frame b10545533 | apply State.setJob_frame b16 | split | extract_lets | refine frame_fst ?_ (by assumption) | refine frame_snd ?_ (by assumption))

theorem State.caskLay_frame {s : State} {agent jobid : Nat} {fuel9 : Nat} (hM : Sub 10545533 msk) (hF : Frame msk s0 s) : Frame msk s0 (State.caskLay s agent jobid fuel9) := by
  have b16 : Sub 16 msk := Sub.trans (b := 10545533) rfl hM
  have b10545533 : Sub 10545533 msk := Sub.trans (b := 10545533) rfl hM
  induction fuel9 generalizing s agent jobid with
  | zero => unfold State.caskLay; with_reducible repeat' (first | assumption | apply State.setJob_frame b16 | apply State.growDst_frame b10545533 | split | extract_lets | refine frame_fst ?_ (by assumption) | refine frame_snd ?_ (by assumption))
  | succ fuel9 ih =>
    unfold State.caskLay
    with_reducible repeat' (first | assumption | apply ih | apply State.setJob_frame b16 | apply State.growDst_frame b10545533 | split | extract_lets | refine frame_fst ?_ (by assumption) | refine frame_snd ?_ (by assumption))

theorem State.expandLay_frame {s : State} {agent jobid : Nat} {fuel9 : Nat} (hM : Sub 10545533 msk) (hF : Frame msk s0 s) : Frame msk s0 (State.expandLay s agent jobid fuel9) := by
  have b16 : Sub 16 msk := Sub.trans (b := 10545533) rfl hM
  have b10545533 : Sub 10545533 msk := Sub.trans (b := 10545533) rfl hM
  induction fuel9 generalizing s agent jobid with
  | zero => unfold State.expandLay; with_reducible repeat' (first | assumption | apply State.growDst_frame b10545533 | apply State.setJob_frame b16 | split | extract_lets | refine frame_fst ?_ (by assumption) | refine frame_snd ?_ (by assumption))
  | succ fuel9 ih =>
    unfold State.expandLay
    with_reducible repeat' (first | assumption | apply ih | apply State.growDst_frame b10545533 | apply State.setJob_frame b16 | split | extract_lets | refine frame_fst ?_ (by assumption) | refine frame_snd ?_ (by assumption))

theorem State.admitTile_frame {s : State} {j : Job} {k : Nat} {offs : List Nat} {ps : List TPage} (hM : Sub 32792 msk) (hF : Frame msk s0 s) : Frame msk s0 (State.admitTile s j k offs ps) := by
  have b8 : Sub 8 msk := Sub.trans (b := 32792) rfl hM
  have b16 : Sub 16 msk := Sub.trans (b := 32792) rfl hM
  have b32768 : Sub 32768 msk := Sub.trans (b := 32792) rfl hM
  unfold State.admitTile
  with_reducible repeat' (first | assumption | apply State.setJob_frame b16 | apply State.prefetchTile_frame b8 | apply State.change_frame b32768 | refine foldl_frame ?_ ?_ | refine foldl_fst_frame ?_ ?_ | refine foldl_snd_frame ?_ ?_ | intro _ _ _ | intro _ _ | split | extract_lets | refine frame_fst ?_ (by assumption) | refine frame_snd ?_ (by assumption))

theorem State.passTile_frame {s : State} {j : Job} {ps : List TPage} (hM : Sub 2156925 msk) (hF : Frame msk s0 s) : Frame msk s0 (State.passTile s j ps) := by
  have b16 : Sub 16 msk := Sub.trans (b := 2156925) rfl hM
  have b32792 : Sub 32792 msk := Sub.trans (b := 2156925) rfl hM
  have b2124097 : Sub 2124097 msk := Sub.trans (b := 2156925) rfl hM
  have b2156860 : Sub 2156860 msk := Sub.trans (b := 2156925) rfl hM
  unfold State.passTile
  with_reducible repeat' (first | assumption | apply State.admitTile_frame b32792 | apply State.readPva_frame b2124097 | apply State.stopJob_frame b2156860 | apply State.setJob_frame b16 | split | extract_lets | dsimp -zeta only | dsimp -zeta +zetaDelta only | refine frame_fst ?_ (by assumption) | refine frame_snd ?_ (by assumption))

theorem State.precheckNow_frame {s : State} {j : Job} (hM : Sub 10545533 msk) (hF : Frame msk s0 s) : Frame msk s0 (State.precheckNow s j) := by
  have b2124105 : Sub 2124105 msk := Sub.trans (b := 10545533) rfl hM
  have b2156860 : Sub 2156860 msk := Sub.trans (b := 10545533) rfl hM
  have b2156925 : Sub 2156925 msk := Sub.trans (b := 10545533) rfl hM
  have b10545468 : Sub 10545468 msk := Sub.trans (b := 10545533) rfl hM
  unfold State.precheckNow
  with_reducible repeat' (first | assumption | apply State.preTile_frame b2124105 | apply State.stopJob_frame b2156860 | apply State.faultJob_frame b10545468 | apply State.passTile_frame b2156925 | split | extract_lets | dsimp -zeta only | dsimp -zeta +zetaDelta only | refine frame_fst ?_ (by assumption) | refine frame_snd ?_ (by assumption))

theorem State.precheckJob_frame {s : State} {j : Job} (hM : Sub 10545533 msk) (hF : Frame msk s0 s) : Frame msk s0 (State.precheckJob s j) := by
  have b16 : Sub 16 msk := Sub.trans (b := 10545533) rfl hM
  have b2124097 : Sub 2124097 msk := Sub.trans (b := 10545533) rfl hM
  have b2156860 : Sub 2156860 msk := Sub.trans (b := 10545533) rfl hM
  have b10545533 : Sub 10545533 msk := Sub.trans (b := 10545533) rfl hM
  unfold State.precheckJob
  with_reducible repeat' (first | assumption | apply State.precheckNow_frame b10545533 | apply State.readPva_frame b2124097 | apply State.stopJob_frame b2156860 | apply State.setJob_frame b16 | split | extract_lets | dsimp -zeta only | dsimp -zeta +zetaDelta only | refine frame_fst ?_ (by assumption) | refine frame_snd ?_ (by assumption))

theorem State.endJob_frame {s : State} {j : Job} (hM : Sub 2156856 msk) (hF : Frame msk s0 s) : Frame msk s0 (State.endJob s j) := by
  have b16 : Sub 16 msk := Sub.trans (b := 2156856) rfl hM
  have b32768 : Sub 32768 msk := Sub.trans (b := 2156856) rfl hM
  have b2156856 : Sub 2156856 msk := Sub.trans (b := 2156856) rfl hM
  unfold State.endJob
  with_reducible repeat' (first | assumption | apply State.setJob_frame b16 | apply State.change_frame b32768 | apply State.finishJob_frame b2156856 | split | extract_lets | refine frame_fst ?_ (by assumption) | refine frame_snd ?_ (by assumption))

theorem State.closeTiles_frame {s : State} {agent jobid : Nat} (hM : Sub 16 msk) (hF : Frame msk s0 s) : Frame msk s0 (State.closeTiles s agent jobid) := by
  have b16 : Sub 16 msk := Sub.trans (b := 16) rfl hM
  unfold State.closeTiles
  with_reducible repeat' (first | assumption | apply State.setJob_frame b16 | refine foldl_frame ?_ ?_ | refine foldl_fst_frame ?_ ?_ | refine foldl_snd_frame ?_ ?_ | intro _ _ _ | intro _ _ | split | extract_lets | refine frame_fst ?_ (by assumption) | refine frame_snd ?_ (by assumption))

theorem State.digestMeas_frame {s : State} {j : Job} (hM : Sub 2156925 msk) (hF : Frame msk s0 s) : Frame msk s0 (State.digestMeas s j) := by
  have b16 : Sub 16 msk := Sub.trans (b := 2156925) rfl hM
  have b2124097 : Sub 2124097 msk := Sub.trans (b := 2156925) rfl hM
  have b2156860 : Sub 2156860 msk := Sub.trans (b := 2156925) rfl hM
  unfold State.digestMeas
  with_reducible repeat' (first | assumption | apply State.readTables_frame b2124097 | apply State.setJob_frame b16 | apply State.stopJob_frame b2156860 | split | extract_lets | refine frame_fst ?_ (by assumption) | refine frame_snd ?_ (by assumption))

theorem State.pushNotify_frame {s : State} {j : Job} (hM : Sub 10240 msk) (hF : Frame msk s0 s) : Frame msk s0 (State.pushNotify s j) := by
  have b10240 : Sub 10240 msk := Sub.trans (b := 10240) rfl hM
  unfold State.pushNotify
  with_reducible repeat' (first | assumption | apply State.sendPkt_frame b10240 | refine foldl_frame ?_ ?_ | refine foldl_fst_frame ?_ ?_ | refine foldl_snd_frame ?_ ?_ | intro _ _ _ | intro _ _ | split | refine frame_fst ?_ (by assumption) | refine frame_snd ?_ (by assumption))

theorem State.advance_frame {s : State} {agent jobid : Nat} (hM : Sub 2156925 msk) (hF : Frame msk s0 s) : Frame msk s0 (State.advance s agent jobid) := by
  have b16 : Sub 16 msk := Sub.trans (b := 2156925) rfl hM
  have b10240 : Sub 10240 msk := Sub.trans (b := 2156925) rfl hM
  have b10504 : Sub 10504 msk := Sub.trans (b := 2156925) rfl hM
  have b2156856 : Sub 2156856 msk := Sub.trans (b := 2156925) rfl hM
  have b2156925 : Sub 2156925 msk := Sub.trans (b := 2156925) rfl hM
  unfold State.advance
  with_reducible repeat' (first | assumption | apply State.closeTiles_frame b16 | apply State.syncCheck_frame b10504 | apply State.finishJob_frame b2156856 | apply State.digestMeas_frame b2156925 | apply State.pushNotify_frame b10240 | apply State.endJob_frame b2156856 | split | extract_lets | refine frame_fst ?_ (by assumption) | refine frame_snd ?_ (by assumption))

theorem State.retryJob_frame {s : State} {agent jobid : Nat} (hM : Sub 10545533 msk) (hF : Frame msk s0 s) : Frame msk s0 (State.retryJob s agent jobid) := by
  have b16 : Sub 16 msk := Sub.trans (b := 10545533) rfl hM
  have b10545533 : Sub 10545533 msk := Sub.trans (b := 10545533) rfl hM
  unfold State.retryJob
  with_reducible repeat' (first | assumption | apply State.setJob_frame b16 | apply State.caskLay_frame b10545533 | apply State.expandLay_frame b10545533 | apply State.precheckJob_frame b10545533 | split | extract_lets | refine frame_fst ?_ (by assumption) | refine frame_snd ?_ (by assumption))

end Sys2Proof.Machine
end

