-- ==== Sys2Proof/Laws/FrameEngTake.lean ====
section
/-! SUPPORT. The frame of every operation of Machine/EngTake.lean: which parts of the state it may change. -/

namespace Sys2Proof.Machine

variable {msk : Nat} {s0 : State}

theorem State.gatherIdx_frame {s : State} {m : Meas} (hM : Sub 2124097 msk) (hF : Frame msk s0 s) : Frame msk s0 (State.gatherIdx s m).1 := by
  have b2124097 : Sub 2124097 msk := Sub.trans (b := 2124097) rfl hM
  unfold State.gatherIdx
  with_reducible repeat' (first | assumption | apply State.readCheck_frame b2124097 | split | extract_lets | dsimp -zeta only | dsimp -zeta +zetaDelta only | refine frame_fst ?_ (by assumption) | refine frame_snd ?_ (by assumption))

theorem State.unqueue_frame {s : State} {k : Nat} {m : Meas} (hM : Sub 16 msk) (hF : Frame msk s0 s) : Frame msk s0 (State.unqueue s k m) := by
  have b16 : Sub 16 msk := Sub.trans (b := 16) rfl hM
  unfold State.unqueue
  with_reducible repeat' (first | assumption | apply State.setUnit_frame b16)

theorem State.decideRun_frame {s : State} {k : Nat} {m : Meas} {rd wr : List MSide} (hM : Sub 10547071 msk) (hF : Frame msk s0 s) : Frame msk s0 (State.decideRun s k m rd wr).1 := by
  have b16 : Sub 16 msk := Sub.trans (b := 10547071) rfl hM
  have b2124032 : Sub 2124032 msk := Sub.trans (b := 10547071) rfl hM
  have b2156860 : Sub 2156860 msk := Sub.trans (b := 10547071) rfl hM
  have b8388610 : Sub 8388610 msk := Sub.trans (b := 10547071) rfl hM
  have b10547031 : Sub 10547031 msk := Sub.trans (b := 10547071) rfl hM
  unfold State.decideRun
  with_reducible repeat' (first | assumption | apply State.stopJob_frame b2156860 | apply State.unqueue_frame b16 | apply State.bump_frame b2124032 | apply State.act_frame b10547031 | apply State.reopen_frame b10547031 | refine State.takeCow_frame b8388610 (by assumption) ?_ | split | extract_lets | refine frame_fst ?_ (by assumption) | refine frame_snd ?_ (by assumption))

theorem State.splitGather_frame {s : State} {k : Nat} {m : Meas} {j : Job} {i : Nat} {t : State} {m' : Meas} (hM : Sub 48 msk)
    (e : s.splitGather k m j i = some (t, m')) (hF : Frame msk s0 s) : Frame msk s0 t := by
  have b16 : Sub 16 msk := Sub.trans (b := 48) rfl hM
  have b48 : Sub 48 msk := Sub.trans (b := 48) rfl hM
  unfold State.splitGather at e
  split at e
  · dsimp only at e
    split at e
    · next h =>
      injection e with e
      injection e with e _
      exact e ▸ State.stageFor_frame b48 h (State.setJob_frame b16 (State.setUnit_frame b16 hF))
    · contradiction
  · contradiction

theorem State.complete_frame {s : State} {n k : Nat} {m : Meas} {r : Ready} (hM : Sub 10547071 msk) (hF : Frame msk s0 s) :
    Frame msk s0 (State.complete s n k m r).1 := by
  have b48 : Sub 48 msk := Sub.trans (b := 10547071) rfl hM
  have bT : Sub 2124097 msk := Sub.trans (b := 10547071) rfl hM
  have bS : Sub 2156860 msk := Sub.trans (b := 10547071) rfl hM
  have bH : Sub 2124032 msk := Sub.trans (b := 10547071) rfl hM
  have bF : Sub 10545468 msk := Sub.trans (b := 10547071) rfl hM
  have bD : Sub 10547071 msk := Sub.trans (b := 10547071) rfl hM
  unfold State.complete
  extract_lets j
  clear_value j
  cases j with
  | none => exact hF
  | some j' =>
  dsimp -zeta only
  extract_lets stop
  have hs : ∀ t st d, Frame msk s0 t → Frame msk s0 (stop t st d).1 := fun t st d h => State.stopJob_frame bS h
  clear_value stop
  split
  · have h1 := State.gatherIdx_frame (m := m) bT hF
    split
    · next h => exact hs _ _ _ (frame_fst h1 h)
    · next h =>
      have h2 := frame_fst h1 h
      clear h h1
      extract_lets s2
      have h3 : Frame msk s0 s2 := foldl_frame h2 fun _ _ h => State.readTables_frame bT h
      clear_value s2
      split
      · exact hs _ _ _ h3
      · with_reducible exact State.faultJob_frame bF (State.noteHole_frame bH h3)
      · split
        · exact hs _ _ _ h3
        · extract_lets i cut
          have h4 : ∀ t m', cut = some (t, m') → Frame msk s0 t := by
            intro t m' e
            simp only [cut] at e
            split at e
            · exact State.splitGather_frame b48 e h3
            · injection e with e; injection e with e _; exact e ▸ h3
          clear_value cut
          split
          · exact h3
          · have h5 := h4 _ _ rfl
            have h6 := fun rd => State.decideRun_frame (k := k) (m := ‹Meas›) (rd := rd) (wr := []) bD h5
            split
            · next h => exact frame_fst (h6 _) h
            · next h => exact frame_fst (h6 _) h
  · split
    · have h6 := fun rd => State.decideRun_frame (k := k) (m := m) (rd := rd) (wr := []) bD hF
      split
      · next h => exact frame_fst (h6 _) h
      · next h => exact frame_fst (h6 _) h
    · exact hF

theorem State.noteTaken_frame {s : State} {m : Meas} (hM : Sub 16 msk) (hF : Frame msk s0 s) : Frame msk s0 (State.noteTaken s m) := by
  have b16 : Sub 16 msk := Sub.trans (b := 16) rfl hM
  unfold State.noteTaken
  with_reducible repeat' (first | assumption | apply State.setJob_frame b16 | split | extract_lets | refine frame_fst ?_ (by assumption) | refine frame_snd ?_ (by assumption))

theorem State.takeRun_frame {s : State} {n k : Nat} {m : Meas} {r : Ready} {c : Colour} {b : Bud} (hM : Sub 2128208 msk) (hF : Frame msk s0 s) : Frame msk s0 (State.takeRun s n k m r c b).1 := by
  have b16 : Sub 16 msk := Sub.trans (b := 2128208) rfl hM
  have b64 : Sub 64 msk := Sub.trans (b := 2128208) rfl hM
  have b2124032 : Sub 2124032 msk := Sub.trans (b := 2128208) rfl hM
  have b2128128 : Sub 2128128 msk := Sub.trans (b := 2128208) rfl hM
  unfold State.takeRun
  with_reducible repeat' (first | assumption | apply State.unqueue_frame b16 | apply State.bump_frame b2124032 | apply State.setUnit_frame b16 | apply State.spend_frame b2128128 | apply State.onMcx_frame b64 | apply State.noteTaken_frame b16 | refine foldl_frame ?_ ?_ | refine foldl_fst_frame ?_ ?_ | refine foldl_snd_frame ?_ ?_ | intro _ _ _ | intro _ _ | split | extract_lets | refine frame_fst ?_ (by assumption) | refine frame_snd ?_ (by assumption))

theorem State.noteReds_frame {s : State} {agents : List Nat} (hM : Sub 2124032 msk) (hF : Frame msk s0 s) : Frame msk s0 (State.noteReds s agents) := by
  have b2124032 : Sub 2124032 msk := Sub.trans (b := 2124032) rfl hM
  unfold State.noteReds
  with_reducible repeat' (first | assumption | apply State.bump_frame b2124032 | refine foldl_frame ?_ ?_ | refine foldl_fst_frame ?_ ?_ | refine foldl_snd_frame ?_ ?_ | intro _ _ _ | intro _ _)

theorem State.tryTake_frame {s : State} {n : Nat} {yellow : Bool} {b : Bud} {fuel9 : Nat} (hM : Sub 10551167 msk) (hF : Frame msk s0 s) : Frame msk s0 (State.tryTake s n yellow b fuel9).1 := by
  have b16 : Sub 16 msk := Sub.trans (b := 10551167) rfl hM
  have b2124032 : Sub 2124032 msk := Sub.trans (b := 10551167) rfl hM
  have b2128208 : Sub 2128208 msk := Sub.trans (b := 10551167) rfl hM
  have b2156860 : Sub 2156860 msk := Sub.trans (b := 10551167) rfl hM
  have b10547071 : Sub 10547071 msk := Sub.trans (b := 10551167) rfl hM
  induction fuel9 generalizing s n yellow b with
  | zero => unfold State.tryTake; with_reducible repeat' (first | assumption | apply State.noteReds_frame b2124032 | apply State.stopJob_frame b2156860 | apply State.unqueue_frame b16 | apply State.decideRun_frame b10547071 | apply State.complete_frame b10547071 | apply State.takeRun_frame b2128208 | split | extract_lets | dsimp -zeta only | dsimp -zeta +zetaDelta only | refine frame_fst ?_ (by assumption) | refine frame_snd ?_ (by assumption))
  | succ fuel9 ih =>
    unfold State.tryTake
    with_reducible repeat' (first | assumption | apply ih | apply State.noteReds_frame b2124032 | apply State.stopJob_frame b2156860 | apply State.unqueue_frame b16 | apply State.decideRun_frame b10547071 | apply State.complete_frame b10547071 | apply State.takeRun_frame b2128208 | split | extract_lets | dsimp -zeta only | dsimp -zeta +zetaDelta only | refine frame_fst ?_ (by assumption) | refine frame_snd ?_ (by assumption))

theorem State.takeAll_frame {s : State} {b : Bud} (hM : Sub 10551167 msk) (hF : Frame msk s0 s) : Frame msk s0 (State.takeAll s b) := by
  have b10551167 : Sub 10551167 msk := Sub.trans (b := 10551167) rfl hM
  unfold State.takeAll
  with_reducible repeat' (first | assumption | apply State.tryTake_frame b10551167 | refine foldl_frame ?_ ?_ | refine foldl_fst_frame ?_ ?_ | refine foldl_snd_frame ?_ ?_ | intro _ _ _ | intro _ _ | split | extract_lets | refine frame_fst ?_ (by assumption) | refine frame_snd ?_ (by assumption))

end Sys2Proof.Machine
end

