-- ==== Sys2Proof/Laws/FrameEngDone.lean ====
section
/-! SUPPORT. The frame of every operation of Machine/EngDone.lean: which parts of the state it may change. -/

namespace Sys2Proof.Machine

variable {msk : Nat} {s0 : State}

theorem State.checkReads_frame {s : State} {r : Run} (hM : Sub 2124097 msk) (hF : Frame msk s0 s) : Frame msk s0 (State.checkReads s r) := by
  have b2124097 : Sub 2124097 msk := Sub.trans (b := 2124097) rfl hM
  unfold State.checkReads
  with_reducible repeat' (first | assumption | apply State.readCheck_frame b2124097 | refine foldl_frame ?_ ?_ | refine foldl_fst_frame ?_ ?_ | refine foldl_snd_frame ?_ ?_ | intro _ _ _ | intro _ _ | dsimp -zeta only | dsimp -zeta +zetaDelta only)

theorem State.forward_frame {s : State} {poison : Bool} {x : Nat × Nat} (hM : Sub 65 msk) (hF : Frame msk s0 s) : Frame msk s0 (State.forward s poison x) := by
  have b1 : Sub 1 msk := Sub.trans (b := 65) rfl hM
  have b64 : Sub 64 msk := Sub.trans (b := 65) rfl hM
  unfold State.forward
  with_reducible repeat' (first | assumption | apply State.setMem_frame b1 | apply State.copyPoison_frame b64 | apply State.clearPoison_frame b64 | exact fun w => Memory.write_wf w | exact fun w => Memory.writeMasked_wf w | exact fun w => Memory.copy_wf w | exact fun w => scatterCells_wf w | refine foldl_frame ?_ ?_ | refine foldl_fst_frame ?_ ?_ | refine foldl_snd_frame ?_ ?_ | intro _ _ _ | intro _ _ | split | extract_lets | dsimp -zeta only | dsimp -zeta +zetaDelta only)

theorem State.writeCells_frame {s : State} {rs : List (Nat × Nat)} {cs : List Host.Cell} (hM : Sub 65 msk) (hF : Frame msk s0 s) : Frame msk s0 (State.writeCells s rs cs) := by
  have b1 : Sub 1 msk := Sub.trans (b := 65) rfl hM
  have b64 : Sub 64 msk := Sub.trans (b := 65) rfl hM
  have b65 : Sub 65 msk := Sub.trans (b := 65) rfl hM
  unfold State.writeCells
  with_reducible repeat' (first | assumption | apply State.clearPoison_frame b64 | apply State.forward_frame b65 | apply State.setMem_frame b1 | exact fun w => Memory.write_wf w | exact fun w => Memory.writeMasked_wf w | exact fun w => Memory.copy_wf w | exact fun w => scatterCells_wf w | refine foldl_frame ?_ ?_ | refine foldl_fst_frame ?_ ?_ | refine foldl_snd_frame ?_ ?_ | intro _ _ _ | intro _ _)

theorem State.writeAt_frame {s : State} {r : Run} {off len : Nat} {cs : List Host.Cell} (hM : Sub 65 msk) (hF : Frame msk s0 s) : Frame msk s0 (State.writeAt s r off len cs) := by
  have b65 : Sub 65 msk := Sub.trans (b := 65) rfl hM
  unfold State.writeAt
  with_reducible repeat' (first | assumption | apply State.writeCells_frame b65 | refine foldl_frame ?_ ?_ | refine foldl_fst_frame ?_ ?_ | refine foldl_snd_frame ?_ ?_ | intro _ _ _ | intro _ _ | split | extract_lets)

theorem State.writeBytes_frame {s : State} {r : Run} {off : Nat} {bs : List Byte} (hM : Sub 65 msk) (hF : Frame msk s0 s) : Frame msk s0 (State.writeBytes s r off bs) := by
  have b65 : Sub 65 msk := Sub.trans (b := 65) rfl hM
  unfold State.writeBytes
  with_reducible repeat' (first | assumption | apply State.writeAt_frame b65)

theorem State.actStep_frame {s : State} {m : Meas} (hM : Sub 16 msk) (hF : Frame msk s0 s) : Frame msk s0 (State.actStep s m) := by
  have b16 : Sub 16 msk := Sub.trans (b := 16) rfl hM
  unfold State.actStep
  with_reducible repeat' (first | assumption | apply State.setAct_frame b16)

theorem State.copyRun_frame {s : State} {r : Run} (hM : Sub 65 msk) (hF : Frame msk s0 s) : Frame msk s0 (State.copyRun s r) := by
  have b1 : Sub 1 msk := Sub.trans (b := 65) rfl hM
  have b64 : Sub 64 msk := Sub.trans (b := 65) rfl hM
  have b65 : Sub 65 msk := Sub.trans (b := 65) rfl hM
  unfold State.copyRun
  with_reducible repeat' (first | assumption | apply State.setMem_frame b1 | apply State.forward_frame b65 | apply State.copyPoison_frame b64 | exact fun w => Memory.write_wf w | exact fun w => Memory.writeMasked_wf w | exact fun w => Memory.copy_wf w | exact fun w => scatterCells_wf w | refine foldl_frame ?_ ?_ | refine foldl_fst_frame ?_ ?_ | refine foldl_snd_frame ?_ ?_ | intro _ _ _ | intro _ _ | split | extract_lets)

theorem State.sendData_frame {s : State} {r : Run} {id : Nat} (hM : Sub 2124564 msk) (hF : Frame msk s0 s) : Frame msk s0 (State.sendData s r id) := by
  have b4 : Sub 4 msk := Sub.trans (b := 2124564) rfl hM
  have b16 : Sub 16 msk := Sub.trans (b := 2124564) rfl hM
  have b10240 : Sub 10240 msk := Sub.trans (b := 2124564) rfl hM
  have b2124544 : Sub 2124544 msk := Sub.trans (b := 2124564) rfl hM
  have b2124548 : Sub 2124548 msk := Sub.trans (b := 2124564) rfl hM
  have b2124564 : Sub 2124564 msk := Sub.trans (b := 2124564) rfl hM
  unfold State.sendData
  with_reducible repeat' (first | assumption | apply State.stopData_frame b2124564 | apply State.hostTlp_frame b10240 | apply State.sendPkt_frame b10240 | apply State.actStep_frame b16 | apply State.transferEnds_frame b2124548 | apply State.dropAct_frame b16 | apply State.onDir_frame b4 | apply State.putRing_frame b2124544 | refine foldl_frame ?_ ?_ | refine foldl_fst_frame ?_ ?_ | refine foldl_snd_frame ?_ ?_ | intro _ _ _ | intro _ _ | split | extract_lets | refine frame_fst ?_ (by assumption) | refine frame_snd ?_ (by assumption))

theorem State.doneInternal_frame {s : State} {r : Run} (hM : Sub 2157439 msk) (hF : Frame msk s0 s) : Frame msk s0 (State.doneInternal s r) := by
  have b16 : Sub 16 msk := Sub.trans (b := 2157439) rfl hM
  have b18 : Sub 18 msk := Sub.trans (b := 2157439) rfl hM
  have b65 : Sub 65 msk := Sub.trans (b := 2157439) rfl hM
  have b2124564 : Sub 2124564 msk := Sub.trans (b := 2157439) rfl hM
  have b2156858 : Sub 2156858 msk := Sub.trans (b := 2157439) rfl hM
  unfold State.doneInternal
  with_reducible repeat' (first | assumption | apply State.sendData_frame b2124564 | apply State.writeCells_frame b65 | apply State.actStep_frame b16 | apply State.copyRun_frame b65 | apply State.rackCopied_frame b18 | apply State.rackEnd_frame b2156858 | apply State.writeBytes_frame b65 | refine foldl_frame ?_ ?_ | refine foldl_fst_frame ?_ ?_ | refine foldl_snd_frame ?_ ?_ | intro _ _ _ | intro _ _ | split | refine frame_fst ?_ (by assumption) | refine frame_snd ?_ (by assumption))

theorem State.scrubTorn_frame {s : State} {j : Job} {m : Meas} (hM : Sub 20 msk) (hF : Frame msk s0 s) : Frame msk s0 (State.scrubTorn s j m) := by
  have b4 : Sub 4 msk := Sub.trans (b := 20) rfl hM
  have b16 : Sub 16 msk := Sub.trans (b := 20) rfl hM
  unfold State.scrubTorn
  with_reducible repeat' (first | assumption | apply State.setJob_frame b16 | apply State.setEntry_frame b4 | refine foldl_frame ?_ ?_ | refine foldl_fst_frame ?_ ?_ | refine foldl_snd_frame ?_ ?_ | intro _ _ _ | intro _ _ | split | extract_lets | refine frame_fst ?_ (by assumption) | refine frame_snd ?_ (by assumption))

theorem State.doneCompress_frame {s : State} {n : Nat} {j : Job} {k : Nat} {r : Run} (hM : Sub 16 msk) (hF : Frame msk s0 s) : Frame msk s0 (State.doneCompress s n j k r) := by
  have b16 : Sub 16 msk := Sub.trans (b := 16) rfl hM
  unfold State.doneCompress
  with_reducible repeat' (first | assumption | apply State.setJob_frame b16 | refine foldl_frame ?_ ?_ | refine foldl_fst_frame ?_ ?_ | refine foldl_snd_frame ?_ ?_ | intro _ _ _ | intro _ _ | extract_lets)

theorem State.doneHeader_frame {s : State} {j : Job} {r : Run} (hM : Sub 2156925 msk) (hF : Frame msk s0 s) : Frame msk s0 (State.doneHeader s j r) := by
  have b16 : Sub 16 msk := Sub.trans (b := 2156925) rfl hM
  have b2124105 : Sub 2124105 msk := Sub.trans (b := 2156925) rfl hM
  have b2156860 : Sub 2156860 msk := Sub.trans (b := 2156925) rfl hM
  unfold State.doneHeader
  with_reducible repeat' (first | assumption | apply State.stopJob_frame b2156860 | apply State.preTile_frame b2124105 | apply State.setJob_frame b16 | refine foldl_frame ?_ ?_ | refine foldl_fst_frame ?_ ?_ | refine foldl_snd_frame ?_ ?_ | intro _ _ _ | intro _ _ | split | extract_lets | refine frame_fst ?_ (by assumption) | refine frame_snd ?_ (by assumption))

theorem State.doneExpand_frame {s : State} {j : Job} {r : Run} (hM : Sub 2156925 msk) (hF : Frame msk s0 s) : Frame msk s0 (State.doneExpand s j r) := by
  have b16 : Sub 16 msk := Sub.trans (b := 2156925) rfl hM
  have b65 : Sub 65 msk := Sub.trans (b := 2156925) rfl hM
  have b2156860 : Sub 2156860 msk := Sub.trans (b := 2156925) rfl hM
  unfold State.doneExpand
  with_reducible repeat' (first | assumption | apply State.setJob_frame b16 | apply State.stopJob_frame b2156860 | apply State.writeBytes_frame b65 | refine foldl_frame ?_ ?_ | refine foldl_fst_frame ?_ ?_ | refine foldl_snd_frame ?_ ?_ | intro _ _ _ | intro _ _ | split | extract_lets | refine frame_fst ?_ (by assumption) | refine frame_snd ?_ (by assumption))

theorem State.donePush_frame {s : State} {j : Job} {k : Nat} {r : Run} (hM : Sub 10256 msk) (hF : Frame msk s0 s) : Frame msk s0 (State.donePush s j k r) := by
  have b16 : Sub 16 msk := Sub.trans (b := 10256) rfl hM
  have b10240 : Sub 10240 msk := Sub.trans (b := 10256) rfl hM
  unfold State.donePush
  with_reducible repeat' (first | assumption | apply State.sendPkt_frame b10240 | apply State.setJob_frame b16 | refine foldl_frame ?_ ?_ | refine foldl_fst_frame ?_ ?_ | refine foldl_snd_frame ?_ ?_ | intro _ _ _ | intro _ _ | split | extract_lets | refine frame_fst ?_ (by assumption) | refine frame_snd ?_ (by assumption))

theorem State.noteEnc_frame {s : State} {n : Nat} {j : Job} {elems sat nan : Nat} (hM : Sub 2124048 msk) (hF : Frame msk s0 s) : Frame msk s0 (State.noteEnc s n j elems sat nan) := by
  have b16 : Sub 16 msk := Sub.trans (b := 2124048) rfl hM
  have b2124032 : Sub 2124032 msk := Sub.trans (b := 2124048) rfl hM
  unfold State.noteEnc
  with_reducible repeat' (first | assumption | apply State.setJob_frame b16 | apply State.bump_frame b2124032 | split | extract_lets)

theorem State.putVals_frame {s : State} {n : Nat} {j : Job} {r : Run} {off idx : Nat} {vals : List Nat} (hM : Sub 2124113 msk) (hF : Frame msk s0 s) : Frame msk s0 (State.putVals s n j r off idx vals) := by
  have b65 : Sub 65 msk := Sub.trans (b := 2124113) rfl hM
  have b2124048 : Sub 2124048 msk := Sub.trans (b := 2124113) rfl hM
  unfold State.putVals
  with_reducible repeat' (first | assumption | apply State.writeBytes_frame b65 | apply State.noteEnc_frame b2124048 | extract_lets)

theorem State.addPart_frame {s : State} {j : Job} {id : Nat} {f : OutAcc → OutAcc} (hM : Sub 48 msk) (hF : Frame msk s0 s) : Frame msk s0 (State.addPart s j id f).1 := by
  have b16 : Sub 16 msk := Sub.trans (b := 48) rfl hM
  have b32 : Sub 32 msk := Sub.trans (b := 48) rfl hM
  unfold State.addPart
  with_reducible repeat' (first | assumption | apply State.freeStage_frame b32 | apply State.setJob_frame b16 | split | extract_lets | refine frame_fst ?_ (by assumption) | refine frame_snd ?_ (by assumption))

theorem State.doneQuant_frame {s : State} {n : Nat} {j : Job} {r : Run} (hM : Sub 2124113 msk) (hF : Frame msk s0 s) : Frame msk s0 (State.doneQuant s n j r) := by
  have b2124113 : Sub 2124113 msk := Sub.trans (b := 2124113) rfl hM
  unfold State.doneQuant
  with_reducible repeat' (first | assumption | apply State.putVals_frame b2124113 | split | extract_lets)

theorem State.doneReduce_frame {s : State} {n : Nat} {j : Job} {r : Run} (hM : Sub 2124145 msk) (hF : Frame msk s0 s) : Frame msk s0 (State.doneReduce s n j r) := by
  have b48 : Sub 48 msk := Sub.trans (b := 2124145) rfl hM
  have b2124113 : Sub 2124113 msk := Sub.trans (b := 2124145) rfl hM
  unfold State.doneReduce
  with_reducible repeat' (first | assumption | apply State.putVals_frame b2124113 | apply State.addPart_frame b48 | split | extract_lets | refine frame_fst ?_ (by assumption) | refine frame_snd ?_ (by assumption))

theorem State.doneTop_frame {s : State} {n : Nat} {j : Job} {r : Run} (hM : Sub 2124145 msk) (hF : Frame msk s0 s) : Frame msk s0 (State.doneTop s n j r) := by
  have b48 : Sub 48 msk := Sub.trans (b := 2124145) rfl hM
  have b65 : Sub 65 msk := Sub.trans (b := 2124145) rfl hM
  have b2124048 : Sub 2124048 msk := Sub.trans (b := 2124145) rfl hM
  unfold State.doneTop
  with_reducible repeat' (first | assumption | apply State.writeBytes_frame b65 | apply State.noteEnc_frame b2124048 | apply State.addPart_frame b48 | split | extract_lets | refine frame_fst ?_ (by assumption) | refine frame_snd ?_ (by assumption))

theorem State.doneGather_frame {s : State} {n k : Nat} {j : Job} {r : Run} (hM : Sub 2124145 msk) (hF : Frame msk s0 s) : Frame msk s0 (State.doneGather s n k j r) := by
  have b48 : Sub 48 msk := Sub.trans (b := 2124145) rfl hM
  have b2124113 : Sub 2124113 msk := Sub.trans (b := 2124145) rfl hM
  unfold State.doneGather
  with_reducible repeat' (first | assumption | apply State.putVals_frame b2124113 | apply State.addPart_frame b48 | refine foldl_frame ?_ ?_ | refine foldl_fst_frame ?_ ?_ | refine foldl_snd_frame ?_ ?_ | intro _ _ _ | intro _ _ | split | extract_lets | refine frame_fst ?_ (by assumption) | refine frame_snd ?_ (by assumption))

theorem State.tileEffect_frame {s : State} {n k : Nat} {j : Job} {r : Run} (hM : Sub 2156925 msk) (hF : Frame msk s0 s) : Frame msk s0 (State.tileEffect s n k j r) := by
  have b16 : Sub 16 msk := Sub.trans (b := 2156925) rfl hM
  have b20 : Sub 20 msk := Sub.trans (b := 2156925) rfl hM
  have b65 : Sub 65 msk := Sub.trans (b := 2156925) rfl hM
  have b10256 : Sub 10256 msk := Sub.trans (b := 2156925) rfl hM
  have b2124113 : Sub 2124113 msk := Sub.trans (b := 2156925) rfl hM
  have b2124145 : Sub 2124145 msk := Sub.trans (b := 2156925) rfl hM
  have b2156925 : Sub 2156925 msk := Sub.trans (b := 2156925) rfl hM
  unfold State.tileEffect
  with_reducible repeat' (first | assumption | apply State.writeBytes_frame b65 | apply State.setJob_frame b16 | apply State.doneHeader_frame b2156925 | apply State.doneExpand_frame b2156925 | apply State.writeAt_frame b65 | apply State.scrubTorn_frame b20 | apply State.doneCompress_frame b16 | apply State.donePush_frame b10256 | apply State.doneReduce_frame b2124145 | apply State.doneGather_frame b2124145 | apply State.doneTop_frame b2124145 | apply State.doneQuant_frame b2124113 | split | extract_lets | refine frame_fst ?_ (by assumption) | refine frame_snd ?_ (by assumption))

theorem State.doneTile_frame {s : State} {n k : Nat} {r : Run} (hM : Sub 2156925 msk) (hF : Frame msk s0 s) : Frame msk s0 (State.doneTile s n k r) := by
  have b16 : Sub 16 msk := Sub.trans (b := 2156925) rfl hM
  have b32768 : Sub 32768 msk := Sub.trans (b := 2156925) rfl hM
  have b2156860 : Sub 2156860 msk := Sub.trans (b := 2156925) rfl hM
  have b2156925 : Sub 2156925 msk := Sub.trans (b := 2156925) rfl hM
  unfold State.doneTile
  with_reducible repeat' (first | assumption | apply State.setJob_frame b16 | apply State.stopJob_frame b2156860 | apply State.advance_frame b2156925 | apply State.tileEffect_frame b2156925 | apply State.change_frame b32768 | split | extract_lets | refine frame_fst ?_ (by assumption) | refine frame_snd ?_ (by assumption))

end Sys2Proof.Machine
end

