-- ==== Sys2Proof/Laws/FrameLayer.lean ====
section
/-! SUPPORT. The frame of every operation of Machine/Layer.lean: which parts of the state it may change. -/

namespace Sys2Proof.Machine

variable {msk : Nat} {s0 : State}

theorem State.setModel_frame {s : State} {m : Nat} {f : Model → Model} (hM : Sub 32 msk) (hF : Frame msk s0 s) : Frame msk s0 (State.setModel s m f) := by
  have b32 : Sub 32 msk := Sub.trans (b := 32) rfl hM
  unfold State.setModel
  with_reducible repeat' (first | assumption | apply State.onOpu_frame b32)

theorem State.setStep_frame {s : State} {a jid : Nat} {f : StepRun → StepRun} (hM : Sub 16 msk) (hF : Frame msk s0 s) : Frame msk s0 (State.setStep s a jid f) := by
  have b16 : Sub 16 msk := Sub.trans (b := 16) rfl hM
  unfold State.setStep
  with_reducible repeat' (first | assumption | apply State.setJob_frame b16)

theorem State.startEntry_frame {s : State} {a jid : Nat} (hM : Sub 16 msk) (hF : Frame msk s0 s) : Frame msk s0 (State.startEntry s a jid) := by
  have b16 : Sub 16 msk := Sub.trans (b := 16) rfl hM
  unfold State.startEntry
  with_reducible repeat' (first | assumption | apply State.setJob_frame b16 | refine foldl_frame ?_ ?_ | refine foldl_fst_frame ?_ ?_ | refine foldl_snd_frame ?_ ?_ | intro _ _ _ | intro _ _ | split | extract_lets | refine frame_fst ?_ (by assumption) | refine frame_snd ?_ (by assumption))

theorem State.noteStep_frame {s : State} {j : Job} {r : StepRun} {sat nan : Nat} (hM : Sub 2124048 msk) (hF : Frame msk s0 s) : Frame msk s0 (State.noteStep s j r sat nan) := by
  have b16 : Sub 16 msk := Sub.trans (b := 2124048) rfl hM
  have b2124032 : Sub 2124032 msk := Sub.trans (b := 2124048) rfl hM
  unfold State.noteStep
  with_reducible repeat' (first | assumption | apply State.setJob_frame b16 | apply State.bump_frame b2124032 | split | extract_lets | dsimp -zeta only | dsimp -zeta +zetaDelta only)

theorem State.startOut_frame {s : State} {a jid : Nat} (hM : Sub 2124048 msk) (hF : Frame msk s0 s) : Frame msk s0 (State.startOut s a jid) := by
  have b16 : Sub 16 msk := Sub.trans (b := 2124048) rfl hM
  have b2124048 : Sub 2124048 msk := Sub.trans (b := 2124048) rfl hM
  unfold State.startOut
  with_reducible repeat' (first | assumption | apply State.setJob_frame b16 | apply State.noteStep_frame b2124048 | split | extract_lets | refine frame_fst ?_ (by assumption) | refine frame_snd ?_ (by assumption))

theorem State.startIn_frame {s : State} {a jid : Nat} (hM : Sub 16 msk) (hF : Frame msk s0 s) : Frame msk s0 (State.startIn s a jid) := by
  have b16 : Sub 16 msk := Sub.trans (b := 16) rfl hM
  unfold State.startIn
  with_reducible repeat' (first | assumption | apply State.setStep_frame b16 | split | extract_lets | refine frame_fst ?_ (by assumption) | refine frame_snd ?_ (by assumption))

theorem State.joinDie_frame {s : State} {a jid d : Nat} (hM : Sub 32 msk) (hF : Frame msk s0 s) : Frame msk s0 (State.joinDie s a jid d) := by
  have b32 : Sub 32 msk := Sub.trans (b := 32) rfl hM
  unfold State.joinDie
  with_reducible repeat' (first | assumption | apply State.onOpu_frame b32)

theorem State.quitDie_frame {s : State} {a jid : Nat} (hM : Sub 48 msk) (hF : Frame msk s0 s) : Frame msk s0 (State.quitDie s a jid) := by
  have b16 : Sub 16 msk := Sub.trans (b := 48) rfl hM
  have b32 : Sub 32 msk := Sub.trans (b := 48) rfl hM
  unfold State.quitDie
  with_reducible repeat' (first | assumption | apply State.freeStore_frame b32 | apply State.setStep_frame b16 | split | refine frame_fst ?_ (by assumption) | refine frame_snd ?_ (by assumption))

theorem State.claimDie_frame {s : State} {d : Nat} {l : List Nat} (hM : Sub 2124080 msk) (hF : Frame msk s0 s) : Frame msk s0 (s.claimDie d l) := by
  have b16 : Sub 16 msk := Sub.trans (b := 2124080) rfl hM
  have b32 : Sub 32 msk := Sub.trans (b := 2124080) rfl hM
  have bX : Sub 2124032 msk := Sub.trans (b := 2124080) rfl hM
  induction l generalizing s with
  | nil => exact hF
  | cons k rest ih =>
    unfold State.claimDie
    extract_lets a jid
    split
    · exact ih hF
    · dsimp only
      split
      · exact ih hF
      · split
        · split
          · exact hF
          · exact State.bump_frame bX (State.setStep_frame b16 hF)
        · exact ih (State.setStep_frame b16 (State.onOpu_frame b32 hF))

theorem State.leaveDie_frame {s : State} {a jid : Nat} {m : Model} {r : StepRun} (hM : Sub 2124080 msk) (hF : Frame msk s0 s) : Frame msk s0 (State.leaveDie s a jid m r) := by
  have b16 : Sub 16 msk := Sub.trans (b := 2124080) rfl hM
  have b32 : Sub 32 msk := Sub.trans (b := 2124080) rfl hM
  have b48 : Sub 48 msk := Sub.trans (b := 2124080) rfl hM
  have b2124032 : Sub 2124032 msk := Sub.trans (b := 2124080) rfl hM
  unfold State.leaveDie
  with_reducible repeat' (first | assumption | apply State.quitDie_frame b48 | apply State.setStep_frame b16 | apply State.onOpu_frame b32 | apply State.bump_frame b2124032 | extract_lets | dsimp -zeta only | dsimp -zeta +zetaDelta only)

theorem State.stepTick_frame {s : State} {a jid : Nat} (hM : Sub 2124080 msk) (hF : Frame msk s0 s) : Frame msk s0 (State.stepTick s a jid) := by
  have b16 : Sub 16 msk := Sub.trans (b := 2124080) rfl hM
  have b2124032 : Sub 2124032 msk := Sub.trans (b := 2124080) rfl hM
  have b2124048 : Sub 2124048 msk := Sub.trans (b := 2124080) rfl hM
  have b2124080 : Sub 2124080 msk := Sub.trans (b := 2124080) rfl hM
  unfold State.stepTick
  with_reducible repeat' (first | assumption | apply State.startIn_frame b16 | apply State.startEntry_frame b16 | apply State.bump_frame b2124032 | apply State.setJob_frame b16 | apply State.startOut_frame b2124048 | apply State.setStep_frame b16 | apply State.leaveDie_frame b2124080 | split | extract_lets | refine frame_fst ?_ (by assumption) | refine frame_snd ?_ (by assumption))

theorem State.dieTick_frame {s : State} {d : Nat} {fuel9 : Nat} (hM : Sub 2124080 msk) (hF : Frame msk s0 s) : Frame msk s0 (State.dieTick s d fuel9) := by
  have b2124080 : Sub 2124080 msk := Sub.trans (b := 2124080) rfl hM
  induction fuel9 generalizing s d with
  | zero => unfold State.dieTick; with_reducible repeat' (first | assumption | apply State.claimDie_frame b2124080 | apply State.stepTick_frame b2124080 | split | extract_lets | dsimp -zeta only | dsimp -zeta +zetaDelta only | refine frame_fst ?_ (by assumption) | refine frame_snd ?_ (by assumption))
  | succ fuel9 ih =>
    unfold State.dieTick
    with_reducible repeat' (first | assumption | apply ih | apply State.claimDie_frame b2124080 | apply State.stepTick_frame b2124080 | split | extract_lets | dsimp -zeta only | dsimp -zeta +zetaDelta only | refine frame_fst ?_ (by assumption) | refine frame_snd ?_ (by assumption))

theorem State.crossTick_frame {s : State} (hM : Sub 48 msk) (hF : Frame msk s0 s) : Frame msk s0 (State.crossTick s) := by
  have b16 : Sub 16 msk := Sub.trans (b := 48) rfl hM
  have b32 : Sub 32 msk := Sub.trans (b := 48) rfl hM
  unfold State.crossTick
  with_reducible repeat' (first | assumption | apply State.onOpu_frame b32 | apply State.setStep_frame b16 | apply State.joinDie_frame b32 | refine foldl_frame ?_ ?_ | refine foldl_fst_frame ?_ ?_ | refine foldl_snd_frame ?_ ?_ | intro _ _ _ | intro _ _ | split | extract_lets | dsimp -zeta only | dsimp -zeta +zetaDelta only | refine frame_fst ?_ (by assumption) | refine frame_snd ?_ (by assumption))

theorem State.stepsTick_frame {s : State} (hM : Sub 2156860 msk) (hF : Frame msk s0 s) : Frame msk s0 (State.stepsTick s) := by
  have b48 : Sub 48 msk := Sub.trans (b := 2156860) rfl hM
  have b2124080 : Sub 2124080 msk := Sub.trans (b := 2156860) rfl hM
  have b2156856 : Sub 2156856 msk := Sub.trans (b := 2156860) rfl hM
  have b2156860 : Sub 2156860 msk := Sub.trans (b := 2156860) rfl hM
  unfold State.stepsTick
  with_reducible repeat' (first | assumption | apply State.finishJob_frame b2156856 | apply State.stopJob_frame b2156860 | apply State.crossTick_frame b48 | apply State.dieTick_frame b2124080 | refine foldl_frame ?_ ?_ | refine foldl_fst_frame ?_ ?_ | refine foldl_snd_frame ?_ ?_ | intro _ _ _ | intro _ _ | extract_lets)

theorem State.stageStep_frame {s : State} {a jid : Nat} {r : StepRun} {x : Meas} (hM : Sub 2124080 msk) (hF : Frame msk s0 s) : Frame msk s0 (State.stageStep s a jid r x).2 := by
  have b16 : Sub 16 msk := Sub.trans (b := 2124080) rfl hM
  have b32 : Sub 32 msk := Sub.trans (b := 2124080) rfl hM
  have b2124032 : Sub 2124032 msk := Sub.trans (b := 2124080) rfl hM
  unfold State.stageStep
  with_reducible repeat' (first | assumption | refine State.takeStage_frame b32 (by assumption) ?_ | apply State.bump_frame b2124032 | apply State.setJob_frame b16 | split | extract_lets | dsimp -zeta only | dsimp -zeta +zetaDelta only | refine frame_fst ?_ (by assumption) | refine frame_snd ?_ (by assumption))

theorem State.stageStep_some_frame {s t : State} {a jid : Nat} {r : StepRun} {x : Meas} (hM : Sub 48 msk)
    (e : (s.stageStep a jid r x).1 = some t) (hF : Frame msk s0 s) : Frame msk s0 t := by
  have b16 : Sub 16 msk := Sub.trans (b := 48) rfl hM
  have b32 : Sub 32 msk := Sub.trans (b := 48) rfl hM
  unfold State.stageStep at e
  dsimp only at e
  split at e
  · exact Option.some.inj e ▸ hF
  · split at e
    · exact Option.some.inj e ▸ hF
    · split at e
      · contradiction
      · next h => exact Option.some.inj e ▸ State.setJob_frame b16 (State.takeStage_frame b32 h hF)
theorem State.feedStep_frame {s : State} {a jid : Nat} {fuel : Nat} (hM : Sub 2124080 msk) (hF : Frame msk s0 s) :
    Frame msk s0 (s.feedStep a jid fuel) := by
  have b16 : Sub 16 msk := Sub.trans (b := 2124080) rfl hM
  have b48 : Sub 48 msk := Sub.trans (b := 2124080) rfl hM
  have bX : Sub 2124080 msk := Sub.trans (b := 2124080) rfl hM
  induction fuel generalizing s with
  | zero => exact hF
  | succ fuel ih =>
    unfold State.feedStep
    split
    · exact hF
    · split
      · exact hF
      · split
        · next h => exact frame_snd (State.stageStep_frame bX hF) h
        · next h =>
          have h1 := State.stageStep_some_frame b48 (by rw [h]) hF
          split
          · exact h1
          · next h2 => exact ih (State.setStep_frame b16 (State.placeMeas_frame b16 h2 h1))

theorem State.kvAppend_frame {s : State} {j : Job} {r : StepRun} {m : Model} {e : List Word} {x : Run} (hM : Sub 2124113 msk) (hF : Frame msk s0 s) : Frame msk s0 (State.kvAppend s j r m e x) := by
  have b65 : Sub 65 msk := Sub.trans (b := 2124113) rfl hM
  have b2124048 : Sub 2124048 msk := Sub.trans (b := 2124113) rfl hM
  unfold State.kvAppend
  with_reducible repeat' (first | assumption | apply State.noteStep_frame b2124048 | apply State.writeBytes_frame b65 | refine foldl_frame ?_ ?_ | refine foldl_fst_frame ?_ ?_ | refine foldl_snd_frame ?_ ?_ | intro _ _ _ | intro _ _ | extract_lets)

theorem State.entryDone_frame {s : State} {j : Job} {r : StepRun} {m : Model} {l : Layer} {e : List Word} (hM : Sub 2124048 msk) (hF : Frame msk s0 s) : Frame msk s0 (State.entryDone s j r m l e) := by
  have b16 : Sub 16 msk := Sub.trans (b := 2124048) rfl hM
  have b2124048 : Sub 2124048 msk := Sub.trans (b := 2124048) rfl hM
  unfold State.entryDone
  with_reducible repeat' (first | assumption | apply State.setStep_frame b16 | apply State.noteStep_frame b2124048 | refine foldl_frame ?_ ?_ | refine foldl_fst_frame ?_ ?_ | refine foldl_snd_frame ?_ ?_ | intro _ _ _ | intro _ _ | split | extract_lets | refine frame_fst ?_ (by assumption) | refine frame_snd ?_ (by assumption))

theorem State.doneLayer_frame {s : State} {x : Run} (hM : Sub 2156925 msk) (hF : Frame msk s0 s) : Frame msk s0 (State.doneLayer s x) := by
  have b16 : Sub 16 msk := Sub.trans (b := 2156925) rfl hM
  have b48 : Sub 48 msk := Sub.trans (b := 2156925) rfl hM
  have b65 : Sub 65 msk := Sub.trans (b := 2156925) rfl hM
  have b32768 : Sub 32768 msk := Sub.trans (b := 2156925) rfl hM
  have b2124048 : Sub 2124048 msk := Sub.trans (b := 2156925) rfl hM
  have b2124113 : Sub 2124113 msk := Sub.trans (b := 2156925) rfl hM
  have b2156860 : Sub 2156860 msk := Sub.trans (b := 2156925) rfl hM
  have b2156925 : Sub 2156925 msk := Sub.trans (b := 2156925) rfl hM
  unfold State.doneLayer
  with_reducible repeat' (first | assumption | apply State.setStep_frame b16 | apply State.stopJob_frame b2156860 | apply State.advance_frame b2156925 | apply State.setJob_frame b16 | apply State.writeBytes_frame b65 | apply State.addPart_frame b48 | apply State.kvAppend_frame b2124113 | apply State.quitDie_frame b48 | apply State.entryDone_frame b2124048 | apply State.change_frame b32768 | split | extract_lets | dsimp -zeta only | dsimp -zeta +zetaDelta only | refine frame_fst ?_ (by assumption) | refine frame_snd ?_ (by assumption))

theorem State.precheckStep_frame {s : State} {j : Job} {r : StepRun} (hM : Sub 10545533 msk) (hF : Frame msk s0 s) : Frame msk s0 (State.precheckStep s j r) := by
  have b16 : Sub 16 msk := Sub.trans (b := 10545533) rfl hM
  have b32 : Sub 32 msk := Sub.trans (b := 10545533) rfl hM
  have b32768 : Sub 32768 msk := Sub.trans (b := 10545533) rfl hM
  have b2124105 : Sub 2124105 msk := Sub.trans (b := 10545533) rfl hM
  have b2156860 : Sub 2156860 msk := Sub.trans (b := 10545533) rfl hM
  have b10545468 : Sub 10545468 msk := Sub.trans (b := 10545533) rfl hM
  unfold State.precheckStep
  with_reducible repeat' (first | assumption | apply State.preTile_frame b2124105 | apply State.stopJob_frame b2156860 | apply State.faultJob_frame b10545468 | apply State.setJob_frame b16 | apply State.joinDie_frame b32 | apply State.change_frame b32768 | split | extract_lets | dsimp -zeta only | dsimp -zeta +zetaDelta only | refine frame_fst ?_ (by assumption) | refine frame_snd ?_ (by assumption))

theorem State.reissue_frame {s : State} {agent jobid : Nat} {w : Option Issuer × Option Nat} {t9 : State} (hM : Sub 43280 msk) (e9 : (State.reissue s agent jobid w) = some t9) (hF : Frame msk s0 s) : Frame msk s0 t9 := by
  have b16 : Sub 16 msk := Sub.trans (b := 43280) rfl hM
  have b43264 : Sub 43264 msk := Sub.trans (b := 43280) rfl hM
  unfold State.reissue at e9
  repeat' (first | contradiction | (simp only [Sum.inl.injEq, Option.some.injEq, Prod.mk.injEq] at e9; obtain ⟨_, e9⟩ := e9; subst e9) | (injection e9 with e9; subst e9) | split at e9 | dsimp only at e9)
  all_goals with_reducible repeat' (first | assumption | apply State.setJob_frame b16 | apply State.answerR16_frame b43264 | apply State.jobAnswer_frame b43264 | split | extract_lets | refine frame_fst ?_ (by assumption) | refine frame_snd ?_ (by assumption))

theorem State.enterJob_frame {s : State} {j : Job} (hM : Sub 32784 msk) (hF : Frame msk s0 s) : Frame msk s0 (State.enterJob s j) := by
  have b16 : Sub 16 msk := Sub.trans (b := 32784) rfl hM
  have b32768 : Sub 32768 msk := Sub.trans (b := 32784) rfl hM
  unfold State.enterJob
  with_reducible repeat' (first | assumption | apply State.onEng_frame b16 | apply State.change_frame b32768 | extract_lets)

theorem State.acceptJob_frame {s : State} {j : Job} (hM : Sub 43280 msk) (hF : Frame msk s0 s) : Frame msk s0 (State.acceptJob s j) := by
  have b32784 : Sub 32784 msk := Sub.trans (b := 43280) rfl hM
  have b43264 : Sub 43264 msk := Sub.trans (b := 43280) rfl hM
  unfold State.acceptJob
  with_reducible repeat' (first | assumption | apply State.enterJob_frame b32784 | apply State.answerR16_frame b43264 | split | extract_lets | refine frame_fst ?_ (by assumption) | refine frame_snd ?_ (by assumption))

theorem State.submitJob_frame {s : State} {agent : Nat} {w : Option Issuer × Option Nat} {desc : List Word} (hM : Sub 8431890 msk) (hF : Frame msk s0 s) : Frame msk s0 (State.submitJob s agent w desc) := by
  have b10496 : Sub 10496 msk := Sub.trans (b := 8431890) rfl hM
  have b32784 : Sub 32784 msk := Sub.trans (b := 8431890) rfl hM
  have b43264 : Sub 43264 msk := Sub.trans (b := 8431890) rfl hM
  have b43280 : Sub 43280 msk := Sub.trans (b := 8431890) rfl hM
  have b8421394 : Sub 8421394 msk := Sub.trans (b := 8431890) rfl hM
  unfold State.submitJob
  with_reducible repeat' (first | assumption | refine State.reissue_frame b43280 (by assumption) ?_ | apply State.jobRefuse_frame b10496 | apply State.enterJob_frame b32784 | refine State.rackBegin_frame b8421394 (by assumption) ?_ | apply State.answerR16_frame b43264 | apply State.acceptJob_frame b43280 | split | extract_lets | refine frame_fst ?_ (by assumption) | refine frame_snd ?_ (by assumption))

theorem State.submitStep_frame {s : State} {agent : Nat} {w : Option Issuer × Option Nat} {dw : Nat → Nat} (hM : Sub 43280 msk) (hF : Frame msk s0 s) : Frame msk s0 (State.submitStep s agent w dw) := by
  have b10496 : Sub 10496 msk := Sub.trans (b := 43280) rfl hM
  have b43280 : Sub 43280 msk := Sub.trans (b := 43280) rfl hM
  unfold State.submitStep
  with_reducible repeat' (first | assumption | refine State.reissue_frame b43280 (by assumption) ?_ | apply State.jobRefuse_frame b10496 | apply State.acceptJob_frame b43280 | split | extract_lets | refine frame_fst ?_ (by assumption) | refine frame_snd ?_ (by assumption))

theorem State.doJobSubmit_frame {s : State} {i : Issuer} {p : Packet} (hM : Sub 8431890 msk) (hF : Frame msk s0 s) : Frame msk s0 (State.doJobSubmit s i p) := by
  have b10496 : Sub 10496 msk := Sub.trans (b := 8431890) rfl hM
  have b8431890 : Sub 8431890 msk := Sub.trans (b := 8431890) rfl hM
  unfold State.doJobSubmit
  with_reducible repeat' (first | assumption | apply State.denied_frame b10496 | apply State.malformed_frame b10496 | apply State.submitJob_frame b8431890 | split | extract_lets)

theorem State.abortJob_frame {s : State} {agent jobid : Nat} (hM : Sub 2156862 msk) (hF : Frame msk s0 s) : Frame msk s0 (State.abortJob s agent jobid).1 := by
  have b2156860 : Sub 2156860 msk := Sub.trans (b := 2156862) rfl hM
  have b2156862 : Sub 2156862 msk := Sub.trans (b := 2156862) rfl hM
  unfold State.abortJob
  with_reducible repeat' (first | assumption | apply State.rackAbort_frame b2156862 | apply State.stopJob_frame b2156860 | split | extract_lets | refine frame_fst ?_ (by assumption) | refine frame_snd ?_ (by assumption))

theorem State.doJobAbort_frame {s : State} {i : Issuer} {p : Packet} (hM : Sub 2156862 msk) (hF : Frame msk s0 s) : Frame msk s0 (State.doJobAbort s i p) := by
  have b16 : Sub 16 msk := Sub.trans (b := 2156862) rfl hM
  have b10496 : Sub 10496 msk := Sub.trans (b := 2156862) rfl hM
  have b43264 : Sub 43264 msk := Sub.trans (b := 2156862) rfl hM
  have b2156862 : Sub 2156862 msk := Sub.trans (b := 2156862) rfl hM
  unfold State.doJobAbort
  with_reducible repeat' (first | assumption | apply State.denied_frame b10496 | apply State.answerR16_frame b43264 | apply State.malformed_frame b10496 | apply State.setJob_frame b16 | apply State.abortJob_frame b2156862 | apply State.busy_frame b10496 | split | extract_lets | refine frame_fst ?_ (by assumption) | refine frame_snd ?_ (by assumption))

theorem State.doJobQuery_frame {s : State} {i : Issuer} {p : Packet} (hM : Sub 10496 msk) (hF : Frame msk s0 s) : Frame msk s0 (State.doJobQuery s i p) := by
  have b10496 : Sub 10496 msk := Sub.trans (b := 10496) rfl hM
  unfold State.doJobQuery
  with_reducible repeat' (first | assumption | apply State.denied_frame b10496 | apply State.answer_frame b10496 | apply State.malformed_frame b10496 | split | extract_lets | refine frame_fst ?_ (by assumption) | refine frame_snd ?_ (by assumption))

theorem State.abortPacket_frame {s : State} {port agent jobid : Nat} (hM : Sub 2156862 msk) (hF : Frame msk s0 s) : Frame msk s0 (State.abortPacket s port agent jobid) := by
  have b10496 : Sub 10496 msk := Sub.trans (b := 2156862) rfl hM
  have b2156862 : Sub 2156862 msk := Sub.trans (b := 2156862) rfl hM
  unfold State.abortPacket
  with_reducible repeat' (first | assumption | apply State.abortJob_frame b2156862 | apply State.jobRefuse_frame b10496 | split | refine frame_fst ?_ (by assumption) | refine frame_snd ?_ (by assumption))

theorem State.doFaultResolve_frame {s : State} {i : Issuer} {p : Packet} (hM : Sub 10545533 msk) (hF : Frame msk s0 s) : Frame msk s0 (State.doFaultResolve s i p) := by
  have b8 : Sub 8 msk := Sub.trans (b := 10545533) rfl hM
  have b10496 : Sub 10496 msk := Sub.trans (b := 10545533) rfl hM
  have b32768 : Sub 32768 msk := Sub.trans (b := 10545533) rfl hM
  have b43264 : Sub 43264 msk := Sub.trans (b := 10545533) rfl hM
  have b2156860 : Sub 2156860 msk := Sub.trans (b := 10545533) rfl hM
  have b10545533 : Sub 10545533 msk := Sub.trans (b := 10545533) rfl hM
  unfold State.doFaultResolve
  with_reducible repeat' (first | assumption | apply State.malformed_frame b10496 | apply State.denied_frame b10496 | apply State.failRecord_frame b2156860 | apply State.answerR16_frame b43264 | apply State.onXlt_frame b8 | apply State.change_frame b32768 | apply State.precheckStep_frame b10545533 | apply State.retryJob_frame b10545533 | refine foldl_frame ?_ ?_ | refine foldl_fst_frame ?_ ?_ | refine foldl_snd_frame ?_ ?_ | intro _ _ _ | intro _ _ | split | extract_lets | refine frame_fst ?_ (by assumption) | refine frame_snd ?_ (by assumption))

theorem State.doModelLoad_frame {s : State} {i : Issuer} {p : Packet} (hM : Sub 43296 msk) (hF : Frame msk s0 s) : Frame msk s0 (State.doModelLoad s i p) := by
  have b32 : Sub 32 msk := Sub.trans (b := 43296) rfl hM
  have b10496 : Sub 10496 msk := Sub.trans (b := 43296) rfl hM
  have b32768 : Sub 32768 msk := Sub.trans (b := 43296) rfl hM
  have b43264 : Sub 43264 msk := Sub.trans (b := 43296) rfl hM
  unfold State.doModelLoad
  with_reducible repeat' (first | assumption | apply State.denied_frame b10496 | apply State.busy_frame b10496 | apply State.malformed_frame b10496 | apply State.setModel_frame b32 | apply State.change_frame b32768 | apply State.answerR16_frame b43264 | split | extract_lets | refine frame_fst ?_ (by assumption) | refine frame_snd ?_ (by assumption))

theorem State.onModel_frame {s : State} {i : Issuer} {p : Packet} {users : Nat} {f : Nat → Model → State} (hM : Sub 10496 msk) (hf : ∀ (x0 : Nat) (x1 : Model), Frame msk s0 (f x0 x1)) (hF : Frame msk s0 s) : Frame msk s0 (State.onModel s i p users f) := by
  have b10496 : Sub 10496 msk := Sub.trans (b := 10496) rfl hM
  unfold State.onModel
  with_reducible repeat' (first | assumption | apply hf | apply State.malformed_frame b10496 | apply State.denied_frame b10496 | intro _ _ _ | intro _ _ | split | extract_lets)

theorem State.doModelUnload_frame {s : State} {i : Issuer} {p : Packet} (hM : Sub 2156860 msk) (hF : Frame msk s0 s) : Frame msk s0 (State.doModelUnload s i p) := by
  have b32 : Sub 32 msk := Sub.trans (b := 2156860) rfl hM
  have b10496 : Sub 10496 msk := Sub.trans (b := 2156860) rfl hM
  have b32768 : Sub 32768 msk := Sub.trans (b := 2156860) rfl hM
  have b43296 : Sub 43296 msk := Sub.trans (b := 2156860) rfl hM
  have b2156860 : Sub 2156860 msk := Sub.trans (b := 2156860) rfl hM
  unfold State.doModelUnload
  with_reducible repeat' (first | assumption | apply State.onModel_frame b10496 | apply State.busy_frame b10496 | apply State.setModel_frame b32 | apply State.change_frame b32768 | apply State.stopJob_frame b2156860 | apply State.unloadCheck_frame b43296 | refine foldl_frame ?_ ?_ | refine foldl_fst_frame ?_ ?_ | refine foldl_snd_frame ?_ ?_ | intro _ _ _ | intro _ _ | split | extract_lets)

theorem State.doModelUsers_frame {s : State} {i : Issuer} {p : Packet} (hM : Sub 43296 msk) (hF : Frame msk s0 s) : Frame msk s0 (State.doModelUsers s i p) := by
  have b32 : Sub 32 msk := Sub.trans (b := 43296) rfl hM
  have b10496 : Sub 10496 msk := Sub.trans (b := 43296) rfl hM
  have b32768 : Sub 32768 msk := Sub.trans (b := 43296) rfl hM
  have b43264 : Sub 43264 msk := Sub.trans (b := 43296) rfl hM
  unfold State.doModelUsers
  with_reducible repeat' (first | assumption | apply State.onModel_frame b10496 | apply State.setModel_frame b32 | apply State.change_frame b32768 | apply State.answerR16_frame b43264 | intro _ _ _ | intro _ _ | extract_lets)

theorem State.doLayerPlace_frame {s : State} {i : Issuer} {p : Packet} (hM : Sub 43296 msk) (hF : Frame msk s0 s) : Frame msk s0 (State.doLayerPlace s i p) := by
  have b32 : Sub 32 msk := Sub.trans (b := 43296) rfl hM
  have b10496 : Sub 10496 msk := Sub.trans (b := 43296) rfl hM
  have b32768 : Sub 32768 msk := Sub.trans (b := 43296) rfl hM
  have b43264 : Sub 43264 msk := Sub.trans (b := 43296) rfl hM
  unfold State.doLayerPlace
  with_reducible repeat' (first | assumption | apply State.onModel_frame b10496 | apply State.answer_frame b10496 | apply State.setModel_frame b32 | apply State.change_frame b32768 | apply State.answerR16_frame b43264 | intro _ _ _ | intro _ _ | split | extract_lets | refine frame_fst ?_ (by assumption) | refine frame_snd ?_ (by assumption))

theorem State.doDecodeStep_frame {s : State} {i : Issuer} {p : Packet} (hM : Sub 43280 msk) (hF : Frame msk s0 s) : Frame msk s0 (State.doDecodeStep s i p) := by
  have b10496 : Sub 10496 msk := Sub.trans (b := 43280) rfl hM
  have b43280 : Sub 43280 msk := Sub.trans (b := 43280) rfl hM
  unfold State.doDecodeStep
  with_reducible repeat' (first | assumption | apply State.denied_frame b10496 | apply State.submitStep_frame b43280 | split)

theorem State.retireRun_frame {s : State} {r : Run} {dead : List (Nat × List (Nat × Nat))} (hM : Sub 2158461 msk) (hF : Frame msk s0 s) : Frame msk s0 (State.retireRun s r dead) := by
  have b16 : Sub 16 msk := Sub.trans (b := 2158461) rfl hM
  have b2124032 : Sub 2124032 msk := Sub.trans (b := 2158461) rfl hM
  have b2124548 : Sub 2124548 msk := Sub.trans (b := 2158461) rfl hM
  have b2124564 : Sub 2124564 msk := Sub.trans (b := 2158461) rfl hM
  have b2156860 : Sub 2156860 msk := Sub.trans (b := 2158461) rfl hM
  have b2156925 : Sub 2156925 msk := Sub.trans (b := 2158461) rfl hM
  have b2158356 : Sub 2158356 msk := Sub.trans (b := 2158461) rfl hM
  unfold State.retireRun
  with_reducible repeat' (first | assumption | apply State.retire_frame b2124032 | apply State.stopJob_frame b2156860 | apply State.advance_frame b2156925 | apply State.stopData_frame b2124564 | apply State.transferEnds_frame b2124548 | apply State.breakWb_frame b2158356 | apply State.actStep_frame b16 | refine foldl_frame ?_ ?_ | refine foldl_fst_frame ?_ ?_ | refine foldl_snd_frame ?_ ?_ | intro _ _ _ | intro _ _ | split | extract_lets | dsimp -zeta only | dsimp -zeta +zetaDelta only | refine frame_fst ?_ (by assumption) | refine frame_snd ?_ (by assumption))

theorem State.completeMeasure_frame {s : State} {n : Nat} (hM : Sub 2158463 msk) (hF : Frame msk s0 s) : Frame msk s0 (State.completeMeasure s n) := by
  have b16 : Sub 16 msk := Sub.trans (b := 2158463) rfl hM
  have b2124032 : Sub 2124032 msk := Sub.trans (b := 2158463) rfl hM
  have b2124097 : Sub 2124097 msk := Sub.trans (b := 2158463) rfl hM
  have b2156925 : Sub 2156925 msk := Sub.trans (b := 2158463) rfl hM
  have b2157439 : Sub 2157439 msk := Sub.trans (b := 2158463) rfl hM
  have b2158461 : Sub 2158461 msk := Sub.trans (b := 2158463) rfl hM
  unfold State.completeMeasure
  with_reducible repeat' (first | assumption | apply State.setUnit_frame b16 | apply State.bump_frame b2124032 | apply State.retireRun_frame b2158461 | apply State.checkReads_frame b2124097 | apply State.doneTile_frame b2156925 | apply State.doneLayer_frame b2156925 | apply State.doneInternal_frame b2157439 | split | extract_lets | refine frame_fst ?_ (by assumption) | refine frame_snd ?_ (by assumption))

end Sys2Proof.Machine
end

