-- ==== Sys2Proof/Laws/FrameSch.lean ====
section
/-! SUPPORT. The frame of every operation of Machine/Sch.lean: which parts of the state it may change. -/

namespace Sys2Proof.Machine

variable {msk : Nat} {s0 : State}

theorem State.setKeys_frame {s : State} {p : Nat} {f : LinkKeys → LinkKeys} (hM : Sub 128 msk) (hF : Frame msk s0 s) : Frame msk s0 (State.setKeys s p f) := by
  have b128 : Sub 128 msk := Sub.trans (b := 128) rfl hM
  unfold State.setKeys
  with_reducible repeat' (first | assumption | apply State.onSec_frame b128)

theorem State.transmit_frame {s : State} {p : Nat} {k : Pkt} (hM : Sub 6308992 msk) (hF : Frame msk s0 s) : Frame msk s0 (State.transmit s p k) := by
  have b128 : Sub 128 msk := Sub.trans (b := 6308992) rfl hM
  have b1024 : Sub 1024 msk := Sub.trans (b := 6308992) rfl hM
  have b2113536 : Sub 2113536 msk := Sub.trans (b := 6308992) rfl hM
  have b4194304 : Sub 4194304 msk := Sub.trans (b := 6308992) rfl hM
  unfold State.transmit
  with_reducible repeat' (first | assumption | apply State.setPort_frame b1024 | apply State.setKeys_frame b128 | apply State.countTx_frame b2113536 | apply State.emit_frame b4194304 | split | extract_lets)

theorem State.endWait_frame {s : State} {agent : Nat} (hM : Sub 10240 msk) (hF : Frame msk s0 s) : Frame msk s0 (State.endWait s agent) := by
  have b2048 : Sub 2048 msk := Sub.trans (b := 10240) rfl hM
  have b10240 : Sub 10240 msk := Sub.trans (b := 10240) rfl hM
  unfold State.endWait
  with_reducible repeat' (first | assumption | apply State.sendPkt_frame b10240 | apply State.setRoute_frame b2048 | refine foldl_frame ?_ ?_ | refine foldl_fst_frame ?_ ?_ | refine foldl_snd_frame ?_ ?_ | intro _ _ _ | intro _ _ | split | extract_lets | refine frame_fst ?_ (by assumption) | refine frame_snd ?_ (by assumption))

theorem State.startNew_frame {s : State} {p l : Nat} (hM : Sub 6319232 msk) (hF : Frame msk s0 s) : Frame msk s0 (State.startNew s p l) := by
  have b8192 : Sub 8192 msk := Sub.trans (b := 6319232) rfl hM
  have b10240 : Sub 10240 msk := Sub.trans (b := 6319232) rfl hM
  have b2113536 : Sub 2113536 msk := Sub.trans (b := 6319232) rfl hM
  have b4194304 : Sub 4194304 msk := Sub.trans (b := 6319232) rfl hM
  have b6308992 : Sub 6308992 msk := Sub.trans (b := 6319232) rfl hM
  unfold State.startNew
  with_reducible repeat' (first | assumption | apply State.setSch_frame b8192 | apply State.transmit_frame b6308992 | apply State.endWait_frame b10240 | apply State.countTx_frame b2113536 | apply State.emit_frame b4194304 | split | extract_lets | refine frame_fst ?_ (by assumption) | refine frame_snd ?_ (by assumption))

theorem State.packetStart_frame {s : State} {p l : Nat} (hM : Sub 6319232 msk) (hF : Frame msk s0 s) : Frame msk s0 (State.packetStart s p l) := by
  have b1024 : Sub 1024 msk := Sub.trans (b := 6319232) rfl hM
  have b4194304 : Sub 4194304 msk := Sub.trans (b := 6319232) rfl hM
  have b6319232 : Sub 6319232 msk := Sub.trans (b := 6319232) rfl hM
  unfold State.packetStart
  with_reducible repeat' (first | assumption | apply State.startNew_frame b6319232 | apply State.setPort_frame b1024 | apply State.emit_frame b4194304 | split | extract_lets | refine frame_fst ?_ (by assumption) | refine frame_snd ?_ (by assumption))

theorem State.gateSync_frame {s : State} {p : Nat} (hM : Sub 8192 msk) (hF : Frame msk s0 s) : Frame msk s0 (State.gateSync s p) := by
  have b8192 : Sub 8192 msk := Sub.trans (b := 8192) rfl hM
  unfold State.gateSync
  with_reducible repeat' (first | assumption | apply State.setSch_frame b8192 | split | extract_lets | refine frame_fst ?_ (by assumption) | refine frame_snd ?_ (by assumption))

theorem State.gateSwitch_frame {s : State} {p : Nat} (hM : Sub 8192 msk) (hF : Frame msk s0 s) : Frame msk s0 (State.gateSwitch s p) := by
  have b8192 : Sub 8192 msk := Sub.trans (b := 8192) rfl hM
  unfold State.gateSwitch
  with_reducible repeat' (first | assumption | apply State.setSch_frame b8192 | apply State.gateSync_frame b8192 | split | refine frame_fst ?_ (by assumption) | refine frame_snd ?_ (by assumption))

theorem State.gateExpiry_frame {s : State} {p : Nat} (hM : Sub 8192 msk) (hF : Frame msk s0 s) : Frame msk s0 (State.gateExpiry s p) := by
  have b8192 : Sub 8192 msk := Sub.trans (b := 8192) rfl hM
  unfold State.gateExpiry
  with_reducible repeat' (first | assumption | apply State.setSch_frame b8192 | split)

theorem State.gateStart_frame {s : State} {p : Nat} (hM : Sub 10547031 msk) (hF : Frame msk s0 s) : Frame msk s0 (State.gateStart s p) := by
  have b8192 : Sub 8192 msk := Sub.trans (b := 10547031) rfl hM
  have b10547031 : Sub 10547031 msk := Sub.trans (b := 10547031) rfl hM
  unfold State.gateStart
  with_reducible repeat' (first | assumption | apply State.expire_frame b10547031 | apply State.setSch_frame b8192 | apply State.gateSwitch_frame b8192 | apply State.gateSync_frame b8192 | split | extract_lets | dsimp -zeta only | dsimp -zeta +zetaDelta only | refine frame_fst ?_ (by assumption) | refine frame_snd ?_ (by assumption))

theorem State.gateTick_frame {s : State} (hM : Sub 10547031 msk) (hF : Frame msk s0 s) : Frame msk s0 (State.gateTick s) := by
  have b10547031 : Sub 10547031 msk := Sub.trans (b := 10547031) rfl hM
  unfold State.gateTick
  with_reducible repeat' (first | assumption | apply State.gateStart_frame b10547031 | refine foldl_frame ?_ ?_ | refine foldl_fst_frame ?_ ?_ | refine foldl_snd_frame ?_ ?_ | intro _ _ _ | intro _ _)

theorem State.gateWaits_frame {s : State} (hM : Sub 2124032 msk) (hF : Frame msk s0 s) : Frame msk s0 (State.gateWaits s) := by
  have b2124032 : Sub 2124032 msk := Sub.trans (b := 2124032) rfl hM
  unfold State.gateWaits
  with_reducible repeat' (first | assumption | apply State.bump_frame b2124032 | refine foldl_frame ?_ ?_ | refine foldl_fst_frame ?_ ?_ | refine foldl_snd_frame ?_ ?_ | intro _ _ _ | intro _ _)

theorem State.gateStep_frame {s : State} (hM : Sub 8192 msk) (hF : Frame msk s0 s) : Frame msk s0 (State.gateStep s) := by
  have b8192 : Sub 8192 msk := Sub.trans (b := 8192) rfl hM
  unfold State.gateStep
  with_reducible repeat' (first | assumption | apply State.onSch_frame b8192)

theorem State.doMeterSet_frame {s : State} {i : Issuer} {p : Packet} (hM : Sub 14592 msk) (hF : Frame msk s0 s) : Frame msk s0 (State.doMeterSet s i p) := by
  have b4096 : Sub 4096 msk := Sub.trans (b := 14592) rfl hM
  have b10496 : Sub 10496 msk := Sub.trans (b := 14592) rfl hM
  unfold State.doMeterSet
  with_reducible repeat' (first | assumption | apply State.denied_frame b10496 | apply State.malformed_frame b10496 | apply State.setMeter_frame b4096 | apply State.answer_frame b10496 | split | extract_lets | dsimp -zeta only | dsimp -zeta +zetaDelta only | refine frame_fst ?_ (by assumption) | refine frame_snd ?_ (by assumption))

theorem State.doSchedSet_frame {s : State} {i : Issuer} {p : Packet} (hM : Sub 10496 msk) (hF : Frame msk s0 s) : Frame msk s0 (State.doSchedSet s i p) := by
  have b8192 : Sub 8192 msk := Sub.trans (b := 10496) rfl hM
  have b10496 : Sub 10496 msk := Sub.trans (b := 10496) rfl hM
  unfold State.doSchedSet
  with_reducible repeat' (first | assumption | apply State.denied_frame b10496 | apply State.malformed_frame b10496 | apply State.setSch_frame b8192 | apply State.answer_frame b10496 | apply State.onSch_frame b8192 | split | extract_lets | refine frame_fst ?_ (by assumption) | refine frame_snd ?_ (by assumption))

theorem State.doGateListLoad_frame {s : State} {i : Issuer} {p : Packet} (hM : Sub 10496 msk) (hF : Frame msk s0 s) : Frame msk s0 (State.doGateListLoad s i p) := by
  have b8192 : Sub 8192 msk := Sub.trans (b := 10496) rfl hM
  have b10496 : Sub 10496 msk := Sub.trans (b := 10496) rfl hM
  unfold State.doGateListLoad
  with_reducible repeat' (first | assumption | apply State.denied_frame b10496 | apply State.malformed_frame b10496 | apply State.setSch_frame b8192 | apply State.answer_frame b10496 | split | extract_lets | dsimp -zeta only | dsimp -zeta +zetaDelta only | refine frame_fst ?_ (by assumption) | refine frame_snd ?_ (by assumption))

theorem State.putRoute_frame {s : State} {a ports pref : Nat} (hM : Sub 2162460 msk) (hF : Frame msk s0 s) : Frame msk s0 (State.putRoute s a ports pref) := by
  have b2048 : Sub 2048 msk := Sub.trans (b := 2162460) rfl hM
  have b4096 : Sub 4096 msk := Sub.trans (b := 2162460) rfl hM
  have b2158364 : Sub 2158364 msk := Sub.trans (b := 2162460) rfl hM
  unfold State.putRoute
  with_reducible repeat' (first | assumption | apply State.setRoute_frame b2048 | apply State.setMeter_frame b4096 | apply State.agentLink_frame b2158364 | split | extract_lets)

theorem State.doRouteSet_frame {s : State} {i : Issuer} {p : Packet} (hM : Sub 2162460 msk) (hF : Frame msk s0 s) : Frame msk s0 (State.doRouteSet s i p) := by
  have b10496 : Sub 10496 msk := Sub.trans (b := 2162460) rfl hM
  have b2162460 : Sub 2162460 msk := Sub.trans (b := 2162460) rfl hM
  unfold State.doRouteSet
  with_reducible repeat' (first | assumption | apply State.denied_frame b10496 | apply State.malformed_frame b10496 | apply State.putRoute_frame b2162460 | apply State.answer_frame b10496 | split | extract_lets | refine frame_fst ?_ (by assumption) | refine frame_snd ?_ (by assumption))

theorem State.doMcastGroupSet_frame {s : State} {i : Issuer} {p : Packet} (hM : Sub 10496 msk) (hF : Frame msk s0 s) : Frame msk s0 (State.doMcastGroupSet s i p) := by
  have b2048 : Sub 2048 msk := Sub.trans (b := 10496) rfl hM
  have b10496 : Sub 10496 msk := Sub.trans (b := 10496) rfl hM
  unfold State.doMcastGroupSet
  with_reducible repeat' (first | assumption | apply State.denied_frame b10496 | apply State.malformed_frame b10496 | apply State.onTrt_frame b2048 | apply State.answer_frame b10496 | split | extract_lets | dsimp -zeta only | dsimp -zeta +zetaDelta only | refine frame_fst ?_ (by assumption) | refine frame_snd ?_ (by assumption))

theorem State.peakClear_frame {s : State} {ports : Nat} (hM : Sub 2048 msk) (hF : Frame msk s0 s) : Frame msk s0 (State.peakClear s ports) := by
  have b2048 : Sub 2048 msk := Sub.trans (b := 2048) rfl hM
  unfold State.peakClear
  with_reducible repeat' (first | assumption | apply State.onTrt_frame b2048 | refine foldl_frame ?_ ?_ | refine foldl_fst_frame ?_ ?_ | refine foldl_snd_frame ?_ ?_ | intro _ _ _ | intro _ _)

end Sys2Proof.Machine
end

