-- ==== Sys2Proof/Laws/FrameTlk.lean ====
section
/-! SUPPORT. The frame of every operation of Machine/Tlk.lean: which parts of the state it may change. -/

namespace Sys2Proof.Machine

variable {msk : Nat} {s0 : State}

theorem State.ctl_frame {s : State} {p : Nat} {c : Ctl} (hM : Sub 6307840 msk) (hF : Frame msk s0 s) : Frame msk s0 (State.ctl s p c) := by
  have b2113536 : Sub 2113536 msk := Sub.trans (b := 6307840) rfl hM
  have b4194304 : Sub 4194304 msk := Sub.trans (b := 6307840) rfl hM
  unfold State.ctl
  with_reducible repeat' (first | assumption | apply State.countTx_frame b2113536 | apply State.emit_frame b4194304)

theorem State.raiseTlk_frame {s : State} {p n cause : Nat} (hM : Sub 2124032 msk) (hF : Frame msk s0 s) : Frame msk s0 (State.raiseTlk s p n cause) := by
  have b2124032 : Sub 2124032 msk := Sub.trans (b := 2124032) rfl hM
  unfold State.raiseTlk
  with_reducible repeat' (first | assumption | apply State.raise_frame b2124032)

theorem State.loseTraffic_frame {s : State} {p : Nat} (hM : Sub 2158356 msk) (hF : Frame msk s0 s) : Frame msk s0 (State.loseTraffic s p) := by
  have b16 : Sub 16 msk := Sub.trans (b := 2158356) rfl hM
  have b1024 : Sub 1024 msk := Sub.trans (b := 2158356) rfl hM
  have b8192 : Sub 8192 msk := Sub.trans (b := 2158356) rfl hM
  have b2124032 : Sub 2124032 msk := Sub.trans (b := 2158356) rfl hM
  have b2124564 : Sub 2124564 msk := Sub.trans (b := 2158356) rfl hM
  have b2158356 : Sub 2158356 msk := Sub.trans (b := 2158356) rfl hM
  unfold State.loseTraffic
  with_reducible repeat' (first | assumption | apply State.setSch_frame b8192 | apply State.setPort_frame b1024 | apply State.bump_frame b2124032 | apply State.stopData_frame b2124564 | apply State.breakWb_frame b2158356 | apply State.onEng_frame b16 | refine foldl_frame ?_ ?_ | refine foldl_fst_frame ?_ ?_ | refine foldl_snd_frame ?_ ?_ | intro _ _ _ | intro _ _ | split | extract_lets)

theorem State.breakLink_frame {s : State} {p cause : Nat} {disabled : Bool} (hM : Sub 2158364 msk) (hF : Frame msk s0 s) : Frame msk s0 (State.breakLink s p cause disabled) := by
  have b1024 : Sub 1024 msk := Sub.trans (b := 2158364) rfl hM
  have b2124032 : Sub 2124032 msk := Sub.trans (b := 2158364) rfl hM
  have b2158356 : Sub 2158356 msk := Sub.trans (b := 2158364) rfl hM
  have b2158364 : Sub 2158364 msk := Sub.trans (b := 2158364) rfl hM
  unfold State.breakLink
  with_reducible repeat' (first | assumption | apply State.loseTraffic_frame b2158356 | apply State.setPort_frame b1024 | apply State.bump_frame b2124032 | apply State.raiseTlk_frame b2124032 | apply State.agentLinks_frame b2158364 | split | extract_lets)

theorem State.downLink_frame {s : State} {p : Nat} (hM : Sub 2158356 msk) (hF : Frame msk s0 s) : Frame msk s0 (State.downLink s p) := by
  have b1024 : Sub 1024 msk := Sub.trans (b := 2158356) rfl hM
  have b2158356 : Sub 2158356 msk := Sub.trans (b := 2158356) rfl hM
  unfold State.downLink
  with_reducible repeat' (first | assumption | apply State.loseTraffic_frame b2158356 | apply State.setPort_frame b1024 | split | extract_lets)

theorem State.sendAck_frame {s : State} {p : Nat} (hM : Sub 6308864 msk) (hF : Frame msk s0 s) : Frame msk s0 (State.sendAck s p) := by
  have b1024 : Sub 1024 msk := Sub.trans (b := 6308864) rfl hM
  have b6307840 : Sub 6307840 msk := Sub.trans (b := 6308864) rfl hM
  unfold State.sendAck
  with_reducible repeat' (first | assumption | apply State.setPort_frame b1024 | apply State.ctl_frame b6307840 | extract_lets)

theorem State.xoffCheck_frame {s : State} {p v : Nat} (hM : Sub 6308864 msk) (hF : Frame msk s0 s) : Frame msk s0 (State.xoffCheck s p v) := by
  have b1024 : Sub 1024 msk := Sub.trans (b := 6308864) rfl hM
  have b6307840 : Sub 6307840 msk := Sub.trans (b := 6308864) rfl hM
  unfold State.xoffCheck
  with_reducible repeat' (first | assumption | apply State.setPort_frame b1024 | apply State.ctl_frame b6307840 | split | extract_lets)

theorem State.xonCheck_frame {s : State} {p : Nat} (hM : Sub 6308864 msk) (hF : Frame msk s0 s) : Frame msk s0 (State.xonCheck s p) := by
  have b1024 : Sub 1024 msk := Sub.trans (b := 6308864) rfl hM
  have b6307840 : Sub 6307840 msk := Sub.trans (b := 6308864) rfl hM
  unfold State.xonCheck
  with_reducible repeat' (first | assumption | apply State.setPort_frame b1024 | apply State.ctl_frame b6307840 | split | extract_lets)

theorem State.accept_frame {s : State} {p v flits : Nat} (hM : Sub 6352796 msk) (hF : Frame msk s0 s) : Frame msk s0 (State.accept s p v flits).1 := by
  have b128 : Sub 128 msk := Sub.trans (b := 6352796) rfl hM
  have b1024 : Sub 1024 msk := Sub.trans (b := 6352796) rfl hM
  have b2158364 : Sub 2158364 msk := Sub.trans (b := 6352796) rfl hM
  have b6308864 : Sub 6308864 msk := Sub.trans (b := 6352796) rfl hM
  unfold State.accept
  with_reducible repeat' (first | assumption | apply State.breakLink_frame b2158364 | apply State.setPort_frame b1024 | apply State.setKeys_frame b128 | apply State.sendAck_frame b6308864 | split | extract_lets | dsimp -zeta only | dsimp -zeta +zetaDelta only)

theorem State.take_frame {s : State} {p agent v flits : Nat} (hM : Sub 2124032 msk) (hF : Frame msk s0 s) : Frame msk s0 (State.take s p agent v flits).1 := by
  have b2113536 : Sub 2113536 msk := Sub.trans (b := 2124032) rfl hM
  have b2124032 : Sub 2124032 msk := Sub.trans (b := 2124032) rfl hM
  unfold State.take
  with_reducible repeat' (first | assumption | apply State.countRx_frame b2113536 | apply State.bump_frame b2124032 | split | extract_lets)

theorem State.lost_frame {s : State} {p : Nat} (hM : Sub 6308864 msk) (hF : Frame msk s0 s) : Frame msk s0 (State.lost s p) := by
  have b1024 : Sub 1024 msk := Sub.trans (b := 6308864) rfl hM
  have b6307840 : Sub 6307840 msk := Sub.trans (b := 6308864) rfl hM
  unfold State.lost
  with_reducible repeat' (first | assumption | apply State.setPort_frame b1024 | apply State.ctl_frame b6307840 | split | extract_lets | dsimp -zeta only | dsimp -zeta +zetaDelta only)

theorem State.ackDup_frame {s : State} {p : Nat} (hM : Sub 6308864 msk) (hF : Frame msk s0 s) : Frame msk s0 (State.ackDup s p) := by
  have b1024 : Sub 1024 msk := Sub.trans (b := 6308864) rfl hM
  have b6308864 : Sub 6308864 msk := Sub.trans (b := 6308864) rfl hM
  unfold State.ackDup
  with_reducible repeat' (first | assumption | apply State.setPort_frame b1024 | apply State.sendAck_frame b6308864 | split | dsimp -zeta only | dsimp -zeta +zetaDelta only)

theorem State.discard_frame {s : State} {p seq : Nat} (hM : Sub 6319360 msk) (hF : Frame msk s0 s) : Frame msk s0 (State.discard s p seq) := by
  have b2124032 : Sub 2124032 msk := Sub.trans (b := 6319360) rfl hM
  have b6308864 : Sub 6308864 msk := Sub.trans (b := 6319360) rfl hM
  unfold State.discard
  with_reducible repeat' (first | assumption | apply State.bump_frame b2124032 | apply State.ackDup_frame b6308864 | apply State.lost_frame b6308864 | split | extract_lets | dsimp -zeta only | dsimp -zeta +zetaDelta only)

theorem State.garbled_frame {s : State} {p : Nat} (hM : Sub 6319360 msk) (hF : Frame msk s0 s) : Frame msk s0 (State.garbled s p) := by
  have b2124032 : Sub 2124032 msk := Sub.trans (b := 6319360) rfl hM
  have b6308864 : Sub 6308864 msk := Sub.trans (b := 6319360) rfl hM
  unfold State.garbled
  with_reducible repeat' (first | assumption | apply State.bump_frame b2124032 | apply State.lost_frame b6308864 | dsimp -zeta only | dsimp -zeta +zetaDelta only)

theorem State.gotAck_frame {s : State} {p seq : Nat} (hM : Sub 2158364 msk) (hF : Frame msk s0 s) : Frame msk s0 (State.gotAck s p seq) := by
  have b1024 : Sub 1024 msk := Sub.trans (b := 2158364) rfl hM
  have b2113536 : Sub 2113536 msk := Sub.trans (b := 2158364) rfl hM
  have b2158364 : Sub 2158364 msk := Sub.trans (b := 2158364) rfl hM
  unfold State.gotAck
  with_reducible repeat' (first | assumption | apply State.countRx_frame b2113536 | apply State.setPort_frame b1024 | apply State.breakLink_frame b2158364 | split | extract_lets | refine frame_fst ?_ (by assumption) | refine frame_snd ?_ (by assumption))

theorem State.startReplay_frame {s : State} {p seq : Nat} (hM : Sub 2158364 msk) (hF : Frame msk s0 s) : Frame msk s0 (State.startReplay s p seq) := by
  have b1024 : Sub 1024 msk := Sub.trans (b := 2158364) rfl hM
  have b2124032 : Sub 2124032 msk := Sub.trans (b := 2158364) rfl hM
  have b2158364 : Sub 2158364 msk := Sub.trans (b := 2158364) rfl hM
  unfold State.startReplay
  with_reducible repeat' (first | assumption | apply State.breakLink_frame b2158364 | apply State.setPort_frame b1024 | apply State.bump_frame b2124032 | split)

theorem State.gotNak_frame {s : State} {p e : Nat} (hM : Sub 2158364 msk) (hF : Frame msk s0 s) : Frame msk s0 (State.gotNak s p e) := by
  have b1024 : Sub 1024 msk := Sub.trans (b := 2158364) rfl hM
  have b2113536 : Sub 2113536 msk := Sub.trans (b := 2158364) rfl hM
  have b2158364 : Sub 2158364 msk := Sub.trans (b := 2158364) rfl hM
  unfold State.gotNak
  with_reducible repeat' (first | assumption | apply State.countRx_frame b2113536 | apply State.breakLink_frame b2158364 | apply State.setPort_frame b1024 | apply State.startReplay_frame b2158364 | split | extract_lets | dsimp -zeta only | dsimp -zeta +zetaDelta only | refine frame_fst ?_ (by assumption) | refine frame_snd ?_ (by assumption))

theorem State.replayExpiry_frame {s : State} {p : Nat} (hM : Sub 2158364 msk) (hF : Frame msk s0 s) : Frame msk s0 (State.replayExpiry s p) := by
  have b2158364 : Sub 2158364 msk := Sub.trans (b := 2158364) rfl hM
  unfold State.replayExpiry
  with_reducible repeat' (first | assumption | apply State.startReplay_frame b2158364 | split | refine frame_fst ?_ (by assumption) | refine frame_snd ?_ (by assumption))

theorem State.gotXoff_frame {s : State} {p mask : Nat} (hM : Sub 2114560 msk) (hF : Frame msk s0 s) : Frame msk s0 (State.gotXoff s p mask) := by
  have b1024 : Sub 1024 msk := Sub.trans (b := 2114560) rfl hM
  have b2113536 : Sub 2113536 msk := Sub.trans (b := 2114560) rfl hM
  unfold State.gotXoff
  with_reducible repeat' (first | assumption | apply State.countRx_frame b2113536 | apply State.setPort_frame b1024 | refine foldl_frame ?_ ?_ | refine foldl_fst_frame ?_ ?_ | refine foldl_snd_frame ?_ ?_ | intro _ _ _ | intro _ _ | split)

theorem State.gotXon_frame {s : State} {p mask : Nat} (hM : Sub 2114560 msk) (hF : Frame msk s0 s) : Frame msk s0 (State.gotXon s p mask) := by
  have b1024 : Sub 1024 msk := Sub.trans (b := 2114560) rfl hM
  have b2113536 : Sub 2113536 msk := Sub.trans (b := 2114560) rfl hM
  unfold State.gotXon
  with_reducible repeat' (first | assumption | apply State.countRx_frame b2113536 | apply State.setPort_frame b1024 | refine foldl_frame ?_ ?_ | refine foldl_fst_frame ?_ ?_ | refine foldl_snd_frame ?_ ?_ | intro _ _ _ | intro _ _ | split)

theorem State.xoffTimeout_frame {s : State} {p v : Nat} (hM : Sub 2158364 msk) (hF : Frame msk s0 s) : Frame msk s0 (State.xoffTimeout s p v) := by
  have b2158364 : Sub 2158364 msk := Sub.trans (b := 2158364) rfl hM
  unfold State.xoffTimeout
  with_reducible repeat' (first | assumption | apply State.breakLink_frame b2158364 | split | refine frame_fst ?_ (by assumption) | refine frame_snd ?_ (by assumption))

theorem State.probes_frame {s : State} {p : Nat} {stamps : List Nat} (hM : Sub 14696448 msk) (hF : Frame msk s0 s) : Frame msk s0 (State.probes s p stamps) := by
  have b6307840 : Sub 6307840 msk := Sub.trans (b := 14696448) rfl hM
  have b8388608 : Sub 8388608 msk := Sub.trans (b := 14696448) rfl hM
  unfold State.probes
  with_reducible repeat' (first | assumption | apply State.draw_frame b8388608 | apply State.ctl_frame b6307840 | refine foldl_frame ?_ ?_ | refine foldl_fst_frame ?_ ?_ | refine foldl_snd_frame ?_ ?_ | intro _ _ _ | intro _ _ | split | extract_lets | dsimp -zeta only | dsimp -zeta +zetaDelta only | refine frame_fst ?_ (by assumption) | refine frame_snd ?_ (by assumption))

theorem State.retrainFail_frame {s : State} {p cause : Nat} (hM : Sub 2125056 msk) (hF : Frame msk s0 s) : Frame msk s0 (State.retrainFail s p cause) := by
  have b1024 : Sub 1024 msk := Sub.trans (b := 2125056) rfl hM
  have b2124032 : Sub 2124032 msk := Sub.trans (b := 2125056) rfl hM
  unfold State.retrainFail
  with_reducible repeat' (first | assumption | apply State.setPort_frame b1024 | apply State.raiseTlk_frame b2124032 | split | extract_lets)

theorem State.trainFail_frame {s : State} {p cause : Nat} (hM : Sub 1024 msk) (hF : Frame msk s0 s) : Frame msk s0 (State.trainFail s p cause) := by
  have b1024 : Sub 1024 msk := Sub.trans (b := 1024) rfl hM
  unfold State.trainFail
  with_reducible repeat' (first | assumption | apply State.setPort_frame b1024 | split)

theorem State.attemptFail_frame {s : State} {p cause : Nat} (hM : Sub 2125056 msk) (hF : Frame msk s0 s) : Frame msk s0 (State.attemptFail s p cause) := by
  have b1024 : Sub 1024 msk := Sub.trans (b := 2125056) rfl hM
  have b2125056 : Sub 2125056 msk := Sub.trans (b := 2125056) rfl hM
  unfold State.attemptFail
  with_reducible repeat' (first | assumption | apply State.trainFail_frame b1024 | apply State.retrainFail_frame b2125056 | split | dsimp -zeta only | dsimp -zeta +zetaDelta only)

theorem State.trainEnd_frame {s : State} {p versions : Nat} {trips stamps : List Nat} {peerEnc peerReq peerKeys : Bool} {ctr0 ctr1 : Nat} (hM : Sub 14741404 msk) (hF : Frame msk s0 s) : Frame msk s0 (State.trainEnd s p versions trips stamps peerEnc peerReq peerKeys ctr0 ctr1) := by
  have b128 : Sub 128 msk := Sub.trans (b := 14741404) rfl hM
  have b1024 : Sub 1024 msk := Sub.trans (b := 14741404) rfl hM
  have b2113536 : Sub 2113536 msk := Sub.trans (b := 14741404) rfl hM
  have b2125056 : Sub 2125056 msk := Sub.trans (b := 14741404) rfl hM
  have b2158364 : Sub 2158364 msk := Sub.trans (b := 14741404) rfl hM
  have b6307840 : Sub 6307840 msk := Sub.trans (b := 14741404) rfl hM
  have b14696448 : Sub 14696448 msk := Sub.trans (b := 14741404) rfl hM
  unfold State.trainEnd
  with_reducible repeat' (first | assumption | apply State.countRx_frame b2113536 | apply State.ctl_frame b6307840 | apply State.attemptFail_frame b2125056 | apply State.probes_frame b14696448 | apply State.setKeys_frame b128 | apply State.setPort_frame b1024 | apply State.agentLinks_frame b2158364 | refine foldl_frame ?_ ?_ | refine foldl_fst_frame ?_ ?_ | refine foldl_snd_frame ?_ ?_ | intro _ _ _ | intro _ _ | split | extract_lets | refine frame_fst ?_ (by assumption) | refine frame_snd ?_ (by assumption))

theorem State.trainStart_frame {s : State} {p : Nat} (hM : Sub 1024 msk) (hF : Frame msk s0 s) : Frame msk s0 (State.trainStart s p) := by
  have b1024 : Sub 1024 msk := Sub.trans (b := 1024) rfl hM
  unfold State.trainStart
  with_reducible repeat' (first | assumption | apply State.setPort_frame b1024 | split)

theorem State.portDisable_frame {s : State} {p : Nat} (hM : Sub 2158364 msk) (hF : Frame msk s0 s) : Frame msk s0 (State.portDisable s p) := by
  have b1024 : Sub 1024 msk := Sub.trans (b := 2158364) rfl hM
  have b2158364 : Sub 2158364 msk := Sub.trans (b := 2158364) rfl hM
  unfold State.portDisable
  with_reducible repeat' (first | assumption | apply State.breakLink_frame b2158364 | apply State.setPort_frame b1024 | split | extract_lets)

theorem State.portEnable_frame {s : State} {p : Nat} (hM : Sub 1024 msk) (hF : Frame msk s0 s) : Frame msk s0 (State.portEnable s p) := by
  have b1024 : Sub 1024 msk := Sub.trans (b := 1024) rfl hM
  unfold State.portEnable
  with_reducible repeat' (first | assumption | apply State.setPort_frame b1024 | split)

end Sys2Proof.Machine
end

