-- ==== Sys2Proof/Laws/FrameIngress.lean ====
section
/-! SUPPORT. The frame of every operation of Machine/Ingress.lean: which parts of the state it may change. -/

namespace Sys2Proof.Machine

variable {msk : Nat} {s0 : State}

theorem State.admitIn_frame {s : State} {agent : Nat} {via : Via} {code : ReqCode} {r : DirReq} (hM : Sub 10551135 msk) (hF : Frame msk s0 s) : Frame msk s0 (State.admitIn s agent via code r) := by
  have b4 : Sub 4 msk := Sub.trans (b := 10551135) rfl hM
  have b10551135 : Sub 10551135 msk := Sub.trans (b := 10551135) rfl hM
  unfold State.admitIn
  with_reducible repeat' (first | assumption | apply State.later_frame b4 | apply State.admitReq_frame b10551135 | split)

theorem State.regGated_frame {s : State} {fn : Nat} {bar0 tbit read : Bool} {f : State → State} (hM : Sub 6318336 msk) (hf : ∀ (x0 : State), Frame msk s0 x0 → Frame msk s0 (f x0)) (hF : Frame msk s0 s) : Frame msk s0 (State.regGated s fn bar0 tbit read f) := by
  have b2124032 : Sub 2124032 msk := Sub.trans (b := 6318336) rfl hM
  have b4194304 : Sub 4194304 msk := Sub.trans (b := 6318336) rfl hM
  unfold State.regGated
  with_reducible repeat' (first | assumption | apply hf | apply State.bump_frame b2124032 | apply State.emit_frame b4194304 | intro _ _ _ | intro _ _ | split | extract_lets | dsimp -zeta only | dsimp -zeta +zetaDelta only | refine frame_fst ?_ (by assumption) | refine frame_snd ?_ (by assumption))

theorem State.slotRequest_frame {s : State} {fn : Nat} {code : ReqCode} {r : DirReq} (hM : Sub 10551135 msk) (hF : Frame msk s0 s) : Frame msk s0 (State.slotRequest s fn code r) := by
  have b2113536 : Sub 2113536 msk := Sub.trans (b := 10551135) rfl hM
  have b2124032 : Sub 2124032 msk := Sub.trans (b := 10551135) rfl hM
  have b10551135 : Sub 10551135 msk := Sub.trans (b := 10551135) rfl hM
  unfold State.slotRequest
  with_reducible repeat' (first | assumption | apply State.hostRx_frame b2113536 | apply State.bump_frame b2124032 | apply State.admitIn_frame b10551135 | split | extract_lets)

theorem State.wbData_frame {s : State} {i off : Nat} {data : List Byte} (hM : Sub 11796 msk) (hF : Frame msk s0 s) : Frame msk s0 (State.wbData s i off data) := by
  have b4 : Sub 4 msk := Sub.trans (b := 11796) rfl hM
  have b20 : Sub 20 msk := Sub.trans (b := 11796) rfl hM
  have b11780 : Sub 11780 msk := Sub.trans (b := 11796) rfl hM
  unfold State.wbData
  with_reducible repeat' (first | assumption | apply State.setEntry_frame b4 | apply State.wbCut_frame b20 | apply State.wbPump_frame b11780 | split | extract_lets | refine frame_fst ?_ (by assumption) | refine frame_snd ?_ (by assumption))

theorem State.mcplIn_frame {s : State} {p agent tag status : Nat} {data : List Byte} (hM : Sub 2158356 msk) (hF : Frame msk s0 s) : Frame msk s0 (State.mcplIn s p agent tag status data) := by
  have b1024 : Sub 1024 msk := Sub.trans (b := 2158356) rfl hM
  have b11796 : Sub 11796 msk := Sub.trans (b := 2158356) rfl hM
  have b2124032 : Sub 2124032 msk := Sub.trans (b := 2158356) rfl hM
  have b2158356 : Sub 2158356 msk := Sub.trans (b := 2158356) rfl hM
  unfold State.mcplIn
  with_reducible repeat' (first | assumption | apply State.breakWb_frame b2158356 | apply State.bump_frame b2124032 | apply State.onTlk_frame b1024 | apply State.wbData_frame b11796 | split | refine frame_fst ?_ (by assumption) | refine frame_snd ?_ (by assumption))

theorem State.jobIn_frame {s : State} {p agent _tid : Nat} {ws : List Word} (hM : Sub 10545470 msk) (hF : Frame msk s0 s) : Frame msk s0 (State.jobIn s p agent _tid ws) := by
  have b2124032 : Sub 2124032 msk := Sub.trans (b := 10545470) rfl hM
  have b2156862 : Sub 2156862 msk := Sub.trans (b := 10545470) rfl hM
  have b8431890 : Sub 8431890 msk := Sub.trans (b := 10545470) rfl hM
  unfold State.jobIn
  with_reducible repeat' (first | assumption | apply State.bump_frame b2124032 | apply State.abortPacket_frame b2156862 | apply State.submitJob_frame b8431890 | split | extract_lets)

theorem State.stepIn_frame {s : State} {p agent : Nat} {ws : List Word} (hM : Sub 2156816 msk) (hF : Frame msk s0 s) : Frame msk s0 (State.stepIn s p agent ws) := by
  have b43280 : Sub 43280 msk := Sub.trans (b := 2156816) rfl hM
  have b2124032 : Sub 2124032 msk := Sub.trans (b := 2156816) rfl hM
  unfold State.stepIn
  with_reducible repeat' (first | assumption | apply State.bump_frame b2124032 | apply State.submitStep_frame b43280 | split | extract_lets)

theorem State.takeIn_frame {s : State} {p agent v flits : Nat} {f : State → State} (hM : Sub 2124032 msk) (hf : ∀ (x0 : State), Frame msk s0 x0 → Frame msk s0 (f x0)) (hF : Frame msk s0 s) : Frame msk s0 (State.takeIn s p agent v flits f) := by
  have b2124032 : Sub 2124032 msk := Sub.trans (b := 2124032) rfl hM
  unfold State.takeIn
  with_reducible repeat' (first | assumption | apply hf | apply State.take_frame b2124032 | intro _ _ _ | intro _ _ | split | extract_lets | refine frame_fst ?_ (by assumption) | refine frame_snd ?_ (by assumption))

theorem State.strangeIn_frame {s : State} {p : Nat} {bs : List Byte} (hM : Sub 2124544 msk) (hF : Frame msk s0 s) : Frame msk s0 (State.strangeIn s p bs) := by
  have b2124032 : Sub 2124032 msk := Sub.trans (b := 2124544) rfl hM
  have b2124544 : Sub 2124544 msk := Sub.trans (b := 2124544) rfl hM
  unfold State.strangeIn
  with_reducible repeat' (first | assumption | apply State.respondVia_frame b2124544 | apply State.bump_frame b2124032 | split | extract_lets | dsimp -zeta only | dsimp -zeta +zetaDelta only)

theorem State.packetIn_frame {s : State} {c : Instr} {v flits : Nat} (hM : Sub 10551167 msk) (hF : Frame msk s0 s) : Frame msk s0 (State.packetIn s c v flits) := by
  have b2124032 : Sub 2124032 msk := Sub.trans (b := 10551167) rfl hM
  have b2124544 : Sub 2124544 msk := Sub.trans (b := 10551167) rfl hM
  have b2156816 : Sub 2156816 msk := Sub.trans (b := 10551167) rfl hM
  have b2158356 : Sub 2158356 msk := Sub.trans (b := 10551167) rfl hM
  have b10545470 : Sub 10545470 msk := Sub.trans (b := 10551167) rfl hM
  have b10551135 : Sub 10551135 msk := Sub.trans (b := 10551167) rfl hM
  unfold State.packetIn
  with_reducible repeat' (first | assumption | apply State.takeIn_frame b2124032 | apply State.jobIn_frame b10545470 | apply State.stepIn_frame b2156816 | apply State.mcplIn_frame b2158356 | apply State.strangeIn_frame b2124544 | apply State.admitIn_frame b10551135 | intro _ _ _ | intro _ _ | split | refine frame_fst ?_ (by assumption) | refine frame_snd ?_ (by assumption))

theorem State.arrive_frame {s : State} {p v flits : Nat} {c : Instr} (hM : Sub 14745599 msk) (hF : Frame msk s0 s) : Frame msk s0 (State.arrive s p v flits c) := by
  have b1024 : Sub 1024 msk := Sub.trans (b := 14745599) rfl hM
  have b6308864 : Sub 6308864 msk := Sub.trans (b := 14745599) rfl hM
  have b6352796 : Sub 6352796 msk := Sub.trans (b := 14745599) rfl hM
  have b10551167 : Sub 10551167 msk := Sub.trans (b := 14745599) rfl hM
  unfold State.arrive
  with_reducible repeat' (first | assumption | apply State.accept_frame b6352796 | apply State.setPort_frame b1024 | apply State.xoffCheck_frame b6308864 | apply State.packetIn_frame b10551167 | split | extract_lets | refine frame_fst ?_ (by assumption) | refine frame_snd ?_ (by assumption))

theorem State.ctlIn_frame {s : State} {p : Nat} {bs : List Byte} {uncorrectable : Bool} (hM : Sub 2158364 msk) (hF : Frame msk s0 s) : Frame msk s0 (State.ctlIn s p bs uncorrectable) := by
  have b2114560 : Sub 2114560 msk := Sub.trans (b := 2158364) rfl hM
  have b2124032 : Sub 2124032 msk := Sub.trans (b := 2158364) rfl hM
  have b2158364 : Sub 2158364 msk := Sub.trans (b := 2158364) rfl hM
  unfold State.ctlIn
  with_reducible repeat' (first | assumption | apply State.bump_frame b2124032 | apply State.gotAck_frame b2158364 | apply State.gotNak_frame b2158364 | apply State.gotXoff_frame b2114560 | apply State.gotXon_frame b2114560 | split | extract_lets | dsimp -zeta only | dsimp -zeta +zetaDelta only | refine frame_fst ?_ (by assumption) | refine frame_snd ?_ (by assumption))

theorem State.rawIn_frame {s : State} {p : Nat} {bs : List Byte} {ctrl uncorrectable : Bool} (hM : Sub 14745599 msk) (hF : Frame msk s0 s) : Frame msk s0 (State.rawIn s p bs ctrl uncorrectable) := by
  have b128 : Sub 128 msk := Sub.trans (b := 14745599) rfl hM
  have b2124032 : Sub 2124032 msk := Sub.trans (b := 14745599) rfl hM
  have b2158364 : Sub 2158364 msk := Sub.trans (b := 14745599) rfl hM
  have b6319360 : Sub 6319360 msk := Sub.trans (b := 14745599) rfl hM
  have b14745599 : Sub 14745599 msk := Sub.trans (b := 14745599) rfl hM
  unfold State.rawIn
  with_reducible repeat' (first | assumption | apply State.ctlIn_frame b2158364 | apply State.garbled_frame b6319360 | apply State.breakLink_frame b2158364 | apply State.discard_frame b6319360 | apply State.setKeys_frame b128 | apply State.bump_frame b2124032 | apply State.arrive_frame b14745599 | split | extract_lets | dsimp -zeta only | dsimp -zeta +zetaDelta only | refine frame_fst ?_ (by assumption) | refine frame_snd ?_ (by assumption))

theorem State.takeKept_frame {s : State} (hM : Sub 14745471 msk) (hF : Frame msk s0 s) : Frame msk s0 (State.takeKept s) := by
  have b1024 : Sub 1024 msk := Sub.trans (b := 14745471) rfl hM
  have b6308864 : Sub 6308864 msk := Sub.trans (b := 14745471) rfl hM
  have b10551167 : Sub 10551167 msk := Sub.trans (b := 14745471) rfl hM
  unfold State.takeKept
  with_reducible repeat' (first | assumption | apply State.packetIn_frame b10551167 | apply State.setPort_frame b1024 | apply State.xonCheck_frame b6308864 | refine foldl_frame ?_ ?_ | refine foldl_fst_frame ?_ ?_ | refine foldl_snd_frame ?_ ?_ | intro _ _ _ | intro _ _ | split | extract_lets)

theorem State.requestIn_frame {s : State} {code : ReqCode} {via : Via} {r : DirReq} {c : Instr} (hM : Sub 14745599 msk) (hF : Frame msk s0 s) : Frame msk s0 (State.requestIn s code via r c) := by
  have b10551135 : Sub 10551135 msk := Sub.trans (b := 14745599) rfl hM
  have b14745599 : Sub 14745599 msk := Sub.trans (b := 14745599) rfl hM
  unfold State.requestIn
  with_reducible repeat' (first | assumption | apply State.arrive_frame b14745599 | apply State.slotRequest_frame b10551135 | split | refine frame_fst ?_ (by assumption) | refine frame_snd ?_ (by assumption))

theorem State.barRefuse_frame {s : State} {fn gate : Nat} {cpl : Option Nat} (hM : Sub 2124032 msk) (hF : Frame msk s0 s) : Frame msk s0 (State.barRefuse s fn gate cpl) := by
  have b10240 : Sub 10240 msk := Sub.trans (b := 2124032) rfl hM
  have b2124032 : Sub 2124032 msk := Sub.trans (b := 2124032) rfl hM
  unfold State.barRefuse
  with_reducible repeat' (first | assumption | apply State.bump_frame b2124032 | apply State.hostTlp_frame b10240 | split | extract_lets | refine frame_fst ?_ (by assumption) | refine frame_snd ?_ (by assumption))

theorem State.openWin_frame {s : State} {w : WinReq} (hM : Sub 512 msk) (hF : Frame msk s0 s) : Frame msk s0 (State.openWin s w) := by
  have b512 : Sub 512 msk := Sub.trans (b := 512) rfl hM
  unfold State.openWin
  with_reducible repeat' (first | assumption | apply State.onPci_frame b512)

theorem State.barRead_frame {s : State} {fn off len id : Nat} {tbit : Bool} (hM : Sub 10551135 msk) (hF : Frame msk s0 s) : Frame msk s0 (State.barRead s fn off len id tbit) := by
  have b512 : Sub 512 msk := Sub.trans (b := 10551135) rfl hM
  have b10240 : Sub 10240 msk := Sub.trans (b := 10551135) rfl hM
  have b2113536 : Sub 2113536 msk := Sub.trans (b := 10551135) rfl hM
  have b2124032 : Sub 2124032 msk := Sub.trans (b := 10551135) rfl hM
  have b10551135 : Sub 10551135 msk := Sub.trans (b := 10551135) rfl hM
  unfold State.barRead
  with_reducible repeat' (first | assumption | apply State.hostRx_frame b2113536 | apply State.barRefuse_frame b2124032 | apply State.hostTlp_frame b10240 | apply State.openWin_frame b512 | apply State.admitIn_frame b10551135 | refine foldl_frame ?_ ?_ | refine foldl_fst_frame ?_ ?_ | refine foldl_snd_frame ?_ ?_ | intro _ _ _ | intro _ _ | split | extract_lets | dsimp -zeta only | dsimp -zeta +zetaDelta only)

theorem State.barWrite_frame {s : State} {fn off : Nat} {data : List Byte} {tbit : Bool} (hM : Sub 10551135 msk) (hF : Frame msk s0 s) : Frame msk s0 (State.barWrite s fn off data tbit) := by
  have b2113536 : Sub 2113536 msk := Sub.trans (b := 10551135) rfl hM
  have b2124032 : Sub 2124032 msk := Sub.trans (b := 10551135) rfl hM
  have b10551135 : Sub 10551135 msk := Sub.trans (b := 10551135) rfl hM
  unfold State.barWrite
  with_reducible repeat' (first | assumption | apply State.hostRx_frame b2113536 | apply State.barRefuse_frame b2124032 | apply State.admitIn_frame b10551135 | refine foldl_frame ?_ ?_ | refine foldl_fst_frame ?_ ?_ | refine foldl_snd_frame ?_ ?_ | intro _ _ _ | intro _ _ | split | extract_lets | dsimp -zeta only | dsimp -zeta +zetaDelta only | refine frame_fst ?_ (by assumption) | refine frame_snd ?_ (by assumption))

theorem State.barAtomic_frame {s : State} {fn off op width id : Nat} {operands : List Byte} {tbit : Bool} (hM : Sub 10551135 msk) (hF : Frame msk s0 s) : Frame msk s0 (State.barAtomic s fn off op width id operands tbit) := by
  have b512 : Sub 512 msk := Sub.trans (b := 10551135) rfl hM
  have b2113536 : Sub 2113536 msk := Sub.trans (b := 10551135) rfl hM
  have b2124032 : Sub 2124032 msk := Sub.trans (b := 10551135) rfl hM
  have b10551135 : Sub 10551135 msk := Sub.trans (b := 10551135) rfl hM
  unfold State.barAtomic
  with_reducible repeat' (first | assumption | apply State.hostRx_frame b2113536 | apply State.barRefuse_frame b2124032 | apply State.openWin_frame b512 | apply State.admitIn_frame b10551135 | split | extract_lets | dsimp -zeta only | dsimp -zeta +zetaDelta only | refine frame_fst ?_ (by assumption) | refine frame_snd ?_ (by assumption))

theorem State.winTimeout_frame {s : State} {fn id : Nat} (hM : Sub 2124548 msk) (hF : Frame msk s0 s) : Frame msk s0 (State.winTimeout s fn id) := by
  have b4 : Sub 4 msk := Sub.trans (b := 2124548) rfl hM
  have b512 : Sub 512 msk := Sub.trans (b := 2124548) rfl hM
  have b10240 : Sub 10240 msk := Sub.trans (b := 2124548) rfl hM
  have b2124544 : Sub 2124544 msk := Sub.trans (b := 2124548) rfl hM
  unfold State.winTimeout
  with_reducible repeat' (first | assumption | apply State.dropParked_frame b4 | apply State.dropDue_frame b4 | apply State.onPci_frame b512 | apply State.winError_frame b2124544 | apply State.hostTlp_frame b10240 | split | extract_lets | refine frame_fst ?_ (by assumption) | refine frame_snd ?_ (by assumption))

end Sys2Proof.Machine
end

