-- ==== Sys2Proof/Laws/FramePci.lean ====
section
/-! SUPPORT. The frame of every operation of Machine/Pci.lean: which parts of the state it may change. -/

namespace Sys2Proof.Machine

variable {msk : Nat} {s0 : State}

theorem State.mapIssuers_frame {s : State} {f : Issuer → Issuer} (hM : Sub 442 msk) (hF : Frame msk s0 s) : Frame msk s0 (State.mapIssuers s f) := by
  have b2 : Sub 2 msk := Sub.trans (b := 442) rfl hM
  have b8 : Sub 8 msk := Sub.trans (b := 442) rfl hM
  have b16 : Sub 16 msk := Sub.trans (b := 442) rfl hM
  have b32 : Sub 32 msk := Sub.trans (b := 442) rfl hM
  have b128 : Sub 128 msk := Sub.trans (b := 442) rfl hM
  have b256 : Sub 256 msk := Sub.trans (b := 442) rfl hM
  unfold State.mapIssuers
  with_reducible repeat' (first | assumption | apply State.onRgn_frame b2 | apply State.onCmd_frame b256 | apply State.onXlt_frame b8 | apply State.onEng_frame b16 | apply State.onOpu_frame b32 | apply State.onSec_frame b128 | extract_lets)

theorem State.disown_frame {s : State} {fn : Nat} (hM : Sub 442 msk) (hF : Frame msk s0 s) : Frame msk s0 (State.disown s fn) := by
  have b442 : Sub 442 msk := Sub.trans (b := 442) rfl hM
  unfold State.disown
  with_reducible repeat' (first | assumption | apply State.mapIssuers_frame b442 | split)

theorem State.clearAgent_frame {s : State} {agent : Nat} (hM : Sub 10547031 msk) (hF : Frame msk s0 s) : Frame msk s0 (State.clearAgent s agent) := by
  have b4 : Sub 4 msk := Sub.trans (b := 10547031) rfl hM
  have b16 : Sub 16 msk := Sub.trans (b := 10547031) rfl hM
  have b32768 : Sub 32768 msk := Sub.trans (b := 10547031) rfl hM
  have b2124564 : Sub 2124564 msk := Sub.trans (b := 10547031) rfl hM
  have b2158356 : Sub 2158356 msk := Sub.trans (b := 10547031) rfl hM
  have b10547031 : Sub 10547031 msk := Sub.trans (b := 10547031) rfl hM
  unfold State.clearAgent
  with_reducible repeat' (first | assumption | apply State.dropParked_frame b4 | apply State.dropDue_frame b4 | apply State.stopData_frame b2124564 | apply State.endGrant_frame b10547031 | apply State.setEntry_frame b4 | apply State.breakWb_frame b2158356 | apply State.setAgent_frame b4 | apply State.onEng_frame b16 | apply State.change_frame b32768 | refine foldl_frame ?_ ?_ | refine foldl_fst_frame ?_ ?_ | refine foldl_snd_frame ?_ ?_ | intro _ _ _ | intro _ _ | extract_lets)

theorem State.agentLoss_frame {s : State} {agent : Nat} (hM : Sub 10551167 msk) (hF : Frame msk s0 s) : Frame msk s0 (State.agentLoss s agent) := by
  have b4 : Sub 4 msk := Sub.trans (b := 10551167) rfl hM
  have b4096 : Sub 4096 msk := Sub.trans (b := 10551167) rfl hM
  have b2124032 : Sub 2124032 msk := Sub.trans (b := 10551167) rfl hM
  have b2124564 : Sub 2124564 msk := Sub.trans (b := 10551167) rfl hM
  have b2156860 : Sub 2156860 msk := Sub.trans (b := 10551167) rfl hM
  have b10547031 : Sub 10547031 msk := Sub.trans (b := 10551167) rfl hM
  unfold State.agentLoss
  with_reducible repeat' (first | assumption | apply State.flr_frame b2124564 | apply State.stopJobs_frame b2156860 | apply State.clearAgent_frame b10547031 | apply State.setAgent_frame b4 | apply State.setMeter_frame b4096 | apply State.failRecord_frame b2156860 | apply State.event_frame b2124032 | refine foldl_frame ?_ ?_ | refine foldl_fst_frame ?_ ?_ | refine foldl_snd_frame ?_ ?_ | intro _ _ _ | intro _ _ | split | extract_lets)

theorem State.lostReturn_frame {s : State} {agent : Nat} (hM : Sub 6352652 msk) (hF : Frame msk s0 s) : Frame msk s0 (State.lostReturn s agent) := by
  have b2157324 : Sub 2157324 msk := Sub.trans (b := 6352652) rfl hM
  have b6308864 : Sub 6308864 msk := Sub.trans (b := 6352652) rfl hM
  unfold State.lostReturn
  with_reducible repeat' (first | assumption | apply State.lost_frame b6308864 | apply State.agentUp_frame b2157324 | split)

theorem State.dropTlps_frame {s : State} {p : HostTlp → Bool} (hM : Sub 8192 msk) (hF : Frame msk s0 s) : Frame msk s0 (State.dropTlps s p) := by
  have b8192 : Sub 8192 msk := Sub.trans (b := 8192) rfl hM
  unfold State.dropTlps
  with_reducible repeat' (first | assumption | apply State.onSch_frame b8192 | split | refine frame_fst ?_ (by assumption) | refine frame_snd ?_ (by assumption))

theorem State.dropWins_frame {s : State} {p : Nat → Bool} (hM : Sub 516 msk) (hF : Frame msk s0 s) : Frame msk s0 (State.dropWins s p) := by
  have b4 : Sub 4 msk := Sub.trans (b := 516) rfl hM
  have b512 : Sub 512 msk := Sub.trans (b := 516) rfl hM
  unfold State.dropWins
  with_reducible repeat' (first | assumption | apply State.dropParked_frame b4 | apply State.dropDue_frame b4 | apply State.onPci_frame b512 | split | extract_lets | refine frame_fst ?_ (by assumption) | refine frame_snd ?_ (by assumption))

theorem State.flrStart_frame {s : State} {fn : Nat} (hM : Sub 2124564 msk) (hF : Frame msk s0 s) : Frame msk s0 (State.flrStart s fn) := by
  have b4 : Sub 4 msk := Sub.trans (b := 2124564) rfl hM
  have b512 : Sub 512 msk := Sub.trans (b := 2124564) rfl hM
  have b516 : Sub 516 msk := Sub.trans (b := 2124564) rfl hM
  have b8192 : Sub 8192 msk := Sub.trans (b := 2124564) rfl hM
  have b2124564 : Sub 2124564 msk := Sub.trans (b := 2124564) rfl hM
  unfold State.flrStart
  with_reducible repeat' (first | assumption | apply State.setFn_frame b512 | apply State.dropTlps_frame b8192 | apply State.dropWins_frame b516 | apply State.stopData_frame b2124564 | apply State.later_frame b4 | extract_lets | dsimp -zeta only | dsimp -zeta +zetaDelta only)

theorem State.flrApply_frame {s : State} {fn : Nat} (hM : Sub 10551167 msk) (hF : Frame msk s0 s) : Frame msk s0 (State.flrApply s fn) := by
  have b4 : Sub 4 msk := Sub.trans (b := 10551167) rfl hM
  have b256 : Sub 256 msk := Sub.trans (b := 10551167) rfl hM
  have b4096 : Sub 4096 msk := Sub.trans (b := 10551167) rfl hM
  have b2156860 : Sub 2156860 msk := Sub.trans (b := 10551167) rfl hM
  have b2158356 : Sub 2158356 msk := Sub.trans (b := 10551167) rfl hM
  have b2158364 : Sub 2158364 msk := Sub.trans (b := 10551167) rfl hM
  have b10547031 : Sub 10547031 msk := Sub.trans (b := 10551167) rfl hM
  unfold State.flrApply
  with_reducible repeat' (first | assumption | apply State.setMeter_frame b4096 | apply State.agentDown_frame b2158356 | apply State.clearAgent_frame b10547031 | apply State.setAgent_frame b4 | apply State.agentLink_frame b2158364 | apply State.stopJobs_frame b2156860 | apply State.setIntake_frame b256 | apply State.failRecord_frame b2156860 | refine foldl_frame ?_ ?_ | refine foldl_fst_frame ?_ ?_ | refine foldl_snd_frame ?_ ?_ | intro _ _ _ | intro _ _ | split | extract_lets | dsimp -zeta only | dsimp -zeta +zetaDelta only | refine frame_fst ?_ (by assumption) | refine frame_snd ?_ (by assumption))

theorem State.flr_frame {s : State} {fn : Nat} (hM : Sub 2124564 msk) (hF : Frame msk s0 s) : Frame msk s0 (State.flr s fn) := by
  have b512 : Sub 512 msk := Sub.trans (b := 2124564) rfl hM
  have b2124564 : Sub 2124564 msk := Sub.trans (b := 2124564) rfl hM
  unfold State.flr
  with_reducible repeat' (first | assumption | apply State.flrStart_frame b2124564 | apply State.setFn_frame b512 | refine foldl_frame ?_ ?_ | refine foldl_fst_frame ?_ ?_ | refine foldl_snd_frame ?_ ?_ | intro _ _ _ | intro _ _ | split | extract_lets)

theorem State.flrEnd_frame {s : State} {fn : Nat} (hM : Sub 2157498 msk) (hF : Frame msk s0 s) : Frame msk s0 (State.flrEnd s fn) := by
  have b256 : Sub 256 msk := Sub.trans (b := 2157498) rfl hM
  have b442 : Sub 442 msk := Sub.trans (b := 2157498) rfl hM
  have b512 : Sub 512 msk := Sub.trans (b := 2157498) rfl hM
  have b32768 : Sub 32768 msk := Sub.trans (b := 2157498) rfl hM
  have b2124032 : Sub 2124032 msk := Sub.trans (b := 2157498) rfl hM
  unfold State.flrEnd
  with_reducible repeat' (first | assumption | apply State.onMir_frame b32768 | apply State.disown_frame b442 | apply State.setIntake_frame b256 | apply State.setFn_frame b512 | apply State.bump_frame b2124032 | split | extract_lets | refine frame_fst ?_ (by assumption) | refine frame_snd ?_ (by assumption))

theorem State.flrTick_frame {s : State} (hM : Sub 2157498 msk) (hF : Frame msk s0 s) : Frame msk s0 (State.flrTick s) := by
  have b2157498 : Sub 2157498 msk := Sub.trans (b := 2157498) rfl hM
  unfold State.flrTick
  with_reducible repeat' (first | assumption | apply State.flrEnd_frame b2157498 | refine foldl_frame ?_ ?_ | refine foldl_fst_frame ?_ ?_ | refine foldl_snd_frame ?_ ?_ | intro _ _ _ | intro _ _)

theorem State.setLink_frame {s : State} {l : Nat} {f : PLink → PLink} (hM : Sub 512 msk) (hF : Frame msk s0 s) : Frame msk s0 (State.setLink s l f) := by
  have b512 : Sub 512 msk := Sub.trans (b := 512) rfl hM
  unfold State.setLink
  with_reducible repeat' (first | assumption | apply State.onPci_frame b512)

theorem State.linkDown_frame {s : State} {l : Nat} (hM : Sub 2158364 msk) (hF : Frame msk s0 s) : Frame msk s0 (State.linkDown s l) := by
  have b4 : Sub 4 msk := Sub.trans (b := 2158364) rfl hM
  have b512 : Sub 512 msk := Sub.trans (b := 2158364) rfl hM
  have b516 : Sub 516 msk := Sub.trans (b := 2158364) rfl hM
  have b8192 : Sub 8192 msk := Sub.trans (b := 2158364) rfl hM
  have b2124564 : Sub 2124564 msk := Sub.trans (b := 2158364) rfl hM
  have b2158364 : Sub 2158364 msk := Sub.trans (b := 2158364) rfl hM
  unfold State.linkDown
  with_reducible repeat' (first | assumption | apply State.setLink_frame b512 | apply State.dropTlps_frame b8192 | apply State.dropWins_frame b516 | apply State.agentLinks_frame b2158364 | apply State.flr_frame b2124564 | apply State.setAgent_frame b4 | refine foldl_frame ?_ ?_ | refine foldl_fst_frame ?_ ?_ | refine foldl_snd_frame ?_ ?_ | intro _ _ _ | intro _ _ | split | extract_lets)

theorem State.hostDown_frame {s : State} {l : Nat} (hM : Sub 2158364 msk) (hF : Frame msk s0 s) : Frame msk s0 (State.hostDown s l) := by
  have b2124032 : Sub 2124032 msk := Sub.trans (b := 2158364) rfl hM
  have b2158364 : Sub 2158364 msk := Sub.trans (b := 2158364) rfl hM
  unfold State.hostDown
  with_reducible repeat' (first | assumption | apply State.linkDown_frame b2158364 | apply State.raise_frame b2124032 | split)

theorem State.hostUp_frame {s : State} {l rate width : Nat} {flit : Bool} (hM : Sub 2158364 msk) (hF : Frame msk s0 s) : Frame msk s0 (State.hostUp s l rate width flit) := by
  have b512 : Sub 512 msk := Sub.trans (b := 2158364) rfl hM
  have b2158364 : Sub 2158364 msk := Sub.trans (b := 2158364) rfl hM
  unfold State.hostUp
  with_reducible repeat' (first | assumption | apply State.setLink_frame b512 | apply State.agentLinks_frame b2158364 | split)

theorem State.perstLow_frame {s : State} {n : Nat} (hM : Sub 2420508 msk) (hF : Frame msk s0 s) : Frame msk s0 (State.perstLow s n) := by
  have b262144 : Sub 262144 msk := Sub.trans (b := 2420508) rfl hM
  have b2124564 : Sub 2124564 msk := Sub.trans (b := 2420508) rfl hM
  have b2158364 : Sub 2158364 msk := Sub.trans (b := 2420508) rfl hM
  unfold State.perstLow
  with_reducible repeat' (first | assumption | apply State.onPins_frame b262144 | apply State.linkDown_frame b2158364 | apply State.flr_frame b2124564 | refine foldl_frame ?_ ?_ | refine foldl_fst_frame ?_ ?_ | refine foldl_snd_frame ?_ ?_ | intro _ _ _ | intro _ _ | split | extract_lets)

theorem State.perstHigh_frame {s : State} {n : Nat} (hM : Sub 262656 msk) (hF : Frame msk s0 s) : Frame msk s0 (State.perstHigh s n) := by
  have b512 : Sub 512 msk := Sub.trans (b := 262656) rfl hM
  have b262144 : Sub 262144 msk := Sub.trans (b := 262656) rfl hM
  unfold State.perstHigh
  with_reducible repeat' (first | assumption | apply State.onPins_frame b262144 | apply State.setLink_frame b512 | refine foldl_frame ?_ ?_ | refine foldl_fst_frame ?_ ?_ | refine foldl_snd_frame ?_ ?_ | intro _ _ _ | intro _ _ | split | extract_lets)

theorem State.tdiError_frame {s : State} {fn : Nat} (hM : Sub 2158364 msk) (hF : Frame msk s0 s) : Frame msk s0 (State.tdiError s fn) := by
  have b512 : Sub 512 msk := Sub.trans (b := 2158364) rfl hM
  have b2158364 : Sub 2158364 msk := Sub.trans (b := 2158364) rfl hM
  unfold State.tdiError
  with_reducible repeat' (first | assumption | apply State.setFn_frame b512 | apply State.agentLink_frame b2158364 | split | refine frame_fst ?_ (by assumption) | refine frame_snd ?_ (by assumption))

theorem State.ideFail_frame {s : State} {l stream : Nat} (hM : Sub 2158364 msk) (hF : Frame msk s0 s) : Frame msk s0 (State.ideFail s l stream) := by
  have b512 : Sub 512 msk := Sub.trans (b := 2158364) rfl hM
  have b2124032 : Sub 2124032 msk := Sub.trans (b := 2158364) rfl hM
  have b2158364 : Sub 2158364 msk := Sub.trans (b := 2158364) rfl hM
  unfold State.ideFail
  with_reducible repeat' (first | assumption | apply State.setLink_frame b512 | apply State.raise_frame b2124032 | apply State.tdiError_frame b2158364 | split | extract_lets | refine frame_fst ?_ (by assumption) | refine frame_snd ?_ (by assumption))

theorem State.ideKey_frame {s : State} {l stream fn : Nat} (hM : Sub 512 msk) (hF : Frame msk s0 s) : Frame msk s0 (State.ideKey s l stream fn) := by
  have b512 : Sub 512 msk := Sub.trans (b := 512) rfl hM
  unfold State.ideKey
  with_reducible repeat' (first | assumption | apply State.setLink_frame b512 | split)

theorem State.lockTdi_frame {s : State} {fn : Nat} (hM : Sub 512 msk) (hF : Frame msk s0 s) : Frame msk s0 (State.lockTdi s fn) := by
  have b512 : Sub 512 msk := Sub.trans (b := 512) rfl hM
  unfold State.lockTdi
  with_reducible repeat' (first | assumption | apply State.setFn_frame b512 | split | extract_lets)

theorem State.startTdi_frame {s : State} {fn : Nat} (hM : Sub 512 msk) (hF : Frame msk s0 s) : Frame msk s0 (State.startTdi s fn) := by
  have b512 : Sub 512 msk := Sub.trans (b := 512) rfl hM
  unfold State.startTdi
  with_reducible repeat' (first | assumption | apply State.setFn_frame b512 | split)

theorem State.stopTdi_frame {s : State} {fn : Nat} (hM : Sub 2158364 msk) (hF : Frame msk s0 s) : Frame msk s0 (State.stopTdi s fn) := by
  have b512 : Sub 512 msk := Sub.trans (b := 2158364) rfl hM
  have b2158364 : Sub 2158364 msk := Sub.trans (b := 2158364) rfl hM
  unfold State.stopTdi
  with_reducible repeat' (first | assumption | apply State.setFn_frame b512 | apply State.agentLink_frame b2158364 | split)

theorem State.bind_frame {s : State} {fn agent tenant : Nat} (hM : Sub 2162460 msk) (hF : Frame msk s0 s) : Frame msk s0 (State.bind s fn agent tenant) := by
  have b8 : Sub 8 msk := Sub.trans (b := 2162460) rfl hM
  have b512 : Sub 512 msk := Sub.trans (b := 2162460) rfl hM
  have b32768 : Sub 32768 msk := Sub.trans (b := 2162460) rfl hM
  have b2158364 : Sub 2158364 msk := Sub.trans (b := 2162460) rfl hM
  have b2162460 : Sub 2162460 msk := Sub.trans (b := 2162460) rfl hM
  unfold State.bind
  with_reducible repeat' (first | assumption | apply State.setFn_frame b512 | apply State.deriveOwner_frame b8 | apply State.putRoute_frame b2162460 | apply State.agentLink_frame b2158364 | apply State.change_frame b32768 | split | extract_lets)

theorem State.doFuncBind_frame {s : State} {i : Issuer} {p : Packet} (hM : Sub 2162460 msk) (hF : Frame msk s0 s) : Frame msk s0 (State.doFuncBind s i p) := by
  have b10496 : Sub 10496 msk := Sub.trans (b := 2162460) rfl hM
  have b2162460 : Sub 2162460 msk := Sub.trans (b := 2162460) rfl hM
  unfold State.doFuncBind
  with_reducible repeat' (first | assumption | apply State.denied_frame b10496 | apply State.malformed_frame b10496 | apply State.busy_frame b10496 | apply State.bind_frame b2162460 | apply State.answer_frame b10496 | split | extract_lets)

theorem State.configWrite_frame {s : State} {fn kind v : Nat} (hM : Sub 2158364 msk) (hF : Frame msk s0 s) : Frame msk s0 (State.configWrite s fn kind v) := by
  have b512 : Sub 512 msk := Sub.trans (b := 2158364) rfl hM
  have b2158364 : Sub 2158364 msk := Sub.trans (b := 2158364) rfl hM
  unfold State.configWrite
  with_reducible repeat' (first | assumption | apply State.tdiError_frame b2158364 | apply State.setFn_frame b512 | apply State.agentLink_frame b2158364 | apply State.agentLinks_frame b2158364 | split | extract_lets | refine frame_fst ?_ (by assumption) | refine frame_snd ?_ (by assumption))

end Sys2Proof.Machine
end

