-- ==== Sys2Proof/Laws/FrameSec.lean ====
section
/-! SUPPORT. The frame of every operation of Machine/Sec.lean: which parts of the state it may change. -/

namespace Sys2Proof.Machine

variable {msk : Nat} {s0 : State}

theorem State.bindEnd_frame {s : State} {rid : Nat} {b : Binder} (hM : Sub 10547159 msk) (hF : Frame msk s0 s) : Frame msk s0 (State.bindEnd s rid b) := by
  have b128 : Sub 128 msk := Sub.trans (b := 10547159) rfl hM
  have b10496 : Sub 10496 msk := Sub.trans (b := 10547159) rfl hM
  have b32768 : Sub 32768 msk := Sub.trans (b := 10547159) rfl hM
  have b43264 : Sub 43264 msk := Sub.trans (b := 10547159) rfl hM
  have b2124032 : Sub 2124032 msk := Sub.trans (b := 10547159) rfl hM
  have b10547031 : Sub 10547031 msk := Sub.trans (b := 10547159) rfl hM
  unfold State.bindEnd
  with_reducible repeat' (first | assumption | apply State.onSec_frame b128 | apply State.answer_frame b10496 | apply State.bump_frame b2124032 | apply State.change_frame b32768 | apply State.endGrant_frame b10547031 | apply State.answerR16_frame b43264 | refine foldl_frame ?_ ?_ | refine foldl_fst_frame ?_ ?_ | refine foldl_snd_frame ?_ ?_ | intro _ _ _ | intro _ _ | split | extract_lets | refine frame_fst ?_ (by assumption) | refine frame_snd ?_ (by assumption))

theorem State.bundleAsk_frame {s : State} {rid : Nat} {b : Binder} (hM : Sub 10752 msk) (hF : Frame msk s0 s) : Frame msk s0 (State.bundleAsk s rid b) := by
  have b512 : Sub 512 msk := Sub.trans (b := 10752) rfl hM
  have b10240 : Sub 10240 msk := Sub.trans (b := 10752) rfl hM
  unfold State.bundleAsk
  with_reducible repeat' (first | assumption | apply State.onPci_frame b512 | apply State.hostTlp_frame b10240 | refine foldl_frame ?_ ?_ | refine foldl_fst_frame ?_ ?_ | refine foldl_snd_frame ?_ ?_ | intro _ _ _ | intro _ _ | extract_lets)

theorem State.doBindWeights_frame {s : State} {i : Issuer} {p : Packet} (hM : Sub 10547159 msk) (hF : Frame msk s0 s) : Frame msk s0 (State.doBindWeights s i p) := by
  have b128 : Sub 128 msk := Sub.trans (b := 10547159) rfl hM
  have b10496 : Sub 10496 msk := Sub.trans (b := 10547159) rfl hM
  have b10752 : Sub 10752 msk := Sub.trans (b := 10547159) rfl hM
  have b43264 : Sub 43264 msk := Sub.trans (b := 10547159) rfl hM
  have b10547159 : Sub 10547159 msk := Sub.trans (b := 10547159) rfl hM
  unfold State.doBindWeights
  with_reducible repeat' (first | assumption | apply State.denied_frame b10496 | apply State.busy_frame b10496 | apply State.answerR16_frame b43264 | apply State.onSec_frame b128 | apply State.bundleAsk_frame b10752 | apply State.bindEnd_frame b10547159 | split | extract_lets)

theorem State.bindFail_frame {s : State} {rid : Nat} {st : Status} {d : Nat} (hM : Sub 10624 msk) (hF : Frame msk s0 s) : Frame msk s0 (State.bindFail s rid st d) := by
  have b128 : Sub 128 msk := Sub.trans (b := 10624) rfl hM
  have b10496 : Sub 10496 msk := Sub.trans (b := 10624) rfl hM
  unfold State.bindFail
  with_reducible repeat' (first | assumption | apply State.onSec_frame b128 | apply State.answer_frame b10496 | split | refine frame_fst ?_ (by assumption) | refine frame_snd ?_ (by assumption))

theorem State.readFail_frame {s : State} {r : HostRead} {st : Status} {d : Nat} (hM : Sub 2158484 msk) (hF : Frame msk s0 s) : Frame msk s0 (State.readFail s r st d) := by
  have b512 : Sub 512 msk := Sub.trans (b := 2158484) rfl hM
  have b10624 : Sub 10624 msk := Sub.trans (b := 2158484) rfl hM
  have b2158356 : Sub 2158356 msk := Sub.trans (b := 2158484) rfl hM
  unfold State.readFail
  with_reducible repeat' (first | assumption | apply State.breakWb_frame b2158356 | apply State.onPci_frame b512 | apply State.bindFail_frame b10624 | split | extract_lets | refine frame_fst ?_ (by assumption) | refine frame_snd ?_ (by assumption))

theorem State.readData_frame {s : State} {r : HostRead} {data : List Byte} (hM : Sub 10547159 msk) (hF : Frame msk s0 s) : Frame msk s0 (State.readData s r data) := by
  have b128 : Sub 128 msk := Sub.trans (b := 10547159) rfl hM
  have b11796 : Sub 11796 msk := Sub.trans (b := 10547159) rfl hM
  have b10547159 : Sub 10547159 msk := Sub.trans (b := 10547159) rfl hM
  unfold State.readData
  with_reducible repeat' (first | assumption | apply State.wbData_frame b11796 | apply State.onSec_frame b128 | apply State.bindEnd_frame b10547159 | split | extract_lets | refine frame_fst ?_ (by assumption) | refine frame_snd ?_ (by assumption))

theorem State.readCompletion_frame {s : State} {tag status : Nat} {data : List Byte} (hM : Sub 10547159 msk) (hF : Frame msk s0 s) : Frame msk s0 (State.readCompletion s tag status data) := by
  have b512 : Sub 512 msk := Sub.trans (b := 10547159) rfl hM
  have b2113536 : Sub 2113536 msk := Sub.trans (b := 10547159) rfl hM
  have b2124032 : Sub 2124032 msk := Sub.trans (b := 10547159) rfl hM
  have b2158484 : Sub 2158484 msk := Sub.trans (b := 10547159) rfl hM
  have b10547159 : Sub 10547159 msk := Sub.trans (b := 10547159) rfl hM
  unfold State.readCompletion
  with_reducible repeat' (first | assumption | apply State.hostRx_frame b2113536 | apply State.onPci_frame b512 | apply State.raise_frame b2124032 | apply State.readFail_frame b2158484 | apply State.readData_frame b10547159 | split | extract_lets | refine frame_fst ?_ (by assumption) | refine frame_snd ?_ (by assumption))

theorem State.readTimeout_frame {s : State} {tag : Nat} (hM : Sub 2158484 msk) (hF : Frame msk s0 s) : Frame msk s0 (State.readTimeout s tag) := by
  have b512 : Sub 512 msk := Sub.trans (b := 2158484) rfl hM
  have b2124032 : Sub 2124032 msk := Sub.trans (b := 2158484) rfl hM
  have b2158484 : Sub 2158484 msk := Sub.trans (b := 2158484) rfl hM
  unfold State.readTimeout
  with_reducible repeat' (first | assumption | apply State.onPci_frame b512 | apply State.bump_frame b2124032 | apply State.raise_frame b2124032 | apply State.readFail_frame b2158484 | split | extract_lets | refine frame_fst ?_ (by assumption) | refine frame_snd ?_ (by assumption))

theorem State.setTenant_frame {s : State} {t : Nat} {f : Tenant → Tenant} (hM : Sub 128 msk) (hF : Frame msk s0 s) : Frame msk s0 (State.setTenant s t f) := by
  have b128 : Sub 128 msk := Sub.trans (b := 128) rfl hM
  unfold State.setTenant
  with_reducible repeat' (first | assumption | apply State.onSec_frame b128)

theorem State.emptyTables_frame {s : State} {a : Nat} (hM : Sub 32776 msk) (hF : Frame msk s0 s) : Frame msk s0 (State.emptyTables s a) := by
  have b8 : Sub 8 msk := Sub.trans (b := 32776) rfl hM
  have b32768 : Sub 32768 msk := Sub.trans (b := 32776) rfl hM
  unfold State.emptyTables
  with_reducible repeat' (first | assumption | apply State.onXlt_frame b8 | apply State.setOwner_frame b8 | apply State.change_frame b32768 | extract_lets)

theorem State.doTenantCreate_frame {s : State} {i : Issuer} {p : Packet} (hM : Sub 8432008 msk) (hF : Frame msk s0 s) : Frame msk s0 (State.doTenantCreate s i p) := by
  have b128 : Sub 128 msk := Sub.trans (b := 8432008) rfl hM
  have b10496 : Sub 10496 msk := Sub.trans (b := 8432008) rfl hM
  have b32768 : Sub 32768 msk := Sub.trans (b := 8432008) rfl hM
  have b32776 : Sub 32776 msk := Sub.trans (b := 8432008) rfl hM
  have b8388608 : Sub 8388608 msk := Sub.trans (b := 8432008) rfl hM
  unfold State.doTenantCreate
  with_reducible repeat' (first | assumption | apply State.denied_frame b10496 | apply State.malformed_frame b10496 | apply State.busy_frame b10496 | apply State.setTenant_frame b128 | apply State.drawKey_frame b8388608 | apply State.onSec_frame b128 | apply State.emptyTables_frame b32776 | apply State.change_frame b32768 | apply State.answer_frame b10496 | refine foldl_frame ?_ ?_ | refine foldl_fst_frame ?_ ?_ | refine foldl_snd_frame ?_ ?_ | intro _ _ _ | intro _ _ | split | extract_lets | dsimp -zeta only | dsimp -zeta +zetaDelta only | refine frame_fst ?_ (by assumption) | refine frame_snd ?_ (by assumption))

theorem State.sweepRound_frame {s : State} (hM : Sub 144 msk) (hF : Frame msk s0 s) : Frame msk s0 (State.sweepRound s) := by
  have b16 : Sub 16 msk := Sub.trans (b := 144) rfl hM
  have b128 : Sub 128 msk := Sub.trans (b := 144) rfl hM
  unfold State.sweepRound
  with_reducible repeat' (first | assumption | apply State.onSec_frame b128 | apply State.setAct_frame b16 | refine foldl_frame ?_ ?_ | refine foldl_fst_frame ?_ ?_ | refine foldl_snd_frame ?_ ?_ | intro _ _ _ | intro _ _ | split | extract_lets | dsimp -zeta only | dsimp -zeta +zetaDelta only | refine frame_fst ?_ (by assumption) | refine frame_snd ?_ (by assumption))

theorem State.sweepFeed_frame {s : State} {fuel9 : Nat} (hM : Sub 144 msk) (hF : Frame msk s0 s) : Frame msk s0 (State.sweepFeed s fuel9) := by
  have b144 : Sub 144 msk := Sub.trans (b := 144) rfl hM
  induction fuel9 generalizing s with
  | zero => unfold State.sweepFeed; with_reducible repeat' (first | assumption | apply State.sweepRound_frame b144 | split | extract_lets | dsimp -zeta only | dsimp -zeta +zetaDelta only | refine frame_fst ?_ (by assumption) | refine frame_snd ?_ (by assumption))
  | succ fuel9 ih =>
    unfold State.sweepFeed
    with_reducible repeat' (first | assumption | apply ih | apply State.sweepRound_frame b144 | split | extract_lets | dsimp -zeta only | dsimp -zeta +zetaDelta only | refine frame_fst ?_ (by assumption) | refine frame_snd ?_ (by assumption))

theorem State.doKeyRotate_frame {s : State} {i : Issuer} {p : Packet} (hM : Sub 8432016 msk) (hF : Frame msk s0 s) : Frame msk s0 (State.doKeyRotate s i p) := by
  have b16 : Sub 16 msk := Sub.trans (b := 8432016) rfl hM
  have b128 : Sub 128 msk := Sub.trans (b := 8432016) rfl hM
  have b144 : Sub 144 msk := Sub.trans (b := 8432016) rfl hM
  have b10496 : Sub 10496 msk := Sub.trans (b := 8432016) rfl hM
  have b43264 : Sub 43264 msk := Sub.trans (b := 8432016) rfl hM
  have b8388608 : Sub 8388608 msk := Sub.trans (b := 8432016) rfl hM
  unfold State.doKeyRotate
  with_reducible repeat' (first | assumption | apply State.denied_frame b10496 | apply State.malformed_frame b10496 | apply State.busy_frame b10496 | apply State.drawKey_frame b8388608 | apply State.setTenant_frame b128 | apply State.onSec_frame b128 | apply State.addAct_frame b16 | apply State.sweepFeed_frame b144 | apply State.answerR16_frame b43264 | split | extract_lets | refine frame_fst ?_ (by assumption) | refine frame_snd ?_ (by assumption))

theorem State.sweepDone_frame {s : State} {t : Nat} (hM : Sub 2156944 msk) (hF : Frame msk s0 s) : Frame msk s0 (State.sweepDone s t) := by
  have b16 : Sub 16 msk := Sub.trans (b := 2156944) rfl hM
  have b128 : Sub 128 msk := Sub.trans (b := 2156944) rfl hM
  have b43264 : Sub 43264 msk := Sub.trans (b := 2156944) rfl hM
  have b2124032 : Sub 2124032 msk := Sub.trans (b := 2156944) rfl hM
  unfold State.sweepDone
  with_reducible repeat' (first | assumption | apply State.dropAct_frame b16 | apply State.onSec_frame b128 | apply State.setTenant_frame b128 | apply State.answerR16_frame b43264 | apply State.event_frame b2124032 | split | extract_lets | refine frame_fst ?_ (by assumption) | refine frame_snd ?_ (by assumption))

theorem State.oldKeyGone_frame {s : State} {t : Nat} (hM : Sub 128 msk) (hF : Frame msk s0 s) : Frame msk s0 (State.oldKeyGone s t) := by
  have b128 : Sub 128 msk := Sub.trans (b := 128) rfl hM
  unfold State.oldKeyGone
  with_reducible repeat' (first | assumption | apply State.setTenant_frame b128 | apply State.onSec_frame b128 | split | refine frame_fst ?_ (by assumption) | refine frame_snd ?_ (by assumption))

theorem State.scrubPend_frame {s : State} {i : Nat} (hM : Sub 2158356 msk) (hF : Frame msk s0 s) : Frame msk s0 (State.scrubPend s i) := by
  have b4 : Sub 4 msk := Sub.trans (b := 2158356) rfl hM
  have b16 : Sub 16 msk := Sub.trans (b := 2158356) rfl hM
  have b32768 : Sub 32768 msk := Sub.trans (b := 2158356) rfl hM
  have b2124544 : Sub 2124544 msk := Sub.trans (b := 2158356) rfl hM
  have b2157332 : Sub 2157332 msk := Sub.trans (b := 2158356) rfl hM
  have b2158356 : Sub 2158356 msk := Sub.trans (b := 2158356) rfl hM
  unfold State.scrubPend
  with_reducible repeat' (first | assumption | apply State.refuseParked_frame b2157332 | apply State.stopWb_frame b2158356 | apply State.refuse_frame b2157332 | apply State.dropAct_frame b16 | apply State.grantEnded_frame b2124544 | apply State.setEntry_frame b4 | apply State.change_frame b32768 | refine foldl_frame ?_ ?_ | refine foldl_fst_frame ?_ ?_ | refine foldl_snd_frame ?_ ?_ | intro _ _ _ | intro _ _ | split | extract_lets | refine frame_fst ?_ (by assumption) | refine frame_snd ?_ (by assumption))

theorem State.cutRegion_frame {s : State} {rid : Nat} (hM : Sub 2158526 msk) (hF : Frame msk s0 s) : Frame msk s0 (State.cutRegion s rid) := by
  have b2 : Sub 2 msk := Sub.trans (b := 2158526) rfl hM
  have b18 : Sub 18 msk := Sub.trans (b := 2158526) rfl hM
  have b128 : Sub 128 msk := Sub.trans (b := 2158526) rfl hM
  have b256 : Sub 256 msk := Sub.trans (b := 2158526) rfl hM
  have b32768 : Sub 32768 msk := Sub.trans (b := 2158526) rfl hM
  have b2124564 : Sub 2124564 msk := Sub.trans (b := 2158526) rfl hM
  have b2156862 : Sub 2156862 msk := Sub.trans (b := 2158526) rfl hM
  have b2158356 : Sub 2158356 msk := Sub.trans (b := 2158526) rfl hM
  unfold State.cutRegion
  with_reducible repeat' (first | assumption | apply State.stopRack_frame b2156862 | apply State.setRegion_frame b2 | apply State.closeCmd_frame b256 | apply State.stopData_frame b2124564 | apply State.scrubPend_frame b2158356 | apply State.dropScrub_frame b18 | apply State.onSec_frame b128 | apply State.change_frame b32768 | refine foldl_frame ?_ ?_ | refine foldl_fst_frame ?_ ?_ | refine foldl_snd_frame ?_ ?_ | intro _ _ _ | intro _ _ | split | extract_lets | refine frame_fst ?_ (by assumption) | refine frame_snd ?_ (by assumption))

theorem State.removeStart_frame {s : State} {t : Nat} {i : Issuer} (hM : Sub 10551295 msk) (hF : Frame msk s0 s) : Frame msk s0 (State.removeStart s t i) := by
  have b16 : Sub 16 msk := Sub.trans (b := 10551295) rfl hM
  have b32 : Sub 32 msk := Sub.trans (b := 10551295) rfl hM
  have b128 : Sub 128 msk := Sub.trans (b := 10551295) rfl hM
  have b2048 : Sub 2048 msk := Sub.trans (b := 10551295) rfl hM
  have b4096 : Sub 4096 msk := Sub.trans (b := 10551295) rfl hM
  have b8192 : Sub 8192 msk := Sub.trans (b := 10551295) rfl hM
  have b32768 : Sub 32768 msk := Sub.trans (b := 10551295) rfl hM
  have b2156860 : Sub 2156860 msk := Sub.trans (b := 10551295) rfl hM
  have b2158526 : Sub 2158526 msk := Sub.trans (b := 10551295) rfl hM
  have b10547031 : Sub 10547031 msk := Sub.trans (b := 10551295) rfl hM
  unfold State.removeStart
  with_reducible repeat' (first | assumption | apply State.dropAct_frame b16 | apply State.onSec_frame b128 | apply State.setTenant_frame b128 | apply State.setMeter_frame b4096 | apply State.onSch_frame b8192 | apply State.stopJobs_frame b2156860 | apply State.onOpu_frame b32 | apply State.onTrt_frame b2048 | apply State.cutRegion_frame b2158526 | apply State.detach_frame b10547031 | apply State.clearAgent_frame b10547031 | apply State.change_frame b32768 | refine foldl_frame ?_ ?_ | refine foldl_fst_frame ?_ ?_ | refine foldl_snd_frame ?_ ?_ | intro _ _ _ | intro _ _ | split | extract_lets | refine frame_fst ?_ (by assumption) | refine frame_snd ?_ (by assumption))

theorem State.doTenantRemove_frame {s : State} {i : Issuer} {p : Packet} (hM : Sub 10551295 msk) (hF : Frame msk s0 s) : Frame msk s0 (State.doTenantRemove s i p) := by
  have b10496 : Sub 10496 msk := Sub.trans (b := 10551295) rfl hM
  have b10551295 : Sub 10551295 msk := Sub.trans (b := 10551295) rfl hM
  unfold State.doTenantRemove
  with_reducible repeat' (first | assumption | apply State.denied_frame b10496 | apply State.malformed_frame b10496 | apply State.busy_frame b10496 | apply State.removeStart_frame b10551295 | split | extract_lets)

theorem State.removeOwed_frame {s : State} {r : Removal} (hM : Sub 2157312 msk) (hF : Frame msk s0 s) : Frame msk s0 (State.removeOwed s r) := by
  have b256 : Sub 256 msk := Sub.trans (b := 2157312) rfl hM
  have b512 : Sub 512 msk := Sub.trans (b := 2157312) rfl hM
  have b2048 : Sub 2048 msk := Sub.trans (b := 2157312) rfl hM
  have b8192 : Sub 8192 msk := Sub.trans (b := 2157312) rfl hM
  have b32768 : Sub 32768 msk := Sub.trans (b := 2157312) rfl hM
  have b2124032 : Sub 2124032 msk := Sub.trans (b := 2157312) rfl hM
  unfold State.removeOwed
  with_reducible repeat' (first | assumption | apply State.onSch_frame b8192 | apply State.onMir_frame b32768 | apply State.setFn_frame b512 | apply State.setIntake_frame b256 | apply State.setRoute_frame b2048 | apply State.bump_frame b2124032 | refine foldl_frame ?_ ?_ | refine foldl_fst_frame ?_ ?_ | refine foldl_snd_frame ?_ ?_ | intro _ _ _ | intro _ _ | split | extract_lets | refine frame_fst ?_ (by assumption) | refine frame_snd ?_ (by assumption))

theorem State.removeEnds_frame {s : State} {r : Removal} (hM : Sub 2158492 msk) (hF : Frame msk s0 s) : Frame msk s0 (State.removeEnds s r) := by
  have b4 : Sub 4 msk := Sub.trans (b := 2158492) rfl hM
  have b8 : Sub 8 msk := Sub.trans (b := 2158492) rfl hM
  have b128 : Sub 128 msk := Sub.trans (b := 2158492) rfl hM
  have b256 : Sub 256 msk := Sub.trans (b := 2158492) rfl hM
  have b512 : Sub 512 msk := Sub.trans (b := 2158492) rfl hM
  have b2048 : Sub 2048 msk := Sub.trans (b := 2158492) rfl hM
  have b32776 : Sub 32776 msk := Sub.trans (b := 2158492) rfl hM
  have b2158364 : Sub 2158364 msk := Sub.trans (b := 2158492) rfl hM
  unfold State.removeEnds
  with_reducible repeat' (first | assumption | apply State.emptyTables_frame b32776 | apply State.onXlt_frame b8 | apply State.onSec_frame b128 | apply State.setFn_frame b512 | apply State.setRoute_frame b2048 | apply State.setAgent_frame b4 | apply State.tdiError_frame b2158364 | apply State.setIntake_frame b256 | refine foldl_frame ?_ ?_ | refine foldl_fst_frame ?_ ?_ | refine foldl_snd_frame ?_ ?_ | intro _ _ _ | intro _ _ | split | extract_lets)

theorem State.removeKeys_frame {s : State} {t : Nat} (hM : Sub 128 msk) (hF : Frame msk s0 s) : Frame msk s0 (State.removeKeys s t) := by
  have b128 : Sub 128 msk := Sub.trans (b := 128) rfl hM
  unfold State.removeKeys
  with_reducible repeat' (first | assumption | apply State.setTenant_frame b128 | apply State.onSec_frame b128 | extract_lets)

theorem State.pageFreed_frame {s : State} {i : Nat} (hM : Sub 6 msk) (hF : Frame msk s0 s) : Frame msk s0 (State.pageFreed s i) := by
  have b2 : Sub 2 msk := Sub.trans (b := 6) rfl hM
  have b4 : Sub 4 msk := Sub.trans (b := 6) rfl hM
  unfold State.pageFreed
  with_reducible repeat' (first | assumption | apply State.setEntry_frame b4 | apply State.onRgn_frame b2 | refine foldl_frame ?_ ?_ | refine foldl_fst_frame ?_ ?_ | refine foldl_snd_frame ?_ ?_ | intro _ _ _ | intro _ _ | split | extract_lets)

theorem State.removeScrub_frame {s : State} {t : Nat} {units : List (Nat × Nat)} (hM : Sub 22 msk) (hF : Frame msk s0 s) : Frame msk s0 (State.removeScrub s t units) := by
  have b6 : Sub 6 msk := Sub.trans (b := 22) rfl hM
  have b16 : Sub 16 msk := Sub.trans (b := 22) rfl hM
  have b18 : Sub 18 msk := Sub.trans (b := 22) rfl hM
  unfold State.removeScrub
  with_reducible repeat' (first | assumption | apply State.pageFreed_frame b6 | apply State.addAct_frame b16 | apply State.startScrub_frame b18 | refine foldl_frame ?_ ?_ | refine foldl_fst_frame ?_ ?_ | refine foldl_snd_frame ?_ ?_ | intro _ _ _ | intro _ _ | split | extract_lets | refine frame_fst ?_ (by assumption) | refine frame_snd ?_ (by assumption))

theorem State.removeAnswer_frame {s : State} {t : Nat} {r : Removal} (hM : Sub 2124182 msk) (hF : Frame msk s0 s) : Frame msk s0 (State.removeAnswer s t r) := by
  have b22 : Sub 22 msk := Sub.trans (b := 2124182) rfl hM
  have b128 : Sub 128 msk := Sub.trans (b := 2124182) rfl hM
  have b10496 : Sub 10496 msk := Sub.trans (b := 2124182) rfl hM
  have b2124032 : Sub 2124032 msk := Sub.trans (b := 2124182) rfl hM
  unfold State.removeAnswer
  with_reducible repeat' (first | assumption | apply State.answer_frame b10496 | apply State.event_frame b2124032 | apply State.onSec_frame b128 | apply State.removeScrub_frame b22 | refine foldl_frame ?_ ?_ | refine foldl_fst_frame ?_ ?_ | refine foldl_snd_frame ?_ ?_ | intro _ _ _ | intro _ _ | split | extract_lets | refine frame_fst ?_ (by assumption) | refine frame_snd ?_ (by assumption))

theorem State.removeTick_frame {s : State} {t : Nat} (hM : Sub 2158494 msk) (hF : Frame msk s0 s) : Frame msk s0 (State.removeTick s t) := by
  have b128 : Sub 128 msk := Sub.trans (b := 2158494) rfl hM
  have b2124182 : Sub 2124182 msk := Sub.trans (b := 2158494) rfl hM
  have b2157312 : Sub 2157312 msk := Sub.trans (b := 2158494) rfl hM
  have b2158492 : Sub 2158492 msk := Sub.trans (b := 2158494) rfl hM
  unfold State.removeTick
  with_reducible repeat' (first | assumption | apply State.onSec_frame b128 | apply State.removeOwed_frame b2157312 | apply State.removeEnds_frame b2158492 | apply State.removeKeys_frame b128 | apply State.removeAnswer_frame b2124182 | split | extract_lets | dsimp -zeta only | dsimp -zeta +zetaDelta only | refine frame_fst ?_ (by assumption) | refine frame_snd ?_ (by assumption))

theorem State.removalsTick_frame {s : State} (hM : Sub 2158494 msk) (hF : Frame msk s0 s) : Frame msk s0 (State.removalsTick s) := by
  have b2158494 : Sub 2158494 msk := Sub.trans (b := 2158494) rfl hM
  unfold State.removalsTick
  with_reducible repeat' (first | assumption | apply State.removeTick_frame b2158494 | refine foldl_frame ?_ ?_ | refine foldl_fst_frame ?_ ?_ | refine foldl_snd_frame ?_ ?_ | intro _ _ _ | intro _ _)

theorem State.pageScrubDone_frame {s : State} {i : Nat} (hM : Sub 32790 msk) (hF : Frame msk s0 s) : Frame msk s0 (State.pageScrubDone s i) := by
  have b6 : Sub 6 msk := Sub.trans (b := 32790) rfl hM
  have b16 : Sub 16 msk := Sub.trans (b := 32790) rfl hM
  have b32768 : Sub 32768 msk := Sub.trans (b := 32790) rfl hM
  unfold State.pageScrubDone
  with_reducible repeat' (first | assumption | apply State.dropAct_frame b16 | apply State.pageFreed_frame b6 | apply State.change_frame b32768 | split)

theorem State.tenantScrubDone_frame {s : State} {t : Nat} (hM : Sub 2156950 msk) (hF : Frame msk s0 s) : Frame msk s0 (State.tenantScrubDone s t) := by
  have b18 : Sub 18 msk := Sub.trans (b := 2156950) rfl hM
  have b128 : Sub 128 msk := Sub.trans (b := 2156950) rfl hM
  have b32768 : Sub 32768 msk := Sub.trans (b := 2156950) rfl hM
  have b32902 : Sub 32902 msk := Sub.trans (b := 2156950) rfl hM
  have b2124032 : Sub 2124032 msk := Sub.trans (b := 2156950) rfl hM
  unfold State.tenantScrubDone
  with_reducible repeat' (first | assumption | apply State.dropScrub_frame b18 | apply State.freeRegion_frame b32902 | apply State.setTenant_frame b128 | apply State.onSec_frame b128 | apply State.change_frame b32768 | apply State.event_frame b2124032 | refine foldl_frame ?_ ?_ | refine foldl_fst_frame ?_ ?_ | refine foldl_snd_frame ?_ ?_ | intro _ _ _ | intro _ _ | split | extract_lets | refine frame_fst ?_ (by assumption) | refine frame_snd ?_ (by assumption))

theorem State.setSpdm_frame {s : State} {l : Nat} {f : Spdm → Spdm} (hM : Sub 128 msk) (hF : Frame msk s0 s) : Frame msk s0 (State.setSpdm s l f) := by
  have b128 : Sub 128 msk := Sub.trans (b := 128) rfl hM
  unfold State.setSpdm
  with_reducible repeat' (first | assumption | apply State.onSec_frame b128)

theorem State.spdmError_frame {s : State} {l code : Nat} (hM : Sub 6318336 msk) (hF : Frame msk s0 s) : Frame msk s0 (State.spdmError s l code) := by
  have b2124032 : Sub 2124032 msk := Sub.trans (b := 6318336) rfl hM
  have b4194304 : Sub 4194304 msk := Sub.trans (b := 6318336) rfl hM
  unfold State.spdmError
  with_reducible repeat' (first | assumption | apply State.bump_frame b2124032 | apply State.raise_frame b2124032 | apply State.emit_frame b4194304)

theorem State.doe_frame {s : State} {l : Nat} {req : List Byte} {f : State → State} (hM : Sub 128 msk) (hf : ∀ (x0 : State), Frame msk s0 x0 → Frame msk s0 (f x0)) (hF : Frame msk s0 s) : Frame msk s0 (State.doe s l req f) := by
  have b128 : Sub 128 msk := Sub.trans (b := 128) rfl hM
  unfold State.doe
  with_reducible repeat' (first | assumption | apply hf | apply State.setSpdm_frame b128 | intro _ _ _ | intro _ _ | split)

theorem State.getMeasurements_frame {s : State} {l : Nat} {req : List Byte} (hM : Sub 4194432 msk) (hF : Frame msk s0 s) : Frame msk s0 (State.getMeasurements s l req) := by
  have b128 : Sub 128 msk := Sub.trans (b := 4194432) rfl hM
  have b4194304 : Sub 4194304 msk := Sub.trans (b := 4194432) rfl hM
  unfold State.getMeasurements
  with_reducible repeat' (first | assumption | apply State.doe_frame b128 | apply State.setSpdm_frame b128 | apply State.emit_frame b4194304 | intro _ _ _ | intro _ _ | extract_lets)

theorem State.pqSign_frame {s : State} {l : Nat} {req : List Byte} (hM : Sub 6318464 msk) (hF : Frame msk s0 s) : Frame msk s0 (State.pqSign s l req) := by
  have b128 : Sub 128 msk := Sub.trans (b := 6318464) rfl hM
  have b4194304 : Sub 4194304 msk := Sub.trans (b := 6318464) rfl hM
  have b6318336 : Sub 6318336 msk := Sub.trans (b := 6318464) rfl hM
  unfold State.pqSign
  with_reducible repeat' (first | assumption | apply State.doe_frame b128 | apply State.spdmError_frame b6318336 | apply State.emit_frame b4194304 | intro _ _ _ | intro _ _ | split | refine frame_fst ?_ (by assumption) | refine frame_snd ?_ (by assumption))

theorem State.pqCert_frame {s : State} {l off len : Nat} (hM : Sub 4194432 msk) (hF : Frame msk s0 s) : Frame msk s0 (State.pqCert s l off len) := by
  have b128 : Sub 128 msk := Sub.trans (b := 4194432) rfl hM
  have b4194304 : Sub 4194304 msk := Sub.trans (b := 4194432) rfl hM
  unfold State.pqCert
  with_reducible repeat' (first | assumption | apply State.doe_frame b128 | apply State.emit_frame b4194304 | intro _ _ _ | intro _ _)

theorem State.spdmRequest_frame {s : State} {l code : Nat} {req : List Byte} (hM : Sub 6318464 msk) (hF : Frame msk s0 s) : Frame msk s0 (State.spdmRequest s l code req) := by
  have b128 : Sub 128 msk := Sub.trans (b := 6318464) rfl hM
  have b4194304 : Sub 4194304 msk := Sub.trans (b := 6318464) rfl hM
  have b6318336 : Sub 6318336 msk := Sub.trans (b := 6318464) rfl hM
  unfold State.spdmRequest
  with_reducible repeat' (first | assumption | apply State.doe_frame b128 | apply State.spdmError_frame b6318336 | apply State.setSpdm_frame b128 | apply State.emit_frame b4194304 | intro _ _ _ | intro _ _ | split | extract_lets | refine frame_fst ?_ (by assumption) | refine frame_snd ?_ (by assumption))

theorem State.keyProg_frame {s : State} {l p dir num : Nat} {key : List Byte} {salt : Nat} (hM : Sub 6318464 msk) (hF : Frame msk s0 s) : Frame msk s0 (State.keyProg s l p dir num key salt) := by
  have b128 : Sub 128 msk := Sub.trans (b := 6318464) rfl hM
  have b4194304 : Sub 4194304 msk := Sub.trans (b := 6318464) rfl hM
  have b6318336 : Sub 6318336 msk := Sub.trans (b := 6318464) rfl hM
  unfold State.keyProg
  with_reducible repeat' (first | assumption | apply State.doe_frame b128 | apply State.spdmError_frame b6318336 | apply State.setKeys_frame b128 | apply State.emit_frame b4194304 | intro _ _ _ | intro _ _ | split | extract_lets | refine frame_fst ?_ (by assumption) | refine frame_snd ?_ (by assumption))

theorem State.keyGo_frame {s : State} {l p num : Nat} (hM : Sub 6318464 msk) (hF : Frame msk s0 s) : Frame msk s0 (State.keyGo s l p num) := by
  have b128 : Sub 128 msk := Sub.trans (b := 6318464) rfl hM
  have b4194304 : Sub 4194304 msk := Sub.trans (b := 6318464) rfl hM
  have b6318336 : Sub 6318336 msk := Sub.trans (b := 6318464) rfl hM
  unfold State.keyGo
  with_reducible repeat' (first | assumption | apply State.doe_frame b128 | apply State.spdmError_frame b6318336 | apply State.setKeys_frame b128 | apply State.emit_frame b4194304 | intro _ _ _ | intro _ _ | split)

end Sys2Proof.Machine
end

