-- ==== Sys2Proof/Laws/FrameEngSvc.lean ====
section
/-! SUPPORT. The frame of every operation of Machine/EngSvc.lean: which parts of the state it may change. -/

namespace Sys2Proof.Machine

variable {msk : Nat} {s0 : State}

theorem State.feedAct_frame {s : State} {w : Work} {fuel9 : Nat} (hM : Sub 16 msk) (hF : Frame msk s0 s) : Frame msk s0 (State.feedAct s w fuel9) := by
  have b16 : Sub 16 msk := Sub.trans (b := 16) rfl hM
  induction fuel9 generalizing s w with
  | zero => unfold State.feedAct; with_reducible repeat' (first | assumption | refine State.placeMeas_frame b16 (by assumption) ?_ | apply State.setAct_frame b16 | split | extract_lets | refine frame_fst ?_ (by assumption) | refine frame_snd ?_ (by assumption))
  | succ fuel9 ih =>
    unfold State.feedAct
    with_reducible repeat' (first | assumption | apply ih | refine State.placeMeas_frame b16 (by assumption) ?_ | apply State.setAct_frame b16 | split | extract_lets | refine frame_fst ?_ (by assumption) | refine frame_snd ?_ (by assumption))

theorem State.feedActs_frame {s : State} (hM : Sub 16 msk) (hF : Frame msk s0 s) : Frame msk s0 (State.feedActs s) := by
  have b16 : Sub 16 msk := Sub.trans (b := 16) rfl hM
  unfold State.feedActs
  with_reducible repeat' (first | assumption | apply State.feedAct_frame b16 | refine foldl_frame ?_ ?_ | refine foldl_fst_frame ?_ ?_ | refine foldl_snd_frame ?_ ?_ | intro _ _ _ | intro _ _)

theorem State.moveQueue_frame {s : State} {n : Nat} (hM : Sub 16 msk) (hF : Frame msk s0 s) : Frame msk s0 (State.moveQueue s n) := by
  have b16 : Sub 16 msk := Sub.trans (b := 16) rfl hM
  unfold State.moveQueue
  with_reducible repeat' (first | assumption | apply State.setUnit_frame b16 | apply State.onEng_frame b16 | refine State.placeMeas_frame b16 (by assumption) ?_ | refine foldl_frame ?_ ?_ | refine foldl_fst_frame ?_ ?_ | refine foldl_snd_frame ?_ ?_ | intro _ _ _ | intro _ _ | split | extract_lets | refine frame_fst ?_ (by assumption) | refine frame_snd ?_ (by assumption))

theorem State.moveQueues_frame {s : State} (hM : Sub 16 msk) (hF : Frame msk s0 s) : Frame msk s0 (State.moveQueues s) := by
  have b16 : Sub 16 msk := Sub.trans (b := 16) rfl hM
  unfold State.moveQueues
  with_reducible repeat' (first | assumption | apply State.moveQueue_frame b16 | refine foldl_frame ?_ ?_ | refine foldl_fst_frame ?_ ?_ | refine foldl_snd_frame ?_ ?_ | intro _ _ _ | intro _ _)

theorem State.engOffline_frame {s : State} {fn n : Nat} (hM : Sub 16 msk) (hF : Frame msk s0 s) : Frame msk s0 (State.engOffline s fn n) := by
  have b16 : Sub 16 msk := Sub.trans (b := 16) rfl hM
  unfold State.engOffline
  with_reducible repeat' (first | assumption | apply State.setUnit_frame b16 | split)

theorem State.engReset_frame {s : State} {fn n : Nat} (hM : Sub 16 msk) (hF : Frame msk s0 s) : Frame msk s0 (State.engReset s fn n) := by
  have b16 : Sub 16 msk := Sub.trans (b := 16) rfl hM
  unfold State.engReset
  with_reducible repeat' (first | assumption | apply State.setUnit_frame b16 | split)

theorem State.selfTestEnd_frame {s : State} {n : Nat} {pass : Bool} (hM : Sub 16 msk) (hF : Frame msk s0 s) : Frame msk s0 (State.selfTestEnd s n pass) := by
  have b16 : Sub 16 msk := Sub.trans (b := 16) rfl hM
  unfold State.selfTestEnd
  with_reducible repeat' (first | assumption | apply State.setUnit_frame b16 | split | refine frame_fst ?_ (by assumption) | refine frame_snd ?_ (by assumption))

theorem State.testTick_frame {s : State} (hM : Sub 16 msk) (hF : Frame msk s0 s) : Frame msk s0 (State.testTick s) := by
  have b16 : Sub 16 msk := Sub.trans (b := 16) rfl hM
  unfold State.testTick
  with_reducible repeat' (first | assumption | apply State.onEng_frame b16)

theorem State.workEnds_frame {s : State} {w : Work} (hM : Sub 2157374 msk) (hF : Frame msk s0 s) : Frame msk s0 (State.workEnds s w) := by
  have b2124548 : Sub 2124548 msk := Sub.trans (b := 2157374) rfl hM
  have b2156858 : Sub 2156858 msk := Sub.trans (b := 2157374) rfl hM
  unfold State.workEnds
  with_reducible repeat' (first | assumption | apply State.rackEnd_frame b2156858 | apply State.transferEnds_frame b2124548 | split | dsimp -zeta only | dsimp -zeta +zetaDelta only | refine frame_fst ?_ (by assumption) | refine frame_snd ?_ (by assumption))

theorem State.requeueLive_frame {s : State} {n : Nat} {m : Meas} (hM : Sub 2157374 msk) (hF : Frame msk s0 s) : Frame msk s0 (State.requeueLive s n m) := by
  have b16 : Sub 16 msk := Sub.trans (b := 2157374) rfl hM
  have b2157374 : Sub 2157374 msk := Sub.trans (b := 2157374) rfl hM
  unfold State.requeueLive
  with_reducible repeat' (first | assumption | apply State.workEnds_frame b2157374 | apply State.requeue_frame b16 | split | dsimp -zeta only | dsimp -zeta +zetaDelta only)

theorem State.rerun_frame {s : State} {n : Nat} {m : Meas} (hM : Sub 2124048 msk) (hF : Frame msk s0 s) : Frame msk s0 (State.rerun s n m) := by
  have b16 : Sub 16 msk := Sub.trans (b := 2124048) rfl hM
  have b2124032 : Sub 2124032 msk := Sub.trans (b := 2124048) rfl hM
  unfold State.rerun
  with_reducible repeat' (first | assumption | apply State.setJob_frame b16 | apply State.requeue_frame b16 | apply State.bump_frame b2124032 | split | extract_lets | refine frame_fst ?_ (by assumption) | refine frame_snd ?_ (by assumption))

theorem State.tornWrite_frame {s : State} {r : Run} (hM : Sub 8388673 msk) (hF : Frame msk s0 s) : Frame msk s0 (State.tornWrite s r) := by
  have b65 : Sub 65 msk := Sub.trans (b := 8388673) rfl hM
  have b8388608 : Sub 8388608 msk := Sub.trans (b := 8388673) rfl hM
  unfold State.tornWrite
  with_reducible repeat' (first | assumption | apply State.draw_frame b8388608 | apply State.writeBytes_frame b65 | split | extract_lets | refine frame_fst ?_ (by assumption) | refine frame_snd ?_ (by assumption))

theorem State.engFault_frame {s : State} {n : Nat} {afterWrite : Bool} (hM : Sub 10546047 msk) (hF : Frame msk s0 s) : Frame msk s0 (State.engFault s n afterWrite) := by
  have b16 : Sub 16 msk := Sub.trans (b := 10546047) rfl hM
  have b2124032 : Sub 2124032 msk := Sub.trans (b := 10546047) rfl hM
  have b2124048 : Sub 2124048 msk := Sub.trans (b := 10546047) rfl hM
  have b2156860 : Sub 2156860 msk := Sub.trans (b := 10546047) rfl hM
  have b2157374 : Sub 2157374 msk := Sub.trans (b := 10546047) rfl hM
  have b8388673 : Sub 8388673 msk := Sub.trans (b := 10546047) rfl hM
  unfold State.engFault
  with_reducible repeat' (first | assumption | apply State.setUnit_frame b16 | apply State.raise_frame b2124032 | apply State.workEnds_frame b2157374 | apply State.rerun_frame b2124048 | apply State.tornWrite_frame b8388673 | apply State.stopJob_frame b2156860 | split | extract_lets | dsimp -zeta only | dsimp -zeta +zetaDelta only | refine frame_fst ?_ (by assumption) | refine frame_snd ?_ (by assumption))

end Sys2Proof.Machine
end

