-- ==== Sys2Proof/Laws/FrameMcx.lean ====
section
/-! SUPPORT. The frame of every operation of Machine/Mcx.lean: which parts of the state it may change. -/

namespace Sys2Proof.Machine

variable {msk : Nat} {s0 : State}

theorem State.lifeAdd_frame {s : State} {i n : Nat} (hM : Sub 65536 msk) (hF : Frame msk s0 s) : Frame msk s0 (State.lifeAdd s i n) := by
  have b65536 : Sub 65536 msk := Sub.trans (b := 65536) rfl hM
  unfold State.lifeAdd
  with_reducible repeat' (first | assumption | apply State.onGlb_frame b65536)

theorem State.pruneActs_frame {s : State} (hM : Sub 16 msk) (hF : Frame msk s0 s) : Frame msk s0 (State.pruneActs s) := by
  have b16 : Sub 16 msk := Sub.trans (b := 16) rfl hM
  unfold State.pruneActs
  with_reducible repeat' (first | assumption | apply State.onEng_frame b16 | apply State.setAct_frame b16 | refine foldl_frame ?_ ?_ | refine foldl_fst_frame ?_ ?_ | refine foldl_snd_frame ?_ ?_ | intro _ _ _ | intro _ _ | split | extract_lets | refine frame_fst ?_ (by assumption) | refine frame_snd ?_ (by assumption))

theorem State.endHit_frame {s : State} (hM : Sub 2157374 msk) (hF : Frame msk s0 s) : Frame msk s0 (State.endHit s) := by
  have b16 : Sub 16 msk := Sub.trans (b := 2157374) rfl hM
  have b2156860 : Sub 2156860 msk := Sub.trans (b := 2157374) rfl hM
  have b2157374 : Sub 2157374 msk := Sub.trans (b := 2157374) rfl hM
  unfold State.endHit
  with_reducible repeat' (first | assumption | apply State.setUnit_frame b16 | apply State.stopJob_frame b2156860 | apply State.setAct_frame b16 | apply State.workEnds_frame b2157374 | apply State.requeueLive_frame b2157374 | refine foldl_frame ?_ ?_ | refine foldl_fst_frame ?_ ?_ | refine foldl_snd_frame ?_ ?_ | intro _ _ _ | intro _ _ | split | extract_lets | refine frame_fst ?_ (by assumption) | refine frame_snd ?_ (by assumption))

theorem State.loseLayers_frame {s : State} {gone : Layer → Bool} (hM : Sub 2156860 msk) (hF : Frame msk s0 s) : Frame msk s0 (State.loseLayers s gone) := by
  have b32 : Sub 32 msk := Sub.trans (b := 2156860) rfl hM
  have b2156860 : Sub 2156860 msk := Sub.trans (b := 2156860) rfl hM
  unfold State.loseLayers
  with_reducible repeat' (first | assumption | apply State.setModel_frame b32 | apply State.stopJob_frame b2156860 | refine foldl_frame ?_ ?_ | refine foldl_fst_frame ?_ ?_ | refine foldl_snd_frame ?_ ?_ | intro _ _ _ | intro _ _ | split | extract_lets)

theorem State.endAdds_frame {s : State} {rid : Nat} {st : Status} (hM : Sub 43282 msk) (hF : Frame msk s0 s) : Frame msk s0 (State.endAdds s rid st) := by
  have b18 : Sub 18 msk := Sub.trans (b := 43282) rfl hM
  have b43264 : Sub 43264 msk := Sub.trans (b := 43282) rfl hM
  unfold State.endAdds
  with_reducible repeat' (first | assumption | apply State.dropScrub_frame b18 | apply State.answerR16_frame b43264 | refine foldl_frame ?_ ?_ | refine foldl_fst_frame ?_ ?_ | refine foldl_snd_frame ?_ ?_ | intro _ _ _ | intro _ _ | split | extract_lets | refine frame_fst ?_ (by assumption) | refine frame_snd ?_ (by assumption))

theorem State.loseRegion_frame {s : State} {rid k : Nat} (hM : Sub 2158398 msk) (hF : Frame msk s0 s) : Frame msk s0 (State.loseRegion s rid k) := by
  have b2 : Sub 2 msk := Sub.trans (b := 2158398) rfl hM
  have b32768 : Sub 32768 msk := Sub.trans (b := 2158398) rfl hM
  have b43266 : Sub 43266 msk := Sub.trans (b := 2158398) rfl hM
  have b43282 : Sub 43282 msk := Sub.trans (b := 2158398) rfl hM
  have b2124032 : Sub 2124032 msk := Sub.trans (b := 2158398) rfl hM
  have b2156862 : Sub 2156862 msk := Sub.trans (b := 2158398) rfl hM
  have b2158356 : Sub 2158356 msk := Sub.trans (b := 2158398) rfl hM
  unfold State.loseRegion
  with_reducible repeat' (first | assumption | apply State.setRegion_frame b2 | apply State.change_frame b32768 | apply State.endPub_frame b43266 | apply State.stopRack_frame b2156862 | apply State.stopRegionWork_frame b2158356 | apply State.endAdds_frame b43282 | apply State.event_frame b2124032 | extract_lets)

theorem State.settleRegion_frame {s : State} {ks : List Nat} {rid : Nat} (hM : Sub 2158526 msk) (hF : Frame msk s0 s) : Frame msk s0 (State.settleRegion s ks rid) := by
  have b2 : Sub 2 msk := Sub.trans (b := 2158526) rfl hM
  have b32768 : Sub 32768 msk := Sub.trans (b := 2158526) rfl hM
  have b32902 : Sub 32902 msk := Sub.trans (b := 2158526) rfl hM
  have b43282 : Sub 43282 msk := Sub.trans (b := 2158526) rfl hM
  have b2124032 : Sub 2124032 msk := Sub.trans (b := 2158526) rfl hM
  have b2158398 : Sub 2158398 msk := Sub.trans (b := 2158526) rfl hM
  unfold State.settleRegion
  with_reducible repeat' (first | assumption | apply State.setRegion_frame b2 | apply State.endAdds_frame b43282 | apply State.freeRegion_frame b32902 | apply State.loseRegion_frame b2158398 | apply State.change_frame b32768 | apply State.event_frame b2124032 | split | extract_lets | refine frame_fst ?_ (by assumption) | refine frame_snd ?_ (by assumption))

theorem State.failStacks_frame {s : State} {ks : List Nat} {cause : Nat} (hM : Sub 2158590 msk) (hF : Frame msk s0 s) : Frame msk s0 (State.failStacks s ks cause) := by
  have b16 : Sub 16 msk := Sub.trans (b := 2158590) rfl hM
  have b64 : Sub 64 msk := Sub.trans (b := 2158590) rfl hM
  have b2124032 : Sub 2124032 msk := Sub.trans (b := 2158590) rfl hM
  have b2156860 : Sub 2156860 msk := Sub.trans (b := 2158590) rfl hM
  have b2157374 : Sub 2157374 msk := Sub.trans (b := 2158590) rfl hM
  have b2158526 : Sub 2158526 msk := Sub.trans (b := 2158590) rfl hM
  unfold State.failStacks
  with_reducible repeat' (first | assumption | apply State.setStack_frame b64 | apply State.raise_frame b2124032 | apply State.settleRegion_frame b2158526 | apply State.loseLayers_frame b2156860 | apply State.endHit_frame b2157374 | apply State.pruneActs_frame b16 | refine foldl_frame ?_ ?_ | refine foldl_fst_frame ?_ ?_ | refine foldl_snd_frame ?_ ?_ | intro _ _ _ | intro _ _ | split | extract_lets | refine frame_fst ?_ (by assumption) | refine frame_snd ?_ (by assumption))

theorem State.stackFails_frame {s : State} {k cause : Nat} (hM : Sub 2158590 msk) (hF : Frame msk s0 s) : Frame msk s0 (State.stackFails s k cause) := by
  have b4 : Sub 4 msk := Sub.trans (b := 2158590) rfl hM
  have b2158590 : Sub 2158590 msk := Sub.trans (b := 2158590) rfl hM
  unfold State.stackFails
  with_reducible repeat' (first | assumption | apply State.failStacks_frame b2158590 | apply State.later_frame b4 | split | dsimp -zeta only | dsimp -zeta +zetaDelta only | refine frame_fst ?_ (by assumption) | refine frame_snd ?_ (by assumption))

theorem State.moveLayers_frame {s : State} {d : Nat} (hM : Sub 32 msk) (hF : Frame msk s0 s) : Frame msk s0 (State.moveLayers s d) := by
  have b32 : Sub 32 msk := Sub.trans (b := 32) rfl hM
  unfold State.moveLayers
  with_reducible repeat' (first | assumption | apply State.onOpu_frame b32 | split | extract_lets | refine frame_fst ?_ (by assumption) | refine frame_snd ?_ (by assumption))

theorem State.moveSteps_frame {s : State} {d : Nat} (hM : Sub 32 msk) (hF : Frame msk s0 s) : Frame msk s0 (State.moveSteps s d) := by
  have b32 : Sub 32 msk := Sub.trans (b := 32) rfl hM
  unfold State.moveSteps
  with_reducible repeat' (first | assumption | apply State.onOpu_frame b32 | apply State.joinDie_frame b32 | refine foldl_frame ?_ ?_ | refine foldl_fst_frame ?_ ?_ | refine foldl_snd_frame ?_ ?_ | intro _ _ _ | intro _ _ | split | extract_lets | dsimp -zeta only | dsimp -zeta +zetaDelta only | refine frame_fst ?_ (by assumption) | refine frame_snd ?_ (by assumption))

theorem State.rebuildOuts_frame {s : State} {d : Nat} {j : Job} (hM : Sub 20 msk) (hF : Frame msk s0 s) : Frame msk s0 (State.rebuildOuts s d j) := by
  have b4 : Sub 4 msk := Sub.trans (b := 20) rfl hM
  have b16 : Sub 16 msk := Sub.trans (b := 20) rfl hM
  unfold State.rebuildOuts
  with_reducible repeat' (first | assumption | apply State.onEng_frame b16 | apply State.dropParked_frame b4 | apply State.setJob_frame b16 | refine foldl_frame ?_ ?_ | refine foldl_fst_frame ?_ ?_ | refine foldl_snd_frame ?_ ?_ | intro _ _ _ | intro _ _ | split | extract_lets | refine frame_fst ?_ (by assumption) | refine frame_snd ?_ (by assumption))

theorem State.leaveQueues_frame {s : State} {d : Nat} (hM : Sub 2156860 msk) (hF : Frame msk s0 s) : Frame msk s0 (State.leaveQueues s d) := by
  have b4 : Sub 4 msk := Sub.trans (b := 2156860) rfl hM
  have b16 : Sub 16 msk := Sub.trans (b := 2156860) rfl hM
  have b2156860 : Sub 2156860 msk := Sub.trans (b := 2156860) rfl hM
  unfold State.leaveQueues
  with_reducible repeat' (first | assumption | apply State.onEng_frame b16 | apply State.onDir_frame b4 | apply State.stopJob_frame b2156860 | apply State.setAct_frame b16 | refine State.placeMeas_frame b16 (by assumption) ?_ | apply State.requeue_frame b16 | refine foldl_frame ?_ ?_ | refine foldl_fst_frame ?_ ?_ | refine foldl_snd_frame ?_ ?_ | intro _ _ _ | intro _ _ | split | extract_lets | refine frame_fst ?_ (by assumption) | refine frame_snd ?_ (by assumption))

theorem State.failDie_frame {s : State} {d : Nat} (hM : Sub 2158590 msk) (hF : Frame msk s0 s) : Frame msk s0 (State.failDie s d) := by
  have b20 : Sub 20 msk := Sub.trans (b := 2158590) rfl hM
  have b32 : Sub 32 msk := Sub.trans (b := 2158590) rfl hM
  have b32768 : Sub 32768 msk := Sub.trans (b := 2158590) rfl hM
  have b2124032 : Sub 2124032 msk := Sub.trans (b := 2158590) rfl hM
  have b2156860 : Sub 2156860 msk := Sub.trans (b := 2158590) rfl hM
  have b2158590 : Sub 2158590 msk := Sub.trans (b := 2158590) rfl hM
  unfold State.failDie
  with_reducible repeat' (first | assumption | apply State.onMir_frame b32768 | apply State.raise_frame b2124032 | apply State.moveLayers_frame b32 | apply State.failStacks_frame b2158590 | apply State.loseLayers_frame b2156860 | apply State.stopJobs_frame b2156860 | apply State.moveSteps_frame b32 | apply State.rebuildOuts_frame b20 | apply State.leaveQueues_frame b2156860 | apply State.onOpu_frame b32 | refine foldl_frame ?_ ?_ | refine foldl_fst_frame ?_ ?_ | refine foldl_snd_frame ?_ ?_ | intro _ _ _ | intro _ _ | split | extract_lets | refine frame_fst ?_ (by assumption) | refine frame_snd ?_ (by assumption))

theorem State.dieFails_frame {s : State} {d : Nat} (hM : Sub 2158590 msk) (hF : Frame msk s0 s) : Frame msk s0 (State.dieFails s d) := by
  have b4 : Sub 4 msk := Sub.trans (b := 2158590) rfl hM
  have b2158590 : Sub 2158590 msk := Sub.trans (b := 2158590) rfl hM
  unfold State.dieFails
  with_reducible repeat' (first | assumption | apply State.failDie_frame b2158590 | apply State.later_frame b4 | split | dsimp -zeta only | dsimp -zeta +zetaDelta only)

theorem State.countRefresh_frame {s : State} {k t : Nat} (hM : Sub 65600 msk) (hF : Frame msk s0 s) : Frame msk s0 (State.countRefresh s k t) := by
  have b64 : Sub 64 msk := Sub.trans (b := 65600) rfl hM
  have b65536 : Sub 65536 msk := Sub.trans (b := 65600) rfl hM
  unfold State.countRefresh
  with_reducible repeat' (first | assumption | apply State.setStack_frame b64 | apply State.lifeAdd_frame b65536 | split | dsimp -zeta only | dsimp -zeta +zetaDelta only)

theorem State.refresh_frame {s : State} {k : Nat} (hM : Sub 65600 msk) (hF : Frame msk s0 s) : Frame msk s0 (State.refresh s k) := by
  have b65600 : Sub 65600 msk := Sub.trans (b := 65600) rfl hM
  unfold State.refresh
  with_reducible repeat' (first | assumption | apply State.countRefresh_frame b65600 | split)

theorem State.repairLanes_frame {s : State} {k : Nat} {ls : List Lane} (hM : Sub 2158590 msk) (hF : Frame msk s0 s) : Frame msk s0 (State.repairLanes s k ls) := by
  have b64 : Sub 64 msk := Sub.trans (b := 2158590) rfl hM
  have b2124032 : Sub 2124032 msk := Sub.trans (b := 2158590) rfl hM
  have b2158590 : Sub 2158590 msk := Sub.trans (b := 2158590) rfl hM
  unfold State.repairLanes
  with_reducible repeat' (first | assumption | apply State.setStack_frame b64 | apply State.raise_frame b2124032 | apply State.stackFails_frame b2158590 | refine foldl_frame ?_ ?_ | refine foldl_fst_frame ?_ ?_ | refine foldl_snd_frame ?_ ?_ | intro _ _ _ | intro _ _ | split | extract_lets | dsimp -zeta only | dsimp -zeta +zetaDelta only)

theorem State.retrainBad_frame {s : State} {k : Nat} (hM : Sub 10547198 msk) (hF : Frame msk s0 s) : Frame msk s0 (State.retrainBad s k) := by
  have b64 : Sub 64 msk := Sub.trans (b := 10547198) rfl hM
  have b2124032 : Sub 2124032 msk := Sub.trans (b := 10547198) rfl hM
  have b2158590 : Sub 2158590 msk := Sub.trans (b := 10547198) rfl hM
  have b8388608 : Sub 8388608 msk := Sub.trans (b := 10547198) rfl hM
  unfold State.retrainBad
  with_reducible repeat' (first | assumption | apply State.draw_frame b8388608 | apply State.raise_frame b2124032 | apply State.stackFails_frame b2158590 | apply State.setStack_frame b64 | split | extract_lets | refine frame_fst ?_ (by assumption) | refine frame_snd ?_ (by assumption))

theorem State.retrainFound_frame {s : State} {k : Nat} {good : Bool} {ls : List Lane} (hM : Sub 10547198 msk) (hF : Frame msk s0 s) : Frame msk s0 (State.retrainFound s k good ls) := by
  have b2158590 : Sub 2158590 msk := Sub.trans (b := 10547198) rfl hM
  have b10547198 : Sub 10547198 msk := Sub.trans (b := 10547198) rfl hM
  unfold State.retrainFound
  with_reducible repeat' (first | assumption | apply State.repairLanes_frame b2158590 | apply State.retrainBad_frame b10547198 | split | dsimp -zeta only | dsimp -zeta +zetaDelta only)

theorem State.retrainStart_frame {s : State} {k : Nat} {good : Bool} {ls : List Lane} (hM : Sub 10612734 msk) (hF : Frame msk s0 s) : Frame msk s0 (State.retrainStart s k good ls) := by
  have b64 : Sub 64 msk := Sub.trans (b := 10612734) rfl hM
  have b65600 : Sub 65600 msk := Sub.trans (b := 10612734) rfl hM
  have b10547198 : Sub 10547198 msk := Sub.trans (b := 10612734) rfl hM
  unfold State.retrainStart
  with_reducible repeat' (first | assumption | apply State.setStack_frame b64 | apply State.countRefresh_frame b65600 | apply State.retrainFound_frame b10547198 | extract_lets | dsimp -zeta only | dsimp -zeta +zetaDelta only)

theorem State.retrain_frame {s : State} {k : Nat} {good : Bool} {ls : List Lane} (hM : Sub 10612734 msk) (hF : Frame msk s0 s) : Frame msk s0 (State.retrain s k good ls) := by
  have b64 : Sub 64 msk := Sub.trans (b := 10612734) rfl hM
  have b10547198 : Sub 10547198 msk := Sub.trans (b := 10612734) rfl hM
  have b10612734 : Sub 10612734 msk := Sub.trans (b := 10612734) rfl hM
  unfold State.retrain
  with_reducible repeat' (first | assumption | apply State.retrainFound_frame b10547198 | apply State.setStack_frame b64 | apply State.retrainStart_frame b10612734 | split | extract_lets)

theorem State.caError_frame {s : State} {k : Nat} {reissueOk : Bool} (hM : Sub 2189632 msk) (hF : Frame msk s0 s) : Frame msk s0 (State.caError s k reissueOk) := by
  have b64 : Sub 64 msk := Sub.trans (b := 2189632) rfl hM
  have b65600 : Sub 65600 msk := Sub.trans (b := 2189632) rfl hM
  have b2124032 : Sub 2124032 msk := Sub.trans (b := 2189632) rfl hM
  unfold State.caError
  with_reducible repeat' (first | assumption | apply State.bump_frame b2124032 | apply State.raise_frame b2124032 | apply State.setStack_frame b64 | apply State.countRefresh_frame b65600 | split | extract_lets | refine frame_fst ?_ (by assumption) | refine frame_snd ?_ (by assumption))

theorem State.rateDone_frame {s : State} {k : Nat} (hM : Sub 64 msk) (hF : Frame msk s0 s) : Frame msk s0 (State.rateDone s k) := by
  have b64 : Sub 64 msk := Sub.trans (b := 64) rfl hM
  unfold State.rateDone
  with_reducible repeat' (first | assumption | apply State.setStack_frame b64 | split | extract_lets)

theorem State.busyEnds_frame {s : State} (hM : Sub 64 msk) (hF : Frame msk s0 s) : Frame msk s0 (State.busyEnds s) := by
  have b64 : Sub 64 msk := Sub.trans (b := 64) rfl hM
  unfold State.busyEnds
  with_reducible repeat' (first | assumption | apply State.onMcx_frame b64 | split | dsimp -zeta only | dsimp -zeta +zetaDelta only)

theorem State.busyStarts_frame {s : State} (hM : Sub 10612734 msk) (hF : Frame msk s0 s) : Frame msk s0 (State.busyStarts s) := by
  have b64 : Sub 64 msk := Sub.trans (b := 10612734) rfl hM
  have b10612734 : Sub 10612734 msk := Sub.trans (b := 10612734) rfl hM
  unfold State.busyStarts
  with_reducible repeat' (first | assumption | apply State.setStack_frame b64 | apply State.retrainStart_frame b10612734 | apply State.onMcx_frame b64 | refine foldl_frame ?_ ?_ | refine foldl_fst_frame ?_ ?_ | refine foldl_snd_frame ?_ ?_ | intro _ _ _ | intro _ _ | split | extract_lets | dsimp -zeta only | dsimp -zeta +zetaDelta only | refine frame_fst ?_ (by assumption) | refine frame_snd ?_ (by assumption))

theorem State.sleepTick_frame {s : State} (hM : Sub 64 msk) (hF : Frame msk s0 s) : Frame msk s0 (State.sleepTick s) := by
  have b64 : Sub 64 msk := Sub.trans (b := 64) rfl hM
  unfold State.sleepTick
  with_reducible repeat' (first | assumption | apply State.setStack_frame b64 | refine foldl_frame ?_ ?_ | refine foldl_fst_frame ?_ ?_ | refine foldl_snd_frame ?_ ?_ | intro _ _ _ | intro _ _ | split | dsimp -zeta only | dsimp -zeta +zetaDelta only)

theorem State.stackTick_frame {s : State} (hM : Sub 10612734 msk) (hF : Frame msk s0 s) : Frame msk s0 (State.stackTick s) := by
  have b64 : Sub 64 msk := Sub.trans (b := 10612734) rfl hM
  have b10612734 : Sub 10612734 msk := Sub.trans (b := 10612734) rfl hM
  unfold State.stackTick
  with_reducible repeat' (first | assumption | apply State.busyEnds_frame b64 | apply State.busyStarts_frame b10612734 | apply State.sleepTick_frame b64 | dsimp -zeta only | dsimp -zeta +zetaDelta only)

theorem State.stackTemp_frame {s : State} {k t : Nat} (hM : Sub 2486270 msk) (hF : Frame msk s0 s) : Frame msk s0 (State.stackTemp s k t) := by
  have b64 : Sub 64 msk := Sub.trans (b := 2486270) rfl hM
  have b65536 : Sub 65536 msk := Sub.trans (b := 2486270) rfl hM
  have b262144 : Sub 262144 msk := Sub.trans (b := 2486270) rfl hM
  have b2124032 : Sub 2124032 msk := Sub.trans (b := 2486270) rfl hM
  have b2158590 : Sub 2158590 msk := Sub.trans (b := 2486270) rfl hM
  unfold State.stackTemp
  with_reducible repeat' (first | assumption | apply State.setStack_frame b64 | apply State.onGlb_frame b65536 | apply State.raise_frame b2124032 | apply State.onPins_frame b262144 | apply State.stackFails_frame b2158590 | split | extract_lets)

theorem State.tempTick_frame {s : State} (hM : Sub 64 msk) (hF : Frame msk s0 s) : Frame msk s0 (State.tempTick s) := by
  have b64 : Sub 64 msk := Sub.trans (b := 64) rfl hM
  unfold State.tempTick
  with_reducible repeat' (first | assumption | apply State.onMcx_frame b64 | split)

theorem State.harm_frame {s : State} {line n : Nat} (hM : Sub 8388672 msk) (hF : Frame msk s0 s) : Frame msk s0 (State.harm s line n) := by
  have b64 : Sub 64 msk := Sub.trans (b := 8388672) rfl hM
  have b8388608 : Sub 8388608 msk := Sub.trans (b := 8388672) rfl hM
  unfold State.harm
  with_reducible repeat' (first | assumption | apply State.draw_frame b8388608 | apply State.onMcx_frame b64 | split | extract_lets | dsimp -zeta only | dsimp -zeta +zetaDelta only | refine frame_fst ?_ (by assumption) | refine frame_snd ?_ (by assumption))

theorem State.patrolBad_frame {s : State} {k pa : Nat} (hM : Sub 2124097 msk) (hF : Frame msk s0 s) : Frame msk s0 (State.patrolBad s k pa) := by
  have b1 : Sub 1 msk := Sub.trans (b := 2124097) rfl hM
  have b64 : Sub 64 msk := Sub.trans (b := 2124097) rfl hM
  have b2124032 : Sub 2124032 msk := Sub.trans (b := 2124097) rfl hM
  have b2124097 : Sub 2124097 msk := Sub.trans (b := 2124097) rfl hM
  unfold State.patrolBad
  with_reducible repeat' (first | assumption | apply State.foundUe_frame b2124032 | apply State.checkLine_frame b2124097 | apply State.raise_frame b2124032 | apply State.setMem_frame b1 | apply State.clearPoison_frame b64 | apply State.bump_frame b2124032 | apply State.tryLine_frame b2124097 | exact fun w => Memory.write_wf w | exact fun w => Memory.writeMasked_wf w | exact fun w => Memory.copy_wf w | exact fun w => scatterCells_wf w | split | extract_lets | refine frame_fst ?_ (by assumption) | refine frame_snd ?_ (by assumption))

theorem State.patrol_frame {s : State} {k line n : Nat} (hM : Sub 10512705 msk) (hF : Frame msk s0 s) : Frame msk s0 (State.patrol s k line n) := by
  have b64 : Sub 64 msk := Sub.trans (b := 10512705) rfl hM
  have b2124097 : Sub 2124097 msk := Sub.trans (b := 10512705) rfl hM
  have b8388672 : Sub 8388672 msk := Sub.trans (b := 10512705) rfl hM
  unfold State.patrol
  with_reducible repeat' (first | assumption | apply State.setStack_frame b64 | apply State.harm_frame b8388672 | apply State.checkLine_frame b2124097 | apply State.patrolBad_frame b2124097 | split | extract_lets)

theorem State.errsTick_frame {s : State} (hM : Sub 8388672 msk) (hF : Frame msk s0 s) : Frame msk s0 (State.errsTick s) := by
  have b64 : Sub 64 msk := Sub.trans (b := 8388672) rfl hM
  have b8388608 : Sub 8388608 msk := Sub.trans (b := 8388672) rfl hM
  unfold State.errsTick
  with_reducible repeat' (first | assumption | apply State.draw_frame b8388608 | apply State.onMcx_frame b64 | refine foldl_frame ?_ ?_ | refine foldl_fst_frame ?_ ?_ | refine foldl_snd_frame ?_ ?_ | intro _ _ _ | intro _ _ | split | extract_lets | dsimp -zeta only | dsimp -zeta +zetaDelta only | refine frame_fst ?_ (by assumption) | refine frame_snd ?_ (by assumption))

theorem State.drainBanks_frame {s : State} (hM : Sub 8388672 msk) (hF : Frame msk s0 s) : Frame msk s0 (State.drainBanks s) := by
  have b64 : Sub 64 msk := Sub.trans (b := 8388672) rfl hM
  have b8388608 : Sub 8388608 msk := Sub.trans (b := 8388672) rfl hM
  unfold State.drainBanks
  with_reducible repeat' (first | assumption | apply State.draw_frame b8388608 | apply State.onMcx_frame b64 | split | extract_lets | dsimp -zeta only | dsimp -zeta +zetaDelta only | refine frame_fst ?_ (by assumption) | refine frame_snd ?_ (by assumption))

theorem State.skewSample_frame {s : State} (hM : Sub 64 msk) (hF : Frame msk s0 s) : Frame msk s0 (State.skewSample s) := by
  have b64 : Sub 64 msk := Sub.trans (b := 64) rfl hM
  unfold State.skewSample
  with_reducible repeat' (first | assumption | apply State.onMcx_frame b64 | split | extract_lets)

theorem State.skewEnd_frame {s : State} {k : Nat} (hM : Sub 2124096 msk) (hF : Frame msk s0 s) : Frame msk s0 (State.skewEnd s k) := by
  have b64 : Sub 64 msk := Sub.trans (b := 2124096) rfl hM
  have b2124032 : Sub 2124032 msk := Sub.trans (b := 2124096) rfl hM
  unfold State.skewEnd
  with_reducible repeat' (first | assumption | apply State.setStack_frame b64 | apply State.bump_frame b2124032 | apply State.event_frame b2124032 | split | extract_lets | refine frame_fst ?_ (by assumption) | refine frame_snd ?_ (by assumption))

end Sys2Proof.Machine
end

