-- ==== Sys2Proof/Laws/FrameTime.lean ====
section
/-! SUPPORT. The frame of every operation of Machine/Time.lean: which parts of the state it may change. -/

namespace Sys2Proof.Machine

variable {msk : Nat} {s0 : State}

theorem State.logRec_frame {s : State} {kind time : Nat} {body : List Byte} (hM : Sub 2189568 msk) (hF : Frame msk s0 s) : Frame msk s0 (State.logRec s kind time body) := by
  have b65536 : Sub 65536 msk := Sub.trans (b := 2189568) rfl hM
  have b2124032 : Sub 2124032 msk := Sub.trans (b := 2189568) rfl hM
  unfold State.logRec
  with_reducible repeat' (first | assumption | apply State.bump_frame b2124032 | apply State.onGlb_frame b65536 | split)

theorem State.logWrite_frame {s : State} {good : Bool} (hM : Sub 589824 msk) (hF : Frame msk s0 s) : Frame msk s0 (State.logWrite s good) := by
  have b65536 : Sub 65536 msk := Sub.trans (b := 589824) rfl hM
  have b524288 : Sub 524288 msk := Sub.trans (b := 589824) rfl hM
  unfold State.logWrite
  with_reducible repeat' (first | assumption | apply State.onGlb_frame b65536 | apply State.onFlash_frame b524288 | split | refine frame_fst ?_ (by assumption) | refine frame_snd ?_ (by assumption))

theorem State.saveCounters_frame {s : State} (hM : Sub 589824 msk) (hF : Frame msk s0 s) : Frame msk s0 (State.saveCounters s) := by
  have b65536 : Sub 65536 msk := Sub.trans (b := 589824) rfl hM
  have b524288 : Sub 524288 msk := Sub.trans (b := 589824) rfl hM
  unfold State.saveCounters
  with_reducible repeat' (first | assumption | apply State.onGlb_frame b65536 | apply State.onFlash_frame b524288 | extract_lets)

theorem State.lifeSelect_frame {s : State} {v : Nat} (hM : Sub 2189568 msk) (hF : Frame msk s0 s) : Frame msk s0 (State.lifeSelect s v) := by
  have b65536 : Sub 65536 msk := Sub.trans (b := 2189568) rfl hM
  have b2124032 : Sub 2124032 msk := Sub.trans (b := 2189568) rfl hM
  unfold State.lifeSelect
  with_reducible repeat' (first | assumption | apply State.onGlb_frame b65536 | apply State.raise_frame b2124032 | split | extract_lets | refine frame_fst ?_ (by assumption) | refine frame_snd ?_ (by assumption))

theorem State.stepBy_frame {s : State} {e : Int} (hM : Sub 2189568 msk) (hF : Frame msk s0 s) : Frame msk s0 (State.stepBy s e) := by
  have b8192 : Sub 8192 msk := Sub.trans (b := 2189568) rfl hM
  have b65536 : Sub 65536 msk := Sub.trans (b := 2189568) rfl hM
  have b2124032 : Sub 2124032 msk := Sub.trans (b := 2189568) rfl hM
  unfold State.stepBy
  with_reducible repeat' (first | assumption | apply State.onTime_frame b65536 | apply State.bump_frame b2124032 | apply State.gateStep_frame b8192 | extract_lets)

theorem State.measure_frame {s : State} {e : Int} {src : Nat} (hM : Sub 2189568 msk) (hF : Frame msk s0 s) : Frame msk s0 (State.measure s e src) := by
  have b65536 : Sub 65536 msk := Sub.trans (b := 2189568) rfl hM
  have b2189568 : Sub 2189568 msk := Sub.trans (b := 2189568) rfl hM
  unfold State.measure
  with_reducible repeat' (first | assumption | apply State.stepBy_frame b2189568 | apply State.onTime_frame b65536 | split | extract_lets)

theorem State.ptmAsk_frame {s : State} (hM : Sub 4259840 msk) (hF : Frame msk s0 s) : Frame msk s0 (State.ptmAsk s) := by
  have b65536 : Sub 65536 msk := Sub.trans (b := 4259840) rfl hM
  have b4194304 : Sub 4194304 msk := Sub.trans (b := 4259840) rfl hM
  unfold State.ptmAsk
  with_reducible repeat' (first | assumption | apply State.onTime_frame b65536 | apply State.emit_frame b4194304 | split | extract_lets)

theorem State.ptmAnswer_frame {s : State} {src : Nat} (hM : Sub 10578176 msk) (hF : Frame msk s0 s) : Frame msk s0 (State.ptmAnswer s src) := by
  have b65536 : Sub 65536 msk := Sub.trans (b := 10578176) rfl hM
  have b2189568 : Sub 2189568 msk := Sub.trans (b := 10578176) rfl hM
  have b8388608 : Sub 8388608 msk := Sub.trans (b := 10578176) rfl hM
  unfold State.ptmAnswer
  with_reducible repeat' (first | assumption | apply State.draw_frame b8388608 | apply State.onTime_frame b65536 | apply State.measure_frame b2189568 | split | extract_lets | refine frame_fst ?_ (by assumption) | refine frame_snd ?_ (by assumption))

theorem State.ptmLate_frame {s : State} (hM : Sub 2189568 msk) (hF : Frame msk s0 s) : Frame msk s0 (State.ptmLate s) := by
  have b65536 : Sub 65536 msk := Sub.trans (b := 2189568) rfl hM
  have b2124032 : Sub 2124032 msk := Sub.trans (b := 2189568) rfl hM
  unfold State.ptmLate
  with_reducible repeat' (first | assumption | apply State.onTime_frame b65536 | apply State.bump_frame b2124032 | split | refine frame_fst ?_ (by assumption) | refine frame_snd ?_ (by assumption))

theorem State.ppsEdge_frame {s : State} {tod : Nat} (hM : Sub 2189568 msk) (hF : Frame msk s0 s) : Frame msk s0 (State.ppsEdge s tod) := by
  have b65536 : Sub 65536 msk := Sub.trans (b := 2189568) rfl hM
  have b2124032 : Sub 2124032 msk := Sub.trans (b := 2189568) rfl hM
  have b2189568 : Sub 2189568 msk := Sub.trans (b := 2189568) rfl hM
  unfold State.ppsEdge
  with_reducible repeat' (first | assumption | apply State.onTime_frame b65536 | apply State.bump_frame b2124032 | apply State.stepBy_frame b2189568 | apply State.measure_frame b2189568 | split | extract_lets | refine frame_fst ?_ (by assumption) | refine frame_snd ?_ (by assumption))

theorem State.timeLost_frame {s : State} (hM : Sub 2189568 msk) (hF : Frame msk s0 s) : Frame msk s0 (State.timeLost s) := by
  have b65536 : Sub 65536 msk := Sub.trans (b := 2189568) rfl hM
  have b2124032 : Sub 2124032 msk := Sub.trans (b := 2189568) rfl hM
  unfold State.timeLost
  with_reducible repeat' (first | assumption | apply State.onTime_frame b65536 | apply State.raise_frame b2124032 | split | extract_lets | refine frame_fst ?_ (by assumption) | refine frame_snd ?_ (by assumption))

theorem State.timeSet_frame {s : State} {up : Word} (hM : Sub 65536 msk) (hF : Frame msk s0 s) : Frame msk s0 (State.timeSet s up) := by
  have b65536 : Sub 65536 msk := Sub.trans (b := 65536) rfl hM
  unfold State.timeSet
  with_reducible repeat' (first | assumption | apply State.onTime_frame b65536 | split | extract_lets)

theorem State.timeTick_frame {s : State} (hM : Sub 2189568 msk) (hF : Frame msk s0 s) : Frame msk s0 (State.timeTick s) := by
  have b65536 : Sub 65536 msk := Sub.trans (b := 2189568) rfl hM
  have b2189568 : Sub 2189568 msk := Sub.trans (b := 2189568) rfl hM
  unfold State.timeTick
  with_reducible repeat' (first | assumption | apply State.onTime_frame b65536 | apply State.stepBy_frame b2189568 | split | extract_lets | refine frame_fst ?_ (by assumption) | refine frame_snd ?_ (by assumption))

end Sys2Proof.Machine
end

