-- ==== Sys2Proof/Laws/FrameFlt.lean ====
section
/-! SUPPORT. The frame of every operation of Machine/Flt.lean: which parts of the state it may change. -/

namespace Sys2Proof.Machine

variable {msk : Nat} {s0 : State}

theorem State.onInst_frame {s : State} {i : Issuer} {p : Packet} {f : Nat → Nat → State} (hM : Sub 10496 msk) (hf : ∀ (x0 : Nat) (x1 : Nat), Frame msk s0 (f x0 x1)) (hF : Frame msk s0 s) : Frame msk s0 (State.onInst s i p f) := by
  have b10496 : Sub 10496 msk := Sub.trans (b := 10496) rfl hM
  unfold State.onInst
  with_reducible repeat' (first | assumption | apply hf | apply State.denied_frame b10496 | apply State.malformed_frame b10496 | intro _ _ _ | intro _ _ | split | extract_lets)

theorem State.doFaultRead_frame {s : State} {i : Issuer} {p : Packet} (hM : Sub 26880 msk) (hF : Frame msk s0 s) : Frame msk s0 (State.doFaultRead s i p) := by
  have b10496 : Sub 10496 msk := Sub.trans (b := 26880) rfl hM
  have b16384 : Sub 16384 msk := Sub.trans (b := 26880) rfl hM
  unfold State.doFaultRead
  with_reducible repeat' (first | assumption | apply State.onInst_frame b10496 | apply State.setFlt_frame b16384 | apply State.answer_frame b10496 | intro _ _ _ | intro _ _ | extract_lets)

theorem State.doHistoryRead_frame {s : State} {i : Issuer} {p : Packet} (hM : Sub 10496 msk) (hF : Frame msk s0 s) : Frame msk s0 (State.doHistoryRead s i p) := by
  have b10240 : Sub 10240 msk := Sub.trans (b := 10496) rfl hM
  have b10496 : Sub 10496 msk := Sub.trans (b := 10496) rfl hM
  unfold State.doHistoryRead
  with_reducible repeat' (first | assumption | apply State.onInst_frame b10496 | apply State.malformed_frame b10496 | apply State.hostWrite_frame b10240 | apply State.answer_frame b10496 | intro _ _ _ | intro _ _ | split | extract_lets)

theorem State.doFaultPinHold_frame {s : State} {i : Issuer} {p : Packet} (hM : Sub 59648 msk) (hF : Frame msk s0 s) : Frame msk s0 (State.doFaultPinHold s i p) := by
  have b10496 : Sub 10496 msk := Sub.trans (b := 59648) rfl hM
  have b16384 : Sub 16384 msk := Sub.trans (b := 59648) rfl hM
  have b32768 : Sub 32768 msk := Sub.trans (b := 59648) rfl hM
  have b43264 : Sub 43264 msk := Sub.trans (b := 59648) rfl hM
  unfold State.doFaultPinHold
  with_reducible repeat' (first | assumption | apply State.denied_frame b10496 | apply State.onFlt_frame b16384 | apply State.change_frame b32768 | apply State.answerR16_frame b43264 | split | extract_lets)

theorem State.statusClear_frame {s : State} {fn b j : Nat} {v : Word} (hM : Sub 16384 msk) (hF : Frame msk s0 s) : Frame msk s0 (State.statusClear s fn b j v) := by
  have b16384 : Sub 16384 msk := Sub.trans (b := 16384) rfl hM
  unfold State.statusClear
  with_reducible repeat' (first | assumption | apply State.setFlt_frame b16384 | split)

theorem State.ovfClear_frame {s : State} {fn b w : Nat} {v : Word} (hM : Sub 16384 msk) (hF : Frame msk s0 s) : Frame msk s0 (State.ovfClear s fn b w v) := by
  have b16384 : Sub 16384 msk := Sub.trans (b := 16384) rfl hM
  unfold State.ovfClear
  with_reducible repeat' (first | assumption | apply State.onFlt_frame b16384 | refine foldl_frame ?_ ?_ | refine foldl_fst_frame ?_ ?_ | refine foldl_snd_frame ?_ ?_ | intro _ _ _ | intro _ _ | split | extract_lets)

theorem State.ovfTick_frame {s : State} (hM : Sub 2113536 msk) (hF : Frame msk s0 s) : Frame msk s0 (State.ovfTick s) := by
  have b16384 : Sub 16384 msk := Sub.trans (b := 2113536) rfl hM
  have b2097152 : Sub 2097152 msk := Sub.trans (b := 2113536) rfl hM
  unfold State.ovfTick
  with_reducible repeat' (first | assumption | apply State.onStats_frame b2097152 | apply State.onFlt_frame b16384 | refine foldl_frame ?_ ?_ | refine foldl_fst_frame ?_ ?_ | refine foldl_snd_frame ?_ ?_ | intro _ _ _ | intro _ _)

theorem State.pinHold_frame {s : State} {fn : Nat} {v : Word} (hM : Sub 4 msk) (hF : Frame msk s0 s) : Frame msk s0 (State.pinHold s fn v) := by
  have b4 : Sub 4 msk := Sub.trans (b := 4) rfl hM
  unfold State.pinHold
  with_reducible repeat' (first | assumption | apply State.later_frame b4 | split)

theorem State.setHold_frame {s : State} {b : Bool} (hM : Sub 49152 msk) (hF : Frame msk s0 s) : Frame msk s0 (State.setHold s b) := by
  have b16384 : Sub 16384 msk := Sub.trans (b := 49152) rfl hM
  have b32768 : Sub 32768 msk := Sub.trans (b := 49152) rfl hM
  unfold State.setHold
  with_reducible repeat' (first | assumption | apply State.onFlt_frame b16384 | apply State.change_frame b32768 | dsimp -zeta only | dsimp -zeta +zetaDelta only)

theorem State.fatalTick_frame {s : State} (hM : Sub 16384 msk) (hF : Frame msk s0 s) : Frame msk s0 (State.fatalTick s) := by
  have b16384 : Sub 16384 msk := Sub.trans (b := 16384) rfl hM
  unfold State.fatalTick
  with_reducible repeat' (first | assumption | apply State.onFlt_frame b16384 | split | dsimp -zeta only | dsimp -zeta +zetaDelta only)

theorem State.pulseEnd_frame {s : State} (hM : Sub 16384 msk) (hF : Frame msk s0 s) : Frame msk s0 (State.pulseEnd s) := by
  have b16384 : Sub 16384 msk := Sub.trans (b := 16384) rfl hM
  unfold State.pulseEnd
  with_reducible repeat' (first | assumption | apply State.onFlt_frame b16384)

theorem State.bridgeLost_frame {s : State} {d h : Nat} (hM : Sub 2158590 msk) (hF : Frame msk s0 s) : Frame msk s0 (State.bridgeLost s d h) := by
  have b32768 : Sub 32768 msk := Sub.trans (b := 2158590) rfl hM
  have b2124032 : Sub 2124032 msk := Sub.trans (b := 2158590) rfl hM
  have b2158590 : Sub 2158590 msk := Sub.trans (b := 2158590) rfl hM
  unfold State.bridgeLost
  with_reducible repeat' (first | assumption | apply State.onMir_frame b32768 | apply State.raise_frame b2124032 | apply State.dieFails_frame b2158590 | split | extract_lets)

end Sys2Proof.Machine
end

