-- ==== Sys2Proof/Laws/FrameMir.lean ====
section
/-! SUPPORT. The frame of every operation of Machine/Mir.lean: which parts of the state it may change. -/

namespace Sys2Proof.Machine

variable {msk : Nat} {s0 : State}

theorem State.sendDelta_frame {s : State} (hM : Sub 6351104 msk) (hF : Frame msk s0 s) : Frame msk s0 (State.sendDelta s) := by
  have b32768 : Sub 32768 msk := Sub.trans (b := 6351104) rfl hM
  have b2124032 : Sub 2124032 msk := Sub.trans (b := 6351104) rfl hM
  have b4194304 : Sub 4194304 msk := Sub.trans (b := 6351104) rfl hM
  unfold State.sendDelta
  with_reducible repeat' (first | assumption | apply State.emit_frame b4194304 | apply State.bump_frame b2124032 | apply State.onMir_frame b32768 | split | extract_lets)

theorem State.loftAck_frame {s : State} (hM : Sub 2157312 msk) (hF : Frame msk s0 s) : Frame msk s0 (State.loftAck s) := by
  have b32768 : Sub 32768 msk := Sub.trans (b := 2157312) rfl hM
  have b2157312 : Sub 2157312 msk := Sub.trans (b := 2157312) rfl hM
  unfold State.loftAck
  with_reducible repeat' (first | assumption | apply State.onMir_frame b32768 | apply State.release_frame b2157312 | split | refine frame_fst ?_ (by assumption) | refine frame_snd ?_ (by assumption))

theorem State.deltaFrame_frame {s : State} {good : Bool} (hM : Sub 2156800 msk) (hF : Frame msk s0 s) : Frame msk s0 (State.deltaFrame s good) := by
  have b32768 : Sub 32768 msk := Sub.trans (b := 2156800) rfl hM
  have b2124032 : Sub 2124032 msk := Sub.trans (b := 2156800) rfl hM
  unfold State.deltaFrame
  with_reducible repeat' (first | assumption | apply State.onMir_frame b32768 | apply State.bump_frame b2124032 | apply State.raise_frame b2124032 | split | extract_lets)

theorem State.dropHub_frame {s : State} {h : Nat} (hM : Sub 3168256 msk) (hF : Frame msk s0 s) : Frame msk s0 (State.dropHub s h) := by
  have b2048 : Sub 2048 msk := Sub.trans (b := 3168256) rfl hM
  have b4096 : Sub 4096 msk := Sub.trans (b := 3168256) rfl hM
  have b16384 : Sub 16384 msk := Sub.trans (b := 3168256) rfl hM
  have b1048576 : Sub 1048576 msk := Sub.trans (b := 3168256) rfl hM
  have b2097152 : Sub 2097152 msk := Sub.trans (b := 3168256) rfl hM
  unfold State.dropHub
  with_reducible repeat' (first | assumption | apply State.onStats_frame b2097152 | apply State.onLatched_frame b1048576 | apply State.onTrt_frame b2048 | apply State.onFlt_frame b16384 | apply State.onMtr_frame b4096 | split | extract_lets | refine frame_fst ?_ (by assumption) | refine frame_snd ?_ (by assumption))

theorem State.loseHub_frame {s : State} {h : Nat} (hM : Sub 3211036 msk) (hF : Frame msk s0 s) : Frame msk s0 (State.loseHub s h) := by
  have b32768 : Sub 32768 msk := Sub.trans (b := 3211036) rfl hM
  have b2158356 : Sub 2158356 msk := Sub.trans (b := 3211036) rfl hM
  have b2158364 : Sub 2158364 msk := Sub.trans (b := 3211036) rfl hM
  have b3168256 : Sub 3168256 msk := Sub.trans (b := 3211036) rfl hM
  unfold State.loseHub
  with_reducible repeat' (first | assumption | apply State.onMir_frame b32768 | apply State.downLink_frame b2158356 | apply State.linkDown_frame b2158364 | apply State.agentLinks_frame b2158364 | apply State.dropHub_frame b3168256 | refine foldl_frame ?_ ?_ | refine foldl_fst_frame ?_ ?_ | refine foldl_snd_frame ?_ ?_ | intro _ _ _ | intro _ _ | split | extract_lets)

theorem State.standbyLost_frame {s : State} {cause : Nat} (hM : Sub 3211036 msk) (hF : Frame msk s0 s) : Frame msk s0 (State.standbyLost s cause) := by
  have b32768 : Sub 32768 msk := Sub.trans (b := 3211036) rfl hM
  have b2124032 : Sub 2124032 msk := Sub.trans (b := 3211036) rfl hM
  have b2157312 : Sub 2157312 msk := Sub.trans (b := 3211036) rfl hM
  have b3211036 : Sub 3211036 msk := Sub.trans (b := 3211036) rfl hM
  unfold State.standbyLost
  with_reducible repeat' (first | assumption | apply State.loseHub_frame b3211036 | apply State.onMir_frame b32768 | apply State.release_frame b2157312 | apply State.raise_frame b2124032 | apply State.event_frame b2124032 | split | extract_lets | refine frame_fst ?_ (by assumption) | refine frame_snd ?_ (by assumption))

theorem State.recross_frame {s : State} {h : Nat} (hM : Sub 16 msk) (hF : Frame msk s0 s) : Frame msk s0 (State.recross s h) := by
  have b16 : Sub 16 msk := Sub.trans (b := 16) rfl hM
  unfold State.recross
  with_reducible repeat' (first | assumption | apply State.setStep_frame b16 | refine foldl_frame ?_ ?_ | refine foldl_fst_frame ?_ ?_ | refine foldl_snd_frame ?_ ?_ | intro _ _ _ | intro _ _ | split | dsimp -zeta only | dsimp -zeta +zetaDelta only | refine frame_fst ?_ (by assumption) | refine frame_snd ?_ (by assumption))

theorem State.hubFails_frame {s : State} {h blk c : Nat} (hM : Sub 3211036 msk) (hF : Frame msk s0 s) : Frame msk s0 (State.hubFails s h blk c) := by
  have b16 : Sub 16 msk := Sub.trans (b := 3211036) rfl hM
  have b16384 : Sub 16384 msk := Sub.trans (b := 3211036) rfl hM
  have b32768 : Sub 32768 msk := Sub.trans (b := 3211036) rfl hM
  have b2124032 : Sub 2124032 msk := Sub.trans (b := 3211036) rfl hM
  have b3211036 : Sub 3211036 msk := Sub.trans (b := 3211036) rfl hM
  unfold State.hubFails
  with_reducible repeat' (first | assumption | apply State.raise_frame b2124032 | apply State.recross_frame b16 | apply State.loseHub_frame b3211036 | apply State.onMir_frame b32768 | apply State.onFlt_frame b16384 | split | extract_lets)

theorem State.retry_frame {s : State} {q : PReq} (hM : Sub 2124544 msk) (hF : Frame msk s0 s) : Frame msk s0 (State.retry s q) := by
  have b2124544 : Sub 2124544 msk := Sub.trans (b := 2124544) rfl hM
  unfold State.retry
  with_reducible repeat' (first | assumption | apply State.respondNow_frame b2124544)

theorem State.retryDue_frame {s : State} {x : Due} (hM : Sub 2124544 msk) (hF : Frame msk s0 s) : Frame msk s0 (State.retryDue s x) := by
  have b10496 : Sub 10496 msk := Sub.trans (b := 2124544) rfl hM
  have b2124544 : Sub 2124544 msk := Sub.trans (b := 2124544) rfl hM
  unfold State.retryDue
  with_reducible repeat' (first | assumption | apply State.retry_frame b2124544 | apply State.answer_frame b10496 | split | dsimp -zeta only | dsimp -zeta +zetaDelta only | refine frame_fst ?_ (by assumption) | refine frame_snd ?_ (by assumption))

theorem State.restoreDir_frame {s : State} {l : Loft} (hM : Sub 2125588 msk) (hF : Frame msk s0 s) : Frame msk s0 (State.restoreDir s l) := by
  have b4 : Sub 4 msk := Sub.trans (b := 2125588) rfl hM
  have b16 : Sub 16 msk := Sub.trans (b := 2125588) rfl hM
  have b1536 : Sub 1536 msk := Sub.trans (b := 2125588) rfl hM
  have b2124032 : Sub 2124032 msk := Sub.trans (b := 2125588) rfl hM
  have b2124544 : Sub 2124544 msk := Sub.trans (b := 2125588) rfl hM
  unfold State.restoreDir
  with_reducible repeat' (first | assumption | apply State.dropReads_frame b1536 | apply State.bump_frame b2124032 | apply State.tornEvent_frame b2124032 | apply State.setEntry_frame b4 | apply State.requeue_frame b16 | apply State.retry_frame b2124544 | refine foldl_frame ?_ ?_ | refine foldl_fst_frame ?_ ?_ | refine foldl_snd_frame ?_ ?_ | intro _ _ _ | intro _ _ | split | extract_lets | refine frame_fst ?_ (by assumption) | refine frame_snd ?_ (by assumption))

theorem State.restoreRgn_frame {s : State} {l : Loft} (hM : Sub 2 msk) (hF : Frame msk s0 s) : Frame msk s0 (State.restoreRgn s l) := by
  have b2 : Sub 2 msk := Sub.trans (b := 2) rfl hM
  unfold State.restoreRgn
  with_reducible repeat' (first | assumption | apply State.onRgn_frame b2 | extract_lets)

theorem State.restoreJobs_frame {s : State} {l : Loft} (hM : Sub 10556 msk) (hF : Frame msk s0 s) : Frame msk s0 (State.restoreJobs s l) := by
  have b8 : Sub 8 msk := Sub.trans (b := 10556) rfl hM
  have b16 : Sub 16 msk := Sub.trans (b := 10556) rfl hM
  have b20 : Sub 20 msk := Sub.trans (b := 10556) rfl hM
  have b32 : Sub 32 msk := Sub.trans (b := 10556) rfl hM
  have b10496 : Sub 10496 msk := Sub.trans (b := 10556) rfl hM
  unfold State.restoreJobs
  with_reducible repeat' (first | assumption | apply State.leaveFaults_frame b8 | apply State.dropMeasures_frame b20 | apply State.freeStage_frame b32 | apply State.freeStore_frame b32 | apply State.onEng_frame b16 | apply State.jobRefuse_frame b10496 | refine foldl_frame ?_ ?_ | refine foldl_fst_frame ?_ ?_ | refine foldl_snd_frame ?_ ?_ | intro _ _ _ | intro _ _ | split | extract_lets | refine frame_fst ?_ (by assumption) | refine frame_snd ?_ (by assumption))

theorem State.restoreFaults_frame {s : State} {l : Loft} (hM : Sub 24 msk) (hF : Frame msk s0 s) : Frame msk s0 (State.restoreFaults s l) := by
  have b8 : Sub 8 msk := Sub.trans (b := 24) rfl hM
  have b16 : Sub 16 msk := Sub.trans (b := 24) rfl hM
  unfold State.restoreFaults
  with_reducible repeat' (first | assumption | apply State.onXlt_frame b8 | apply State.onEng_frame b16 | split | extract_lets | refine frame_fst ?_ (by assumption) | refine frame_snd ?_ (by assumption))

theorem State.restoreSec_frame {s : State} {l : Loft} (hM : Sub 128 msk) (hF : Frame msk s0 s) : Frame msk s0 (State.restoreSec s l) := by
  have b128 : Sub 128 msk := Sub.trans (b := 128) rfl hM
  unfold State.restoreSec
  with_reducible repeat' (first | assumption | apply State.onSec_frame b128 | split | extract_lets | refine frame_fst ?_ (by assumption) | refine frame_snd ?_ (by assumption))

theorem State.reconcile_frame {s : State} (hM : Sub 16 msk) (hF : Frame msk s0 s) : Frame msk s0 (State.reconcile s) := by
  have b16 : Sub 16 msk := Sub.trans (b := 16) rfl hM
  unfold State.reconcile
  with_reducible repeat' (first | assumption | apply State.dropAct_frame b16 | apply State.addAct_frame b16 | refine foldl_frame ?_ ?_ | refine foldl_fst_frame ?_ ?_ | refine foldl_snd_frame ?_ ?_ | intro _ _ _ | intro _ _ | split | extract_lets)

theorem State.settleHeld_frame {s : State} {l : Loft} {held : List (Nat × HeldItem)} (hM : Sub 2124544 msk) (hF : Frame msk s0 s) : Frame msk s0 (State.settleHeld s l held) := by
  have b10240 : Sub 10240 msk := Sub.trans (b := 2124544) rfl hM
  have b10496 : Sub 10496 msk := Sub.trans (b := 2124544) rfl hM
  have b2124544 : Sub 2124544 msk := Sub.trans (b := 2124544) rfl hM
  unfold State.settleHeld
  with_reducible repeat' (first | assumption | apply State.respondNow_frame b2124544 | apply State.retry_frame b2124544 | apply State.putCpl_frame b10496 | apply State.sendPkt_frame b10240 | refine foldl_frame ?_ ?_ | refine foldl_fst_frame ?_ ?_ | refine foldl_snd_frame ?_ ?_ | intro _ _ _ | intro _ _ | split | extract_lets | refine frame_fst ?_ (by assumption) | refine frame_snd ?_ (by assumption))

theorem State.restoreRecs_frame {s : State} {l : Loft} {held : List (Nat × HeldItem)} (hM : Sub 20 msk) (hF : Frame msk s0 s) : Frame msk s0 (State.restoreRecs s l held) := by
  have b4 : Sub 4 msk := Sub.trans (b := 20) rfl hM
  have b16 : Sub 16 msk := Sub.trans (b := 20) rfl hM
  unfold State.restoreRecs
  with_reducible repeat' (first | assumption | apply State.onDir_frame b4 | apply State.onEng_frame b16 | split | extract_lets | refine frame_fst ?_ (by assumption) | refine frame_snd ?_ (by assumption))

theorem State.takeLoft_frame {s : State} (hM : Sub 2158526 msk) (hF : Frame msk s0 s) : Frame msk s0 (State.takeLoft s) := by
  have b2 : Sub 2 msk := Sub.trans (b := 2158526) rfl hM
  have b4 : Sub 4 msk := Sub.trans (b := 2158526) rfl hM
  have b16 : Sub 16 msk := Sub.trans (b := 2158526) rfl hM
  have b20 : Sub 20 msk := Sub.trans (b := 2158526) rfl hM
  have b24 : Sub 24 msk := Sub.trans (b := 2158526) rfl hM
  have b32 : Sub 32 msk := Sub.trans (b := 2158526) rfl hM
  have b128 : Sub 128 msk := Sub.trans (b := 2158526) rfl hM
  have b256 : Sub 256 msk := Sub.trans (b := 2158526) rfl hM
  have b10496 : Sub 10496 msk := Sub.trans (b := 2158526) rfl hM
  have b10556 : Sub 10556 msk := Sub.trans (b := 2158526) rfl hM
  have b16384 : Sub 16384 msk := Sub.trans (b := 2158526) rfl hM
  have b32768 : Sub 32768 msk := Sub.trans (b := 2158526) rfl hM
  have b2124544 : Sub 2124544 msk := Sub.trans (b := 2158526) rfl hM
  have b2125588 : Sub 2125588 msk := Sub.trans (b := 2158526) rfl hM
  have b2158526 : Sub 2158526 msk := Sub.trans (b := 2158526) rfl hM
  unfold State.takeLoft
  with_reducible repeat' (first | assumption | apply State.onMir_frame b32768 | apply State.onDir_frame b4 | apply State.restoreRecs_frame b20 | apply State.restoreDir_frame b2125588 | apply State.restoreRgn_frame b2 | apply State.restoreJobs_frame b10556 | apply State.restoreFaults_frame b24 | apply State.restoreSec_frame b128 | apply State.onOpu_frame b32 | apply State.onCmd_frame b256 | apply State.answer_frame b10496 | apply State.onFlt_frame b16384 | apply State.reconcile_frame b16 | apply State.settleRegion_frame b2158526 | apply State.settleHeld_frame b2124544 | apply State.retryDue_frame b2124544 | refine foldl_frame ?_ ?_ | refine foldl_fst_frame ?_ ?_ | refine foldl_snd_frame ?_ ?_ | intro _ _ _ | intro _ _ | split | extract_lets)

theorem State.switchover_frame {s : State} {cause : Nat} (hM : Sub 14811135 msk) (hF : Frame msk s0 s) : Frame msk s0 (State.switchover s cause) := by
  have b8192 : Sub 8192 msk := Sub.trans (b := 14811135) rfl hM
  have b16384 : Sub 16384 msk := Sub.trans (b := 14811135) rfl hM
  have b32768 : Sub 32768 msk := Sub.trans (b := 14811135) rfl hM
  have b65536 : Sub 65536 msk := Sub.trans (b := 14811135) rfl hM
  have b2124032 : Sub 2124032 msk := Sub.trans (b := 14811135) rfl hM
  have b2158526 : Sub 2158526 msk := Sub.trans (b := 14811135) rfl hM
  have b14745471 : Sub 14745471 msk := Sub.trans (b := 14811135) rfl hM
  unfold State.switchover
  with_reducible repeat' (first | assumption | apply State.onMir_frame b32768 | apply State.takeLoft_frame b2158526 | apply State.gateStep_frame b8192 | apply State.onFlt_frame b16384 | apply State.lifeAdd_frame b65536 | apply State.raise_frame b2124032 | apply State.event_frame b2124032 | apply State.takeKept_frame b14745471 | split | extract_lets)

theorem State.eraseKeys_frame {s : State} (hM : Sub 128 msk) (hF : Frame msk s0 s) : Frame msk s0 (State.eraseKeys s) := by
  have b128 : Sub 128 msk := Sub.trans (b := 128) rfl hM
  unfold State.eraseKeys
  with_reducible repeat' (first | assumption | apply State.onSec_frame b128)

theorem State.enterFailed_frame {s : State} {cause : Nat} (hM : Sub 2748380 msk) (hF : Frame msk s0 s) : Frame msk s0 (State.enterFailed s cause) := by
  have b16 : Sub 16 msk := Sub.trans (b := 2748380) rfl hM
  have b64 : Sub 64 msk := Sub.trans (b := 2748380) rfl hM
  have b128 : Sub 128 msk := Sub.trans (b := 2748380) rfl hM
  have b16384 : Sub 16384 msk := Sub.trans (b := 2748380) rfl hM
  have b32768 : Sub 32768 msk := Sub.trans (b := 2748380) rfl hM
  have b65536 : Sub 65536 msk := Sub.trans (b := 2748380) rfl hM
  have b589824 : Sub 589824 msk := Sub.trans (b := 2748380) rfl hM
  have b2124032 : Sub 2124032 msk := Sub.trans (b := 2748380) rfl hM
  have b2158356 : Sub 2158356 msk := Sub.trans (b := 2748380) rfl hM
  have b2158364 : Sub 2158364 msk := Sub.trans (b := 2748380) rfl hM
  unfold State.enterFailed
  with_reducible repeat' (first | assumption | apply State.onMir_frame b32768 | apply State.downLink_frame b2158356 | apply State.linkDown_frame b2158364 | apply State.onEng_frame b16 | apply State.setStack_frame b64 | apply State.agentLinks_frame b2158364 | apply State.eraseKeys_frame b128 | apply State.lifeAdd_frame b65536 | apply State.saveCounters_frame b589824 | apply State.fatalPin_frame b16384 | apply State.onFlt_frame b16384 | apply State.raise_frame b2124032 | apply State.event_frame b2124032 | refine foldl_frame ?_ ?_ | refine foldl_fst_frame ?_ ?_ | refine foldl_snd_frame ?_ ?_ | intro _ _ _ | intro _ _ | split | extract_lets | dsimp -zeta only | dsimp -zeta +zetaDelta only | refine frame_fst ?_ (by assumption) | refine frame_snd ?_ (by assumption))

theorem State.partFailed_frame {s : State} {cause : Nat} (hM : Sub 2748380 msk) (hF : Frame msk s0 s) : Frame msk s0 (State.partFailed s cause) := by
  have b2748380 : Sub 2748380 msk := Sub.trans (b := 2748380) rfl hM
  unfold State.partFailed
  with_reducible repeat' (first | assumption | apply State.enterFailed_frame b2748380 | split | extract_lets | refine frame_fst ?_ (by assumption) | refine frame_snd ?_ (by assumption))

theorem State.railMismatch_frame {s : State} {blk j : Nat} (hM : Sub 3801086 msk) (hF : Frame msk s0 s) : Frame msk s0 (State.railMismatch s blk j) := by
  have b32768 : Sub 32768 msk := Sub.trans (b := 3801086) rfl hM
  have b2124032 : Sub 2124032 msk := Sub.trans (b := 3801086) rfl hM
  have b2158590 : Sub 2158590 msk := Sub.trans (b := 3801086) rfl hM
  have b2748380 : Sub 2748380 msk := Sub.trans (b := 3801086) rfl hM
  have b3211036 : Sub 3211036 msk := Sub.trans (b := 3801086) rfl hM
  unfold State.railMismatch
  with_reducible repeat' (first | assumption | apply State.raiseRail_frame b2124032 | apply State.dieFails_frame b2158590 | apply State.enterFailed_frame b2748380 | apply State.loseHub_frame b3211036 | apply State.onMir_frame b32768 | split | extract_lets | dsimp -zeta only | dsimp -zeta +zetaDelta only | refine frame_fst ?_ (by assumption) | refine frame_snd ?_ (by assumption))

end Sys2Proof.Machine
end

