-- ==== Sys2Proof/Laws/FramePwr.lean ====
section
/-! SUPPORT. The frame of every operation of Machine/Pwr.lean: which parts of the state it may change. -/

namespace Sys2Proof.Machine

variable {msk : Nat} {s0 : State}

theorem State.doContractLoad_frame {s : State} {i : Issuer} {p : Packet} (hM : Sub 141568 msk) (hF : Frame msk s0 s) : Frame msk s0 (State.doContractLoad s i p) := by
  have b10496 : Sub 10496 msk := Sub.trans (b := 141568) rfl hM
  have b131072 : Sub 131072 msk := Sub.trans (b := 141568) rfl hM
  unfold State.doContractLoad
  with_reducible repeat' (first | assumption | apply State.denied_frame b10496 | apply State.malformed_frame b10496 | apply State.onPwr_frame b131072 | apply State.answer_frame b10496 | split | extract_lets | refine frame_fst ?_ (by assumption) | refine frame_snd ?_ (by assumption))

theorem State.closeIntervals_frame {s : State} (hM : Sub 131072 msk) (hF : Frame msk s0 s) : Frame msk s0 (State.closeIntervals s) := by
  have b131072 : Sub 131072 msk := Sub.trans (b := 131072) rfl hM
  unfold State.closeIntervals
  with_reducible repeat' (first | assumption | apply State.onPwr_frame b131072 | split | extract_lets | dsimp -zeta only | dsimp -zeta +zetaDelta only)

theorem State.meterPower_frame {s : State} {mw : Nat} (hM : Sub 131072 msk) (hF : Frame msk s0 s) : Frame msk s0 (State.meterPower s mw) := by
  have b131072 : Sub 131072 msk := Sub.trans (b := 131072) rfl hM
  unfold State.meterPower
  with_reducible repeat' (first | assumption | apply State.closeIntervals_frame b131072 | apply State.onPwr_frame b131072 | extract_lets)

theorem State.meterVolts_frame {s : State} {mw mv : Nat} (hM : Sub 2255104 msk) (hF : Frame msk s0 s) : Frame msk s0 (State.meterVolts s mw mv) := by
  have b131072 : Sub 131072 msk := Sub.trans (b := 2255104) rfl hM
  have b2124032 : Sub 2124032 msk := Sub.trans (b := 2255104) rfl hM
  unfold State.meterVolts
  with_reducible repeat' (first | assumption | apply State.onPwr_frame b131072 | apply State.bump_frame b2124032 | apply State.raise_frame b2124032 | split | extract_lets)

theorem State.powerSample_frame {s : State} {mw mv : Nat} (hM : Sub 2255104 msk) (hF : Frame msk s0 s) : Frame msk s0 (State.powerSample s mw mv) := by
  have b131072 : Sub 131072 msk := Sub.trans (b := 2255104) rfl hM
  have b2255104 : Sub 2255104 msk := Sub.trans (b := 2255104) rfl hM
  unfold State.powerSample
  with_reducible repeat' (first | assumption | apply State.meterPower_frame b131072 | apply State.meterVolts_frame b2255104 | split)

theorem State.stageChange_frame {s : State} {old l : Nat} {forced : Bool} (hM : Sub 2189568 msk) (hF : Frame msk s0 s) : Frame msk s0 (State.stageChange s old l forced) := by
  have b2124032 : Sub 2124032 msk := Sub.trans (b := 2189568) rfl hM
  have b2189568 : Sub 2189568 msk := Sub.trans (b := 2189568) rfl hM
  unfold State.stageChange
  with_reducible repeat' (first | assumption | apply State.event_frame b2124032 | apply State.logRec_frame b2189568 | split | extract_lets)

theorem State.setLevel_frame {s : State} {l : Nat} {forced : Bool} (hM : Sub 2320656 msk) (hF : Frame msk s0 s) : Frame msk s0 (State.setLevel s l forced) := by
  have b16 : Sub 16 msk := Sub.trans (b := 2320656) rfl hM
  have b131072 : Sub 131072 msk := Sub.trans (b := 2320656) rfl hM
  have b2189568 : Sub 2189568 msk := Sub.trans (b := 2320656) rfl hM
  unfold State.setLevel
  with_reducible repeat' (first | assumption | apply State.onPwr_frame b131072 | apply State.setUnit_frame b16 | apply State.stageChange_frame b2189568 | refine foldl_frame ?_ ?_ | refine foldl_fst_frame ?_ ?_ | refine foldl_snd_frame ?_ ?_ | intro _ _ _ | intro _ _ | split | extract_lets)

theorem State.releaseForcing_frame {s : State} (hM : Sub 131136 msk) (hF : Frame msk s0 s) : Frame msk s0 (State.releaseForcing s) := by
  have b64 : Sub 64 msk := Sub.trans (b := 131136) rfl hM
  have b131072 : Sub 131072 msk := Sub.trans (b := 131136) rfl hM
  unfold State.releaseForcing
  with_reducible repeat' (first | assumption | apply State.onPwr_frame b131072 | apply State.onMcx_frame b64 | split | extract_lets | refine frame_fst ?_ (by assumption) | refine frame_snd ?_ (by assumption))

theorem State.atRate_frame {s : State} {l : Nat} {forced : Bool} (hM : Sub 2320656 msk) (hF : Frame msk s0 s) : Frame msk s0 (State.atRate s l forced) := by
  have b131072 : Sub 131072 msk := Sub.trans (b := 2320656) rfl hM
  have b2320656 : Sub 2320656 msk := Sub.trans (b := 2320656) rfl hM
  unfold State.atRate
  with_reducible repeat' (first | assumption | apply State.onPwr_frame b131072 | apply State.setLevel_frame b2320656 | split)

theorem State.takePwrCtrl_frame {s : State} (hM : Sub 196608 msk) (hF : Frame msk s0 s) : Frame msk s0 (State.takePwrCtrl s) := by
  have b65536 : Sub 65536 msk := Sub.trans (b := 196608) rfl hM
  have b131072 : Sub 131072 msk := Sub.trans (b := 196608) rfl hM
  unfold State.takePwrCtrl
  with_reducible repeat' (first | assumption | apply State.onPwr_frame b131072 | apply State.onGlb_frame b65536 | split | refine frame_fst ?_ (by assumption) | refine frame_snd ?_ (by assumption))

theorem State.evaluate_frame {s : State} (hM : Sub 2320720 msk) (hF : Frame msk s0 s) : Frame msk s0 (State.evaluate s) := by
  have b131072 : Sub 131072 msk := Sub.trans (b := 2320720) rfl hM
  have b131136 : Sub 131136 msk := Sub.trans (b := 2320720) rfl hM
  have b196608 : Sub 196608 msk := Sub.trans (b := 2320720) rfl hM
  have b2124032 : Sub 2124032 msk := Sub.trans (b := 2320720) rfl hM
  have b2320656 : Sub 2320656 msk := Sub.trans (b := 2320720) rfl hM
  unfold State.evaluate
  with_reducible repeat' (first | assumption | apply State.takePwrCtrl_frame b196608 | apply State.releaseForcing_frame b131136 | apply State.onPwr_frame b131072 | apply State.raise_frame b2124032 | apply State.atRate_frame b2320656 | apply State.setLevel_frame b2320656 | apply State.bump_frame b2124032 | split | extract_lets | dsimp -zeta only | dsimp -zeta +zetaDelta only)

theorem State.throttleAssert_frame {s : State} (hM : Sub 2255104 msk) (hF : Frame msk s0 s) : Frame msk s0 (State.throttleAssert s) := by
  have b131072 : Sub 131072 msk := Sub.trans (b := 2255104) rfl hM
  have b2124032 : Sub 2124032 msk := Sub.trans (b := 2255104) rfl hM
  unfold State.throttleAssert
  with_reducible repeat' (first | assumption | apply State.onPwr_frame b131072 | apply State.bump_frame b2124032 | apply State.raise_frame b2124032 | split | extract_lets)

theorem State.throttleRelease_frame {s : State} (hM : Sub 131072 msk) (hF : Frame msk s0 s) : Frame msk s0 (State.throttleRelease s) := by
  have b131072 : Sub 131072 msk := Sub.trans (b := 131072) rfl hM
  unfold State.throttleRelease
  with_reducible repeat' (first | assumption | apply State.onPwr_frame b131072)

theorem State.rateTick_frame {s : State} (hM : Sub 131136 msk) (hF : Frame msk s0 s) : Frame msk s0 (State.rateTick s) := by
  have b64 : Sub 64 msk := Sub.trans (b := 131136) rfl hM
  have b131072 : Sub 131072 msk := Sub.trans (b := 131136) rfl hM
  unfold State.rateTick
  with_reducible repeat' (first | assumption | apply State.onPwr_frame b131072 | apply State.setStack_frame b64 | split | extract_lets | refine frame_fst ?_ (by assumption) | refine frame_snd ?_ (by assumption))

theorem State.pwrTick_frame {s : State} (hM : Sub 2582864 msk) (hF : Frame msk s0 s) : Frame msk s0 (State.pwrTick s) := by
  have b65536 : Sub 65536 msk := Sub.trans (b := 2582864) rfl hM
  have b131072 : Sub 131072 msk := Sub.trans (b := 2582864) rfl hM
  have b131136 : Sub 131136 msk := Sub.trans (b := 2582864) rfl hM
  have b262144 : Sub 262144 msk := Sub.trans (b := 2582864) rfl hM
  have b2320656 : Sub 2320656 msk := Sub.trans (b := 2582864) rfl hM
  unfold State.pwrTick
  with_reducible repeat' (first | assumption | apply State.closeIntervals_frame b131072 | apply State.onPwr_frame b131072 | apply State.setLevel_frame b2320656 | apply State.rateTick_frame b131136 | apply State.lifeAdd_frame b65536 | apply State.onPins_frame b262144 | split | extract_lets | refine frame_fst ?_ (by assumption) | refine frame_snd ?_ (by assumption))

theorem State.skipMinutes_frame {s : State} {m n : Nat} (hM : Sub 2189568 msk) (hF : Frame msk s0 s) : Frame msk s0 (State.skipMinutes s m n) := by
  have b2124032 : Sub 2124032 msk := Sub.trans (b := 2189568) rfl hM
  have b2189568 : Sub 2189568 msk := Sub.trans (b := 2189568) rfl hM
  unfold State.skipMinutes
  with_reducible repeat' (first | assumption | apply State.logRec_frame b2189568 | apply State.bump_frame b2124032 | refine foldl_frame ?_ ?_ | refine foldl_fst_frame ?_ ?_ | refine foldl_snd_frame ?_ ?_ | intro _ _ _ | intro _ _ | split | extract_lets)

theorem State.takeEntry_frame {s : State} {m : Nat} (hM : Sub 2255104 msk) (hF : Frame msk s0 s) : Frame msk s0 (State.takeEntry s m) := by
  have b131072 : Sub 131072 msk := Sub.trans (b := 2255104) rfl hM
  have b2124032 : Sub 2124032 msk := Sub.trans (b := 2255104) rfl hM
  unfold State.takeEntry
  with_reducible repeat' (first | assumption | apply State.onPwr_frame b131072 | apply State.event_frame b2124032 | split | extract_lets | refine frame_fst ?_ (by assumption) | refine frame_snd ?_ (by assumption))

theorem State.minuteEnd_frame {s : State} (hM : Sub 2844928 msk) (hF : Frame msk s0 s) : Frame msk s0 (State.minuteEnd s) := by
  have b65536 : Sub 65536 msk := Sub.trans (b := 2844928) rfl hM
  have b589824 : Sub 589824 msk := Sub.trans (b := 2844928) rfl hM
  have b2124032 : Sub 2124032 msk := Sub.trans (b := 2844928) rfl hM
  have b2189568 : Sub 2189568 msk := Sub.trans (b := 2844928) rfl hM
  have b2255104 : Sub 2255104 msk := Sub.trans (b := 2844928) rfl hM
  unfold State.minuteEnd
  with_reducible repeat' (first | assumption | apply State.bump_frame b2124032 | apply State.event_frame b2124032 | apply State.logRec_frame b2189568 | apply State.skipMinutes_frame b2189568 | apply State.takeEntry_frame b2255104 | apply State.saveCounters_frame b589824 | apply State.onGlb_frame b65536 | split | extract_lets | dsimp -zeta only | dsimp -zeta +zetaDelta only)

theorem State.doPowerRead_frame {s : State} {i : Issuer} {p : Packet} (hM : Sub 10496 msk) (hF : Frame msk s0 s) : Frame msk s0 (State.doPowerRead s i p) := by
  have b10240 : Sub 10240 msk := Sub.trans (b := 10496) rfl hM
  have b10496 : Sub 10496 msk := Sub.trans (b := 10496) rfl hM
  unfold State.doPowerRead
  with_reducible repeat' (first | assumption | apply State.denied_frame b10496 | apply State.malformed_frame b10496 | apply State.answer_frame b10496 | apply State.hostWrite_frame b10240 | split | extract_lets | dsimp -zeta only | dsimp -zeta +zetaDelta only)

end Sys2Proof.Machine
end

