-- ==== Sys2Proof/Laws/FrameBoot.lean ====
section
/-! SUPPORT. The frame of every operation of Machine/Boot.lean: which parts of the state it may change. -/

namespace Sys2Proof.Machine

variable {msk : Nat} {s0 : State}

theorem State.cold_frame {msk : Nat} {s0 s : State} (hM : Sub 3670015 msk) (hF : Frame msk s0 s) : Frame msk s0 s.cold :=
  hF.trans ⟨rfl, fun _ => rfl, List.suffix_refl _, Nat.le_refl _, fun p hp => by
    have hb := fun i h => hM.bit (i := i) h
    cases p <;> first | rfl | exact absurd hp (by rw [hb _ rfl]; simp)⟩

theorem State.coldReset_frame {s : State} (hM : Sub 3670015 msk) (hF : Frame msk s0 s) : Frame msk s0 (State.coldReset s) := by
  have b3670015 : Sub 3670015 msk := Sub.trans (b := 3670015) rfl hM
  unfold State.coldReset
  with_reducible repeat' (first | assumption | apply State.cold_frame b3670015 | split)

theorem State.powerOff_frame {s : State} {input : Bool} (hM : Sub 3670015 msk) (hF : Frame msk s0 s) : Frame msk s0 (State.powerOff s input) := by
  have b131072 : Sub 131072 msk := Sub.trans (b := 3670015) rfl hM
  have b262144 : Sub 262144 msk := Sub.trans (b := 3670015) rfl hM
  have b3670015 : Sub 3670015 msk := Sub.trans (b := 3670015) rfl hM
  unfold State.powerOff
  with_reducible repeat' (first | assumption | apply State.cold_frame b3670015 | apply State.onPwr_frame b131072 | apply State.onPins_frame b262144 | split | extract_lets)

theorem State.vinRise_frame {s : State} (hM : Sub 3670015 msk) (hF : Frame msk s0 s) : Frame msk s0 (State.vinRise s) := by
  have b131072 : Sub 131072 msk := Sub.trans (b := 3670015) rfl hM
  have b262144 : Sub 262144 msk := Sub.trans (b := 3670015) rfl hM
  have b3670015 : Sub 3670015 msk := Sub.trans (b := 3670015) rfl hM
  unfold State.vinRise
  with_reducible repeat' (first | assumption | apply State.cold_frame b3670015 | apply State.onPwr_frame b131072 | apply State.onPins_frame b262144 | split)

theorem State.inputLoss_frame {s : State} (hM : Sub 12582911 msk) (hF : Frame msk s0 s) : Frame msk s0 (State.inputLoss s) := by
  have b524288 : Sub 524288 msk := Sub.trans (b := 12582911) rfl hM
  have b3670015 : Sub 3670015 msk := Sub.trans (b := 12582911) rfl hM
  have b8388608 : Sub 8388608 msk := Sub.trans (b := 12582911) rfl hM
  unfold State.inputLoss
  with_reducible repeat' (first | assumption | apply State.draw_frame b8388608 | apply State.onFlash_frame b524288 | apply State.powerOff_frame b3670015 | split | extract_lets | refine frame_fst ?_ (by assumption) | refine frame_snd ?_ (by assumption))

theorem State.railFault_frame {s : State} {k : Nat} (hM : Sub 3670015 msk) (hF : Frame msk s0 s) : Frame msk s0 (State.railFault s k) := by
  have b131072 : Sub 131072 msk := Sub.trans (b := 3670015) rfl hM
  have b262144 : Sub 262144 msk := Sub.trans (b := 3670015) rfl hM
  have b2124032 : Sub 2124032 msk := Sub.trans (b := 3670015) rfl hM
  have b2158590 : Sub 2158590 msk := Sub.trans (b := 3670015) rfl hM
  have b3211036 : Sub 3211036 msk := Sub.trans (b := 3670015) rfl hM
  have b3670015 : Sub 3670015 msk := Sub.trans (b := 3670015) rfl hM
  unfold State.railFault
  with_reducible repeat' (first | assumption | apply State.onPwr_frame b131072 | apply State.raise_frame b2124032 | apply State.onPins_frame b262144 | apply State.powerOff_frame b3670015 | apply State.dieFails_frame b2158590 | apply State.hubFails_frame b3211036 | split | extract_lets)

theorem State.junction_frame {s : State} {die t : Nat} (hM : Sub 3670015 msk) (hF : Frame msk s0 s) : Frame msk s0 (State.junction s die t) := by
  have b131072 : Sub 131072 msk := Sub.trans (b := 3670015) rfl hM
  have b262144 : Sub 262144 msk := Sub.trans (b := 3670015) rfl hM
  have b3670015 : Sub 3670015 msk := Sub.trans (b := 3670015) rfl hM
  unfold State.junction
  with_reducible repeat' (first | assumption | apply State.onPwr_frame b131072 | apply State.onPins_frame b262144 | apply State.railFault_frame b3670015 | refine foldl_frame ?_ ?_ | refine foldl_fst_frame ?_ ?_ | refine foldl_snd_frame ?_ ?_ | intro _ _ _ | intro _ _ | split | extract_lets)

theorem State.bootLose_frame {s : State} {hubs : List Nat} (hM : Sub 3211036 msk) (hF : Frame msk s0 s) : Frame msk s0 (State.bootLose s hubs) := by
  have b3211036 : Sub 3211036 msk := Sub.trans (b := 3211036) rfl hM
  unfold State.bootLose
  with_reducible repeat' (first | assumption | apply State.loseHub_frame b3211036 | refine foldl_frame ?_ ?_ | refine foldl_fst_frame ?_ ?_ | refine foldl_snd_frame ?_ ?_ | intro _ _ _ | intro _ _)

theorem State.bootFailed_frame {s : State} {step : Nat} (hM : Sub 3801052 msk) (hF : Frame msk s0 s) : Frame msk s0 (State.bootFailed s step) := by
  have b65536 : Sub 65536 msk := Sub.trans (b := 3801052) rfl hM
  have b2748380 : Sub 2748380 msk := Sub.trans (b := 3801052) rfl hM
  have b3211036 : Sub 3211036 msk := Sub.trans (b := 3801052) rfl hM
  unfold State.bootFailed
  with_reducible repeat' (first | assumption | apply State.onGlb_frame b65536 | apply State.bootLose_frame b3211036 | apply State.enterFailed_frame b2748380)

theorem State.bootStacks_frame {s : State} {b : BootInfo} (hM : Sub 2158590 msk) (hF : Frame msk s0 s) : Frame msk s0 (State.bootStacks s b) := by
  have b64 : Sub 64 msk := Sub.trans (b := 2158590) rfl hM
  have b2158590 : Sub 2158590 msk := Sub.trans (b := 2158590) rfl hM
  unfold State.bootStacks
  with_reducible repeat' (first | assumption | apply State.onMcx_frame b64 | apply State.failDie_frame b2158590 | apply State.failStacks_frame b2158590 | apply State.repairLanes_frame b2158590 | refine foldl_frame ?_ ?_ | refine foldl_fst_frame ?_ ?_ | refine foldl_snd_frame ?_ ?_ | intro _ _ _ | intro _ _ | split | extract_lets)

theorem State.bootLife_frame {s : State} (hM : Sub 2189568 msk) (hF : Frame msk s0 s) : Frame msk s0 (State.bootLife s) := by
  have b65536 : Sub 65536 msk := Sub.trans (b := 2189568) rfl hM
  have b2124032 : Sub 2124032 msk := Sub.trans (b := 2189568) rfl hM
  unfold State.bootLife
  with_reducible repeat' (first | assumption | apply State.onGlb_frame b65536 | apply State.raise_frame b2124032 | split | extract_lets | refine frame_fst ?_ (by assumption) | refine frame_snd ?_ (by assumption))

theorem State.bootReady_frame {s : State} {b : BootInfo} {e : Option (Nat × Nat × Nat)} (hM : Sub 10742144 msk) (hF : Frame msk s0 s) : Frame msk s0 (State.bootReady s b e) := by
  have b128 : Sub 128 msk := Sub.trans (b := 10742144) rfl hM
  have b16384 : Sub 16384 msk := Sub.trans (b := 10742144) rfl hM
  have b32768 : Sub 32768 msk := Sub.trans (b := 10742144) rfl hM
  have b65536 : Sub 65536 msk := Sub.trans (b := 10742144) rfl hM
  have b131072 : Sub 131072 msk := Sub.trans (b := 10742144) rfl hM
  have b2189568 : Sub 2189568 msk := Sub.trans (b := 10742144) rfl hM
  have b8388608 : Sub 8388608 msk := Sub.trans (b := 10742144) rfl hM
  unfold State.bootReady
  with_reducible repeat' (first | assumption | apply State.lifeAdd_frame b65536 | apply State.onPwr_frame b131072 | apply State.onGlb_frame b65536 | apply State.drawKey_frame b8388608 | apply State.onSec_frame b128 | apply State.onFlt_frame b16384 | apply State.logRec_frame b2189568 | apply State.onMir_frame b32768 | split | extract_lets | refine frame_fst ?_ (by assumption) | refine frame_snd ?_ (by assumption))

theorem State.bootRest_frame {s : State} {b : BootInfo} {lutikB cfgB : Bool} {lost : List Nat} (hM : Sub 11796478 msk) (hF : Frame msk s0 s) : Frame msk s0 (State.bootRest s b lutikB cfgB lost) := by
  have b128 : Sub 128 msk := Sub.trans (b := 11796478) rfl hM
  have b512 : Sub 512 msk := Sub.trans (b := 11796478) rfl hM
  have b1024 : Sub 1024 msk := Sub.trans (b := 11796478) rfl hM
  have b32768 : Sub 32768 msk := Sub.trans (b := 11796478) rfl hM
  have b65536 : Sub 65536 msk := Sub.trans (b := 11796478) rfl hM
  have b2158590 : Sub 2158590 msk := Sub.trans (b := 11796478) rfl hM
  have b2189568 : Sub 2189568 msk := Sub.trans (b := 11796478) rfl hM
  have b3211036 : Sub 3211036 msk := Sub.trans (b := 11796478) rfl hM
  have b10742144 : Sub 10742144 msk := Sub.trans (b := 11796478) rfl hM
  unfold State.bootRest
  with_reducible repeat' (first | assumption | apply State.onSec_frame b128 | apply State.onPci_frame b512 | apply State.onMir_frame b32768 | apply State.bootStacks_frame b2158590 | apply State.onTlk_frame b1024 | apply State.bootLose_frame b3211036 | apply State.onGlb_frame b65536 | apply State.bootLife_frame b2189568 | apply State.bootReady_frame b10742144 | apply State.setLink_frame b512 | refine foldl_frame ?_ ?_ | refine foldl_fst_frame ?_ ?_ | refine foldl_snd_frame ?_ ?_ | intro _ _ _ | intro _ _ | split | extract_lets | refine frame_fst ?_ (by assumption) | refine frame_snd ?_ (by assumption))

theorem State.coldBoot_frame {s : State} {b : BootInfo} (hM : Sub 12320766 msk) (hF : Frame msk s0 s) : Frame msk s0 (State.coldBoot s b) := by
  have b65536 : Sub 65536 msk := Sub.trans (b := 12320766) rfl hM
  have b2124032 : Sub 2124032 msk := Sub.trans (b := 12320766) rfl hM
  have b3801052 : Sub 3801052 msk := Sub.trans (b := 12320766) rfl hM
  have b11796478 : Sub 11796478 msk := Sub.trans (b := 12320766) rfl hM
  unfold State.coldBoot
  with_reducible repeat' (first | assumption | apply State.onGlb_frame b65536 | apply State.raise_frame b2124032 | apply State.bootFailed_frame b3801052 | apply State.bootRest_frame b11796478 | refine foldl_frame ?_ ?_ | refine foldl_fst_frame ?_ ?_ | refine foldl_snd_frame ?_ ?_ | intro _ _ _ | intro _ _ | split | extract_lets | dsimp -zeta only | dsimp -zeta +zetaDelta only | refine frame_fst ?_ (by assumption) | refine frame_snd ?_ (by assumption))

theorem State.resetPin_frame {s : State} {ns : Nat} (hM : Sub 3670015 msk) (hF : Frame msk s0 s) : Frame msk s0 (State.resetPin s ns) := by
  have b3670015 : Sub 3670015 msk := Sub.trans (b := 3670015) rfl hM
  unfold State.resetPin
  with_reducible repeat' (first | assumption | apply State.coldReset_frame b3670015 | split)

theorem State.sysclkLost_frame {s : State} (hM : Sub 3670015 msk) (hF : Frame msk s0 s) : Frame msk s0 (State.sysclkLost s) := by
  have b65536 : Sub 65536 msk := Sub.trans (b := 3670015) rfl hM
  have b3670015 : Sub 3670015 msk := Sub.trans (b := 3670015) rfl hM
  unfold State.sysclkLost
  with_reducible repeat' (first | assumption | apply State.coldReset_frame b3670015 | apply State.onGlb_frame b65536 | split)

theorem State.refclkLost_frame {s : State} (hM : Sub 2223900 msk) (hF : Frame msk s0 s) : Frame msk s0 (State.refclkLost s) := by
  have b65536 : Sub 65536 msk := Sub.trans (b := 2223900) rfl hM
  have b2158364 : Sub 2158364 msk := Sub.trans (b := 2223900) rfl hM
  unfold State.refclkLost
  with_reducible repeat' (first | assumption | apply State.hostDown_frame b2158364 | apply State.onGlb_frame b65536 | refine foldl_frame ?_ ?_ | refine foldl_fst_frame ?_ ?_ | refine foldl_snd_frame ?_ ?_ | intro _ _ _ | intro _ _)

theorem State.refclkBack_frame {s : State} (hM : Sub 66048 msk) (hF : Frame msk s0 s) : Frame msk s0 (State.refclkBack s) := by
  have b512 : Sub 512 msk := Sub.trans (b := 66048) rfl hM
  have b65536 : Sub 65536 msk := Sub.trans (b := 66048) rfl hM
  unfold State.refclkBack
  with_reducible repeat' (first | assumption | apply State.onGlb_frame b65536 | apply State.setLink_frame b512 | refine foldl_frame ?_ ?_ | refine foldl_fst_frame ?_ ?_ | refine foldl_snd_frame ?_ ?_ | intro _ _ _ | intro _ _ | split | extract_lets)

theorem State.askTarget_frame {s : State} {fn t : Nat} (hM : Sub 4 msk) (hF : Frame msk s0 s) : Frame msk s0 (State.askTarget s fn t) := by
  have b4 : Sub 4 msk := Sub.trans (b := 4) rfl hM
  unfold State.askTarget
  with_reducible repeat' (first | assumption | apply State.later_frame b4 | split | dsimp -zeta only | dsimp -zeta +zetaDelta only)

theorem State.enterCellar_frame {s : State} (hM : Sub 2748188 msk) (hF : Frame msk s0 s) : Frame msk s0 (State.enterCellar s) := by
  have b512 : Sub 512 msk := Sub.trans (b := 2748188) rfl hM
  have b65536 : Sub 65536 msk := Sub.trans (b := 2748188) rfl hM
  have b589824 : Sub 589824 msk := Sub.trans (b := 2748188) rfl hM
  have b2158356 : Sub 2158356 msk := Sub.trans (b := 2748188) rfl hM
  have b2158364 : Sub 2158364 msk := Sub.trans (b := 2748188) rfl hM
  unfold State.enterCellar
  with_reducible repeat' (first | assumption | apply State.onGlb_frame b65536 | apply State.downLink_frame b2158356 | apply State.linkDown_frame b2158364 | apply State.setLink_frame b512 | apply State.agentLinks_frame b2158364 | apply State.saveCounters_frame b589824 | refine foldl_frame ?_ ?_ | refine foldl_fst_frame ?_ ?_ | refine foldl_snd_frame ?_ ?_ | intro _ _ _ | intro _ _ | split | extract_lets | dsimp -zeta only | dsimp -zeta +zetaDelta only)

theorem State.takeTarget_frame {s : State} {fn t : Nat} (hM : Sub 2748188 msk) (hF : Frame msk s0 s) : Frame msk s0 (State.takeTarget s fn t) := by
  have b65536 : Sub 65536 msk := Sub.trans (b := 2748188) rfl hM
  have b2748188 : Sub 2748188 msk := Sub.trans (b := 2748188) rfl hM
  unfold State.takeTarget
  with_reducible repeat' (first | assumption | apply State.enterCellar_frame b2748188 | apply State.onGlb_frame b65536 | split | extract_lets | dsimp -zeta only | dsimp -zeta +zetaDelta only | refine frame_fst ?_ (by assumption) | refine frame_snd ?_ (by assumption))

theorem State.cellarIn_frame {s : State} (hM : Sub 2222848 msk) (hF : Frame msk s0 s) : Frame msk s0 (State.cellarIn s) := by
  have b32768 : Sub 32768 msk := Sub.trans (b := 2222848) rfl hM
  have b65536 : Sub 65536 msk := Sub.trans (b := 2222848) rfl hM
  have b2157312 : Sub 2157312 msk := Sub.trans (b := 2222848) rfl hM
  unfold State.cellarIn
  with_reducible repeat' (first | assumption | apply State.onMir_frame b32768 | apply State.release_frame b2157312 | apply State.onGlb_frame b65536 | split | extract_lets)

theorem State.cellarOut_frame {s : State} {fn target : Nat} (hM : Sub 81984 msk) (hF : Frame msk s0 s) : Frame msk s0 (State.cellarOut s fn target) := by
  have b64 : Sub 64 msk := Sub.trans (b := 81984) rfl hM
  have b16384 : Sub 16384 msk := Sub.trans (b := 81984) rfl hM
  have b65536 : Sub 65536 msk := Sub.trans (b := 81984) rfl hM
  unfold State.cellarOut
  with_reducible repeat' (first | assumption | apply State.onGlb_frame b65536 | apply State.onFlt_frame b16384 | apply State.onMcx_frame b64 | split | extract_lets)

theorem State.endGrace_frame {s : State} (hM : Sub 65540 msk) (hF : Frame msk s0 s) : Frame msk s0 (State.endGrace s) := by
  have b4 : Sub 4 msk := Sub.trans (b := 65540) rfl hM
  have b65536 : Sub 65536 msk := Sub.trans (b := 65540) rfl hM
  unfold State.endGrace
  with_reducible repeat' (first | assumption | apply State.onDir_frame b4 | apply State.onGlb_frame b65536 | split | extract_lets)

theorem State.cellarReady_frame {s : State} (hM : Sub 2748380 msk) (hF : Frame msk s0 s) : Frame msk s0 (State.cellarReady s) := by
  have b512 : Sub 512 msk := Sub.trans (b := 2748380) rfl hM
  have b1024 : Sub 1024 msk := Sub.trans (b := 2748380) rfl hM
  have b16384 : Sub 16384 msk := Sub.trans (b := 2748380) rfl hM
  have b32768 : Sub 32768 msk := Sub.trans (b := 2748380) rfl hM
  have b65536 : Sub 65536 msk := Sub.trans (b := 2748380) rfl hM
  have b65540 : Sub 65540 msk := Sub.trans (b := 2748380) rfl hM
  have b2748380 : Sub 2748380 msk := Sub.trans (b := 2748380) rfl hM
  unfold State.cellarReady
  with_reducible repeat' (first | assumption | apply State.enterFailed_frame b2748380 | apply State.onGlb_frame b65536 | apply State.onFlt_frame b16384 | apply State.onTlk_frame b1024 | apply State.setLink_frame b512 | apply State.onMir_frame b32768 | apply State.endGrace_frame b65540 | refine foldl_frame ?_ ?_ | refine foldl_fst_frame ?_ ?_ | refine foldl_snd_frame ?_ ?_ | intro _ _ _ | intro _ _ | split | extract_lets | refine frame_fst ?_ (by assumption) | refine frame_snd ?_ (by assumption))

end Sys2Proof.Machine
end

