-- ==== Sys2Proof/Laws/FrameRegs.lean ====
section
/-! SUPPORT. The frame of every operation of Machine/Regs.lean: which parts of the state it may change. -/

namespace Sys2Proof.Machine

variable {msk : Nat} {s0 : State}

theorem State.latchVintage_frame {s : State} (hM : Sub 2 msk) (hF : Frame msk s0 s) : Frame msk s0 (State.latchVintage s) := by
  have b2 : Sub 2 msk := Sub.trans (b := 2) rfl hM
  unfold State.latchVintage
  with_reducible repeat' (first | assumption | apply State.onRgn_frame b2 | dsimp -zeta only | dsimp -zeta +zetaDelta only)

theorem State.viewValue_frame {s : State} {fn : Nat} (hM : Sub 514 msk) (hF : Frame msk s0 s) : Frame msk s0 (State.viewValue s fn).2 := by
  have b2 : Sub 2 msk := Sub.trans (b := 514) rfl hM
  have b512 : Sub 512 msk := Sub.trans (b := 514) rfl hM
  unfold State.viewValue
  with_reducible repeat' (first | assumption | apply State.latchVintage_frame b2 | apply State.setFn_frame b512 | split | extract_lets | refine frame_fst ?_ (by assumption) | refine frame_snd ?_ (by assumption))

theorem State.viewRead_frame {s : State} {fn : Nat} {tbit : Bool} (hM : Sub 6318850 msk) (hF : Frame msk s0 s) : Frame msk s0 (State.viewRead s fn tbit) := by
  have b514 : Sub 514 msk := Sub.trans (b := 6318850) rfl hM
  have b4194304 : Sub 4194304 msk := Sub.trans (b := 6318850) rfl hM
  have b6318336 : Sub 6318336 msk := Sub.trans (b := 6318850) rfl hM
  unfold State.viewRead
  with_reducible repeat' (first | assumption | apply State.regGated_frame b6318336 | apply State.viewValue_frame b514 | apply State.emit_frame b4194304 | intro _ _ _ | intro _ _ | split)

theorem State.vintageRead_frame {s : State} {fn : Nat} (hM : Sub 6318338 msk) (hF : Frame msk s0 s) : Frame msk s0 (State.vintageRead s fn) := by
  have b2 : Sub 2 msk := Sub.trans (b := 6318338) rfl hM
  have b4194304 : Sub 4194304 msk := Sub.trans (b := 6318338) rfl hM
  have b6318336 : Sub 6318336 msk := Sub.trans (b := 6318338) rfl hM
  unfold State.vintageRead
  with_reducible repeat' (first | assumption | apply State.regGated_frame b6318336 | apply State.latchVintage_frame b2 | apply State.emit_frame b4194304 | intro _ _ _ | intro _ _ | split)

theorem State.lowVal_frame {s : State} {fn bar off : Nat} (hM : Sub 4260354 msk) (hF : Frame msk s0 s) : Frame msk s0 (State.lowVal s fn bar off) := by
  have b2 : Sub 2 msk := Sub.trans (b := 4260354) rfl hM
  have b514 : Sub 514 msk := Sub.trans (b := 4260354) rfl hM
  have b65536 : Sub 65536 msk := Sub.trans (b := 4260354) rfl hM
  have b4194304 : Sub 4194304 msk := Sub.trans (b := 4260354) rfl hM
  unfold State.lowVal
  with_reducible repeat' (first | assumption | apply State.viewValue_frame b514 | apply State.onGlb_frame b65536 | apply State.emit_frame b4194304 | apply State.latchVintage_frame b2 | split | extract_lets | dsimp -zeta only | dsimp -zeta +zetaDelta only | refine frame_fst ?_ (by assumption) | refine frame_snd ?_ (by assumption))

theorem State.lowRead_frame {s : State} {fn bar off : Nat} {tbit : Bool} (hM : Sub 6384386 msk) (hF : Frame msk s0 s) : Frame msk s0 (State.lowRead s fn bar off tbit) := by
  have b4260354 : Sub 4260354 msk := Sub.trans (b := 6384386) rfl hM
  have b6318336 : Sub 6318336 msk := Sub.trans (b := 6384386) rfl hM
  unfold State.lowRead
  with_reducible repeat' (first | assumption | apply State.regGated_frame b6318336 | apply State.lowVal_frame b4260354 | intro _ _ _ | intro _ _)

theorem State.accessErr_frame {s : State} {hub off : Nat} (hM : Sub 2124032 msk) (hF : Frame msk s0 s) : Frame msk s0 (State.accessErr s hub off) := by
  have b2124032 : Sub 2124032 msk := Sub.trans (b := 2124032) rfl hM
  unfold State.accessErr
  with_reducible repeat' (first | assumption | apply State.raise_frame b2124032 | split)

theorem State.smbus_frame {s : State} {off : Nat} {pecOk : Bool} (hM : Sub 6383872 msk) (hF : Frame msk s0 s) : Frame msk s0 (State.smbus s off pecOk) := by
  have b65536 : Sub 65536 msk := Sub.trans (b := 6383872) rfl hM
  have b2124032 : Sub 2124032 msk := Sub.trans (b := 6383872) rfl hM
  have b4194304 : Sub 4194304 msk := Sub.trans (b := 6383872) rfl hM
  unfold State.smbus
  with_reducible repeat' (first | assumption | apply State.emit_frame b4194304 | apply State.accessErr_frame b2124032 | apply State.onGlb_frame b65536 | split | extract_lets | dsimp -zeta only | dsimp -zeta +zetaDelta only | refine frame_fst ?_ (by assumption) | refine frame_snd ?_ (by assumption))

end Sys2Proof.Machine
end

