-- ==== Sys2Proof/Laws/FrameRegWrite.lean ====
section
/-! SUPPORT. The frame of every operation of Machine/RegWrite.lean: which parts of the state it may change. -/

namespace Sys2Proof.Machine

variable {msk : Nat} {s0 : State}

theorem State.setReg_frame {s : State} {off v : Nat} (hM : Sub 67192 msk) (hF : Frame msk s0 s) : Frame msk s0 (State.setReg s off v) := by
  have b8 : Sub 8 msk := Sub.trans (b := 67192) rfl hM
  have b16 : Sub 16 msk := Sub.trans (b := 67192) rfl hM
  have b32 : Sub 32 msk := Sub.trans (b := 67192) rfl hM
  have b64 : Sub 64 msk := Sub.trans (b := 67192) rfl hM
  have b512 : Sub 512 msk := Sub.trans (b := 67192) rfl hM
  have b1024 : Sub 1024 msk := Sub.trans (b := 67192) rfl hM
  have b65536 : Sub 65536 msk := Sub.trans (b := 67192) rfl hM
  unfold State.setReg
  with_reducible repeat' (first | assumption | apply State.onTime_frame b65536 | apply State.onPci_frame b512 | apply State.onTlk_frame b1024 | apply State.onXlt_frame b8 | apply State.onEng_frame b16 | apply State.onOpu_frame b32 | apply State.onMcx_frame b64 | split | extract_lets | refine frame_fst ?_ (by assumption) | refine frame_snd ?_ (by assumption))

theorem State.regsTick_frame {s : State} (hM : Sub 67192 msk) (hF : Frame msk s0 s) : Frame msk s0 (State.regsTick s) := by
  have b65536 : Sub 65536 msk := Sub.trans (b := 67192) rfl hM
  have b67192 : Sub 67192 msk := Sub.trans (b := 67192) rfl hM
  unfold State.regsTick
  with_reducible repeat' (first | assumption | apply State.setReg_frame b67192 | apply State.onGlb_frame b65536 | refine foldl_frame ?_ ?_ | refine foldl_fst_frame ?_ ?_ | refine foldl_snd_frame ?_ ?_ | intro _ _ _ | intro _ _)

theorem State.portCtrl_frame {s : State} {p v : Nat} (hM : Sub 2158364 msk) (hF : Frame msk s0 s) : Frame msk s0 (State.portCtrl s p v) := by
  have b1024 : Sub 1024 msk := Sub.trans (b := 2158364) rfl hM
  have b2158364 : Sub 2158364 msk := Sub.trans (b := 2158364) rfl hM
  unfold State.portCtrl
  with_reducible repeat' (first | assumption | apply State.setPort_frame b1024 | apply State.portDisable_frame b2158364 | apply State.portEnable_frame b1024 | apply State.trainStart_frame b1024 | apply State.breakLink_frame b2158364 | split | extract_lets | dsimp -zeta only | dsimp -zeta +zetaDelta only)

theorem State.vcAlloc_frame {s : State} {p v : Nat} (hM : Sub 1024 msk) (hF : Frame msk s0 s) : Frame msk s0 (State.vcAlloc s p v) := by
  have b1024 : Sub 1024 msk := Sub.trans (b := 1024) rfl hM
  unfold State.vcAlloc
  with_reducible repeat' (first | assumption | apply State.setPort_frame b1024 | refine foldl_frame ?_ ?_ | refine foldl_fst_frame ?_ ?_ | refine foldl_snd_frame ?_ ?_ | intro _ _ _ | intro _ _ | split | extract_lets)

theorem State.snapWrite_frame {s : State} {v : Nat} (hM : Sub 2048 msk) (hF : Frame msk s0 s) : Frame msk s0 (State.snapWrite s v) := by
  have b2048 : Sub 2048 msk := Sub.trans (b := 2048) rfl hM
  unfold State.snapWrite
  with_reducible repeat' (first | assumption | apply State.onTrt_frame b2048 | split)

theorem State.pstateWrite_frame {s : State} {fn t : Nat} (hM : Sub 81988 msk) (hF : Frame msk s0 s) : Frame msk s0 (State.pstateWrite s fn t) := by
  have b4 : Sub 4 msk := Sub.trans (b := 81988) rfl hM
  have b81984 : Sub 81984 msk := Sub.trans (b := 81988) rfl hM
  unfold State.pstateWrite
  with_reducible repeat' (first | assumption | apply State.cellarOut_frame b81984 | apply State.askTarget_frame b4 | split)

theorem State.dirSelect_frame {s : State} {i : Nat} (hM : Sub 4 msk) (hF : Frame msk s0 s) : Frame msk s0 (State.dirSelect s i) := by
  have b4 : Sub 4 msk := Sub.trans (b := 4) rfl hM
  unfold State.dirSelect
  with_reducible repeat' (first | assumption | apply State.onDir_frame b4)

theorem State.ownerWrite_frame {s : State} {agent owner : Nat} (hM : Sub 12 msk) (hF : Frame msk s0 s) : Frame msk s0 (State.ownerWrite s agent owner) := by
  have b4 : Sub 4 msk := Sub.trans (b := 12) rfl hM
  have b8 : Sub 8 msk := Sub.trans (b := 12) rfl hM
  unfold State.ownerWrite
  with_reducible repeat' (first | assumption | apply State.onXlt_frame b8 | apply State.later_frame b4 | split)

theorem State.ownerApply_frame {s : State} {agent owner : Nat} (hM : Sub 8 msk) (hF : Frame msk s0 s) : Frame msk s0 (State.ownerApply s agent owner) := by
  have b8 : Sub 8 msk := Sub.trans (b := 8) rfl hM
  unfold State.ownerApply
  with_reducible repeat' (first | assumption | apply State.setOwner_frame b8 | split | extract_lets | dsimp -zeta only | dsimp -zeta +zetaDelta only)

theorem State.skewClear_frame {s : State} {k v : Nat} (hM : Sub 64 msk) (hF : Frame msk s0 s) : Frame msk s0 (State.skewClear s k v) := by
  have b64 : Sub 64 msk := Sub.trans (b := 64) rfl hM
  unfold State.skewClear
  with_reducible repeat' (first | assumption | apply State.setStack_frame b64 | split)

theorem State.writeNow_frame {s : State} {fn off v : Nat} (hM : Sub 2189638 msk) (hF : Frame msk s0 s) : Frame msk s0 (State.writeNow s fn off v) := by
  have b2 : Sub 2 msk := Sub.trans (b := 2189638) rfl hM
  have b4 : Sub 4 msk := Sub.trans (b := 2189638) rfl hM
  have b2048 : Sub 2048 msk := Sub.trans (b := 2189638) rfl hM
  have b8192 : Sub 8192 msk := Sub.trans (b := 2189638) rfl hM
  have b65536 : Sub 65536 msk := Sub.trans (b := 2189638) rfl hM
  have b81988 : Sub 81988 msk := Sub.trans (b := 2189638) rfl hM
  have b2189568 : Sub 2189568 msk := Sub.trans (b := 2189638) rfl hM
  unfold State.writeNow
  with_reducible repeat' (first | assumption | apply State.pstateWrite_frame b81988 | apply State.onTime_frame b65536 | apply State.timeSet_frame b65536 | apply State.lifeSelect_frame b2189568 | apply State.snapWrite_frame b2048 | apply State.peakClear_frame b2048 | apply State.onTrt_frame b2048 | apply State.onSch_frame b8192 | apply State.onDir_frame b4 | apply State.dirSelect_frame b4 | apply State.onRgn_frame b2 | apply State.pinHold_frame b4 | split | refine frame_fst ?_ (by assumption) | refine frame_snd ?_ (by assumption))

theorem State.fltWrite_frame {s : State} {fn o v : Nat} (hM : Sub 16384 msk) (hF : Frame msk s0 s) : Frame msk s0 (State.fltWrite s fn o v) := by
  have b16384 : Sub 16384 msk := Sub.trans (b := 16384) rfl hM
  unfold State.fltWrite
  with_reducible repeat' (first | assumption | apply State.statusClear_frame b16384 | apply State.setFlt_frame b16384 | split | extract_lets)

theorem State.write2_frame {s : State} {fn off v : Nat} (hM : Sub 2223966 msk) (hF : Frame msk s0 s) : Frame msk s0 (State.write2 s fn off v) := by
  have b12 : Sub 12 msk := Sub.trans (b := 2223966) rfl hM
  have b16 : Sub 16 msk := Sub.trans (b := 2223966) rfl hM
  have b64 : Sub 64 msk := Sub.trans (b := 2223966) rfl hM
  have b1024 : Sub 1024 msk := Sub.trans (b := 2223966) rfl hM
  have b16384 : Sub 16384 msk := Sub.trans (b := 2223966) rfl hM
  have b65536 : Sub 65536 msk := Sub.trans (b := 2223966) rfl hM
  have b2158364 : Sub 2158364 msk := Sub.trans (b := 2223966) rfl hM
  have b2189638 : Sub 2189638 msk := Sub.trans (b := 2223966) rfl hM
  unfold State.write2
  with_reducible repeat' (first | assumption | apply State.onGlb_frame b65536 | apply State.fltWrite_frame b16384 | apply State.ovfClear_frame b16384 | apply State.portCtrl_frame b2158364 | apply State.vcAlloc_frame b1024 | apply State.ownerWrite_frame b12 | apply State.engOffline_frame b16 | apply State.engReset_frame b16 | apply State.skewClear_frame b64 | apply State.writeNow_frame b2189638 | split | extract_lets | refine frame_fst ?_ (by assumption) | refine frame_snd ?_ (by assumption))

theorem State.flushWrite_frame {s : State} {fn v : Nat} (hM : Sub 256 msk) (hF : Frame msk s0 s) : Frame msk s0 (State.flushWrite s fn v) := by
  have b256 : Sub 256 msk := Sub.trans (b := 256) rfl hM
  unfold State.flushWrite
  with_reducible repeat' (first | assumption | apply State.setIntake_frame b256 | split)

theorem State.wordWrite_frame {s : State} {fn v : Nat} {last : Bool} (hM : Sub 256 msk) (hF : Frame msk s0 s) : Frame msk s0 (State.wordWrite s fn v last) := by
  have b256 : Sub 256 msk := Sub.trans (b := 256) rfl hM
  unfold State.wordWrite
  with_reducible repeat' (first | assumption | apply State.setIntake_frame b256 | split)

theorem State.write0_frame {s : State} {fn off v : Nat} (hM : Sub 768 msk) (hF : Frame msk s0 s) : Frame msk s0 (State.write0 s fn off v) := by
  have b256 : Sub 256 msk := Sub.trans (b := 768) rfl hM
  have b512 : Sub 512 msk := Sub.trans (b := 768) rfl hM
  unfold State.write0
  with_reducible repeat' (first | assumption | apply State.setFn_frame b512 | apply State.wordWrite_frame b256 | apply State.flushWrite_frame b256 | apply State.setIntake_frame b256 | split | refine frame_fst ?_ (by assumption) | refine frame_snd ?_ (by assumption))

theorem State.write64Word_frame {s : State} {fn base : Nat} {high : Bool} {v : Nat} (hM : Sub 66304 msk) (hF : Frame msk s0 s) : Frame msk s0 (State.write64Word s fn base high v) := by
  have b768 : Sub 768 msk := Sub.trans (b := 66304) rfl hM
  have b65536 : Sub 65536 msk := Sub.trans (b := 66304) rfl hM
  unfold State.write64Word
  with_reducible repeat' (first | assumption | apply State.onGlb_frame b65536 | apply State.write0_frame b768 | split | extract_lets | refine frame_fst ?_ (by assumption) | refine frame_snd ?_ (by assumption))

theorem State.msixWrite_frame {s : State} {fn k v : Nat} (hM : Sub 10752 msk) (hF : Frame msk s0 s) : Frame msk s0 (State.msixWrite s fn k v) := by
  have b512 : Sub 512 msk := Sub.trans (b := 10752) rfl hM
  have b10752 : Sub 10752 msk := Sub.trans (b := 10752) rfl hM
  unfold State.msixWrite
  with_reducible repeat' (first | assumption | apply State.setFn_frame b512 | apply State.msix_frame b10752 | split | extract_lets)

theorem State.takeSlot_frame {s : State} {fn k : Nat} (hM : Sub 10551135 msk) (hF : Frame msk s0 s) : Frame msk s0 (State.takeSlot s fn k) := by
  have b2124544 : Sub 2124544 msk := Sub.trans (b := 10551135) rfl hM
  have b10551135 : Sub 10551135 msk := Sub.trans (b := 10551135) rfl hM
  unfold State.takeSlot
  with_reducible repeat' (first | assumption | apply State.slotRequest_frame b10551135 | apply State.respondVia_frame b2124544 | split | extract_lets | refine frame_fst ?_ (by assumption) | refine frame_snd ?_ (by assumption))

theorem State.winWrite_frame {s : State} {fn k n v : Nat} (hM : Sub 10551135 msk) (hF : Frame msk s0 s) : Frame msk s0 (State.winWrite s fn k n v) := by
  have b512 : Sub 512 msk := Sub.trans (b := 10551135) rfl hM
  have b10551135 : Sub 10551135 msk := Sub.trans (b := 10551135) rfl hM
  unfold State.winWrite
  with_reducible repeat' (first | assumption | apply State.setFn_frame b512 | apply State.takeSlot_frame b10551135 | refine foldl_frame ?_ ?_ | refine foldl_fst_frame ?_ ?_ | refine foldl_snd_frame ?_ ?_ | intro _ _ _ | intro _ _ | split | extract_lets)

theorem State.regWrite_frame {s : State} {fn bar off width v : Nat} (hM : Sub 10616671 msk) (hF : Frame msk s0 s) : Frame msk s0 (State.regWrite s fn bar off width v) := by
  have b768 : Sub 768 msk := Sub.trans (b := 10616671) rfl hM
  have b10752 : Sub 10752 msk := Sub.trans (b := 10616671) rfl hM
  have b66304 : Sub 66304 msk := Sub.trans (b := 10616671) rfl hM
  have b2124032 : Sub 2124032 msk := Sub.trans (b := 10616671) rfl hM
  have b2223966 : Sub 2223966 msk := Sub.trans (b := 10616671) rfl hM
  have b10551135 : Sub 10551135 msk := Sub.trans (b := 10616671) rfl hM
  unfold State.regWrite
  with_reducible repeat' (first | assumption | apply State.msixWrite_frame b10752 | apply State.winWrite_frame b10551135 | apply State.accessErr_frame b2124032 | apply State.write2_frame b2223966 | apply State.write0_frame b768 | apply State.write64Word_frame b66304 | split | dsimp -zeta only | dsimp -zeta +zetaDelta only | refine frame_fst ?_ (by assumption) | refine frame_snd ?_ (by assumption))

theorem State.registerWrite_frame {s : State} {fn bar off width v : Nat} {tbit : Bool} (hM : Sub 14810975 msk) (hF : Frame msk s0 s) : Frame msk s0 (State.registerWrite s fn bar off width v tbit) := by
  have b6318336 : Sub 6318336 msk := Sub.trans (b := 14810975) rfl hM
  have b10616671 : Sub 10616671 msk := Sub.trans (b := 14810975) rfl hM
  unfold State.registerWrite
  with_reducible repeat' (first | assumption | apply State.regGated_frame b6318336 | apply State.regWrite_frame b10616671 | intro _ _ _ | intro _ _)

theorem State.lowWrite_frame {s : State} {fn bar off v : Nat} {tbit : Bool} (hM : Sub 6384384 msk) (hF : Frame msk s0 s) : Frame msk s0 (State.lowWrite s fn bar off v tbit) := by
  have b66304 : Sub 66304 msk := Sub.trans (b := 6384384) rfl hM
  have b6318336 : Sub 6318336 msk := Sub.trans (b := 6384384) rfl hM
  unfold State.lowWrite
  with_reducible repeat' (first | assumption | apply State.regGated_frame b6318336 | apply State.write64Word_frame b66304 | intro _ _ _ | intro _ _ | split)

end Sys2Proof.Machine
end

