-- ==== Sys2Proof/Laws/FrameLutik.lean ====
section
/-! SUPPORT. The frame of every operation of Machine/Lutik.lean: which parts of the state it may change. -/

namespace Sys2Proof.Machine

variable {msk : Nat} {s0 : State}

theorem State.doHello_frame {s : State} {i : Issuer} {p : Packet} (hM : Sub 10496 msk) (hF : Frame msk s0 s) : Frame msk s0 (State.doHello s i p) := by
  have b256 : Sub 256 msk := Sub.trans (b := 10496) rfl hM
  have b10496 : Sub 10496 msk := Sub.trans (b := 10496) rfl hM
  unfold State.doHello
  with_reducible repeat' (first | assumption | apply State.answer_frame b10496 | apply State.setIntake_frame b256 | split | extract_lets)

theorem State.doCaps_frame {s : State} {i : Issuer} {p : Packet} (hM : Sub 10496 msk) (hF : Frame msk s0 s) : Frame msk s0 (State.doCaps s i p) := by
  have b10240 : Sub 10240 msk := Sub.trans (b := 10496) rfl hM
  have b10496 : Sub 10496 msk := Sub.trans (b := 10496) rfl hM
  unfold State.doCaps
  with_reducible repeat' (first | assumption | apply State.malformed_frame b10496 | apply State.hostWrite_frame b10240 | apply State.answer_frame b10496 | split)

theorem State.lutikOp_frame {s : State} {op : Nat} {i : Issuer} {p : Packet} (hM : Sub 10682367 msk) (hF : Frame msk s0 s) : Frame msk s0 (State.lutikOp s op i p) := by
  have b10496 : Sub 10496 msk := Sub.trans (b := 10682367) rfl hM
  have b10504 : Sub 10504 msk := Sub.trans (b := 10682367) rfl hM
  have b14592 : Sub 14592 msk := Sub.trans (b := 10682367) rfl hM
  have b26880 : Sub 26880 msk := Sub.trans (b := 10682367) rfl hM
  have b43280 : Sub 43280 msk := Sub.trans (b := 10682367) rfl hM
  have b43296 : Sub 43296 msk := Sub.trans (b := 10682367) rfl hM
  have b59648 : Sub 59648 msk := Sub.trans (b := 10682367) rfl hM
  have b141568 : Sub 141568 msk := Sub.trans (b := 10682367) rfl hM
  have b2156860 : Sub 2156860 msk := Sub.trans (b := 10682367) rfl hM
  have b2156862 : Sub 2156862 msk := Sub.trans (b := 10682367) rfl hM
  have b2157318 : Sub 2157318 msk := Sub.trans (b := 10682367) rfl hM
  have b2162460 : Sub 2162460 msk := Sub.trans (b := 10682367) rfl hM
  have b8431890 : Sub 8431890 msk := Sub.trans (b := 10682367) rfl hM
  have b8431898 : Sub 8431898 msk := Sub.trans (b := 10682367) rfl hM
  have b8431944 : Sub 8431944 msk := Sub.trans (b := 10682367) rfl hM
  have b8432008 : Sub 8432008 msk := Sub.trans (b := 10682367) rfl hM
  have b8432016 : Sub 8432016 msk := Sub.trans (b := 10682367) rfl hM
  have b10545533 : Sub 10545533 msk := Sub.trans (b := 10682367) rfl hM
  have b10547031 : Sub 10547031 msk := Sub.trans (b := 10682367) rfl hM
  have b10547071 : Sub 10547071 msk := Sub.trans (b := 10682367) rfl hM
  have b10547159 : Sub 10547159 msk := Sub.trans (b := 10682367) rfl hM
  have b10551295 : Sub 10551295 msk := Sub.trans (b := 10682367) rfl hM
  unfold State.lutikOp
  with_reducible repeat' (first | assumption | apply State.doHello_frame b10496 | apply State.doCaps_frame b10496 | apply State.doRegionCreate_frame b8431898 | apply State.doRegionDestroy_frame b10547071 | apply State.doBinAdd_frame b8431890 | apply State.doBinRevoke_frame b10547031 | apply State.doRegionAttach_frame b10547031 | apply State.doRegionDetach_frame b10547031 | apply State.doPublish_frame b2157318 | apply State.doRegionInfo_frame b10496 | apply State.doMapUpdate_frame b8431944 | apply State.doMapDigest_frame b10504 | apply State.doFaultResolve_frame b10545533 | apply State.doJobSubmit_frame b8431890 | apply State.doJobAbort_frame b2156862 | apply State.doModelLoad_frame b43296 | apply State.doLayerPlace_frame b43296 | apply State.doModelUnload_frame b2156860 | apply State.doModelUsers_frame b43296 | apply State.doDecodeStep_frame b43280 | apply State.doJobQuery_frame b10496 | apply State.doMeterSet_frame b14592 | apply State.doSchedSet_frame b10496 | apply State.doGateListLoad_frame b10496 | apply State.doTenantCreate_frame b8432008 | apply State.doTenantRemove_frame b10551295 | apply State.doKeyRotate_frame b8432016 | apply State.doBindWeights_frame b10547159 | apply State.doContractLoad_frame b141568 | apply State.doPowerRead_frame b10496 | apply State.doFaultRead_frame b26880 | apply State.doHistoryRead_frame b10496 | apply State.doFaultPinHold_frame b59648 | apply State.doRouteSet_frame b2162460 | apply State.doMcastGroupSet_frame b10496 | apply State.doFuncBind_frame b2162460 | split | refine frame_fst ?_ (by assumption) | refine frame_snd ?_ (by assumption))

theorem State.beginCmd_frame {s : State} {i : Issuer} {p : Packet} (hM : Sub 10500 msk) (hF : Frame msk s0 s) : Frame msk s0 (State.beginCmd s i p) := by
  have b4 : Sub 4 msk := Sub.trans (b := 10500) rfl hM
  have b10496 : Sub 10496 msk := Sub.trans (b := 10500) rfl hM
  unfold State.beginCmd
  with_reducible repeat' (first | assumption | apply State.doHello_frame b10496 | apply State.doCaps_frame b10496 | apply State.answer_frame b10496 | apply State.later_frame b4 | split | dsimp -zeta only | dsimp -zeta +zetaDelta only | refine frame_fst ?_ (by assumption) | refine frame_snd ?_ (by assumption))

theorem State.applyCmd_frame {s : State} {fn : Nat} {p : Packet} (hM : Sub 10682367 msk) (hF : Frame msk s0 s) : Frame msk s0 (State.applyCmd s fn p) := by
  have b10682367 : Sub 10682367 msk := Sub.trans (b := 10682367) rfl hM
  unfold State.applyCmd
  with_reducible repeat' (first | assumption | apply State.lutikOp_frame b10682367 | dsimp -zeta only | dsimp -zeta +zetaDelta only)

theorem State.cmdRow_frame {s : State} {op fn : Nat} {p : Packet} (hM : Sub 2124036 msk) (hF : Frame msk s0 s) : Frame msk s0 (State.cmdRow s op fn p) := by
  have b10500 : Sub 10500 msk := Sub.trans (b := 2124036) rfl hM
  have b2124032 : Sub 2124032 msk := Sub.trans (b := 2124036) rfl hM
  unfold State.cmdRow
  with_reducible repeat' (first | assumption | apply State.command_frame b2124032 | apply State.beginCmd_frame b10500 | intro _ _ _ | intro _ _)

theorem State.beginNext_frame {s : State} {fn : Nat} (hM : Sub 2124036 msk) (hF : Frame msk s0 s) : Frame msk s0 (State.beginNext s fn) := by
  have b256 : Sub 256 msk := Sub.trans (b := 2124036) rfl hM
  have b10500 : Sub 10500 msk := Sub.trans (b := 2124036) rfl hM
  have b2124032 : Sub 2124032 msk := Sub.trans (b := 2124036) rfl hM
  unfold State.beginNext
  with_reducible repeat' (first | assumption | apply State.setIntake_frame b256 | apply State.beginPacket_frame b2124032 | apply State.beginCmd_frame b10500 | intro _ _ _ | intro _ _ | split | extract_lets | refine frame_fst ?_ (by assumption) | refine frame_snd ?_ (by assumption))

theorem State.lutikRound_frame {s : State} (hM : Sub 2124036 msk) (hF : Frame msk s0 s) : Frame msk s0 (State.lutikRound s) := by
  have b2124036 : Sub 2124036 msk := Sub.trans (b := 2124036) rfl hM
  unfold State.lutikRound
  with_reducible repeat' (first | assumption | apply State.beginNext_frame b2124036 | refine foldl_frame ?_ ?_ | refine foldl_fst_frame ?_ ?_ | refine foldl_snd_frame ?_ ?_ | intro _ _ _ | intro _ _ | extract_lets)

theorem State.shed_frame {s : State} {fn : Nat} (hM : Sub 2124032 msk) (hF : Frame msk s0 s) : Frame msk s0 (State.shed s fn) := by
  have b256 : Sub 256 msk := Sub.trans (b := 2124032) rfl hM
  have b10496 : Sub 10496 msk := Sub.trans (b := 2124032) rfl hM
  have b2124032 : Sub 2124032 msk := Sub.trans (b := 2124032) rfl hM
  unfold State.shed
  with_reducible repeat' (first | assumption | apply State.bump_frame b2124032 | apply State.answer_frame b10496 | apply State.setIntake_frame b256 | split | extract_lets | refine frame_fst ?_ (by assumption) | refine frame_snd ?_ (by assumption))

theorem State.cmdWord_frame {s : State} {fn : Nat} {w : Word} {last tbit : Bool} (hM : Sub 6318336 msk) (hF : Frame msk s0 s) : Frame msk s0 (State.cmdWord s fn w last tbit) := by
  have b256 : Sub 256 msk := Sub.trans (b := 6318336) rfl hM
  have b6318336 : Sub 6318336 msk := Sub.trans (b := 6318336) rfl hM
  unfold State.cmdWord
  with_reducible repeat' (first | assumption | apply State.regGated_frame b6318336 | apply State.wordWrite_frame b256 | intro _ _ _ | intro _ _)

theorem State.cmdFlush_frame {s : State} {fn : Nat} {tbit : Bool} (hM : Sub 6318336 msk) (hF : Frame msk s0 s) : Frame msk s0 (State.cmdFlush s fn tbit) := by
  have b256 : Sub 256 msk := Sub.trans (b := 6318336) rfl hM
  have b6318336 : Sub 6318336 msk := Sub.trans (b := 6318336) rfl hM
  unfold State.cmdFlush
  with_reducible repeat' (first | assumption | apply State.regGated_frame b6318336 | apply State.flushWrite_frame b256 | intro _ _ _ | intro _ _)

theorem State.bankSwap_frame {s : State} {fn : Nat} (hM : Sub 256 msk) (hF : Frame msk s0 s) : Frame msk s0 (State.bankSwap s fn) := by
  have b256 : Sub 256 msk := Sub.trans (b := 256) rfl hM
  unfold State.bankSwap
  with_reducible repeat' (first | assumption | apply State.setIntake_frame b256 | split)

theorem State.drainCpl_frame {s : State} {fn : Nat} {fuel9 : Nat} (hM : Sub 10496 msk) (hF : Frame msk s0 s) : Frame msk s0 (State.drainCpl s fn fuel9) := by
  have b256 : Sub 256 msk := Sub.trans (b := 10496) rfl hM
  have b10496 : Sub 10496 msk := Sub.trans (b := 10496) rfl hM
  induction fuel9 generalizing s fn with
  | zero => unfold State.drainCpl; with_reducible repeat' (first | assumption | apply State.setIntake_frame b256 | apply State.writeCpl_frame b10496 | split | refine frame_fst ?_ (by assumption) | refine frame_snd ?_ (by assumption))
  | succ fuel9 ih =>
    unfold State.drainCpl
    with_reducible repeat' (first | assumption | apply ih | apply State.setIntake_frame b256 | apply State.writeCpl_frame b10496 | split | refine frame_fst ?_ (by assumption) | refine frame_snd ?_ (by assumption))

theorem State.drainEvt_frame {s : State} {fn : Nat} {fuel9 : Nat} (hM : Sub 10496 msk) (hF : Frame msk s0 s) : Frame msk s0 (State.drainEvt s fn fuel9) := by
  have b256 : Sub 256 msk := Sub.trans (b := 10496) rfl hM
  have b10496 : Sub 10496 msk := Sub.trans (b := 10496) rfl hM
  induction fuel9 generalizing s fn with
  | zero => unfold State.drainEvt; with_reducible repeat' (first | assumption | apply State.setIntake_frame b256 | apply State.writeEvt_frame b10496 | split | refine frame_fst ?_ (by assumption) | refine frame_snd ?_ (by assumption))
  | succ fuel9 ih =>
    unfold State.drainEvt
    with_reducible repeat' (first | assumption | apply ih | apply State.setIntake_frame b256 | apply State.writeEvt_frame b10496 | split | refine frame_fst ?_ (by assumption) | refine frame_snd ?_ (by assumption))

theorem State.drainRing_frame {s : State} {fn : Nat} {fuel9 : Nat} (hM : Sub 10752 msk) (hF : Frame msk s0 s) : Frame msk s0 (State.drainRing s fn fuel9) := by
  have b512 : Sub 512 msk := Sub.trans (b := 10752) rfl hM
  have b10752 : Sub 10752 msk := Sub.trans (b := 10752) rfl hM
  induction fuel9 generalizing s fn with
  | zero => unfold State.drainRing; with_reducible repeat' (first | assumption | apply State.setFn_frame b512 | apply State.writeRing_frame b10752 | split | refine frame_fst ?_ (by assumption) | refine frame_snd ?_ (by assumption))
  | succ fuel9 ih =>
    unfold State.drainRing
    with_reducible repeat' (first | assumption | apply ih | apply State.setFn_frame b512 | apply State.writeRing_frame b10752 | split | refine frame_fst ?_ (by assumption) | refine frame_snd ?_ (by assumption))

end Sys2Proof.Machine
end

