-- ==== Sys2Proof/Laws/FrameTick.lean ====
section
/-! SUPPORT. The frame of every operation of Machine/Tick.lean: which parts of the state it may change. -/

namespace Sys2Proof.Machine

variable {msk : Nat} {s0 : State}

theorem State.fnRegsTick_frame {s : State} (hM : Sub 768 msk) (hF : Frame msk s0 s) : Frame msk s0 (State.fnRegsTick s) := by
  have b256 : Sub 256 msk := Sub.trans (b := 768) rfl hM
  have b512 : Sub 512 msk := Sub.trans (b := 768) rfl hM
  unfold State.fnRegsTick
  with_reducible repeat' (first | assumption | apply State.onPci_frame b512 | apply State.onCmd_frame b256 | extract_lets)

theorem State.freezeTick_frame {s : State} (hM : Sub 2048 msk) (hF : Frame msk s0 s) : Frame msk s0 (State.freezeTick s) := by
  have b2048 : Sub 2048 msk := Sub.trans (b := 2048) rfl hM
  unfold State.freezeTick
  with_reducible repeat' (first | assumption | apply State.onTrt_frame b2048 | split | refine frame_fst ?_ (by assumption) | refine frame_snd ?_ (by assumption))

theorem State.usersTick_frame {s : State} (hM : Sub 32 msk) (hF : Frame msk s0 s) : Frame msk s0 (State.usersTick s) := by
  have b32 : Sub 32 msk := Sub.trans (b := 32) rfl hM
  unfold State.usersTick
  with_reducible repeat' (first | assumption | apply State.onOpu_frame b32)

theorem State.writesTick_frame {s : State} (hM : Sub 2183032 msk) (hF : Frame msk s0 s) : Frame msk s0 (State.writesTick s) := by
  have b32 : Sub 32 msk := Sub.trans (b := 2183032) rfl hM
  have b768 : Sub 768 msk := Sub.trans (b := 2183032) rfl hM
  have b2048 : Sub 2048 msk := Sub.trans (b := 2183032) rfl hM
  have b67192 : Sub 67192 msk := Sub.trans (b := 2183032) rfl hM
  have b2113536 : Sub 2113536 msk := Sub.trans (b := 2183032) rfl hM
  unfold State.writesTick
  with_reducible repeat' (first | assumption | apply State.regsTick_frame b67192 | apply State.fnRegsTick_frame b768 | apply State.freezeTick_frame b2048 | apply State.usersTick_frame b32 | apply State.ovfTick_frame b2113536)

theorem State.applyDue_frame {s : State} {x : Due} (hM : Sub 11272191 msk) (hF : Frame msk s0 s) : Frame msk s0 (State.applyDue s x) := by
  have b8 : Sub 8 msk := Sub.trans (b := 11272191) rfl hM
  have b49152 : Sub 49152 msk := Sub.trans (b := 11272191) rfl hM
  have b2156860 : Sub 2156860 msk := Sub.trans (b := 11272191) rfl hM
  have b2158590 : Sub 2158590 msk := Sub.trans (b := 11272191) rfl hM
  have b2748188 : Sub 2748188 msk := Sub.trans (b := 11272191) rfl hM
  have b10547031 : Sub 10547031 msk := Sub.trans (b := 11272191) rfl hM
  have b10551167 : Sub 10551167 msk := Sub.trans (b := 11272191) rfl hM
  have b10682367 : Sub 10682367 msk := Sub.trans (b := 11272191) rfl hM
  unfold State.applyDue
  with_reducible repeat' (first | assumption | apply State.dueReq_frame b10547031 | apply State.applyCmd_frame b10682367 | apply State.ownerApply_frame b8 | apply State.expireAt_frame b10547031 | apply State.setHold_frame b49152 | apply State.faultEnd_frame b2156860 | apply State.takeTarget_frame b2748188 | apply State.flrApply_frame b10551167 | apply State.failStacks_frame b2158590 | apply State.failDie_frame b2158590 | split | dsimp -zeta only | dsimp -zeta +zetaDelta only | refine frame_fst ?_ (by assumption) | refine frame_snd ?_ (by assumption))

theorem State.dueTick_frame {s : State} (hM : Sub 11272191 msk) (hF : Frame msk s0 s) : Frame msk s0 (State.dueTick s) := by
  have b4 : Sub 4 msk := Sub.trans (b := 11272191) rfl hM
  have b16384 : Sub 16384 msk := Sub.trans (b := 11272191) rfl hM
  have b11272191 : Sub 11272191 msk := Sub.trans (b := 11272191) rfl hM
  unfold State.dueTick
  with_reducible repeat' (first | assumption | apply State.applyDue_frame b11272191 | apply State.onDir_frame b4 | apply State.fatalTick_frame b16384 | refine foldl_frame ?_ ?_ | refine foldl_fst_frame ?_ ?_ | refine foldl_snd_frame ?_ ?_ | intro _ _ _ | intro _ _ | split | extract_lets | dsimp -zeta only | dsimp -zeta +zetaDelta only | refine frame_fst ?_ (by assumption) | refine frame_snd ?_ (by assumption))

theorem State.parkedTick_frame {s : State} (hM : Sub 10547031 msk) (hF : Frame msk s0 s) : Frame msk s0 (State.parkedTick s) := by
  have b10547031 : Sub 10547031 msk := Sub.trans (b := 10547031) rfl hM
  unfold State.parkedTick
  with_reducible repeat' (first | assumption | apply State.reopen_frame b10547031 | refine foldl_frame ?_ ?_ | refine foldl_fst_frame ?_ ?_ | refine foldl_snd_frame ?_ ?_ | intro _ _ _ | intro _ _)

theorem State.regionsTick_frame {s : State} (hM : Sub 10547031 msk) (hF : Frame msk s0 s) : Frame msk s0 (State.regionsTick s) := by
  have b18 : Sub 18 msk := Sub.trans (b := 10547031) rfl hM
  have b2157318 : Sub 2157318 msk := Sub.trans (b := 10547031) rfl hM
  have b10547031 : Sub 10547031 msk := Sub.trans (b := 10547031) rfl hM
  unfold State.regionsTick
  with_reducible repeat' (first | assumption | apply State.pubProceed_frame b2157318 | apply State.pubRelease_frame b10547031 | apply State.startDestroyScrub_frame b18 | apply State.rackScrub_frame b18 | apply State.revokesTick_frame b10547031 | refine foldl_frame ?_ ?_ | refine foldl_fst_frame ?_ ?_ | refine foldl_snd_frame ?_ ?_ | intro _ _ _ | intro _ _)

theorem State.dirTick_frame {s : State} {live : Bool} (hM : Sub 15466495 msk) (hF : Frame msk s0 s) : Frame msk s0 (State.dirTick s live) := by
  have b6351104 : Sub 6351104 msk := Sub.trans (b := 15466495) rfl hM
  have b10547031 : Sub 10547031 msk := Sub.trans (b := 15466495) rfl hM
  have b11272191 : Sub 11272191 msk := Sub.trans (b := 15466495) rfl hM
  unfold State.dirTick
  with_reducible repeat' (first | assumption | apply State.dueTick_frame b11272191 | apply State.parkedTick_frame b10547031 | apply State.regionsTick_frame b10547031 | apply State.sendDelta_frame b6351104 | split | extract_lets)

theorem State.secondsTick_frame {s : State} (hM : Sub 65600 msk) (hF : Frame msk s0 s) : Frame msk s0 (State.secondsTick s) := by
  have b64 : Sub 64 msk := Sub.trans (b := 65600) rfl hM
  have b65536 : Sub 65536 msk := Sub.trans (b := 65600) rfl hM
  unfold State.secondsTick
  with_reducible repeat' (first | assumption | apply State.lifeAdd_frame b65536 | apply State.onMcx_frame b64 | refine foldl_frame ?_ ?_ | refine foldl_fst_frame ?_ ?_ | refine foldl_snd_frame ?_ ?_ | intro _ _ _ | intro _ _ | split | extract_lets)

theorem State.ageTick_frame {s : State} (hM : Sub 4 msk) (hF : Frame msk s0 s) : Frame msk s0 (State.ageTick s) := by
  have b4 : Sub 4 msk := Sub.trans (b := 4) rfl hM
  unfold State.ageTick
  with_reducible repeat' (first | assumption | apply State.onDir_frame b4 | split)

theorem State.latchTick_frame {s : State} (hM : Sub 1048576 msk) (hF : Frame msk s0 s) : Frame msk s0 (State.latchTick s) := by
  have b1048576 : Sub 1048576 msk := Sub.trans (b := 1048576) rfl hM
  unfold State.latchTick
  with_reducible repeat' (first | assumption | apply State.onLatched_frame b1048576 | split)

theorem State.dupTick_frame {s : State} (hM : Sub 1024 msk) (hF : Frame msk s0 s) : Frame msk s0 (State.dupTick s) := by
  have b1024 : Sub 1024 msk := Sub.trans (b := 1024) rfl hM
  unfold State.dupTick
  with_reducible repeat' (first | assumption | apply State.onTlk_frame b1024 | dsimp -zeta only | dsimp -zeta +zetaDelta only)

theorem State.countTick_frame {s : State} (hM : Sub 3239236 msk) (hF : Frame msk s0 s) : Frame msk s0 (State.countTick s) := by
  have b4 : Sub 4 msk := Sub.trans (b := 3239236) rfl hM
  have b1024 : Sub 1024 msk := Sub.trans (b := 3239236) rfl hM
  have b65536 : Sub 65536 msk := Sub.trans (b := 3239236) rfl hM
  have b65600 : Sub 65600 msk := Sub.trans (b := 3239236) rfl hM
  have b1048576 : Sub 1048576 msk := Sub.trans (b := 3239236) rfl hM
  have b2189568 : Sub 2189568 msk := Sub.trans (b := 3239236) rfl hM
  unfold State.countTick
  with_reducible repeat' (first | assumption | apply State.onGlb_frame b65536 | apply State.timeTick_frame b2189568 | apply State.secondsTick_frame b65600 | apply State.ageTick_frame b4 | apply State.latchTick_frame b1048576 | apply State.dupTick_frame b1024 | extract_lets)

theorem State.mcxTick_frame {s : State} (hM : Sub 8388672 msk) (hF : Frame msk s0 s) : Frame msk s0 (State.mcxTick s) := by
  have b64 : Sub 64 msk := Sub.trans (b := 8388672) rfl hM
  have b8388672 : Sub 8388672 msk := Sub.trans (b := 8388672) rfl hM
  unfold State.mcxTick
  with_reducible repeat' (first | assumption | apply State.tempTick_frame b64 | apply State.drainBanks_frame b8388672 | apply State.skewSample_frame b64 | apply State.errsTick_frame b8388672 | apply State.onMcx_frame b64)

theorem State.levelTick_frame {s : State} (hM : Sub 4096 msk) (hF : Frame msk s0 s) : Frame msk s0 (State.levelTick s) := by
  have b4096 : Sub 4096 msk := Sub.trans (b := 4096) rfl hM
  unfold State.levelTick
  with_reducible repeat' (first | assumption | apply State.onMtr_frame b4096 | dsimp -zeta only | dsimp -zeta +zetaDelta only)

theorem State.ownError_frame {s : State} {x : Nat × Nat × Nat × Nat × Nat} (hM : Sub 2158398 msk) (hF : Frame msk s0 s) : Frame msk s0 (State.ownError s x) := by
  have b8 : Sub 8 msk := Sub.trans (b := 2158398) rfl hM
  have b2124032 : Sub 2124032 msk := Sub.trans (b := 2158398) rfl hM
  have b2156860 : Sub 2156860 msk := Sub.trans (b := 2158398) rfl hM
  have b2158398 : Sub 2158398 msk := Sub.trans (b := 2158398) rfl hM
  unfold State.ownError
  with_reducible repeat' (first | assumption | apply State.raise_frame b2124032 | apply State.setXhub_frame b8 | apply State.stopJob_frame b2156860 | apply State.loseRegion_frame b2158398 | split | extract_lets | dsimp -zeta only | dsimp -zeta +zetaDelta only | refine frame_fst ?_ (by assumption) | refine frame_snd ?_ (by assumption))

theorem State.ownTick_frame {s : State} (hM : Sub 10547006 msk) (hF : Frame msk s0 s) : Frame msk s0 (State.ownTick s) := by
  have b2158398 : Sub 2158398 msk := Sub.trans (b := 10547006) rfl hM
  have b8388608 : Sub 8388608 msk := Sub.trans (b := 10547006) rfl hM
  unfold State.ownTick
  with_reducible repeat' (first | assumption | apply State.draw_frame b8388608 | apply State.ownError_frame b2158398 | refine foldl_frame ?_ ?_ | refine foldl_fst_frame ?_ ?_ | refine foldl_snd_frame ?_ ?_ | intro _ _ _ | intro _ _ | split | extract_lets | dsimp -zeta only | dsimp -zeta +zetaDelta only | refine frame_fst ?_ (by assumption) | refine frame_snd ?_ (by assumption))

theorem State.creditTick_frame {s : State} (hM : Sub 4096 msk) (hF : Frame msk s0 s) : Frame msk s0 (State.creditTick s) := by
  have b4096 : Sub 4096 msk := Sub.trans (b := 4096) rfl hM
  unfold State.creditTick
  with_reducible repeat' (first | assumption | apply State.onMtr_frame b4096)

theorem State.feedTick_frame {s : State} (hM : Sub 10545663 msk) (hF : Frame msk s0 s) : Frame msk s0 (State.feedTick s) := by
  have b16 : Sub 16 msk := Sub.trans (b := 10545663) rfl hM
  have b18 : Sub 18 msk := Sub.trans (b := 10545663) rfl hM
  have b144 : Sub 144 msk := Sub.trans (b := 10545663) rfl hM
  have b2124080 : Sub 2124080 msk := Sub.trans (b := 10545663) rfl hM
  have b2156860 : Sub 2156860 msk := Sub.trans (b := 10545663) rfl hM
  have b10545533 : Sub 10545533 msk := Sub.trans (b := 10545663) rfl hM
  unfold State.feedTick
  with_reducible repeat' (first | assumption | apply State.caskLay_frame b10545533 | apply State.expandLay_frame b10545533 | apply State.feedJob_frame b2156860 | apply State.feedStep_frame b2124080 | apply State.sweepFeed_frame b144 | apply State.rackFeeds_frame b18 | apply State.feedActs_frame b16 | refine foldl_frame ?_ ?_ | refine foldl_fst_frame ?_ ?_ | refine foldl_snd_frame ?_ ?_ | intro _ _ _ | intro _ _ | extract_lets)

theorem State.engTick_frame {s : State} (hM : Sub 10551295 msk) (hF : Frame msk s0 s) : Frame msk s0 (State.engTick s) := by
  have b16 : Sub 16 msk := Sub.trans (b := 10551295) rfl hM
  have b2156860 : Sub 2156860 msk := Sub.trans (b := 10551295) rfl hM
  have b10545663 : Sub 10545663 msk := Sub.trans (b := 10551295) rfl hM
  have b10551167 : Sub 10551167 msk := Sub.trans (b := 10551295) rfl hM
  unfold State.engTick
  with_reducible repeat' (first | assumption | apply State.testTick_frame b16 | apply State.moveQueues_frame b16 | apply State.stepsTick_frame b2156860 | apply State.feedTick_frame b10545663 | apply State.takeAll_frame b10551167 | extract_lets)

theorem State.signalFn_frame {s : State} {fn : Nat} (hM : Sub 11008 msk) (hF : Frame msk s0 s) : Frame msk s0 (State.signalFn s fn) := by
  have b256 : Sub 256 msk := Sub.trans (b := 11008) rfl hM
  have b10752 : Sub 10752 msk := Sub.trans (b := 11008) rfl hM
  unfold State.signalFn
  with_reducible repeat' (first | assumption | apply State.setIntake_frame b256 | apply State.msix_frame b10752 | split | extract_lets | dsimp -zeta only | dsimp -zeta +zetaDelta only)

theorem State.signalTick_frame {s : State} (hM : Sub 11008 msk) (hF : Frame msk s0 s) : Frame msk s0 (State.signalTick s) := by
  have b11008 : Sub 11008 msk := Sub.trans (b := 11008) rfl hM
  unfold State.signalTick
  with_reducible repeat' (first | assumption | apply State.signalFn_frame b11008 | refine foldl_frame ?_ ?_ | refine foldl_fst_frame ?_ ?_ | refine foldl_snd_frame ?_ ?_ | intro _ _ _ | intro _ _)

theorem State.msgTick_frame {s : State} (hM : Sub 2124032 msk) (hF : Frame msk s0 s) : Frame msk s0 (State.msgTick s) := by
  have b2124032 : Sub 2124032 msk := Sub.trans (b := 2124032) rfl hM
  unfold State.msgTick
  with_reducible repeat' (first | assumption | apply State.selectMsgPort_frame b2124032 | refine foldl_frame ?_ ?_ | refine foldl_fst_frame ?_ ?_ | refine foldl_snd_frame ?_ ?_ | intro _ _ _ | intro _ _)

theorem State.stallTick_frame {s : State} (hM : Sub 10485760 msk) (hF : Frame msk s0 s) : Frame msk s0 (State.stallTick s) := by
  have b2097152 : Sub 2097152 msk := Sub.trans (b := 10485760) rfl hM
  have b8388608 : Sub 8388608 msk := Sub.trans (b := 10485760) rfl hM
  unfold State.stallTick
  with_reducible repeat' (first | assumption | apply State.draw_frame b8388608 | apply State.onStats_frame b2097152 | refine foldl_frame ?_ ?_ | refine foldl_fst_frame ?_ ?_ | refine foldl_snd_frame ?_ ?_ | intro _ _ _ | intro _ _ | split | extract_lets | dsimp -zeta only | dsimp -zeta +zetaDelta only | refine frame_fst ?_ (by assumption) | refine frame_snd ?_ (by assumption))

theorem State.liveTick_frame {s : State} (hM : Sub 10551295 msk) (hF : Frame msk s0 s) : Frame msk s0 (State.liveTick s) := by
  have b4096 : Sub 4096 msk := Sub.trans (b := 10551295) rfl hM
  have b2124032 : Sub 2124032 msk := Sub.trans (b := 10551295) rfl hM
  have b2157498 : Sub 2157498 msk := Sub.trans (b := 10551295) rfl hM
  have b2158494 : Sub 2158494 msk := Sub.trans (b := 10551295) rfl hM
  have b8388672 : Sub 8388672 msk := Sub.trans (b := 10551295) rfl hM
  have b10485760 : Sub 10485760 msk := Sub.trans (b := 10551295) rfl hM
  have b10547006 : Sub 10547006 msk := Sub.trans (b := 10551295) rfl hM
  have b10547031 : Sub 10547031 msk := Sub.trans (b := 10551295) rfl hM
  have b10551295 : Sub 10551295 msk := Sub.trans (b := 10551295) rfl hM
  unfold State.liveTick
  with_reducible repeat' (first | assumption | apply State.creditTick_frame b4096 | apply State.gateTick_frame b10547031 | apply State.gateWaits_frame b2124032 | apply State.mcxTick_frame b8388672 | apply State.ownTick_frame b10547006 | apply State.engTick_frame b10551295 | apply State.levelTick_frame b4096 | apply State.msgTick_frame b2124032 | apply State.stallTick_frame b10485760 | apply State.flrTick_frame b2157498 | apply State.removalsTick_frame b2158494)

theorem State.tickBoundary_frame {s : State} (hM : Sub 16777215 msk) (hF : Frame msk s0 s) : Frame msk s0 (State.tickBoundary s) := by
  have b64 : Sub 64 msk := Sub.trans (b := 16777215) rfl hM
  have b11008 : Sub 11008 msk := Sub.trans (b := 16777215) rfl hM
  have b2124036 : Sub 2124036 msk := Sub.trans (b := 16777215) rfl hM
  have b2157498 : Sub 2157498 msk := Sub.trans (b := 16777215) rfl hM
  have b2183032 : Sub 2183032 msk := Sub.trans (b := 16777215) rfl hM
  have b2582864 : Sub 2582864 msk := Sub.trans (b := 16777215) rfl hM
  have b3239236 : Sub 3239236 msk := Sub.trans (b := 16777215) rfl hM
  have b10551295 : Sub 10551295 msk := Sub.trans (b := 16777215) rfl hM
  have b10612734 : Sub 10612734 msk := Sub.trans (b := 16777215) rfl hM
  have b15466495 : Sub 15466495 msk := Sub.trans (b := 16777215) rfl hM
  unfold State.tickBoundary
  with_reducible repeat' (first | assumption | apply State.countTick_frame b3239236 | apply State.stackTick_frame b10612734 | apply State.tempTick_frame b64 | apply State.writesTick_frame b2183032 | apply State.dirTick_frame b15466495 | apply State.pwrTick_frame b2582864 | apply State.liveTick_frame b10551295 | apply State.flrTick_frame b2157498 | apply State.signalTick_frame b11008 | apply State.lutikRound_frame b2124036 | split | extract_lets)

theorem State.idemExpire_frame {s : State} {agent : Nat} (hM : Sub 4 msk) (hF : Frame msk s0 s) : Frame msk s0 (State.idemExpire s agent) := by
  have b4 : Sub 4 msk := Sub.trans (b := 4) rfl hM
  unfold State.idemExpire
  with_reducible repeat' (first | assumption | apply State.setAgent_frame b4)

theorem State.jobExpire_frame {s : State} {agent : Nat} (hM : Sub 16 msk) (hF : Frame msk s0 s) : Frame msk s0 (State.jobExpire s agent) := by
  have b16 : Sub 16 msk := Sub.trans (b := 16) rfl hM
  unfold State.jobExpire
  with_reducible repeat' (first | assumption | apply State.onEng_frame b16 | extract_lets)

theorem State.decay_frame {s : State} (hM : Sub 12 msk) (hF : Frame msk s0 s) : Frame msk s0 (State.decay s) := by
  have b4 : Sub 4 msk := Sub.trans (b := 12) rfl hM
  have b8 : Sub 8 msk := Sub.trans (b := 12) rfl hM
  unfold State.decay
  with_reducible repeat' (first | assumption | apply State.onXlt_frame b8 | apply State.onDir_frame b4 | split | extract_lets)

theorem State.warmEnd_frame {s : State} (hM : Sub 8 msk) (hF : Frame msk s0 s) : Frame msk s0 (State.warmEnd s) := by
  have b8 : Sub 8 msk := Sub.trans (b := 8) rfl hM
  unfold State.warmEnd
  with_reducible repeat' (first | assumption | apply State.onXlt_frame b8 | split)

theorem State.ackTimer_frame {s : State} {p : Nat} (hM : Sub 6308864 msk) (hF : Frame msk s0 s) : Frame msk s0 (State.ackTimer s p) := by
  have b1024 : Sub 1024 msk := Sub.trans (b := 6308864) rfl hM
  have b6308864 : Sub 6308864 msk := Sub.trans (b := 6308864) rfl hM
  unfold State.ackTimer
  with_reducible repeat' (first | assumption | apply State.setPort_frame b1024 | apply State.sendAck_frame b6308864 | split | extract_lets)

theorem State.xoffRepeat_frame {s : State} {p v : Nat} (hM : Sub 6307840 msk) (hF : Frame msk s0 s) : Frame msk s0 (State.xoffRepeat s p v) := by
  have b6307840 : Sub 6307840 msk := Sub.trans (b := 6307840) rfl hM
  unfold State.xoffRepeat
  with_reducible repeat' (first | assumption | apply State.ctl_frame b6307840 | split | extract_lets)

theorem State.jtag_frame {s : State} {code : Nat} {on : Bool} (hM : Sub 16384 msk) (hF : Frame msk s0 s) : Frame msk s0 (State.jtag s code on) := by
  have b16384 : Sub 16384 msk := Sub.trans (b := 16384) rfl hM
  unfold State.jtag
  with_reducible repeat' (first | assumption | apply State.onFlt_frame b16384 | split | extract_lets | refine frame_fst ?_ (by assumption) | refine frame_snd ?_ (by assumption))

end Sys2Proof.Machine
end

