-- ==== Sys2Proof/Laws/FrameRows.lean ====
section
/-! SUPPORT. The frame of every operation of Machine/Rows.lean: which parts of the state it may change. -/

namespace Sys2Proof.Machine

variable {msk : Nat} {s0 : State}

theorem State.tilePrecheck_frame {s : State} {agent jobid : Nat} (hM : Sub 10545533 msk) (hF : Frame msk s0 s) : Frame msk s0 (State.tilePrecheck s agent jobid) := by
  have b10545533 : Sub 10545533 msk := Sub.trans (b := 10545533) rfl hM
  unfold State.tilePrecheck
  with_reducible repeat' (first | assumption | apply State.precheckStep_frame b10545533 | apply State.precheckJob_frame b10545533 | split | refine frame_fst ?_ (by assumption) | refine frame_snd ?_ (by assumption))

theorem State.wbComplete_frame {s : State} {i : Nat} (hM : Sub 10547031 msk) (hF : Frame msk s0 s) : Frame msk s0 (State.wbComplete s i) := by
  have b10547031 : Sub 10547031 msk := Sub.trans (b := 10547031) rfl hM
  unfold State.wbComplete
  with_reducible repeat' (first | assumption | apply State.wbDone_frame b10547031 | split | refine frame_fst ?_ (by assumption) | refine frame_snd ?_ (by assumption))

theorem State.cowComplete_frame {s : State} {i : Nat} (hM : Sub 10547031 msk) (hF : Frame msk s0 s) : Frame msk s0 (State.cowComplete s i) := by
  have b10547031 : Sub 10547031 msk := Sub.trans (b := 10547031) rfl hM
  unfold State.cowComplete
  with_reducible repeat' (first | assumption | apply State.cowDone_frame b10547031 | split)

end Sys2Proof.Machine
end

