-- ==== Sys2Proof/Laws/FrameCmdRows.lean ====
section
/-! SUPPORT. The frame of every operation of Machine/CmdRows.lean: which parts of the state it may change. -/

namespace Sys2Proof.Machine

variable {msk : Nat} {s0 : State}

theorem execHello_frame {fn : Nat} {p : Packet} {s : State} {t9 : State} (hM : Sub 2124036 msk) (e9 : (execHello fn p s) = .next t9) (hF : Frame msk s0 s) : Frame msk s0 t9 := by
  have b2124036 : Sub 2124036 msk := Sub.trans (b := 2124036) rfl hM
  unfold execHello at e9
  injection e9 with e9
  subst e9
  with_reducible repeat' (first | assumption | apply State.cmdRow_frame b2124036)

theorem execCaps_frame {fn : Nat} {p : Packet} {s : State} {t9 : State} (hM : Sub 2124036 msk) (e9 : (execCaps fn p s) = .next t9) (hF : Frame msk s0 s) : Frame msk s0 t9 := by
  have b2124036 : Sub 2124036 msk := Sub.trans (b := 2124036) rfl hM
  unfold execCaps at e9
  injection e9 with e9
  subst e9
  with_reducible repeat' (first | assumption | apply State.cmdRow_frame b2124036)

theorem execRegionCreate_frame {fn : Nat} {p : Packet} {s : State} {t9 : State} (hM : Sub 2124036 msk) (e9 : (execRegionCreate fn p s) = .next t9) (hF : Frame msk s0 s) : Frame msk s0 t9 := by
  have b2124036 : Sub 2124036 msk := Sub.trans (b := 2124036) rfl hM
  unfold execRegionCreate at e9
  injection e9 with e9
  subst e9
  with_reducible repeat' (first | assumption | apply State.cmdRow_frame b2124036)

theorem execRegionDestroy_frame {fn : Nat} {p : Packet} {s : State} {t9 : State} (hM : Sub 2124036 msk) (e9 : (execRegionDestroy fn p s) = .next t9) (hF : Frame msk s0 s) : Frame msk s0 t9 := by
  have b2124036 : Sub 2124036 msk := Sub.trans (b := 2124036) rfl hM
  unfold execRegionDestroy at e9
  injection e9 with e9
  subst e9
  with_reducible repeat' (first | assumption | apply State.cmdRow_frame b2124036)

theorem execBinAdd_frame {fn : Nat} {p : Packet} {s : State} {t9 : State} (hM : Sub 2124036 msk) (e9 : (execBinAdd fn p s) = .next t9) (hF : Frame msk s0 s) : Frame msk s0 t9 := by
  have b2124036 : Sub 2124036 msk := Sub.trans (b := 2124036) rfl hM
  unfold execBinAdd at e9
  injection e9 with e9
  subst e9
  with_reducible repeat' (first | assumption | apply State.cmdRow_frame b2124036)

theorem execBinRevoke_frame {fn : Nat} {p : Packet} {s : State} {t9 : State} (hM : Sub 2124036 msk) (e9 : (execBinRevoke fn p s) = .next t9) (hF : Frame msk s0 s) : Frame msk s0 t9 := by
  have b2124036 : Sub 2124036 msk := Sub.trans (b := 2124036) rfl hM
  unfold execBinRevoke at e9
  injection e9 with e9
  subst e9
  with_reducible repeat' (first | assumption | apply State.cmdRow_frame b2124036)

theorem execRegionAttach_frame {fn : Nat} {p : Packet} {s : State} {t9 : State} (hM : Sub 2124036 msk) (e9 : (execRegionAttach fn p s) = .next t9) (hF : Frame msk s0 s) : Frame msk s0 t9 := by
  have b2124036 : Sub 2124036 msk := Sub.trans (b := 2124036) rfl hM
  unfold execRegionAttach at e9
  injection e9 with e9
  subst e9
  with_reducible repeat' (first | assumption | apply State.cmdRow_frame b2124036)

theorem execRegionDetach_frame {fn : Nat} {p : Packet} {s : State} {t9 : State} (hM : Sub 2124036 msk) (e9 : (execRegionDetach fn p s) = .next t9) (hF : Frame msk s0 s) : Frame msk s0 t9 := by
  have b2124036 : Sub 2124036 msk := Sub.trans (b := 2124036) rfl hM
  unfold execRegionDetach at e9
  injection e9 with e9
  subst e9
  with_reducible repeat' (first | assumption | apply State.cmdRow_frame b2124036)

theorem execPublish_frame {fn : Nat} {p : Packet} {s : State} {t9 : State} (hM : Sub 2124036 msk) (e9 : (execPublish fn p s) = .next t9) (hF : Frame msk s0 s) : Frame msk s0 t9 := by
  have b2124036 : Sub 2124036 msk := Sub.trans (b := 2124036) rfl hM
  unfold execPublish at e9
  injection e9 with e9
  subst e9
  with_reducible repeat' (first | assumption | apply State.cmdRow_frame b2124036)

theorem execRegionInfo_frame {fn : Nat} {p : Packet} {s : State} {t9 : State} (hM : Sub 2124036 msk) (e9 : (execRegionInfo fn p s) = .next t9) (hF : Frame msk s0 s) : Frame msk s0 t9 := by
  have b2124036 : Sub 2124036 msk := Sub.trans (b := 2124036) rfl hM
  unfold execRegionInfo at e9
  injection e9 with e9
  subst e9
  with_reducible repeat' (first | assumption | apply State.cmdRow_frame b2124036)

theorem execMapUpdate_frame {fn : Nat} {p : Packet} {s : State} {t9 : State} (hM : Sub 2124036 msk) (e9 : (execMapUpdate fn p s) = .next t9) (hF : Frame msk s0 s) : Frame msk s0 t9 := by
  have b2124036 : Sub 2124036 msk := Sub.trans (b := 2124036) rfl hM
  unfold execMapUpdate at e9
  injection e9 with e9
  subst e9
  with_reducible repeat' (first | assumption | apply State.cmdRow_frame b2124036)

theorem execMapDigest_frame {fn : Nat} {p : Packet} {s : State} {t9 : State} (hM : Sub 2124036 msk) (e9 : (execMapDigest fn p s) = .next t9) (hF : Frame msk s0 s) : Frame msk s0 t9 := by
  have b2124036 : Sub 2124036 msk := Sub.trans (b := 2124036) rfl hM
  unfold execMapDigest at e9
  injection e9 with e9
  subst e9
  with_reducible repeat' (first | assumption | apply State.cmdRow_frame b2124036)

theorem execFaultResolve_frame {fn : Nat} {p : Packet} {s : State} {t9 : State} (hM : Sub 2124036 msk) (e9 : (execFaultResolve fn p s) = .next t9) (hF : Frame msk s0 s) : Frame msk s0 t9 := by
  have b2124036 : Sub 2124036 msk := Sub.trans (b := 2124036) rfl hM
  unfold execFaultResolve at e9
  injection e9 with e9
  subst e9
  with_reducible repeat' (first | assumption | apply State.cmdRow_frame b2124036)

theorem execJobSubmit_frame {fn : Nat} {p : Packet} {s : State} {t9 : State} (hM : Sub 2124036 msk) (e9 : (execJobSubmit fn p s) = .next t9) (hF : Frame msk s0 s) : Frame msk s0 t9 := by
  have b2124036 : Sub 2124036 msk := Sub.trans (b := 2124036) rfl hM
  unfold execJobSubmit at e9
  injection e9 with e9
  subst e9
  with_reducible repeat' (first | assumption | apply State.cmdRow_frame b2124036)

theorem execJobAbort_frame {fn : Nat} {p : Packet} {s : State} {t9 : State} (hM : Sub 2124036 msk) (e9 : (execJobAbort fn p s) = .next t9) (hF : Frame msk s0 s) : Frame msk s0 t9 := by
  have b2124036 : Sub 2124036 msk := Sub.trans (b := 2124036) rfl hM
  unfold execJobAbort at e9
  injection e9 with e9
  subst e9
  with_reducible repeat' (first | assumption | apply State.cmdRow_frame b2124036)

theorem execJobQuery_frame {fn : Nat} {p : Packet} {s : State} {t9 : State} (hM : Sub 2124036 msk) (e9 : (execJobQuery fn p s) = .next t9) (hF : Frame msk s0 s) : Frame msk s0 t9 := by
  have b2124036 : Sub 2124036 msk := Sub.trans (b := 2124036) rfl hM
  unfold execJobQuery at e9
  injection e9 with e9
  subst e9
  with_reducible repeat' (first | assumption | apply State.cmdRow_frame b2124036)

theorem execModelLoad_frame {fn : Nat} {p : Packet} {s : State} {t9 : State} (hM : Sub 2124036 msk) (e9 : (execModelLoad fn p s) = .next t9) (hF : Frame msk s0 s) : Frame msk s0 t9 := by
  have b2124036 : Sub 2124036 msk := Sub.trans (b := 2124036) rfl hM
  unfold execModelLoad at e9
  injection e9 with e9
  subst e9
  with_reducible repeat' (first | assumption | apply State.cmdRow_frame b2124036)

theorem execLayerPlace_frame {fn : Nat} {p : Packet} {s : State} {t9 : State} (hM : Sub 2124036 msk) (e9 : (execLayerPlace fn p s) = .next t9) (hF : Frame msk s0 s) : Frame msk s0 t9 := by
  have b2124036 : Sub 2124036 msk := Sub.trans (b := 2124036) rfl hM
  unfold execLayerPlace at e9
  injection e9 with e9
  subst e9
  with_reducible repeat' (first | assumption | apply State.cmdRow_frame b2124036)

theorem execModelUnload_frame {fn : Nat} {p : Packet} {s : State} {t9 : State} (hM : Sub 2124036 msk) (e9 : (execModelUnload fn p s) = .next t9) (hF : Frame msk s0 s) : Frame msk s0 t9 := by
  have b2124036 : Sub 2124036 msk := Sub.trans (b := 2124036) rfl hM
  unfold execModelUnload at e9
  injection e9 with e9
  subst e9
  with_reducible repeat' (first | assumption | apply State.cmdRow_frame b2124036)

theorem execModelUsers_frame {fn : Nat} {p : Packet} {s : State} {t9 : State} (hM : Sub 2124036 msk) (e9 : (execModelUsers fn p s) = .next t9) (hF : Frame msk s0 s) : Frame msk s0 t9 := by
  have b2124036 : Sub 2124036 msk := Sub.trans (b := 2124036) rfl hM
  unfold execModelUsers at e9
  injection e9 with e9
  subst e9
  with_reducible repeat' (first | assumption | apply State.cmdRow_frame b2124036)

theorem execDecodeStep_frame {fn : Nat} {p : Packet} {s : State} {t9 : State} (hM : Sub 2124036 msk) (e9 : (execDecodeStep fn p s) = .next t9) (hF : Frame msk s0 s) : Frame msk s0 t9 := by
  have b2124036 : Sub 2124036 msk := Sub.trans (b := 2124036) rfl hM
  unfold execDecodeStep at e9
  injection e9 with e9
  subst e9
  with_reducible repeat' (first | assumption | apply State.cmdRow_frame b2124036)

theorem execMeterSet_frame {fn : Nat} {p : Packet} {s : State} {t9 : State} (hM : Sub 2124036 msk) (e9 : (execMeterSet fn p s) = .next t9) (hF : Frame msk s0 s) : Frame msk s0 t9 := by
  have b2124036 : Sub 2124036 msk := Sub.trans (b := 2124036) rfl hM
  unfold execMeterSet at e9
  injection e9 with e9
  subst e9
  with_reducible repeat' (first | assumption | apply State.cmdRow_frame b2124036)

theorem execSchedSet_frame {fn : Nat} {p : Packet} {s : State} {t9 : State} (hM : Sub 2124036 msk) (e9 : (execSchedSet fn p s) = .next t9) (hF : Frame msk s0 s) : Frame msk s0 t9 := by
  have b2124036 : Sub 2124036 msk := Sub.trans (b := 2124036) rfl hM
  unfold execSchedSet at e9
  injection e9 with e9
  subst e9
  with_reducible repeat' (first | assumption | apply State.cmdRow_frame b2124036)

theorem execGateListLoad_frame {fn : Nat} {p : Packet} {s : State} {t9 : State} (hM : Sub 2124036 msk) (e9 : (execGateListLoad fn p s) = .next t9) (hF : Frame msk s0 s) : Frame msk s0 t9 := by
  have b2124036 : Sub 2124036 msk := Sub.trans (b := 2124036) rfl hM
  unfold execGateListLoad at e9
  injection e9 with e9
  subst e9
  with_reducible repeat' (first | assumption | apply State.cmdRow_frame b2124036)

theorem execTenantCreate_frame {fn : Nat} {p : Packet} {s : State} {t9 : State} (hM : Sub 2124036 msk) (e9 : (execTenantCreate fn p s) = .next t9) (hF : Frame msk s0 s) : Frame msk s0 t9 := by
  have b2124036 : Sub 2124036 msk := Sub.trans (b := 2124036) rfl hM
  unfold execTenantCreate at e9
  injection e9 with e9
  subst e9
  with_reducible repeat' (first | assumption | apply State.cmdRow_frame b2124036)

theorem execTenantRemove_frame {fn : Nat} {p : Packet} {s : State} {t9 : State} (hM : Sub 2124036 msk) (e9 : (execTenantRemove fn p s) = .next t9) (hF : Frame msk s0 s) : Frame msk s0 t9 := by
  have b2124036 : Sub 2124036 msk := Sub.trans (b := 2124036) rfl hM
  unfold execTenantRemove at e9
  injection e9 with e9
  subst e9
  with_reducible repeat' (first | assumption | apply State.cmdRow_frame b2124036)

theorem execKeyRotate_frame {fn : Nat} {p : Packet} {s : State} {t9 : State} (hM : Sub 2124036 msk) (e9 : (execKeyRotate fn p s) = .next t9) (hF : Frame msk s0 s) : Frame msk s0 t9 := by
  have b2124036 : Sub 2124036 msk := Sub.trans (b := 2124036) rfl hM
  unfold execKeyRotate at e9
  injection e9 with e9
  subst e9
  with_reducible repeat' (first | assumption | apply State.cmdRow_frame b2124036)

theorem execBindWeights_frame {fn : Nat} {p : Packet} {s : State} {t9 : State} (hM : Sub 2124036 msk) (e9 : (execBindWeights fn p s) = .next t9) (hF : Frame msk s0 s) : Frame msk s0 t9 := by
  have b2124036 : Sub 2124036 msk := Sub.trans (b := 2124036) rfl hM
  unfold execBindWeights at e9
  injection e9 with e9
  subst e9
  with_reducible repeat' (first | assumption | apply State.cmdRow_frame b2124036)

theorem execContractLoad_frame {fn : Nat} {p : Packet} {s : State} {t9 : State} (hM : Sub 2124036 msk) (e9 : (execContractLoad fn p s) = .next t9) (hF : Frame msk s0 s) : Frame msk s0 t9 := by
  have b2124036 : Sub 2124036 msk := Sub.trans (b := 2124036) rfl hM
  unfold execContractLoad at e9
  injection e9 with e9
  subst e9
  with_reducible repeat' (first | assumption | apply State.cmdRow_frame b2124036)

theorem execPowerRead_frame {fn : Nat} {p : Packet} {s : State} {t9 : State} (hM : Sub 2124036 msk) (e9 : (execPowerRead fn p s) = .next t9) (hF : Frame msk s0 s) : Frame msk s0 t9 := by
  have b2124036 : Sub 2124036 msk := Sub.trans (b := 2124036) rfl hM
  unfold execPowerRead at e9
  injection e9 with e9
  subst e9
  with_reducible repeat' (first | assumption | apply State.cmdRow_frame b2124036)

theorem execFaultRead_frame {fn : Nat} {p : Packet} {s : State} {t9 : State} (hM : Sub 2124036 msk) (e9 : (execFaultRead fn p s) = .next t9) (hF : Frame msk s0 s) : Frame msk s0 t9 := by
  have b2124036 : Sub 2124036 msk := Sub.trans (b := 2124036) rfl hM
  unfold execFaultRead at e9
  injection e9 with e9
  subst e9
  with_reducible repeat' (first | assumption | apply State.cmdRow_frame b2124036)

theorem execHistoryRead_frame {fn : Nat} {p : Packet} {s : State} {t9 : State} (hM : Sub 2124036 msk) (e9 : (execHistoryRead fn p s) = .next t9) (hF : Frame msk s0 s) : Frame msk s0 t9 := by
  have b2124036 : Sub 2124036 msk := Sub.trans (b := 2124036) rfl hM
  unfold execHistoryRead at e9
  injection e9 with e9
  subst e9
  with_reducible repeat' (first | assumption | apply State.cmdRow_frame b2124036)

theorem execFaultPinHold_frame {fn : Nat} {p : Packet} {s : State} {t9 : State} (hM : Sub 2124036 msk) (e9 : (execFaultPinHold fn p s) = .next t9) (hF : Frame msk s0 s) : Frame msk s0 t9 := by
  have b2124036 : Sub 2124036 msk := Sub.trans (b := 2124036) rfl hM
  unfold execFaultPinHold at e9
  injection e9 with e9
  subst e9
  with_reducible repeat' (first | assumption | apply State.cmdRow_frame b2124036)

theorem execRouteSet_frame {fn : Nat} {p : Packet} {s : State} {t9 : State} (hM : Sub 2124036 msk) (e9 : (execRouteSet fn p s) = .next t9) (hF : Frame msk s0 s) : Frame msk s0 t9 := by
  have b2124036 : Sub 2124036 msk := Sub.trans (b := 2124036) rfl hM
  unfold execRouteSet at e9
  injection e9 with e9
  subst e9
  with_reducible repeat' (first | assumption | apply State.cmdRow_frame b2124036)

theorem execMcastGroupSet_frame {fn : Nat} {p : Packet} {s : State} {t9 : State} (hM : Sub 2124036 msk) (e9 : (execMcastGroupSet fn p s) = .next t9) (hF : Frame msk s0 s) : Frame msk s0 t9 := by
  have b2124036 : Sub 2124036 msk := Sub.trans (b := 2124036) rfl hM
  unfold execMcastGroupSet at e9
  injection e9 with e9
  subst e9
  with_reducible repeat' (first | assumption | apply State.cmdRow_frame b2124036)

theorem execFuncBind_frame {fn : Nat} {p : Packet} {s : State} {t9 : State} (hM : Sub 2124036 msk) (e9 : (execFuncBind fn p s) = .next t9) (hF : Frame msk s0 s) : Frame msk s0 t9 := by
  have b2124036 : Sub 2124036 msk := Sub.trans (b := 2124036) rfl hM
  unfold execFuncBind at e9
  injection e9 with e9
  subst e9
  with_reducible repeat' (first | assumption | apply State.cmdRow_frame b2124036)

theorem execCommandShed_frame {fn : Nat} {s : State} {t9 : State} (hM : Sub 2124032 msk) (e9 : (execCommandShed fn s) = .next t9) (hF : Frame msk s0 s) : Frame msk s0 t9 := by
  have b2124032 : Sub 2124032 msk := Sub.trans (b := 2124032) rfl hM
  unfold execCommandShed at e9
  injection e9 with e9
  subst e9
  with_reducible repeat' (first | assumption | apply State.shed_frame b2124032)

theorem execAcceptedDeadline_frame {id : Nat} {s : State} {t9 : State} (hM : Sub 10496 msk) (e9 : (execAcceptedDeadline id s) = .next t9) (hF : Frame msk s0 s) : Frame msk s0 t9 := by
  have b10496 : Sub 10496 msk := Sub.trans (b := 10496) rfl hM
  unfold execAcceptedDeadline at e9
  injection e9 with e9
  subst e9
  with_reducible repeat' (first | assumption | apply State.acceptOpen_frame b10496)

theorem execCmdWord_frame {fn : Nat} {w : Word} {s : State} {tbit : Bool} {t9 : State} (hM : Sub 6318336 msk) (e9 : (execCmdWord fn w s tbit) = .next t9) (hF : Frame msk s0 s) : Frame msk s0 t9 := by
  have b6318336 : Sub 6318336 msk := Sub.trans (b := 6318336) rfl hM
  unfold execCmdWord at e9
  injection e9 with e9
  subst e9
  with_reducible repeat' (first | assumption | apply State.cmdWord_frame b6318336)

theorem execCmdLast_frame {fn : Nat} {w : Word} {s : State} {tbit : Bool} {t9 : State} (hM : Sub 6318336 msk) (e9 : (execCmdLast fn w s tbit) = .next t9) (hF : Frame msk s0 s) : Frame msk s0 t9 := by
  have b6318336 : Sub 6318336 msk := Sub.trans (b := 6318336) rfl hM
  unfold execCmdLast at e9
  injection e9 with e9
  subst e9
  with_reducible repeat' (first | assumption | apply State.cmdWord_frame b6318336)

theorem execCmdFlush_frame {fn : Nat} {s : State} {tbit : Bool} {t9 : State} (hM : Sub 6318336 msk) (e9 : (execCmdFlush fn s tbit) = .next t9) (hF : Frame msk s0 s) : Frame msk s0 t9 := by
  have b6318336 : Sub 6318336 msk := Sub.trans (b := 6318336) rfl hM
  unfold execCmdFlush at e9
  injection e9 with e9
  subst e9
  with_reducible repeat' (first | assumption | apply State.cmdFlush_frame b6318336)

theorem execBankSwap_frame {fn : Nat} {s : State} {t9 : State} (hM : Sub 256 msk) (e9 : (execBankSwap fn s) = .next t9) (hF : Frame msk s0 s) : Frame msk s0 t9 := by
  have b256 : Sub 256 msk := Sub.trans (b := 256) rfl hM
  unfold execBankSwap at e9
  injection e9 with e9
  subst e9
  with_reducible repeat' (first | assumption | apply State.bankSwap_frame b256)

theorem execCompletionBufferDrain_frame {fn : Nat} {s : State} {t9 : State} (hM : Sub 10496 msk) (e9 : (execCompletionBufferDrain fn s) = .next t9) (hF : Frame msk s0 s) : Frame msk s0 t9 := by
  have b10496 : Sub 10496 msk := Sub.trans (b := 10496) rfl hM
  unfold execCompletionBufferDrain at e9
  injection e9 with e9
  subst e9
  with_reducible repeat' (first | assumption | apply State.drainCpl_frame b10496)

theorem execEventBufferDrain_frame {fn : Nat} {s : State} {t9 : State} (hM : Sub 10496 msk) (e9 : (execEventBufferDrain fn s) = .next t9) (hF : Frame msk s0 s) : Frame msk s0 t9 := by
  have b10496 : Sub 10496 msk := Sub.trans (b := 10496) rfl hM
  unfold execEventBufferDrain at e9
  injection e9 with e9
  subst e9
  with_reducible repeat' (first | assumption | apply State.drainEvt_frame b10496)

theorem execResponseRingDrain_frame {fn : Nat} {s : State} {t9 : State} (hM : Sub 10752 msk) (e9 : (execResponseRingDrain fn s) = .next t9) (hF : Frame msk s0 s) : Frame msk s0 t9 := by
  have b10752 : Sub 10752 msk := Sub.trans (b := 10752) rfl hM
  unfold execResponseRingDrain at e9
  injection e9 with e9
  subst e9
  with_reducible repeat' (first | assumption | apply State.drainRing_frame b10752)

end Sys2Proof.Machine
end

