-- ==== Sys2Proof/Laws/FrameMsgRows.lean ====
section
/-! SUPPORT. The frame of every operation of Machine/MsgRows.lean: which parts of the state it may change. -/

namespace Sys2Proof.Machine

variable {msk : Nat} {s0 : State}

theorem execLoad_frame {via : Via} {r : DirReq} {s : State} {t9 : State} (hM : Sub 14745599 msk) (e9 : (execLoad via r s) = .next t9) (hF : Frame msk s0 s) : Frame msk s0 t9 := by
  have b14745599 : Sub 14745599 msk := Sub.trans (b := 14745599) rfl hM
  unfold execLoad at e9
  injection e9 with e9
  subst e9
  with_reducible repeat' (first | assumption | apply State.requestIn_frame b14745599)

theorem execStore_frame {via : Via} {r : DirReq} {s : State} {t9 : State} (hM : Sub 14745599 msk) (e9 : (execStore via r s) = .next t9) (hF : Frame msk s0 s) : Frame msk s0 t9 := by
  have b14745599 : Sub 14745599 msk := Sub.trans (b := 14745599) rfl hM
  unfold execStore at e9
  injection e9 with e9
  subst e9
  with_reducible repeat' (first | assumption | apply State.requestIn_frame b14745599)

theorem execAtomic_frame {via : Via} {r : DirReq} {s : State} {t9 : State} (hM : Sub 14745599 msk) (e9 : (execAtomic via r s) = .next t9) (hF : Frame msk s0 s) : Frame msk s0 t9 := by
  have b14745599 : Sub 14745599 msk := Sub.trans (b := 14745599) rfl hM
  unfold execAtomic at e9
  injection e9 with e9
  subst e9
  with_reducible repeat' (first | assumption | apply State.requestIn_frame b14745599)

theorem execSwapInShared_frame {via : Via} {r : DirReq} {s : State} {t9 : State} (hM : Sub 14745599 msk) (e9 : (execSwapInShared via r s) = .next t9) (hF : Frame msk s0 s) : Frame msk s0 t9 := by
  have b14745599 : Sub 14745599 msk := Sub.trans (b := 14745599) rfl hM
  unfold execSwapInShared at e9
  injection e9 with e9
  subst e9
  with_reducible repeat' (first | assumption | apply State.requestIn_frame b14745599)

theorem execSwapInHeld_frame {via : Via} {r : DirReq} {s : State} {t9 : State} (hM : Sub 14745599 msk) (e9 : (execSwapInHeld via r s) = .next t9) (hF : Frame msk s0 s) : Frame msk s0 t9 := by
  have b14745599 : Sub 14745599 msk := Sub.trans (b := 14745599) rfl hM
  unfold execSwapInHeld at e9
  injection e9 with e9
  subst e9
  with_reducible repeat' (first | assumption | apply State.requestIn_frame b14745599)

theorem execSwapOut_frame {via : Via} {r : DirReq} {s : State} {t9 : State} (hM : Sub 14745599 msk) (e9 : (execSwapOut via r s) = .next t9) (hF : Frame msk s0 s) : Frame msk s0 t9 := by
  have b14745599 : Sub 14745599 msk := Sub.trans (b := 14745599) rfl hM
  unfold execSwapOut at e9
  injection e9 with e9
  subst e9
  with_reducible repeat' (first | assumption | apply State.requestIn_frame b14745599)

theorem execRelease_frame {via : Via} {r : DirReq} {s : State} {t9 : State} (hM : Sub 14745599 msk) (e9 : (execRelease via r s) = .next t9) (hF : Frame msk s0 s) : Frame msk s0 t9 := by
  have b14745599 : Sub 14745599 msk := Sub.trans (b := 14745599) rfl hM
  unfold execRelease at e9
  injection e9 with e9
  subst e9
  with_reducible repeat' (first | assumption | apply State.requestIn_frame b14745599)

theorem execInvAck_frame {via : Via} {r : DirReq} {s : State} {t9 : State} (hM : Sub 14745599 msk) (e9 : (execInvAck via r s) = .next t9) (hF : Frame msk s0 s) : Frame msk s0 t9 := by
  have b14745599 : Sub 14745599 msk := Sub.trans (b := 14745599) rfl hM
  unfold execInvAck at e9
  injection e9 with e9
  subst e9
  with_reducible repeat' (first | assumption | apply State.requestIn_frame b14745599)

theorem execJobPacket_frame {port agent tid : Nat} {words : List Word} {s : State} {t9 : State} (hM : Sub 14745599 msk) (e9 : (execJobPacket port agent tid words s) = .next t9) (hF : Frame msk s0 s) : Frame msk s0 t9 := by
  have b14745599 : Sub 14745599 msk := Sub.trans (b := 14745599) rfl hM
  unfold execJobPacket at e9
  injection e9 with e9
  subst e9
  with_reducible repeat' (first | assumption | apply State.arrive_frame b14745599)

theorem execJobAbortPacket_frame {port agent tid : Nat} {words : List Word} {s : State} {t9 : State} (hM : Sub 14745599 msk) (e9 : (execJobAbortPacket port agent tid words s) = .next t9) (hF : Frame msk s0 s) : Frame msk s0 t9 := by
  have b14745599 : Sub 14745599 msk := Sub.trans (b := 14745599) rfl hM
  unfold execJobAbortPacket at e9
  injection e9 with e9
  subst e9
  with_reducible repeat' (first | assumption | apply State.arrive_frame b14745599)

theorem execStepPacket_frame {port agent tid : Nat} {words : List Word} {s : State} {t9 : State} (hM : Sub 14745599 msk) (e9 : (execStepPacket port agent tid words s) = .next t9) (hF : Frame msk s0 s) : Frame msk s0 t9 := by
  have b14745599 : Sub 14745599 msk := Sub.trans (b := 14745599) rfl hM
  unfold execStepPacket at e9
  injection e9 with e9
  subst e9
  with_reducible repeat' (first | assumption | apply State.arrive_frame b14745599)

theorem execMcpl_frame {port agent tag status : Nat} {data : List Byte} {s : State} {t9 : State} (hM : Sub 14745599 msk) (e9 : (execMcpl port agent tag status data s) = .next t9) (hF : Frame msk s0 s) : Frame msk s0 t9 := by
  have b14745599 : Sub 14745599 msk := Sub.trans (b := 14745599) rfl hM
  unfold execMcpl at e9
  injection e9 with e9
  subst e9
  with_reducible repeat' (first | assumption | apply State.arrive_frame b14745599)

theorem execBadPacketRx_frame {port : Nat} {flits : List Byte} {ctrl uncorrectable : Bool} {s : State} {t9 : State} (hM : Sub 14745599 msk) (e9 : (execBadPacketRx port flits ctrl uncorrectable s) = .next t9) (hF : Frame msk s0 s) : Frame msk s0 t9 := by
  have b14745599 : Sub 14745599 msk := Sub.trans (b := 14745599) rfl hM
  unfold execBadPacketRx at e9
  injection e9 with e9
  subst e9
  with_reducible repeat' (first | assumption | apply State.rawIn_frame b14745599)

theorem execAck_frame {port seq : Nat} {s : State} {t9 : State} (hM : Sub 2158364 msk) (e9 : (execAck port seq s) = .next t9) (hF : Frame msk s0 s) : Frame msk s0 t9 := by
  have b2158364 : Sub 2158364 msk := Sub.trans (b := 2158364) rfl hM
  unfold execAck at e9
  injection e9 with e9
  subst e9
  with_reducible repeat' (first | assumption | apply State.gotAck_frame b2158364)

theorem execNak_frame {port seq : Nat} {s : State} {t9 : State} (hM : Sub 2158364 msk) (e9 : (execNak port seq s) = .next t9) (hF : Frame msk s0 s) : Frame msk s0 t9 := by
  have b2158364 : Sub 2158364 msk := Sub.trans (b := 2158364) rfl hM
  unfold execNak at e9
  injection e9 with e9
  subst e9
  with_reducible repeat' (first | assumption | apply State.gotNak_frame b2158364)

theorem execXoff_frame {port mask : Nat} {s : State} {t9 : State} (hM : Sub 2114560 msk) (e9 : (execXoff port mask s) = .next t9) (hF : Frame msk s0 s) : Frame msk s0 t9 := by
  have b2114560 : Sub 2114560 msk := Sub.trans (b := 2114560) rfl hM
  unfold execXoff at e9
  injection e9 with e9
  subst e9
  with_reducible repeat' (first | assumption | apply State.gotXoff_frame b2114560)

theorem execXon_frame {port mask : Nat} {s : State} {t9 : State} (hM : Sub 2114560 msk) (e9 : (execXon port mask s) = .next t9) (hF : Frame msk s0 s) : Frame msk s0 t9 := by
  have b2114560 : Sub 2114560 msk := Sub.trans (b := 2114560) rfl hM
  unfold execXon at e9
  injection e9 with e9
  subst e9
  with_reducible repeat' (first | assumption | apply State.gotXon_frame b2114560)

theorem execAckTimer_frame {port : Nat} {s : State} {t9 : State} (hM : Sub 6308864 msk) (e9 : (execAckTimer port s) = .next t9) (hF : Frame msk s0 s) : Frame msk s0 t9 := by
  have b6308864 : Sub 6308864 msk := Sub.trans (b := 6308864) rfl hM
  unfold execAckTimer at e9
  injection e9 with e9
  subst e9
  with_reducible repeat' (first | assumption | apply State.ackTimer_frame b6308864)

theorem execReplayTimer_frame {port : Nat} {s : State} {t9 : State} (hM : Sub 2158364 msk) (e9 : (execReplayTimer port s) = .next t9) (hF : Frame msk s0 s) : Frame msk s0 t9 := by
  have b2158364 : Sub 2158364 msk := Sub.trans (b := 2158364) rfl hM
  unfold execReplayTimer at e9
  injection e9 with e9
  subst e9
  with_reducible repeat' (first | assumption | apply State.replayExpiry_frame b2158364)

theorem execXoffRepeat_frame {port vc : Nat} {s : State} {t9 : State} (hM : Sub 6307840 msk) (e9 : (execXoffRepeat port vc s) = .next t9) (hF : Frame msk s0 s) : Frame msk s0 t9 := by
  have b6307840 : Sub 6307840 msk := Sub.trans (b := 6307840) rfl hM
  unfold execXoffRepeat at e9
  injection e9 with e9
  subst e9
  with_reducible repeat' (first | assumption | apply State.xoffRepeat_frame b6307840)

theorem execXoffTimeout_frame {port vc : Nat} {s : State} {t9 : State} (hM : Sub 2158364 msk) (e9 : (execXoffTimeout port vc s) = .next t9) (hF : Frame msk s0 s) : Frame msk s0 t9 := by
  have b2158364 : Sub 2158364 msk := Sub.trans (b := 2158364) rfl hM
  unfold execXoffTimeout at e9
  injection e9 with e9
  subst e9
  with_reducible repeat' (first | assumption | apply State.xoffTimeout_frame b2158364)

theorem execPartnerTrainingSignal_frame {port : Nat} {s : State} {t9 : State} (hM : Sub 1024 msk) (e9 : (execPartnerTrainingSignal port s) = .next t9) (hF : Frame msk s0 s) : Frame msk s0 t9 := by
  have b1024 : Sub 1024 msk := Sub.trans (b := 1024) rfl hM
  unfold execPartnerTrainingSignal at e9
  injection e9 with e9
  subst e9
  with_reducible repeat' (first | assumption | apply State.trainStart_frame b1024)

theorem execTrainingComplete_frame {port versions : Nat} {trips : List Nat} {peerEnc peerReq peerKeys : Bool} {ctr0 ctr1 : Nat} {s : State} {stamps : List Nat} {t9 : State} (hM : Sub 14741404 msk) (e9 : (execTrainingComplete port versions trips peerEnc peerReq peerKeys ctr0 ctr1 s stamps) = .next t9) (hF : Frame msk s0 s) : Frame msk s0 t9 := by
  have b14741404 : Sub 14741404 msk := Sub.trans (b := 14741404) rfl hM
  unfold execTrainingComplete at e9
  injection e9 with e9
  subst e9
  with_reducible repeat' (first | assumption | apply State.trainEnd_frame b14741404)

theorem execTrainingTimeout_frame {port cause : Nat} {s : State} {t9 : State} (hM : Sub 1024 msk) (e9 : (execTrainingTimeout port cause s) = .next t9) (hF : Frame msk s0 s) : Frame msk s0 t9 := by
  have b1024 : Sub 1024 msk := Sub.trans (b := 1024) rfl hM
  unfold execTrainingTimeout at e9
  injection e9 with e9
  subst e9
  with_reducible repeat' (first | assumption | apply State.trainFail_frame b1024)

theorem execRetrainAttemptFail_frame {port cause : Nat} {s : State} {t9 : State} (hM : Sub 2125056 msk) (e9 : (execRetrainAttemptFail port cause s) = .next t9) (hF : Frame msk s0 s) : Frame msk s0 t9 := by
  have b2125056 : Sub 2125056 msk := Sub.trans (b := 2125056) rfl hM
  unfold execRetrainAttemptFail at e9
  injection e9 with e9
  subst e9
  with_reducible repeat' (first | assumption | apply State.retrainFail_frame b2125056)

theorem execLinkBreak_frame {port cause : Nat} {s : State} {t9 : State} (hM : Sub 2158364 msk) (e9 : (execLinkBreak port cause s) = .next t9) (hF : Frame msk s0 s) : Frame msk s0 t9 := by
  have b2158364 : Sub 2158364 msk := Sub.trans (b := 2158364) rfl hM
  unfold execLinkBreak at e9
  injection e9 with e9
  subst e9
  with_reducible repeat' (first | assumption | apply State.breakLink_frame b2158364 | split)

theorem execGateEntryExpiry_frame {port : Nat} {s : State} {t9 : State} (hM : Sub 8192 msk) (e9 : (execGateEntryExpiry port s) = .next t9) (hF : Frame msk s0 s) : Frame msk s0 t9 := by
  have b8192 : Sub 8192 msk := Sub.trans (b := 8192) rfl hM
  unfold execGateEntryExpiry at e9
  injection e9 with e9
  subst e9
  with_reducible repeat' (first | assumption | apply State.gateExpiry_frame b8192)

theorem execPacketStart_frame {port : Nat} {s : State} {link : Nat} {t9 : State} (hM : Sub 6319232 msk) (e9 : (execPacketStart port s link) = .next t9) (hF : Frame msk s0 s) : Frame msk s0 t9 := by
  have b6319232 : Sub 6319232 msk := Sub.trans (b := 6319232) rfl hM
  unfold execPacketStart at e9
  injection e9 with e9
  subst e9
  with_reducible repeat' (first | assumption | apply State.packetStart_frame b6319232)

end Sys2Proof.Machine
end

