-- ==== Sys2Proof/Laws/FrameHostRows.lean ====
section
/-! SUPPORT. The frame of every operation of Machine/HostRows.lean: which parts of the state it may change. -/

namespace Sys2Proof.Machine

variable {msk : Nat} {s0 : State}

theorem execBar4Read_frame {fn off len id : Nat} {tbit : Bool} {s : State} {t9 : State} (hM : Sub 10551135 msk) (e9 : (execBar4Read fn off len id tbit s) = .next t9) (hF : Frame msk s0 s) : Frame msk s0 t9 := by
  have b10551135 : Sub 10551135 msk := Sub.trans (b := 10551135) rfl hM
  unfold execBar4Read at e9
  injection e9 with e9
  subst e9
  with_reducible repeat' (first | assumption | apply State.barRead_frame b10551135)

theorem execBar4Write_frame {fn off : Nat} {data : List Byte} {tbit : Bool} {s : State} {t9 : State} (hM : Sub 10551135 msk) (e9 : (execBar4Write fn off data tbit s) = .next t9) (hF : Frame msk s0 s) : Frame msk s0 t9 := by
  have b10551135 : Sub 10551135 msk := Sub.trans (b := 10551135) rfl hM
  unfold execBar4Write at e9
  injection e9 with e9
  subst e9
  with_reducible repeat' (first | assumption | apply State.barWrite_frame b10551135)

theorem execBar4Atomicop_frame {fn off op width id : Nat} {operands : List Byte} {tbit : Bool} {s : State} {t9 : State} (hM : Sub 10551135 msk) (e9 : (execBar4Atomicop fn off op width id operands tbit s) = .next t9) (hF : Frame msk s0 s) : Frame msk s0 t9 := by
  have b10551135 : Sub 10551135 msk := Sub.trans (b := 10551135) rfl hM
  unfold execBar4Atomicop at e9
  injection e9 with e9
  subst e9
  with_reducible repeat' (first | assumption | apply State.barAtomic_frame b10551135)

theorem execWinWaitTimeout_frame {fn id : Nat} {s : State} {t9 : State} (hM : Sub 2124548 msk) (e9 : (execWinWaitTimeout fn id s) = .next t9) (hF : Frame msk s0 s) : Frame msk s0 t9 := by
  have b2124548 : Sub 2124548 msk := Sub.trans (b := 2124548) rfl hM
  unfold execWinWaitTimeout at e9
  injection e9 with e9
  subst e9
  with_reducible repeat' (first | assumption | apply State.winTimeout_frame b2124548)

theorem execReadCompletionTimeout_frame {tag : Nat} {s : State} {t9 : State} (hM : Sub 2158484 msk) (e9 : (execReadCompletionTimeout tag s) = .next t9) (hF : Frame msk s0 s) : Frame msk s0 t9 := by
  have b2158484 : Sub 2158484 msk := Sub.trans (b := 2158484) rfl hM
  unfold execReadCompletionTimeout at e9
  injection e9 with e9
  subst e9
  with_reducible repeat' (first | assumption | apply State.readTimeout_frame b2158484)

theorem execFlr_frame {fn : Nat} {s : State} {t9 : State} (hM : Sub 2124564 msk) (e9 : (execFlr fn s) = .next t9) (hF : Frame msk s0 s) : Frame msk s0 t9 := by
  have b2124564 : Sub 2124564 msk := Sub.trans (b := 2124564) rfl hM
  unfold execFlr at e9
  injection e9 with e9
  subst e9
  with_reducible repeat' (first | assumption | apply State.flr_frame b2124564)

theorem execPerstNAssert_frame {port : Nat} {s : State} {t9 : State} (hM : Sub 2420508 msk) (e9 : (execPerstNAssert port s) = .next t9) (hF : Frame msk s0 s) : Frame msk s0 t9 := by
  have b2420508 : Sub 2420508 msk := Sub.trans (b := 2420508) rfl hM
  unfold execPerstNAssert at e9
  injection e9 with e9
  subst e9
  with_reducible repeat' (first | assumption | apply State.perstLow_frame b2420508)

theorem execPerstNRelease_frame {port : Nat} {s : State} {t9 : State} (hM : Sub 262656 msk) (e9 : (execPerstNRelease port s) = .next t9) (hF : Frame msk s0 s) : Frame msk s0 t9 := by
  have b262656 : Sub 262656 msk := Sub.trans (b := 262656) rfl hM
  unfold execPerstNRelease at e9
  injection e9 with e9
  subst e9
  with_reducible repeat' (first | assumption | apply State.perstHigh_frame b262656)

theorem execHostLinkDown_frame {l : Nat} {s : State} {t9 : State} (hM : Sub 2158364 msk) (e9 : (execHostLinkDown l s) = .next t9) (hF : Frame msk s0 s) : Frame msk s0 t9 := by
  have b2158364 : Sub 2158364 msk := Sub.trans (b := 2158364) rfl hM
  unfold execHostLinkDown at e9
  injection e9 with e9
  subst e9
  with_reducible repeat' (first | assumption | apply State.hostDown_frame b2158364)

theorem execIdeIntegrityFail_frame {l stream : Nat} {s : State} {t9 : State} (hM : Sub 2158364 msk) (e9 : (execIdeIntegrityFail l stream s) = .next t9) (hF : Frame msk s0 s) : Frame msk s0 t9 := by
  have b2158364 : Sub 2158364 msk := Sub.trans (b := 2158364) rfl hM
  unfold execIdeIntegrityFail at e9
  injection e9 with e9
  subst e9
  with_reducible repeat' (first | assumption | apply State.ideFail_frame b2158364)

theorem execLockInterface_frame {fn : Nat} {s : State} {t9 : State} (hM : Sub 512 msk) (e9 : (execLockInterface fn s) = .next t9) (hF : Frame msk s0 s) : Frame msk s0 t9 := by
  have b512 : Sub 512 msk := Sub.trans (b := 512) rfl hM
  unfold execLockInterface at e9
  injection e9 with e9
  subst e9
  with_reducible repeat' (first | assumption | apply State.lockTdi_frame b512)

theorem execStartInterface_frame {fn : Nat} {s : State} {t9 : State} (hM : Sub 512 msk) (e9 : (execStartInterface fn s) = .next t9) (hF : Frame msk s0 s) : Frame msk s0 t9 := by
  have b512 : Sub 512 msk := Sub.trans (b := 512) rfl hM
  unfold execStartInterface at e9
  injection e9 with e9
  subst e9
  with_reducible repeat' (first | assumption | apply State.startTdi_frame b512)

theorem execStopInterface_frame {fn : Nat} {s : State} {t9 : State} (hM : Sub 2158364 msk) (e9 : (execStopInterface fn s) = .next t9) (hF : Frame msk s0 s) : Frame msk s0 t9 := by
  have b2158364 : Sub 2158364 msk := Sub.trans (b := 2158364) rfl hM
  unfold execStopInterface at e9
  injection e9 with e9
  subst e9
  with_reducible repeat' (first | assumption | apply State.stopTdi_frame b2158364)

theorem execLockedConfigWrite_frame {fn : Nat} {s : State} {t9 : State} (hM : Sub 2158364 msk) (e9 : (execLockedConfigWrite fn s) = .next t9) (hF : Frame msk s0 s) : Frame msk s0 t9 := by
  have b2158364 : Sub 2158364 msk := Sub.trans (b := 2158364) rfl hM
  unfold execLockedConfigWrite at e9
  injection e9 with e9
  subst e9
  with_reducible repeat' (first | assumption | apply State.tdiError_frame b2158364)

theorem execSpdmGetMeasurements_frame {link : Nat} {req : List Byte} {s : State} {t9 : State} (hM : Sub 4194432 msk) (e9 : (execSpdmGetMeasurements link req s) = .next t9) (hF : Frame msk s0 s) : Frame msk s0 t9 := by
  have b4194432 : Sub 4194432 msk := Sub.trans (b := 4194432) rfl hM
  unfold execSpdmGetMeasurements at e9
  injection e9 with e9
  subst e9
  with_reducible repeat' (first | assumption | apply State.getMeasurements_frame b4194432)

theorem execPqSign_frame {link : Nat} {req : List Byte} {s : State} {t9 : State} (hM : Sub 6318464 msk) (e9 : (execPqSign link req s) = .next t9) (hF : Frame msk s0 s) : Frame msk s0 t9 := by
  have b6318464 : Sub 6318464 msk := Sub.trans (b := 6318464) rfl hM
  unfold execPqSign at e9
  injection e9 with e9
  subst e9
  with_reducible repeat' (first | assumption | apply State.pqSign_frame b6318464)

theorem execPqCert_frame {link offset len : Nat} {s : State} {t9 : State} (hM : Sub 4194432 msk) (e9 : (execPqCert link offset len s) = .next t9) (hF : Frame msk s0 s) : Frame msk s0 t9 := by
  have b4194432 : Sub 4194432 msk := Sub.trans (b := 4194432) rfl hM
  unfold execPqCert at e9
  injection e9 with e9
  subst e9
  with_reducible repeat' (first | assumption | apply State.pqCert_frame b4194432)

theorem execTlkKeyProg_frame {link port dir num : Nat} {key : List Byte} {salt : Nat} {s : State} {t9 : State} (hM : Sub 6318464 msk) (e9 : (execTlkKeyProg link port dir num key salt s) = .next t9) (hF : Frame msk s0 s) : Frame msk s0 t9 := by
  have b6318464 : Sub 6318464 msk := Sub.trans (b := 6318464) rfl hM
  unfold execTlkKeyProg at e9
  injection e9 with e9
  subst e9
  with_reducible repeat' (first | assumption | apply State.keyProg_frame b6318464)

theorem execTlkKeyGo_frame {link port num : Nat} {s : State} {t9 : State} (hM : Sub 6318464 msk) (e9 : (execTlkKeyGo link port num s) = .next t9) (hF : Frame msk s0 s) : Frame msk s0 t9 := by
  have b6318464 : Sub 6318464 msk := Sub.trans (b := 6318464) rfl hM
  unfold execTlkKeyGo at e9
  injection e9 with e9
  subst e9
  with_reducible repeat' (first | assumption | apply State.keyGo_frame b6318464)

theorem execHostLinkUp_frame {l rate width : Nat} {s : State} {flit : Bool} {t9 : State} (hM : Sub 2158364 msk) (e9 : (execHostLinkUp l rate width s flit) = .next t9) (hF : Frame msk s0 s) : Frame msk s0 t9 := by
  have b2158364 : Sub 2158364 msk := Sub.trans (b := 2158364) rfl hM
  unfold execHostLinkUp at e9
  injection e9 with e9
  subst e9
  with_reducible repeat' (first | assumption | apply State.hostUp_frame b2158364)

theorem execConfigWrite_frame {fn kind v : Nat} {s : State} {t9 : State} (hM : Sub 2158364 msk) (e9 : (execConfigWrite fn kind v s) = .next t9) (hF : Frame msk s0 s) : Frame msk s0 t9 := by
  have b2158364 : Sub 2158364 msk := Sub.trans (b := 2158364) rfl hM
  unfold execConfigWrite at e9
  injection e9 with e9
  subst e9
  with_reducible repeat' (first | assumption | apply State.configWrite_frame b2158364)

theorem execReadCompletion_frame {tag status : Nat} {data : List Byte} {s : State} {t9 : State} (hM : Sub 10547159 msk) (e9 : (execReadCompletion tag status data s) = .next t9) (hF : Frame msk s0 s) : Frame msk s0 t9 := by
  have b10547159 : Sub 10547159 msk := Sub.trans (b := 10547159) rfl hM
  unfold execReadCompletion at e9
  injection e9 with e9
  subst e9
  with_reducible repeat' (first | assumption | apply State.readCompletion_frame b10547159 | extract_lets)

theorem execSpdmRequest_frame {link code : Nat} {req : List Byte} {s : State} {t9 : State} (hM : Sub 6318464 msk) (e9 : (execSpdmRequest link code req s) = .next t9) (hF : Frame msk s0 s) : Frame msk s0 t9 := by
  have b6318464 : Sub 6318464 msk := Sub.trans (b := 6318464) rfl hM
  unfold execSpdmRequest at e9
  injection e9 with e9
  subst e9
  with_reducible repeat' (first | assumption | apply State.spdmRequest_frame b6318464)

theorem execIdeKmKeyProg_frame {l stream fn : Nat} {s : State} {t9 : State} (hM : Sub 512 msk) (e9 : (execIdeKmKeyProg l stream fn s) = .next t9) (hF : Frame msk s0 s) : Frame msk s0 t9 := by
  have b512 : Sub 512 msk := Sub.trans (b := 512) rfl hM
  unfold execIdeKmKeyProg at e9
  injection e9 with e9
  subst e9
  with_reducible repeat' (first | assumption | apply State.ideKey_frame b512)

end Sys2Proof.Machine
end

