-- ==== Sys2Proof/Laws/FrameRegRows.lean ====
section
/-! SUPPORT. The frame of every operation of Machine/RegRows.lean: which parts of the state it may change. -/

namespace Sys2Proof.Machine

variable {msk : Nat} {s0 : State}

theorem execTlkTrain_frame {fn port : Nat} {s : State} {t9 : State} (hM : Sub 1024 msk) (e9 : (execTlkTrain fn port s) = .next t9) (hF : Frame msk s0 s) : Frame msk s0 t9 := by
  have b1024 : Sub 1024 msk := Sub.trans (b := 1024) rfl hM
  unfold execTlkTrain at e9
  injection e9 with e9
  subst e9
  with_reducible repeat' (first | assumption | apply State.trainStart_frame b1024 | split)

theorem execTlkRetrain_frame {fn port : Nat} {s : State} {t9 : State} (hM : Sub 2158364 msk) (e9 : (execTlkRetrain fn port s) = .next t9) (hF : Frame msk s0 s) : Frame msk s0 t9 := by
  have b2158364 : Sub 2158364 msk := Sub.trans (b := 2158364) rfl hM
  unfold execTlkRetrain at e9
  injection e9 with e9
  subst e9
  with_reducible repeat' (first | assumption | apply State.breakLink_frame b2158364 | split)

theorem execTlkDisableSet_frame {fn port : Nat} {s : State} {t9 : State} (hM : Sub 2158364 msk) (e9 : (execTlkDisableSet fn port s) = .next t9) (hF : Frame msk s0 s) : Frame msk s0 t9 := by
  have b2158364 : Sub 2158364 msk := Sub.trans (b := 2158364) rfl hM
  unfold execTlkDisableSet at e9
  injection e9 with e9
  subst e9
  with_reducible repeat' (first | assumption | apply State.portDisable_frame b2158364 | split)

theorem execTlkDisableClear_frame {fn port : Nat} {s : State} {t9 : State} (hM : Sub 1024 msk) (e9 : (execTlkDisableClear fn port s) = .next t9) (hF : Frame msk s0 s) : Frame msk s0 t9 := by
  have b1024 : Sub 1024 msk := Sub.trans (b := 1024) rfl hM
  unfold execTlkDisableClear at e9
  injection e9 with e9
  subst e9
  with_reducible repeat' (first | assumption | apply State.portEnable_frame b1024 | split)

theorem execTrtFreeze_frame {fn : Nat} {s : State} {t9 : State} (hM : Sub 2048 msk) (e9 : (execTrtFreeze fn s) = .next t9) (hF : Frame msk s0 s) : Frame msk s0 t9 := by
  have b2048 : Sub 2048 msk := Sub.trans (b := 2048) rfl hM
  unfold execTrtFreeze at e9
  injection e9 with e9
  subst e9
  with_reducible repeat' (first | assumption | apply State.snapWrite_frame b2048 | split)

theorem execTrtRelease_frame {fn : Nat} {s : State} {t9 : State} (hM : Sub 2048 msk) (e9 : (execTrtRelease fn s) = .next t9) (hF : Frame msk s0 s) : Frame msk s0 t9 := by
  have b2048 : Sub 2048 msk := Sub.trans (b := 2048) rfl hM
  unfold execTrtRelease at e9
  injection e9 with e9
  subst e9
  with_reducible repeat' (first | assumption | apply State.snapWrite_frame b2048 | split)

theorem execTrtPeakClr_frame {fn ports : Nat} {s : State} {t9 : State} (hM : Sub 2048 msk) (e9 : (execTrtPeakClr fn ports s) = .next t9) (hF : Frame msk s0 s) : Frame msk s0 t9 := by
  have b2048 : Sub 2048 msk := Sub.trans (b := 2048) rfl hM
  unfold execTrtPeakClr at e9
  injection e9 with e9
  subst e9
  with_reducible repeat' (first | assumption | apply State.peakClear_frame b2048 | split)

theorem execEngOffline_frame {fn engine : Nat} {s : State} {t9 : State} (hM : Sub 16 msk) (e9 : (execEngOffline fn engine s) = .next t9) (hF : Frame msk s0 s) : Frame msk s0 t9 := by
  have b16 : Sub 16 msk := Sub.trans (b := 16) rfl hM
  unfold execEngOffline at e9
  injection e9 with e9
  subst e9
  with_reducible repeat' (first | assumption | apply State.engOffline_frame b16)

theorem execEngineReset_frame {fn engine : Nat} {s : State} {t9 : State} (hM : Sub 16 msk) (e9 : (execEngineReset fn engine s) = .next t9) (hF : Frame msk s0 s) : Frame msk s0 t9 := by
  have b16 : Sub 16 msk := Sub.trans (b := 16) rfl hM
  unfold execEngineReset at e9
  injection e9 with e9
  subst e9
  with_reducible repeat' (first | assumption | apply State.engReset_frame b16)

theorem execEngineSelfTestEnd_frame {engine : Nat} {pass : Bool} {s : State} {t9 : State} (hM : Sub 16 msk) (e9 : (execEngineSelfTestEnd engine pass s) = .next t9) (hF : Frame msk s0 s) : Frame msk s0 t9 := by
  have b16 : Sub 16 msk := Sub.trans (b := 16) rfl hM
  unfold execEngineSelfTestEnd at e9
  injection e9 with e9
  subst e9
  with_reducible repeat' (first | assumption | apply State.selfTestEnd_frame b16)

theorem execGlbTimeSet_frame {fn : Nat} {up : Word} {s : State} {t9 : State} (hM : Sub 65536 msk) (e9 : (execGlbTimeSet fn up s) = .next t9) (hF : Frame msk s0 s) : Frame msk s0 t9 := by
  have b65536 : Sub 65536 msk := Sub.trans (b := 65536) rfl hM
  unfold execGlbTimeSet at e9
  injection e9 with e9
  subst e9
  with_reducible repeat' (first | assumption | apply State.timeSet_frame b65536 | split)

theorem execGlbLifeSel_frame {fn : Nat} {v : Word} {s : State} {t9 : State} (hM : Sub 2189568 msk) (e9 : (execGlbLifeSel fn v s) = .next t9) (hF : Frame msk s0 s) : Frame msk s0 t9 := by
  have b2189568 : Sub 2189568 msk := Sub.trans (b := 2189568) rfl hM
  unfold execGlbLifeSel at e9
  injection e9 with e9
  subst e9
  with_reducible repeat' (first | assumption | apply State.lifeSelect_frame b2189568 | split)

theorem execDirEntrySel_frame {fn : Nat} {v : Word} {s : State} {t9 : State} (hM : Sub 4 msk) (e9 : (execDirEntrySel fn v s) = .next t9) (hF : Frame msk s0 s) : Frame msk s0 t9 := by
  have b4 : Sub 4 msk := Sub.trans (b := 4) rfl hM
  unfold execDirEntrySel at e9
  injection e9 with e9
  subst e9
  with_reducible repeat' (first | assumption | apply State.dirSelect_frame b4 | split)

theorem execOwnerFnWrite_frame {fn agent owner : Nat} {s : State} {t9 : State} (hM : Sub 12 msk) (e9 : (execOwnerFnWrite fn agent owner s) = .next t9) (hF : Frame msk s0 s) : Frame msk s0 t9 := by
  have b12 : Sub 12 msk := Sub.trans (b := 12) rfl hM
  unfold execOwnerFnWrite at e9
  injection e9 with e9
  subst e9
  with_reducible repeat' (first | assumption | apply State.ownerWrite_frame b12 | split)

theorem execFaultStatusClear_frame {fn block inst : Nat} {v : Word} {s : State} {t9 : State} (hM : Sub 16384 msk) (e9 : (execFaultStatusClear fn block inst v s) = .next t9) (hF : Frame msk s0 s) : Frame msk s0 t9 := by
  have b16384 : Sub 16384 msk := Sub.trans (b := 16384) rfl hM
  unfold execFaultStatusClear at e9
  injection e9 with e9
  subst e9
  with_reducible repeat' (first | assumption | apply State.statusClear_frame b16384 | split)

theorem execFltOvfClear_frame {fn block w : Nat} {v : Word} {s : State} {t9 : State} (hM : Sub 16384 msk) (e9 : (execFltOvfClear fn block w v s) = .next t9) (hF : Frame msk s0 s) : Frame msk s0 t9 := by
  have b16384 : Sub 16384 msk := Sub.trans (b := 16384) rfl hM
  unfold execFltOvfClear at e9
  injection e9 with e9
  subst e9
  with_reducible repeat' (first | assumption | apply State.ovfClear_frame b16384)

theorem execFltPinHoldWrite_frame {fn : Nat} {v : Word} {s : State} {t9 : State} (hM : Sub 4 msk) (e9 : (execFltPinHoldWrite fn v s) = .next t9) (hF : Frame msk s0 s) : Frame msk s0 t9 := by
  have b4 : Sub 4 msk := Sub.trans (b := 4) rfl hM
  unfold execFltPinHoldWrite at e9
  injection e9 with e9
  subst e9
  with_reducible repeat' (first | assumption | apply State.pinHold_frame b4)

theorem execViewDataRead_frame {fn : Nat} {s : State} {tbit : Bool} {t9 : State} (hM : Sub 6318850 msk) (e9 : (execViewDataRead fn s tbit) = .next t9) (hF : Frame msk s0 s) : Frame msk s0 t9 := by
  have b6318850 : Sub 6318850 msk := Sub.trans (b := 6318850) rfl hM
  unfold execViewDataRead at e9
  injection e9 with e9
  subst e9
  with_reducible repeat' (first | assumption | apply State.viewRead_frame b6318850)

theorem execVintageLoRead_frame {fn : Nat} {s : State} {t9 : State} (hM : Sub 6318338 msk) (e9 : (execVintageLoRead fn s) = .next t9) (hF : Frame msk s0 s) : Frame msk s0 t9 := by
  have b6318338 : Sub 6318338 msk := Sub.trans (b := 6318338) rfl hM
  unfold execVintageLoRead at e9
  injection e9 with e9
  subst e9
  with_reducible repeat' (first | assumption | apply State.vintageRead_frame b6318338)

theorem execLowWordRead_frame {fn bar off : Nat} {s : State} {tbit : Bool} {t9 : State} (hM : Sub 6384386 msk) (e9 : (execLowWordRead fn bar off s tbit) = .next t9) (hF : Frame msk s0 s) : Frame msk s0 t9 := by
  have b6384386 : Sub 6384386 msk := Sub.trans (b := 6384386) rfl hM
  unfold execLowWordRead at e9
  injection e9 with e9
  subst e9
  with_reducible repeat' (first | assumption | apply State.lowRead_frame b6384386)

theorem execLowWordWrite_frame {fn bar off : Nat} {v : Word} {s : State} {tbit : Bool} {t9 : State} (hM : Sub 6384384 msk) (e9 : (execLowWordWrite fn bar off v s tbit) = .next t9) (hF : Frame msk s0 s) : Frame msk s0 t9 := by
  have b6384384 : Sub 6384384 msk := Sub.trans (b := 6384384) rfl hM
  unfold execLowWordWrite at e9
  injection e9 with e9
  subst e9
  with_reducible repeat' (first | assumption | apply State.lowWrite_frame b6384384)

theorem execRegisterWrite_frame {fn bar off width : Nat} {v : DWord} {s : State} {tbit : Bool} {t9 : State} (hM : Sub 14810975 msk) (e9 : (execRegisterWrite fn bar off width v s tbit) = .next t9) (hF : Frame msk s0 s) : Frame msk s0 t9 := by
  have b14810975 : Sub 14810975 msk := Sub.trans (b := 14810975) rfl hM
  unfold execRegisterWrite at e9
  injection e9 with e9
  subst e9
  with_reducible repeat' (first | assumption | apply State.registerWrite_frame b14810975)

theorem execSmbusRead_frame {off : Nat} {pecOk : Bool} {s : State} {t9 : State} (hM : Sub 6383872 msk) (e9 : (execSmbusRead off pecOk s) = .next t9) (hF : Frame msk s0 s) : Frame msk s0 t9 := by
  have b6383872 : Sub 6383872 msk := Sub.trans (b := 6383872) rfl hM
  unfold execSmbusRead at e9
  injection e9 with e9
  subst e9
  with_reducible repeat' (first | assumption | apply State.smbus_frame b6383872)

theorem execJtagInstruction_frame {code : Nat} {on : Bool} {s : State} {t9 : State} (hM : Sub 16384 msk) (e9 : (execJtagInstruction code on s) = .next t9) (hF : Frame msk s0 s) : Frame msk s0 t9 := by
  have b16384 : Sub 16384 msk := Sub.trans (b := 16384) rfl hM
  unfold execJtagInstruction at e9
  injection e9 with e9
  subst e9
  with_reducible repeat' (first | assumption | apply State.jtag_frame b16384)

theorem execAccessError_frame {hub off : Nat} {s : State} {read : Bool} {t9 : State} (hM : Sub 6318336 msk) (e9 : (execAccessError hub off s read) = .next t9) (hF : Frame msk s0 s) : Frame msk s0 t9 := by
  have b2124032 : Sub 2124032 msk := Sub.trans (b := 6318336) rfl hM
  have b4194304 : Sub 4194304 msk := Sub.trans (b := 6318336) rfl hM
  unfold execAccessError at e9
  injection e9 with e9
  subst e9
  with_reducible repeat' (first | assumption | apply State.accessErr_frame b2124032 | apply State.emit_frame b4194304 | split)

end Sys2Proof.Machine
end

