-- ==== Sys2Proof/Laws/FramePowerRows.lean ====
section
/-! SUPPORT. The frame of every operation of Machine/PowerRows.lean: which parts of the state it may change. -/

namespace Sys2Proof.Machine

variable {msk : Nat} {s0 : State}

theorem execPtmRequest_frame {s : State} {t9 : State} (hM : Sub 4259840 msk) (e9 : (execPtmRequest s) = .next t9) (hF : Frame msk s0 s) : Frame msk s0 t9 := by
  have b4259840 : Sub 4259840 msk := Sub.trans (b := 4259840) rfl hM
  unfold execPtmRequest at e9
  injection e9 with e9
  subst e9
  with_reducible repeat' (first | assumption | apply State.ptmAsk_frame b4259840)

theorem execPtmResponse_frame {t : Nat} {s : State} {t9 : State} (hM : Sub 10578176 msk) (e9 : (execPtmResponse t s) = .next t9) (hF : Frame msk s0 s) : Frame msk s0 t9 := by
  have b10578176 : Sub 10578176 msk := Sub.trans (b := 10578176) rfl hM
  unfold execPtmResponse at e9
  injection e9 with e9
  subst e9
  with_reducible repeat' (first | assumption | apply State.ptmAnswer_frame b10578176)

theorem execPtmTimeout_frame {s : State} {t9 : State} (hM : Sub 2189568 msk) (e9 : (execPtmTimeout s) = .next t9) (hF : Frame msk s0 s) : Frame msk s0 t9 := by
  have b2189568 : Sub 2189568 msk := Sub.trans (b := 2189568) rfl hM
  unfold execPtmTimeout at e9
  injection e9 with e9
  subst e9
  with_reducible repeat' (first | assumption | apply State.ptmLate_frame b2189568)

theorem execPpsEdge_frame {tod : Nat} {s : State} {t9 : State} (hM : Sub 2189568 msk) (e9 : (execPpsEdge tod s) = .next t9) (hF : Frame msk s0 s) : Frame msk s0 t9 := by
  have b2189568 : Sub 2189568 msk := Sub.trans (b := 2189568) rfl hM
  unfold execPpsEdge at e9
  injection e9 with e9
  subst e9
  with_reducible repeat' (first | assumption | apply State.ppsEdge_frame b2189568)

theorem execTimeHoldover_frame {s : State} {t9 : State} (hM : Sub 2189568 msk) (e9 : (execTimeHoldover s) = .next t9) (hF : Frame msk s0 s) : Frame msk s0 t9 := by
  have b2189568 : Sub 2189568 msk := Sub.trans (b := 2189568) rfl hM
  unfold execTimeHoldover at e9
  injection e9 with e9
  subst e9
  with_reducible repeat' (first | assumption | apply State.timeLost_frame b2189568)

theorem execPstateDoze_frame {fn : Nat} {s : State} {t9 : State} (hM : Sub 4 msk) (e9 : (execPstateDoze fn s) = .next t9) (hF : Frame msk s0 s) : Frame msk s0 t9 := by
  have b4 : Sub 4 msk := Sub.trans (b := 4) rfl hM
  unfold execPstateDoze at e9
  injection e9 with e9
  subst e9
  with_reducible repeat' (first | assumption | apply State.askTarget_frame b4)

theorem execDozeExit_frame {fn : Nat} {s : State} {t9 : State} (hM : Sub 4 msk) (e9 : (execDozeExit fn s) = .next t9) (hF : Frame msk s0 s) : Frame msk s0 t9 := by
  have b4 : Sub 4 msk := Sub.trans (b := 4) rfl hM
  unfold execDozeExit at e9
  injection e9 with e9
  subst e9
  with_reducible repeat' (first | assumption | apply State.askTarget_frame b4)

theorem execPstateCellar_frame {fn : Nat} {s : State} {t9 : State} (hM : Sub 4 msk) (e9 : (execPstateCellar fn s) = .next t9) (hF : Frame msk s0 s) : Frame msk s0 t9 := by
  have b4 : Sub 4 msk := Sub.trans (b := 4) rfl hM
  unfold execPstateCellar at e9
  injection e9 with e9
  subst e9
  with_reducible repeat' (first | assumption | apply State.askTarget_frame b4)

theorem execCellarEntryComplete_frame {s : State} {t9 : State} (hM : Sub 2222848 msk) (e9 : (execCellarEntryComplete s) = .next t9) (hF : Frame msk s0 s) : Frame msk s0 t9 := by
  have b2222848 : Sub 2222848 msk := Sub.trans (b := 2222848) rfl hM
  unfold execCellarEntryComplete at e9
  injection e9 with e9
  subst e9
  with_reducible repeat' (first | assumption | apply State.cellarIn_frame b2222848)

theorem execCellarExit_frame {fn target : Nat} {s : State} {t9 : State} (hM : Sub 81984 msk) (e9 : (execCellarExit fn target s) = .next t9) (hF : Frame msk s0 s) : Frame msk s0 t9 := by
  have b81984 : Sub 81984 msk := Sub.trans (b := 81984) rfl hM
  unfold execCellarExit at e9
  injection e9 with e9
  subst e9
  with_reducible repeat' (first | assumption | apply State.cellarOut_frame b81984)

theorem execCellarExitReady_frame {s : State} {t9 : State} (hM : Sub 2748380 msk) (e9 : (execCellarExitReady s) = .next t9) (hF : Frame msk s0 s) : Frame msk s0 t9 := by
  have b2748380 : Sub 2748380 msk := Sub.trans (b := 2748380) rfl hM
  unfold execCellarExitReady at e9
  injection e9 with e9
  subst e9
  with_reducible repeat' (first | assumption | apply State.cellarReady_frame b2748380)

theorem execResetN_frame {ns : Nat} {s : State} {t9 : State} (hM : Sub 3670015 msk) (e9 : (execResetN ns s) = .next t9) (hF : Frame msk s0 s) : Frame msk s0 t9 := by
  have b3670015 : Sub 3670015 msk := Sub.trans (b := 3670015) rfl hM
  unfold execResetN at e9
  injection e9 with e9
  subst e9
  with_reducible repeat' (first | assumption | apply State.resetPin_frame b3670015)

theorem execColdBoot_frame {b : BootInfo} {s : State} {t9 : State} (hM : Sub 12320766 msk) (e9 : (execColdBoot b s) = .next t9) (hF : Frame msk s0 s) : Frame msk s0 t9 := by
  have b12320766 : Sub 12320766 msk := Sub.trans (b := 12320766) rfl hM
  unfold execColdBoot at e9
  injection e9 with e9
  subst e9
  with_reducible repeat' (first | assumption | apply State.coldBoot_frame b12320766)

theorem execSysclkLoss_frame {s : State} {t9 : State} (hM : Sub 3670015 msk) (e9 : (execSysclkLoss s) = .next t9) (hF : Frame msk s0 s) : Frame msk s0 t9 := by
  have b3670015 : Sub 3670015 msk := Sub.trans (b := 3670015) rfl hM
  unfold execSysclkLoss at e9
  injection e9 with e9
  subst e9
  with_reducible repeat' (first | assumption | apply State.sysclkLost_frame b3670015)

theorem execRefclkLoss_frame {s : State} {t9 : State} (hM : Sub 2223900 msk) (e9 : (execRefclkLoss s) = .next t9) (hF : Frame msk s0 s) : Frame msk s0 t9 := by
  have b2223900 : Sub 2223900 msk := Sub.trans (b := 2223900) rfl hM
  unfold execRefclkLoss at e9
  injection e9 with e9
  subst e9
  with_reducible repeat' (first | assumption | apply State.refclkLost_frame b2223900)

theorem execRefclkReturn_frame {s : State} {t9 : State} (hM : Sub 66048 msk) (e9 : (execRefclkReturn s) = .next t9) (hF : Frame msk s0 s) : Frame msk s0 t9 := by
  have b66048 : Sub 66048 msk := Sub.trans (b := 66048) rfl hM
  unfold execRefclkReturn at e9
  injection e9 with e9
  subst e9
  with_reducible repeat' (first | assumption | apply State.refclkBack_frame b66048)

theorem execVinRise_frame {s : State} {t9 : State} (hM : Sub 3670015 msk) (e9 : (execVinRise s) = .next t9) (hF : Frame msk s0 s) : Frame msk s0 t9 := by
  have b3670015 : Sub 3670015 msk := Sub.trans (b := 3670015) rfl hM
  unfold execVinRise at e9
  injection e9 with e9
  subst e9
  with_reducible repeat' (first | assumption | apply State.vinRise_frame b3670015)

theorem execInputLoss_frame {s : State} {t9 : State} (hM : Sub 12582911 msk) (e9 : (execInputLoss s) = .next t9) (hF : Frame msk s0 s) : Frame msk s0 t9 := by
  have b12582911 : Sub 12582911 msk := Sub.trans (b := 12582911) rfl hM
  unfold execInputLoss at e9
  injection e9 with e9
  subst e9
  with_reducible repeat' (first | assumption | apply State.inputLoss_frame b12582911)

theorem execPowerSample_frame {mw mv : Nat} {s : State} {t9 : State} (hM : Sub 2255104 msk) (e9 : (execPowerSample mw mv s) = .next t9) (hF : Frame msk s0 s) : Frame msk s0 t9 := by
  have b2255104 : Sub 2255104 msk := Sub.trans (b := 2255104) rfl hM
  unfold execPowerSample at e9
  injection e9 with e9
  subst e9
  with_reducible repeat' (first | assumption | apply State.powerSample_frame b2255104)

theorem execRailFault_frame {rail : Nat} {s : State} {t9 : State} (hM : Sub 3670015 msk) (e9 : (execRailFault rail s) = .next t9) (hF : Frame msk s0 s) : Frame msk s0 t9 := by
  have b3670015 : Sub 3670015 msk := Sub.trans (b := 3670015) rfl hM
  unfold execRailFault at e9
  injection e9 with e9
  subst e9
  with_reducible repeat' (first | assumption | apply State.railFault_frame b3670015)

theorem execThrottleNAssert_frame {s : State} {t9 : State} (hM : Sub 2255104 msk) (e9 : (execThrottleNAssert s) = .next t9) (hF : Frame msk s0 s) : Frame msk s0 t9 := by
  have b2255104 : Sub 2255104 msk := Sub.trans (b := 2255104) rfl hM
  unfold execThrottleNAssert at e9
  injection e9 with e9
  subst e9
  with_reducible repeat' (first | assumption | apply State.throttleAssert_frame b2255104)

theorem execThrottleNRelease_frame {s : State} {t9 : State} (hM : Sub 131072 msk) (e9 : (execThrottleNRelease s) = .next t9) (hF : Frame msk s0 s) : Frame msk s0 t9 := by
  have b131072 : Sub 131072 msk := Sub.trans (b := 131072) rfl hM
  unfold execThrottleNRelease at e9
  injection e9 with e9
  subst e9
  with_reducible repeat' (first | assumption | apply State.throttleRelease_frame b131072)

theorem execStackTempReading_frame {stack t : Nat} {s : State} {t9 : State} (hM : Sub 2486270 msk) (e9 : (execStackTempReading stack t s) = .next t9) (hF : Frame msk s0 s) : Frame msk s0 t9 := by
  have b2486270 : Sub 2486270 msk := Sub.trans (b := 2486270) rfl hM
  unfold execStackTempReading at e9
  injection e9 with e9
  subst e9
  with_reducible repeat' (first | assumption | apply State.stackTemp_frame b2486270)

theorem execJunctionReading_frame {die t : Nat} {s : State} {t9 : State} (hM : Sub 3670015 msk) (e9 : (execJunctionReading die t s) = .next t9) (hF : Frame msk s0 s) : Frame msk s0 t9 := by
  have b3670015 : Sub 3670015 msk := Sub.trans (b := 3670015) rfl hM
  unfold execJunctionReading at e9
  injection e9 with e9
  subst e9
  with_reducible repeat' (first | assumption | apply State.junction_frame b3670015)

theorem execGovernorEvaluation_frame {s : State} {t9 : State} (hM : Sub 2320720 msk) (e9 : (execGovernorEvaluation s) = .next t9) (hF : Frame msk s0 s) : Frame msk s0 t9 := by
  have b2320720 : Sub 2320720 msk := Sub.trans (b := 2320720) rfl hM
  unfold execGovernorEvaluation at e9
  injection e9 with e9
  subst e9
  with_reducible repeat' (first | assumption | apply State.evaluate_frame b2320720)

theorem execMinuteBoundary_frame {s : State} {t9 : State} (hM : Sub 2844928 msk) (e9 : (execMinuteBoundary s) = .next t9) (hF : Frame msk s0 s) : Frame msk s0 t9 := by
  have b2844928 : Sub 2844928 msk := Sub.trans (b := 2844928) rfl hM
  unfold execMinuteBoundary at e9
  injection e9 with e9
  subst e9
  with_reducible repeat' (first | assumption | apply State.minuteEnd_frame b2844928)

theorem execLogRecordWrite_frame {good : Bool} {s : State} {t9 : State} (hM : Sub 589824 msk) (e9 : (execLogRecordWrite good s) = .next t9) (hF : Frame msk s0 s) : Frame msk s0 t9 := by
  have b589824 : Sub 589824 msk := Sub.trans (b := 589824) rfl hM
  unfold execLogRecordWrite at e9
  injection e9 with e9
  subst e9
  with_reducible repeat' (first | assumption | apply State.logWrite_frame b589824)

end Sys2Proof.Machine
end

