-- ==== Sys2Proof/Laws/FrameWorkRows.lean ====
section
/-! SUPPORT. The frame of every operation of Machine/WorkRows.lean: which parts of the state it may change. -/

namespace Sys2Proof.Machine

variable {msk : Nat} {s0 : State}

theorem execTickBoundary_frame {s : State} {t9 : State} (hM : Sub 16777215 msk) (e9 : (execTickBoundary s) = .next t9) (hF : Frame msk s0 s) : Frame msk s0 t9 := by
  have b16777215 : Sub 16777215 msk := Sub.trans (b := 16777215) rfl hM
  unfold execTickBoundary at e9
  injection e9 with e9
  subst e9
  with_reducible repeat' (first | assumption | apply State.tickBoundary_frame b16777215)

theorem execTilePrecheck_frame {agent jobid : Nat} {s : State} {t9 : State} (hM : Sub 10545533 msk) (e9 : (execTilePrecheck agent jobid s) = .next t9) (hF : Frame msk s0 s) : Frame msk s0 t9 := by
  have b10545533 : Sub 10545533 msk := Sub.trans (b := 10545533) rfl hM
  unfold execTilePrecheck at e9
  injection e9 with e9
  subst e9
  with_reducible repeat' (first | assumption | apply State.tilePrecheck_frame b10545533)

theorem execMeasureComplete_frame {engine : Nat} {s : State} {t9 : State} (hM : Sub 2158463 msk) (e9 : (execMeasureComplete engine s) = .next t9) (hF : Frame msk s0 s) : Frame msk s0 t9 := by
  have b2158463 : Sub 2158463 msk := Sub.trans (b := 2158463) rfl hM
  unfold execMeasureComplete at e9
  injection e9 with e9
  subst e9
  with_reducible repeat' (first | assumption | apply State.completeMeasure_frame b2158463 | extract_lets)

theorem execWriteBackComplete_frame {page : Nat} {s : State} {t9 : State} (hM : Sub 10547031 msk) (e9 : (execWriteBackComplete page s) = .next t9) (hF : Frame msk s0 s) : Frame msk s0 t9 := by
  have b10547031 : Sub 10547031 msk := Sub.trans (b := 10547031) rfl hM
  unfold execWriteBackComplete at e9
  injection e9 with e9
  subst e9
  with_reducible repeat' (first | assumption | apply State.wbComplete_frame b10547031 | extract_lets)

theorem execCowCopyComplete_frame {page : Nat} {s : State} {t9 : State} (hM : Sub 10547031 msk) (e9 : (execCowCopyComplete page s) = .next t9) (hF : Frame msk s0 s) : Frame msk s0 t9 := by
  have b10547031 : Sub 10547031 msk := Sub.trans (b := 10547031) rfl hM
  unfold execCowCopyComplete at e9
  injection e9 with e9
  subst e9
  with_reducible repeat' (first | assumption | apply State.cowComplete_frame b10547031 | extract_lets)

theorem execScrubComplete_frame {id : Nat} {s : State} {t9 : State} (hM : Sub 43286 msk) (e9 : (execScrubComplete id s) = .next t9) (hF : Frame msk s0 s) : Frame msk s0 t9 := by
  have b43286 : Sub 43286 msk := Sub.trans (b := 43286) rfl hM
  unfold execScrubComplete at e9
  injection e9 with e9
  subst e9
  with_reducible repeat' (first | assumption | apply State.scrubDone_frame b43286)

theorem execDrainComplete_frame {region : Nat} {s : State} {t9 : State} (hM : Sub 43414 msk) (e9 : (execDrainComplete region s) = .next t9) (hF : Frame msk s0 s) : Frame msk s0 t9 := by
  have b43414 : Sub 43414 msk := Sub.trans (b := 43414) rfl hM
  unfold execDrainComplete at e9
  injection e9 with e9
  subst e9
  with_reducible repeat' (first | assumption | apply State.drainDone_frame b43414)

theorem execPublishSwitch_frame {region : Nat} {s : State} {t9 : State} (hM : Sub 10547031 msk) (e9 : (execPublishSwitch region s) = .next t9) (hF : Frame msk s0 s) : Frame msk s0 t9 := by
  have b10547031 : Sub 10547031 msk := Sub.trans (b := 10547031) rfl hM
  unfold execPublishSwitch at e9
  injection e9 with e9
  subst e9
  with_reducible repeat' (first | assumption | apply State.publishSwitch_frame b10547031)

theorem execRackPageSwitch_frame {region page : Nat} {s : State} {t9 : State} (hM : Sub 10547031 msk) (e9 : (execRackPageSwitch region page s) = .next t9) (hF : Frame msk s0 s) : Frame msk s0 t9 := by
  have b10547031 : Sub 10547031 msk := Sub.trans (b := 10547031) rfl hM
  unfold execRackPageSwitch at e9
  injection e9 with e9
  subst e9
  with_reducible repeat' (first | assumption | apply State.rackSwitch_frame b10547031)

theorem execRackRewriteDone_frame {region : Nat} {s : State} {t9 : State} (hM : Sub 2156830 msk) (e9 : (execRackRewriteDone region s) = .next t9) (hF : Frame msk s0 s) : Frame msk s0 t9 := by
  have b2156830 : Sub 2156830 msk := Sub.trans (b := 2156830) rfl hM
  unfold execRackRewriteDone at e9
  injection e9 with e9
  subst e9
  with_reducible repeat' (first | assumption | apply State.rackRewrite_frame b2156830)

theorem execRackComplete_frame {region : Nat} {s : State} {t9 : State} (hM : Sub 2156858 msk) (e9 : (execRackComplete region s) = .next t9) (hF : Frame msk s0 s) : Frame msk s0 t9 := by
  have b2156858 : Sub 2156858 msk := Sub.trans (b := 2156858) rfl hM
  unfold execRackComplete at e9
  injection e9 with e9
  subst e9
  with_reducible repeat' (first | assumption | apply State.rackDone_frame b2156858)

theorem execDigestComplete_frame {agent : Nat} {s : State} {t9 : State} (hM : Sub 8431944 msk) (e9 : (execDigestComplete agent s) = .next t9) (hF : Frame msk s0 s) : Frame msk s0 t9 := by
  have b8431944 : Sub 8431944 msk := Sub.trans (b := 8431944) rfl hM
  unfold execDigestComplete at e9
  injection e9 with e9
  subst e9
  with_reducible repeat' (first | assumption | apply State.digestDone_frame b8431944)

theorem execRotationSweepComplete_frame {tenant : Nat} {s : State} {t9 : State} (hM : Sub 2156944 msk) (e9 : (execRotationSweepComplete tenant s) = .next t9) (hF : Frame msk s0 s) : Frame msk s0 t9 := by
  have b2156944 : Sub 2156944 msk := Sub.trans (b := 2156944) rfl hM
  unfold execRotationSweepComplete at e9
  injection e9 with e9
  subst e9
  with_reducible repeat' (first | assumption | apply State.sweepDone_frame b2156944)

theorem execOldKeyOverwrite_frame {tenant : Nat} {s : State} {t9 : State} (hM : Sub 128 msk) (e9 : (execOldKeyOverwrite tenant s) = .next t9) (hF : Frame msk s0 s) : Frame msk s0 t9 := by
  have b128 : Sub 128 msk := Sub.trans (b := 128) rfl hM
  unfold execOldKeyOverwrite at e9
  injection e9 with e9
  subst e9
  with_reducible repeat' (first | assumption | apply State.oldKeyGone_frame b128)

theorem execPageScrubComplete_frame {page : Nat} {s : State} {t9 : State} (hM : Sub 32790 msk) (e9 : (execPageScrubComplete page s) = .next t9) (hF : Frame msk s0 s) : Frame msk s0 t9 := by
  have b32790 : Sub 32790 msk := Sub.trans (b := 32790) rfl hM
  unfold execPageScrubComplete at e9
  injection e9 with e9
  subst e9
  with_reducible repeat' (first | assumption | apply State.pageScrubDone_frame b32790)

theorem execTenantScrubComplete_frame {tenant : Nat} {s : State} {t9 : State} (hM : Sub 2156950 msk) (e9 : (execTenantScrubComplete tenant s) = .next t9) (hF : Frame msk s0 s) : Frame msk s0 t9 := by
  have b2156950 : Sub 2156950 msk := Sub.trans (b := 2156950) rfl hM
  unfold execTenantScrubComplete at e9
  injection e9 with e9
  subst e9
  with_reducible repeat' (first | assumption | apply State.tenantScrubDone_frame b2156950)

theorem execLoftAck_frame {s : State} {t9 : State} (hM : Sub 2157312 msk) (e9 : (execLoftAck s) = .next t9) (hF : Frame msk s0 s) : Frame msk s0 t9 := by
  have b2157312 : Sub 2157312 msk := Sub.trans (b := 2157312) rfl hM
  unfold execLoftAck at e9
  injection e9 with e9
  subst e9
  with_reducible repeat' (first | assumption | apply State.loftAck_frame b2157312)

theorem execDeltaFrame_frame {good : Bool} {s : State} {t9 : State} (hM : Sub 2156800 msk) (e9 : (execDeltaFrame good s) = .next t9) (hF : Frame msk s0 s) : Frame msk s0 t9 := by
  have b2156800 : Sub 2156800 msk := Sub.trans (b := 2156800) rfl hM
  unfold execDeltaFrame at e9
  injection e9 with e9
  subst e9
  with_reducible repeat' (first | assumption | apply State.deltaFrame_frame b2156800)

theorem execRecallDeadline_frame {page : Nat} {s : State} {t9 : State} (hM : Sub 10547031 msk) (e9 : (execRecallDeadline page s) = .next t9) (hF : Frame msk s0 s) : Frame msk s0 t9 := by
  have b10547031 : Sub 10547031 msk := Sub.trans (b := 10547031) rfl hM
  unfold execRecallDeadline at e9
  injection e9 with e9
  subst e9
  with_reducible repeat' (first | assumption | apply State.expire_frame b10547031)

theorem execAgentLoss_frame {agent : Nat} {s : State} {t9 : State} (hM : Sub 10551167 msk) (e9 : (execAgentLoss agent s) = .next t9) (hF : Frame msk s0 s) : Frame msk s0 t9 := by
  have b10551167 : Sub 10551167 msk := Sub.trans (b := 10551167) rfl hM
  unfold execAgentLoss at e9
  injection e9 with e9
  subst e9
  with_reducible repeat' (first | assumption | apply State.agentLoss_frame b10551167)

theorem execLostAgentReturn_frame {agent : Nat} {s : State} {t9 : State} (hM : Sub 6352652 msk) (e9 : (execLostAgentReturn agent s) = .next t9) (hF : Frame msk s0 s) : Frame msk s0 t9 := by
  have b6352652 : Sub 6352652 msk := Sub.trans (b := 6352652) rfl hM
  unfold execLostAgentReturn at e9
  injection e9 with e9
  subst e9
  with_reducible repeat' (first | assumption | apply State.lostReturn_frame b6352652)

theorem execFaultRecordExpiry_frame {slot : Nat} {s : State} {t9 : State} (hM : Sub 2156860 msk) (e9 : (execFaultRecordExpiry slot s) = .next t9) (hF : Frame msk s0 s) : Frame msk s0 t9 := by
  have b2156860 : Sub 2156860 msk := Sub.trans (b := 2156860) rfl hM
  unfold execFaultRecordExpiry at e9
  injection e9 with e9
  subst e9
  with_reducible repeat' (first | assumption | apply State.faultExpire_frame b2156860)

theorem execIdemRecordExpiry_frame {agent : Nat} {s : State} {t9 : State} (hM : Sub 4 msk) (e9 : (execIdemRecordExpiry agent s) = .next t9) (hF : Frame msk s0 s) : Frame msk s0 t9 := by
  have b4 : Sub 4 msk := Sub.trans (b := 4) rfl hM
  unfold execIdemRecordExpiry at e9
  injection e9 with e9
  subst e9
  with_reducible repeat' (first | assumption | apply State.idemExpire_frame b4)

theorem execJobRecordExpiry_frame {agent : Nat} {s : State} {t9 : State} (hM : Sub 16 msk) (e9 : (execJobRecordExpiry agent s) = .next t9) (hF : Frame msk s0 s) : Frame msk s0 t9 := by
  have b16 : Sub 16 msk := Sub.trans (b := 16) rfl hM
  unfold execJobRecordExpiry at e9
  injection e9 with e9
  subst e9
  with_reducible repeat' (first | assumption | apply State.jobExpire_frame b16)

theorem execAccessDecay_frame {s : State} {t9 : State} (hM : Sub 12 msk) (e9 : (execAccessDecay s) = .next t9) (hF : Frame msk s0 s) : Frame msk s0 t9 := by
  have b12 : Sub 12 msk := Sub.trans (b := 12) rfl hM
  unfold execAccessDecay at e9
  injection e9 with e9
  subst e9
  with_reducible repeat' (first | assumption | apply State.decay_frame b12)

theorem execWarmUpEnd_frame {s : State} {t9 : State} (hM : Sub 8 msk) (e9 : (execWarmUpEnd s) = .next t9) (hF : Frame msk s0 s) : Frame msk s0 t9 := by
  have b8 : Sub 8 msk := Sub.trans (b := 8) rfl hM
  unfold execWarmUpEnd at e9
  injection e9 with e9
  subst e9
  with_reducible repeat' (first | assumption | apply State.warmEnd_frame b8)

theorem execPrefetchWalkComplete_frame {hub agent pva : Nat} {s : State} {t9 : State} (hM : Sub 2124105 msk) (e9 : (execPrefetchWalkComplete hub agent pva s) = .next t9) (hF : Frame msk s0 s) : Frame msk s0 t9 := by
  have b2124105 : Sub 2124105 msk := Sub.trans (b := 2124105) rfl hM
  unfold execPrefetchWalkComplete at e9
  injection e9 with e9
  subst e9
  with_reducible repeat' (first | assumption | apply State.prefetchDone_frame b2124105)

end Sys2Proof.Machine
end

