-- ==== Sys2Proof/Laws/FrameFaultRows.lean ====
section
/-! SUPPORT. The frame of every operation of Machine/FaultRows.lean: which parts of the state it may change. -/

namespace Sys2Proof.Machine

variable {msk : Nat} {s0 : State}

theorem execRateChangeComplete_frame {stack : Nat} {s : State} {t9 : State} (hM : Sub 64 msk) (e9 : (execRateChangeComplete stack s) = .next t9) (hF : Frame msk s0 s) : Frame msk s0 t9 := by
  have b64 : Sub 64 msk := Sub.trans (b := 64) rfl hM
  unfold execRateChangeComplete at e9
  injection e9 with e9
  subst e9
  with_reducible repeat' (first | assumption | apply State.rateDone_frame b64)

theorem execRefresh_frame {stack : Nat} {s : State} {t9 : State} (hM : Sub 65600 msk) (e9 : (execRefresh stack s) = .next t9) (hF : Frame msk s0 s) : Frame msk s0 t9 := by
  have b65600 : Sub 65600 msk := Sub.trans (b := 65600) rfl hM
  unfold execRefresh at e9
  injection e9 with e9
  subst e9
  with_reducible repeat' (first | assumption | apply State.refresh_frame b65600)

theorem execPeriodicRetrain_frame {stack : Nat} {good : Bool} {s : State} {lanes : List Lane} {t9 : State} (hM : Sub 10612734 msk) (e9 : (execPeriodicRetrain stack good s lanes) = .next t9) (hF : Frame msk s0 s) : Frame msk s0 t9 := by
  have b10612734 : Sub 10612734 msk := Sub.trans (b := 10612734) rfl hM
  unfold execPeriodicRetrain at e9
  injection e9 with e9
  subst e9
  with_reducible repeat' (first | assumption | apply State.retrain_frame b10612734)

theorem execCaParityError_frame {stack : Nat} {reissueOk : Bool} {s : State} {t9 : State} (hM : Sub 2189632 msk) (e9 : (execCaParityError stack reissueOk s) = .next t9) (hF : Frame msk s0 s) : Frame msk s0 t9 := by
  have b2189632 : Sub 2189632 msk := Sub.trans (b := 2189632) rfl hM
  unfold execCaParityError at e9
  injection e9 with e9
  subst e9
  with_reducible repeat' (first | assumption | apply State.caError_frame b2189632)

theorem execPatrol_frame {stack line symbols : Nat} {s : State} {t9 : State} (hM : Sub 10512705 msk) (e9 : (execPatrol stack line symbols s) = .next t9) (hF : Frame msk s0 s) : Frame msk s0 t9 := by
  have b10512705 : Sub 10512705 msk := Sub.trans (b := 10512705) rfl hM
  unfold execPatrol at e9
  injection e9 with e9
  subst e9
  with_reducible repeat' (first | assumption | apply State.patrol_frame b10512705)

theorem execSkewWindowEnd_frame {stack : Nat} {s : State} {t9 : State} (hM : Sub 2124096 msk) (e9 : (execSkewWindowEnd stack s) = .next t9) (hF : Frame msk s0 s) : Frame msk s0 t9 := by
  have b2124096 : Sub 2124096 msk := Sub.trans (b := 2124096) rfl hM
  unfold execSkewWindowEnd at e9
  injection e9 with e9
  subst e9
  with_reducible repeat' (first | assumption | apply State.skewEnd_frame b2124096)

theorem execFaultNPulseEnd_frame {s : State} {t9 : State} (hM : Sub 16384 msk) (e9 : (execFaultNPulseEnd s) = .next t9) (hF : Frame msk s0 s) : Frame msk s0 t9 := by
  have b16384 : Sub 16384 msk := Sub.trans (b := 16384) rfl hM
  unfold execFaultNPulseEnd at e9
  injection e9 with e9
  subst e9
  with_reducible repeat' (first | assumption | apply State.pulseEnd_frame b16384)

theorem execStackFailure_frame {stack cause : Nat} {s : State} {t9 : State} (hM : Sub 2158590 msk) (e9 : (execStackFailure stack cause s) = .next t9) (hF : Frame msk s0 s) : Frame msk s0 t9 := by
  have b2158590 : Sub 2158590 msk := Sub.trans (b := 2158590) rfl hM
  unfold execStackFailure at e9
  injection e9 with e9
  subst e9
  with_reducible repeat' (first | assumption | apply State.stackFails_frame b2158590 | split)

theorem execDieFailure_frame {die _cause : Nat} {s : State} {t9 : State} (hM : Sub 2158590 msk) (e9 : (execDieFailure die _cause s) = .next t9) (hF : Frame msk s0 s) : Frame msk s0 t9 := by
  have b2158590 : Sub 2158590 msk := Sub.trans (b := 2158590) rfl hM
  unfold execDieFailure at e9
  injection e9 with e9
  subst e9
  with_reducible repeat' (first | assumption | apply State.dieFails_frame b2158590)

theorem execBridgeLoss_frame {die hub : Nat} {s : State} {t9 : State} (hM : Sub 2158590 msk) (e9 : (execBridgeLoss die hub s) = .next t9) (hF : Frame msk s0 s) : Frame msk s0 t9 := by
  have b2158590 : Sub 2158590 msk := Sub.trans (b := 2158590) rfl hM
  unfold execBridgeLoss at e9
  injection e9 with e9
  subst e9
  with_reducible repeat' (first | assumption | apply State.bridgeLost_frame b2158590)

theorem execEngineFault_frame {engine : Nat} {afterWrite : Bool} {s : State} {t9 : State} (hM : Sub 10546047 msk) (e9 : (execEngineFault engine afterWrite s) = .next t9) (hF : Frame msk s0 s) : Frame msk s0 t9 := by
  have b10546047 : Sub 10546047 msk := Sub.trans (b := 10546047) rfl hM
  unfold execEngineFault at e9
  injection e9 with e9
  subst e9
  with_reducible repeat' (first | assumption | apply State.engFault_frame b10546047)

theorem execHubFailure_frame {hub block cause : Nat} {s : State} {t9 : State} (hM : Sub 3211036 msk) (e9 : (execHubFailure hub block cause s) = .next t9) (hF : Frame msk s0 s) : Frame msk s0 t9 := by
  have b3211036 : Sub 3211036 msk := Sub.trans (b := 3211036) rfl hM
  unfold execHubFailure at e9
  injection e9 with e9
  subst e9
  with_reducible repeat' (first | assumption | apply State.hubFails_frame b3211036)

theorem execStandbyLost_frame {cause : Nat} {s : State} {t9 : State} (hM : Sub 3211036 msk) (e9 : (execStandbyLost cause s) = .next t9) (hF : Frame msk s0 s) : Frame msk s0 t9 := by
  have b3211036 : Sub 3211036 msk := Sub.trans (b := 3211036) rfl hM
  unfold execStandbyLost at e9
  injection e9 with e9
  subst e9
  with_reducible repeat' (first | assumption | apply State.standbyLost_frame b3211036)

theorem execSwitchover_frame {cause : Nat} {s : State} {t9 : State} (hM : Sub 14811135 msk) (e9 : (execSwitchover cause s) = .next t9) (hF : Frame msk s0 s) : Frame msk s0 t9 := by
  have b14811135 : Sub 14811135 msk := Sub.trans (b := 14811135) rfl hM
  unfold execSwitchover at e9
  injection e9 with e9
  subst e9
  with_reducible repeat' (first | assumption | apply State.switchover_frame b14811135)

theorem execRailMismatch_frame {block inst : Nat} {s : State} {t9 : State} (hM : Sub 3801086 msk) (e9 : (execRailMismatch block inst s) = .next t9) (hF : Frame msk s0 s) : Frame msk s0 t9 := by
  have b3801086 : Sub 3801086 msk := Sub.trans (b := 3801086) rfl hM
  unfold execRailMismatch at e9
  injection e9 with e9
  subst e9
  with_reducible repeat' (first | assumption | apply State.railMismatch_frame b3801086 | refine frame_fst ?_ (by assumption) | refine frame_snd ?_ (by assumption))

theorem execPartFailed_frame {cause : Nat} {s : State} {t9 : State} (hM : Sub 2748380 msk) (e9 : (execPartFailed cause s) = .next t9) (hF : Frame msk s0 s) : Frame msk s0 t9 := by
  have b2748380 : Sub 2748380 msk := Sub.trans (b := 2748380) rfl hM
  unfold execPartFailed at e9
  injection e9 with e9
  subst e9
  with_reducible repeat' (first | assumption | apply State.partFailed_frame b2748380)

end Sys2Proof.Machine
end

