-- ==== Sys2Proof/Laws/Line.lean ====
section
/-! SUPPORT. What the bank queues and the checks of a read leave alone, and what a line read is when no line has a wrong symbol. -/

namespace Sys2Proof.Machine

/-! ### The controllers' queues (R240) hold requests alone -/

theorem Stack.enter_state (x : Stack) (e : BankReq) : (x.enter e).state = x.state := by
  unfold Stack.enter
  dsimp only
  split
  · rfl
  · split
    · rfl
    · split <;> rfl

theorem State.setStack_state (s : State) (k j : Nat) (f : Stack → Stack) (h : ∀ x, (f x).state = x.state) :
    ((s.setStack k f).stack j).state = (s.stack j).state := by
  unfold State.setStack State.stack
  simp only [State.onMcx_mcx]
  rw [Tbl.getD_modD]
  by_cases e : j = k
  · subst e; simp [h]
  · simp [e]

/-- A request that reaches its controllers changes their queues alone. -/
theorem State.toBanks_spec (s : State) (rid pa : Nat) (w : Bool) :
    (s.toBanks rid pa w).mcx.errs = s.mcx.errs ∧ (s.toBanks rid pa w).mcx.poison = s.mcx.poison ∧
      ∀ k, ((s.toBanks rid pa w).stack k).state = (s.stack k).state := by
  unfold State.toBanks
  dsimp only
  generalize s.region rid = g
  generalize (if w = true then s.stored g pa else (s.copies g pa).take 1) = l
  induction l generalizing s with
  | nil => exact ⟨rfl, rfl, fun _ => rfl⟩
  | cons a l ih =>
    rw [List.foldl_cons]
    obtain ⟨h1, h2, h3⟩ := ih (s.setStack (stackOf a) fun x => x.enter { pc := pcOf (offOf a), bank := bankOf (g.hashAt a) (offOf a), region := rid })
    exact ⟨h1, h2, fun k => (h3 k).trans (State.setStack_state _ _ _ _ fun x => Stack.enter_state x _)⟩

theorem State.stackFailed_congr {s t : State} (h : ∀ k, (t.stack k).state = (s.stack k).state) (k : Nat) : t.stackFailed k = s.stackFailed k := by
  simp only [State.stackFailed, h]

theorem State.copies_congr {s t : State} (h : ∀ k, (t.stack k).state = (s.stack k).state) (g : Region) (pa : Nat) : t.copies g pa = s.copies g pa := by
  unfold State.copies State.mirrorPa
  simp only [State.stackFailed_congr h]

theorem State.stored_congr {s t : State} (h : ∀ k, (t.stack k).state = (s.stack k).state) (g : Region) (pa : Nat) : t.stored g pa = s.stored g pa := by
  unfold State.stored State.forwards State.mirrorPa
  simp only [State.copies_congr h, State.stackFailed_congr h]

/-! ### A line with no wrong symbol -/

theorem State.checkLine_none {s : State} {l : Nat} (h : Tbl.find s.mcx.errs l = none) : s.checkLine l = s := by
  unfold State.checkLine; rw [h]

/-- The bytes of a line whose first served copy is good, and nothing changed by reading them. -/
theorem State.readLine_good {s : State} {g : Region} {pa a : Nat} {l : List Nat} (h : s.copies g pa = a :: l)
    (h1 : Tbl.find s.mcx.errs (a / 64) = none) (h2 : s.poisoned (a / 64) = false) :
    s.readLine g pa = (s, some (Memory.read s.mem a 64)) := by
  unfold State.readLine
  simp only [h, State.checkCopies, State.checkLine_none h1, h2, Bool.false_eq_true, if_false, List.find?, Bool.not_false]
  simp

/-! ### With no wrong symbol anywhere a read changes no byte -/

/-- No line has a wrong symbol in `s`, and `t` has the same memory and controllers. -/
structure Quiet (s t : State) : Prop where
  errs : s.mcx.errs = []
  mcx : t.mcx = s.mcx
  mem : t.mem = s.mem

theorem Quiet.refl {s : State} (h : s.mcx.errs = []) : Quiet s s := ⟨h, rfl, rfl⟩

theorem Quiet.errs' {s t : State} (h : Quiet s t) : t.mcx.errs = [] := by rw [h.mcx]; exact h.errs

/-- An operation whose frame leaves memory and controllers alone keeps a state quiet. -/
theorem Quiet.frame {s t u : State} (h : Quiet s t) (f : Frame 16777150 t u) : Quiet s u :=
  ⟨h.errs, (f.same .mcx rfl).trans h.mcx, (f.same .mem rfl).trans h.mem⟩

theorem State.checkLine_quiet {s t : State} (h : Quiet s t) (l : Nat) : t.checkLine l = t :=
  State.checkLine_none (by rw [h.errs']; rfl)

theorem State.tryLine_quiet {s t : State} (h : Quiet s t) (pa : Nat) : Quiet s (t.tryLine pa).1 := by
  unfold State.tryLine
  simp only [State.checkLine_quiet h]
  split
  · exact h
  · split
    · exact h.frame (State.foundUe_frame rfl (Frame.refl _ _))
    · exact h

theorem State.readEntry_quiet {s t : State} (h : Quiet s t) (hub agent : Nat) (pas : Nat × Nat) : Quiet s (t.readEntry hub agent pas) := by
  unfold State.readEntry
  have h1 := State.tryLine_quiet h pas.1
  split
  · next e => rw [e] at h1; exact h1
  · next e => rw [e] at h1; exact (State.tryLine_quiet h1 pas.2).frame (State.raise_frame rfl (Frame.refl _ _))

theorem State.readTables_quiet {s t : State} (h : Quiet s t) (hub agent pva : Nat) : Quiet s (t.readTables hub agent pva) := by
  unfold State.readTables
  dsimp only
  split
  · exact h
  · have : ∀ (l : List Nat) (x : State × Bool), Quiet s x.1 → Quiet s (l.foldl (fun (x : State × Bool) l =>
        if x.2 then x
        else
          let pas := x.1.entryPas l agent (pva % 2 ^ 52)
          let s := x.1.readEntry hub agent pas
          (s, s.dead pas.1 && s.dead pas.2)) x).1 := by
      intro l
      induction l with
      | nil => exact fun x hx => hx
      | cons a l ih =>
        intro x hx
        rw [List.foldl_cons]
        refine ih _ ?_
        split
        · exact hx
        · exact State.readEntry_quiet hx ..
    exact this _ _ h

end Sys2Proof.Machine
end

