-- ==== Sys2Proof/Laws/Store.lean ====
section
/-! SUPPORT. What the stores of a measure do to the pool's bytes: a byte outside the runs written reads as before, a zeroed run reads zero, and a
copied run reads as its source did. -/

namespace Sys2Proof.Machine

/-- The address lies in none of the runs. -/
def Outside (rs : List (Nat × Nat)) (a : Nat) : Prop := ∀ x ∈ rs, a < x.1 ∨ x.1 + x.2 ≤ a

theorem Outside.sub {rs ts : List (Nat × Nat)} {a : Nat} (h : Outside ts a) (hs : ∀ x ∈ rs, x ∈ ts) : Outside rs a := fun x hx => h x (hs x hx)

/-! ### One table filtered by its keys, or changed value by value -/

theorem Tbl.find_filter {α : Type} {t : Tbl α} (h : Rising t) (p : Nat → Bool) (a : Nat) :
    Tbl.find (List.filter (fun e => p e.1) t) a = if p a then Tbl.find t a else none := by
  induction t with
  | nil => simp [Tbl.find]
  | cons e r ih =>
    obtain ⟨j, v⟩ := e
    have hr := List.pairwise_cons.1 h
    rw [List.filter_cons]
    by_cases hp : p j = true
    · simp only [hp, if_true, Tbl.find, ih hr.2]
      by_cases e1 : j = a
      · subst e1; simp [hp]
      · by_cases e2 : a < j
        · simp [e1, e2]
        · simp [e1, e2]
    · simp only [hp, if_false, Bool.false_eq_true, Tbl.find, ih hr.2]
      by_cases e1 : j = a
      · subst e1; simp [hp]
      · by_cases e2 : a < j
        · have : Tbl.find r a = none := Tbl.find_none_of_lt (j := j) (fun e he => hr.1 e he) (by omega)
          simp [e1, e2, this]
        · simp [e1, e2]

@[simp] theorem Tbl.find_mapKV {α : Type} {t : Tbl α} {f : Nat → α → α} (a : Nat) :
    Tbl.find (Tbl.mapKV t f) a = (Tbl.find t a).map (f a) := by
  unfold Tbl.mapKV
  induction t with
  | nil => rfl
  | cons e r ih =>
    obtain ⟨j, v⟩ := e
    simp only [List.map_cons, Tbl.find]
    by_cases e1 : j = a
    · subst e1; simp
    · by_cases e2 : a < j
      · simp [e1, e2]
      · simp only [e1, e2, if_false]; exact ih

/-! ### Bytes -/

theorem Memory.get_zero {m : Memory} (w : Memory.wf m = true) (a n c : Nat) :
    Memory.get (Memory.zero m a n) c = if a ≤ c ∧ c < a + n then 0 else Memory.get m c := by
  unfold Memory.get Memory.zero Tbl.getD
  rw [Tbl.find_filter (Memory.wf_iff.1 w).2 (fun k => !(decide (a ≤ k) && decide (k < a + n)))]
  by_cases h : a ≤ c ∧ c < a + n
  · simp [h]
  · rw [if_neg h, if_pos]
    simp only [Bool.not_eq_true', Bool.and_eq_false_iff, decide_eq_false_iff_not]
    omega

theorem Memory.get_sets_out {m : Memory} (w : Memory.wf m = true) {a c : Nat} {cs : List Host.Cell} (h : ∀ x ∈ cs, a + x.1 ≠ c) :
    Memory.get (cs.foldl (fun m c => Memory.set m (a + c.1) c.2) m) c = Memory.get m c := by
  induction cs generalizing m with
  | nil => rfl
  | cons x xs ih =>
    rw [List.foldl_cons, ih (Memory.set_wf w) (fun y hy => h y (List.mem_cons_of_mem _ hy)), Memory.get_set w]
    exact if_neg fun e => h x List.mem_cons_self e.symm

/-- Cells with rising offsets, set from `a` upward: an offset listed reads its byte. -/
theorem Memory.get_sets {m : Memory} (w : Memory.wf m = true) {a i : Nat} {cs : List Host.Cell} (hc : Rising cs) :
    Memory.get (cs.foldl (fun m c => Memory.set m (a + c.1) c.2) m) (a + i) =
      match Tbl.find cs i with | some b => b | none => Memory.get m (a + i) := by
  induction cs generalizing m with
  | nil => rfl
  | cons x xs ih =>
    obtain ⟨j, b⟩ := x
    have hr := List.pairwise_cons.1 hc
    rw [List.foldl_cons, ih (Memory.set_wf w) hr.2, Memory.get_set w]
    simp only [Tbl.find]
    by_cases e1 : j = i
    · subst e1
      have : Tbl.find xs j = none := Tbl.find_none_of_lt (j := j) (fun e he => hr.1 e he) (Nat.le_refl _)
      simp [this]
    · by_cases e2 : i < j
      · have : Tbl.find xs i = none := Tbl.find_none_of_lt (j := j) (fun e he => hr.1 e he) (by omega)
        simp [e1, Ne.symm e1, e2, this]
      · simp [e1, Ne.symm e1, e2]

theorem Memory.get_paste_out {m : Memory} (w : Memory.wf m = true) {a n c : Nat} {cs : List Host.Cell} (h : c < a ∨ a + n ≤ c) :
    Memory.get (Memory.paste m a n cs) c = Memory.get m c := by
  unfold Memory.paste
  rw [Memory.get_sets_out (Memory.zero_wf w), Memory.get_zero w, if_neg (by omega)]
  intro x hx
  have := (List.mem_filter.1 hx).2
  simp only [decide_eq_true_eq] at this
  omega

theorem Memory.get_paste_in {m : Memory} (w : Memory.wf m = true) {a n i : Nat} {cs : List Host.Cell} (hc : Rising cs) (h : i < n) :
    Memory.get (Memory.paste m a n cs) (a + i) = (Tbl.find cs i).getD 0 := by
  unfold Memory.paste
  rw [Memory.get_sets (Memory.zero_wf w) (hc.sublist List.filter_sublist), Tbl.find_filter hc (fun k => decide (k < n)),
    Memory.get_zero w, if_pos (show decide (i < n) = true by simpa using h), if_pos (by omega)]
  cases Tbl.find cs i <;> rfl

theorem Memory.cells_find {m : Memory} (w : Memory.wf m = true) (a n i : Nat) :
    Rising (Memory.cells m a n) ∧ (i < n → (Tbl.find (Memory.cells m a n) i).getD 0 = Memory.get m (a + i)) := by
  unfold Memory.cells Memory.get Tbl.getD
  have hr := (Memory.wf_iff.1 w).2
  clear w
  induction m with
  | nil => exact ⟨List.Pairwise.nil, fun _ => rfl⟩
  | cons e r ih =>
    obtain ⟨j, v⟩ := e
    have hp := List.pairwise_cons.1 hr
    obtain ⟨h1, h2⟩ := ih hp.2
    rw [List.filter_cons]
    by_cases hj : (decide (a ≤ j) && decide (j < a + n)) = true
    · simp only [hj, if_true, List.map_cons]
      simp only [Bool.and_eq_true, decide_eq_true_eq] at hj
      have big : ∀ x ∈ List.map (fun c : Host.Cell => (c.1 - a, c.2)) (List.filter (fun c => decide (a ≤ c.1) && decide (c.1 < a + n)) r), j - a < x.1 := by
        intro x hx
        obtain ⟨y, hy, rfl⟩ := List.mem_map.1 hx
        have := hp.1 y (List.mem_filter.1 hy).1
        simp only at this ⊢
        omega
      refine ⟨List.pairwise_cons.2 ⟨big, h1⟩, fun hi => ?_⟩
      simp only [Tbl.find]
      by_cases e1 : j = a + i
      · have : j - a = i := by omega
        simp [e1]
      · have e2 : ¬ (j - a = i) := by omega
        by_cases e3 : a + i < j
        · have e4 : i < j - a := by omega
          simp [e1, e2, e3, e4]
        · have e4 : ¬ (i < j - a) := by omega
          simp only [e1, e2, e3, e4, if_false]
          exact h2 hi
    · simp only [hj, if_false, Bool.false_eq_true]
      refine ⟨h1, fun hi => ?_⟩
      rw [h2 hi]
      simp only [Bool.and_eq_true, decide_eq_true_eq] at hj
      simp only [Tbl.find]
      by_cases e1 : j = a + i
      · omega
      · by_cases e3 : a + i < j
        · have : Tbl.find r (a + i) = none := Tbl.find_none_of_lt (j := j) (fun e he => hp.1 e he) (by omega)
          simp [e1, e3, this]
        · simp [e1, e3]

theorem Memory.get_copy {m : Memory} (w : Memory.wf m = true) (src dst n c : Nat) :
    (c < dst ∨ dst + n ≤ c → Memory.get (Memory.copy m src dst n) c = Memory.get m c) ∧
    (∀ i, c = dst + i → i < n → Memory.get (Memory.copy m src dst n) c = Memory.get m (src + i)) := by
  constructor
  · exact fun h => Memory.get_paste_out w h
  · rintro i rfl hi
    have := Memory.cells_find w src n i
    rw [Memory.copy, Memory.get_paste_in w this.1 hi, this.2 hi]

theorem scatterCells_out {m : Memory} (w : Memory.wf m = true) {off a : Nat} {rs : List (Nat × Nat)} {cs : List Host.Cell} (h : Outside rs a) :
    Memory.get (scatterCells m off rs cs) a = Memory.get m a := by
  induction rs generalizing m off with
  | nil => rfl
  | cons r rs ih =>
    obtain ⟨pa, n⟩ := r
    unfold scatterCells
    rw [ih (Memory.paste_wf w) (fun x hx => h x (List.mem_cons_of_mem _ hx))]
    exact Memory.get_paste_out w (h (pa, n) List.mem_cons_self)

theorem scatterCells_nil {m : Memory} (w : Memory.wf m = true) {off a : Nat} {rs : List (Nat × Nat)} :
    Memory.get (scatterCells m off rs []) a = if ∃ x ∈ rs, x.1 ≤ a ∧ a < x.1 + x.2 then 0 else Memory.get m a := by
  induction rs generalizing m off with
  | nil => simp [scatterCells]
  | cons r rs ih =>
    obtain ⟨pa, n⟩ := r
    unfold scatterCells
    rw [ih (Memory.paste_wf w)]
    simp only [List.mem_cons, exists_eq_or_imp, List.filter_nil, List.map_nil]
    have hp : Memory.get (Memory.paste m pa n []) a = if pa ≤ a ∧ a < pa + n then 0 else Memory.get m a := by
      unfold Memory.paste; exact Memory.get_zero w pa n a
    rw [hp]
    by_cases h1 : ∃ x ∈ rs, x.1 ≤ a ∧ a < x.1 + x.2
    · simp [h1]
    · simp [h1]

/-! ### The stores of a measure -/

/-- From `s` to `t` memory stays canonical and changes only in the runs. -/
structure Stores (rs : List (Nat × Nat)) (s t : State) : Prop where
  wf : Memory.wf s.mem = true → Memory.wf t.mem = true
  out : Memory.wf s.mem = true → ∀ a, Outside rs a → Memory.get t.mem a = Memory.get s.mem a

theorem Stores.of_mem {rs : List (Nat × Nat)} {s t : State} (h : t.mem = s.mem) : Stores rs s t := ⟨fun w => h ▸ w, fun _ _ _ => by rw [h]⟩

theorem Stores.refl (rs : List (Nat × Nat)) (s : State) : Stores rs s s := Stores.of_mem rfl

theorem Stores.trans {rs : List (Nat × Nat)} {s t u : State} (h : Stores rs s t) (k : Stores rs t u) : Stores rs s u :=
  ⟨fun w => k.wf (h.wf w), fun w a ha => (k.out (h.wf w) a ha).trans (h.out w a ha)⟩

theorem Stores.sub {rs ts : List (Nat × Nat)} {s t : State} (h : Stores rs s t) (hs : ∀ x ∈ rs, x ∈ ts) : Stores ts s t :=
  ⟨h.wf, fun w a ha => h.out w a (ha.sub hs)⟩

theorem Stores.foldl {α : Type} {rs : List (Nat × Nat)} {s : State} {f : State → α → State} {l : List α}
    (h : ∀ s, ∀ x ∈ l, Stores rs s (f s x)) : Stores rs s (l.foldl f s) := by
  induction l generalizing s with
  | nil => exact Stores.refl rs s
  | cons x xs ih => exact (h s x List.mem_cons_self).trans (ih fun s y hy => h s y (List.mem_cons_of_mem _ hy))

theorem subRuns_mem {off n : Nat} {rs : List (Nat × Nat)} {x : Nat × Nat} (h : x ∈ subRuns off n rs) :
    ∃ y ∈ rs, y.1 ≤ x.1 ∧ x.1 + x.2 ≤ y.1 + y.2 := by
  induction rs generalizing off n with
  | nil => simp [subRuns] at h
  | cons r rs ih =>
    obtain ⟨pa, k⟩ := r
    unfold subRuns at h
    split at h
    · cases h
    · split at h
      · obtain ⟨y, hy, h1⟩ := ih h
        exact ⟨y, List.mem_cons_of_mem _ hy, h1⟩
      · rcases List.mem_cons.1 h with rfl | h
        · refine ⟨(pa, k), List.mem_cons_self, by simp, ?_⟩
          simp only; omega
        · obtain ⟨y, hy, h1⟩ := ih h
          exact ⟨y, List.mem_cons_of_mem _ hy, h1⟩

theorem Outside.subRuns {off n a : Nat} {rs : List (Nat × Nat)} (h : Outside rs a) : Outside (Machine.subRuns off n rs) a := by
  intro x hx
  obtain ⟨y, hy, h1, h2⟩ := subRuns_mem hx
  have := h y hy
  omega

/-! ### A calm pool -/

/-- No line has a wrong symbol or is poisoned, and no region is being racked: a read changes nothing, and what is written goes only where it is
written to. -/
structure Calm (s : State) : Prop where
  errs : s.mcx.errs = []
  poison : s.mcx.poison = []
  racks : ∀ e ∈ s.rgn.regions, e.2.rack = none

theorem Calm.congr {s t : State} (h : Calm s) (h1 : t.mcx = s.mcx) (h2 : t.rgn = s.rgn) : Calm t :=
  ⟨by rw [h1]; exact h.errs, by rw [h1]; exact h.poison, by rw [h2]; exact h.racks⟩

theorem State.onMcx_id {s : State} {f : Mcx → Mcx} (h : f s.mcx = s.mcx) : s.onMcx f = s := by unfold State.onMcx; rw [h]

theorem State.clearPoison_calm {s : State} (h : Calm s) (pa n : Nat) : s.clearPoison pa n = s := by
  unfold State.clearPoison
  exact State.onMcx_id (by rw [h.errs, h.poison]; simp only [List.filter_nil]; rw [← h.errs, ← h.poison])

theorem State.copyPoison_calm {s : State} (h : Calm s) (a b n : Nat) : s.copyPoison a b n = s := by
  unfold State.copyPoison
  rw [h.poison, State.clearPoison_calm h]
  rfl

theorem State.forward_calm {s : State} (h : Calm s) (p : Bool) (x : Nat × Nat) : s.forward p x = s := by
  unfold State.forward
  have : (s.rgn.regions.flatMap fun e => s.forwards e.2 x.1 x.2) = [] := by
    rw [List.flatMap_eq_nil_iff]
    intro e he
    unfold State.forwards
    rw [h.racks e he]
  rw [this]; rfl

theorem List.foldl_id {α β : Type} {f : α → β → α} {a : α} {l : List β} (h : ∀ x, f a x = a) : l.foldl f a = a := by
  induction l with
  | nil => rfl
  | cons x xs ih => rw [List.foldl_cons, h, ih]

theorem State.readCheck_calm {s : State} (h : Calm s) (g : Region) (rs : List (Nat × Nat)) : s.readCheck g rs = s := by
  unfold State.readCheck
  refine List.foldl_id fun r => ?_
  dsimp only
  rw [h.errs, h.poison]
  rfl

theorem State.checkReads_calm {s : State} (h : Calm s) (r : Run) : s.checkReads r = s :=
  List.foldl_id fun _ => State.readCheck_calm h ..

theorem State.setMem_calm {s : State} (h : Calm s) (m : Memory) : Calm (s.setMem m) := h.congr rfl rfl

theorem State.writeCells_calm {s : State} (h : Calm s) (rs : List (Nat × Nat)) (cs : List Host.Cell) :
    s.writeCells rs cs = s.setMem (scatterCells s.mem 0 rs cs) := by
  have hm := State.setMem_calm h (scatterCells s.mem 0 rs cs)
  exact List.foldl_id fun x => by rw [State.clearPoison_calm hm, State.forward_calm hm]

/-! ### What a measure stores -/

/-- A calm pool stays calm, and its bytes change only in the runs. -/
structure Measured (rs : List (Nat × Nat)) (s t : State) : Prop where
  calm : Calm t
  stores : Stores rs s t

theorem Measured.refl {rs : List (Nat × Nat)} {s : State} (h : Calm s) : Measured rs s s := ⟨h, Stores.refl rs s⟩

theorem Measured.trans {rs : List (Nat × Nat)} {s t u : State} (h : Measured rs s t) (k : Calm t → Measured rs t u) : Measured rs s u :=
  ⟨(k h.calm).calm, h.stores.trans (k h.calm).stores⟩

theorem Measured.foldl {α : Type} {rs : List (Nat × Nat)} {s : State} {f : State → α → State} {l : List α} (hs : Calm s)
    (h : ∀ s, Calm s → ∀ x ∈ l, Measured rs s (f s x)) : Measured rs s (l.foldl f s) := by
  induction l generalizing s with
  | nil => exact Measured.refl hs
  | cons x xs ih => exact (h s hs x List.mem_cons_self).trans fun c => ih c fun s c y hy => h s c y (List.mem_cons_of_mem _ hy)

/-- An operation whose frame leaves memory, controllers and regions alone. -/
theorem Measured.frame {rs : List (Nat × Nat)} {s t : State} (h : Calm s) (f : Frame 16777148 s t) : Measured rs s t :=
  ⟨h.congr (f.same .mcx rfl) (f.same .rgn rfl), Stores.of_mem (f.same .mem rfl)⟩

theorem State.writeSub_measured {s : State} (h : Calm s) (ts rs : List (Nat × Nat)) (off n : Nat) (cs : List Host.Cell) (hs : ∀ x ∈ rs, x ∈ ts) :
    Measured ts s (s.writeCells (Machine.subRuns off n rs) cs) := by
  rw [State.writeCells_calm h]
  exact ⟨State.setMem_calm h _, ⟨scatterCells_wf, fun w a ha => scatterCells_out w (ha.sub hs).subRuns⟩⟩

/-- Every byte that a completed measure may store to. -/
def Run.dest (r : Run) : List (Nat × Nat) := (r.wr ++ r.wr2).flatMap id

theorem State.writeAt_measured {s : State} (h : Calm s) (r : Run) (off len : Nat) (cs : List Host.Cell) : Measured r.dest s (s.writeAt r off len cs) := by
  have h1 : ∀ x ∈ r.wr.flatMap id, x ∈ r.dest := by
    intro x hx; unfold Run.dest; rw [List.flatMap_append]; exact List.mem_append_left _ hx
  have h2 : ∀ x ∈ r.wr2.flatMap id, x ∈ r.dest := by
    intro x hx; unfold Run.dest; rw [List.flatMap_append]; exact List.mem_append_right _ hx
  unfold State.writeAt
  refine (State.writeSub_measured h _ _ off len cs h1).trans fun hu => ?_
  revert hu
  generalize s.writeCells (Machine.subRuns off len (r.wr.flatMap id)) cs = u
  intro hu
  split
  · exact State.writeSub_measured hu _ _ off len cs h2
  · have key : ∀ (l : List (List (Nat × Nat) × List (Nat × Nat))) (acc : State × Nat), Calm acc.1 → (∀ p ∈ l, ∀ x ∈ p.2, x ∈ r.dest) →
        Measured r.dest acc.1 (l.foldl (fun (acc : State × Nat) p =>
          if p.2.isEmpty || min (off + len) (acc.2 + p.1.foldl (fun n x => n + x.2) 0) ≤ max off acc.2 then
            (acc.1, acc.2 + p.1.foldl (fun n x => n + x.2) 0)
          else (acc.1.writeCells (Machine.subRuns (max off acc.2 - acc.2)
              (min (off + len) (acc.2 + p.1.foldl (fun n x => n + x.2) 0) - max off acc.2) p.2)
            ((cs.filter fun c => max off acc.2 - off ≤ c.1).map fun c => (c.1 - (max off acc.2 - off), c.2)),
            acc.2 + p.1.foldl (fun n x => n + x.2) 0)) acc).1 := by
      intro l
      induction l with
      | nil => exact fun acc hc _ => Measured.refl hc
      | cons p ps ih =>
        intro acc hc hp
        rw [List.foldl_cons]
        refine Measured.trans ?_ (fun c => ih _ c fun q hq => hp q (List.mem_cons_of_mem _ hq))
        split
        · exact Measured.refl hc
        · exact State.writeSub_measured hc _ _ _ _ _ (hp p List.mem_cons_self)
    exact key (r.wr.zip r.wr2) (u, 0) hu fun p hp x hx => h2 x (List.mem_flatMap.2 ⟨p.2, (List.of_mem_zip hp).2, hx⟩)

theorem State.writeBytes_measured {s : State} (h : Calm s) (r : Run) (off : Nat) (bs : List Byte) : Measured r.dest s (s.writeBytes r off bs) :=
  State.writeAt_measured h r off _ _

theorem State.copyRun_measured {s : State} (h : Calm s) (r : Run) : Measured r.dest s (s.copyRun r) := by
  unfold State.copyRun
  refine Measured.foldl h fun u hu rs hrs => ?_
  have hsub : ∀ x ∈ rs, x ∈ r.dest := fun x hx => List.mem_flatMap.2 ⟨rs, hrs, hx⟩
  dsimp only
  split
  · exact Measured.refl hu
  · have hm := State.setMem_calm hu (scatterCells u.mem 0 rs (s.srcCells r))
    rw [List.foldl_id (l := (r.rd.flatMap id).zip rs) (fun p => State.copyPoison_calm hm ..), List.foldl_id (fun x => State.forward_calm hm ..)]
    exact ⟨hm, ⟨scatterCells_wf, fun w a ha => scatterCells_out w (ha.sub hsub)⟩⟩

end Sys2Proof.Machine
end

