-- ==== Sys2Proof/Laws/Measure.lean ====
section
/-! SUPPORT. A completed measure, whatever its work, stores only in its destination runs. -/

namespace Sys2Proof.Machine

variable {r : Run} {s : State}

/-! ### Reads -/

theorem State.readTables_measured {rs : List (Nat × Nat)} (h : Calm s) (hub agent pva : Nat) : Measured rs s (s.readTables hub agent pva) :=
  have q := State.readTables_quiet (Quiet.refl h.errs) hub agent pva
  ⟨h.congr q.mcx ((State.readTables_frame rfl (Frame.refl 2124097 s)).same .rgn rfl), Stores.of_mem q.mem⟩

theorem State.preTile_measured {rs : List (Nat × Nat)} (h : Calm s) (agent ops also) : Measured rs s (s.preTile agent ops also).1 :=
  (Measured.foldl h fun _ hu _ _ => State.readTables_measured hu ..).trans fun c => Measured.frame c (State.preCache_frame rfl (Frame.refl _ _))

theorem State.digestMeas_measured {rs : List (Nat × Nat)} (h : Calm s) (j : Job) : Measured rs s (s.digestMeas j) := by
  refine (State.readTables_measured h s.mir.primary j.agent (j.pva 4)).trans fun c => ?_
  show Measured rs _ (match (s.readTables s.mir.primary j.agent (j.pva 4)).checkUse j.agent (j.pva 4) true with | (.ok, some t, _) => _ | (st, _, _) => _)
  split
  · exact Measured.frame c (State.setJob_frame rfl (Frame.refl _ _))
  · exact Measured.frame c (State.stopJob_frame rfl (Frame.refl _ _))

theorem State.advance_measured {rs : List (Nat × Nat)} (h : Calm s) (a jid) : Measured rs s (s.advance a jid) := by
  unfold State.advance
  refine Measured.trans (t := (s.closeTiles a jid).syncCheck) (Measured.frame h (State.syncCheck_frame rfl (State.closeTiles_frame rfl (Frame.refl _ _)))) fun c => ?_
  revert c
  generalize (s.closeTiles a jid).syncCheck = u
  intro c
  dsimp only
  split
  · exact Measured.refl c
  · split
    · split
      · exact Measured.refl c
      · exact Measured.frame c (State.finishJob_frame rfl (Frame.refl _ _))
    · split
      · exact Measured.refl c
      · split
        · exact State.digestMeas_measured c _
        · split
          · exact Measured.refl c
          · exact Measured.frame c (State.endJob_frame rfl (State.pushNotify_frame rfl (Frame.refl _ _)))

/-! ### Operations of tiles -/

theorem State.putVals_measured (h : Calm s) (n j off idx vals) : Measured r.dest s (s.putVals n j r off idx vals) :=
  (State.writeBytes_measured h _ _ _).trans fun c => Measured.frame c (State.noteEnc_frame rfl (Frame.refl _ _))

theorem State.addPart_measured (h : Calm s) (j : Job) (id f) : Measured r.dest s (s.addPart j id f).1 :=
  Measured.frame h (State.addPart_frame rfl (Frame.refl _ _))

theorem State.doneHeader_measured (h : Calm s) (j : Job) : Measured r.dest s (s.doneHeader j r) := by
  have bad : ∀ u : State, Calm u → Measured r.dest u (u.stopJob j.agent j.jobid .malformed 0xFFFFFF) :=
    fun u c => Measured.frame c (State.stopJob_frame rfl (Frame.refl _ _))
  unfold State.doneHeader
  dsimp only
  split
  · exact bad s h
  · next clen _ =>
    refine Measured.trans (t := (s.preTile j.agent [(false, granulesOf (j.pva 2) clen)]).1) (State.preTile_measured h _ _ _) fun c => ?_
    split
    · split
      · exact bad _ c
      · split
        · exact bad _ c
        · exact Measured.frame c (State.setJob_frame rfl (Frame.refl _ _))
    · exact bad _ c

theorem State.doneExpand_measured (h : Calm s) (j : Job) : Measured r.dest s (s.doneExpand j r) := by
  unfold State.doneExpand
  extract_lets
  split
  · extract_lets
    split
    · exact Measured.frame h (State.setJob_frame rfl (Frame.refl _ _))
    · exact Measured.frame h (State.stopJob_frame rfl (Frame.refl _ _))
  · exact (State.writeBytes_measured h _ _ _).trans fun c => Measured.frame c (State.setJob_frame rfl (Frame.refl _ _))

theorem State.doneReduce_measured (h : Calm s) (n) (j : Job) : Measured r.dest s (s.doneReduce n j r) := by
  unfold State.doneReduce
  extract_lets
  split
  · exact State.putVals_measured h ..
  · split
    · next e => exact (e ▸ State.addPart_measured (r := r) h j _ _ :).trans fun c => State.putVals_measured c ..
    · next e => exact (e ▸ State.addPart_measured (r := r) h j _ _ :)

theorem State.doneTop_measured (h : Calm s) (n) (j : Job) : Measured r.dest s (s.doneTop n j r) := by
  unfold State.doneTop
  extract_lets _ _ _ _ _ _ _ _ write
  have hw : ∀ u cs, Calm u → Measured r.dest u (write u cs) := fun u cs c =>
    (State.writeBytes_measured c _ _ _).trans fun c => Measured.frame c (State.noteEnc_frame rfl (Frame.refl _ _))
  split
  · exact hw _ _ h
  · split
    · next e => exact (e ▸ State.addPart_measured (r := r) h j _ _ :).trans (hw _ _)
    · next e => exact (e ▸ State.addPart_measured (r := r) h j _ _ :)

theorem Measured.foldl_fst {α β : Type} {rs : List (Nat × Nat)} {f : State × β → α → State × β} (l : List α) (a : State × β) (ha : Calm a.1)
    (h : ∀ a x, Calm a.1 → Measured rs a.1 (f a x).1) : Measured rs a.1 (l.foldl f a).1 := by
  induction l generalizing a with
  | nil => exact Measured.refl ha
  | cons x xs ih => exact (h a x ha).trans (ih _)

theorem State.doneGather_measured (h : Calm s) (n k) (j : Job) : Measured r.dest s (s.doneGather n k j r) := by
  unfold State.doneGather
  extract_lets _ _ _ _ _ _ _ _
  refine Measured.foldl_fst _ (s, 0, 0) h ?_
  intro a x ha
  obtain ⟨u, i, at_⟩ := a
  simp only
  split
  · exact State.putVals_measured ha ..
  · split
    · exact State.putVals_measured ha ..
    · split
      · next e => exact (e ▸ State.addPart_measured (r := r) ha j _ _ :).trans fun c => State.putVals_measured c ..
      · next e => exact (e ▸ State.addPart_measured (r := r) ha j _ _ :)

theorem State.tileEffect_measured (h : Calm s) (n k : Nat) (j : Job) : Measured r.dest s (s.tileEffect n k j r) := by
  unfold State.tileEffect
  split
  · exact State.writeBytes_measured h _ _ _
  · exact (State.writeBytes_measured h _ _ _).trans fun c => Measured.frame c (State.setJob_frame rfl (Frame.refl _ _))
  · exact State.writeBytes_measured h _ _ _
  · exact State.doneHeader_measured h _
  · exact State.doneExpand_measured h _
  · exact State.writeAt_measured h ..
  · exact State.writeBytes_measured h _ _ _
  · exact (State.writeAt_measured h ..).trans fun c => Measured.frame c (State.scrubTorn_frame rfl (Frame.refl _ _))
  · extract_lets; split <;> exact Measured.frame h (State.setJob_frame rfl (Frame.refl _ _))
  · exact Measured.frame h (State.doneCompress_frame rfl (Frame.refl _ _))
  · exact Measured.frame h (State.donePush_frame rfl (Frame.refl _ _))
  · exact State.doneReduce_measured h ..
  · exact State.doneGather_measured h ..
  · exact State.doneTop_measured h ..
  · exact State.putVals_measured h ..

theorem State.doneTile_measured (h : Calm s) (n k : Nat) : Measured r.dest s (s.doneTile n k r) := by
  unfold State.doneTile
  split
  · exact Measured.refl h
  · split
    · exact Measured.refl h
    · next a jid _ _ j _ =>
      extract_lets o count
      have hc : ∀ u b, Calm u → Measured r.dest u (count u b) := fun u b c => Measured.frame c (State.setJob_frame rfl (Frame.refl _ _))
      split
      · exact (hc s 0 h).trans fun c => (Measured.frame c (State.stopJob_frame rfl (Frame.refl _ _))).trans fun c => State.advance_measured c ..
      · exact ((hc _ _ h).trans fun c => State.tileEffect_measured c ..).trans fun c =>
          (Measured.frame c (State.change_frame rfl (Frame.refl _ _))).trans fun c => State.advance_measured c ..

/-! ### Internal work, and the steps of a model -/

theorem State.zeroRuns_measured (h : Calm s) (l : List (List (Nat × Nat))) (T) (hs : ∀ rs ∈ l, ∀ x ∈ rs, x ∈ T) :
    Measured T s (l.foldl (fun s rs => s.writeCells rs []) s) :=
  Measured.foldl h fun u c rs hr => by
    rw [State.writeCells_calm c]
    exact ⟨State.setMem_calm c _, ⟨scatterCells_wf, fun w a ha => scatterCells_out w (ha.sub (hs rs hr))⟩⟩

/-- Internal work ends its pass with its stores; only the end of a racking goes on from there, and it stores nothing. -/
theorem State.doneInternal_stores (h : Calm s) : Stores r.dest s (s.doneInternal r) := by
  have act : ∀ u : State, Stores r.dest u (u.actStep r.m) := fun u => Stores.of_mem rfl
  unfold State.doneInternal
  split
  · exact Stores.of_mem ((State.sendData_frame rfl (Frame.refl 16777214 s)).same .mem rfl)
  · exact (State.zeroRuns_measured h _ _ fun rs hr x hx => List.mem_flatMap.2 ⟨rs, hr, hx⟩).stores.trans (act _)
  · exact ((State.copyRun_measured h r).stores.trans (act _)).trans
      (Stores.of_mem ((State.rackEnd_frame rfl (State.rackCopied_frame rfl (Frame.refl 16777214 _))).same .mem rfl))
  · exact (State.copyRun_measured h r).stores.trans (act _)
  · exact (State.writeBytes_measured h _ _ _).stores.trans (act _)
  · exact act _

theorem State.kvAppend_measured (h : Calm s) (j sr m e) : Measured r.dest s (s.kvAppend j sr m e r) :=
  (Measured.frame h (State.noteStep_frame rfl (Frame.refl _ _))).trans fun c => State.writeBytes_measured c r _ _

theorem State.doneLayer_measured (h : Calm s) : Measured r.dest s (s.doneLayer r) := by
  unfold State.doneLayer
  split
  · exact Measured.refl h
  · split
    · exact Measured.refl h
    · split
      · exact Measured.refl h
      · extract_lets s1 m l e s2 s3 last s4
        have h1 : Measured r.dest s s1 := Measured.frame h (State.setStep_frame rfl (Frame.refl _ _))
        split
        · exact h1.trans fun c => (Measured.frame c (State.stopJob_frame rfl (Frame.refl _ _))).trans fun c => State.advance_measured c ..
        · have h2 : Measured r.dest s s2 := h1.trans fun c => Measured.frame c (State.setJob_frame rfl (Frame.refl _ _))
          have h3 : Measured r.dest s s3 := by
            refine h2.trans fun c => ?_
            show Measured r.dest s2 s3
            unfold s3
            split
            · exact Measured.frame c (State.setStep_frame rfl (Frame.refl _ _))
            · exact State.writeBytes_measured c _ _ _
            · exact State.addPart_measured c ..
            · split
              · exact State.kvAppend_measured c ..
              · exact Measured.refl c
          have h4 : Measured r.dest s s4 := by
            refine h3.trans fun c => ?_
            show Measured r.dest s3 s4
            unfold s4
            split
            · exact Measured.refl c
            · split
              · exact Measured.frame c (State.setStep_frame rfl (Frame.refl _ _))
              · exact Measured.frame c (State.setJob_frame rfl (State.quitDie_frame rfl (Frame.refl _ _)))
              · exact Measured.frame c (State.entryDone_frame rfl (Frame.refl _ _))
          exact h4.trans fun c => (Measured.frame c (State.change_frame rfl (Frame.refl _ _))).trans fun c => State.advance_measured c ..

theorem State.retireRun_measured {rs : List (Nat × Nat)} (h : Calm s) (dead) : Measured rs s (s.retireRun r dead) := by
  unfold State.retireRun
  refine Measured.trans (t := dead.foldl (fun s d => s.retire d.1 d.2) s)
    (Measured.foldl h fun u c d _ => Measured.frame c (State.retire_frame rfl (Frame.refl _ _))) fun c => ?_
  revert c
  generalize dead.foldl (fun s d => s.retire d.1 d.2) s = u
  intro c
  have stop : ∀ a jid b, Measured rs u ((u.stopJob a jid .keyRetired 0 b).advance a jid) := fun a jid b =>
    (Measured.frame c (State.stopJob_frame rfl (Frame.refl _ _))).trans fun c => State.advance_measured c ..
  dsimp only
  split
  · exact stop ..
  · exact stop ..
  · split
    · exact Measured.frame c (State.transferEnds_frame rfl (State.stopData_frame rfl (Frame.refl _ _)))
    · exact Measured.refl c
  · exact Measured.frame c (State.breakWb_frame rfl (Frame.refl _ _))
  · exact Measured.frame c (State.actStep_frame rfl (Frame.refl _ _))

/-- A completed measure of a calm pool, whatever its work, stores only in its destination runs. -/
theorem State.completeMeasure_stores (h : Calm s) (n : Nat) (hr : (s.unit n).running = some r) : Stores r.dest s (s.completeMeasure n) := by
  unfold State.completeMeasure
  rw [hr]
  dsimp only
  have h0 : Measured r.dest s ((s.setUnit n fun u => { u with running := none }).bump blkENG (0x0500 + 4 * (n / 64))) :=
    Measured.frame h (State.bump_frame rfl (State.setUnit_frame rfl (Frame.refl _ _)))
  generalize (s.setUnit n fun u => { u with running := none }).bump blkENG (0x0500 + 4 * (n / 64)) = u at h0
  split
  · exact (h0.trans fun c => State.retireRun_measured c _).stores
  · rw [State.checkReads_calm h0.calm]
    split
    · exact (h0.trans fun c => State.doneTile_measured c n _).stores
    · exact (h0.trans fun c => State.doneLayer_measured c).stores
    · exact h0.stores.trans (State.doneInternal_stores h0.calm)

/-- The bytes that a stopped measure leaves torn lie in its destination runs. -/
theorem State.tornWrite_measured (h : Calm s) : Measured r.dest s (s.tornWrite r) :=
  Measured.trans (t := s.draw.2) ⟨h.congr rfl rfl, Stores.of_mem rfl⟩ fun c => State.writeBytes_measured c r _ _

end Sys2Proof.Machine
end

