-- ==== Sys2Proof/Tests/Slice0.lean ====
section
/-! SUPPORT. Tests: the well-formedness smoke test, a state and operands that meet the hypotheses of each obligation, and small checks of single
commands. Expected values come from the text of the specification. -/

namespace Sys2Proof.Tests.Slice0

open Sys2Proof Sys2Proof.Machine

/-! ### Builders -/

/-- A packet of opcode `op` with FLAGS and MINOR, TAG 0x77 and the words from DW2. -/
def pkt (op flags minor : Nat) (ws : List Nat) : Packet :=
  { words := ((op + 2 ^ 16 * minor + 2 ^ 24 * flags) :: (0x77 + 2 ^ 16 * (ws.length + 2)) :: ws).map fun x => BitVec.ofNat 32 x }

/-- A part that is READY and SOLO: link 0 with the provider's function 0, link 4 with function 1 of tenant 5 and agent 3, every stack READY. -/
def up : State :=
  { State.reset with
    glb := { State.reset.glb with boot := 7, hubA := true, hubB := true, tick := 70000 },
    mir := { State.reset.mir with state := .solo },
    sec := { State.reset.sec with tenants := [(0, { state := .active }), (5, { state := .active, quota := 1000 })] },
    pci := { State.reset.pci with
      links := [(0, { state := .up, fnBase := 0, nfn := 1 }), (4, { state := .up, fnBase := 1, nfn := 2 }), (16, { fnBase := 200 })],
      funcs := [(0, { link := 0, bme := true }), (1, { link := 4, bme := true, tenant := 5, agent := 3 })] },
    cmd := { State.reset.cmd with fns := [(0, { minor := 2, hello := true }), (1, { minor := 2, hello := true })] },
    mcx := { State.reset.mcx with stk := (List.range 16).map fun k => (k, { state := .ready }) } }

/-- The hypothesis that a packet is begun, as a test that runs. -/
def begins (s : State) (fn : Nat) (p : Packet) (op : Nat) : Bool :=
  s.mayBegin fn && (p.refusal (s.intake fn).minor).isNone && p.op == op && (s.stateRefusal fn op).isNone

theorem begins_of {s : State} {fn : Nat} {p : Packet} {op : Nat} (h : begins s fn p op = true) : s.Begins fn p op := by
  simp only [begins, Bool.and_eq_true, Option.isNone_iff_eq_none, beq_iff_eq] at h
  exact ⟨h.1.1.1, h.1.1.2, h.1.2, h.2⟩

/-- The hypothesis that a region command finds its region, as a test that runs. -/
def target (s : State) (fn : Nat) (p : Packet) : Bool :=
  Nat.blt (p.dw 2) 4096 && (s.region (p.dw 2)).state != .free && s.mayRegion (issuer fn p) (s.region (p.dw 2)).owner

theorem target_of {s : State} {fn : Nat} {p : Packet} (h : target s fn p = true) : s.Target fn p := by
  simp only [target, Bool.and_eq_true, bne_iff_ne] at h
  exact ⟨Nat.blt_eq.mp h.1.1, h.1.2, h.2⟩

/-- The state after a command, itself where there is none. -/
def after (c : Instr) (s : State) : State := match exec c s with | .next t => t | _ => s

/-! ### Well-formedness: each check refuses an ill-formed command -/

theorem test_wf_accepts : (Instr.hello 255 (pkt 0x0101 0 0 [0, 0x0102])).wf = true := by decide
theorem test_wf_function : (Instr.hello 256 (pkt 0x0101 0 0 [0, 0x0102])).wf = false := by decide
theorem test_wf_packet_empty : (Instr.hello 0 {}).wf = false := by decide
theorem test_wf_packet_long : ∀ ws : List Word, ws.length = 1025 → (Instr.hello 0 { words := ws }).wf = false := by
  intro ws h
  show (fnOk 0 && (Nat.blt 0 ws.length && Nat.ble ws.length 1024)) = false
  rw [h]; rfl
theorem test_wf_port : (Instr.ackTimer 15).wf = true ∧ (Instr.ackTimer 16).wf = false := by decide
theorem test_wf_xbar : (Instr.packetStart 23 3).wf = true ∧ (Instr.packetStart 24 0).wf = false ∧ (Instr.packetStart 0 4).wf = false := by decide
theorem test_wf_agent : (Instr.mcpl 0 127 0 0 []).wf = true ∧ (Instr.mcpl 0 128 0 0 []).wf = false := by decide
theorem test_wf_tenant : (Instr.oldKeyOverwrite 63).wf = true ∧ (Instr.oldKeyOverwrite 64).wf = false := by decide
theorem test_wf_link : (Instr.hostLinkDown 31).wf = true ∧ (Instr.hostLinkDown 32).wf = false := by decide
theorem test_wf_stack : (Instr.refresh 15).wf = true ∧ (Instr.refresh 16).wf = false := by decide
theorem test_wf_die_hub : (Instr.bridgeLoss 3 1).wf = true ∧ (Instr.bridgeLoss 4 1).wf = false ∧ (Instr.bridgeLoss 3 2).wf = false := by decide
theorem test_wf_engine : (Instr.measureComplete 255).wf = true ∧ (Instr.measureComplete 256).wf = false := by decide
theorem test_wf_region : (Instr.publishSwitch 4095).wf = true ∧ (Instr.publishSwitch 4096).wf = false := by decide
theorem test_wf_page : (Instr.recallDeadline 781311).wf = true ∧ (Instr.recallDeadline 781312).wf = false := by decide
theorem test_wf_vc : (Instr.xoffRepeat 0 2).wf = true ∧ (Instr.xoffRepeat 0 3).wf = false := by decide
theorem test_wf_seq : (Instr.ack 0 4095).wf = true ∧ (Instr.ack 0 4096).wf = false := by decide
theorem test_wf_register :
    (Instr.lowWordRead 0 2 0x418 false).wf = true ∧ (Instr.lowWordRead 0 2 0x41A false).wf = false ∧ (Instr.lowWordRead 0 1 0 true).wf = false ∧
      (Instr.lowWordRead 0 2 0x2000000 false).wf = false ∧ (Instr.registerWrite 0 2 0x400 3 0 false).wf = false := by decide
theorem test_wf_via : (Instr.load (.slot 255) {}).wf = true ∧ (Instr.load (.slot 256) {}).wf = false := by decide
theorem test_wf_lane : (Instr.periodicRetrain 0 true [{ ch := 31 }]).wf = true ∧ (Instr.periodicRetrain 0 true [{ ch := 32 }]).wf = false := by decide
theorem test_wf_request_gen : (Instr.swapOut .engine { gen := 2 ^ 24 - 1 }).wf = true ∧ (Instr.swapOut .engine { gen := 2 ^ 24 }).wf = false := by decide
theorem test_wf_request : (Instr.load .engine { pva := 2 ^ 52 - 1 }).wf = true ∧ (Instr.load .engine { pva := 2 ^ 52 }).wf = false := by decide
theorem test_wf_boot : (Instr.coldBoot {}).wf = true ∧ (Instr.coldBoot { stacksFailed := [16] }).wf = false := by decide

theorem test_no_table_bits : decodeTableWord 32 0x0101 = none ∧ State.reset.withFetchWord 32 0x0101 = State.reset := by decide
/-! ### Witnesses: CMD -/

def hello (major minor : Nat) : Packet := pkt 0x0101 0 2 [0, minor + 256 * major]

theorem wit_StepRunsFront : ({ up with pending := [.tickBoundary, .governorEvaluation] } : State).pending = .tickBoundary :: [.governorEvaluation] := by decide
theorem wit_StepIdles : State.reset.pending = [] := by decide
theorem wit_EveryCommandCompletes : ∃ t, exec .throttleNRelease up = .next t := ⟨_, rfl⟩
theorem wit_CommandsTouchOnlyTheirParts : Part.mem ∉ touches (.hello 1 (hello 1 2)) ∧ Part.cmd ∈ touches (.hello 1 (hello 1 2)) := by decide
theorem wit_StepKeepsInv : ({ up with pending := [.hello 1 (hello 1 2)] } : State).Inv := ⟨by decide, by decide⟩

theorem wit_HelloNegotiates :
    (up.Begins 1 (hello 2 0) 0x0101 ∧ (hello 2 0).fld 3 15 8 ≠ 1) ∧ (up.Begins 1 (hello 1 9) 0x0101 ∧ (hello 1 9).fld 3 15 8 = 1) :=
  ⟨⟨begins_of (by decide), by decide⟩, begins_of (by decide), by decide⟩

theorem wit_CapsReports :
    up.Begins 1 (pkt 0x0102 0 0 [0, 0, 64, 0]) 0x0102 ∧ (pkt 0x0102 0 0 [0, 0, 64, 0]).addr 4 % 64 = 0 ∧
      up.Begins 1 (pkt 0x0102 0 0 [0, 0, 65, 0]) 0x0102 ∧ (pkt 0x0102 0 0 [0, 0, 65, 0]).addr 4 % 64 ≠ 0 :=
  ⟨begins_of (by decide), by decide, begins_of (by decide), by decide⟩

/-- `up` with another intake of function 1. -/
def intake (i : Intake) : State := up.setIntake 1 fun _ => i

/-- `up` with function 1 replaced. -/
def fun1 (f : Func → Func) : State := up.setFn 1 f

theorem wit_IntakeTakesWords :
    up.regGate 9 true false = 0 ∧ (fun1 fun f => { f with d3 := true }).regGate 1 true true = 1 ∧
      (fun1 fun f => { f with tdi := .run }).regGate 1 true false = 2 ∧ (fun1 fun f => { f with tdi := .run }).regGate 1 true true = 4 ∧
      up.regGate 1 true false = 4 ∧ 0 < (up.intake 1).space ∧ (up.intake 1).flush = false ∧ ((up.intake 1).part.getD {}).dropped = false ∧
      ((intake { fill := [{ dws := 1024 }] }).intake 1).space = 0 ∧ ((intake { fill := [{ dws := 1024 }] }).intake 1).flush = false ∧
      (intake { fill := [{ dws := 1024 }] }).regGate 1 true false = 4 := by decide

theorem wit_FlushesAndSwaps :
    (up.intake 1).part = none ∧
      ((intake { part := some { words := [1] }, flush := true }).intake 1).part = some { words := [1] } ∧
      ((intake { part := some { words := [1] }, flush := true }).intake 1).flush = true ∧
      0 < ((intake { part := some { words := [1] }, flush := true }).intake 1).space ∧
      (intake { part := some { words := [1] }, flush := true }).regGate 1 true false = 4 ∧ (intake { fill := [{}] }).intakeOpen 1 = true ∧
      ((intake { fill := [{}] }).intake 1).drain = [] ∧ ((intake { fill := [{}] }).intake 1).fill ≠ [] ∧ up.regGate 1 true false = 4 ∧
      (up.intake 1).fill = [] := by decide

def shedding : State := { intake { drain := [{ p := hello 1 2, dws := 4, at_ := 69500 }] } with
  cmd := { (intake { drain := [{ p := hello 1 2, dws := 4, at_ := 69500 }] }).cmd with opens := [(0, { begun := 69800 })] } }

theorem wit_DeadlinesAnswer :
    shedding.mayBegin 1 = true ∧ (shedding.intake 1).drain = [{ p := hello 1 2, dws := 4, at_ := 69500 }] ∧ 69500 + 500 ≤ shedding.tick ∧
      shedding.tick < 69501 + 500 ∧ Tbl.find shedding.cmd.opens 0 = some { begun := 69800 } ∧ ({ begun := 69800 } : OpenCmd).accepted = false ∧
      69800 + 200 ≤ shedding.tick ∧ shedding.tick < 69801 + 200 := by decide

/-- `up` with the three rings of function 1 enabled. -/
def rings (s : State) : State :=
  (s.setIntake 1 fun i => { i with cpl := { ctrl := 0x80000008 }, evt := { ctrl := 0x80000006 } }).setFn 1 fun f => { f with ring := { ctrl := 0x80000006 } }

theorem wit_RecordsWaitAndDrain :
    (rings (intake { cplBuf := [{}], evtBuf := [{}] })).cplRoom 1 = true ∧ (rings (intake { cplBuf := [{}], evtBuf := [{}] })).evtRoom 1 = true ∧
      ((rings (intake { cplBuf := [{}], evtBuf := [{}] })).intake 1).cplBuf = [{}] ∧
      ((rings (intake { cplBuf := [{}], evtBuf := [{}] })).intake 1).evtBuf = [{}] ∧
      (rings (fun1 fun f => { f with ringBuf := [{}] })).fnExists 1 = true ∧ (rings (fun1 fun f => { f with ringBuf := [{}] })).ringRoom 1 = true ∧
      ((rings (fun1 fun f => { f with ringBuf := [{}] })).func 1).ringBuf = [{}] ∧ (up.intake 1).cplBuf = [] ∧ (up.intake 1).evtBuf = [] ∧
      (up.func 1).ringBuf = [] ∧ (up.func 1).reset = none ∧ (rings up).cplRoom 1 = true ∧ ((rings up).intake 1).cplBuf = [] ∧
      up.cplRoom 1 = false := by decide
/-! ### Witnesses: RGN -/

/-- `up` with region 7 of tenant 5: four pages of 2 MiB on stack 0, agent 3 attached. -/
def reg (f : Region → Region) : State :=
  { up with
    rgn := { up.rgn with
      regions := [(7, f { state := .active, owner := 5, placeMode := 1, stackMask := 1, nextPage := 4, bins := [{ units := 4, ready := true }],
                          acl := [(3, { r := true, w := true, a := true })] })],
      incarn := [(7, 1)] },
    dir := { up.dir with entries := (List.range 4).map fun i => (i, { state := .home, region := 7 }),
                         agents := [(3, { known := true, up := true })] } }

/-- Region 7 as it stands. -/
def reg7 : State := reg id
/-- Region 7 versioned, with a reserve bin. -/
def regV : State := reg fun g => { g with versioned := true, bins := g.bins ++ [{ pa := 8 * 2 ^ 20, units := 4, reserve := true, ready := true }] }

theorem wit_RegionCommandsAskForTheirRegion :
    (reg7.Begins 1 (pkt 0x0205 0 0 [7, 3]) 0x0205 ∧ reg7.Begins 1 (pkt 0x0202 0 0 [7, 0]) 0x0202 ∧ reg7.Begins 1 (pkt 0x0203 0 0 [7, 0, 1, 0]) 0x0203 ∧
      reg7.Begins 1 (pkt 0x0204 0 0 [7, 0, 0]) 0x0204 ∧ reg7.Begins 1 (pkt 0x0206 0 0 [7, 3]) 0x0206 ∧ reg7.Begins 1 (pkt 0x0207 0 2 [7, 0, 0, 0]) 0x0207 ∧
      reg7.Begins 1 (pkt 0x0208 0 0 [7, 0, 0]) 0x0208) ∧
    ((pkt 0x0202 0 0 [4096, 0]).op = 0x0202 ∧ 4096 ≤ (pkt 0x0202 0 0 [4096, 0]).dw 2) ∧
    ((pkt 0x0208 0 0 [4095, 0, 0]).op = 0x0208 ∧ (up.region 4095).state = .free) ∧
    ((pkt 0x0205 0 0 [7, 0]).op = 0x0205 ∧ ((reg fun g => { g with owner := 6 }).region 7).state ≠ .free ∧
      (reg fun g => { g with owner := 6 }).mayRegion (issuer 1 (pkt 0x0205 0 0 [7, 0])) ((reg fun g => { g with owner := 6 }).region 7).owner = false) :=
  ⟨⟨begins_of (by decide), begins_of (by decide), begins_of (by decide), begins_of (by decide), begins_of (by decide), begins_of (by decide),
    begins_of (by decide)⟩, by decide⟩

/-- REGION_CREATE of region `rid`, of tenant 5: one unit of 2 MiB on stack 0. -/
def create (rid : Nat) : Packet := pkt 0x0201 0 0 [rid, 0x50004, 1, 1, 0, 0, 0, 0, 0]

/-- Did an allocation succeed? -/
def got (x : State ⊕ Nat) : Bool := match x with | .inl _ => true | .inr _ => false

theorem got_of {x : State ⊕ Nat} (h : got x = true) : ∃ u, x = .inl u := by cases x <;> simp_all [got]

set_option maxRecDepth 16384 in
theorem wit_RegionCreateAllocates :
    up.Begins 1 (create 9) 0x0201 ∧ createFault (create 9) = none ∧ up.Begins 1 (pkt 0x0201 0 0 [9, 0x50004, 0, 1, 0, 0, 0, 0, 0]) 0x0201 ∧
      createFault (pkt 0x0201 0 0 [9, 0x50004, 0, 1, 0, 0, 0, 0, 0]) = some 4 ∧
      up.mayRegion (issuer 1 (create 9)) ((create 9).fld 3 21 16) = true ∧ up.tenantExists ((create 9).fld 3 21 16) = true ∧ (create 9).dw 2 = 9 ∧
      (up.region 9).state = .free ∧ (create 0xFFFFFFFF).dw 2 = 0xFFFFFFFF ∧ up.freeRid.isSome = true ∧
      up.tenantUse ((create 9).fld 3 21 16) + ((create 9).dw 4 + (create 9).dw 6) * (if bit ((create 9).dw 3) 7 then 2 else 1) ≤ up.quotaOf 5 ∧
      ((create 9).dw 4 + (create 9).dw 6) * (if bit ((create 9).dw 3) 7 then 2 else 1) ≤ up.freeTotal :=
  ⟨begins_of (by decide), by decide, begins_of (by decide), by decide, by decide, by decide, by decide, by decide, by decide, by decide,
    by decide, by decide⟩

theorem wit_RegionCreateAllocates_room :
    ∃ u, (up.setRegion 9 fun _ => createRegion (create 9) (issuer 1 (create 9))).allocate 9 ((create 9).dw 4) ((create 9).dw 6) = .inl u :=
  got_of (by decide)

def add : Packet := pkt 0x0203 0 0 [7, 0, 1, 0]

theorem wit_BinsAreAddedAndRead :
    (reg7.Target 1 add ∧ reg7.Begins 1 add 0x0203 ∧ add.op = 0x0203 ∧ add.dw 4 % pageUnits (reg7.region 7).psz = 0 ∧
      add.dw 5 % pageUnits (reg7.region 7).psz = 0 ∧ add.dw 4 ≠ 0 ∧ add.dw 5 = 0 ∧ (reg7.region 7).state = .active ∧ (reg7.region 7).rack = none ∧
      (reg7.region 7).nextPage + add.dw 4 / pageUnits (reg7.region 7).psz ≤ 1048576) ∧
    (∃ u, reg7.allocate 7 (add.dw 4) (add.dw 5) = .inl u) ∧
    reg7.Begins 1 (pkt 0x0208 0 0 [7, 0, 0]) 0x0208 ∧ reg7.Target 1 (pkt 0x0208 0 0 [7, 0, 0]) ∧
      (reg7.region 7).bins[0]? = some { units := 4, ready := true } :=
  ⟨⟨target_of (by decide), begins_of (by decide), by decide⟩, got_of (by decide), begins_of (by decide), target_of (by decide), by decide⟩

/-- Region 7 with agent 4 on a port of the link. -/
def regA : State := { reg7 with trt := { reg7.trt with routes := [(4, { ports := 1 })] } }
/-- `s` with a request of agent 3 for page 0 of region 7 that waits for the boundary. -/
def waiting (s : State) : State := s.later (.req { agent := 3, region := 7 })
def detach : Packet := pkt 0x0206 0 0 [7, 3]

theorem wit_AttachAndDetach :
    (regA.Begins 0 (pkt 0x0205 0 0 [7, 0x0104]) 0x0205 ∧ regA.Begins 1 detach 0x0206) ∧
    (regA.Target 0 (pkt 0x0205 0 0 [7, 0x0104]) ∧ (regA.region 7).settled = true ∧ regA.agentExists 4 = true ∧ regA.isProvider 0 = true ∧
      (regA.region 7).versioned = false ∧ regA.locked 7 = false ∧ Tbl.find (regA.region 7).acl 4 = none) ∧
    (regA.Target 1 (pkt 0x0205 0 0 [7, 0x0103]) ∧ regA.agentExists 3 = true ∧ regA.tenantOf 3 = (regA.func 1).tenant ∧
      Tbl.find (regA.region 7).acl 3 ≠ none) ∧
    (regA.Target 1 detach ∧ (Tbl.find (regA.region 7).acl 3).isSome = true ∧
      (regA.revokeRegion 7 3).inFlight { by_ := issuer 1 detach, region := 7, agents := [3] } = false ∧
      ((waiting regA).revokeRegion 7 3).inFlight { by_ := issuer 1 detach, region := 7, agents := [3] } = true) :=
  ⟨⟨begins_of (by decide), begins_of (by decide)⟩, ⟨target_of (by decide), by decide⟩, ⟨target_of (by decide), by decide⟩,
    target_of (by decide), by decide⟩

/-- `reg7` with entry `i` of the directory replaced. -/
def ent (i : Nat) (e : DirEntry) : State := reg7.setEntry i fun _ => e
def revokeAll : Packet := pkt 0x0204 0 0 [7, 0xFF, 0]
def forced : Packet := pkt 0x0204 2 0 [7, 3, 0]

theorem wit_BinRevokeWithdraws :
    reg7.Begins 1 revokeAll 0x0204 ∧
    ((reg fun g => { g with state := .creating }).Target 1 revokeAll ∧ bit revokeAll.flags 2 = false ∧
      ((reg fun g => { g with state := .creating }).region 7).settled = false) ∧
    ((ent 1 { state := .held, region := 7, holder := 3 }).Target 1 revokeAll ∧ (reg7.region 7).settled = true ∧ 0 < (reg7.region 7).bins.length ∧
      ((reg7.region 7).bins.getD 0 {}).removed = false ∧ (reg7.region 7).acl.map Prod.fst = [3] ∧ bit revokeAll.flags 1 = false ∧
      (ent 1 { state := .held, region := 7, holder := 3 }).heldIn (reg7.region 7) 0 [3] = true) ∧
    (reg7.Target 1 revokeAll ∧ reg7.heldIn (reg7.region 7) 0 [3] = false ∧
      (reg7.revokeBin 7 0 [3]).inFlight { by_ := issuer 1 revokeAll, region := 7, bin := some 0, agents := [3] } = false ∧
      ((waiting reg7).revokeBin 7 0 [3]).inFlight { by_ := issuer 1 revokeAll, region := 7, bin := some 0, agents := [3] } = true) ∧
    (reg7.Target 1 forced ∧ bit forced.flags 1 = true ∧ bit forced.flags 2 = false) :=
  ⟨begins_of (by decide), ⟨target_of (by decide), by decide⟩, ⟨target_of (by decide), by decide⟩, ⟨target_of (by decide), by decide⟩,
    target_of (by decide), by decide⟩

theorem wit_DestroyEndsARegion :
    reg7.Begins 1 (pkt 0x0202 2 0 [7, 0]) 0x0202 ∧
    ((reg fun g => { g with state := .destroying }).Target 1 (pkt 0x0202 0 0 [7, 0]) ∧
      ((reg fun g => { g with state := .destroying }).region 7).state = .destroying) ∧
    (reg7.Target 1 (pkt 0x0202 2 0 [7, 0]) ∧ bit (pkt 0x0202 2 0 [7, 0]).flags 1 = true ∧ (reg7.region 7).state ≠ .destroying ∧
      reg7.locked 7 = false ∧ (reg7.region 7).pub = none) ∧
    ((reg fun g => { g with acl := [] }).Target 1 (pkt 0x0202 0 0 [7, 0]) ∧ ((reg fun g => { g with acl := [] }).region 7).acl = [] ∧
      ((reg fun g => { g with acl := [] }).region 7).rack = none) :=
  ⟨begins_of (by decide), ⟨target_of (by decide), by decide⟩, ⟨target_of (by decide), by decide⟩, target_of (by decide), by decide⟩

/-- `reg f` with scrub 0 for `why`, its act at an end. -/
def scrub (f : Region → Region) (why : ScrubFor) : State :=
  { reg f with
    rgn := { (reg f).rgn with scrubs := [(0, { region := 7, why := why, bins := [0], by_ := some {} })], nextScrub := 1 },
    eng := { (reg f).eng with acts := [{ work := .scrub 0 }] } }

theorem wit_ScrubsEndCommands :
    Tbl.find (scrub (fun g => { g with state := .creating }) .create).rgn.scrubs 0 =
        some { region := 7, why := .create, bins := [0], by_ := some {} } ∧
      (scrub (fun g => { g with state := .creating }) .create).actDone (.scrub 0) = true ∧
      Tbl.find (scrub id .binRemove).rgn.scrubs 0 = some { region := 7, why := .binRemove, bins := [0], by_ := some {} } ∧
      (scrub id .binRemove).actDone (.scrub 0) = true ∧
      ((scrub (fun g => { g with state := .destroying }) .destroy).region 7).state = .destroying ∧
      ((scrub (fun g => { g with state := .destroying }) .destroy).region 7).removing = false ∧
      ((scrub (fun g => { g with state := .destroying }) .destroy).scrubsOf 7 fun w => w == .destroy) =
        [(0, { region := 7, why := .destroy, bins := [0], by_ := some {} })] ∧
      (scrub (fun g => { g with state := .destroying }) .destroy).actDone (.scrub 0) = true := by decide

/-- A publication of vintage 1 of region 7. -/
def pubq (ph : PubPhase) (since : Nat) : Pub := { phase := ph, vintage := 1, since := since }
/-- Region 7 versioned, with that publication. -/
def pubbed (ph : PubPhase) (since : Nat) : State := reg fun g => { g with versioned := true, pub := some (pubq ph since) }
/-- PUBLISH of region 7 from vintage `v`. -/
def publish (v : Nat) : Packet := pkt 0x0207 0 2 [7, 0, v, 0]

theorem wit_PublicationsAreDecidedAndSwitched :
    regV.Begins 1 (publish 0) 0x0207 ∧
    ((pubbed .collecting 70000).Target 1 (publish 0) ∧ ((pubbed .collecting 70000).region 7).versioned = true ∧
      ((pubbed .collecting 70000).region 7).state = .active ∧ ((pubbed .collecting 70000).region 7).vintage ≠ 2 ^ 48 - 1 ∧
      ((pubbed .collecting 70000).region 7).pub = some (pubq .collecting 70000)) ∧
    (regV.Target 1 (publish 1) ∧ (regV.region 7).versioned = true ∧ (regV.region 7).state = .active ∧ (regV.region 7).vintage ≠ 2 ^ 48 - 1 ∧
      (regV.region 7).pub = none ∧ (publish 1).dw 4 + 2 ^ 32 * (publish 1).fld 5 15 0 ≠ (regV.region 7).vintage) ∧
    (regV.Target 1 (publish 0) ∧ (regV.func 1).agent = 3 ∧ (publish 0).dw 4 + 2 ^ 32 * (publish 0).fld 5 15 0 = (regV.region 7).vintage ∧
      regV.draftsHeld 7 (some 3) = [] ∧ bit (publish 0).flags 0 = false ∧
      (regV.setEntry 4 fun _ => { state := .held, region := 7, holder := 4, view := 3 }).draftsHeld 7 (some 3) ≠ []) ∧
    ((reg7.region 7).pub = none ∧ ((pubbed .collecting 69999).region 7).pub = some (pubq .collecting 69999) ∧
      (pubq .collecting 69999).phase = .collecting ∧ (pubq .collecting 69999).since < (pubbed .collecting 69999).tick ∧
      (pubbed .collecting 69999).pubReady 7 = true) :=
  ⟨begins_of (by decide), ⟨target_of (by decide), by decide⟩, ⟨target_of (by decide), by decide⟩, ⟨target_of (by decide), by decide⟩, by decide⟩

/-! ### Witnesses: DIR -/

/-- Region 7 mapped for agent 3 at PVA 0 by a leaf of 2 MiB. -/
def mapped7 : State := { reg7 with xlt := { reg7.xlt with l0 := [(3 * 2 ^ 31, { incarn := 1, region := 7, r := true, w := true })] } }
/-- `reg7` between the failure of the primary and the switchover. -/
def cut7 : State := { reg7 with mir := { reg7.mir with state := .switching } }
/-- Function 1's ring buffer full. -/
def ringFull : State := fun1 fun f => { f with ringBuf := List.replicate 256 {} }

set_option maxRecDepth 8192 in
theorem wit_RequestsAreAdmitted :
    reqOf (.load (.slot 1) { pva := 64 }) = some (.load, .slot 1, { pva := 64 }) ∧
      reqOf (.invAck (.trellis 2 9) {}) = some (.invAck, .trellis 2 9, {}) ∧ reqOf (.store (.bar4 1 8 0) {}) = some (.store, .bar4 1 8 0, {}) ∧
      reqOf (.atomic .engine {}) = some (.atomic, .engine, {}) ∧
      reg7.serving = true ∧ reg7.barLive 1 = true ∧ (reg7.func 1).agent ≠ 0 ∧ (reg7.func 1).ringBuf.length < 256 ∧ reg7.mir.state ≠ .switching ∧
      256 ≤ (ringFull.func 1).ringBuf.length ∧ ringFull.serving = true ∧ ringFull.barLive 1 = true ∧ (ringFull.func 1).agent ≠ 0 ∧
      cut7.mir.state = .switching ∧ cut7.serving = true ∧ cut7.barLive 1 = true ∧ (cut7.func 1).ringBuf.length < 256 ∧
      (fun1 fun f => { f with d3 := true }).barLive 1 = false ∧ State.reset.serving = false ∧ (up.func 9).agent = 0 := by decide

/-- The translation of PVA 64. -/
def tr64 : Option Tr := (mapped7.check 3 64 (.req .load) (mapped7.fnHub 1)).2.1
/-- A request of agent 3 for page 0 of region 7. -/
def req (c : ReqCode) (r : DirReq) : PReq := { agent := 3, via := .slot 1, code := c, r := r, region := 7, home := 0 }
/-- A part that is PAIRED and whose delta is full. -/
def crammed : State := { reg7 with mir := { reg7.mir with state := .paired, changes := Config.deltaRoom + 1 } }

theorem wit_PassingRequestsAreDecided :
    (mapped7.check 3 64 (.req .load) (mapped7.fnHub 1)).1 = .ok ∧ tr64.isSome = true ∧ (mapped7.check 3 64 (.req .load) (mapped7.fnHub 1)).2.2 = 0 ∧
      (tr64.map fun t => mapped7.draftRevoked 3 t) = some false ∧ (tr64.map fun t => t.hot) = some false ∧ mapped7.mcx.errs = [] ∧
      (tr64.map fun t => mapped7.sec.binding.contains t.region) = some false ∧
      mapped7.serving = true ∧ mapped7.barLive 1 = true ∧ (mapped7.func 1).agent = 3 ∧ (mapped7.func 1).ringBuf.length < 256 ∧
      mapped7.mir.state ≠ .switching ∧ mapped7.tenantExists (mapped7.tenantOf 3) = true ∧ (mapped7.meter 3).colour 1 ≠ .red ∧
      mapped7.findRec 3 0 = none ∧ mapped7.inProgress 3 0 = false ∧ malformedReq .load { pva := 64 } = false ∧
      (mapped7.check 3 64 (.req .store) (mapped7.fnHub 1)).1 = .ok ∧ (mapped7.check 3 0 (.req .swapInHeld) (mapped7.fnHub 1)).1 = .ok ∧
      reg7.decidedNow (req .swapInHeld {}) = false ∧ reg7.decidedNow (req .load {}) = true ∧ reg7.noRoom (req .load {}) = false ∧
      ((reg fun g => { g with state := .lost }).region 7).state = .lost ∧
      (reg fun g => { g with state := .lost }).noRoom (req .swapInHeld {}) = false ∧ reg7.withdrawn (req .swapInHeld {}) = false := by decide

theorem wit_PassingRequestsAreDecided_full : crammed.noRoom (req .swapInHeld {}) = true := by
  have h : crammed.deltaFull = true := by
    simp [State.deltaFull, State.paired, crammed, show reg7.glb.pstate ≠ .cellar by decide]
  simp [State.noRoom, h, req]

theorem wit_TableOfTransitions :
    (reg7.region 7).pub = none ∧ (reg7.entry 100).state = .free ∧ (reg7.entry 0).wb = none ∧ (reg7.entry 0).cow = none ∧
      (reg7.entry 0).parked = [] ∧ (reg7.entry 0).view = 0 ∧ (reg7.entry 0).state = .home ∧ (reg7.entry 0).sharers = [] ∧
      ((ent 0 { state := .scrubPending, region := 7 }).entry 0).state = .scrubPending ∧
      ((ent 0 { state := .shared, region := 7, sharers := [3, 4] }).entry 0).state = .shared ∧ (∃ a ∈ [3, 4], a ≠ (req .swapInHeld {}).agent) ∧
      ((ent 0 { state := .held, region := 7, holder := 3, gen := 5 }).entry 0).holder = (req .load {}).agent ∧
      ((ent 0 { state := .held, region := 7, holder := 3, gen := 5 }).entry 0).gen = (req .swapOut { gen := 5 }).r.gen ∧
      ((ent 0 { state := .held, region := 7, holder := 3, gen := 5 }).entry 0).gen ≠ (req .swapOut { gen := 4 }).r.gen ∧
      ((ent 0 { state := .held, region := 7, holder := 4 }).entry 0).holder ≠ (req .load {}).agent ∧
      ((ent 0 { state := .recalling, prior := true, region := 7, holder := 4 }).entry 0).holds 3 = false := by decide

theorem wit_LoadReadsTheLine :
    (req .load { pva := 64 }).meas = none ∧ reg7.retired (req .load { pva := 64 }) = false ∧ reg7.decideIdx 7 0 false = 0 ∧
      (reg7.entry 0).state = .home ∧ (reg7.entry 0).sharers = [] ∧ (reg7.entry 0).wb = none ∧ (reg7.entry 0).cow = none ∧
      (reg7.entry 0).parked = [] ∧ (reg7.entry 0).view = 0 ∧ (reg7.region 7).pub = none ∧ reg7.linePa 0 (req .load { pva := 64 }) = 64 ∧
      reg7.copies (reg7.region 7) 64 = [64] ∧ Tbl.find reg7.mcx.errs 1 = none ∧ reg7.poisoned 1 = false := by decide

/-- Region 7 mirrored on stack 4. -/
def regM : State := reg fun g => { g with mirror := true, bins := g.bins ++ [{ pa := SLOT * 4, units := 4, mirrorOf := some 0, ready := true }] }

theorem wit_WritesTouchOnlyTheirBytes :
    Memory.wf regM.mem = true ∧ regM.retired (req .store { pva := 64 }) = false ∧ regM.decideIdx 7 0 false = 0 ∧ (regM.entry 0).state = .home ∧
      (regM.entry 0).sharers = [] ∧ (regM.entry 0).wb = none ∧ (regM.entry 0).cow = none ∧ (regM.entry 0).parked = [] ∧ (regM.entry 0).view = 0 ∧
      (regM.region 7).pub = none ∧ regM.copies (regM.region 7) (regM.linePa 0 (req .store { pva := 64 })) = [64, SLOT * 4 + 64] ∧
      regM.stored (regM.region 7) (regM.linePa 0 (req .store { pva := 64 })) = [64, SLOT * 4 + 64] ∧
      [64, SLOT * 4 + 64].Pairwise (fun l k => l + 64 ≤ k ∨ k + 64 ≤ l) ∧
      (∀ l ∈ [64, SLOT * 4 + 64], Tbl.find regM.mcx.errs (l / 64) = none ∧ regM.poisoned (l / 64) = false) ∧
      (List.replicate 64 (0 : Byte)).length = 64 ∧ 56 % 64 + 8 ≤ 64 ∧ 48 % 64 + 16 ≤ 64 ∧ (List.replicate 32 (0 : Byte)).length = 32 ∧
      (List.replicate 8 (0 : Byte)) = (List.replicate 32 0).take 8 := by decide

theorem wit_GrantsMovePages :
    (req .swapInHeld {}).meas = none ∧ (reg7.entry 0).state = .home ∧ (reg7.entry 0).sharers = [] ∧ (reg7.region 7).pub = none ∧
      ((ent 0 { state := .held, region := 7, holder := 3, gen := 5 }).entry 0).gen = (req .swapOut { gen := 5 }).r.gen ∧
      ((ent 0 { state := .held, region := 7, holder := 3, gen := 5 }).entry 0).gen ≠ (req .swapOut { gen := 6 }).r.gen ∧
      ((ent 0 { state := .held, region := 7, holder := 3, gen := 5 }).entry 0).holder = (req .release {}).agent ∧
      (ent 0 { state := .held, region := 7, holder := 3, gen := 5 }).decideIdx 7 0 false = 0 ∧
      ((ent 0 { state := .recalling, region := 7, sharers := [3], pending := [3], invGen := 2 }).entry 0).pending = [3] ∧
      ((ent 0 { state := .recalling, region := 7, sharers := [3], pending := [3], invGen := 2 }).entry 0).prior = false ∧
      (req .invAck { gen := 2 }).r.gen = 2 := by decide

/-- A page being recalled from agent 4, its deadline at `d`. -/
def recalled (d : Nat) : State := ent 0 { state := .recalling, region := 7, holder := 4, prior := true, deadline := some d }

theorem wit_DeadlinesAndCopiesEnd :
    ((recalled 70002).entry 0).deadline = some 70002 ∧ ((recalled 70002).entry 0).state = .recalling ∧ (recalled 70002).tick + 1 < 70002 ∧
      70001 = (recalled 70001).tick + 1 ∧ 70000 ≤ (recalled 70000).tick ∧ ((recalled 70000).entry 0).met = false ∧
      ((recalled 70000).entry 0).prior = true ∧ ((recalled 70000).entry 0).wb = none ∧ ((recalled 70000).entry 0).cow = none ∧
      ((recalled 70000).entry 0).parked = [] ∧
      ((ent 0 { state := .recalling, region := 7, holder := 4, met := true, deadline := some 70000 }).entry 0).met = true ∧
      ((ent 0 { state := .held, region := 7, holder := 3, wb := some { total := 1 } }).entry 0).wb = some { total := 1 } ∧
      ({ total := 1 } : WriteBack).cut ≠ 1 ∧ ({} : WriteBack).cut = ({} : WriteBack).total ∧ ({} : WriteBack).keep = false ∧
      ({} : WriteBack).early = false ∧ ({} : WriteBack).q.meas = none ∧
      (({ ent 0 { state := .held, region := 7, holder := 3, wb := some {} } with
          eng := { reg7.eng with acts := [{ work := .writeBack 0 }] } } : State).actDone (.writeBack 0)) = true ∧
      ((ent 0 { state := .held, region := 7, holder := 3, wb := some {} }).entry 0).nextWb = none ∧
      reg7.actDone (.cow 0) = false ∧ ((ent 0 { state := .home, region := 7, cow := some {} }).entry 0).cow = some {} ∧
      (({ ent 0 { state := .home, region := 7, cow := some {} } with eng := { reg7.eng with acts := [{ work := .cow 0 }] } } : State).actDone (.cow 0)) =
        true ∧ ({} : CowCopy).waiters = [] := by decide

/-- What DIR knows of agent 3 replaced. -/
def agent3 (a : AgentSt) : State := { reg7 with dir := { reg7.dir with agents := [(3, a)] } }
/-- Agent 3's link down since tick `d`, its loss after 1 ms. -/
def gone (d : Nat) : State := agent3 { known := true, downAt := d, lossMs := 1 }

theorem wit_RecordsAgeAndAgentsAreLost :
    ({ up with glb := { up.glb with tick := 2 ^ 20 } } : State).tick % 2 ^ 20 = 0 ∧ bit up.xlt.hot.toNat 16 = true ∧ up.xlt.decayed ≠ 2 ^ 20 ∧
      up.glb.boot = 7 ∧ up.glb.readyAt + 65536 ≤ up.tick ∧ up.mayProvide 0 = true ∧ (up.xhub 0).walks.contains (3, 0) = false ∧
      (({ up with xlt := { up.xlt with hubs := [(0, { walks := [(3, 0)] })] } } : State).xhub 0).walks.contains (3, 0) = true ∧
      Tbl.find ({ up with eng := { up.eng with recs := [(3, [{ at_ := 1 }])] } } : State).eng.recs 3 = some [{ at_ := 1 }] ∧
      (up.agentSt 9).known = false ∧ (reg7.agentSt 3).up = true ∧
      ((gone 69218).agentSt 3).known = true ∧ ((gone 69218).agentSt 3).up = false ∧ ((gone 69218).agentSt 3).lost = false ∧
      ((gone 69218).agentSt 3).flr = false ∧ ((gone 69218).agentSt 3).downAt + msTicks ((gone 69218).agentSt 3).lossMs ≤ (gone 69218).tick ∧
      (gone 69218).tick < ((gone 69219).agentSt 3).downAt + msTicks ((gone 69219).agentSt 3).lossMs ∧ (gone 69218).cellar = false ∧
      (gone 69218).glb.change = .none ∧ ((agent3 { known := true, lost := true }).agentSt 3).lost = true ∧
      ((agent3 { known := true, lost := true }).agentSt 3).up = false ∧ (agent3 { known := true, lost := true }).linkUpNow 3 = true := by decide

/-! ### Witnesses: XLT -/

/-- MAP_UPDATE of agent 3, one entry: PVA 0 to frame 0 of region 7, readable and writable. -/
def mapUpd : Packet := pkt 0x0301 0 1 [3, 0x10000, 0, 0, 0, 0, 0x0F, 0x70000, 0, 0]
/-- The same of region 8, which is FREE. -/
def mapBad : Packet := pkt 0x0301 0 1 [3, 0x10000, 0, 0, 0, 0, 0x0F, 0x80000, 0, 0]
/-- MAP_DIGEST of agent 3: one entry at PVA 0, into the buffer at 64. -/
def mapDig : Packet := pkt 0x0302 0 0 [3, 0, 0, 0, 1, 0, 64, 0]
/-- A digest of agent 3 over 257 entries that began at tick `d`. -/
def digesting (d : Nat) : State := { up with xlt := { up.xlt with digests := [{ agent := 3, count := 257, start := d }] } }

theorem wit_TablesChangeWholeAndDigestsEnd :
    (reg7.Begins 1 mapUpd 0x0301 ∧ mapHead mapUpd = false ∧ reg7.Begins 1 (pkt 0x0301 0 1 [3, 0, 0, 0, 0, 0]) 0x0301 ∧
      mapHead (pkt 0x0301 0 1 [3, 0, 0, 0, 0, 0]) = true) ∧
    (reg7.Begins 1 mapDig 0x0302 ∧ digestHead mapDig = none ∧ reg7.Begins 1 (pkt 0x0302 0 0 [3, 0, 0, 0, 1, 0, 65, 0]) 0x0302 ∧
      digestHead (pkt 0x0302 0 0 [3, 0, 0, 0, 1, 0, 65, 0]) = some 8) ∧
    (mapUpd.op = 0x0301 ∧ reg7.mapHeld 3 = false ∧ reg7.mayMap (issuer 1 mapUpd) 3 = true ∧
      reg7.entryCause 3 0 0 1 ((List.range 1).map fun k => entryOf mapUpd k) 0 = none ∧
      (reg7.mapped 3 0 0 ((List.range 1).map fun k => entryOf mapUpd k)).tables ≤ TABLES ∧ bit mapUpd.flags 0 = false ∧
      reg7.mayMap (issuer 1 mapUpd) 9 = false ∧ reg7.mapHeld 9 = false ∧ mapHead mapBad = false ∧ mapBad.op = 0x0301 ∧
      (reg7.entryCause 3 0 0 1 ((List.range 1).map fun k => entryOf mapBad k) 0).isSome = true ∧ mapDig.op = 0x0302 ∧
      reg7.mayMap (issuer 1 mapDig) 3 = true) ∧
    (((digesting 69998).xlt.digests.find? fun d => d.agent == 3) = some { agent := 3, count := 257, start := 69998 } ∧
      69998 + ceilDiv 257 256 ≤ (digesting 69998).tick ∧ (digesting 69998).xlt.heldMaps = [] ∧ (digesting 69999).tick < 69999 + ceilDiv 257 256) :=
  ⟨⟨begins_of (by decide), by decide, begins_of (by decide), by decide⟩, ⟨begins_of (by decide), by decide, begins_of (by decide), by decide⟩,
    by decide, by decide⟩

/-- `up` with fault record `f` in slot 2. -/
def faulted (f : FaultRec) : State := { up with xlt := { up.xlt with faults := [(2, f)], owner := [(3, 1)] } }
def resolve2 : Packet := pkt 0x0303 0 0 [2, 0]

theorem wit_FaultRecordsClose :
    up.Begins 1 resolve2 0x0303 ∧
    (resolve2.op = 0x0303 ∧ resolve2.fld 2 15 0 % 1024 = 2 ∧ Tbl.find up.xlt.faults 2 = none ∧ 1 ≠ resolve2.fld 2 15 0 / 1024 ∧
      0 = resolve2.fld 2 15 0 / 1024 ∧ Tbl.find (faulted { agent := 4 }).xlt.faults 2 = some { agent := 4 } ∧ (faulted { agent := 4 }).isProvider 1 = false ∧
      Tbl.find (faulted { agent := 4 }).xlt.owner 4 ≠ some 1 ∧ Tbl.find (faulted { agent := 3 }).xlt.owner 3 = some 1 ∧
      ({ agent := 3 } : FaultRec).waiters = []) ∧
    (up.tick + 1 < 69001 + 1001 ∧ up.tick + 1 = 69001 + 1000 ∧ 69000 + 1000 ≤ up.tick) :=
  ⟨begins_of (by decide), by decide⟩

/-- `reg7` with job 5 of agent 3. -/
def jobbed (j : Job) : State := { mapped7 with eng := { mapped7.eng with jobs := [(3 * 65536 + 5, j)] } }
/-- SCRUB of 64 bytes at PVA 0, as descriptor words. -/
def scrubDesc : List Nat := [3, 0x10005, 0, 0, 0, 0, 64, 0x10001, 0, 0, 0, 0, 0, 0, 0, 0]
def job5 : Job := { agent := 3, jobid := 5, by_ := some (issuer 1 (pkt 0x0401 0 0 ([0, 0] ++ scrubDesc))),
                    desc := (pkt 0x0401 0 0 ([0, 0] ++ scrubDesc)).words.drop 4, acceptedAt := 70000 }

theorem wit_TilesArePrechecked :
    (jobbed job5).mir.state ≠ .switching ∧ (jobbed job5).failedPart = false ∧ (jobbed job5).cellar = false ∧ up.job? 3 5 = none ∧
      (jobbed job5).job? 3 5 = some job5 ∧ job5.step = none ∧ job5.preReady 70001 = true ∧
      ({ job5 with next := 1 } : Job).preReady 70000 = false ∧ ({ job5 with step := some {} } : Job).state = .queued ∧
      ({ phase := .pre } : StepRun).phase = .pre := by decide

/-! ### Witnesses: TLK -/

/-- `up` with Trellis port 2. -/
def port2 (x : Port) : State := up.setPort 2 fun _ => x
/-- Port 2 UP with packets 3 and 4 held. -/
def held2 (n : Nat) : State := port2 { state := .up, next := 5, held := [{ seq := 3 }, { seq := 4 }], replays := n }

theorem wit_HeldPacketsAreFreedOrReplayed :
    (held2 0).portUp 2 = true ∧ ((held2 0).port 2).held.length = 2 ∧ (5 + 4095 - 4 % 4096) % 4096 = 0 ∧ (5 + 4095 - 3 % 4096) % 4096 = 1 ∧
      (5 + 4095 - 2 % 4096) % 4096 = 2 ∧ (5 + 4095 - 2053 % 4096) % 4096 = 2047 ∧ (5 + 4095 - 2052 % 4096) % 4096 = 2048 ∧
      (5 + 4096 - 3 % 4096) % 4096 = 2 ∧ ((held2 0).port 2).replays < (held2 0).replayMax ∧ (held2 8).replayMax ≤ ((held2 8).port 2).replays ∧
      (5 + 4096 - 4 % 4096) % 4096 = 1 ∧ (5 + 4096 - 2 % 4096) % 4096 = 3 ∧ (5 + 4096 - 2053 % 4096) % 4096 = 2048 ∧
      (5 + 4096 - 2052 % 4096) % 4096 = 2049 ∧ ((held2 0).port 2).held = { seq := 3 } :: [{ seq := 4 }] := by decide

/-- Port 2 with VC 1 held off by the part, and VC 0 by the partner since tick `d`. -/
def held0 (d : Nat) : State := port2 { state := .up, xoffRx := 2, head := 6144, xoffTx := 1, xoffAt := [(0, d)], unacked := true }

theorem wit_FlowControl :
    (held0 69610).portUp 2 = true ∧ bit ((held0 69610).port 2).xoffRx 1 = true ∧ ((held0 69610).port 2).free 1 ≤ ((held0 69610).port 2).head ∧
      Tbl.find ((held0 69610).port 2).xoffAt 0 = some 69610 ∧ bit ((held0 69610).port 2).xoffTx 0 = true ∧ 69610 + up.xoffTicks ≤ up.tick ∧
      up.tick < 69611 + up.xoffTicks ∧ ((held0 69610).port 2).unacked = true ∧ ((port2 { state := .up }).port 2).unacked = false := by decide

/-- A LOAD of agent 9 as it arrives: its SEQ and ENC, the flits that it says it has and that it has, and the first byte of its tag. -/
def rx (seq : Nat) (enc : Bool) (len flits : Nat) (tag : Byte) : List Byte :=
  withCrc (leBytes 4 (linkWord seq enc 0 (len - 1) 0 0) ++ [0, 0, 0, 0, tag] ++ List.replicate 15 0 ++ transHead 7 9 0x01 ++
    List.replicate (64 * flits - 32) 0)

set_option maxRecDepth 30000 in
theorem wit_BadPacketsAreDiscarded :
    (port2 { state := .up, e := 5 }).portUp 2 = true ∧ ((port2 { state := .up, e := 5 }).port 2).nakSent = false ∧
      ((port2 { state := .up, e := 5, nakSent := true }).port 2).nakSent = true ∧ crcGood ((rx 5 false 1 1 0).set 40 1) = false ∧
      crcGood (rx 5 false 2 1 0) = true ∧ (rxHead (rx 5 false 2 1 0)).len + 1 ≠ (rx 5 false 2 1 0).length / 64 ∧
      crcGood (rx 5 true 1 1 0) = true ∧ (rxHead (rx 5 true 1 1 0)).enc ≠ ((port2 { state := .up, e := 5 }).port 2).enc ∧
      (rxHead (rx 5 false 1 1 0)).len + 1 = (rx 5 false 1 1 0).length / 64 ∧ 1 ≤ ((port2 { state := .up, e := 5 }).port 2).maxFlits ∧
      (5 + 4096 - (rxHead (rx 4 false 1 1 0)).seq % 4096) % 4096 = 1 ∧ (5 + 4096 - 2054 % 4096) % 4096 = 2047 ∧
      2047 < (5 + 4096 - (rxHead (rx 6 false 1 1 0)).seq % 4096) % 4096 ∧ (5 + 4096 - 2053 % 4096) % 4096 = 2048 ∧
      ((port2 { state := .up, e := 5 }).port 2).dupAcked = false ∧ crcGood (rx 5 false 1 1 0) = true ∧ (rxHead (rx 5 false 1 1 0)).seq = 5 ∧
      (rxHead (rx 5 false 1 1 0)).rsv = 0 ∧ (rxHead (rx 5 false 1 1 0)).kind = 0 ∧ (rxHead (rx 5 false 1 1 0)).vc ≠ 3 ∧
      (rxCommand 2 (rxHead (rx 5 false 1 1 0)) (rx 5 false 1 1 0)).isSome = true ∧
      ((port2 { state := .up, e := 5, enc := true }).port 2).enc = true ∧ (rxHead (rx 5 true 1 1 0)).enc = true := by decide

/-- Of two packets that differ in their tag alone, one has a bad tag. -/
theorem wit_BadPacketsAreDiscarded_tag : unlock {} (rx 5 true 1 1 0) = none ∨ unlock {} (rx 5 true 1 1 1) = none := by
  have h1 : (rx 5 true 1 1 0).take 4 ++ cut (rx 5 true 1 1 0) 24 8 = (rx 5 true 1 1 1).take 4 ++ cut (rx 5 true 1 1 1) 24 8 := by decide
  have h2 : (rx 5 true 1 1 0).drop 32 = (rx 5 true 1 1 1).drop 32 := by decide
  have h3 : (cut (rx 5 true 1 1 0) 8 16).map BitVec.toNat ≠ (cut (rx 5 true 1 1 1) 8 16).map BitVec.toNat := by decide
  unfold unlock gcmOpen
  rw [h1, h2]
  simp only []
  split
  · rename_i h; rw [beq_iff_eq] at h
    right; rw [if_neg (by rw [h, beq_iff_eq]; exact h3)]; rfl
  · left; rfl

/-- Port 2 in a retrain, its link broken in tick `d`. -/
def retrain2 (a d : Nat) : State := port2 { state := .retrain, attempt := a, brokeAt := d }
/-- Port 2 as it reaches the end of a training, offering version `tl` at most, with encryption required or not. -/
def train2 (tl : Nat) (req : Bool) : State := port2 { state := .training, tlMax := tl, encReq := req }

theorem wit_PortsChangeState :
    ((port2 { state := .down }).port 2).state = .down ∧ (port2 { state := .down }).cellar = false ∧ (port2 { state := .down }).failedPart = false ∧
      (port2 { state := .down }).glb.change = .none ∧ hubOfPort 2 ∉ (port2 { state := .down }).mir.hubsLost ∧
      (port2 { state := .down }).mayProvide 0 = true ∧ ((train2 2 false).port 2).state = .training ∧
      (train2 2 false).negotiate 2 3 false false false = .inl (2, false) ∧ ((train2 2 false).port 2).fits 100 = true ∧
      (train2 2 true).negotiate 2 3 false false false = .inr 11 ∧ (train2 2 false).negotiate 2 0 false false false = .inr 12 ∧
      ((train2 2 false).port 2).fits 10000 = false ∧ ((retrain2 4 70000).port 2).attempt = 4 ∧ ((retrain2 3 62188).port 2).attempt < 4 ∧
      up.tick < ((retrain2 3 62188).port 2).brokeAt + 7813 ∧ ((retrain2 3 62187).port 2).brokeAt + 7813 ≤ up.tick ∧
      (port2 { state := .up }).portUp 2 = true ∧ ((port2 { state := .up }).port 2).off = false ∧
      (port2 { state := .down }).portUp 2 = false ∧ ((port2 { state := .disabled, off := true }).port 2).off = true := by decide

/-- Port 2 UP, in the route of agent 9. -/
def routed : State := { port2 { state := .up } with trt := { up.trt with routes := [(9, { ports := 4 })] } }

theorem wit_PacketsAreTaken :
    routed.portUp 2 = true ∧ 1 + ceilDiv 16 16 ≤ (routed.port 2).maxFlits ∧ 1 + ceilDiv 16 16 ≤ (routed.port 2).free 0 ∧
      1 + ceilDiv 64 64 ≤ (routed.port 2).free 2 ∧ routed.mir.state ≠ .switching ∧ bit (routed.route 9).ports 2 = true ∧
      bit ((port2 { state := .up }).route 9).ports 2 = false := by decide

/-! ### Witnesses: ENG and OPU -/

def submit : Packet := pkt 0x0401 0 0 ([0, 0] ++ scrubDesc)
/-- A job of opcode 0x20, in the LENGTH of one without AUX words. -/
def submitBad : Packet := pkt 0x0401 0 0 ([0, 0] ++ [0x20, 0x10005] ++ List.replicate 14 0)
def query : Packet := pkt 0x0408 0 1 [3, 5]
def abort : Packet := pkt 0x0402 0 0 [3, 5]
/-- `mapped7` with the record of job 5 of agent 3. -/
def recorded : State := { mapped7 with eng := { mapped7.eng with recs := [(3, [{ jobid := 5, at_ := 1 }])] } }
/-- Job 5 RUNNING, with a measure on engine 0. -/
def running5 : State := { jobbed { job5 with state := .running } with
  eng := { (jobbed { job5 with state := .running }).eng with units := [(0, { running := some { m := { work := .job 3 5 } } })] } }

theorem wit_JobsAreAcceptedAndAnswered :
    (mapped7.Begins 1 submit 0x0401 ∧ mapped7.Begins 1 abort 0x0402 ∧ mapped7.Begins 1 query 0x0408) ∧
    (submit.op = 0x0401 ∧ ((fun1 fun f => { f with agent := 0 }).func 1).agent = 0 ∧ (mapped7.func 1).agent = 3 ∧
      ¬(submitBad.len = 36 ↔ 0x20 ≤ submitBad.fld 4 7 0 ∧ submitBad.fld 4 7 0 ≤ 0x3F) ∧
      (submit.len = 36 ↔ 0x20 ≤ submit.fld 4 7 0 ∧ submit.fld 4 7 0 ≤ 0x3F) ∧ submit.fld 5 15 0 = 5 ∧ (jobbed job5).job? 3 5 = some job5 ∧
      recorded.job? 3 5 = none ∧ (recorded.jobRec? 3 5).isSome = true ∧ mapped7.job? 3 5 = none ∧ mapped7.jobRec? 3 5 = none ∧
      job5 = { agent := 3, jobid := 5, by_ := some (issuer 1 submit), desc := submit.words.drop 4, acceptedAt := mapped7.tick } ∧ job5.op ≠ 4 ∧
      mapped7.descRefusal job5 false = none ∧ mapped7.jobsFull 3 = false ∧ (reg7.descRefusal { job5 with desc := [] } false).isSome = true) ∧
    (query.op = 0x0408 ∧ query.fld 2 7 0 = 3 ∧ query.fld 3 15 0 = 5 ∧ (jobbed job5).mayJob (issuer 1 query) 3 = true ∧
      (jobbed job5).mayJob (issuer 1 (pkt 0x0408 0 1 [4, 5])) 4 = false ∧ recorded.mayJob (issuer 1 query) 3 = true ∧
      mapped7.mayJob (issuer 1 query) 3 = true) ∧
    (abort.op = 0x0402 ∧ abort.fld 2 7 0 = 3 ∧ abort.fld 3 15 0 = 5 ∧ (jobbed job5).mayJob (issuer 1 (pkt 0x0402 0 0 [4, 5])) 4 = false ∧
      running5.mayJob (issuer 1 abort) 3 = true ∧ running5.job? 3 5 = some { job5 with state := .running } ∧ job5.isRack = false ∧
      job5.agent = 3 ∧ job5.jobid = 5 ∧ running5.workRuns job5.work = true) :=
  ⟨⟨begins_of (by decide), begins_of (by decide), begins_of (by decide)⟩, by decide⟩

set_option maxRecDepth 8192 in
theorem wit_JobsAreAcceptedAndAnswered_full :
    ({ mapped7 with eng := { mapped7.eng with jobs := (List.range 128).map fun k => (3 * 65536 + k, { agent := 3, jobid := k }) } } : State).jobsFull 3 =
      true := by decide

/-- `up` with engine 0. -/
def eng0 (u : EngUnit) : State := { up with eng := { up.eng with units := [(0, u)] } }
def zeroing : Run := { m := { kind := .zero }, wr := [[(0, 64)]] }
def copying : Run := { m := { kind := .copy }, rd := [[(0, 64)]], wr := [[(128, 64)]] }
/-- A write whose tag is of a generation that no tenant has. -/
def dead : Run := { m := { kind := .zero }, wr := [[(0, 64)]], tags := [some (9, 1)] }

theorem wit_MeasuresStoreInTheirDestinations :
    (up.unit 0).running = none ∧ Memory.wf (eng0 { running := some zeroing }).mem = true ∧ (eng0 { running := some zeroing }).mcx.errs = [] ∧
      (eng0 { running := some zeroing }).mcx.poison = [] ∧ (∀ e ∈ (eng0 { running := some zeroing }).rgn.regions, e.2.rack = none) ∧
      ((eng0 { running := some zeroing }).unit 0).running = some zeroing ∧ zeroing.m.kind = .zero ∧
      (eng0 { running := some zeroing }).deadSides zeroing = [] ∧ ((eng0 { running := some copying }).unit 0).running = some copying ∧
      copying.m.kind = .copy ∧ (eng0 { running := some copying }).deadSides copying = [] ∧ copying.rd = [[(0, 64)]] ∧ copying.wr = [[(128, 64)]] ∧
      copying.wr2 = [] ∧ (eng0 { running := some dead }).deadSides dead ≠ [] := by decide

/-- A job's measure on engine 0, with and without a destination. -/
def jobRun (wr : List (List (Nat × Nat))) : Run := { m := { work := .job 3 5 }, wr := wr }

theorem wit_EnginesLeaveAndReturn :
    up.mayProvide 0 = true ∧ (up.unit 255).offline = false ∧ ((eng0 { offline := true }).unit 0).offline = true ∧
      ((eng0 { offline := true }).unit 0).failed = false ∧ ((eng0 { offline := true, failed := true }).unit 0).failed = true ∧
      ((eng0 { testLeft := some 0 }).unit 0).testLeft = some 0 ∧ (up.unit 0).failed = false ∧ (up.unit 0).running = none ∧
      ((eng0 { running := some { m := { work := .scrub 0 } } }).unit 0).running = some { m := { work := .scrub 0 } } ∧
      (Work.scrub 0).job? = none ∧ (eng0 { running := some { m := { work := .scrub 0 } } }).dropped (.scrub 0) = true ∧
      (scrub id .create).dropped (.scrub 0) = false ∧ (jobRun []).m.work.job? = some (3, 5) ∧ (jobRun []).wr = [] ∧ (jobRun [[(0, 64)]]).wr ≠ [] ∧
      Memory.wf up.mem = true := by decide

/-- Region 7 with page 0 racked to the frame of entry 48640, `n` measures of it outstanding. -/
def racked (n : Nat) : State := reg fun g => { g with rack := some { copying := [{ old := 0, new_ := 48640, left := n }] } }
/-- Its old bins scrubbed. -/
def scrubbed7 : State := scrub (fun g => { g with rack := some { rewritten := true, oldBins := [0] } }) .rackOld

theorem wit_RackingMovesPages :
    ((racked 1).rgn.regions.flatMap fun e => (racked 1).forwards e.2 64 64) = [(64, idxPa 48640 + 64, 64)] ∧ Memory.wf (racked 1).mem = true ∧
      ((racked 0).region 7).rack = some { copying := [{ old := 0, new_ := 48640 }] } ∧
      [({ old := 0, new_ := 48640 } : RackPage)].find? (fun c => c.old == 0 && c.left == 0) = some { old := 0, new_ := 48640 } ∧
      (racked 0).pageQuiet 0 ((racked 0).region 7).pageSize = true ∧ ((racked 0).entry 0).wb = none ∧ ((racked 0).entry 0).cow = none ∧
      (∀ c ∈ [({ old := 0, new_ := 48640, left := 1 } : RackPage)], c.old = 0 → c.left ≠ 0) ∧ ({} : Rack).rewritten = false ∧ ({} : Rack).ending = none ∧
      ({} : Rack).todo = [] ∧ ({} : Rack).copying = [] ∧
      (scrubbed7.scrubsOf 7 fun w => w == .rackOld) = [(0, { region := 7, why := .rackOld, bins := [0], by_ := some {} })] ∧
      scrubbed7.actDone (.scrub 0) = true ∧ (scrubbed7.region 7).rack = some { rewritten := true, oldBins := [0] } := by decide

/-- MODEL_LOAD of slot 1 by tenant 5: two layers, HID 64, OUTLEN 8, one slot, CTX_MAX 16, user agent 3. -/
def load1 : Packet := pkt 0x0403 0 0 [1, 0x50002, 64, 8, 1, 16, 0, 0, 0, 0, 0, 0, 0, 8, 0, 0, 0]
/-- The same for tenant 6. -/
def load6 : Packet := pkt 0x0403 0 0 [1, 0x60002, 64, 8, 1, 16, 0, 0, 0, 0, 0, 0, 0, 8, 0, 0, 0]
def model1 : Model := { state := .ready, owner := 5, layers := 2, hid := 64, outlen := 8, slots := 1, ctxMax := 16, buflen := List.replicate 14 0,
                        users := 8 }
/-- Region 7 on die 0, read only, with model 1. -/
def modelled (m : Model) : State :=
  { reg fun g => { g with placeMode := 2, stackMask := 0, acl := [(3, { r := true })] } with opu := { up.opu with models := [(1, m)] } }
def unload1 : Packet := pkt 0x0405 0 0 [1, 0]
def users1 : Packet := pkt 0x0406 0 1 [1, 0, 8, 0, 0, 0]
/-- Model 1 with a live step. -/
def stepping : State := { modelled model1 with
  eng := { up.eng with jobs := [(3 * 65536 + 5, { agent := 3, jobid := 5, step := some { model := 1 } })] } }

theorem wit_ModelsAreLoadedAndUnloaded :
    (up.Begins 1 load1 0x0403 ∧ up.Begins 1 unload1 0x0405 ∧ up.Begins 1 users1 0x0406 ∧ load1.fld 2 3 0 = 1) ∧
    (load1.op = 0x0403 ∧ up.mayModel (issuer 1 load6) (load6.fld 3 21 16) (mask128 load6 15) = false ∧
      up.mayModel (issuer 1 load1) (load1.fld 3 21 16) (mask128 load1 15) = true ∧ (modelled model1).mayModel (issuer 1 load1) 5 8 = true ∧
      ((modelled model1).model 1).state ≠ .free ∧ (up.model 1).state = .free ∧ up.tenantExists 5 = true ∧ load1.fld 3 8 0 = 2 ∧
      load1.fld 4 23 20 ≤ 2 ∧ load1.fld 4 19 16 ≤ 2 ∧ 0 < load1.fld 4 15 0 ∧ load1.fld 4 15 0 ≤ 32768 ∧ load1.fld 5 18 0 ≤ 262144 ∧
      0 < load1.fld 6 11 0 ∧ 0 < load1.fld 7 20 0 ∧ load1.fld 7 20 0 ≤ 1048576 ∧ (∀ n ∈ bufLens load1, n ≤ 32768)) ∧
    (users1.op = 0x0406 ∧ unload1.op = 0x0405 ∧ (modelled model1).mayModel (issuer 1 users1) 5 (mask128 users1 4) = true ∧
      (modelled model1).mayModel (issuer 1 unload1) 5 0 = true ∧ (modelled model1).liveSteps 1 = [] ∧ ((modelled model1).model 1).state ≠ .unloading ∧
      stepping.liveSteps 1 ≠ [] ∧ stepping.mayModel (issuer 1 unload1) 5 0 = true ∧ bit unload1.flags 1 = false) :=
  ⟨⟨begins_of (by decide), begins_of (by decide), begins_of (by decide), by decide⟩, by decide⟩

/-- LAYER_PLACE of layer 0 of model 1: one entry, operator 7 on B0, NOKV. -/
def place1 : Packet := pkt 0x0404 0 0 [1, 0x18000, 7, 0, 0, 0, 7, 64, 0, 0, 0, 0, 0, 0]
/-- DECODE_STEP of model 1 with one sequence. -/
def step1 : Packet := pkt 0x0407 0 0 [1, 0x10005, 0, 0, 4096, 0, 0]
def loading : State := modelled { model1 with state := .loading }

theorem wit_LayersArePlacedAndStepsBegin :
    (loading.Begins 1 place1 0x0404 ∧ place1.len = 8 + 8 * place1.fld 3 22 16 ∧ loading.Begins 1 (pkt 0x0404 0 0 [1, 0x28000, 7, 0, 0, 0]) 0x0404 ∧
      (pkt 0x0404 0 0 [1, 0x28000, 7, 0, 0, 0]).len ≠ 8 + 8 * (pkt 0x0404 0 0 [1, 0x28000, 7, 0, 0, 0]).fld 3 22 16) ∧
    (loading.Begins 1 step1 0x0407 ∧ step1.len = 8 + step1.fld 3 20 16 ∧ loading.Begins 1 (pkt 0x0407 0 0 [1, 0x20005, 0, 0, 4096, 0]) 0x0407 ∧
      (pkt 0x0407 0 0 [1, 0x20005, 0, 0, 4096, 0]).len ≠ 8 + (pkt 0x0407 0 0 [1, 0x20005, 0, 0, 4096, 0]).fld 3 20 16) ∧
    (place1.op = 0x0404 ∧ place1.fld 2 3 0 = 1 ∧ (up.model 1).state = .free ∧ (loading.model 1).state ≠ .free ∧
      loading.mayModel (issuer 1 place1) 5 0 = true ∧ loading.placeRefusal place1 1 (loading.model 1) = none ∧
      ((modelled { model1 with state := .unloading }).placeRefusal place1 1 { model1 with state := .unloading }).isSome = true ∧
      (modelled { model1 with owner := 6 }).mayModel (issuer 1 place1) 6 0 = false) ∧
    (step1.op = 0x0407 ∧ ((fun1 fun f => { f with agent := 0 }).func 1).agent = 0 ∧ ((modelled model1).func 1).agent = 3 ∧ step1.fld 3 15 0 = 5 ∧
      (modelled model1).job? 3 5 = none ∧ (modelled model1).jobRec? 3 5 = none ∧ (modelled model1).stepRefusal 3 step1.dw = none ∧
      (loading.stepRefusal 3 step1.dw).isSome = true) :=
  ⟨⟨begins_of (by decide), by decide, begins_of (by decide), by decide⟩, ⟨begins_of (by decide), by decide, begins_of (by decide), by decide⟩,
    by decide⟩

/-! ### Witnesses: MTR, SCH, TRT -/

/-- METER_SET of agent 3 with the given DW3 to DW6. -/
def meterOf (ws : List Nat) : Packet := pkt 0x0501 0 0 (3 :: ws)
def sched23 : Packet := pkt 0x0502 0 0 [23, 0x80000000, 0x01010101]
def sub3 : Packet := pkt 0x0502 0 0 [3, 0x0201, 0]
def gates23 : Packet := pkt 0x0503 0 0 [23, 1, 0, 0, 0, 0, 0x0002FF]
def route127 : Packet := pkt 0x0901 0 0 [127, 4, 2]
def group1 : Packet := pkt 0x0902 0 0 [1, 4, 9 * 2 ^ 16, 0, 0, 0]
/-- Port 23's gates: a list in force, one pending that starts at 0, what is left and whether its entry's end is reached. -/
def gated (oper : List (Nat × Nat)) (pend : Bool) (left : Nat) (expire : Bool) : State :=
  up.setSch 23 fun q => { q with oper := { entries := oper }, pendingList := if pend then some { entries := [(255, 2)] } else none,
                                 left := left, expire := expire }

theorem wit_MetersWeightsAndGatesAreSet :
    (up.Begins 1 (meterOf [0, 0, 0, 0]) 0x0501 ∧ up.Begins 1 sched23 0x0502 ∧ up.Begins 1 gates23 0x0503 ∧ up.Begins 1 route127 0x0901 ∧
      up.Begins 1 group1 0x0902 ∧ up.isProvider 1 = false) ∧
    (up.Begins 0 (meterOf [0, 0, 0, 1]) 0x0501 ∧ up.isProvider 0 = true ∧ (meterFault (meterOf [0, 0, 0, 1])).isSome = true ∧
      meterFault (meterOf [0x10001, 2048, 2048, 1]) = none ∧ schedFault sched23 = none ∧ gateFault gates23 = none ∧ routeFault route127 = none ∧
      mcastFault group1 = none) ∧
    (bit ((meterOf [0, 0, 0, 0]).dw 6) 0 = false ∧ (meterOf [0x10001, 2048, 2048, 1]).fld 2 6 0 ≠ 0 ∧
      (meterOf [0x10001, 2048, 2048, 1]).fld 3 15 0 ≠ 0 ∧
      (meterOf [0x10001, 2048, 2048, 1]).fld 3 15 0 ≤ (meterOf [0x10001, 2048, 2048, 1]).fld 3 31 16 ∧
      2048 ≤ (meterOf [0x10001, 2048, 2048, 1]).fld 4 23 0 ∧
      (meterOf [0x10001, 2048, 2048, 1]).fld 4 23 0 ≤ (meterOf [0x10001, 2048, 2048, 1]).fld 5 23 0 ∧
      (meterOf [0x10001, 2048, 2048, 1]).op = 0x0501 ∧ bit ((meterOf [0x10001, 2048, 2048, 1]).dw 6) 0 = true) ∧
    (sched23.op = 0x0502 ∧ bit (sched23.dw 3) 31 = true ∧ sched23.fld 2 6 0 ≤ 23 ∧ sched23.fld 4 7 0 ≠ 0 ∧ sched23.fld 4 15 8 ≠ 0 ∧
      sched23.fld 4 23 16 ≠ 0 ∧ sched23.fld 4 31 24 ≠ 0 ∧ sub3.op = 0x0502 ∧ bit (sub3.dw 3) 31 = false ∧ sub3.fld 2 6 0 ≠ 0 ∧ sub3.fld 3 7 0 ≠ 0) ∧
    (gates23.op = 0x0503 ∧ gates23.fld 2 4 0 ≤ 23 ∧ gates23.fld 3 8 0 ≤ 256 ∧ gates23.len = 8 + gates23.fld 3 8 0 ∧
      (∀ w ∈ gateWords gates23, bits w 23 8 ≠ 0 ∧ bits w 31 24 = 0)) ∧
    (((gated [(1, 5)] true 1 true).schPort 23).pendingList = some { entries := [(255, 2)] } ∧
      ({ entries := [(255, 2)] } : GateList).starts up.glb.time.now = true ∧ ({ entries := [(255, 2)] } : GateList).starts 1280 = false ∧
      ((gated [(1, 5)] false 1 true).schPort 23).pendingList = none ∧ ((gated [(1, 5)] false 2 true).schPort 23).left = 2 ∧
      ((gated [] false 1 true).schPort 23).oper.entries = [] ∧ ((gated [(1, 5)] false 1 true).schPort 23).left ≤ 1 ∧
      ((gated [(1, 5)] false 1 true).schPort 23).resync = false ∧ ((gated [(1, 5)] false 1 true).schPort 23).oper.entries[(0 + 1) % 1]? = some (1, 5)) :=
  ⟨⟨begins_of (by decide), begins_of (by decide), begins_of (by decide), begins_of (by decide), begins_of (by decide), by decide⟩,
    ⟨begins_of (by decide), by decide⟩, by decide⟩

/-- Trellis port 2 UP with one packet of class `c` waiting on port `p`. -/
def queued (c : Nat) (b : PktBody) (p : Nat) : State :=
  (port2 { state := .up }).setSch p fun q => { q with queue := [{ agt := 9, cls := c, body := b }] }
/-- Port 2 UP replaying from packet 3. -/
def replaying : State := port2 { state := .up, replay := some 3, held := [{ seq := 3 }] }

theorem wit_RoutesTelemetryAndPackets :
    ((pkt 0x0901 0 0 [3, 4, 2]).op = 0x0901 ∧ up.isProvider 0 = true ∧ (pkt 0x0901 0 0 [3, 4, 2]).fld 2 7 0 = 3 ∧ up.hostAgent 3 = true ∧
      route127.op = 0x0901 ∧ route127.fld 2 7 0 = 127 ∧ up.hostAgent 127 = false ∧ route127.fld 3 23 0 < 65536 ∧
      bit (route127.fld 3 23 0) (route127.fld 4 4 0) = true ∧ (pkt 0x0901 0 0 [127, 4, 31]).fld 4 4 0 = 31) ∧
    (group1.op = 0x0902 ∧
      (∀ k, k < 16 → (bit (group1.fld 3 23 0) k = true → 0 < (mcastMembers group1).getD k 0 ∧ (mcastMembers group1).getD k 0 ≤ 127 ∧
        bit (routed.route ((mcastMembers group1).getD k 0)).ports k = true) ∧
        (bit (group1.fld 3 23 0) k = false → (mcastMembers group1).getD k 0 = 0)) ∧
      (∀ i, i < 2 → bit (group1.fld 3 23 0) i = false ∧ (mcastMembers group1).getD i 0 = 0) ∧ bit (group1.fld 3 23 0) 2 = true ∧
      bit (up.route ((mcastMembers group1).getD 2 0)).ports 2 = false) ∧
    (up.mayProvide 0 = true ∧ up.fnExists 1 = true ∧ up.fnExists 9 = false) ∧
    (replaying.portUp 2 = true ∧ (replaying.port 2).replay = some 3 ∧ (replaying.port 2).held.find? (fun h => h.seq == 3) = some { seq := 3 } ∧
      replaying.vcHeld 2 (HeldPkt.p { seq := 3 }).vc = false ∧ (queued 4 (.mrd 0 1) 2).portUp 2 = true ∧
      ((queued 4 (.mrd 0 1) 2).port 2).replay = none ∧ ((queued 4 (.mrd 0 1) 2).choose 2 0).isSome = true ∧
      (queued 4 (.mrd 0 1) 2).canSend 2 { agt := 9, cls := 4, body := .mrd 0 1 } = true) ∧
    ((up.link (4 * (17 - 16) + 0)).state = .up ∧
      ((queued 0 (.tlp (.msix 1 0)) 17).choose 17 0).map (fun x => x.1.body) = some (.tlp (.msix 1 0))) := by decide

/-! ### Witnesses: SEC -/

/-- `up` with tenant 6. -/
def ten6 (t : Tenant) : State := { up with sec := { up.sec with tenants := up.sec.tenants ++ [(6, t)] } }
/-- TENANT_CREATE of tenant 6 with agent 9, and its update. -/
def tcreate : Packet := pkt 0x0601 0 0 [6, 100, 0, 0x200, 0, 0, 0]
def tupdate : Packet := pkt 0x0601 1 0 [6, 200, 0, 0, 0, 0, 0]
def tremove : Packet := pkt 0x0602 0 0 [6, 0]
/-- The scrub of page 0 at its end. -/
def pageScrubbed : State := { ent 0 { state := .scrubPending } with eng := { up.eng with acts := [{ work := .pageScrub 0 }] } }
/-- The removal of tenant 6 at its last step. -/
def removing6 : State := { up with sec := { up.sec with removals := [(6, { step := 9 })] } }

theorem wit_TenantsComeAndGo :
    (up.Begins 1 tcreate 0x0601 ∧ up.Begins 1 tremove 0x0602 ∧ up.isProvider 1 = false) ∧
    (up.Begins 0 (pkt 0x0602 0 0 [0, 0]) 0x0602 ∧ up.isProvider 0 = true ∧ (pkt 0x0602 0 0 [0, 0]).fld 2 5 0 = 0 ∧ up.Begins 0 tremove 0x0602 ∧
      tremove.fld 2 5 0 ≠ 0) ∧
    (tcreate.op = 0x0601 ∧ tcreate.fld 2 5 0 = 6 ∧ bit tcreate.flags 0 = false ∧ bit tupdate.flags 0 = true ∧
      ((ten6 { state := .active }).tenant 6).state ≠ .empty ∧ (up.tenant 6).state ≠ .active ∧ (up.tenant 6).state ≠ .rotating ∧
      (∀ a ∈ maskBits 128 (mask128 tcreate 5), a ≠ 0 ∧ up.hostAgent a = false ∧ (up.tenantOf a = 6 ∨ up.tenantOf a = 0 ∧ up.agentFree a = true)) ∧
      maskBits 128 (mask128 tcreate 5) = [9] ∧ (up.tenant 6).state = .empty ∧ maskBits 128 (mask128 tupdate 5) = [] ∧
      ((ten6 { state := .rotating }).tenant 6).state = .rotating) ∧
    (tremove.op = 0x0602 ∧ (up.tenant 6).state = .empty ∧ ((ten6 { state := .zeroized }).tenant 6).state = .zeroized ∧
      ((ten6 { state := .draining }).tenant 6).state = .draining ∧ ((ten6 { state := .active }).tenant 6).state = .active) ∧
    ((pageScrubbed.entry 0).state = .scrubPending ∧ pageScrubbed.actDone (.pageScrub 0) = true ∧
      Tbl.find removing6.sec.removals 6 = some { step := 9 } ∧ removing6.scrubPages 6 = [] ∧ removing6.regionsOf 6 = []) :=
  ⟨⟨begins_of (by decide), begins_of (by decide), by decide⟩, ⟨begins_of (by decide), by decide, by decide, begins_of (by decide), by decide⟩,
    by decide⟩

def rotate (t : Nat) : Packet := pkt 0x0603 0 0 [t, 0]
def bind7 : Packet := pkt 0x0604 0 0 [7, 17600, 64, 0, 0]
/-- `up` with a rotation of tenant 5 whose sweep has ended. -/
def sweeping : State := { up with sec := { up.sec with rot := some { tenant := 5 } } }
/-- `reg7` while tenant 5 is ROTATING, stack 0 swept to 2 MiB. -/
def rotating7 : State := { reg7 with sec := { reg7.sec with
  tenants := [(0, { state := .active }), (5, { state := .rotating })], rot := some { tenant := 5, cut := [(0, 2 ^ 21)] } } }


theorem wit_KeysRotateAndWeightsBind :
    (up.Begins 1 (rotate 5) 0x0603 ∧ reg7.Begins 1 bind7 0x0604) ∧
    ((rotate 6).op = 0x0603 ∧ (rotate 6).fld 2 5 0 = 6 ∧ up.isProvider 1 = false ∧ (up.func 1).tenant ≠ 6 ∧ up.isProvider 0 = true ∧
      up.tenantExists 6 = false ∧ (up.func 1).tenant = 5 ∧ up.tenantExists 5 = true ∧ (up.tenant 5).state = .active ∧ up.sec.rot = none ∧
      sweeping.sec.rot.isSome = true ∧ (rotating7.tenant 5).state ≠ .active ∧ rotating7.tenantExists 5 = true) ∧
    (sweeping.sec.rot = some { tenant := 5 } ∧ sweeping.sweepOver { tenant := 5 } = true ∧
      Tbl.find ({ up with sec := { up.sec with oldKey := [(5, 69996)] } } : State).sec.oldKey 5 = some 69996 ∧ 69996 + 4 ≤ up.tick ∧
      up.tick < 69997 + 4) ∧
    (reg7.regionOf 64 = some 7 ∧ (reg7.region 7).owner = 5 ∧ (reg7.tenant 5).state ≠ .rotating ∧ rotating7.regionOf (2 ^ 21) = some 7 ∧
      (rotating7.tenant 5).state = .rotating ∧ offOf (2 ^ 21 - 1) < rotating7.front (stackOf (2 ^ 21 - 1)) ∧
      rotating7.front (stackOf (2 ^ 21)) ≤ offOf (2 ^ 21)) ∧
    (bind7.op = 0x0604 ∧ bind7.fld 2 11 0 = 7 ∧ reg7.mayRegion (issuer 1 bind7) (reg7.region 7).owner = true ∧
      (reg fun g => { g with owner := 6 }).mayRegion (issuer 1 bind7) 6 = false ∧ Tbl.find reg7.sec.binders 7 = none ∧
      (Tbl.find ({ reg7 with sec := { reg7.sec with binders := [(7, {})] } } : State).sec.binders 7).isSome = true ∧
      ({ by_ := issuer 1 bind7, buf := bind7.dw 4 + 2 ^ 32 * bind7.dw 5, len := bind7.fld 3 15 0 } : Binder).readable = true) :=
  ⟨⟨begins_of (by decide), begins_of (by decide)⟩, by decide⟩

/-- The mailbox of link 0 in a secured session, with something signed. -/
def session0 : State := { up with sec := { up.sec with spdm := [(0, { session := true, signed := some [1] })] } }

theorem wit_MailboxesAnswer :
    up.doeOpen 0 = true ∧ session0.doeOpen 0 = true ∧ (up.spdmOf 0).signed = none ∧ (session0.spdmOf 0).signed = some [1] ∧ 0x99 ∉ spdmCodes ∧
      up.keySession 0 = false ∧ session0.keySession 0 = true ∧ (session0.linkKeys 2).sel = 0 ∧ (session0.linkKeys 2).sel ≠ 1 ∧
      (List.replicate 32 (0 : Byte)).length = 32 := by decide

/-- `up` with MIR replaced. -/
def mirror (f : Mir → Mir) : State := up.onMir f
/-- `up` at network time `t`. -/
def timedAt (t : Nat) : State := { up with glb := { up.glb with time := { up.glb.time with now := t } } }

/-! ### Witnesses: PWR, FLT, GLB -/

/-- CONTRACT_LOAD of one entry of 96,000 J, 1600 W and 1600 W at network time `t`. -/
def contractAt (t : Nat) : Packet := pkt 0x0701 0 0 [0, 0, t, 0, 1, 0, 96000, 1600 * 65537]
def powerOf (hist buf : Nat) : Packet := pkt 0x0702 0 0 [hist, 0, buf, 0]
/-- `up` at tick `t` with the model's power state changed. -/
def powered (t : Nat) (f : Pwr → Pwr) : State := { up with glb := { up.glb with tick := t }, pwr := f up.pwr }

theorem wit_PowerIsMeteredAndThrottled :
    (up.Begins 1 (contractAt 0) 0x0701 ∧ up.isProvider 1 = false ∧ up.Begins 0 (contractAt 1) 0x0701 ∧ up.isProvider 0 = true ∧
      (contractFault (contractAt 1)).isSome = true ∧ up.Begins 0 (contractAt 0) 0x0701 ∧ 0 < (contractAt 0).fld 6 5 0 ∧
      (contractAt 0).fld 6 5 0 ≤ 60 ∧ (contractAt 0).len = 8 + 2 * (contractAt 0).fld 6 5 0 ∧ (contractAt 0).addr 4 % MIN_NS = 0) ∧
    ((contractAt 0).op = 0x0701 ∧
      (({ up with pwr := { up.pwr with minute := { up.pwr.minute with start := MIN_NS } } } : State).contractCheck (contractAt 0)).isSome = true ∧
      up.pwr.minute.start ≤ (contractAt 0).addr 4 ∧ up.pwr.contract = [] ∧ 0 + 1 * MIN_NS ≤ up.pwr.minute.start + 60 * MIN_NS ∧
      (∀ e ∈ packetEntries (contractAt 0) 0 1, e.ok = true)) ∧
    (up.Begins 1 (powerOf 1 0) 0x0702 ∧ bit ((powerOf 1 0).dw 2) 0 = true ∧ up.Begins 1 (powerOf 0 1) 0x0702 ∧ bit ((powerOf 0 1).dw 2) 0 = false ∧
      (powerOf 0 1).addr 4 % 64 ≠ 0 ∧ up.Begins 1 (powerOf 0 64) 0x0702 ∧ (powerOf 0 64).addr 4 % 64 = 0 ∧ (powerOf 0 64).op = 0x0702) ∧
    (up.pwr.input = true ∧ (powered 70000 fun w => { w with input := false }).pwr.input = false ∧ (powered 1024 id).tick % 1024 = 0 ∧
      up.tick % 1024 ≠ 0 ∧ (powered 1024 id).pwr.evalAt ≠ some 1024 ∧ (powered 1024 id).glb.boot = 7 ∧ (powered 1024 id).failedPart = false ∧
      (powered 1024 id).mir.state ≠ .switching ∧ (powered 1024 id).pwr.level < 19 ∧
      (timedAt 0).glb.time.now < (timedAt 0).pwr.minute.start + MIN_NS ∧ (timedAt MIN_NS).pwr.minute.start + MIN_NS ≤ (timedAt MIN_NS).glb.time.now ∧
      (timedAt MIN_NS).glb.boot = 7) ∧
    ((∀ k, k < 20 → up.rail k = .good ∧ up.railSleep k = false) ∧ up.glb.pstate ≠ .cellar ∧ State.reset.glb.boot ≠ 7 ∧
      (powered 70000 fun w => { w with thrLow := true }).pwr.thrLow = true ∧ up.pwr.thrLow = false) :=
  ⟨⟨begins_of (by decide), by decide, begins_of (by decide), by decide, by decide, begins_of (by decide), by decide⟩, by decide,
    ⟨begins_of (by decide), by decide, begins_of (by decide), by decide, by decide, begins_of (by decide), by decide⟩, by decide, by decide⟩

/-- `up` with a fault in instance 2 of ENG. -/
def faultEng (f : FltInst) : State := { up with flt := { up.flt with insts := [(blkENG * 8 + 2, f)] } }
def fread (b j : Nat) : Packet := pkt 0x0801 0 0 [256 * j + b, 0]
def hread (buf : Nat) : Packet := pkt 0x0802 0 0 [0, 0, buf, 0]
def pinHold1 : Packet := pkt 0x0803 0 2 [0, 1]
/-- `up` with dual-rail checking set, in a test or not. -/
def railed (test : Bool) : State := { up with flt := { up.flt with rail := true, test := test } }

set_option maxRecDepth 16384 in
theorem wit_FaultsAreReadAndCleared :
    (up.Begins 1 (fread 0 0) 0x0801 ∧ up.Begins 1 (hread 0) 0x0802 ∧ up.Begins 1 pinHold1 0x0803 ∧ up.isProvider 1 = false) ∧
    (up.Begins 0 (fread blkFLT 6) 0x0801 ∧ up.isProvider 0 = true ∧ faultInstOk blkFLT 6 = false ∧ up.Begins 0 (fread blkFLT 5) 0x0801 ∧
      faultInstOk blkFLT 5 = true ∧ up.Begins 0 (hread 1) 0x0802 ∧ (hread 1).addr 4 % 64 ≠ 0 ∧ up.Begins 0 (hread 64) 0x0802 ∧
      (hread 64).addr 4 % 64 = 0 ∧ up.Begins 0 pinHold1 0x0803) ∧
    ((fread blkFLT 5).op = 0x0801 ∧ (fread blkFLT 5).fld 2 4 0 = blkFLT ∧ (fread blkFLT 5).fld 2 10 8 = 5 ∧ (hread 64).op = 0x0802 ∧
      pinHold1.op = 0x0803) ∧
    (up.mayFlt 0 = true ∧ faultInstOk blkENG 2 = true ∧ up.instGone blkENG 2 = false ∧
      (mirror fun m => { m with diesLost := [2], hubsLost := [1] }).instGone blkTLK 1 = true ∧ 1 ∉ up.mir.hubsLost ∧
      ({ up with flt := { up.flt with rail := false } } : State).flt.rail = false) ∧
    ((railed true).flt.rail = true ∧ (railed true).flt.test = true ∧ (railed true).flt.recovery = false ∧ (railed true).glb.boot = 7 ∧
      (railed true).failedPart = false ∧ (railed false).flt.test = false ∧ blkENG ≤ blkENG ∧ blkENG ≤ blkMEC ∧ blkENG ≠ blkFLT ∧
      faultInstOk blkTLK 1 = true ∧ blkTLK < blkENG ∧ (railed false).mir.state ≠ .switching ∧
      0 ∉ (((railed false).raiseRail blkTLK 1).loseHub 1).mir.hubsLost ∧
      0 ∈ ((({ railed false with mir := { up.mir with hubsLost := [0] } } : State).raiseRail blkTLK 1).loseHub 1).mir.hubsLost ∧
      1 ∈ ((({ railed false with mir := { up.mir with hubsLost := [0] } } : State).raiseRail blkTLK 1).loseHub 1).mir.hubsLost) :=
  ⟨⟨begins_of (by decide), begins_of (by decide), begins_of (by decide), by decide⟩,
    ⟨begins_of (by decide), by decide, by decide, begins_of (by decide), by decide, begins_of (by decide), by decide, begins_of (by decide), by decide,
      begins_of (by decide)⟩, by decide, by decide, by decide⟩

theorem wit_AlertFollowsTheFaults :
    (faultEng { cause := 1 }).alertLow = true ∧ (faultEng { cause := 1, mask := 1 }).alertLow = false ∧ (faultEng { rail := true }).alertLow = true ∧
      (faultEng { cause := 1 }).mayFlt 0 = true ∧ faultInstOk blkENG 2 = true ∧ (faultEng { cause := 1 }).instGone blkENG 2 = false := by decide

/-- `up` with other network time, at tick `t`. -/
def timed (t : Nat) (f : Time → Time) : State := { up with glb := { up.glb with tick := t, time := f up.glb.time } }

theorem wit_NetworkTimeAndTheLog :
    ((up.link (bits up.glb.time.ctrl.toNat 12 8)).state = .up ∧ bits up.glb.time.ctrl.toNat 1 0 ≤ 1 ∧ up.glb.boot = 7 ∧
      up.glb.time.lastReq + up.glb.time.ptmTicks ≤ up.tick ∧
      up.tick < (timed 70000 fun t => { t with lastReq := 70000 }).glb.time.lastReq + (timed 70000 fun t => { t with lastReq := 70000 }).glb.time.ptmTicks) ∧
    ((timed 70000 fun t => { t with asked := some 69219 }).glb.time.asked = some 69219 ∧ up.tick < 69219 + msTicks 1 ∧ 69218 + msTicks 1 ≤ up.tick ∧
      ((timed 70000 fun t => { t with ctrl := 0x04000001 }).onTime fun t => { t with asked := none, ptmOk := true }).timeSrc = 1) ∧
    (up.glb.time.now ≤ 2559 ∧ 2559 < up.glb.time.now + 2560 ∧
      ((timed 70000 fun t => { t with ctrl := 0x04000002 }).onTime fun t => { t with ppsAt := some 70000 }).timeSrc = 2 ∧ up.glb.time.state ≠ .locked) ∧
    ((timed 70000 fun t => { t with lastMeas := some 69998, state := .locked }).glb.time.lastMeas = some 69998 ∧
      (timed 70000 fun t => { t with lastMeas := some 69998, state := .locked }).glb.time.state = .locked ∧
      2 * max 1 (timed 70000 fun t => { t with lastMeas := some 69998, state := .locked }).glb.time.gap ≤ 70000 - 69998 ∧
      (timed 781250 fun t => { t with lastMeas := some 0, state := .holdover }).tick - 0 = 781250 ∧
      (timed 781250 fun t => { t with lastMeas := some 0, state := .holdover }).glb.time.state = .holdover) ∧
    (up.mayGlb 0 = true ∧ (up.timeSrc ≠ 1 ∨ up.glb.time.state ≠ .locked) ∧
      (timed 70000 fun t => { t with ctrl := 0x04000001, ptmOk := true, state := .locked }).timeSrc = 1 ∧ up.flash.block = 0 ∧
      ({ up with flash := { up.flash with block := 1, log := [{}] } } : State).flash.log[0]? = some ({} : LogRec) ∧ ({} : LogRec).good = true ∧
      bit (0x80000000 : Word).toNat 31 = true ∧ bits (0x80000000 : Word).toNat 17 0 = 0 ∧ bit (0 : Word).toNat 31 = false) ∧
    (up.glb.logQ = [] ∧ ({ up with glb := { up.glb with logQ := [{}] } } : State).glb.logQ = [{}] ∧ up.glb.saveDue = false) := by decide

/-- What a cold boot with good images finds. -/
def goodBoot : BootInfo := { lutikA := { ok := true } }

theorem wit_ResetsAndBoot :
    (up.glb.refclk = true ∧ ({ up with glb := { up.glb with refclk := false } } : State).glb.refclk = false ∧ up.powered = true ∧
      (powered 70000 fun w => { w with input := false }).powered = false ∧ up.glb.boot ≠ 0) ∧
    (State.reset.glb.boot = 0 ∧ State.reset.failedPart = false ∧ State.reset.pins.pgOut = true ∧ bootHold { strap := 0x30 } = some (1, 1) ∧
      bootHold { strap := 3 } = some (1, 2)) ∧
    (bootHold {} = none ∧ (State.reset.onGlb fun g => { g with strap := 0, sysclk := true, refclk := true }).bootHubs {} = [] ∧
      pickSlot true (some 0) true true 0 0 = some false ∧ blobValid {} 0x08000000 = true ∧ State.reset.pwr.rails = [] ∧
      ({} : BootInfo).stacksFailed = [] ∧ ({} : BootInfo).lanes = []) := by decide

/-- `up` with a change of the power state that runs. -/
def changing (c : PChange) : State := { up with glb := { up.glb with change := c } }
/-- `changing c` with every stack in state `k`. -/
def stacked (c : PChange) (k : StackState) : State :=
  { changing c with mcx := { up.mcx with stk := (List.range 16).map fun i => (i, { state := k }) } }

theorem wit_PowerStatesChange :
    up.targetOpen 0 = true ∧ up.glb.change = .none ∧ (mirror fun m => { m with state := .failed }).targetOpen 0 = false ∧ up.cellarRefusal = 0 ∧
      (jobbed job5).targetOpen 0 = true ∧ (jobbed job5).cellarRefusal ≠ 0 ∧ (changing (.exiting 0)).glb.change = .exiting 0 ∧
      (changing (.exiting 0)).targetOpen 0 = true ∧ (stacked .entering .selfRefresh).glb.change = .entering ∧
      (stacked .entering .selfRefresh).stacksIn .selfRefresh = true ∧ (stacked .entering .ready).stacksIn .selfRefresh = false ∧
      ({ up with glb := { up.glb with pstate := .cellar } } : State).mayPstate 0 = true ∧ up.watchFn = 0 ∧
      ({ up with glb := { up.glb with pstate := .cellar } } : State).cellar = true ∧
      (powered 70000 fun w => { w with retLost := true }).pwr.retLost = true ∧ (stacked (.exiting 1) .ready).stacksIn .ready = true ∧
      (stacked (.exiting 1) .retrain).stacksIn .ready = false ∧ up.pwr.retLost = false := by decide

/-! ### Witnesses: PCI -/

theorem wit_WindowRequestsAreCut :
    (up.serving = true ∧ up.fnExists 1 = true ∧ (up.link (up.func 1).link).state = .up ∧ up.barLive 1 = true ∧ (up.func 1).tdi ≠ .run ∧
      (up.func 1).agent ≠ 0) ∧
    ((fun1 fun f => { f with d3 := true }).serving = true ∧ (fun1 fun f => { f with d3 := true }).barLive 1 = false ∧
      ((fun1 fun f => { f with d3 := true }).link 4).state = .up) ∧
    (((fun1 fun f => { f with tdi := .run }).func 1).tdi = .run ∧ (fun1 fun f => { f with tdi := .run }).barLive 1 = true) ∧
    (((fun1 fun f => { f with agent := 0 }).func 1).agent = 0 ∧ (fun1 fun f => { f with agent := 0 }).barLive 1 = true) ∧
    ((63 + 2 - 1) / 64 + 1 - 63 / 64 = 2 ∧ 63 ≤ 64 * 0 + 63 ∧ 64 * 0 + 63 < 63 + [(1 : Byte), 2].length ∧ 63 ≤ 64 * 1 + 0 ∧
      64 * 1 + 0 < 63 + [(1 : Byte), 2].length) := by decide

/-- `up` with a BAR4 read and a host read outstanding. -/
def reading (win at_ : Nat) : State :=
  { up with pci := { up.pci with wins := [{ fn := 1, id := 8, at_ := win }], reads := [{ tag := 2, fn := 1, len := 8, at_ := at_ }] } }
def funcBind (ws : List Nat) : Packet := pkt 0x0903 0 0 ws

theorem wit_HostReadsEnd :
    (((reading 54375 0).pci.wins.find? fun w => w.fn == 1 && w.id == 8) = some { fn := 1, id := 8, at_ := 54375 } ∧
      54375 + up.winWait ≤ up.tick ∧ up.tick < 54376 + up.winWait ∧ (up.pci.wins.find? fun w => w.fn == 1 && w.id == 8) = none) ∧
    (((reading 0 62187).pci.reads.find? fun r => r.tag == 2) = some { tag := 2, fn := 1, len := 8, at_ := 62187 } ∧
      62187 + up.ctoTicks ≤ up.tick ∧ up.tick < 62188 + up.ctoTicks ∧ (up.pci.reads.find? fun r => r.tag == 2) = none) ∧
    ((funcBind [9, 0]).op = 0x0903 ∧ up.isProvider 0 = true ∧ up.fnExists ((funcBind [9, 0]).fld 2 7 0) = false ∧
      up.isProvider ((funcBind [0, 0x50000]).fld 2 7 0) = true ∧ up.fnExists 0 = true ∧ (funcBind [0, 0x50000]).fld 3 21 16 ≠ 0) ∧
    (up.fnExists ((funcBind [1, 0x50000]).fld 2 7 0) = true ∧ up.isProvider 1 = false ∧ (funcBind [1, 0x50000]).fld 3 6 0 = 0 ∧
      (up.func 1).tdi = .unlocked ∧ (funcBind [1, 0x50000]).fld 3 21 16 = (up.func 1).tenant ∧
      ((fun1 fun f => { f with tdi := .locked }).func 1).tdi ≠ .unlocked ∧ (funcBind [1, 0x60000]).fld 3 21 16 ≠ (up.func 1).tenant ∧
      (up.setIntake 1 fun i => { i with drain := [{ p := hello 1 2 }] }).fnBusy 1 = up.fnBusy 1 ∧ (jobbed job5).fnBusy 1 = true ∧
      ((jobbed job5).func 1).tdi = .unlocked ∧ up.fnBusy 1 = false ∧
      ((fun1 fun f => { f with agent := 0 }).func 1).agent = 0) ∧
    (up.hostAgent 3 = true ∧ (∀ g ∈ up.fnsOf 3, g ≠ 1 → up.fnPort g = up.fnPort 1)) := by decide

theorem wit_HostReadsEnd_bind :
    (up.Begins 1 (funcBind [1, 0]) 0x0903 ∧ up.isProvider 1 = false) ∧ (up.Begins 0 (funcBind [1, 0x50000]) 0x0903 ∧ up.isProvider 0 = true) :=
  ⟨⟨begins_of (by decide), by decide⟩, begins_of (by decide), by decide⟩

/-- `up` with link 4 replaced. -/
def link4 (f : PLink → PLink) : State := up.setLink 4 f
/-- Link 4 with a stream of function 1. -/
def stream1 (x : Ide) : State := link4 fun k => { k with ide := [(1, x)] }

theorem wit_FunctionsAndLinksChange :
    (up.fnExists 9 = false ∧ up.fnExists 1 = true ∧ ((fun1 fun f => { f with reset := some 1 }).func 1).reset.isSome = true ∧
      (up.func 1).reset = none ∧ ((fun1 fun f => { f with vf := 1 }).func 1).vf ≠ 0) ∧
    (7 ∉ up.pins.perst ∧ 7 ∈ ({ up with pins := { up.pins with perst := [7] } } : State).pins.perst) ∧
    ((up.link 4).state = .up ∧ ((link4 fun k => { k with state := .recovery }).link 4).state = .recovery ∧
      ((link4 fun k => { k with state := .down }).link 4).state ≠ .up ∧ ((link4 fun k => { k with state := .down }).link 4).state ≠ .recovery ∧
      up.mayTrain 4 = false ∧ (link4 fun k => { k with state := .training }).mayTrain 4 = true ∧ up.cellar = false ∧
      ({ up with glb := { up.glb with pstate := .cellar } } : State).cellar = true ∧
      (({ up with glb := { up.glb with pstate := .cellar } } : State).setLink 0 fun k => { k with state := .training }).mayTrain 0 = true) ∧
    (Tbl.find ((stream1 { fn := some 1, keyed := true, secure := true }).link 4).ide 1 = some { fn := some 1, keyed := true, secure := true } ∧
      Tbl.find ((stream1 { keyed := true, secure := true }).link 4).ide 1 = some { keyed := true, secure := true } ∧
      Tbl.find ((stream1 {}).link 4).ide 1 = some {} ∧ ({} : Ide).keyed = false ∧ (up.link 4).state ≠ .absent ∧ (up.func 1).link = 4 ∧
      (stream1 { fn := some 1, keyed := true, secure := true }).keyedStream 1 = true ∧ up.keyedStream 1 = false ∧
      ((stream1 { fn := some 1, keyed := true, secure := true }).func 1).tdi = .unlocked) ∧
    ((up.func 1).agent ≠ 0 ∧ (up.func 1).tenant ≠ 0 ∧ ((fun1 fun f => { f with tdi := .locked }).func 1).tdi = .locked ∧
      ((fun1 fun f => { f with tdi := .run }).func 1).tdi = .run ∧ ((fun1 fun f => { f with tdi := .error }).func 1).tdi ≠ .locked ∧
      ((fun1 fun f => { f with tdi := .error }).func 1).tdi ≠ .run) ∧
    ((up.link (up.func 1).link).state = .up ∧ (up.func 1).vf = 0 ∧ (up.func 1).vfEnable = false ∧ 0 ≤ (up.func 1).totalVfs ∧
      ((fun1 fun f => { f with tdi := .run }).link 4).state = .up) := by decide

/-! ### Witnesses: MIR -/

/-- PAIRED, the delta of tick `t` sent. -/
def pairedAt (t : Nat) : State := mirror fun m => { m with state := .paired, sent := some (t, {}) }

set_option maxRecDepth 8192 in
theorem wit_TheLoftTakesOver :
    (up.paired = false ∧ (pairedAt 70000).paired = true ∧ (pairedAt 70000).mir.sent = some (70000, {})) ∧
    (1 ∉ up.mir.hubsLost ∧ 1 ∈ (mirror fun m => { m with hubsLost := [1] }).mir.hubsLost ∧ up.failedPart = false ∧
      (mirror fun m => { m with state := .failed }).failedPart = true ∧ ((up.recross 1).loseHub 1).paired = false ∧
      ((State.reset.recross 0).loseHub 0).paired = true ∧ 0 = ((State.reset.recross 0).loseHub 0).mir.primary ∧
      0 ∉ State.reset.mir.hubsLost ∧ State.reset.failedPart = false ∧ (faultInstOk blkENG 0 && faultClass blkENG 9 == some .fatal) = false) ∧
    ((pairedAt 70000).mir.primary ∉ (pairedAt 70000).mir.hubsLost ∧ (pairedAt 70000).mir.frameFails < 2 ∧ (pairedAt 70000).mir.badFrames ≤ 16 ∧
      (mirror fun m => { m with state := .paired, badFrames := 17 }).mir.badFrames = 17 ∧
      (mirror fun m => { m with state := .paired, frameFails := 2 }).mir.frameFails = 2 ∧ up.tick < 70000 + 1 ∧ 69999 + 1 ≤ up.tick) ∧
    ((mirror fun m => { m with state := .switching }).mir.state = .switching ∧ up.mir.state ≠ .switching ∧
      (1 - (mirror fun m => { m with state := .switching }).mir.primary) ∉ (mirror fun m => { m with state := .switching }).mir.hubsLost) ∧
    (((mirror fun m => { m with hubsLost := [0, 1] }).mir.hubsLost.contains 0 &&
        (mirror fun m => { m with hubsLost := [0, 1] }).mir.hubsLost.contains 1) = true ∧
      (mirror fun m => { m with hubsLost := [0, 1] }).mir.state = .solo ∧ (mirror fun m => { m with hubsLost := [0, 1] }).failedPart = false ∧
      ((State.reset.onMir fun m => { m with hubsLost := [0, 1] }).glb.boot ≠ 7) ∧
      (powered 70000 fun w => { w with retLost := true }).pwr.retLost = true ∧ (changing (.exiting 0)).glb.change ≠ .none) := by decide

/-! ### Witnesses: MCX -/

/-- `up` with stack 15 replaced, at tick `t`. -/
def stk (t : Nat) (x : Stack) : State := { up.setStack 15 fun _ => x with glb := { up.glb with tick := t } }
/-- Stack 15 READY (or as `f` says) at tick `t`. -/
def stk15 (t : Nat) (f : Stack → Stack) : State := stk t (f { state := .ready })
/-- A window of 64 samples whose queues held 1024 entries each: its ratio is at the limit for a sum of P of 64, above it for 65. -/
def windowOf (p : Nat) : Window := { sumP := p, sumQ := 65536, samples := 64 }
/-- A part in boot. -/
def booting : State := { up with glb := { up.glb with boot := 5 } }

theorem wit_StacksAreServedAndFail :
    (stk15 70000 fun x => { x with state := .failed }).stackFailed 15 = true := by decide

theorem wit_StacksAreServedAndFail_refresh :
    ((stk15 69999 id).stack 15).served = true ∧ ((stk15 69999 id).stack 15).hot = false ∧ (69999 + 15) % 3 = 0 ∧
      ((stk15 69999 id).stack 15).refAt ≠ some 69999 ∧ (69998 + 15) % 3 ≠ 0 ∧ (69998 + 1 + 15) % 3 = 0 ∧ (70000 + 15) % 3 ≠ 0 ∧
      (70000 + 1 + 15) % 3 ≠ 0 ∧ ((stk15 69999 fun x => { x with refAt := some 69999 }).stack 15).refAt = some 69999 ∧
      ((stk15 69998 fun x => { x with refAt := some 69999 }).stack 15).refAt = some (69998 + 1) ∧
      ((stk15 69999 fun x => { x with hot := true, refAt := some 69999 }).stack 15).hot = true ∧ (69999 + 1 + 15) % 1 = 0 := by decide

theorem wit_StacksAreServedAndFail_retrain :
    ((stk15 991 id).stack 15).state = .ready ∧ (991 + 1) % 16384 = 32 + 64 * 15 ∧ ((stk15 992 id).stack 15).fails = 0 ∧
      992 % 16384 = 32 + 64 * 15 ∧ ((stk15 70000 id).stack 15).state ≠ .retrain ∧ 70000 % 16384 ≠ 32 + 64 * 15 ∧
      ((stk15 992 fun x => { x with fails := 1 }).stack 15).fails = 1 ∧ (stk15 992 fun x => { x with fails := 1 }).glb.boot = 7 ∧
      (stk15 992 fun x => { x with fails := 1 }).dir.due = [] := by decide

theorem wit_StacksAreServedAndFail_lanes :
    ((stk15 70000 fun x => { x with state := .retrain }).stack 15).state = .retrain ∧
      ({ ch := 3 } : Lane) ∉ ((stk15 70000 fun x => { x with state := .retrain }).stack 15).lanes ∧
      (((stk15 70000 fun x => { x with state := .retrain }).stack 15).lanes.filter fun y => y.ch == 3 && y.ca == false).length = 0 ∧
      (((stk15 70000 fun x => { x with state := .retrain, lanes := [{ ch := 3, lane := 1 }, { ch := 3, lane := 2 }] }).stack 15).lanes.filter
        fun y => y.ch == 3 && y.ca == false).length = 2 := by decide

theorem wit_StacksAreServedAndFail_parity :
    ((stk15 70000 fun x => { x with caTick := 70000, caErrs := 7 }).stack 15).caTick = 70000 ∧ 7 + 1 < 9 ∧ 8 ≤ 7 + 1 ∧
      ((stk15 70000 fun x => { x with caTick := 70000, caErrs := 7 }).stack 15).served = true := by decide

theorem wit_StacksAreServedAndFail_rate :
    ((stk15 70000 fun x => { x with state := .rateChange, busyTo := 70000 }).stack 15).busyTo ≤ 70000 ∧
      70000 + 1 = ((stk15 70000 fun x => { x with state := .rateChange, busyTo := 70001 }).stack 15).busyTo ∧
      70000 + 1 < ((stk15 70000 fun x => { x with state := .rateChange, busyTo := 70002 }).stack 15).busyTo := by decide

theorem wit_StacksAreServedAndFail_patrol :
    64 * 64 < HOLE_OFF ∧ bits up.mcx.ctrl.toNat 23 16 ≠ 0 ∧ up.poisoned ((SLOT * 15 + 64 * 1) / 64) = false ∧
      Tbl.find up.mcx.errs ((SLOT * 15 + 64 * 1) / 64) = none ∧ up.otherCopy (SLOT * 15 + 64 * 1) = none ∧ offOf (SLOT * 15 + 64) < RSV_OFF ∧
      regM.otherCopy (64 * 1) = some (SLOT * 4 + 64) ∧ regM.stackFailed (stackOf (SLOT * 4 + 64)) = false ∧ (regM.stack 0).served = true := by decide

theorem wit_StacksAreServedAndFail_skew :
    ((stk15 16384 fun x => { x with closed := some (windowOf 64) }).stack 15).closed = some (windowOf 64) ∧ (up.stack 15).closed = none ∧
      skewRatio (windowOf 64).sumP (windowOf 64).sumQ (windowOf 64).samples ≤ max 0x0100 (windowOf 64).limit ∧
      max 0x0100 (windowOf 65).limit < skewRatio (windowOf 65).sumP (windowOf 65).sumQ (windowOf 65).samples ∧
      ((stk15 16384 fun x => { x with closed := some (windowOf 65) }).stack 15).skewLast = false ∧
      ((stk15 16384 fun x => { x with closed := some (windowOf 65), skewLast := true }).stack 15).skewLast = true := by decide

theorem wit_StacksAreServedAndFail_failures :
    up.stackFailed 15 = false ∧ up.glb.boot = 7 ∧ booting.glb.boot ≠ 7 ∧ booting.stackFailed 15 = false ∧ up.dir.due = [] ∧
      3 ∉ up.mir.diesLost ∧ 3 ∈ (mirror fun m => { m with diesLost := [3] }).mir.diesLost := by decide

theorem wit_StacksAreServedAndFail_bridges :
    (3, 1) ∉ up.mir.bridgesLost ∧ 1 ∉ up.mir.hubsLost ∧ (3, 1 - 1) ∉ up.mir.bridgesLost ∧ (1 - 1) ∉ up.mir.hubsLost ∧
      (3, 1 - 1) ∈ (mirror fun m => { m with bridgesLost := [(3, 0)] }).mir.bridgesLost ∧
      (3, 1) ∉ (mirror fun m => { m with bridgesLost := [(3, 0)] }).mir.bridgesLost := by decide

/-! ### Witnesses: the register windows -/

theorem wit_RegistersReadAndWrite :
    (up.regGate 9 true false = 0 ∧ (fun1 fun f => { f with d3 := true }).regGate 1 true true = 1 ∧
      (fun1 fun f => { f with tdi := .run }).regGate 1 true false = 2 ∧ up.regGate 1 true false = 4 ∧ up.regGate 0 true true = 4 ∧
      up.regGate 9 false false = 0 ∧ (fun1 fun f => { f with d3 := true }).regGate 1 false false = 1 ∧ up.regGate 0 false false = 4 ∧
      up.regGate 1 false false = 4) ∧
    (up.isProvider 0 = true ∧ up.windowOn blkRGN = true ∧ up.viewServed 1 = true ∧ up.viewServed 0 = true ∧
      (mirror fun m => { m with state := .failed }).viewServed 1 = false ∧ (up.func 0).viewAddr % 2 ^ 25 / 4 * 4 = 0) ∧
    (2 ∉ up.mir.hubsLost ∧ 1 ∈ (mirror fun m => { m with hubsLost := [1] }).mir.hubsLost) ∧
    (up.powered = true ∧ up.glb.boot ≠ 0 ∧ State.reset.glb.boot = 0 ∧ 0x800000 / 0x100000 ≠ blkGLB ∧ 0x800000 / 0x100000 ≠ blkFLT ∧
      0x800000 / 0x100000 ≠ blkPWR ∧ 0x402 % 4 ≠ 0 ∧ 0x402 / 0x100000 = blkGLB ∧ bit ({ up with glb := { up.glb with strap := 8 } } : State).glb.strap 3 = true ∧ bit up.glb.strap 3 = false ∧
      up.mir.state ≠ .switching ∧ up.glb.change = .none) ∧
    (up.glb.boot = 7 ∧ up.glb.time.pending = none ∧ up.failedPart = false ∧ up.cellar = false) := by decide

theorem wit_RegistersReadAndWrite_held :
    Tbl.find ({ up with glb := { up.glb with loHold := [(latchKey 0 0 0x20, 4)] } } : State).glb.loHold (latchKey 0 0 0x20) = some 4 ∧
      ({ up with glb := { up.glb with loHold := [(latchKey 0 0 0x20, 4)] } } : State).regGate 0 true true = 4 := by decide

theorem wit_RegistersReadAndWrite_id : (up.regOf 0 2 0).isSome = true := by decide

theorem wit_RegistersReadAndWrite_none : up.regOf 1 2 0x800000 = none ∧ up.regAt 1 2 0x800000 = none := by decide

theorem wit_RegistersReadAndWrite_time : up.regAt 0 2 0x400 = some (0x400, false) ∧ (up.bar2Reg (0x402 / 4 * 4)).isSome = true := by decide

theorem wit_RegistersReadAndWrite_later : (0x1300000, 0x1FFF) ∈ laterRegs ∧ up.regAt 0 2 0x1300000 = some (0x1300000, false) := by decide

theorem wit_RegistersReadAndWrite_sel : up.regAt 0 2 0x800000 = some (0x800000, false) := by decide

theorem wit_RegistersReadAndWrite_denied :
    (fun1 fun f => { f with tenant := 0, viewAddr := 0x800000 }).viewServed 1 = true ∧
      ((fun1 fun f => { f with tenant := 0, viewAddr := 0x800000 }).bar2Reg 0x800000).isSome = true ∧ up.highOf 0x800000 = false ∧
      everyFn (0x800000 / 0x100000) (0x800000 % 0x100000) = false ∧
      (fun1 fun f => { f with tenant := 0, viewAddr := 0x800000 }).regGate 1 true true = 4 := by decide

/-! ### Small checks of single operations, from the specification's own examples and tables -/

set_option maxRecDepth 16384 in
/-- R157: the nine ASCII bytes "123456789" give 0xE306_9283. -/
theorem test_crc32c : crc32c [0x31, 0x32, 0x33, 0x34, 0x35, 0x36, 0x37, 0x38, 0x39] = 0xE3069283 := by decide

/-- The example of the architecture chapter: PA 0x125_8000_0000 is 22 GiB into stack S09. -/
theorem test_pa_example : stackOf 0x12580000000 = 9 ∧ offOf 0x12580000000 = 22 * 2 ^ 30 := by decide

/-- Table 13.9, steps 1 and 2: the bytes of the first completion record, its first DW last. -/
theorem test_hello_record :
    ((after (.hello 1 { words := [0x00020101, 0x00040001, 0, 0x0102] })
        (rings { up with glb := { up.glb with lutik := 0x03010029 } })).schPort 17).queue.map (fun k => k.body) =
      [.tlp (.write 1 0 [0, 0, 0, 0]), .tlp (.write 1 8 [0x02, 0x01, 0x02, 0x00, 0x29, 0x00, 0x01, 0x03]),
       .tlp (.write 1 4 [0x01, 0x00, 0x01, 0x80])] := by decide

/-- The example of Table 12.12: METER_SET of agent 64, as the next boundary applies it, with one boundary's credit (Table 12.3). -/
theorem test_meter_example :
    ((up.applyDue (.cmd 0 (pkt 0x0501 0 0 [64, 0x032001F4, 0x1000, 0x2000, 1]))).creditTick).meter 64 =
      { active := true, cir := 500, pir := 800, cbs := 4096, pbs := 8192, tc := 500, tp := 800 } := by decide

/-- The gate list of the same example: GATES 0x01 for 8 ticks and 0x03 for 92. -/
theorem test_gates_example :
    (gateWords (pkt 0x0503 0 0 [4, 2, 0xD4A51000, 0xE8, 0, 0, 0x0801, 0x5C03])).map (fun w => (bits w 7 0, bits w 23 8)) = [(1, 8), (3, 92)] := by decide

/-- Table 16.8, minutes 0 to 19. -/
theorem test_contract_example :
    packetEntries (pkt 0x0701 0 0 [0, 0, 0, 0, 1, 0, 0x14820, 0x060E0578]) 0 1 = [{ energy := 84000, avg := 1400, peak := 1550, idx := 0 }] := by decide

/-- The example of the directory chapter: FETCH_ADD of 1 to a counter that holds 41. -/
theorem test_fetch_add_example : leNat (atomOp 0 (leBytes 8 41) (leBytes 8 1)) = 42 := by decide

/-- The example of the register map: a tenant reads TRT_TX_FLITS[18], latched at 0x0000_0004_2A2F_E9B1. -/
theorem test_coarse_example :
    ({ up with latched := [(statKey blkTRT 0x1390, 0x42A2FE9B1)], stats := [(statKey blkTRT 0x1390, 0x42A317C5D)] } : State).coarse blkTRT 0x1390 =
      0x42A2FE000 := by decide

/-- Table 3.9, step 1: a SWAP_IN_HELD during tick 5000 of a page that agent 9 holds recalls it with its deadline at boundary 5160. -/
theorem test_recall_example :
    ((({ ent 0 { state := .held, region := 7, holder := 9, gen := 0x410 } with glb := { up.glb with tick := 4999 } } : State).decide
        { agent := 3, code := .swapInHeld, region := 7 }).entry 0).deadline = some 5160 := by decide

/-- R52's conflict: a PUBLISH from a base that is not current answers with the vintage that is (Table 2.9). -/
theorem test_publish_conflict :
    (regV.applyDue (.cmd 1 (pkt 0x0207 0 2 [7, 0, 9, 0]))).region 7 = regV.region 7 := by decide

/-- A line read gives the stored bytes, unlisted ones as zero. -/
theorem test_read_line :
    (({ mapped7 with mem := [(65, 0xAB)] } : State).readLine (mapped7.region 7) 64).2 = some (0 :: 0xAB :: List.replicate 62 0) := by decide

/-- A line written stores the bytes that its mask enables. -/
theorem test_write_line : (mapped7.writeLine (mapped7.region 7) 64 2 (List.replicate 64 0xCD)).mem = [(65, 0xCD)] := by decide

/-- Reset: SYSCLK lost clears the pool's memory and keeps the flash. -/
theorem test_reset : (after .sysclkLoss { up with mem := [(1, 1)], flash := { up.flash with block := 3 } }).mem = [] := by decide

end Sys2Proof.Tests.Slice0
end

section
/-! PROOFS. HELLO, the intake's flush and the change of its banks (R369 to R372, R386): what each row is once its gate lets it through, and
the two statements that follow. -/

namespace Sys2Proof.Machine

/-! ### HELLO -/

/-- HELLO of another major (R386). -/
theorem State.doHello_badMajor {s : State} {i : Issuer} {p : Packet} (h : p.fld 3 15 8 ≠ 1) :
    s.doHello i p = s.answer i .badVersion 1 (place (s.intake i.fn).minor 8 0 + place 1 8 8 + place 2 8 16) s.glb.lutik.toNat := by
  simp [State.doHello, h]

/-- HELLO of major 1 (R386). -/
theorem State.doHello_agrees {s : State} {i : Issuer} {p : Packet} (h : p.fld 3 15 8 = 1) :
    s.doHello i p = (s.setIntake i.fn fun x => { x with minor := min (p.fld 3 7 0) 2, hello := true }).answer i .ok 0
      (place (min (p.fld 3 7 0) 2) 8 0 + place 1 8 8 + place 2 8 16) s.glb.lutik.toNat := by
  simp [State.doHello, h]

/-! ### Register rows that pass their gate -/

theorem State.regGated_open {s : State} {fn : Nat} {bar0 tbit read : Bool} {f : State → State} (h : s.regGate fn bar0 tbit = 4) :
    s.regGated fn bar0 tbit read f = f s := by
  simp [State.regGated, h]

theorem exec_cmdFlush_open {s : State} {fn : Nat} {tb : Bool} (h : s.regGate fn true tb = 4) :
    exec (.cmdFlush fn tb) s = .next (s.setIntake fn fun i => if i.part.isSome then { i with flush := true } else i.doFlush []) :=
  congrArg Host.Outcome.next (State.regGated_open h)

theorem exec_cmdLast_open {s : State} {fn : Nat} {w : Word} {tb : Bool} (h : s.regGate fn true tb = 4) :
    exec (.cmdLast fn w tb) s = .next (s.setIntake fn fun i => i.last w s.tick) := by
  refine congrArg Host.Outcome.next ((State.regGated_open h).trans ?_)
  simp [State.wordWrite]

theorem exec_bankSwap_open {s : State} {fn : Nat} (h : s.intakeOpen fn = true) :
    exec (.bankSwap fn) s = .next (s.setIntake fn Intake.swap) :=
  congrArg Host.Outcome.next (if_pos h)

/-- A row that changes one intake may be told by any change that agrees with its own on what that intake holds. -/
theorem exec_setIntake_congr {c : Instr} {s : State} {fn : Nat} {f g : Intake → Intake} (h : exec c s = .next (s.setIntake fn f))
    (e : f (s.intake fn) = g (s.intake fn)) : exec c s = .next (s.setIntake fn g) :=
  h.trans (congrArg Host.Outcome.next (State.setIntake_congr e))

/-! ### The intake -/

theorem Intake.word_of_space {i : Intake} (w : Word) (h : 0 < i.space) :
    i.word w = { i with part := some { i.part.getD {} with words := (i.part.getD {}).words ++ [w] } } :=
  if_neg (Nat.ne_of_gt h)

/-- The end mark of a packet that has lost no word, while a flush waits for it: the flush acts and keeps that packet (R372). -/
theorem Intake.last_flushes {i : Intake} {q : Packet} (w : Word) (t : Nat) (hp : i.part = some q) (hd : q.dropped = false)
    (hf : i.flush = true) (hs : 0 < i.space) :
    i.last w t = { i with
      part := none, drain := [], flush := false, discarded := (i.fill.length + i.drain.length) % 65536,
      fill := [{ p := { q with words := q.words ++ [w] }, dws := q.words.length + 1, at_ := t }] } := by
  unfold Intake.last
  rw [Intake.word_of_space w hs, hp]
  simp [hd, hf, Intake.doFlush]

theorem Intake.swap_of_ready {i : Intake} (hd : i.drain = []) (hf : i.fill ≠ []) : i.swap = { i with drain := i.fill, fill := [] } := by
  simp [Intake.swap, hd, hf]

theorem Intake.swap_of_not_ready {i : Intake} (h : i.drain ≠ [] ∨ i.fill = []) : i.swap = i := by
  refine if_neg ?_
  obtain h | h := h <;> simp [h]

/-! ### What a pending flush shows and stops -/

theorem State.mayBegin_of_flush {s : State} {fn : Nat} (h : (s.intake fn).flush = true) : s.mayBegin fn = false := by
  simp [State.mayBegin, h]

/-- CMD_FLUSH as it reads: PENDING in bit 30 and DISCARDED in bits 15 to 0. -/
theorem State.fnReg_cmdFlush (s : State) (fn : Nat) :
    s.fnReg fn 0x100C = some (false, place (b2n (s.intake fn).flush) 1 30 + place (s.intake fn).discarded 16 0) := by
  have fits : place (b2n (s.intake fn).flush) 1 30 + place (s.intake fn).discarded 16 0 < 2 ^ 32 := by
    unfold place; omega
  exact congrArg (fun v => some (false, v)) (Nat.mod_eq_of_lt fits)

/-! ### The statements -/

/-- Settles O6: a HELLO begun is `State.doHello` on the state with the packet counted, and counting leaves the minor and Lutik's version. -/
theorem helloNegotiates : Obligations.HelloNegotiates := by
  intro s fn p hb
  refine ⟨fun other => ?_, fun one => ?_⟩
  · rw [begins_hello hb, State.doHello_badMajor other]
    simp [issuer]
  · rw [begins_hello hb, State.doHello_agrees one]
    simp [issuer]

/-- Settles O9: each row that its gate lets through changes its function's intake alone, and that change is the one the statement names.
In the model a packet leaves its bank when it is begun (assumption logs 13 and 167), so the banks swap once the last one is begun. -/
theorem flushesAndSwaps : Obligations.FlushesAndSwaps := by
  refine ⟨fun s fn w tb gate => ⟨fun idle => ?_, fun writing => ?_, fun q hp hd hf hs => ?_, State.mayBegin_of_flush,
    State.fnReg_cmdFlush s fn⟩, fun s fn opened => ⟨fun hd hf => ?_, fun stay => ?_⟩⟩
  · exact exec_setIntake_congr (exec_cmdFlush_open gate) (by simp [idle, Intake.doFlush])
  · exact exec_setIntake_congr (exec_cmdFlush_open gate) (if_pos (Option.isSome_iff_ne_none.mpr writing))
  · exact exec_setIntake_congr (exec_cmdLast_open gate) (Intake.last_flushes w s.tick hp hd hf hs)
  · exact exec_setIntake_congr (exec_bankSwap_open opened) (Intake.swap_of_ready hd hf)
  · exact exec_setIntake_congr (exec_bankSwap_open opened) (Intake.swap_of_not_ready stay)

end Sys2Proof.Machine
end

section
/-! PROOFS. FAULT_STATUS, FAULT_MASK and ALERT_N (R428): masks of causes bit by bit, what a write of FAULT_STATUS does once it is let
through, and the statement that follows. -/

namespace Sys2Proof.Machine

/-! ### Masks, bit by bit -/

theorem bit_eq_testBit (n k : Nat) : bit n k = n.testBit k :=
  (Nat.testBit_eq_decide_div_mod_eq).symm

@[simp] theorem bit_maskDiff (a b k : Nat) : bit (maskDiff a b) k = (bit a k && !bit b k) := by
  simp only [bit_eq_testBit, maskDiff, Nat.testBit_xor, Nat.testBit_and]
  cases a.testBit k <;> simp

/-- A field of `w` bits has the number's own bits. -/
theorem bit_mod_two_pow {w k : Nat} (n : Nat) (h : k < w) : bit (n % 2 ^ w) k = bit n k := by
  simp [bit_eq_testBit, Nat.testBit_mod_two_pow, h]

theorem ne_zero_iff_bit {n : Nat} : n ≠ 0 ↔ ∃ k, bit n k = true := by
  refine ⟨fun h => ?_, fun ⟨k, hk⟩ h0 => ?_⟩
  · simpa only [bit_eq_testBit] using Nat.exists_testBit_of_ne_zero h
  · simp [h0, bit] at hk

theorem maskDiff_ne_zero_iff {a b : Nat} : maskDiff a b ≠ 0 ↔ ∃ k, bit a k = true ∧ bit b k = false := by
  simp [ne_zero_iff_bit]

/-! ### A fault register cleared -/

theorem FltInst.clear_cause_bit (f : FltInst) (v : Nat) (r : Bool) {c : Nat} (h : c < 16) :
    bit (f.clear v r).cause c = (bit f.cause c && !bit v c) :=
  (bit_maskDiff _ _ c).trans (by rw [show 65536 = 2 ^ 16 from rfl, bit_mod_two_pow v h])

@[simp] theorem FltInst.clear_rail (f : FltInst) (v : Nat) (r : Bool) : (f.clear v r).rail = (f.rail && !r) := rfl
@[simp] theorem FltInst.clear_mask (f : FltInst) (v : Nat) (r : Bool) : (f.clear v r).mask = f.mask := rfl

/-- A write of FAULT_STATUS from a provider's function to an instance that stands: the instance's register is cleared (R428). -/
theorem exec_faultStatusClear_open {s : State} {fn b j : Nat} {v : Word} (may : s.mayFlt fn = true) (ok : faultInstOk b j = true)
    (stands : s.instGone b j = false) :
    exec (.faultStatusClear fn b j v) s = .next (s.setFlt b j fun f => f.clear v.toNat (bit v.toNat 30)) := by
  refine congrArg Host.Outcome.next ?_
  simp [State.statusClear, may, ok, stands]

/-! ### One instance among the others -/

/-- The instances that Table 15.2 gives have numbers below 8, so each has a place of its own. -/
theorem faultInstOk_lt {b j : Nat} (h : faultInstOk b j = true) : j < 8 := by
  unfold faultInstOk at h
  split at h
  · exact Nat.lt_trans (of_decide_eq_true h) (by decide)
  · split at h
    · exact Nat.lt_trans (of_decide_eq_true h) (by decide)
    · simp only [Bool.and_eq_true, decide_eq_true_eq] at h
      omega

/-- What is done to one instance leaves every other one. -/
theorem State.fltInst_setFlt_ne {s : State} {b j b' j' : Nat} {f : FltInst → FltInst} (hj : j < 8) (hj' : j' < 8) (ne : (b', j') ≠ (b, j)) :
    (s.setFlt b j f).fltInst b' j' = s.fltInst b' j' := by
  rw [State.fltInst_setFlt, if_neg]
  intro same
  exact ne (Prod.ext (by omega) (by omega))

theorem State.fltInst_setFlt_self (s : State) (b j : Nat) (f : FltInst → FltInst) : (s.setFlt b j f).fltInst b j = f (s.fltInst b j) :=
  (State.fltInst_setFlt s b j b j f).trans (if_pos rfl)

/-! ### ALERT_N -/

/-- ALERT_N is low exactly while some instance has an unmasked bit (R428). -/
theorem State.alertLow_iff (s : State) : s.alertLow = true ↔ ∃ x ∈ s.flt.insts,
    (∃ c, bit x.2.cause c = true ∧ bit (x.2.mask % 65536) c = false) ∨ (x.2.rail = true ∧ bit x.2.mask 16 = false) := by
  simp [State.alertLow, maskDiff_ne_zero_iff]

/-! ### The statement -/

/-- Settles O49: ALERT_N reads the unmasked bits of every instance, and a write of FAULT_STATUS is one instance's `FltInst.clear`. -/
theorem alertFollowsTheFaults : Obligations.AlertFollowsTheFaults := by
  intro s fn b j v
  refine ⟨s.alertLow_iff, fun may ok stands => ⟨_, exec_faultStatusClear_open may ok stands, fun c hc => ?_, ?_, ?_, ?_, ?_, ?_⟩⟩
  · rw [State.fltInst_setFlt_self, FltInst.clear_cause_bit _ _ _ hc]
  · rw [State.fltInst_setFlt_self, FltInst.clear_rail]
  · rw [State.fltInst_setFlt_self, FltInst.clear_mask]
  · exact fun b' j' ne _ hj' => State.fltInst_setFlt_ne (faultInstOk_lt ok) hj' ne
  · exact State.setFlt_stats s b j _
  · exact State.setFlt_mem s b j _

end Sys2Proof.Machine
end

section
/-! PROOFS. Every row answers a next state and stays in its frame, and so does what waits for a boundary; the statements about the whole block,
the invariant, and reset. -/

namespace Sys2Proof.Machine

/-- The mask of a list of parts. -/
def partsMask (l : List Part) : Nat := l.foldr (fun p m => 2 ^ p.no ||| m) 0

/-- A part's number is its own. -/
theorem Part.no_injective : Function.Injective Part.no := by
  intro p q
  cases p <;> cases q <;> decide

theorem testBit_partsMask (l : List Part) (p : Part) : (partsMask l).testBit p.no = decide (p ∈ l) := by
  induction l with
  | nil => simp [partsMask]
  | cons q l ih =>
    have step : partsMask (q :: l) = 2 ^ q.no ||| partsMask l := rfl
    have same : q.no = p.no ↔ p = q := (Part.no_injective.eq_iff).trans eq_comm
    simp [step, ih, Nat.testBit_two_pow, same]

/-- A frame by parts: what is not in the list is unchanged, and so is every byte where memory is not in it. -/
theorem Frame.parts {l : List Part} {s t : State} (h : Frame (partsMask l) s t) :
    (∀ p : Part, p ∉ l → p.same s t) ∧ (Part.mem ∉ l → ∀ a : Nat, Memory.get t.mem a = Memory.get s.mem a) := by
  have same : ∀ p : Part, p ∉ l → p.same s t := fun p hp => h.same p (by simp [testBit_partsMask, hp])
  refine ⟨same, fun hm a => ?_⟩
  rw [show t.mem = s.mem from same .mem hm]

/-- What a command changes lies within its parts: the frame of its row. -/
theorem exec_frame {c : Instr} {s t : State} (e : exec c s = .next t) : Frame (partsMask (touches c)) s t := by
  have start {m : Nat} : Frame m s s := Frame.refl m s
  cases c with dsimp only [touches]
  | hello => exact execHello_frame rfl e start
  | caps => exact execCaps_frame rfl e start
  | regionCreate => exact execRegionCreate_frame rfl e start
  | regionDestroy => exact execRegionDestroy_frame rfl e start
  | binAdd => exact execBinAdd_frame rfl e start
  | binRevoke => exact execBinRevoke_frame rfl e start
  | regionAttach => exact execRegionAttach_frame rfl e start
  | regionDetach => exact execRegionDetach_frame rfl e start
  | publish => exact execPublish_frame rfl e start
  | regionInfo => exact execRegionInfo_frame rfl e start
  | mapUpdate => exact execMapUpdate_frame rfl e start
  | mapDigest => exact execMapDigest_frame rfl e start
  | faultResolve => exact execFaultResolve_frame rfl e start
  | jobSubmit => exact execJobSubmit_frame rfl e start
  | jobAbort => exact execJobAbort_frame rfl e start
  | jobQuery => exact execJobQuery_frame rfl e start
  | modelLoad => exact execModelLoad_frame rfl e start
  | layerPlace => exact execLayerPlace_frame rfl e start
  | modelUnload => exact execModelUnload_frame rfl e start
  | modelUsers => exact execModelUsers_frame rfl e start
  | decodeStep => exact execDecodeStep_frame rfl e start
  | meterSet => exact execMeterSet_frame rfl e start
  | schedSet => exact execSchedSet_frame rfl e start
  | gateListLoad => exact execGateListLoad_frame rfl e start
  | tenantCreate => exact execTenantCreate_frame rfl e start
  | tenantRemove => exact execTenantRemove_frame rfl e start
  | keyRotate => exact execKeyRotate_frame rfl e start
  | bindWeights => exact execBindWeights_frame rfl e start
  | contractLoad => exact execContractLoad_frame rfl e start
  | powerRead => exact execPowerRead_frame rfl e start
  | faultRead => exact execFaultRead_frame rfl e start
  | historyRead => exact execHistoryRead_frame rfl e start
  | faultPinHold => exact execFaultPinHold_frame rfl e start
  | routeSet => exact execRouteSet_frame rfl e start
  | mcastGroupSet => exact execMcastGroupSet_frame rfl e start
  | funcBind => exact execFuncBind_frame rfl e start
  | commandShed => exact execCommandShed_frame rfl e start
  | acceptedDeadline => exact execAcceptedDeadline_frame rfl e start
  | load => exact execLoad_frame rfl e start
  | store => exact execStore_frame rfl e start
  | atomic => exact execAtomic_frame rfl e start
  | swapInShared => exact execSwapInShared_frame rfl e start
  | swapInHeld => exact execSwapInHeld_frame rfl e start
  | swapOut => exact execSwapOut_frame rfl e start
  | release => exact execRelease_frame rfl e start
  | invAck => exact execInvAck_frame rfl e start
  | jobPacket => exact execJobPacket_frame rfl e start
  | jobAbortPacket => exact execJobAbortPacket_frame rfl e start
  | stepPacket => exact execStepPacket_frame rfl e start
  | mcpl => exact execMcpl_frame rfl e start
  | badPacketRx => exact execBadPacketRx_frame rfl e start
  | ack => exact execAck_frame rfl e start
  | nak => exact execNak_frame rfl e start
  | xoff => exact execXoff_frame rfl e start
  | xon => exact execXon_frame rfl e start
  | ackTimer => exact execAckTimer_frame rfl e start
  | replayTimer => exact execReplayTimer_frame rfl e start
  | xoffRepeat => exact execXoffRepeat_frame rfl e start
  | xoffTimeout => exact execXoffTimeout_frame rfl e start
  | partnerTrainingSignal => exact execPartnerTrainingSignal_frame rfl e start
  | trainingComplete => exact execTrainingComplete_frame rfl e start
  | trainingTimeout => exact execTrainingTimeout_frame rfl e start
  | retrainAttemptFail => exact execRetrainAttemptFail_frame rfl e start
  | linkBreak => exact execLinkBreak_frame rfl e start
  | bar4Read => exact execBar4Read_frame rfl e start
  | bar4Write => exact execBar4Write_frame rfl e start
  | bar4Atomicop => exact execBar4Atomicop_frame rfl e start
  | winWaitTimeout => exact execWinWaitTimeout_frame rfl e start
  | readCompletionTimeout => exact execReadCompletionTimeout_frame rfl e start
  | flr => exact execFlr_frame rfl e start
  | perstNAssert => exact execPerstNAssert_frame rfl e start
  | perstNRelease => exact execPerstNRelease_frame rfl e start
  | hostLinkDown => exact execHostLinkDown_frame rfl e start
  | ideIntegrityFail => exact execIdeIntegrityFail_frame rfl e start
  | lockInterface => exact execLockInterface_frame rfl e start
  | startInterface => exact execStartInterface_frame rfl e start
  | stopInterface => exact execStopInterface_frame rfl e start
  | lockedConfigWrite => exact execLockedConfigWrite_frame rfl e start
  | spdmGetMeasurements => exact execSpdmGetMeasurements_frame rfl e start
  | pqSign => exact execPqSign_frame rfl e start
  | pqCert => exact execPqCert_frame rfl e start
  | tlkKeyProg => exact execTlkKeyProg_frame rfl e start
  | tlkKeyGo => exact execTlkKeyGo_frame rfl e start
  | ptmRequest => exact execPtmRequest_frame rfl e start
  | ptmResponse => exact execPtmResponse_frame rfl e start
  | ptmTimeout => exact execPtmTimeout_frame rfl e start
  | ppsEdge => exact execPpsEdge_frame rfl e start
  | timeHoldover => exact execTimeHoldover_frame rfl e start
  | cmdWord => exact execCmdWord_frame rfl e start
  | cmdLast => exact execCmdLast_frame rfl e start
  | cmdFlush => exact execCmdFlush_frame rfl e start
  | bankSwap => exact execBankSwap_frame rfl e start
  | completionBufferDrain => exact execCompletionBufferDrain_frame rfl e start
  | eventBufferDrain => exact execEventBufferDrain_frame rfl e start
  | responseRingDrain => exact execResponseRingDrain_frame rfl e start
  | tlkTrain => exact execTlkTrain_frame rfl e start
  | tlkRetrain => exact execTlkRetrain_frame rfl e start
  | tlkDisableSet => exact execTlkDisableSet_frame rfl e start
  | tlkDisableClear => exact execTlkDisableClear_frame rfl e start
  | trtFreeze => exact execTrtFreeze_frame rfl e start
  | trtRelease => exact execTrtRelease_frame rfl e start
  | trtPeakClr => exact execTrtPeakClr_frame rfl e start
  | engOffline => exact execEngOffline_frame rfl e start
  | engineReset => exact execEngineReset_frame rfl e start
  | engineSelfTestEnd => exact execEngineSelfTestEnd_frame rfl e start
  | pstateDoze => exact execPstateDoze_frame rfl e start
  | dozeExit => exact execDozeExit_frame rfl e start
  | pstateCellar => exact execPstateCellar_frame rfl e start
  | cellarEntryComplete => exact execCellarEntryComplete_frame rfl e start
  | cellarExit => exact execCellarExit_frame rfl e start
  | cellarExitReady => exact execCellarExitReady_frame rfl e start
  | glbTimeSet => exact execGlbTimeSet_frame rfl e start
  | glbLifeSel => exact execGlbLifeSel_frame rfl e start
  | dirEntrySel => exact execDirEntrySel_frame rfl e start
  | ownerFnWrite => exact execOwnerFnWrite_frame rfl e start
  | faultStatusClear => exact execFaultStatusClear_frame rfl e start
  | fltOvfClear => exact execFltOvfClear_frame rfl e start
  | fltPinHoldWrite => exact execFltPinHoldWrite_frame rfl e start
  | viewDataRead => exact execViewDataRead_frame rfl e start
  | vintageLoRead => exact execVintageLoRead_frame rfl e start
  | lowWordRead => exact execLowWordRead_frame rfl e start
  | lowWordWrite => exact execLowWordWrite_frame rfl e start
  | registerWrite => exact execRegisterWrite_frame rfl e start
  | smbusRead => exact execSmbusRead_frame rfl e start
  | resetN => exact execResetN_frame rfl e start
  | coldBoot => exact execColdBoot_frame rfl e start
  | sysclkLoss => exact execSysclkLoss_frame rfl e start
  | refclkLoss => exact execRefclkLoss_frame rfl e start
  | refclkReturn => exact execRefclkReturn_frame rfl e start
  | vinRise => exact execVinRise_frame rfl e start
  | inputLoss => exact execInputLoss_frame rfl e start
  | powerSample => exact execPowerSample_frame rfl e start
  | railFault => exact execRailFault_frame rfl e start
  | throttleNAssert => exact execThrottleNAssert_frame rfl e start
  | throttleNRelease => exact execThrottleNRelease_frame rfl e start
  | stackTempReading => exact execStackTempReading_frame rfl e start
  | junctionReading => exact execJunctionReading_frame rfl e start
  | tickBoundary => exact execTickBoundary_frame rfl e start
  | tilePrecheck => exact execTilePrecheck_frame rfl e start
  | measureComplete => exact execMeasureComplete_frame rfl e start
  | writeBackComplete => exact execWriteBackComplete_frame rfl e start
  | cowCopyComplete => exact execCowCopyComplete_frame rfl e start
  | scrubComplete => exact execScrubComplete_frame rfl e start
  | drainComplete => exact execDrainComplete_frame rfl e start
  | publishSwitch => exact execPublishSwitch_frame rfl e start
  | rackPageSwitch => exact execRackPageSwitch_frame rfl e start
  | rackRewriteDone => exact execRackRewriteDone_frame rfl e start
  | rackComplete => exact execRackComplete_frame rfl e start
  | digestComplete => exact execDigestComplete_frame rfl e start
  | rotationSweepComplete => exact execRotationSweepComplete_frame rfl e start
  | oldKeyOverwrite => exact execOldKeyOverwrite_frame rfl e start
  | pageScrubComplete => exact execPageScrubComplete_frame rfl e start
  | tenantScrubComplete => exact execTenantScrubComplete_frame rfl e start
  | rateChangeComplete => exact execRateChangeComplete_frame rfl e start
  | loftAck => exact execLoftAck_frame rfl e start
  | deltaFrame => exact execDeltaFrame_frame rfl e start
  | refresh => exact execRefresh_frame rfl e start
  | periodicRetrain => exact execPeriodicRetrain_frame rfl e start
  | caParityError => exact execCaParityError_frame rfl e start
  | patrol => exact execPatrol_frame rfl e start
  | gateEntryExpiry => exact execGateEntryExpiry_frame rfl e start
  | recallDeadline => exact execRecallDeadline_frame rfl e start
  | agentLoss => exact execAgentLoss_frame rfl e start
  | lostAgentReturn => exact execLostAgentReturn_frame rfl e start
  | faultRecordExpiry => exact execFaultRecordExpiry_frame rfl e start
  | idemRecordExpiry => exact execIdemRecordExpiry_frame rfl e start
  | jobRecordExpiry => exact execJobRecordExpiry_frame rfl e start
  | accessDecay => exact execAccessDecay_frame rfl e start
  | warmUpEnd => exact execWarmUpEnd_frame rfl e start
  | skewWindowEnd => exact execSkewWindowEnd_frame rfl e start
  | governorEvaluation => exact execGovernorEvaluation_frame rfl e start
  | minuteBoundary => exact execMinuteBoundary_frame rfl e start
  | faultNPulseEnd => exact execFaultNPulseEnd_frame rfl e start
  | stackFailure => exact execStackFailure_frame rfl e start
  | dieFailure d cause => exact execDieFailure_frame (_cause := cause) rfl e start
  | bridgeLoss => exact execBridgeLoss_frame rfl e start
  | engineFault => exact execEngineFault_frame rfl e start
  | hubFailure => exact execHubFailure_frame rfl e start
  | standbyLost => exact execStandbyLost_frame rfl e start
  | switchover => exact execSwitchover_frame rfl e start
  | railMismatch => exact execRailMismatch_frame rfl e start
  | partFailed => exact execPartFailed_frame rfl e start
  | hostLinkUp => exact execHostLinkUp_frame rfl e start
  | configWrite => exact execConfigWrite_frame rfl e start
  | readCompletion => exact execReadCompletion_frame rfl e start
  | spdmRequest => exact execSpdmRequest_frame rfl e start
  | ideKmKeyProg => exact execIdeKmKeyProg_frame rfl e start
  | jtagInstruction => exact execJtagInstruction_frame rfl e start
  | accessError => exact execAccessError_frame rfl e start
  | logRecordWrite => exact execLogRecordWrite_frame rfl e start
  | packetStart => exact execPacketStart_frame rfl e start
  | prefetchWalkComplete => exact execPrefetchWalkComplete_frame rfl e start

/-- What a command changes when it applies lies within the parts of its opcode; an opcode that Table 13.5 does not have changes nothing. -/
theorem State.lutikOp_touchesOp (s : State) (op : Nat) (i : Issuer) (p : Packet) : Frame (partsMask (touchesOp op)) s (s.lutikOp op i p) := by
  have start {m : Nat} : Frame m s s := Frame.refl m s
  unfold State.lutikOp
  split
  · exact State.doHello_frame rfl start
  · exact State.doCaps_frame rfl start
  · exact State.doRegionCreate_frame rfl start
  · exact State.doRegionDestroy_frame rfl start
  · exact State.doBinAdd_frame rfl start
  · exact State.doBinRevoke_frame rfl start
  · exact State.doRegionAttach_frame rfl start
  · exact State.doRegionDetach_frame rfl start
  · exact State.doPublish_frame rfl start
  · exact State.doRegionInfo_frame rfl start
  · exact State.doMapUpdate_frame rfl start
  · exact State.doMapDigest_frame rfl start
  · exact State.doFaultResolve_frame rfl start
  · exact State.doJobSubmit_frame rfl start
  · exact State.doJobAbort_frame rfl start
  · exact State.doModelLoad_frame rfl start
  · exact State.doLayerPlace_frame rfl start
  · exact State.doModelUnload_frame rfl start
  · exact State.doModelUsers_frame rfl start
  · exact State.doDecodeStep_frame rfl start
  · exact State.doJobQuery_frame rfl start
  · exact State.doMeterSet_frame rfl start
  · exact State.doSchedSet_frame rfl start
  · exact State.doGateListLoad_frame rfl start
  · exact State.doTenantCreate_frame rfl start
  · exact State.doTenantRemove_frame rfl start
  · exact State.doKeyRotate_frame rfl start
  · exact State.doBindWeights_frame rfl start
  · exact State.doContractLoad_frame rfl start
  · exact State.doPowerRead_frame rfl start
  · exact State.doFaultRead_frame rfl start
  · exact State.doHistoryRead_frame rfl start
  · exact State.doFaultPinHold_frame rfl start
  · exact State.doRouteSet_frame rfl start
  · exact State.doMcastGroupSet_frame rfl start
  · exact State.doFuncBind_frame rfl start
  · exact start

/-- What waits for a boundary changes its own parts when the boundary takes it. -/
theorem State.applyDue_touchesDue (s : State) (x : Due) : Frame (partsMask (touchesDue x)) s (s.applyDue x) := by
  have start {m : Nat} : Frame m s s := Frame.refl m s
  cases x with dsimp only [touchesDue]
  | cmd fn p => exact s.lutikOp_touchesOp p.op _ p
  | req q => exact State.dueReq_frame rfl start
  | owner a f => exact State.ownerApply_frame rfl start
  | expire i => exact State.expireAt_frame rfl start
  | hold b => exact State.setHold_frame rfl start
  | faultEnd slot seq => exact State.faultEnd_frame rfl start
  | pstate fn t => exact State.takeTarget_frame rfl start
  | flr fn => exact State.flrApply_frame rfl start
  | stack k c => exact State.failStacks_frame rfl start
  | die d => exact State.failDie_frame rfl start

/-- No row faults or is refused: each answers the next state. -/
theorem exec_next (c : Instr) (s : State) : ∃ t : State, exec c s = .next t := by
  cases c <;> exact ⟨_, rfl⟩

/-- Settles O3: every row answers a next state, and that state is in the row's frame. That no row stops, that what leaves the part is kept in
`State.out` and that free values are drawn by a counter are the model's choices (assumption logs 5 to 8). -/
theorem everyCommandCompletes : Obligations.EveryCommandCompletes := by
  intro c s
  obtain ⟨t, e⟩ := exec_next c s
  have f := exec_frame e
  exact ⟨t, e, f.queue, f.sent, f.drawn⟩

/-- Settles O4: the frames of the rows and of what waits, read part by part. -/
theorem commandsTouchOnlyTheirParts : Obligations.CommandsTouchOnlyTheirParts := by
  refine ⟨fun c s t e => (exec_frame e).parts, fun x s => ?_⟩
  have f := s.applyDue_touchesDue x
  exact ⟨f.parts.1, f.parts.2, f.queue, f.sent, f.drawn⟩

/-- Settles O5: a step idles, or takes the front command off the queue and stays in its frame. -/
theorem stepKeepsInv : Obligations.StepKeepsInv := by
  intro s t inv e
  unfold step at e
  split at e
  · obtain rfl : s = t := Host.Outcome.next.inj e
    exact inv
  · next c rest queued =>
    have f := exec_frame e
    refine ⟨f.mem inv.mem, fun d hd => inv.queue d ?_⟩
    rw [f.queue] at hd
    rw [queued]
    exact List.mem_cons_of_mem c hd

/-- Settles O1. -/
theorem stepRunsFront : Obligations.StepRunsFront := by
  intro c rest s queued
  simp [step, queued]

/-- Settles O2: the model's choice of assumption log 2. -/
theorem stepIdles : Obligations.StepIdles := by
  intro s queued
  simp [step, queued]

/-- Settles O59: no byte is listed and no command waits. -/
theorem resetInv : Obligations.ResetInv :=
  ⟨rfl, fun _ waiting => absurd waiting List.not_mem_nil⟩

/-- Settles O60: a table without entries reads as its default, and each default is the value named. Of these values MIR's primary hub and the
emptied memory are the model's own choices (assumption logs 3 and 9). -/
theorem resetValues : Obligations.ResetValues := by
  intro i fn
  repeat' apply And.intro
  all_goals rfl

end Sys2Proof.Machine
end

section
/-! PROOFS. CAPS, the words of the intake, the deadlines of a packet and the buffers of records (R369 to R387, R331, R545). -/

namespace Sys2Proof.Machine

/-! ### CAPS -/

theorem length_leBytes (n v : Nat) : (leBytes n v).length = n := by
  induction n generalizing v with
  | zero => rfl
  | succ n ih => simp [leBytes, ih]

theorem length_padTo {α : Type} (n : Nat) (d : α) (l : List α) : (padTo n d l).length = n := by
  simp only [padTo, List.length_append, List.length_take, List.length_replicate]
  omega

theorem State.doCaps_misaligned {s : State} {i : Issuer} {p : Packet} (h : p.addr 4 % 64 ≠ 0) : s.doCaps i p = s.answer i .malformed 4 := by
  simp [State.doCaps, State.malformed, h]

theorem State.doCaps_aligned {s : State} {i : Issuer} {p : Packet} (h : p.addr 4 % 64 = 0) :
    s.doCaps i p = (s.hostWrite i.fn 3 (p.addr 4) (s.capsBytes i.fn)).answer i .ok := by
  simp [State.doCaps, h]

theorem State.length_capsBytes (s : State) (fn : Nat) : (s.capsBytes fn).length = 128 := length_padTo ..

/-- The bytes of CAPS (Table 13.8) that give the versions, and FN and TENANT. -/
theorem State.capsBytes_places (s : State) (fn : Nat) : (s.capsBytes fn)[0]? = some 1 ∧ (s.capsBytes fn)[1]? = some 2 ∧
    (s.capsBytes fn)[2]? = some (BitVec.ofNat 8 (s.intake fn).minor) ∧ (s.capsBytes fn)[24]? = some (BitVec.ofNat 8 fn) ∧
    (s.capsBytes fn)[25]? = some (BitVec.ofNat 8 (s.func fn).tenant) := by
  simp only [State.capsBytes, padTo, leBytes, orderCode]
  refine ⟨?_, ?_, ?_, by simp, by simp⟩
  all_goals
    simp only [List.take, List.cons_append, List.getElem?_cons_zero, List.getElem?_cons_succ]
    refine congrArg some ?_
    bv_omega

/-- Settles O7: CAPS begun is `State.doCaps` on the state with the packet counted. -/
theorem capsReports : Obligations.CapsReports := by
  intro s fn p hb
  refine ⟨fun off => ?_, fun aligned => ⟨s.begun.capsBytes fn, ?_, State.length_capsBytes _ fn, ?_⟩⟩
  · rw [begins_caps hb, State.doCaps_misaligned off]
  · rw [begins_caps hb, State.doCaps_aligned aligned, issuer]
  · simpa using State.capsBytes_places s.begun fn

/-! ### Words of the intake -/

theorem exec_cmdWord_open {s : State} {fn : Nat} {w : Word} {tb : Bool} (h : s.regGate fn true tb = 4) :
    exec (.cmdWord fn w tb) s = .next (s.setIntake fn fun i => i.word w) := by
  refine congrArg Host.Outcome.next ((State.regGated_open h).trans ?_)
  simp [State.wordWrite]

/-- A register write that finds its function off the bus or not live has no effect (R342). -/
theorem State.regGated_closed {s : State} {fn : Nat} {bar0 tbit : Bool} {f : State → State} (h : s.regGate fn bar0 tbit ≤ 1) :
    s.regGated fn bar0 tbit false f = s := by
  unfold State.regGated
  split
  · rfl
  · omega
  · next g _ _ =>
    have : s.regGate fn bar0 tbit ≠ 2 := by omega
    simp [this]

/-- One without the T bit for a TDI in RUN is counted alone (R338). -/
theorem State.regGated_tdisp {s : State} {fn : Nat} {bar0 tbit : Bool} {f : State → State} (h : s.regGate fn bar0 tbit = 2) :
    s.regGated fn bar0 tbit false f = s.bump blkPCI (0x0880 + 4 * (s.func fn).link) := by
  simp [State.regGated, h]

theorem Intake.word_of_full {i : Intake} (w : Word) (h : i.space = 0) :
    i.word w = { i with part := some { i.part.getD {} with dropped := true }, overflow := true } :=
  if_pos h

theorem Intake.last_of_space {i : Intake} (w : Word) (t : Nat) (hs : 0 < i.space) (hf : i.flush = false)
    (hd : (i.part.getD {}).dropped = false) :
    i.last w t = { i with
      part := none,
      fill := i.fill ++ [{ p := { i.part.getD {} with words := (i.part.getD {}).words ++ [w] }, dws := (i.part.getD {}).words.length + 1, at_ := t }] } := by
  unfold Intake.last
  rw [Intake.word_of_space w hs]
  simp [hf, hd]

theorem Intake.last_of_full {i : Intake} (w : Word) (t : Nat) (hs : i.space = 0) (hf : i.flush = false) :
    i.last w t = { i with
      part := none, overflow := true, fill := i.fill ++ [{ p := { i.part.getD {} with dropped := true }, dws := 0, at_ := t }] } := by
  unfold Intake.last
  rw [Intake.word_of_full w hs]
  simp [hf]

/-- Settles O8: the gate decides first, and a write that it lets through is `Intake.word` or `Intake.last` of its function's intake. -/
theorem intakeTakesWords : Obligations.IntakeTakesWords := by
  intro s fn w tb
  refine ⟨fun shut => ?_, fun untrusted => ?_, fun gate => ⟨fun room => ?_, fun full => ?_, fun room hf hd => ?_, fun full hf => ?_⟩⟩
  · exact ⟨congrArg Host.Outcome.next (State.regGated_closed shut), congrArg Host.Outcome.next (State.regGated_closed shut)⟩
  · exact ⟨congrArg Host.Outcome.next (State.regGated_tdisp untrusted), congrArg Host.Outcome.next (State.regGated_tdisp untrusted)⟩
  · exact exec_setIntake_congr (exec_cmdWord_open gate) (Intake.word_of_space w room)
  · exact exec_setIntake_congr (exec_cmdWord_open gate) (Intake.word_of_full w full)
  · exact exec_setIntake_congr (exec_cmdLast_open gate) (Intake.last_of_space w s.tick room hf hd)
  · exact exec_setIntake_congr (exec_cmdLast_open gate) (Intake.last_of_full w s.tick full hf)

/-! ### Deadlines -/

theorem State.shed_oldest {s : State} {fn : Nat} {q : QPkt} {r : List QPkt} (hm : s.mayBegin fn = true) (hd : (s.intake fn).drain = q :: r)
    (old : q.at_ + 500 ≤ s.tick) :
    s.shed fn = ((s.setIntake fn fun i => { i with drain := r }).bump blkCMD 0x0504).answer (issuer fn q.p) .busy 0x800010 := by
  simp [State.shed, hm, hd, old, issuer]

theorem State.acceptOpen_due {s : State} {id : Nat} {o : OpenCmd} (ho : Tbl.find s.cmd.opens id = some o) (ha : o.accepted = false)
    (due : o.begun + 200 ≤ s.tick) :
    s.acceptOpen id = (s.onCmd fun c => { c with opens := Tbl.put c.opens id { o with accepted := true } }).answer o.by_ .accepted := by
  simp [State.acceptOpen, ho, ha, Nat.not_lt.mpr due]

/-- Settles O10. -/
theorem deadlinesAnswer : Obligations.DeadlinesAnswer :=
  fun _ _ => ⟨fun _ _ hm hd old => congrArg Host.Outcome.next (State.shed_oldest hm hd old),
    fun _ _ ho ha due => congrArg Host.Outcome.next (State.acceptOpen_due ho ha due)⟩

/-! ### Buffers that drain -/

@[simp] theorem State.writeCpl_cplBuf (s : State) (fn : Nat) (c : CplRec) : ((s.writeCpl fn c).intake fn).cplBuf = (s.intake fn).cplBuf := by
  simp [State.writeCpl]

@[simp] theorem State.writeEvt_evtBuf (s : State) (fn : Nat) (e : EvtRec) : ((s.writeEvt fn e).intake fn).evtBuf = (s.intake fn).evtBuf := by
  simp [State.writeEvt]

theorem State.drainCpl_step {s : State} {fn : Nat} {c : CplRec} {r : List CplRec} (n : Nat) (hb : (s.intake fn).cplBuf = c :: r)
    (room : s.cplRoom fn = true) :
    s.drainCpl fn (n + 1) = ((s.setIntake fn fun i => { i with cplBuf := r }).writeCpl fn c).drainCpl fn n := by
  simp [State.drainCpl, hb, room]

/-- As much fuel as records is enough. -/
theorem State.drainCpl_fuel {s : State} {fn n : Nat} (h : (s.intake fn).cplBuf.length ≤ n) : s.drainCpl fn (n + 1) = s.drainCpl fn n := by
  induction n generalizing s with
  | zero =>
    have : (s.intake fn).cplBuf = [] := by simpa using h
    simp [State.drainCpl, this]
  | succ n ih =>
    rw [State.drainCpl, State.drainCpl]
    split
    · rfl
    · next c r hb =>
      rw [hb] at h
      rw [ih (by simpa using h)]

theorem State.drainEvt_step {s : State} {fn : Nat} {e : EvtRec} {r : List EvtRec} (n : Nat) (hb : (s.intake fn).evtBuf = e :: r)
    (room : s.evtRoom fn = true) :
    s.drainEvt fn (n + 1) = ((s.setIntake fn fun i => { i with evtBuf := r }).writeEvt fn e).drainEvt fn n := by
  simp [State.drainEvt, hb, room]

theorem State.drainEvt_fuel {s : State} {fn n : Nat} (h : (s.intake fn).evtBuf.length ≤ n) : s.drainEvt fn (n + 1) = s.drainEvt fn n := by
  induction n generalizing s with
  | zero =>
    have : (s.intake fn).evtBuf = [] := by simpa using h
    simp [State.drainEvt, this]
  | succ n ih =>
    rw [State.drainEvt, State.drainEvt]
    split
    · rfl
    · next e r hb =>
      rw [hb] at h
      rw [ih (by simpa using h)]

/-- A function that stands reads as changed. -/
theorem State.func_setFn_self {s : State} {fn : Nat} {f : Func → Func} (h : (s.func? fn).isSome = true) :
    (s.setFn fn f).func fn = f (s.func fn) := by
  obtain ⟨x, hx⟩ := Option.isSome_iff_exists.mp h
  simp [State.func, hx]

/-- What a change of a function leaves in every function, it leaves there in the state. -/
theorem State.func_setFn_keeps {α : Type} {s : State} {fn g : Nat} {f : Func → Func} (get : Func → α) (h : ∀ x, get (f x) = get x) :
    get ((s.setFn fn f).func g) = get (s.func g) := by
  simp only [State.func, State.func?_setFn]
  split
  · cases s.func? g <;> simp [h]
  · rfl

theorem State.msix_ringBuf (s : State) (fn cls vec g : Nat) : ((s.msix fn cls vec).func g).ringBuf = (s.func g).ringBuf := by
  unfold State.msix
  extract_lets
  split
  · rfl
  · split
    · exact State.func_setFn_keeps Func.ringBuf fun _ => rfl
    · simp [State.func, State.func?]

@[simp] theorem State.writeRing_ringBuf (s : State) (fn g : Nat) (e : Resp) : ((s.writeRing fn e).func g).ringBuf = (s.func g).ringBuf := by
  unfold State.writeRing
  refine (State.msix_ringBuf ..).trans ((State.func_setFn_keeps Func.ringBuf (by intro; rfl)).trans ?_)
  simp [State.func, State.func?]

/-- A function that the part has no record of holds no response. -/
theorem State.func?_of_ringBuf {s : State} {fn : Nat} {e : Resp} {r : List Resp} (h : (s.func fn).ringBuf = e :: r) :
    (s.func? fn).isSome = true := by
  unfold State.func at h
  cases hf : s.func? fn with
  | none => rw [hf] at h; exact absurd h (by simp)
  | some _ => rfl

theorem State.drainRing_step {s : State} {fn : Nat} {e : Resp} {r : List Resp} (n : Nat) (hb : (s.func fn).ringBuf = e :: r)
    (room : s.ringRoom fn = true) :
    s.drainRing fn (n + 1) = ((s.setFn fn fun f => { f with ringBuf := r }).writeRing fn e).drainRing fn n := by
  simp [State.drainRing, hb, room]

theorem State.drainRing_fuel {s : State} {fn n : Nat} (h : (s.func fn).ringBuf.length ≤ n) : s.drainRing fn (n + 1) = s.drainRing fn n := by
  induction n generalizing s with
  | zero =>
    have : (s.func fn).ringBuf = [] := by simpa using h
    simp [State.drainRing, this]
  | succ n ih =>
    rw [State.drainRing, State.drainRing]
    split
    · rfl
    · next e r hb =>
      rw [hb] at h
      rw [ih (by simpa [State.func_setFn_self (State.func?_of_ringBuf hb)] using h)]

/-! ### A completion record given -/

/-- The record is written where the ring has room and nothing waits before it (R380). -/
theorem State.answer_written {s : State} {i : Issuer} (st : Status) (d r0 r1 : Nat) (he : s.fnExists i.fn = true)
    (hr : (s.func i.fn).reset = none) (room : s.cplRoom i.fn = true) (hb : (s.intake i.fn).cplBuf = []) :
    ((s.answer i st d r0 r1).intake i.fn).cpl = (s.intake i.fn).cpl.step := by
  simp [State.answer, State.putCpl, he, hr, room, hb, State.writeCpl]

/-- It waits in the completion buffer otherwise (R381). -/
theorem State.answer_waits {s : State} {i : Issuer} (st : Status) (d r0 r1 : Nat) (he : s.fnExists i.fn = true)
    (hr : (s.func i.fn).reset = none) (h : s.cplRoom i.fn = false ∨ (s.intake i.fn).cplBuf ≠ []) :
    s.answer i st d r0 r1 = s.setIntake i.fn fun x => { x with cplBuf := x.cplBuf ++
      [{ status := st, detail := d, final := st != .accepted, tag := i.tag, res0 := r0, res1 := r1 }] } := by
  have kept : ((s.intake i.fn).cplBuf.isEmpty && s.cplRoom i.fn) = false := by
    obtain h | h := h <;> simp [h]
  simp [State.answer, State.putCpl, he, hr, kept]

/-- Settles O11: a buffer's drain writes its oldest record and drains the rest, for which the fuel of its row is enough; a record given is written
or kept by `State.putCpl`. -/
theorem recordsWaitAndDrain : Obligations.RecordsWaitAndDrain := by
  refine ⟨fun s fn => ⟨fun c r hb few room => ?_, fun e r hb few room => ?_, fun e r _ hb few room => ?_, fun hb => ?_, fun hb => ?_, fun hb => ?_⟩,
    fun s i st d r0 r1 he hr => ⟨State.answer_written st d r0 r1 he hr, State.answer_waits st d r0 r1 he hr⟩⟩
  · refine ⟨_, congrArg Host.Outcome.next (State.drainCpl_step 1023 hb room), congrArg Host.Outcome.next (State.drainCpl_fuel ?_)⟩
    simpa using Nat.le_of_lt_succ few
  · refine ⟨_, congrArg Host.Outcome.next (State.drainEvt_step 63 hb room), congrArg Host.Outcome.next (State.drainEvt_fuel ?_)⟩
    simpa using Nat.le_of_lt_succ few
  · refine ⟨_, congrArg Host.Outcome.next (State.drainRing_step 255 hb room), congrArg Host.Outcome.next (State.drainRing_fuel ?_)⟩
    simpa [State.func_setFn_self (State.func?_of_ringBuf hb)] using Nat.le_of_lt_succ few
  · exact congrArg Host.Outcome.next (by simp [State.drainCpl, hb])
  · exact congrArg Host.Outcome.next (by simp [State.drainEvt, hb])
  · exact congrArg Host.Outcome.next (by simp [State.drainRing, hb])

end Sys2Proof.Machine
end

section
/-! PROOFS. Region commands at their boundary (R38 to R62): what each asks of its region first, and what it does when nothing refuses it. -/

namespace Sys2Proof.Machine

/-! ### Commands at their boundary -/

/-- A command applies by its opcode (R543). -/
theorem State.applyDue_cmd {s : State} {fn : Nat} {p : Packet} {op : Nat} (h : p.op = op) :
    s.applyDue (.cmd fn p) = s.lutikOp op (issuer fn p) p := by
  subst h; rfl

/-- Nothing refuses a command at once when any function may issue it and its fields may be so. -/
theorem State.beginRefusal_none {s : State} {i : Issuer} {p : Packet} {op : Nat} (ho : p.op = op) (open_ : providerOps.contains op = false)
    (notPower : op ≠ 0x0702) (hf : fieldFault p = none) : s.beginRefusal i p = none := by
  subst ho
  simp only [State.beginRefusal, open_, hf]
  simp [notPower]

/-- One that any function may issue is refused at once for its fields alone. -/
theorem State.beginRefusal_fields {s : State} {i : Issuer} {p : Packet} {op d : Nat} (ho : p.op = op) (open_ : providerOps.contains op = false)
    (notPower : op ≠ 0x0702) (hf : fieldFault p = some d) : s.beginRefusal i p = some (.malformed, d) := by
  subst ho
  simp only [State.beginRefusal, open_, hf]
  simp [notPower]

/-! ### The region that a command names -/

/-- Region commands other than REGION_CREATE (R62). -/
def regionOps : List Nat := [0x0202, 0x0203, 0x0204, 0x0205, 0x0206, 0x0207, 0x0208]

theorem fieldFault_regionOps {p : Packet} (h : p.op ∈ regionOps) : fieldFault p = none := by
  simp only [regionOps, List.mem_cons, List.not_mem_nil, or_false] at h
  rcases h with h | h | h | h | h | h | h <;> simp [fieldFault, h]

/-- A region command begun waits for the boundary: its fields are looked at there. -/
theorem State.cmdRow_regionOps {s : State} {fn : Nat} {p : Packet} {op : Nat} (hb : s.Begins fn p op) (h : op ∈ regionOps) :
    s.cmdRow op fn p = s.begun.later (.cmd fn p) := by
  have plain : ∀ op ∈ regionOps, op ≠ 0x0101 ∧ op ≠ 0x0102 ∧ op ≠ 0x0702 ∧ providerOps.contains op = false := by decide
  obtain ⟨notHello, notCaps, notPower, open_⟩ := plain op h
  refine State.cmdRow_later hb notHello notCaps (State.beginRefusal_none hb.opcode open_ notPower (fieldFault_regionOps ?_))
  rw [hb.opcode]
  exact h

theorem State.onTarget_unknown {s : State} {fn : Nat} {p : Packet} {f : Nat → Region → State}
    (h : 4096 ≤ p.dw 2 ∨ (s.region (p.dw 2)).state = .free) : s.onTarget (issuer fn p) p f = s.answer (issuer fn p) .malformed 2 := by
  unfold State.onTarget
  exact if_pos (by simpa using h)

theorem State.onTarget_denied {s : State} {fn : Nat} {p : Packet} {f : Nat → Region → State} (hk : p.dw 2 < 4096)
    (hl : (s.region (p.dw 2)).state ≠ .free) (hm : s.mayRegion (issuer fn p) (s.region (p.dw 2)).owner = false) :
    s.onTarget (issuer fn p) p f = s.answer (issuer fn p) .deniedRights := by
  simp [State.onTarget, Nat.not_le.mpr hk, hl, hm, State.denied]

theorem State.onTarget_of_target {s : State} {fn : Nat} {p : Packet} {f : Nat → Region → State} (h : s.Target fn p) :
    s.onTarget (issuer fn p) p f = f (p.dw 2) (s.region (p.dw 2)) := by
  simp [State.onTarget, Nat.not_le.mpr h.known, h.live, h.allowed]

/-- Every region command asks for its region before anything else. -/
theorem State.lutikOp_regionOps (s : State) (i : Issuer) (p : Packet) {op : Nat} (h : op ∈ regionOps) :
    ∃ f, s.lutikOp op i p = s.onTarget i p f := by
  simp only [regionOps, List.mem_cons, List.not_mem_nil, or_false] at h
  rcases h with rfl | rfl | rfl | rfl | rfl | rfl | rfl
  · exact ⟨_, State.doRegionDestroy.eq_def s i p⟩
  · exact ⟨_, State.doBinAdd.eq_def s i p⟩
  · exact ⟨_, State.doBinRevoke.eq_def s i p⟩
  · exact ⟨_, State.doRegionAttach.eq_def s i p⟩
  · exact ⟨_, State.doRegionDetach.eq_def s i p⟩
  · exact ⟨_, State.doPublish.eq_def s i p⟩
  · exact ⟨_, State.doRegionInfo.eq_def s i p⟩

/-- Settles O12: the rows of region commands wait, and each applies under `State.onTarget`. -/
theorem regionCommandsAskForTheirRegion : Obligations.RegionCommandsAskForTheirRegion := by
  intro s fn p op c hc
  have hop : op ∈ regionOps ∧ exec c s = .next (s.cmdRow op fn p) := by
    simp only [List.mem_cons, Prod.mk.injEq, List.not_mem_nil, or_false] at hc
    rcases hc with ⟨rfl, rfl⟩ | ⟨rfl, rfl⟩ | ⟨rfl, rfl⟩ | ⟨rfl, rfl⟩ | ⟨rfl, rfl⟩ | ⟨rfl, rfl⟩ | ⟨rfl, rfl⟩ <;>
      exact ⟨by decide, rfl⟩
  obtain ⟨region, row⟩ := hop
  obtain ⟨f, asks⟩ := s.lutikOp_regionOps (issuer fn p) p region
  refine ⟨fun hb => ?_, fun ho unknown => ?_, fun ho known live denied => ?_⟩
  · rw [row, State.cmdRow_regionOps hb region]
  · rw [State.applyDue_cmd ho, asks, State.onTarget_unknown unknown]
  · rw [State.applyDue_cmd ho, asks, State.onTarget_denied known live denied]

/-! ### Scrubs begun -/

/-- A scrub begun changes the list of scrubs and the engines' work alone. -/
theorem State.startScrub_frame_self (s : State) (sc : Scrub) (segs : List Seg) : Frame 18 s (s.startScrub sc segs) :=
  State.startScrub_frame rfl (Frame.refl 18 s)

@[simp] theorem State.startScrub_mem (s : State) (sc : Scrub) (segs : List Seg) : (s.startScrub sc segs).mem = s.mem := rfl

@[simp] theorem State.startScrub_region (s : State) (sc : Scrub) (segs : List Seg) (r : Nat) :
    (s.startScrub sc segs).region r = s.region r := rfl

@[simp] theorem State.startScrub_incarn (s : State) (sc : Scrub) (segs : List Seg) (r : Nat) :
    (s.startScrub sc segs).incarn r = s.incarn r := rfl

theorem State.find_startScrub (s : State) (sc : Scrub) (segs : List Seg) :
    Tbl.find (s.startScrub sc segs).rgn.scrubs s.rgn.nextScrub = some sc :=
  (Tbl.find_put _).trans (if_pos rfl)

/-! ### REGION_CREATE -/

@[simp] theorem State.newIncarn_region (s : State) (rid r : Nat) : (s.newIncarn rid).region r = s.region r := by
  unfold State.newIncarn
  extract_lets
  split <;> rfl

@[simp] theorem State.newIncarn_nextScrub (s : State) (rid : Nat) : (s.newIncarn rid).rgn.nextScrub = s.rgn.nextScrub := by
  unfold State.newIncarn
  extract_lets
  split <;> rfl

theorem State.newIncarn_incarn (s : State) (rid : Nat) : (s.newIncarn rid).incarn rid = (s.incarn rid + 1) % 65536 := by
  have put (n : Nat) : Tbl.getD (Tbl.put s.rgn.incarn rid n) rid 0 = n := (Tbl.getD_put rid 0).trans (if_pos rfl)
  unfold State.newIncarn
  extract_lets
  split <;> exact put _

theorem State.newIncarn_mem (s : State) (rid : Nat) : (s.newIncarn rid).mem = s.mem :=
  (State.newIncarn_frame rfl (Frame.refl 10 s)).same .mem rfl

theorem State.allocate_mem {s u : State} {rid data reserve : Nat} (h : s.allocate rid data reserve = .inl u) : u.mem = s.mem :=
  (State.allocate_frame rfl h (Frame.refl 8388610 s)).same .mem rfl

/-- The scrub that REGION_CREATE begins (R40, R61). -/
def createScrub (i : Issuer) (rid n : Nat) : Scrub :=
  { region := rid, why := .create, bins := List.range n, by_ := some i, res0 := rid + 65536 * n, res1 := 1 }

/-- REGION_CREATE with a free ID, quota and room (R61). -/
theorem State.doRegionCreate_allocates {s u : State} {i : Issuer} {p : Packet} {rid : Nat} (hf : createFault p = none)
    (may : s.mayRegion i (p.fld 3 21 16) = true) (tenant : s.tenantExists (p.fld 3 21 16) = true)
    (id : p.dw 2 = rid ∧ rid ≠ 0xFFFFFFFF ∧ (s.region rid).state = .free ∨ p.dw 2 = 0xFFFFFFFF ∧ s.freeRid = some rid)
    (quota : s.tenantUse (p.fld 3 21 16) + (p.dw 4 + p.dw 6) * (if bit (p.dw 3) 7 then 2 else 1) ≤ s.quotaOf (p.fld 3 21 16))
    (room : (p.dw 4 + p.dw 6) * (if bit (p.dw 3) 7 then 2 else 1) ≤ s.freeTotal)
    (alloc : (s.setRegion rid fun _ => createRegion p i).allocate rid (p.dw 4) (p.dw 6) = .inl u) :
    s.doRegionCreate i p = ((u.newIncarn rid).startScrub (createScrub i rid (u.region rid).bins.length)
      (zeroBins (u.newIncarn rid) (u.region rid).bins)).answerR16 i .accepted 0 rid := by
  have free : (p.dw 2 != 0xFFFFFFFF && (s.region (p.dw 2)).state != .free) = false := by
    obtain ⟨rfl, -, free⟩ | ⟨any, -⟩ := id
    · simp [free]
    · simp [any]
  have chosen : (if p.dw 2 != 0xFFFFFFFF then some (p.dw 2) else s.freeRid) = some rid := by
    obtain ⟨rfl, named, -⟩ | ⟨any, hr⟩ := id
    · simp [named]
    · simp [any, hr]
  have owner : (createRegion p i).owner = p.fld 3 21 16 := rfl
  have mirror : (createRegion p i).mirror = bit (p.dw 3) 7 := rfl
  unfold State.doRegionCreate
  simp only [hf, owner, mirror, may, tenant, free, chosen, alloc, Nat.not_lt.mpr quota, Nat.not_lt.mpr room]
  rfl

theorem State.regionCreate_fields {s : State} {fn : Nat} {p : Packet} (hb : s.Begins fn p 0x0201) :
    fieldFault p = createFault p := by
  simp [fieldFault, hb.opcode]

/-- Settles O13: the fields decide at once, and at the boundary the region takes what `State.allocate` gives it. -/
theorem regionCreateAllocates : Obligations.RegionCreateAllocates := by
  intro s fn p
  refine ⟨fun hb => ⟨fun d hd => ?_, fun hn => ?_⟩, fun u rid ho hf may tenant id quota room alloc => ?_⟩
  · exact refused_regionCreate hb (State.beginRefusal_fields hb.opcode (by decide) (by decide) ((State.regionCreate_fields hb).trans hd))
  · exact begins_regionCreate hb (State.beginRefusal_none hb.opcode (by decide) (by decide) ((State.regionCreate_fields hb).trans hn))
  · refine ⟨_, (State.applyDue_cmd ho).trans (State.doRegionCreate_allocates hf may tenant id quota room alloc), ?_, ?_, ?_, ?_⟩
    · simp
    · simp [State.newIncarn_incarn]
    · rw [State.startScrub_mem, State.newIncarn_mem, State.allocate_mem alloc, State.setRegion_mem]
    · rw [← State.newIncarn_nextScrub u rid, State.find_startScrub]
      simp [createScrub]

/-! ### BIN_ADD and REGION_INFO -/

/-- BIN_ADD to a settled region that is being neither lost nor racked, with room (R62). -/
theorem State.doBinAdd_allocates {s u : State} {fn : Nat} {p : Packet} (ht : s.Target fn p)
    (size : p.dw 4 % pageUnits (s.region (p.dw 2)).psz = 0) (reserve : p.dw 5 % pageUnits (s.region (p.dw 2)).psz = 0) (some_ : p.dw 4 ≠ 0)
    (versions : (s.region (p.dw 2)).versioned = true ∨ p.dw 5 = 0)
    (stands : (s.region (p.dw 2)).state = .active ∨ (s.region (p.dw 2)).state = .degraded) (unracked : (s.region (p.dw 2)).rack = none)
    (alloc : s.allocate (p.dw 2) (p.dw 4) (p.dw 5) = .inl u)
    (pages : (s.region (p.dw 2)).nextPage + p.dw 4 / pageUnits (s.region (p.dw 2)).psz ≤ 1048576) :
    s.doBinAdd (issuer fn p) p = (u.startScrub
      { region := p.dw 2, why := .add, bins := (List.range (u.region (p.dw 2)).bins.length).drop (s.region (p.dw 2)).bins.length,
        by_ := some (issuer fn p), res0 := (s.region (p.dw 2)).nextPage, res1 := p.dw 4 / pageUnits (s.region (p.dw 2)).psz }
      (zeroBins u ((u.region (p.dw 2)).bins.drop (s.region (p.dw 2)).bins.length))).answerR16 (issuer fn p) .accepted := by
  have reserved : (!(s.region (p.dw 2)).versioned && p.dw 5 != 0) = false := by
    obtain h | h := versions <;> simp [h]
  have settled : ((s.region (p.dw 2)).state == .creating || (s.region (p.dw 2)).state == .destroying) = false ∧
      ((s.region (p.dw 2)).state == .lost) = false := by
    obtain h | h := stands <;> rw [h] <;> decide
  obtain ⟨settled, kept⟩ := settled
  unfold State.doBinAdd
  rw [State.onTarget_of_target ht]
  simp only [reserved, settled, kept, alloc, size, reserve, unracked, Nat.not_lt.mpr pages]
  simp [some_]

theorem State.doRegionInfo_answers {s : State} {fn : Nat} {p : Packet} {b : RBin} (ht : s.Target fn p)
    (hb : (s.region (p.dw 2)).bins[p.dw 4]? = some b) (kept : b.removed = false) :
    s.doRegionInfo (issuer fn p) p = s.answer (issuer fn p) .ok 0 (b.pa / MIB2) b.units := by
  obtain ⟨inRange, -⟩ := List.getElem?_eq_some_iff.mp hb
  have bin : (s.region (p.dw 2)).bins.getD (p.dw 4) {} = b := by simp [List.getD, hb]
  unfold State.doRegionInfo
  rw [State.onTarget_of_target ht]
  simp only [bin, kept, Nat.not_le.mpr inRange]
  simp

/-- Settles O14. -/
theorem binsAreAddedAndRead : Obligations.BinsAreAddedAndRead := by
  intro s u fn p
  refine ⟨fun hb => congrArg Host.Outcome.next (State.cmdRow_regionOps hb (by decide)),
    fun hb => congrArg Host.Outcome.next (State.cmdRow_regionOps hb (by decide)),
    fun ht ho size reserve some_ versions stands unracked alloc pages => ?_, fun b ht ho hb kept => ?_⟩
  · refine ⟨_, (State.applyDue_cmd ho).trans (State.doBinAdd_allocates ht size reserve some_ versions stands unracked alloc pages), rfl, ?_,
      State.find_startScrub ..⟩
    rw [State.startScrub_mem, State.allocate_mem alloc]
  · exact (State.applyDue_cmd ho).trans (State.doRegionInfo_answers ht hb kept)

/-! ### Withdrawals -/

theorem Region.settled_iff {g : Region} : g.settled = !(g.state == .creating || g.state == .destroying) := by
  simp [Region.settled, bne]

/-- A settled region passes the check of the commands that change its list. -/
theorem Region.not_busy {g : Region} (h : g.settled = true) : (g.state == .creating || g.state == .destroying) = false := by
  simpa [Region.settled_iff] using h

theorem Region.busy_of_unsettled {g : Region} (h : g.settled = false) : (g.state == .creating || g.state == .destroying) = true := by
  rwa [Region.settled_iff, Bool.not_eq_false'] at h

/-- A withdrawal with something still in flight waits for later boundaries (R57). -/
theorem State.settleRevoke_waits {s : State} {w : Revoke} (h : s.inFlight w = true) :
    s.settleRevoke w = s.onRgn fun r => { r with revokes := r.revokes ++ [w] } := if_pos h

theorem State.settleRevoke_ends {s : State} {w : Revoke} (h : s.inFlight w = false) : s.settleRevoke w = s.endRevoke w := by
  simp [State.settleRevoke, h]

/-- The end of a bin's withdrawal that removes nothing answers alone (R57). -/
theorem State.endRevoke_bin {s : State} {w : Revoke} {b : Nat} (hb : w.bin = some b) (hr : w.remove = false) :
    s.endRevoke w = s.answerR16 w.by_ .ok := by
  simp [State.endRevoke, hb, hr]

/-- The end of a detachment takes its agents off the list (R44). -/
theorem State.endRevoke_region {s : State} {w : Revoke} (hb : w.bin = none) :
    s.endRevoke w = (s.dropAccess w.region w.agents).answerR16 w.by_ .ok := by
  simp [State.endRevoke, hb]

theorem State.dropAccess_region (s : State) (rid : Nat) (agents : List Nat) : (s.dropAccess rid agents).region rid =
    { s.region rid with acl := agents.foldl Tbl.del (s.region rid).acl,
                        revoked := (s.region rid).revoked.filter fun x => !agents.contains x.1 } := by
  simp [State.dropAccess, State.region, State.setRegion]

/-! ### REGION_ATTACH and REGION_DETACH -/

/-- The rights and views of DW3 of REGION_ATTACH (R43). -/
def attachAcc (p : Packet) : Acc :=
  { r := bit (p.dw 3) 8, w := bit (p.dw 3) 9, a := bit (p.dw 3) 10, pub := bit (p.dw 3) 11, draft := bit (p.dw 3) 12 }

/-- The state with an agent's rights and views on the region's list. -/
def State.attached (s : State) (p : Packet) : State :=
  (s.setRegion (p.dw 2) fun g => { g with acl := Tbl.put g.acl (p.fld 3 7 0) (attachAcc p) }).change

/-- REGION_ATTACH that nothing refuses (R43). -/
theorem State.doRegionAttach_attaches {s : State} {fn : Nat} {p : Packet} (ht : s.Target fn p) (hs : (s.region (p.dw 2)).settled = true)
    (known : s.agentExists (p.fld 3 7 0) = true) (may : s.isProvider fn = true ∨ s.tenantOf (p.fld 3 7 0) = (s.func fn).tenant)
    (views : (s.region (p.dw 2)).versioned = true → bit (p.dw 3) 11 = true ∨ bit (p.dw 3) 12 = true) (unlocked : s.locked (p.dw 2) = false) :
    s.doRegionAttach (issuer fn p) p =
      (if (Tbl.find (s.region (p.dw 2)).acl (p.fld 3 7 0)).isSome then (s.attached p).narrow (p.dw 2) (p.fld 3 7 0) (attachAcc p)
        else s.attached p).answerR16 (issuer fn p) .ok := by
  have viewed : ((s.region (p.dw 2)).versioned && !bit (p.dw 3) 11 && !bit (p.dw 3) 12) = false := by
    cases hv : (s.region (p.dw 2)).versioned
    · rfl
    · obtain h | h := views hv <;> simp [h]
  have allowed : (!s.provider (issuer fn p) && s.tenantOf (p.fld 3 7 0) != (s.func fn).tenant) = false := by
    obtain h | h := may
    · simp [State.provider, issuer, h]
    · simp [h]
  obtain ⟨freeW, freeKv⟩ : s.lockedW (p.dw 2) = false ∧ s.lockedKv (p.dw 2) = false := by
    simpa [State.locked] using unlocked
  unfold State.doRegionAttach
  rw [State.onTarget_of_target ht]
  simp only [known, viewed, show (issuer fn p).fn = fn from rfl, allowed, Region.not_busy hs, freeW, freeKv]
  rfl

/-- REGION_DETACH of an agent on the list of a settled region (R44). -/
theorem State.doRegionDetach_withdraws {s : State} {fn : Nat} {p : Packet} (ht : s.Target fn p) (hs : (s.region (p.dw 2)).settled = true)
    (on : (Tbl.find (s.region (p.dw 2)).acl (p.fld 3 7 0)).isSome = true) :
    s.doRegionDetach (issuer fn p) p = (s.revokeRegion (p.dw 2) (p.fld 3 7 0)).settleRevoke
      { by_ := issuer fn p, region := p.dw 2, agents := [p.fld 3 7 0] } := by
  unfold State.doRegionDetach
  rw [State.onTarget_of_target ht]
  have listed : (Tbl.find (s.region (p.dw 2)).acl (p.fld 3 7 0)).isNone = false := by simpa using on
  simp only [listed, Region.not_busy hs]
  rfl

/-- Settles O15. -/
theorem attachAndDetach : Obligations.AttachAndDetach := by
  intro s fn p
  refine ⟨fun hb => congrArg Host.Outcome.next (State.cmdRow_regionOps hb (by decide)),
    fun hb => congrArg Host.Outcome.next (State.cmdRow_regionOps hb (by decide)), fun ht hs => ⟨?_, ?_⟩⟩
  · rintro ho known may views unlocked _ _ rfl rfl
    have attach := (State.applyDue_cmd ho).trans (State.doRegionAttach_attaches ht hs known may views unlocked)
    refine ⟨fun new => ?_, fun old => ?_⟩
    · rw [attach, if_neg (by simp [new])]
      rfl
    · rw [attach, if_pos (Option.isSome_iff_ne_none.mpr old)]
      rfl
  · rintro ho on _ _ rfl rfl
    have detach := (State.applyDue_cmd ho).trans (State.doRegionDetach_withdraws ht hs on)
    refine ⟨fun quiet => ?_, fun busy => ?_⟩
    · rw [detach, State.settleRevoke_ends quiet, State.endRevoke_region rfl]
      refine ⟨_, rfl, ?_, ?_⟩
      · rw [State.dropAccess_region]
        rfl
      · rw [State.dropAccess_region]
        simp
    · rw [detach, State.settleRevoke_waits busy]

/-! ### BIN_REVOKE -/

/-- BIN_REVOKE of a region being created or destroyed: BUSY with DETAIL 2 (assumption log 144 puts it before MALFORMED). -/
theorem State.doBinRevoke_unsettled {s : State} {fn : Nat} {p : Packet} (ht : s.Target fn p) (keep : bit p.flags 2 = false)
    (hs : (s.region (p.dw 2)).settled = false) : s.doBinRevoke (issuer fn p) p = s.answer (issuer fn p) .busy 2 := by
  unfold State.doBinRevoke
  rw [State.onTarget_of_target ht]
  simp only [keep, Region.busy_of_unsettled hs]
  rfl

/-- The agents that BIN_REVOKE names: one, or with 0xFF everyone on the region's list (R54). -/
def revokeAgents (g : Region) (p : Packet) : List Nat := if p.fld 3 7 0 = 0xFF then g.acl.map Prod.fst else [p.fld 3 7 0]

/-- BIN_REVOKE without REMOVE of a bin that stands: the held bin decides (R58). -/
theorem State.doBinRevoke_settled {s : State} {fn : Nat} {p : Packet} (ht : s.Target fn p) (keep : bit p.flags 2 = false)
    (hs : (s.region (p.dw 2)).settled = true) (inRange : p.dw 4 < (s.region (p.dw 2)).bins.length)
    (stands : ((s.region (p.dw 2)).bins.getD (p.dw 4) {}).removed = false) :
    s.doBinRevoke (issuer fn p) p =
      if !bit p.flags 1 && s.heldIn (s.region (p.dw 2)) (p.dw 4) (revokeAgents (s.region (p.dw 2)) p) then s.answer (issuer fn p) .busy 1
      else (s.revokeBin (p.dw 2) (p.dw 4) (revokeAgents (s.region (p.dw 2)) p)).settleRevoke
        { by_ := issuer fn p, region := p.dw 2, bin := some (p.dw 4), agents := revokeAgents (s.region (p.dw 2)) p } := by
  have agents : (if p.fld 3 7 0 == 0xFF then (s.region (p.dw 2)).acl.map Prod.fst else [p.fld 3 7 0]) =
      revokeAgents (s.region (p.dw 2)) p := by simp [revokeAgents]
  unfold State.doBinRevoke
  rw [State.onTarget_of_target ht]
  simp only [keep, Region.not_busy hs, Nat.not_le.mpr inRange, stands, agents]
  rfl

/-- Settles O16: without REMOVE the state of the region decides first, then the holders of the bin, then what is in flight. That BUSY with DETAIL 2
comes before MALFORMED is the model's choice (assumption log 144). -/
theorem binRevokeWithdraws : Obligations.BinRevokeWithdraws := by
  intro s fn p
  refine ⟨fun hb => congrArg Host.Outcome.next (State.cmdRow_regionOps hb (by decide)), fun ho ht keep => ⟨fun hs => ?_, ?_⟩⟩
  · exact (State.applyDue_cmd ho).trans (State.doBinRevoke_unsettled ht keep hs)
  · rintro hs inRange stands _ _ rfl rfl
    have revoke := (State.applyDue_cmd ho).trans (State.doBinRevoke_settled ht keep hs inRange stands)
    refine ⟨fun gentle held => ?_, ?_⟩
    · rw [revoke, if_pos (by simpa [gentle, revokeAgents] using held)]
    · rintro go _ rfl
      have goes : ¬(!bit p.flags 1 && s.heldIn (s.region (p.dw 2)) (p.dw 4) (revokeAgents (s.region (p.dw 2)) p)) = true := by
        obtain h | h := go
        · simp [h]
        · simp [revokeAgents, h]
      rw [if_neg goes] at revoke
      refine ⟨fun quiet => ?_, fun busy => ?_⟩
      · exact revoke.trans ((State.settleRevoke_ends quiet).trans (State.endRevoke_bin rfl rfl))
      · exact revoke.trans (State.settleRevoke_waits busy)

/-! ### REGION_DESTROY -/

theorem State.doRegionDestroy_again {s : State} {fn : Nat} {p : Packet} (ht : s.Target fn p)
    (going : (s.region (p.dw 2)).state = .destroying) : s.doRegionDestroy (issuer fn p) p = s.answer (issuer fn p) .busy 1 := by
  unfold State.doRegionDestroy
  rw [State.onTarget_of_target ht]
  simp [going, State.busy]

/-- REGION_DESTROY that nothing refuses (R60). -/
theorem State.doRegionDestroy_destroys {s : State} {fn : Nat} {p : Packet} (ht : s.Target fn p)
    (stands : (s.region (p.dw 2)).state ≠ .destroying) (unlocked : s.locked (p.dw 2) = false) (unpublished : (s.region (p.dw 2)).pub = none)
    (free : bit p.flags 1 = true ∨ (s.region (p.dw 2)).acl = [] ∧ (s.region (p.dw 2)).rack = none) :
    ∃ u : State, s.doRegionDestroy (issuer fn p) p =
      (((u.setRegion (p.dw 2) fun g => { g with state := .destroying, destroyBy := some (issuer fn p), createBy := none }).change).startDestroyScrub
        (p.dw 2)).answerR16 (issuer fn p) .accepted := by
  have go : (!bit p.flags 1 && (!(s.region (p.dw 2)).acl.isEmpty || (s.region (p.dw 2)).rack.isSome)) = false := by
    obtain h | ⟨h, k⟩ := free
    · simp [h]
    · simp [h, k]
  have stands' : ((s.region (p.dw 2)).state == .destroying) = false := by simpa using stands
  unfold State.doRegionDestroy
  rw [State.onTarget_of_target ht]
  simp only [stands', unlocked, unpublished, go]
  exact ⟨_, rfl⟩

/-- Settles O17. -/
theorem destroyEndsARegion : Obligations.DestroyEndsARegion := by
  intro s fn p
  refine ⟨fun hb => congrArg Host.Outcome.next (State.cmdRow_regionOps hb (by decide)),
    fun ho ht => ⟨fun destroying => ?_, fun stands unlocked unpublished free => ?_⟩⟩
  · exact (State.applyDue_cmd ho).trans (State.doRegionDestroy_again ht destroying)
  · obtain ⟨u, destroy⟩ := State.doRegionDestroy_destroys ht stands unlocked unpublished free
    refine ⟨_, (State.applyDue_cmd ho).trans destroy, ?_, ?_⟩ <;> simp [State.region, State.setRegion]

/-! ### Scrubs that end -/

theorem State.enterHome_frame_self (s : State) (rid : Nat) (idxs : List Nat) : Frame 4 s (s.enterHome rid idxs) :=
  State.enterHome_frame rfl (Frame.refl 4 s)

theorem State.enterHome_region (s : State) (rid : Nat) (idxs : List Nat) (r : Nat) : (s.enterHome rid idxs).region r = s.region r := by
  have rgn : (s.enterHome rid idxs).rgn = s.rgn := (s.enterHome_frame_self rid idxs).same .rgn rfl
  simp [State.region, rgn]

/-- The scrub of a new region ends its command (R40): the region is ACTIVE. -/
theorem State.scrubDone_create {s : State} {id : Nat} {sc : Scrub} {i : Issuer} (hs : Tbl.find s.rgn.scrubs id = some sc)
    (done : s.actDone (.scrub id) = true) (why : sc.why = .create) (by_ : sc.by_ = some i) :
    ∃ u : State, s.scrubDone id = (u.setRegion sc.region fun g => { g with state := .active, createBy := none }).answerR16 i .ok 0 sc.res0 sc.res1 ∧
      u.mem = s.mem := by
  unfold State.scrubDone
  simp only [hs, done, why, by_]
  refine ⟨_, rfl, ?_⟩
  rw [(State.enterHome_frame_self ..).same .mem rfl]
  exact State.change_mem _

/-- The scrub of a bin removed: its memory is gone from the region (R59). -/
theorem State.scrubDone_remove {s : State} {id : Nat} {sc : Scrub} (hs : Tbl.find s.rgn.scrubs id = some sc)
    (done : s.actDone (.scrub id) = true) (why : sc.why = .binRemove) :
    s.scrubDone id = (s.dropScrub id).change.setRegion sc.region fun g => g.onBins sc.bins fun b => { b with gone := true } := by
  unfold State.scrubDone
  simp only [hs, done, why]
  rfl

/-- A bin that is listed reads as changed. -/
theorem Region.onBins_bin {g : Region} {is : List Nat} {f : RBin → RBin} {k : Nat} {b : RBin} (hk : k ∈ is)
    (hb : (g.onBins is f).bins[k]? = some b) : ∃ x, b = f x := by
  obtain ⟨x, -, hx⟩ : ∃ x, g.bins[k]? = some x ∧ f x = b := by simpa [Region.onBins, hk] using hb
  exact ⟨x, hx.symm⟩

theorem State.drainDone_frees {s : State} {rid id : Nat} {sc : Scrub} {rest : List (Nat × Scrub)} {i : Issuer}
    (hd : (s.region rid).state = .destroying) (hr : (s.region rid).removing = false)
    (hs : s.scrubsOf rid (fun w => w == .destroy) = (id, sc) :: rest) (done : s.actDone (.scrub id) = true) (by_ : sc.by_ = some i) :
    s.drainDone rid = ((s.dropScrub id).freeRegion rid).answerR16 i .ok := by
  unfold State.drainDone
  simp only [hd, hr, hs, done, by_]
  rfl

/-- Settles O18. -/
theorem scrubsEndCommands : Obligations.ScrubsEndCommands := by
  intro s id sc
  refine ⟨fun hs done => ⟨fun why i by_ => ?_, fun why => ?_⟩, fun rid rest i hd hr hs done by_ => ?_⟩
  · obtain ⟨u, ends, mem⟩ := State.scrubDone_create hs done why by_
    exact ⟨_, congrArg Host.Outcome.next ends, by simp, mem⟩
  · refine ⟨_, congrArg Host.Outcome.next (State.scrubDone_remove hs done why), ?_, fun k hk b hb => ?_⟩
    · rw [State.setRegion_mem, State.change_mem]
      rfl
    · rw [State.region_setRegion, if_pos rfl] at hb
      obtain ⟨x, rfl⟩ := Region.onBins_bin hk hb
      rfl
  · exact congrArg Host.Outcome.next (State.drainDone_frees hd hr hs done by_)

end Sys2Proof.Machine
end

section
/-! PROOFS. Directory requests (R65 to R95): how they come in, what Table 3.7 has each do, and what translation leaves alone. -/

namespace Sys2Proof.Machine

/-! ### How requests come in -/

theorem exec_request {c : Instr} {code : ReqCode} {via : Via} {r : DirReq} (h : reqOf c = some (code, via, r)) (s : State) :
    exec c s = .next (s.requestIn code via r c) := by
  cases c with simp only [reqOf, Option.some.injEq, Prod.mk.injEq, reduceCtorEq] at h
  | load | store | atomic | swapInShared | swapInHeld | swapOut | release | invAck =>
    obtain ⟨rfl, rfl, rfl⟩ := h
    rfl

/-- A request window serves: the part serves agents, the BAR is live, and the function has an agent (R328). -/
theorem State.slotRequest_open {s : State} {fn : Nat} {code : ReqCode} {r : DirReq} (hs : s.serving = true) (hb : s.barLive fn = true)
    (ha : (s.func fn).agent ≠ 0) : s.slotRequest fn code r =
      if 256 ≤ (s.func fn).ringBuf.length then (s.hostRx fn 0 128).bump blkPCI (0x0980 + 4 * (s.func fn).link)
      else (s.hostRx fn 0 128).admitIn (s.func fn).agent (.slot fn) code r := by
  simp [State.slotRequest, hs, hb, ha]

theorem State.slotRequest_shut {s : State} {fn : Nat} {code : ReqCode} {r : DirReq}
    (h : s.serving = false ∨ s.barLive fn = false ∨ (s.func fn).agent = 0) : s.slotRequest fn code r = s := by
  unfold State.slotRequest
  refine if_pos ?_
  obtain h | h | h := h <;> simp [h]

@[simp] theorem State.hostRx_mir (s : State) (fn v n : Nat) : (s.hostRx fn v n).mir = s.mir := by simp [State.hostRx]
@[simp] theorem State.hostRx_tick (s : State) (fn v n : Nat) : (s.hostRx fn v n).tick = s.tick := by simp [State.hostRx, State.tick]

/-- Settles O20: each way in is a branch of `State.requestIn`. That a function with no agent is answered nothing, that rows of BAR4 and of engines
do nothing, and that a slot counts as 128 bytes are the model's choices (assumption logs 80, 125 and 11). -/
theorem requestsAreAdmitted : Obligations.RequestsAreAdmitted := by
  intro s c code via r hc
  have row := exec_request hc s
  refine ⟨?_, ?_, ?_⟩
  · rintro fn rfl
    refine ⟨fun hs hb ha => ?_, fun shut => row.trans (congrArg Host.Outcome.next (State.slotRequest_shut shut))⟩
    have slot := row.trans (congrArg Host.Outcome.next (State.slotRequest_open hs hb ha))
    refine ⟨fun full => ?_, fun room served => ?_, fun room switching => ?_⟩
    · rw [slot, if_pos full]
    · rw [slot, if_neg (Nat.not_le.mpr room)]
      simp [State.admitIn, served]
    · rw [slot, if_neg (Nat.not_le.mpr room)]
      simp [State.admitIn, switching]
  · rintro p a rfl
    exact row
  · rintro (⟨fn, id, piece, rfl⟩ | rfl) <;> exact row

/-! ### Table 3.7 -/

/-- A page with no copy, write-back, publication or queue, in a region whose images are one. -/
structure State.Plain (s : State) (i : Nat) (q : PReq) : Prop where
  wb : (s.entry i).wb = none
  cow : (s.entry i).cow = none
  parked : (s.entry i).parked = []
  view : (s.entry i).view = 0
  pub : (s.region q.region).pub = none

/-- A direct access or a swap-in. -/
def ReqCode.access (c : ReqCode) : Bool := c.direct || c == .swapInShared || c == .swapInHeld

/-- An access to a plain page that is in use: the holder is served, a recalled or held page makes it wait, and a shared one serves readers and
whoever shares it alone (Table 3.7). -/
theorem State.Plain.verdict_access {s : State} {i : Nat} {q : PReq} (h : s.Plain i q) (hf : (s.entry i).state ≠ .free)
    (hs : (s.entry i).state ≠ .scrubPending) (hc : q.code.access = true) : s.verdict i q false =
      if (s.entry i).holds q.agent then (if q.code.direct then .serve else .again)
      else if (s.entry i).state = .recalling then .wait .none
      else if (s.entry i).state = .held then .wait .recall
      else if q.code = .load ∨ q.code = .swapInShared ∨ (s.entry i).sharers.filter (fun a => a != q.agent) = [] then .serve
      else .wait (.inval q.code.direct) := by
  have open_ : s.pubBlocks q = false ∧ s.switchWaits i q = false := by simp [State.pubBlocks, State.switchWaits, h.pub]
  obtain ⟨hw, hcow, hp, hv, -⟩ := h
  obtain ⟨notBlocked, notSwitching⟩ := open_
  cases hcode : q.code <;> simp only [hcode, ReqCode.access, ReqCode.direct] at hc
  case release | swapOut | invAck => exact absurd hc (by decide)
  all_goals
    unfold State.verdict
    cases hst : (s.entry i).state <;> simp [hst, hcode, hw, hcow, hp, hv, notBlocked, notSwitching, ReqCode.direct] at hf hs ⊢

/-- Settles O22: without copy, write-back, publication or queue only the page's state, its grants and the request's code decide. -/
theorem tableOfTransitions : Obligations.TableOfTransitions := by
  intro s i q hw hc hp hv hpub
  have plain : s.Plain i q := ⟨hw, hc, hp, hv, hpub⟩
  refine ⟨fun st code => ?_, fun st code => ?_, fun st code => ?_, fun st none_ code => ?_, fun st code => ?_, fun st other => ?_,
    fun st other code => ?_, fun st other code => ?_, fun st holder => ?_, fun used notPending code stale => ?_⟩
  · simp [State.verdict, st, code]
  · obtain code | code := code <;> simp [State.verdict, st, code]
  · obtain code | code | code | code | code := code <;> simp [State.verdict, st, code]
  · have free : (s.entry i).holds q.agent = false := by simp [DirEntry.holds, st]
    have access : q.code.access = true := by obtain c | c | c := code <;> simp [ReqCode.access, c]
    simp [plain.verdict_access (by simp [st]) (by simp [st]) access, free, st, none_]
  · have free : (s.entry i).holds q.agent = false := by simp [DirEntry.holds, st]
    have access : q.code.access = true := by obtain c | c := code <;> simp [ReqCode.access, ReqCode.direct, c]
    obtain c | c := code <;> simp [plain.verdict_access (by simp [st]) (by simp [st]) access, free, st, c]
  · have free : (s.entry i).holds q.agent = false := by simp [DirEntry.holds, st]
    have shared : ¬∀ a ∈ (s.entry i).sharers, a = q.agent := by simpa using other
    have access (h : q.code.access = true) := plain.verdict_access (by simp [st]) (by simp [st]) h
    refine ⟨fun code => ?_, fun code => ?_⟩
    · simp [access (by simp [ReqCode.access, code]), free, st, code, ReqCode.direct, shared]
    · obtain c | c := code <;> simp [access (by simp [ReqCode.access, ReqCode.direct, c]), free, st, c, ReqCode.direct, shared]
  · have free : (s.entry i).holds q.agent = false := by simp [DirEntry.holds, other]
    have access : q.code.access = true := by obtain c | c | c := code <;> simp [ReqCode.access, c]
    simp [plain.verdict_access (by simp [st]) (by simp [st]) access, free, st]
  · have access : q.code.access = true := by obtain c | c | c := code <;> simp [ReqCode.access, c]
    simp [plain.verdict_access (by simp [st]) (by simp [st]) access, other, st]
  · have holds : (s.entry i).holds q.agent = true := by simp [DirEntry.holds, holder, st]
    refine ⟨fun code => ?_, fun code gen => ?_, fun code => ?_⟩
    · simp [plain.verdict_access (by simp [st]) (by simp [st]) (by simp [ReqCode.access, code]), holds, code]
    · simp [State.verdict, st, code, holds, gen, hw]
    · simp [State.verdict, st, code, holds, hw]
  · have refused : (!(s.entry i).holds q.agent || q.r.gen != (s.entry i).gen) = true := by
      obtain h | h := stale <;> simp [h]
    unfold State.verdict
    cases st : (s.entry i).state <;> simp [st, code, refused] at used notPending ⊢

/-! ### A page that nothing waits for -/

/-- The page's state asks for nothing more: no invalidation has ended and no last sharer has gone. -/
theorem State.settle_stays {s : State} {i : Nat} (hr : (s.entry i).state = .recalling → (s.entry i).prior = true)
    (hs : (s.entry i).state = .shared → (s.entry i).sharers ≠ []) : s.settle i = s := by
  unfold State.settle
  simp only []
  rw [if_neg, if_neg]
  · intro h
    simp only [Bool.and_eq_true, beq_iff_eq, List.isEmpty_iff] at h
    exact hs h.1 h.2
  · intro h
    simp only [Bool.and_eq_true, beq_iff_eq, Bool.not_eq_true'] at h
    have := hr h.1.1
    rw [h.1.2] at this
    exact Bool.false_ne_true this

/-- With an empty queue there is no one to serve (R77). -/
theorem State.serve_nil {s : State} {i : Nat} (n : Nat) (h : (s.entry i).parked = []) : s.serve i (n + 1) = s := by
  unfold State.serve
  simp [h, firstIdx]

theorem State.follow_nil {s : State} {i : Nat} (h : (s.entry i).parked = []) : s.follow i = s := by
  unfold State.follow
  simp only [h, List.filter_nil]
  split <;> rfl

/-- A page with an empty queue is only settled. -/
theorem State.reopen_nil {s : State} {i : Nat} (h : ((s.settle i).entry i).parked = []) : s.reopen i = s.settle i := by
  unfold State.reopen
  simp only []
  rw [State.serve_nil _ h, State.follow_nil h]

/-- Neither settled nor served: a page of a state that stands, with an empty queue. -/
theorem State.reopen_stays {s : State} {i : Nat} (hp : (s.entry i).parked = []) (hr : (s.entry i).state = .recalling → (s.entry i).prior = true)
    (hs : (s.entry i).state = .shared → (s.entry i).sharers ≠ []) : s.reopen i = s := by
  have settled := State.settle_stays hr hs
  rw [State.reopen_nil (by rw [settled]; exact hp), settled]

/-- A frame without the directory keeps its entries, and one without memory its bytes. -/
theorem Frame.entry_eq {m : Nat} {s t : State} (h : Frame m s t) (hm : m.testBit 2 = false) (i : Nat) : t.entry i = s.entry i := by
  unfold State.entry
  rw [show t.dir = s.dir from h.same .dir hm]

theorem Frame.mem_eq {m : Nat} {s t : State} (h : Frame m s t) (hm : m.testBit 0 = false) : t.mem = s.mem := h.same .mem hm

@[simp] theorem State.change_entry (s : State) (i : Nat) : s.change.entry i = s.entry i := by simp [State.entry]

@[simp] theorem State.putRec_entry (s : State) (q : PReq) (page : Option Nat) (r : Resp) (i : Nat) : (s.putRec q page r).entry i = s.entry i := rfl

theorem State.respondHeld_entry (s : State) (q : PReq) (st : Option Nat) (r : Resp) (i : Nat) : (s.respondHeld q st r).entry i = s.entry i :=
  (State.respondHeld_frame rfl (Frame.refl 2157312 s)).entry_eq rfl i

theorem State.respondNow_entry (s : State) (q : PReq) (st : Option Nat) (r : Resp) (i : Nat) : (s.respondNow q st r).entry i = s.entry i :=
  (State.respondNow_frame rfl (Frame.refl 2124544 s)).entry_eq rfl i

@[simp] theorem State.requeue_entry (s : State) (n : Nat) (m : Meas) (i : Nat) : (s.requeue n m).entry i = s.entry i := rfl

/-- A response changes no entry. -/
@[simp] theorem State.finish_entry (s : State) (q : PReq) (page : Option Nat) (c : Bool) (st : Option Nat) (r : Resp) (i : Nat) :
    (s.finish q page c st r).entry i = s.entry i := by
  unfold State.finish
  split
  · rfl
  · extract_lets
    split
    · rw [State.respondHeld_entry, State.putRec_entry]
    · split
      · exact State.respondHeld_entry ..
      · exact State.respondNow_entry ..

@[simp] theorem State.finish_mem (s : State) (q : PReq) (page : Option Nat) (c : Bool) (st : Option Nat) (r : Resp) :
    (s.finish q page c st r).mem = s.mem := (State.finish_frame rfl (Frame.refl 2157332 s)).mem_eq rfl

@[simp] theorem State.refuse_entry (s : State) (q : PReq) (st : Status) (d i : Nat) : (s.refuse q st d).entry i = s.entry i := State.finish_entry ..
@[simp] theorem State.refuse_mem (s : State) (q : PReq) (st : Status) (d : Nat) : (s.refuse q st d).mem = s.mem := State.finish_mem ..

@[simp] theorem State.oweData_entry (s : State) (q : PReq) (i : Nat) (z : Bool) (j : Nat) : (s.oweData q i z).entry j = s.entry j := rfl
@[simp] theorem State.oweData_mem (s : State) (q : PReq) (i : Nat) (z : Bool) : (s.oweData q i z).mem = s.mem := rfl

@[simp] theorem State.grant_entry (s : State) (i : Nat) (q : PReq) (j : Nat) : (s.grant i q).entry j = s.entry j := by
  unfold State.grant
  extract_lets
  split
  · exact State.finish_entry ..
  · exact (State.oweData_entry ..).trans (State.finish_entry ..)

@[simp] theorem State.grant_mem (s : State) (i : Nat) (q : PReq) : (s.grant i q).mem = s.mem := by
  unfold State.grant
  extract_lets
  split
  · exact State.finish_mem ..
  · exact (State.oweData_mem ..).trans (State.finish_mem ..)

/-- Two changes of an entry that agree on what it holds make the same state. -/
theorem State.setEntry_congr {s : State} {i : Nat} {f h : DirEntry → DirEntry} (e : f (s.entry i) = h (s.entry i)) :
    s.setEntry i f = s.setEntry i h := by
  unfold State.setEntry State.onDir Tbl.modD
  unfold State.entry at e
  simp only [e]

/-- A request decided where the verdict is known (R73). -/
theorem State.decide_eq {s : State} {q : PReq} {i : Nat} {v : Verdict} (hi : i = s.decideIdx q.region q.home q.draft)
    (hv : s.verdict i q false = v) : s.decide q = ((s.act i q false v).1).reopen i := by
  subst hi hv
  rfl

/-! ### Grants -/

/-- Settles O25: each verdict's act, and the page settled after it. That an INV_ACK keeps GEN is assumption log 27. -/
theorem grantsMovePages : Obligations.GrantsMovePages := by
  intro s q i e hm hi he hw hc hp hv hpub
  subst he
  have plain : s.Plain i q := ⟨hw, hc, hp, hv, hpub⟩
  obtain ⟨-, -, -, home, -, -, -, -, held, stale⟩ := tableOfTransitions s i q hw hc hp hv hpub
  refine ⟨fun code st none_ => ?_, fun code st none_ => ?_, fun code st holder => ?_, fun code st other => ?_, fun code st holder gen => ?_,
    fun code st notPrior pending sharers gen => ?_⟩
  · have decided : s.decide q = ((s.setEntry i fun e => e.toHeld q.agent).grant i q).reopen i := by
      rw [State.decide_eq hi (home st none_ (.inr (.inr code)))]
      simp [State.act, code]
    rw [decided, State.reopen_stays (by simp [DirEntry.toHeld, DirEntry.genUp, hp]) (by simp [DirEntry.toHeld]) (by simp [DirEntry.toHeld])]
    exact ⟨by simp, rfl, by simp⟩
  · have decided : s.decide q = ((s.setEntry i fun e => { e with state := .shared, sharers := [q.agent] }).grant i q).reopen i := by
      rw [State.decide_eq hi (home st none_ (.inr (.inl code)))]
      simp only [State.act, code]
      rw [State.setEntry_congr (h := fun e => { e with state := .shared, sharers := [q.agent] }) (by simp [none_, insertBy])]
    rw [decided, State.reopen_stays (by simp [hp]) (by simp) (by simp)]
    exact ⟨by simp, by simp⟩
  · rw [State.decide_eq hi ((held st holder).2.2 code)]
    simp only [State.act]
    rw [State.reopen_stays (by simp [DirEntry.toHome, hp]) (by simp [DirEntry.toHome]) (by simp [DirEntry.toHome])]
    exact ⟨by simp, by simp⟩
  · have refused : s.decide q = (s.refuse q .staleGrant).reopen i := by
      rw [State.decide_eq hi (stale (by simp [st]) (by simp [st]) code (other.imp_left fun h => by simp [DirEntry.holds, h]))]
      rfl
    rw [refused, State.reopen_stays (by simp [hp]) (by simp [st]) (by simp [st])]
    exact ⟨rfl, by simp, by simp⟩
  · have decided : s.decide q = ((((s.setEntry i fun e => { e with met := false }).change).wbStart i q (bit q.r.flags 1)).setEntry i
        fun e => { e with wb := e.wb.map fun w => { w with early := q.early } }).reopen i := by
      have notRecalled : ((s.entry i).state == .recalling && !q.early) = false := by simp [st]
      rw [State.decide_eq hi ((held st holder).2.1 code gen)]
      simp only [State.act, notRecalled, Bool.not_false, Bool.and_true]
    exact ⟨_, decided, by simp, by simp⟩
  · have acked : s.decide q = (s.setEntry i fun e => { e with pending := [], sharers := [] }).reopen i := by
      have open_ : ((s.entry i).state == .recalling && !(s.entry i).prior) = true := by simp [st, notPrior]
      have his : ((s.entry i).pending.contains q.agent && q.r.gen == (s.entry i).invGen) = true := by simp [pending, gen]
      rw [State.decide_eq hi (v := .ack) (by simp [State.verdict, st, code])]
      simp only [State.act, open_, his, if_true]
      rw [State.setEntry_congr (h := fun e => { e with pending := [], sharers := [] }) (by simp [pending, sharers])]
    have settled : (s.setEntry i fun e => { e with pending := [], sharers := [] }).settle i =
        ((s.setEntry i fun e => { e with pending := [], sharers := [] }).setEntry i DirEntry.toHome).change := by
      unfold State.settle
      rw [if_pos (by simp [st, notPrior])]
      refine congrArg State.change (State.setEntry_congr ?_)
      simp
    rw [acked, State.reopen_nil (by rw [settled]; simp [DirEntry.toHome, hp]), settled]
    exact ⟨by simp, by simp⟩

/-! ### Direct accesses -/

theorem State.toBanks_frame_self (s : State) (rid pa : Nat) (w : Bool) : Frame 64 s (s.toBanks rid pa w) :=
  State.toBanks_frame rfl (Frame.refl 64 s)

@[simp] theorem State.toBanks_mem (s : State) (rid pa : Nat) (w : Bool) : (s.toBanks rid pa w).mem = s.mem :=
  (s.toBanks_frame_self rid pa w).mem_eq rfl

@[simp] theorem State.toBanks_entry (s : State) (rid pa : Nat) (w : Bool) (i : Nat) : (s.toBanks rid pa w).entry i = s.entry i :=
  (s.toBanks_frame_self rid pa w).entry_eq rfl i

@[simp] theorem State.toBanks_copies (s : State) (rid pa : Nat) (w : Bool) (g : Region) (a : Nat) :
    (s.toBanks rid pa w).copies g a = s.copies g a := State.copies_congr (s.toBanks_spec rid pa w).2.2 g a

@[simp] theorem State.toBanks_stored (s : State) (rid pa : Nat) (w : Bool) (g : Region) (a : Nat) :
    (s.toBanks rid pa w).stored g a = s.stored g a := State.stored_congr (s.toBanks_spec rid pa w).2.2 g a

/-- A line whose first served copy is good, read after its request has entered the queues of its controllers. -/
theorem State.readLine_toBanks {s : State} {rid pa x a : Nat} {w : Bool} {g : Region} {l : List Nat} (hc : s.copies g pa = a :: l)
    (he : Tbl.find s.mcx.errs (a / 64) = none) (hg : s.poisoned (a / 64) = false) :
    (s.toBanks rid x w).readLine g pa = (s.toBanks rid x w, some (Memory.read s.mem a 64)) := by
  obtain ⟨errs, poison, -⟩ := s.toBanks_spec rid x w
  have clean : (s.toBanks rid x w).poisoned (a / 64) = false := by rwa [State.poisoned, poison]
  rw [State.readLine_good (by rw [State.toBanks_copies, hc]) (by rw [errs, he]) clean, State.toBanks_mem]

/-- A direct access to a plain page in HOME is performed on it (R82). -/
theorem State.decide_home {s : State} {q : PReq} {i : Nat} (plain : s.Plain i q) (hi : i = s.decideIdx q.region q.home q.draft)
    (st : (s.entry i).state = .home) (none_ : (s.entry i).sharers = []) (direct : q.code.direct = true) :
    s.decide q = (s.perform i q).reopen i := by
  obtain ⟨-, -, -, home, -⟩ := tableOfTransitions s i q plain.wb plain.cow plain.parked plain.view plain.pub
  rw [State.decide_eq hi (home st none_ (.inl direct))]
  cases code : q.code <;> simp [code, ReqCode.direct] at direct <;> simp [State.act, code, st]

/-- A LOAD of a good line (R82). -/
theorem State.doLoad_good {s : State} {q : PReq} {i a : Nat} {l : List Nat} (code : q.code = .load) (meas : q.meas = none)
    (hc : s.copies (s.region q.region) (s.linePa i q) = a :: l) (he : Tbl.find s.mcx.errs (a / 64) = none) (hg : s.poisoned (a / 64) = false) :
    s.doLoad i q = (s.toBanks q.region (s.linePa i q) false).respondNow q (some (stackOf (s.linePa i q)))
      { data := Memory.read s.mem a 64, txid := q.r.txid, code := .load } := by
  have region : (s.toBanks q.region (s.linePa i q) false).region q.region = s.region q.region := by
    unfold State.region
    rw [show (s.toBanks q.region (s.linePa i q) false).rgn = s.rgn from (s.toBanks_frame_self ..).same .rgn rfl]
  unfold State.doLoad
  simp only [region, State.readLine_toBanks hc he hg]
  simp [State.finish, meas, PReq.recorded, code]

/-- Settles O23. -/
theorem loadReadsTheLine : Obligations.LoadReadsTheLine := by
  rintro s q i pa l code meas live hi st none_ hw hc hp hv hpub rfl copies errs clean
  have plain : s.Plain i q := ⟨hw, hc, hp, hv, hpub⟩
  have performed : s.perform i q = s.doLoad i q := by simp [State.perform, meas, live, code]
  have quiet (t : State) (h : t.entry i = s.entry i) : t.reopen i = t :=
    State.reopen_stays (by rw [h, hp]) (by simp [h, st]) (by simp [h, st])
  have loaded : s.decide q = (s.toBanks q.region (s.linePa i q) false).respondNow q (some (stackOf (s.linePa i q)))
      { data := Memory.read s.mem (s.linePa i q) 64, txid := q.r.txid, code := .load } := by
    rw [State.decide_home plain hi st none_ (by simp [code, ReqCode.direct]), performed, State.doLoad_good code meas copies errs clean]
    exact quiet _ (by rw [State.respondNow_entry, State.toBanks_entry])
  have frame : Frame 2124608 s (s.decide q) := by
    rw [loaded]
    exact State.respondNow_frame rfl (State.toBanks_frame rfl (Frame.refl _ s))
  exact ⟨loaded, frame.mem_eq rfl, frame.same .dir rfl⟩

end Sys2Proof.Machine
end

section
/-! PROOFS. What direct writes do to the pool's bytes (R34, R82 to R86): a masked write byte by byte, one write in every place of a line, and the
field of an ATOMIC. -/

namespace Sys2Proof.Machine

/-! ### Numbers and bytes -/

theorem leNat_leBytes (n v : Nat) : leNat (leBytes n v) = v % 256 ^ n := by
  induction n generalizing v with
  | zero => simp [leBytes, leNat, Nat.mod_one]
  | succ n ih =>
    rw [leBytes, leNat, ih, BitVec.toNat_ofNat, show 256 ^ (n + 1) = 256 * 256 ^ n from Nat.pow_succ', Nat.mod_mul (a := 256)]

theorem padTo_of_length {α : Type} {n : Nat} {d : α} {l : List α} (h : l.length = n) : padTo n d l = l := by
  simp [padTo, ← h]

/-! ### Atomic operations (Table 3.8) -/

theorem length_atomLanes (atop n k : Nat) (old op : List Byte) : (atomLanes atop n k old op).length = n * k := by
  induction k generalizing old op with
  | zero => rfl
  | succ k ih => simp [atomLanes, ih, length_leBytes, Nat.mul_succ, Nat.add_comm]

/-- An operation fills its field of 8 or 16 bytes. -/
theorem length_atomOp {atop : Nat} {old operands : List Byte} (h : old.length = 8 ∨ old.length = 16) :
    (atomOp atop old operands).length = old.length := by
  have ops : (padTo 32 0 operands).length = 32 := length_padTo ..
  have lanes : laneBytes atop * (old.length / laneBytes atop) = old.length := by
    have divides : laneBytes atop = 8 ∨ laneBytes atop = 4 ∨ laneBytes atop = 2 := by
      unfold laneBytes
      split
      · exact .inr (.inl rfl)
      · split <;> simp
    obtain h | h := h <;> obtain k | k | k := divides <;> rw [h, k]
  unfold atomOp
  extract_lets w ops'
  split
  · simp only [List.length_take, ops', w, ops]
    omega
  · split
    · simp only [List.length_take, List.length_drop, ops', w, ops]
      omega
    · rfl
  · exact (length_atomLanes ..).trans lanes

/-- ADD of 8 bytes: one lane, the sum modulo 2^64. -/
theorem atomOp_add {old ops : List Byte} (ho : old.length = 8) (hp : ops.length = 32) :
    leNat (atomOp 0 old ops) = (leNat old + leNat (ops.take 8)) % 2 ^ 64 := by
  have lane : atomOp 0 old ops = leBytes 8 ((leNat old + leNat (ops.take 8)) % 2 ^ 64) := by
    have whole : old.take 8 = old := List.take_of_length_le (Nat.le_of_eq ho)
    simp [atomOp, ho, padTo_of_length hp, laneBytes, atomLanes, atomLane, whole]
  rw [lane, leNat_leBytes, show (256 ^ 8 : Nat) = 2 ^ 64 from by decide, Nat.mod_mod]

theorem atomOp_swap {old ops : List Byte} (ho : old.length = 8) (hp : ops.length = 32) : atomOp 1 old ops = ops.take 8 := by
  simp [atomOp, ho, padTo_of_length hp]

theorem atomOp_cas {old ops : List Byte} (ho : old.length = 8) (hp : ops.length = 32) :
    atomOp 2 old ops = if old = ops.take 8 then (ops.drop 16).take 8 else old := by
  simp [atomOp, ho, padTo_of_length hp]

/-! ### Masked writes -/

/-- A masked write touches the bytes that its mask enables and no other. -/
theorem Memory.get_writeMasked {m : Memory} (w : Memory.wf m = true) (a mask : Nat) (d : List Byte) (c : Nat) :
    Memory.get (Memory.writeMasked m a mask d) c =
      if a ≤ c ∧ c < a + d.length ∧ bit mask (c - a) = true then d.getD (c - a) 0 else Memory.get m c := by
  induction d generalizing m a mask with
  | nil => simp [Memory.writeMasked]; omega
  | cons b bs ih =>
    unfold Memory.writeMasked
    have w' : Memory.wf (if mask % 2 = 1 then Memory.set m a b else m) = true := by
      split
      · exact Memory.set_wf w
      · exact w
    have head : Memory.get (if mask % 2 = 1 then Memory.set m a b else m) c = if c = a ∧ mask % 2 = 1 then b else Memory.get m c := by
      by_cases hm : mask % 2 = 1
      · simp [hm, Memory.get_set w]
      · simp [hm]
    rw [ih w', head]
    obtain hlt | rfl | hgt := Nat.lt_trichotomy c a
    · rw [if_neg (by omega), if_neg (by omega), if_neg (by omega)]
    · rw [if_neg (by omega)]
      simp [bit]
    · obtain ⟨k, rfl⟩ : ∃ k, c = a + 1 + k := ⟨c - (a + 1), by omega⟩
      have shift : bit mask (a + 1 + k - a) = bit (mask / 2) k := by
        rw [show a + 1 + k - a = k + 1 by omega, bit, bit, Nat.div_div_eq_div_mul, Nat.pow_succ']
      rw [shift, show a + 1 + k - (a + 1) = k by omega, show a + 1 + k - a = k + 1 by omega]
      simp only [List.length_cons, List.getD_cons_succ]
      by_cases hk : k < bs.length ∧ bit (mask / 2) k = true
      · rw [if_pos ⟨by omega, by omega, hk.2⟩, if_pos ⟨by omega, by omega, hk.2⟩]
      · rw [if_neg (fun h => hk ⟨by omega, h.2.2⟩), if_neg (by omega), if_neg (fun h => hk ⟨by omega, h.2.2⟩)]

/-- The same masked bytes written in every place of a line. -/
def writePlaces (m : Memory) (places : List Nat) (mask : Nat) (d : List Byte) : Memory :=
  places.foldl (fun m a => Memory.writeMasked m a mask d) m

/-- A byte that no place's mask enables reads as before. -/
theorem get_writePlaces_out {m : Memory} (w : Memory.wf m = true) {places : List Nat} {mask : Nat} {d : List Byte} {c : Nat}
    (h : ∀ l ∈ places, l ≤ c → c < l + d.length → bit mask (c - l) = false) :
    Memory.get (writePlaces m places mask d) c = Memory.get m c := by
  induction places generalizing m with
  | nil => rfl
  | cons a r ih =>
    refine (ih (Memory.writeMasked_wf w) fun l hl => h l (List.mem_cons_of_mem a hl)).trans ?_
    rw [Memory.get_writeMasked w, if_neg]
    rintro ⟨lo, hi, on⟩
    rw [h a List.mem_cons_self lo hi] at on
    exact Bool.false_ne_true on

/-- In each of several places 64 bytes apart the enabled bytes read what was written. -/
theorem get_writePlaces_in {m : Memory} (w : Memory.wf m = true) {places : List Nat} {mask : Nat} {d : List Byte} (hd : d.length ≤ 64)
    (apart : places.Pairwise fun l k => l + 64 ≤ k ∨ k + 64 ≤ l) {l k : Nat} (hl : l ∈ places) (hk : k < d.length) :
    Memory.get (writePlaces m places mask d) (l + k) = if bit mask k = true then d.getD k 0 else Memory.get m (l + k) := by
  induction places generalizing m with
  | nil => exact absurd hl List.not_mem_nil
  | cons a r ih =>
    obtain ⟨far, apart⟩ := List.pairwise_cons.1 apart
    obtain rfl | hl := List.mem_cons.1 hl
    · refine (get_writePlaces_out (Memory.writeMasked_wf w) fun x hx lo hi => ?_).trans ?_
      · have := far x hx
        omega
      · rw [Memory.get_writeMasked w, Nat.add_sub_cancel_left]
        simp [hk]
    · refine (ih (Memory.writeMasked_wf w) apart hl).trans ?_
      have := far l hl
      rw [Memory.get_writeMasked w, if_neg (c := a ≤ l + k ∧ _) (by omega)]

theorem State.clearPoison_mem (s : State) (pa n : Nat) : (s.clearPoison pa n).mem = s.mem := rfl

theorem State.writeLine_mem (s : State) (g : Region) (pa mask : Nat) (d : List Byte) :
    (s.writeLine g pa mask d).mem = writePlaces s.mem (s.stored g pa) mask d := by
  unfold State.writeLine writePlaces
  generalize s.stored g pa = places
  induction places generalizing s with
  | nil => rfl
  | cons a r ih =>
    rw [List.foldl_cons, List.foldl_cons, ih]
    congr 1
    simp only []
    split <;> rfl

/-! ### STORE and ATOMIC -/

@[simp] theorem State.toBanks_region (s : State) (rid pa : Nat) (w : Bool) (r : Nat) : (s.toBanks rid pa w).region r = s.region r := by
  unfold State.region
  rw [show (s.toBanks rid pa w).rgn = s.rgn from (s.toBanks_frame_self rid pa w).same .rgn rfl]

@[simp] theorem State.writeLine_entry (s : State) (g : Region) (pa mask : Nat) (d : List Byte) (i : Nat) :
    (s.writeLine g pa mask d).entry i = s.entry i := (State.writeLine_frame rfl (Frame.refl 65 s)).entry_eq rfl i

/-- A STORE to a line whose first served copy is good (R82, R34): whether or not it reads the line first, it writes every place of it. -/
theorem State.doStore_good {s : State} {q : PReq} {i a : Nat} {l : List Nat} (hc : s.copies (s.region q.region) (s.linePa i q) = a :: l)
    (he : Tbl.find s.mcx.errs (a / 64) = none) (hg : s.poisoned (a / 64) = false) :
    s.doStore i q = (((s.toBanks q.region (s.linePa i q) true).writeLine (s.region q.region) (s.linePa i q) q.r.mask q.r.data).logDie q i {}).finish
      q (some q.home) true (some (stackOf (s.linePa i q))) {} := by
  unfold State.doStore
  by_cases full : (q.r.mask % 2 ^ 64 == 2 ^ 64 - 1) = true
  · simp only [full, if_true]
  · simp only [full, State.readLine_toBanks hc he hg]
    rfl

/-- An ATOMIC on such a line: the field of its first copy decides what every place is written (R83). -/
theorem State.doAtomic_good {s : State} {q : PReq} {i a w : Nat} {l : List Nat} (hc : s.copies (s.region q.region) (s.linePa i q) = a :: l)
    (he : Tbl.find s.mcx.errs (a / 64) = none) (hg : s.poisoned (a / 64) = false) (hw : w = if q.r.wide then 16 else 8) {old : List Byte}
    (ho : old = ((Memory.read s.mem a 64).drop (q.r.pva % 64)).take w) :
    s.doAtomic i q = (((s.toBanks q.region (s.linePa i q) true).writeLine (s.region q.region) (s.linePa i q) ((2 ^ w - 1) * 2 ^ (q.r.pva % 64))
      (List.replicate (q.r.pva % 64) 0 ++ atomOp q.r.atop old q.r.operands)).logDie q i { old := old }).finish
      q (some q.home) true (some (stackOf (s.linePa i q))) { old := old } := by
  subst hw ho
  unfold State.doAtomic
  simp only [State.readLine_toBanks hc he hg]

/-- A part of what a line reads. -/
theorem Memory.read_part {m : Memory} {a n o w : Nat} (h : o + w ≤ n) : ((Memory.read m a n).drop o).take w = Memory.read m (a + o) w := by
  refine List.ext_getElem (by simp [Memory.read]; omega) fun j h1 h2 => ?_
  simp [Memory.read, Nat.add_assoc]

/-- The mask of a field of `w` bytes at byte `o`. -/
theorem bit_fieldMask (w o k : Nat) : bit ((2 ^ w - 1) * 2 ^ o) k = decide (o ≤ k ∧ k < o + w) := by
  rw [bit_eq_testBit, Nat.testBit_mul_two_pow, Nat.testBit_two_pow_sub_one]
  by_cases h : o ≤ k
  · simp [h]; omega
  · simp [h]

/-- The state after a write that has been performed: its page stays as it is. -/
theorem State.decide_write {s t : State} {q : PReq} {i : Nat} {places : List Nat} {mask : Nat} {d : List Byte} (plain : s.Plain i q)
    (hi : i = s.decideIdx q.region q.home q.draft) (st : (s.entry i).state = .home) (none_ : (s.entry i).sharers = [])
    (direct : q.code.direct = true) (performed : s.perform i q = t) (mem : t.mem = writePlaces s.mem places mask d)
    (entry : t.entry i = s.entry i) : (s.decide q).mem = writePlaces s.mem places mask d := by
  rw [State.decide_home plain hi st none_ direct, performed,
    State.reopen_stays (by rw [entry, plain.parked]) (by simp [entry, st]) (by simp [entry, st]), mem]

@[simp] theorem State.logDie_entry (s : State) (q : PReq) (i : Nat) (r : Resp) (j : Nat) : (s.logDie q i r).entry j = s.entry j := rfl
@[simp] theorem State.logDie_mem (s : State) (q : PReq) (i : Nat) (r : Resp) : (s.logDie q i r).mem = s.mem := rfl

/-- Settles O24: both write one masked line in every place of it. -/
theorem writesTouchOnlyTheirBytes : Obligations.WritesTouchOnlyTheirBytes := by
  refine ⟨?_, fun old ops ho hp => ⟨atomOp_add ho hp, atomOp_swap ho hp, fun same => ?_, fun other => ?_⟩⟩
  · rintro s q i _ _ canonical meas live hi st none_ hw hc hp hv hpub rfl rfl stands good apart
    have plain : s.Plain i q := ⟨hw, hc, hp, hv, hpub⟩
    obtain ⟨a, l, copies⟩ := List.exists_cons_of_ne_nil stands
    obtain ⟨errs, clean⟩ := good a (by rw [copies]; exact List.mem_cons_self)
    refine ⟨fun code len => ?_, fun code w o hw ho fits => ?_⟩
    · have performed : s.perform i q = s.doStore i q := by simp [State.perform, meas, live, code]
      have mem := State.decide_write plain hi st none_ (by simp [code, ReqCode.direct])
        (performed.trans (State.doStore_good copies errs clean))
        (by rw [State.finish_mem, State.logDie_mem, State.writeLine_mem, State.toBanks_mem, State.toBanks_stored]) (by simp)
      rw [mem]
      refine ⟨fun x hx k hk => get_writePlaces_in canonical (by omega) apart hx (by omega), fun b out => ?_⟩
      exact get_writePlaces_out canonical fun x hx lo hi => by
        have := out x hx
        omega
    · have performed : s.perform i q = s.doAtomic i q := by simp [State.perform, meas, live, code]
      have mem := State.decide_write plain hi st none_ (by simp [code, ReqCode.direct])
        (performed.trans (State.doAtomic_good copies errs clean hw rfl))
        (by rw [State.finish_mem, State.logDie_mem, State.writeLine_mem, State.toBanks_mem, State.toBanks_stored]) (by simp)
      rw [← ho, Memory.read_part fits] at mem
      have field : (Memory.read s.mem (a + o) w).length = w := by simp [Memory.read]
      have new : (atomOp q.r.atop (Memory.read s.mem (a + o) w) q.r.operands).length = w := by
        refine (length_atomOp ?_).trans field
        rw [field, hw]
        split <;> simp
      rw [mem, show (s.copies (s.region q.region) (s.linePa i q)).headD 0 = a by rw [copies]; rfl]
      generalize atomOp q.r.atop (Memory.read s.mem (a + o) w) q.r.operands = bytes at new ⊢
      refine ⟨fun x hx => ?_, fun b out => ?_⟩
      · refine List.ext_getElem (by simp [Memory.read, new]) fun j h1 h2 => ?_
        have hj : j < w := by omega
        have byte := get_writePlaces_in (mask := (2 ^ w - 1) * 2 ^ o) (d := List.replicate o 0 ++ bytes) canonical
          (by simp [new]; omega) apart hx (k := o + j) (by simp [new]; omega)
        rw [bit_fieldMask, if_pos (by simpa using hj)] at byte
        simpa [Memory.read, Nat.add_assoc, List.getD, List.getElem?_append_right, h2] using byte
      · refine get_writePlaces_out canonical fun x hx lo hi => ?_
        rw [bit_fieldMask]
        have := out x hx
        simp only [List.length_append, List.length_replicate, new] at hi
        exact decide_eq_false (by omega)
  · rw [atomOp_cas ho hp, if_pos same]
  · rw [atomOp_cas ho hp, if_neg other]

/-! ### Deadlines -/

theorem State.grantEnded_entry (s : State) (i a g : Nat) (c : Status) (j : Nat) : (s.grantEnded i a g c).entry j = s.entry j :=
  (State.grantEnded_frame rfl (Frame.refl 2124544 s)).entry_eq rfl j

theorem State.grantEnded_mem (s : State) (i a g : Nat) (c : Status) : (s.grantEnded i a g c).mem = s.mem :=
  (State.grantEnded_frame rfl (Frame.refl 2124544 s)).mem_eq rfl

@[simp] theorem State.bump_entry (s : State) (blk off n i : Nat) : (s.bump blk off n).entry i = s.entry i := by simp [State.entry]

/-- The deadline has come and the holder has not answered: the grant ends and the page, with an empty queue, is in HOME (R78 to R80). -/
theorem State.expireAt_ends {s : State} {t i d : Nat} (st : (s.entry i).state = .recalling) (dead : (s.entry i).deadline = some d) (due : d ≤ t)
    (unmet : (s.entry i).met = false) (holder : (s.entry i).prior = true) (hw : (s.entry i).wb = none) (hp : (s.entry i).parked = []) :
    (s.expireAt t i).entry i = (s.entry i).genUp.toHome ∧ (s.expireAt t i).mem = s.mem := by
  have expired : s.expireAt t i = ((((s.setEntry i fun e => e.genUp.toHome).change).grantEnded i (s.entry i).holder (s.entry i).gen
      .recallTimeout).bump blkDIR 0x0304).reopen i := by
    unfold State.expireAt
    simp only [st, dead, unmet, holder, hw, Nat.not_lt.mpr due]
    simp only [decide_false, Bool.or_self, Option.isSome_none, if_true, Bool.false_eq_true, if_false, List.foldl_cons, List.foldl_nil]
    rw [State.setEntry_congr (h := fun e => e.genUp.toHome) (by simp [holder])]
  have entry : (((((s.setEntry i fun e => e.genUp.toHome).change).grantEnded i (s.entry i).holder (s.entry i).gen
      .recallTimeout).bump blkDIR 0x0304)).entry i = (s.entry i).genUp.toHome := by
    simp [State.grantEnded_entry]
  rw [expired, State.reopen_stays (by rw [entry]; exact hp) (by rw [entry]; simp [DirEntry.toHome]) (by rw [entry]; simp [DirEntry.toHome])]
  exact ⟨entry, by simp [State.grantEnded_mem]⟩

/-- An answered recall runs out without effect (R79). -/
theorem State.expireAt_met {s : State} {t i d : Nat} (st : (s.entry i).state = .recalling) (dead : (s.entry i).deadline = some d)
    (met : (s.entry i).met = true) : s.expireAt t i = s := by
  simp [State.expireAt, st, dead, met]

/-- A page with no deadline is left alone by the adjustment of a recall sent at the deadline's own boundary. -/
theorem State.sentNow_none {s : State} {i : Nat} (h : (s.entry i).deadline = none) : s.sentNow i = s := by
  simp [State.sentNow, h]

/-- Nor is one whose deadline is past. -/
theorem State.sentNow_past {s : State} {i d : Nat} (dead : (s.entry i).deadline = some d) (due : d ≤ s.tick) : s.sentNow i = s := by
  unfold State.sentNow
  refine if_neg ?_
  rw [dead]
  simp
  omega

theorem State.expire_due {s : State} {i d : Nat} (st : (s.entry i).state = .recalling) (dead : (s.entry i).deadline = some d) (due : d ≤ s.tick) :
    s.expire i = (s.expireAt s.tick i).sentNow i := by
  simp [State.expire, st, dead, due]

theorem State.expire_early {s : State} {i d : Nat} (st : (s.entry i).state = .recalling) (dead : (s.entry i).deadline = some d)
    (early : s.tick < d) : s.expire i = if d = s.tick + 1 then s.later (.expire i) else s := by
  simp [State.expire, st, dead, Nat.not_le.mpr early, State.later]

/-! ### Write-backs and copies that end -/

theorem State.dropReads_entry (s : State) (i j : Nat) : (s.dropReads i).entry j = s.entry j :=
  (State.dropReads_frame rfl (Frame.refl 1536 s)).entry_eq rfl j

theorem State.dropReads_mem (s : State) (i : Nat) : (s.dropReads i).mem = s.mem :=
  (State.dropReads_frame rfl (Frame.refl 1536 s)).mem_eq rfl

@[simp] theorem State.dropAct_entry (s : State) (w : Work) (j : Nat) : (s.dropAct w).entry j = s.entry j := rfl
@[simp] theorem State.dropAct_mem (s : State) (w : Work) : (s.dropAct w).mem = s.mem := rfl

/-- The end of a write-back that neither keeps the grant nor has another behind it (R87): the page is in HOME. -/
theorem State.wbDone_home {s : State} {i : Nat} {w : WriteBack} (hw : (s.entry i).wb = some w) (keep : w.keep = false)
    (next : (s.entry i).nextWb = none) (early : w.early = false ∨ (s.entry i).state ≠ .recalling) (hp : (s.entry i).parked = []) :
    (s.wbDone i).entry i = { s.entry i with wb := none, torn := false }.toHome ∧ (s.wbDone i).mem = s.mem := by
  have ends : ∃ u : State, s.wbDone i = (u.setEntry i DirEntry.toHome).reopen i ∧ u.entry i = { s.entry i with wb := none, torn := false } ∧
      u.mem = s.mem := by
    refine ⟨((((s.dropAct (.writeBack i)).dropReads i).setEntry i fun e => { e with wb := none, torn := false }).change).finish w.q
      (some w.q.home) true none {}, ?_, by simp [State.dropReads_entry], by simp [State.dropReads_mem]⟩
    have grantEnds : (w.early && (s.entry i).state == .recalling) = false := by
      obtain h | h := early <;> simp [h]
    unfold State.wbDone
    simp [hw, keep, next, State.dropReads_entry, grantEnds]
  obtain ⟨u, done, entry, mem⟩ := ends
  rw [done, State.reopen_stays (by simp [entry, DirEntry.toHome, hp]) (by simp [DirEntry.toHome]) (by simp [DirEntry.toHome])]
  exact ⟨by simp [entry], by simp [mem]⟩

/-- The end of a copy that no request waits for (R47). -/
theorem State.cowDone_idle {s : State} {i : Nat} {c : CowCopy} (hc : (s.entry i).cow = some c) (waiters : c.waiters = [])
    (hp : (s.entry i).parked = []) (st : (s.entry i).state = .home) :
    (s.cowDone i).entry i = { s.entry i with cow := none } ∧ (s.cowDone i).mem = s.mem := by
  have ends : s.cowDone i = ((((s.dropAct (.cow i)).setEntry i fun e => { e with cow := none, parked := [] }).change).setEntry i
      fun e => { e with parked := e.parked ++ [] }).reopen i := by
    simp [State.cowDone, hc, waiters, hp]
  rw [ends, State.reopen_stays (by simp) (by simp [st]) (by simp [st])]
  refine ⟨?_, by simp⟩
  simp [hp]

/-- Settles O26: the deadline is `State.expireAt` at its boundary, and a write-back or a copy is complete once its last measure is. -/
theorem deadlinesAndCopiesEnd : Obligations.DeadlinesAndCopiesEnd := by
  refine ⟨?_, fun s i => ⟨fun w hw waits => ?_, fun w hw cut done keep next early hp meas => ?_, fun waits => ?_, fun c hc done waiters hp st => ?_⟩⟩
  · rintro s i d _ rfl st dead
    refine ⟨fun before => congrArg Host.Outcome.next ?_, fun now => congrArg Host.Outcome.next ?_, fun due met => congrArg Host.Outcome.next ?_,
      fun _ met => State.expireAt_met st dead met, fun unmet holder hw _ hp => ⟨fun due => ?_, fun due => ?_⟩⟩
    · rw [State.expire_early st dead (by omega), if_neg (by omega)]
    · rw [State.expire_early st dead (by omega), if_pos now]
    · rw [State.expire_due st dead due, State.expireAt_met st dead met]
      exact State.sentNow_past dead due
    · obtain ⟨entry, mem⟩ := State.expireAt_ends st dead due unmet holder hw hp
      refine ⟨_, congrArg Host.Outcome.next ((State.expire_due st dead due).trans (State.sentNow_none ?_)), entry, mem⟩
      rw [entry]
      rfl
    · exact State.expireAt_ends st dead due unmet holder hw hp
  · refine congrArg Host.Outcome.next ?_
    have unfinished : (w.cut == w.total && s.actDone (.writeBack i)) = false := by
      obtain h | h := waits <;> simp [h]
    simp [State.wbComplete, hw, unfinished]
  · obtain ⟨entry, mem⟩ := State.wbDone_home hw keep next early hp
    refine ⟨s.wbDone i, congrArg Host.Outcome.next (by simp [State.wbComplete, hw, cut, done]), ?_, ?_, ?_, mem⟩ <;> rw [entry] <;> rfl
  · exact congrArg Host.Outcome.next (by simp [State.cowComplete, waits])
  · obtain ⟨entry, mem⟩ := State.cowDone_idle hc waiters hp st
    exact ⟨s.cowDone i, congrArg Host.Outcome.next (by simp [State.cowComplete, hc, done]), entry, mem⟩

end Sys2Proof.Machine
end

section
/-! PROOFS. A request that passes its checks (R69, R72, R108): what stands between its admission and its decision changes no page, no region and
no byte. -/

namespace Sys2Proof.Machine

/-- The two states agree in every part that the checks of a request read. -/
structure State.Alike (s u : State) : Prop where
  mem : u.mem = s.mem
  rgn : u.rgn = s.rgn
  dir : u.dir = s.dir
  xlt : u.xlt = s.xlt
  eng : u.eng = s.eng
  mcx : u.mcx = s.mcx
  sec : u.sec = s.sec
  pci : u.pci = s.pci

namespace State.Alike

variable {s u v : State}

theorem trans (h : s.Alike u) (k : u.Alike v) : s.Alike v :=
  ⟨k.mem.trans h.mem, k.rgn.trans h.rgn, k.dir.trans h.dir, k.xlt.trans h.xlt, k.eng.trans h.eng, k.mcx.trans h.mcx, k.sec.trans h.sec,
    k.pci.trans h.pci⟩

/-- A step that touches none of those parts. -/
theorem of_frame {m : Nat} (h : Frame m s u)
    (hm : ∀ p ∈ [Part.mem, .rgn, .dir, .xlt, .eng, .mcx, .sec, .pci], m.testBit p.no = false) : s.Alike u := by
  simp only [List.forall_mem_cons] at hm
  obtain ⟨mem, rgn, dir, xlt, eng, mcx, sec, pci, -⟩ := hm
  exact ⟨h.same .mem mem, h.same .rgn rgn, h.same .dir dir, h.same .xlt xlt, h.same .eng eng, h.same .mcx mcx, h.same .sec sec, h.same .pci pci⟩

theorem hostRx (s : State) (fn v n : Nat) : s.Alike (s.hostRx fn v n) :=
  of_frame (State.hostRx_frame rfl (Frame.refl 2113536 s)) (by decide)

theorem spend (s : State) (agent b : Nat) (c : Colour) : s.Alike (s.spend agent b c) :=
  of_frame (State.spend_frame rfl (Frame.refl 2128128 s)) (by decide)

/-- Reading the tables of a pool with no wrong symbol marks no line. -/
theorem readTables (h : s.mcx.errs = []) (hub agent pva : Nat) : s.Alike (s.readTables hub agent pva) :=
  have q := State.readTables_quiet (Quiet.refl h) hub agent pva
  have f := State.readTables_frame (h := hub) (agent := agent) (pva := pva) rfl (Frame.refl 2124097 s)
  ⟨q.mem, f.same .rgn rfl, f.same .dir rfl, f.same .xlt rfl, f.same .eng rfl, q.mcx, f.same .sec rfl, f.same .pci rfl⟩

theorem check (h : s.Alike u) (agent pva : Nat) (use : Use) (hub : Nat) : u.check agent pva use hub = s.check agent pva use hub := by
  obtain ⟨hmem, hrgn, hdir, hxlt, heng, hmcx, hsec, hpci⟩ := h
  cases s; cases u
  cases hrgn; cases hxlt; cases hmcx; cases hsec; cases hpci
  rfl

theorem fnHub (h : s.Alike u) (fn : Nat) : u.fnHub fn = s.fnHub fn := by
  obtain ⟨hmem, hrgn, hdir, hxlt, heng, hmcx, hsec, hpci⟩ := h
  cases s; cases u
  cases hpci
  rfl

theorem tenantExists (h : s.Alike u) (agent : Nat) : u.tenantExists (u.tenantOf agent) = s.tenantExists (s.tenantOf agent) := by
  obtain ⟨hmem, hrgn, hdir, hxlt, heng, hmcx, hsec, hpci⟩ := h
  cases s; cases u
  cases hsec; cases hpci
  rfl

theorem findRec (h : u.dir = s.dir) (agent txid : Nat) : u.findRec agent txid = s.findRec agent txid := by
  cases s; cases u; cases h; rfl

theorem inProgress (h : u.dir = s.dir) (agent txid : Nat) : u.inProgress agent txid = s.inProgress agent txid := by
  cases s; cases u; cases h; rfl

theorem draftRevoked (hd : u.dir = s.dir) (hr : u.rgn = s.rgn) (agent : Nat) (t : Tr) : u.draftRevoked agent t = s.draftRevoked agent t := by
  cases s; cases u; cases hd; cases hr; rfl

end State.Alike

/-- A request through a function's window that the checks of a state let pass (Table 4.4), answered by no record and no request in progress. -/
structure State.Passes (s : State) (q : PReq) (fn : Nat) (t : Tr) : Prop where
  via : q.via = .slot fn
  errs : s.mcx.errs = []
  hot : q.code.direct = true → t.hot = false
  new : s.findRec q.agent q.r.txid = none
  alone : s.inProgress q.agent q.r.txid = false
  good : malformedReq q.code q.r = false
  passes : s.check q.agent q.r.pva (.req q.code) (s.fnHub fn) = (.ok, some t, 0)
  draft : s.draftRevoked q.agent t = false
  unbound : q.code.writes = true → t.region ∉ s.sec.binding

theorem State.Passes.alike {s u : State} {q : PReq} {fn : Nat} {t : Tr} (h : s.Passes q fn t) (e : s.Alike u) : u.Passes q fn t where
  via := h.via
  errs := by rw [e.mcx]; exact h.errs
  hot := h.hot
  new := (Alike.findRec e.dir ..).trans h.new
  alone := (Alike.inProgress e.dir ..).trans h.alone
  good := h.good
  passes := by rw [e.check, e.fnHub]; exact h.passes
  draft := (Alike.draftRevoked e.dir e.rgn ..).trans h.draft
  unbound := by rw [e.sec]; exact h.unbound

/-- The request as it is decided: on its page, and with the tag of the page's owner while the region has one (R409). -/
def State.onPage (s : State) (q : PReq) (t : Tr) : PReq :=
  { q with region := t.region, home := t.home, draft := t.draft,
           tag := if q.code.direct && !(s.region t.region).removing then some (s.tagOf t.region) else none }

theorem State.onPage_congr {s u : State} (hr : u.rgn = s.rgn) (hs : u.sec = s.sec) (q : PReq) (t : Tr) : u.onPage q t = s.onPage q t := by
  cases s; cases u; cases hr; cases hs; rfl

/-- A request that passes is decided, and its translation changes no page, no region and no byte. -/
theorem State.translate_passes {s : State} {q : PReq} {fn : Nat} {t : Tr} (h : s.Passes q fn t) :
    ∃ u : State, s.translate q = u.decideOrDefer (s.onPage q t) ∧ u.mem = s.mem ∧ u.rgn = s.rgn ∧ u.dir = s.dir ∧ u.eng = s.eng := by
  have hub : s.hubOfVia q.via = s.fnHub fn := by rw [h.via]; rfl
  have read := State.Alike.readTables h.errs (s.fnHub fn) q.agent q.r.pva
  have passes : (s.readTables (s.fnHub fn) q.agent q.r.pva).check q.agent q.r.pva (.req q.code) (s.fnHub fn) = (.ok, some t, 0) :=
    (read.check ..).trans h.passes
  have used := State.cacheUse_frame (h := s.fnHub fn) (agent := q.agent) (pva := q.r.pva) (pre := false) rfl
    (Frame.refl 2124040 (s.readTables (s.fnHub fn) q.agent q.r.pva))
  have rgn := (used.same .rgn rfl).trans read.rgn
  have dir := (used.same .dir rfl).trans read.dir
  have sec := (used.same .sec rfl).trans read.sec
  refine ⟨_, ?_, (used.same .mem rfl).trans read.mem, rgn, dir, (used.same .eng rfl).trans read.eng⟩
  have new := (State.Alike.findRec dir q.agent q.r.txid).trans h.new
  have alone := (State.Alike.inProgress dir q.agent q.r.txid).trans h.alone
  have draft := (State.Alike.draftRevoked dir rgn q.agent t).trans h.draft
  have bound : (q.code.writes && s.sec.binding.contains t.region) = false := by
    cases hw : q.code.writes with
    | false => rfl
    | true => simpa using h.unbound hw
  have cold : (q.code.direct && t.hot) = false := by
    cases hd : q.code.direct with
    | false => rfl
    | true => exact h.hot hd
  rw [← State.onPage_congr rgn sec]
  unfold State.translate
  dsimp only
  rw [hub, passes]
  have txid : q.hasTxid = true := by simp [PReq.hasTxid, h.via]
  simp only [txid, if_true, Nat.reduceBEq, Bool.false_eq_true, if_false, new, alone, Bool.and_false, h.good, State.onPage]
  simp only [draft, sec, bound, cold, Bool.false_eq_true, if_false]

/-- An admitted request whose agent's meter is not over is coloured, and decided where it passes. -/
theorem State.admitReq_passes {s : State} {agent fn : Nat} {code : ReqCode} {r : DirReq} {t : Tr}
    (exists_ : s.tenantExists (s.tenantOf agent) = true) (meter : code.direct = true → (s.meter agent).colour 1 ≠ .red)
    (h : s.Passes { agent := agent, via := .slot fn, code := code, r := r, write := code.writes, at_ := s.tick } fn t) :
    ∃ u : State, s.admitReq agent (.slot fn) code r = u.decideOrDefer
        (s.onPage { agent := agent, via := .slot fn, code := code, r := r, write := code.writes, at_ := s.tick } t) ∧
      u.mem = s.mem ∧ u.rgn = s.rgn ∧ u.dir = s.dir ∧ u.eng = s.eng := by
  cases hd : code.direct with
  | false =>
    have row : s.admitReq agent (.slot fn) code r =
        s.translate { agent := agent, via := .slot fn, code := code, r := r, write := code.writes, at_ := s.tick } := by
      simp [State.admitReq, exists_, hd]
    rw [row]
    exact State.translate_passes h
  | true =>
    have spent := State.Alike.spend s agent 1 ((s.meter agent).colour 1)
    obtain ⟨u, translated, mem, rgn, dir, eng⟩ := State.translate_passes (h.alike spent)
    refine ⟨u, ?_, mem.trans spent.mem, rgn.trans spent.rgn, dir.trans spent.dir, eng.trans spent.eng⟩
    rw [← State.onPage_congr spent.rgn spent.sec, ← translated]
    simp [State.admitReq, exists_, hd, meter hd]

/-- Settles O21: admission and translation leave every part alone that the checks read (`State.Alike`), so the request is decided as its checks
passed; the rest are the branches of `State.decideOrDefer` and of `State.dueReq`. -/
theorem passingRequestsAreDecided : Obligations.PassingRequestsAreDecided := by
  refine ⟨?_, fun s q => ⟨fun h => ?_, fun h room => ?_, fun full => ?_, fun room lost => ?_, fun room live kept => ?_⟩⟩
  · rintro s c code fn agent r t hc hs hb rfl ha hring hmir hten herr hmeter hnew halone hgood hpass hdraft hbind
    have counted := State.Alike.hostRx s fn 0 128
    have passes : s.Passes { agent := (s.func fn).agent, via := .slot fn, code := code, r := r, write := code.writes, at_ := s.tick } fn t :=
      ⟨rfl, herr, fun hd => (hmeter hd).2, hnew, halone, hgood, hpass, hdraft, hbind⟩
    have meter : (s.hostRx fn 0 128).mtr = s.mtr :=
      (State.hostRx_frame rfl (Frame.refl 2113536 s)).same .mtr rfl
    have admitted := State.admitReq_passes (s := s.hostRx fn 0 128) ((counted.tenantExists _).trans hten)
      (fun hd => by rw [State.meter, meter]; exact (hmeter hd).1) (by rw [State.hostRx_tick]; exact passes.alike counted)
    obtain ⟨u, row, mem, rgn, dir, eng⟩ := admitted
    refine ⟨u, ?_, mem.trans counted.mem, rgn.trans counted.rgn, dir.trans counted.dir, eng.trans counted.eng⟩
    rw [exec_request hc]
    refine congrArg Host.Outcome.next ?_
    rw [State.onPage_congr counted.rgn counted.sec, State.hostRx_tick] at row
    refine Eq.trans ?_ row
    simp [State.requestIn, State.slotRequest_open hs hb ha, Nat.not_le.mpr hring, State.admitIn, hmir]
  · simp [State.decideOrDefer, h]
  · simp [State.decideOrDefer, h, room]
  · simp [State.applyDue, State.dueReq, full]
  · simp [State.applyDue, State.dueReq, room, State.decideDue, lost]
  · simp [State.applyDue, State.dueReq, room, State.decideDue, live, kept]

end Sys2Proof.Machine
end

section
/-! PROOFS. XLT's commands (R110 to R117) and fault records (R123 to R126). -/

namespace Sys2Proof.Machine

/-! ### Commands that only the provider may issue -/

/-- A command of the provider's functions from one of them (Table 13.5). -/
theorem State.beginRefusal_provider {s : State} {i : Issuer} {p : Packet} (hp : s.provider i = true) :
    s.beginRefusal i p = (fieldFault p).map fun d => (.malformed, d) := by
  simp [State.beginRefusal, hp]

/-- The same from any other function. -/
theorem State.beginRefusal_denied {s : State} {i : Issuer} {p : Packet} {op : Nat} (ho : p.op = op) (theirs : providerOps.contains op = true)
    (hp : s.provider i = false) : s.beginRefusal i p = some (.deniedRights, 0) := by
  subst ho
  simp only [State.beginRefusal, hp, theirs]
  rfl

/-! ### The first entry that does not pass -/

/-- The first number of a range for which a function answers. -/
theorem findSome?_range_eq {β : Type} {f : Nat → Option β} {n k : Nat} {b : β} (hk : k < n) (before : ∀ j, j < k → f j = none)
    (at_ : f k = some b) : (List.range n).findSome? f = some b := by
  have split : List.range n = List.range k ++ k :: List.range' (k + 1) (n - k - 1) := by
    rw [← List.range'_succ, List.range_eq_range', List.range_eq_range', show n = k + (n - k - 1 + 1) by omega, ← List.range'_append_1]
    simp
  exact List.findSome?_eq_some_iff.mpr ⟨_, _, _, split, at_, fun j hj => before j (List.mem_range.mp hj)⟩

theorem findSome?_range_none {β : Type} {f : Nat → Option β} {n : Nat} (h : ∀ j, j < n → f j = none) : (List.range n).findSome? f = none :=
  List.findSome?_eq_none_iff.mpr fun j hj => h j (List.mem_range.mp hj)

/-! ### What a change of the tables leaves -/

@[simp] theorem State.clearPoison_xlt (s : State) (pa n : Nat) : (s.clearPoison pa n).xlt = s.xlt := rfl

/-- A new table is given its place; every entry stays. -/
theorem State.placeTable_entries (s : State) (lvl agent pva : Nat) :
    (s.placeTable lvl agent pva).xlt.l0 = s.xlt.l0 ∧ (s.placeTable lvl agent pva).xlt.l1 = s.xlt.l1 := by
  unfold State.placeTable
  dsimp only
  split <;> exact ⟨rfl, rfl⟩

theorem State.writeTables_entries (s : State) (x : Xlt) (agent lvl pva n : Nat) :
    (s.writeTables x agent lvl pva n).xlt.l0 = x.l0 ∧ (s.writeTables x agent lvl pva n).xlt.l1 = x.l1 := by
  have first := ((s.onXlt fun _ => x.freed).placeTable_entries 1 agent pva)
  have second := (((s.onXlt fun _ => x.freed).placeTable 1 agent pva).placeTable_entries 0 agent pva)
  exact ⟨second.1.trans first.1, second.2.trans first.2⟩

theorem State.cacheDrop_entries (s : State) (agent lo len : Nat) :
    (s.cacheDrop agent lo len).xlt.l0 = s.xlt.l0 ∧ (s.cacheDrop agent lo len).xlt.l1 = s.xlt.l1 := ⟨rfl, rfl⟩

theorem State.firstOwner_entries (s : State) (agent fn : Nat) :
    (s.firstOwner agent fn).xlt.l0 = s.xlt.l0 ∧ (s.firstOwner agent fn).xlt.l1 = s.xlt.l1 := by
  unfold State.firstOwner
  dsimp only
  split
  · exact ⟨rfl, rfl⟩
  · split <;> exact ⟨rfl, rfl⟩

theorem State.tilesOf_congr {s u : State} (h : u.eng = s.eng) (agent : Nat) : u.tilesOf agent = s.tilesOf agent := by
  simp [State.tilesOf, h]

/-- The state in which an update's whole list is applied: its tables, what follows from the change, and the owner. -/
def State.mapApplied (s : State) (i : Issuer) (agent lvl pva n : Nat) (es : List Nat) : State :=
  (((s.writeTables (s.mapped agent lvl pva es) agent lvl pva n).change).cacheDrop agent pva (n * lvlSpan lvl)).firstOwner agent i.fn

theorem State.mapApplied_frame (s : State) (i : Issuer) (agent lvl pva n : Nat) (es : List Nat) :
    Frame 8421448 s (s.mapApplied i agent lvl pva n es) :=
  State.firstOwner_frame rfl (State.cacheDrop_frame rfl (State.change_frame rfl (State.writeTables_frame rfl (Frame.refl 8421448 s))))

theorem State.mapApplied_entries (s : State) (i : Issuer) (agent lvl pva n : Nat) (es : List Nat) :
    (s.mapApplied i agent lvl pva n es).xlt.l0 = (s.mapped agent lvl pva es).l0 ∧
    (s.mapApplied i agent lvl pva n es).xlt.l1 = (s.mapped agent lvl pva es).l1 := by
  have owner := (((s.writeTables (s.mapped agent lvl pva es) agent lvl pva n).change).cacheDrop agent pva (n * lvlSpan lvl)).firstOwner_entries
    agent i.fn
  have written := s.writeTables_entries (s.mapped agent lvl pva es) agent lvl pva n
  simp only [State.cacheDrop_entries, State.change_xlt, written] at owner
  exact owner

/-! ### MAP_UPDATE and MAP_DIGEST at their boundary -/

section
variable {s : State} {i : Issuer} {p : Packet}

theorem State.doMapUpdate_now (held : s.mapHeld (p.fld 2 7 0) = false) : s.doMapUpdate i p = s.mapUpdateNow i p := by
  simp [State.doMapUpdate, held]

theorem State.mapUpdateNow_denied (head : mapHead p = false) (may : s.mayMap i (p.fld 2 7 0) = false) :
    s.mapUpdateNow i p = s.answer i .deniedRights := by
  simp [State.mapUpdateNow, head, may, State.denied]

/-- The entry at fault is named, and nothing applied. -/
theorem State.mapUpdateNow_fault {es : List Nat} (hes : (List.range (p.fld 3 23 16)).map (fun k => entryOf p k) = es) (head : mapHead p = false)
    (may : s.mayMap i (p.fld 2 7 0) = true) {k c : Nat} (hk : k < p.fld 3 23 16)
    (before : ∀ j, j < k → s.entryCause (p.fld 2 7 0) (p.fld 3 1 0) (p.dw 4 + 2 ^ 32 * p.fld 5 19 0) (p.fld 3 23 16) es j = none)
    (at_ : s.entryCause (p.fld 2 7 0) (p.fld 3 1 0) (p.dw 4 + 2 ^ 32 * p.fld 5 19 0) (p.fld 3 23 16) es k = some c) :
    s.mapUpdateNow i p = s.answer i .malformed (k * 256 + c) := by
  have found := findSome?_range_eq (f := fun k => (s.entryCause (p.fld 2 7 0) (p.fld 3 1 0) (p.dw 4 + 2 ^ 32 * p.fld 5 19 0) (p.fld 3 23 16)
    es k).map fun c => mapDetail k c) hk (fun j hj => by rw [before j hj]; rfl) (by rw [at_]; rfl)
  unfold State.mapUpdateNow
  dsimp only
  rw [hes, head, may, found]
  rfl

/-- A list whose every entry passes is applied, unless the tables have no room. -/
theorem State.mapUpdateNow_passes {es : List Nat} (hes : (List.range (p.fld 3 23 16)).map (fun k => entryOf p k) = es) (head : mapHead p = false)
    (may : s.mayMap i (p.fld 2 7 0) = true)
    (pass : ∀ k, k < p.fld 3 23 16 → s.entryCause (p.fld 2 7 0) (p.fld 3 1 0) (p.dw 4 + 2 ^ 32 * p.fld 5 19 0) (p.fld 3 23 16) es k = none) :
    s.mapUpdateNow i p =
      if TABLES < (s.mapped (p.fld 2 7 0) (p.fld 3 1 0) (p.dw 4 + 2 ^ 32 * p.fld 5 19 0) es).tables then s.answer i .quota 7
      else
        let t := s.mapApplied i (p.fld 2 7 0) (p.fld 3 1 0) (p.dw 4 + 2 ^ 32 * p.fld 5 19 0) (p.fld 3 23 16) es
        if !bit p.flags 0 || (t.tilesOf (p.fld 2 7 0)).isEmpty then t.answer i .ok
        else
          let (o, t') := t.openCmd i 0x0301 false
          t'.onXlt fun x => { x with syncs := x.syncs ++ [{ by_ := i, openId := o, agent := p.fld 2 7 0, tiles := t.tilesOf (p.fld 2 7 0) }] } := by
  have none_ := findSome?_range_none (f := fun k => (s.entryCause (p.fld 2 7 0) (p.fld 3 1 0) (p.dw 4 + 2 ^ 32 * p.fld 5 19 0) (p.fld 3 23 16)
    es k).map fun c => mapDetail k c) (n := p.fld 3 23 16) fun k hk => by rw [pass k hk]; rfl
  unfold State.mapUpdateNow
  dsimp only
  rw [hes, head, may, none_]
  rfl

theorem State.doMapDigest_starts (held : s.mapHeld (p.fld 2 7 0) = false) (head : digestHead p = none) (may : s.mayMap i (p.fld 2 7 0) = true) :
    ∃ d : Digest, s.doMapDigest i p = s.onXlt (fun x => { x with digests := x.digests ++ [d] }) ∧
      d.agent = p.fld 2 7 0 ∧ d.count = p.dw 6 ∧ d.start = s.tick ∧ d.by_ = i := by
  unfold State.doMapDigest State.mapDigestNow
  dsimp only
  rw [held, head, may]
  exact ⟨_, rfl, rfl, rfl, rfl, rfl⟩

end

/-! ### The end of a digest -/

theorem State.runHeld_none {s : State} (h : s.xlt.heldMaps = []) (agent fuel : Nat) : s.runHeld agent fuel = s := by
  cases fuel with
  | zero => rfl
  | succ n => simp [State.runHeld, h]

/-- A digest that has hashed its last entries writes its buffer and answers; with nothing held behind it, that is all. -/
theorem State.digestDone_ends {s : State} {agent : Nat} {d : Digest} (hd : (s.xlt.digests.find? fun d => d.agent == agent) = some d)
    (due : d.start + ceilDiv d.count 256 ≤ s.tick) (held : s.xlt.heldMaps = []) :
    s.digestDone agent = ((s.onXlt fun x => { x with digests := x.digests.erase d }).hostWrite d.by_.fn 3 d.buf
      (sha384 d.bytes ++ leBytes 4 d.count ++ leBytes 1 d.agent ++ List.replicate 11 0)).answer d.by_ .ok 0 d.leaves := by
  unfold State.digestDone
  simp only [hd, Nat.not_lt.mpr due, if_false]
  exact State.runHeld_none (by simp [held]) ..

/-- Settles O28: the refusals of `State.mapUpdateNow` and of `State.mapDigestNow` in their order, and what an applied list leaves alone. -/
theorem tablesChangeWholeAndDigestsEnd : Obligations.TablesChangeWholeAndDigestsEnd := by
  refine ⟨fun s fn p => ⟨fun hb => ⟨fun head => ?_, fun head => ?_⟩, fun hb => ⟨fun d head => ?_, fun head => ?_⟩⟩, ?_,
    fun s agent d hd => ⟨fun early => congrArg Host.Outcome.next ?_, fun due held => congrArg Host.Outcome.next (State.digestDone_ends hd due held)⟩⟩
  · exact refused_mapUpdate hb (State.beginRefusal_fields hb.opcode (by decide) (by decide) (by simp [fieldFault, hb.opcode, head, mapDetail]))
  · exact begins_mapUpdate hb (State.beginRefusal_none hb.opcode (by decide) (by decide) (by simp [fieldFault, hb.opcode, head]))
  · exact refused_mapDigest hb (State.beginRefusal_fields hb.opcode (by decide) (by decide) (by simp [fieldFault, hb.opcode, head]))
  · exact begins_mapDigest hb (State.beginRefusal_none hb.opcode (by decide) (by decide) (by simp [fieldFault, hb.opcode, head]))
  · rintro s fn p agent lvl n pva es rfl rfl rfl rfl hes held
    refine ⟨fun ho head may => ?_, fun ho head may => ⟨fun k c hk before at_ => ?_, fun pass room => ?_, fun pass room sync => ?_⟩,
      fun ho head may => ?_⟩
    · exact (State.applyDue_cmd ho).trans ((State.doMapUpdate_now held).trans (State.mapUpdateNow_denied head may))
    · exact (State.applyDue_cmd ho).trans ((State.doMapUpdate_now held).trans (State.mapUpdateNow_fault hes.symm head may hk before at_))
    · refine (State.applyDue_cmd ho).trans ((State.doMapUpdate_now held).trans ((State.mapUpdateNow_passes hes.symm head may pass).trans ?_))
      rw [if_pos room]
    · have applied := s.mapApplied_frame (issuer fn p) (p.fld 2 7 0) (p.fld 3 1 0) (p.dw 4 + 2 ^ 32 * p.fld 5 19 0) (p.fld 3 23 16) es
      have eng := applied.same .eng rfl
      refine ⟨s.mapApplied (issuer fn p) (p.fld 2 7 0) (p.fld 3 1 0) (p.dw 4 + 2 ^ 32 * p.fld 5 19 0) (p.fld 3 23 16) es, ?_,
        applied.same .mem rfl, applied.same .dir rfl, eng, (s.mapApplied_entries ..).1, (s.mapApplied_entries ..).2⟩
      refine (State.applyDue_cmd ho).trans ((State.doMapUpdate_now held).trans ((State.mapUpdateNow_passes hes.symm head may pass).trans ?_))
      rw [if_neg (Nat.not_lt.mpr room)]
      dsimp only
      rw [if_pos]
      rw [State.tilesOf_congr eng]
      obtain h | h := sync <;> simp [h]
    · obtain ⟨d, row, facts⟩ := State.doMapDigest_starts (i := issuer fn p) held head may
      exact ⟨d, (State.applyDue_cmd ho).trans row, facts⟩
  · simp [State.digestDone, hd, early]

/-! ### Fault records -/

section
variable {s : State} {slot : Nat}

/-- A record with no job waiting on it closes. -/
theorem State.failRecord_idle {f : FaultRec} (hf : Tbl.find s.xlt.faults slot = some f) (idle : f.waiters = []) (st : Status) :
    s.failRecord slot st = (s.onXlt fun x => { x with faults := Tbl.del x.faults slot }).change := by
  simp [State.failRecord, hf, idle]

variable {i : Issuer} {p : Packet}

theorem State.doFaultResolve_unknown (h : ∀ f, Tbl.find s.xlt.faults (p.fld 2 15 0 % 1024) = some f → f.seq ≠ p.fld 2 15 0 / 1024) :
    s.doFaultResolve i p = s.answer i .malformed 2 := by
  unfold State.doFaultResolve
  dsimp only
  split
  · rfl
  · next f hf => rw [if_pos (by simpa using h f hf)]; rfl

theorem State.doFaultResolve_denied {f : FaultRec} (hf : Tbl.find s.xlt.faults (p.fld 2 15 0 % 1024) = some f)
    (hq : f.seq = p.fld 2 15 0 / 1024) (may : s.provider i = false) (owner : Tbl.find s.xlt.owner f.agent ≠ some i.fn) :
    s.doFaultResolve i p = s.answer i .deniedRights := by
  simp [State.doFaultResolve, hf, hq, may, owner, State.denied]

theorem State.doFaultResolve_idle {f : FaultRec} (hf : Tbl.find s.xlt.faults (p.fld 2 15 0 % 1024) = some f)
    (hq : f.seq = p.fld 2 15 0 / 1024) (may : s.provider i = true ∨ Tbl.find s.xlt.owner f.agent = some i.fn) (idle : f.waiters = []) :
    s.doFaultResolve i p =
      (s.onXlt fun x => { x with faults := Tbl.del x.faults (p.fld 2 15 0 % 1024) }).change.answerR16 i .ok := by
  have allowed : (!s.provider i && Tbl.find s.xlt.owner f.agent != some i.fn) = false := by
    obtain h | h := may <;> simp [h]
  unfold State.doFaultResolve
  simp [hf, hq, allowed, idle, State.failRecord_idle hf idle]

end

/-- Settles O29: the branches of `State.doFaultResolve` in their order, and of `State.faultExpire` by the record's end. -/
theorem faultRecordsClose : Obligations.FaultRecordsClose := by
  refine ⟨?_, fun s slot => ⟨fun none_ => congrArg Host.Outcome.next ?_, fun f hf => ⟨fun early => congrArg Host.Outcome.next ?_,
    fun now => congrArg Host.Outcome.next ?_, fun past idle => congrArg Host.Outcome.next ?_, fun idle => ?_, fun q hq => ?_⟩⟩⟩
  · rintro s fn p slot rfl
    refine ⟨fun hb => begins_faultResolve hb
      (State.beginRefusal_none hb.opcode (by decide) (by decide) (by simp [fieldFault, hb.opcode])), fun ho => ?_⟩
    have row : s.applyDue (.cmd fn p) = s.doFaultResolve (issuer fn p) p := State.applyDue_cmd ho
    refine ⟨fun none_ => row.trans (State.doFaultResolve_unknown (by simp [none_])), fun f hf => ⟨fun hq => row.trans
      (State.doFaultResolve_unknown (by simpa [hf] using hq)), fun hq may owner => row.trans (State.doFaultResolve_denied hf hq may owner),
      fun hq may idle => row.trans (State.doFaultResolve_idle hf hq may idle)⟩⟩
  · simp [State.faultExpire, none_]
  · simp [State.faultExpire, hf, early]
  · simp [State.faultExpire, hf, now]
  · have notEarly : ¬ s.tick + 1 < f.tick + f.life := by omega
    have notNow : (s.tick + 1 == f.tick + f.life) = false := by simp; omega
    simp [State.faultExpire, hf, notEarly, notNow, State.failRecord_idle hf idle]
  · simp [State.applyDue, State.faultEnd, hf, State.failRecord_idle hf idle]
  · simp [State.applyDue, State.faultEnd, hf, Ne.symm hq]

end Sys2Proof.Machine
end

section
/-! PROOFS. FLT's commands and registers, access errors and rail mismatches (R427 to R438). -/

namespace Sys2Proof.Machine

/-! ### What counters, events and fault causes keep -/

/-- A property of states that the acts of which counters, events and fault causes consist all keep. -/
structure KeptByEvents (P : State → Prop) : Prop where
  write : ∀ s fn c a d, P s → P (s.hostWrite fn c a d)
  intake : ∀ s fn f, P s → P (s.setIntake fn f)
  inst : ∀ s b j f, P s → P (s.setFlt b j f)
  pin : ∀ s, P s → P s.fatalPin
  count : ∀ s b o n, P s → P (s.bumpRaw b o n).1

namespace KeptByEvents

variable {P : State → Prop} {s : State}

theorem putEvt (K : KeptByEvents P) (h : P s) (fn : Nat) (e : EvtRec) : P (s.putEvt fn e).1 := by
  unfold State.putEvt
  split
  · exact h
  · dsimp only
    split
    · exact K.intake _ _ _ (K.write _ _ _ _ _ (K.write _ _ _ _ _ h))
    · split
      · exact K.intake _ _ _ h
      · exact K.count _ _ _ _ (K.intake _ _ _ h)

theorem putEvts (K : KeptByEvents P) (h : P s) (fns : List Nat) (ev : Nat) (d : List Byte) : P (s.putEvts fns ev d).1 := by
  have all : ∀ (l : List Nat) (x : State × Option Nat), P x.1 → P (l.foldl (fun (acc : State × Option Nat) fn =>
      let (s, lost) := acc.1.putEvt fn { event := ev, tick := acc.1.tick % 2 ^ 32, payload := d }
      (s, if lost then some fn else acc.2)) x).1 := by
    intro l
    induction l with
    | nil => exact fun x hx => hx
    | cons fn r ih => exact fun x hx => ih _ (K.putEvt hx ..)
  exact all fns (s, none) h

theorem raiseCore (K : KeptByEvents P) (h : P s) (b j cause info : Nat) : P (s.raiseCore b j cause info).1 := by
  unfold State.raiseCore
  split
  · exact h
  · next cls _ =>
    have first := K.inst s b j (fun f => { f with cause := setBit f.cause cause }) h
    have pinned : P (if cls == .fatal then (s.setFlt b j fun f => { f with cause := setBit f.cause cause }).fatalPin
        else s.setFlt b j fun f => { f with cause := setBit f.cause cause }) := by
      split
      · exact K.pin _ first
      · exact first
    dsimp only
    generalize (if cls == .fatal then _ else _ : State) = u at pinned ⊢
    generalize (cls == .corrected && _ : Bool) = quiet
    split
    · exact pinned
    · split
      · exact K.inst _ _ _ _ pinned
      · exact K.putEvts (K.inst _ _ _ _ pinned) ..

theorem afterEvt (K : KeptByEvents P) {x : State × Option Nat} (h : P x.1) : P (State.afterEvt x) := by
  unfold State.afterEvt
  split
  · exact h
  · exact K.raiseCore h ..

theorem raise (K : KeptByEvents P) (h : P s) (b j cause info : Nat) : P (s.raise b j cause info) := K.afterEvt (K.raiseCore h ..)

theorem event (K : KeptByEvents P) (h : P s) (fns : List Nat) (ev : Nat) (d : List Byte) : P (s.event fns ev d) := K.afterEvt (K.putEvts h ..)

theorem bump (K : KeptByEvents P) (h : P s) (b o n : Nat) : P (s.bump b o n) := by
  have counted := K.count s b o n h
  unfold State.bump
  dsimp only
  split
  · exact K.event counted ..
  · exact counted

theorem raiseRail (K : KeptByEvents P) (h : P s) (b j : Nat) : P (s.raiseRail b j) := by
  unfold State.raiseRail
  dsimp only
  split
  · exact K.inst _ _ _ _ h
  · exact K.event (K.inst _ _ _ _ h) ..

end KeptByEvents

/-- The fields that FLT's mode register shows: RAIL, RECOVERY and TEST. -/
def State.fltMode (s : State) : Bool × Bool × Bool := (s.flt.rail, s.flt.recovery, s.flt.test)

/-- No event, counter or cause changes FLT's mode. -/
theorem fltMode_kept (m : Bool × Bool × Bool) : KeptByEvents fun s => s.fltMode = m where
  write _ _ _ _ _ h := h
  intake _ _ _ h := h
  inst _ _ _ _ h := h
  pin _ h := h
  count s b o n h := by
    unfold State.bumpRaw
    dsimp only
    split <;> exact h


section
variable {s : State} {fn : Nat} {p : Packet}

/-! ### The fault commands -/

/-- What a fault command of the provider's does with the unit that it names (R434). -/
theorem State.onInst_known {f : Nat → Nat → State} (hp : s.isProvider fn = true) (known : faultInstOk (p.fld 2 4 0) (p.fld 2 10 8) = true) :
    s.onInst (issuer fn p) p f = f (p.fld 2 4 0) (p.fld 2 10 8) := by
  have provider : s.provider (issuer fn p) = true := hp
  simp [State.onInst, provider, known]

theorem State.doFaultRead_known (hp : s.isProvider fn = true) (known : faultInstOk (p.fld 2 4 0) (p.fld 2 10 8) = true) :
    s.doFaultRead (issuer fn p) p =
      (s.setFlt (p.fld 2 4 0) (p.fld 2 10 8) fun f => f.clear (p.fld 3 15 0) (bit (p.dw 3) 16)).answer (issuer fn p) .ok 0
        ((s.fltInst (p.fld 2 4 0) (p.fld 2 10 8)).status (p.fld 2 4 0)) (s.fltInst (p.fld 2 4 0) (p.fld 2 10 8)).mask := by
  unfold State.doFaultRead
  rw [State.onInst_known hp known]

theorem State.doHistoryRead_known (hp : s.isProvider fn = true) (known : faultInstOk (p.fld 2 4 0) (p.fld 2 10 8) = true)
    (aligned : p.addr 4 % 64 = 0) :
    s.doHistoryRead (issuer fn p) p =
      (s.hostWrite fn 3 (p.addr 4) (s.fltInst (p.fld 2 4 0) (p.fld 2 10 8)).histBytes).answer (issuer fn p) .ok 0
        (s.fltInst (p.fld 2 4 0) (p.fld 2 10 8)).hist.length (s.fltInst (p.fld 2 4 0) (p.fld 2 10 8)).written := by
  unfold State.doHistoryRead
  rw [State.onInst_known hp known, if_neg (by simp [aligned])]
  rfl

/-- A command of the provider's row, by its issuer and its fields. -/
theorem State.row_provider {op : Nat} {c : Instr} {fault : Option Nat} (ho : p.op = op) (theirs : providerOps.contains op = true)
    (begins : s.beginRefusal (issuer fn p) p = none → exec c s = .next (s.begun.later (.cmd fn p)))
    (refused : ∀ st d, s.beginRefusal (issuer fn p) p = some (st, d) → exec c s = .next (s.begun.answer (issuer fn p) st d))
    (fields : fieldFault p = fault) :
    (s.isProvider fn = false → exec c s = .next (s.begun.answer (issuer fn p) .deniedRights)) ∧
    (∀ d, s.isProvider fn = true → fault = some d → exec c s = .next (s.begun.answer (issuer fn p) .malformed d)) ∧
    (s.isProvider fn = true → fault = none → exec c s = .next (s.begun.later (.cmd fn p))) := by
  refine ⟨fun hp => refused _ _ (State.beginRefusal_denied ho theirs hp), fun d hp hf => refused _ _ ?_, fun hp hf => begins ?_⟩ <;>
    rw [State.beginRefusal_provider (show s.provider (issuer fn p) = true from hp), fields, hf] <;> rfl

theorem State.doFaultPinHold_sets (hp : s.isProvider fn = true) :
    s.doFaultPinHold (issuer fn p) p = (s.setHold (bit (p.dw 3) 0)).answerR16 (issuer fn p) .ok 0
      (b2n (s.setHold (bit (p.dw 3) 0)).faultLow + 2 * b2n (s.setHold (bit (p.dw 3) 0)).flt.pulse) := by
  have provider : s.provider (issuer fn p) = true := hp
  simp [State.doFaultPinHold, provider, State.setHold]

end

@[simp] theorem State.setHold_flt (s : State) (h : Bool) : (s.setHold h).flt = { s.flt with hold := h } := by simp [State.setHold]
@[simp] theorem State.setHold_mem (s : State) (h : Bool) : (s.setHold h).mem = s.mem := by simp [State.setHold]
@[simp] theorem State.setHold_stats (s : State) (h : Bool) : (s.setHold h).stats = s.stats := by simp [State.setHold]

/-! ### Overflow flags -/

/-- The counters of word `w` of block `b` whose flags are set and are written as ones (R436). -/
def State.ovfCleared (s : State) (b w : Nat) (v : Word) : List Nat :=
  ((maskBits 32 v.toNat).map fun k => statKey b (4 * (32 * w + k))).filter fun k => (Tbl.find s.flt.ovf k).isSome

theorem State.mem_ovfCleared (s : State) (b w : Nat) (v : Word) (x : Nat) :
    x ∈ s.ovfCleared b w v ↔ ∃ k, k < 32 ∧ bit v.toNat k = true ∧ x = statKey b (4 * (32 * w + k)) ∧ (Tbl.find s.flt.ovf x).isSome = true := by
  simp only [State.ovfCleared, maskBits, List.mem_filter, List.mem_map, List.mem_range]
  constructor
  · rintro ⟨⟨k, ⟨hk, set⟩, rfl⟩, flag⟩
    exact ⟨k, hk, set, rfl, flag⟩
  · rintro ⟨k, hk, set, rfl, flag⟩
    exact ⟨⟨k, ⟨hk, set⟩, rfl⟩, flag⟩

theorem State.ovfClear_open {s : State} {fn b w : Nat} (v : Word) (may : s.mayFlt fn = true) (hb : b < 20) (hw : w < 64) :
    s.ovfClear fn b w v = s.onFlt fun f =>
      { f with ovf := (s.ovfCleared b w v).foldl Tbl.del f.ovf, zeroNext := f.zeroNext ++ s.ovfCleared b w v } := by
  unfold State.ovfClear
  rw [if_neg (by simp [may]; omega)]
  rfl

/-! ### Rail mismatches -/

section
variable {s : State} {b j : Nat}

/-- A mismatch that is looked for, in a unit there is, in a part that has not failed (R432). -/
theorem State.railMismatch_known (rail : s.flt.rail = true) (known : faultInstOk b j = true) (live : s.failedPart = false) :
    s.railMismatch b j =
      if (s.raiseRail b j).flt.test && !(s.raiseRail b j).flt.recovery && (s.raiseRail b j).glb.boot == 7 then s.raiseRail b j
      else match (if b == blkFLT then (if 2 ≤ j then some (j - 2) else none) else if blkENG ≤ b && b ≤ blkMEC then some j else none : Option Nat) with
        | some d => (s.raiseRail b j).dieFails d
        | none =>
          if (s.raiseRail b j).mir.state == .switching then (s.raiseRail b j).enterFailed 2
          else if ((s.raiseRail b j).loseHub j).mir.hubsLost.contains 0 && ((s.raiseRail b j).loseHub j).mir.hubsLost.contains 1 then
            ((s.raiseRail b j).loseHub j).enterFailed 1
          else ((s.raiseRail b j).loseHub j).onMir fun m => { m with state := .solo, primary := 1 - j, sent := none } := by
  have go : (!s.flt.rail || !faultInstOk b j || s.failedPart) = false := by simp [rail, known, live]
  exact if_neg (ne_true_of_eq_false go)

theorem State.raiseRail_mode (s : State) (b j : Nat) : (s.raiseRail b j).fltMode = s.fltMode := (fltMode_kept s.fltMode).raiseRail rfl b j

@[simp] theorem State.raiseRail_test (s : State) (b j : Nat) : (s.raiseRail b j).flt.test = s.flt.test :=
  congrArg (fun m => m.2.2) (s.raiseRail_mode b j)

@[simp] theorem State.raiseRail_recovery (s : State) (b j : Nat) : (s.raiseRail b j).flt.recovery = s.flt.recovery :=
  congrArg (fun m => m.2.1) (s.raiseRail_mode b j)

/-- In a test of a part in operation, the RAIL bit alone is set. -/
theorem State.railMismatch_test (rail : s.flt.rail = true) (known : faultInstOk b j = true) (live : s.failedPart = false)
    (test : s.flt.test = true) (norec : s.flt.recovery = false) (ready : s.glb.boot = 7) : s.railMismatch b j = s.raiseRail b j := by
  rw [State.railMismatch_known rail known live, if_pos (by simp [test, norec, ready])]

/-- A cellar's unit takes its die with it. -/
theorem State.railMismatch_die (rail : s.flt.rail = true) (known : faultInstOk b j = true) (live : s.failedPart = false)
    (test : s.flt.test = false) (low : blkENG ≤ b) (high : b ≤ blkMEC) (notFlt : b ≠ blkFLT) :
    s.railMismatch b j = (s.raiseRail b j).dieFails j := by
  rw [State.railMismatch_known rail known live, if_neg (by simp [test])]
  simp [notFlt, low, high]

/-- A hub's unit takes its hub with it. -/
theorem State.railMismatch_hub (rail : s.flt.rail = true) (known : faultInstOk b j = true) (live : s.failedPart = false)
    (test : s.flt.test = false) (hub : b < blkENG ∨ blkMEC < b) (notDie : b ≠ blkFLT ∨ j < 2) (calm : s.mir.state ≠ .switching) :
    s.railMismatch b j =
      if ((s.raiseRail b j).loseHub j).mir.hubsLost.contains 0 && ((s.raiseRail b j).loseHub j).mir.hubsLost.contains 1 then
        ((s.raiseRail b j).loseHub j).enterFailed 1
      else ((s.raiseRail b j).loseHub j).onMir fun m => { m with state := .solo, primary := 1 - j, sent := none } := by
  have die : (if b == blkFLT then (if 2 ≤ j then some (j - 2) else none) else if blkENG ≤ b && b ≤ blkMEC then some j else none : Option Nat) = none := by
    obtain h | h := notDie
    · simp only [beq_iff_eq, h, if_false, Bool.and_eq_true, decide_eq_true_eq]
      rw [if_neg (by omega)]
    · split
      · rw [if_neg (by omega)]
      · rw [if_neg (by simp; omega)]
  rw [State.railMismatch_known rail known live, if_neg (by simp [test]), die]
  simp [calm]

end

/-- Settles O48: the fault commands by what refuses them, the register rows, and `State.railMismatch` by the unit's kind. -/
theorem faultsAreReadAndCleared : Obligations.FaultsAreReadAndCleared := by
  intro s fn p b j
  refine ⟨?_, fun unknown => ?_, fun known => ?_, fun hp hb hj => ⟨fun ho known => ?_, fun ho known aligned => ?_, fun ho => ?_⟩,
    fun v may => ⟨fun known here => ?_, fun gone => ?_, fun hb hw => ?_, ?_⟩, fun h => ?_, ⟨rfl, rfl⟩, rfl, fun hb here => ⟨?_, ?_⟩, fun off => ?_,
    fun rail known live => ⟨fun test norec ready => ?_, fun test low high notFlt => ?_, ?_⟩⟩
  · intro op c fault hmem hb
    simp only [List.mem_cons, Prod.mk.injEq, List.not_mem_nil, or_false] at hmem
    obtain ⟨rfl, rfl, rfl⟩ | ⟨rfl, rfl, rfl⟩ | ⟨rfl, rfl, rfl⟩ := hmem
    · exact State.row_provider hb.opcode (by decide) (begins_faultRead hb) (fun _ _ => refused_faultRead hb) (by simp [fieldFault, hb.opcode])
    · exact State.row_provider hb.opcode (by decide) (begins_historyRead hb) (fun _ _ => refused_historyRead hb) (by simp [fieldFault, hb.opcode])
    · exact State.row_provider hb.opcode (by decide) (begins_faultPinHold hb) (fun _ _ => refused_faultPinHold hb) (by simp [fieldFault, hb.opcode])
  · simp [historyFault, faultFault, unknown]
  · refine ⟨by simp [faultFault, known], fun aligned => ?_, fun off => ?_⟩
    · simp [historyFault, faultFault, known, aligned]
    · simp [historyFault, faultFault, known, off]
  · subst hb hj
    exact (State.applyDue_cmd ho).trans (State.doFaultRead_known hp known)
  · subst hb hj
    exact (State.applyDue_cmd ho).trans (State.doHistoryRead_known hp known aligned)
  · exact ⟨_, (State.applyDue_cmd ho).trans (State.doFaultPinHold_sets hp), by simp, by simp⟩
  · refine congrArg Host.Outcome.next ?_
    simp [here, State.statusClear, may, known]
  · exact congrArg Host.Outcome.next (if_pos gone)
  · exact ⟨_, s.ovfCleared b j v, congrArg Host.Outcome.next (State.ovfClear_open v may hb hw), s.mem_ovfCleared b j v, rfl, rfl, rfl, rfl⟩
  · refine congrArg Host.Outcome.next ?_
    simp [State.pinHold, may]
  · simp [State.applyDue]
  · refine congrArg Host.Outcome.next ?_
    simp [State.accessErr, Nat.not_le.mpr hb, here]
  · refine congrArg Host.Outcome.next ?_
    simp [State.accessErr, Nat.not_le.mpr hb, here]
  · refine congrArg Host.Outcome.next ?_
    simp [State.railMismatch, off]
  · exact congrArg Host.Outcome.next (State.railMismatch_test rail known live test norec ready)
  · exact congrArg Host.Outcome.next (State.railMismatch_die rail known live test low high notFlt)
  · rintro u test hub notDie calm rfl
    have row := State.railMismatch_hub rail known live test hub notDie calm
    refine ⟨fun one => congrArg Host.Outcome.next (row.trans (if_neg ?_)), fun lost0 lost1 => congrArg Host.Outcome.next (row.trans (if_pos ?_))⟩
    · simpa [-not_and, Classical.not_and_iff_not_or_not] using one
    · simp [lost0, lost1]

end Sys2Proof.Machine
end

section
/-! PROOFS. Acknowledgement, replay and flow control of a Trellis link (R282 to R288). -/

namespace Sys2Proof.Machine

/-! ### Ports that a step leaves alone -/

theorem State.port_congr {s u : State} (h : u.tlk = s.tlk) (p : Nat) : u.port p = s.port p := by
  unfold State.port
  rw [h]

@[simp] theorem State.countRx_port (s : State) (p v n k q : Nat) : (s.countRx p v n k).port q = s.port q := State.port_congr (by simp) q
@[simp] theorem State.bump_port (s : State) (b o n q : Nat) : (s.bump b o n).port q = s.port q := State.port_congr (by simp) q
@[simp] theorem State.countRx_replayMax (s : State) (p v n k : Nat) : (s.countRx p v n k).replayMax = s.replayMax := by
  simp [State.replayMax]
@[simp] theorem State.countRx_portUp (s : State) (p v n k q : Nat) : (s.countRx p v n k).portUp q = s.portUp q := by simp [State.portUp]
@[simp] theorem State.countRx_tick (s : State) (p v n k : Nat) : (s.countRx p v n k).tick = s.tick := by simp [State.tick]

theorem State.ctl_tlk (s : State) (p : Nat) (c : Ctl) : (s.ctl p c).tlk = s.tlk := (State.ctl_frame rfl (Frame.refl 6307840 s)).same .tlk rfl
@[simp] theorem State.ctl_port (s : State) (p q : Nat) (c : Ctl) : (s.ctl p c).port q = s.port q := State.port_congr (s.ctl_tlk p c) q

/-! ### What an ACK frees -/

section
variable {x : Port} {seq age : Nat}

/-- An ACK of a held packet frees it and all before it. -/
theorem Port.freed_held (ha : age = (x.next + 4095 - seq % 4096) % 4096) (held : age < x.held.length) :
    ∃ y : Port, x.freed seq = (some y, true) ∧ y.held = x.held.drop (x.held.length - age) ∧ y.replays = 0 := by
  subst ha
  exact ⟨_, if_pos held, rfl, rfl⟩

/-- One that names a packet freed before, or never sent. -/
theorem Port.freed_none (ha : age = (x.next + 4095 - seq % 4096) % 4096) (gone : x.held.length ≤ age) :
    x.freed seq = (none, decide (age < 2048)) := by
  subst ha
  exact if_neg (Nat.not_lt.mpr gone)

/-- The packet before the one that a NAK names. -/
theorem age_before (n e : Nat) : (n + 4096 - e % 4096) % 4096 = (n + 4095 - (e + 4095) % 4096) % 4096 := by omega

end

section
variable {s : State} {p seq age : Nat}

theorem State.gotAck_held (up : s.portUp p = true) (ha : age = ((s.port p).next + 4095 - seq % 4096) % 4096)
    (held : age < (s.port p).held.length) :
    ∃ y : Port, s.gotAck p seq = (s.countRx p 3 1).setPort p (fun _ => y) ∧
      y.held = (s.port p).held.drop ((s.port p).held.length - age) ∧ y.replays = 0 := by
  obtain ⟨y, freed, facts⟩ := Port.freed_held ha held
  refine ⟨y, ?_, facts⟩
  simp [State.gotAck, up, freed]

theorem State.gotAck_unheld (up : s.portUp p = true) (ha : age = ((s.port p).next + 4095 - seq % 4096) % 4096)
    (gone : (s.port p).held.length ≤ age) :
    s.gotAck p seq = if age < 2048 then s.countRx p 3 1 else (s.countRx p 3 1).breakLink p 6 := by
  have freed := Port.freed_none ha gone
  unfold State.gotAck
  by_cases recent : age < 2048 <;> simp [up, freed, recent]

/-- A link breaks for want of progress after one replay at the earliest (R286). -/
theorem State.replayMax_pos (s : State) : 0 < s.replayMax := Nat.lt_of_lt_of_le Nat.one_pos (Nat.le_max_left 1 _)

theorem State.startReplay_starts (few : (s.port p).replays < s.replayMax) : s.startReplay p seq =
    (s.setPort p fun x => { x with replay := some (seq % 4096), replays := x.replays + 1 }).bump blkTLK (0x0540 + 4 * p) :=
  if_neg (Nat.not_le.mpr few)

theorem State.startReplay_breaks (many : s.replayMax ≤ (s.port p).replays) : s.startReplay p seq = s.breakLink p 2 := if_pos many

/-- A NAK that names a packet freed before, or never sent. -/
theorem State.gotNak_unheld (up : s.portUp p = true) (ha : age = ((s.port p).next + 4096 - seq % 4096) % 4096)
    (gone : (s.port p).held.length < age) :
    s.gotNak p seq = if age ≤ 2048 then s.countRx p 3 1 else (s.countRx p 3 1).breakLink p 6 := by
  subst ha
  simp [State.gotNak, up, gone]

/-- A NAK that names the oldest held packet starts a replay of all that is held. -/
theorem State.gotNak_oldest (up : s.portUp p = true) (ha : age = ((s.port p).next + 4096 - seq % 4096) % 4096) (some_ : 0 < age)
    (oldest : age = (s.port p).held.length) : s.gotNak p seq = (s.countRx p 3 1).startReplay p seq := by
  subst ha
  simp [State.gotNak, up, ← oldest, Nat.pos_iff_ne_zero.mp some_]

/-- One that names a later packet frees what was held before it first. -/
theorem State.gotNak_later (up : s.portUp p = true) (ha : age = ((s.port p).next + 4096 - seq % 4096) % 4096) (some_ : 0 < age)
    (later : age < (s.port p).held.length) :
    ∃ y : Port, s.gotNak p seq = ((s.countRx p 3 1).setPort p fun _ => y).startReplay p seq ∧
      y.held = (s.port p).held.drop ((s.port p).held.length - age) ∧ y.replays = 0 := by
  obtain ⟨y, freed, facts⟩ := Port.freed_held (ha.trans (age_before ..)) later
  refine ⟨y, ?_, facts⟩
  subst ha
  simp [State.gotNak, up, later, Nat.not_lt.mpr (Nat.le_of_lt later), Nat.pos_iff_ne_zero.mp some_, freed]

theorem State.replayExpiry_oldest {h : HeldPkt} {r : List HeldPkt} (up : s.portUp p = true) (hh : (s.port p).held = h :: r) :
    s.replayExpiry p = s.startReplay p h.seq := by
  simp [State.replayExpiry, hh, up]

end

/-- Settles O31: `Port.freed` says what an ACK frees, and a NAK frees up to the packet before the one that it names. -/
theorem heldPacketsAreFreedOrReplayed : Obligations.HeldPacketsAreFreedOrReplayed := by
  intro s p seq age up
  refine ⟨fun ha => ⟨fun held => ?_, fun gone recent => ?_, fun gone never => ?_⟩, fun ha => ⟨fun some_ oldest few => ?_, fun some_ oldest many => ?_,
    fun some_ later => ?_, fun gone recent => ?_, fun gone never => ?_⟩, fun h r hh => ⟨fun few => ?_, fun many => ?_⟩⟩
  · obtain ⟨y, row, held_, replays⟩ := State.gotAck_held up ha held
    refine ⟨_, congrArg Host.Outcome.next row, ?_, ?_, fun q hq => ?_, ?_, ?_⟩ <;> simp_all
  · exact congrArg Host.Outcome.next ((State.gotAck_unheld up ha gone).trans (if_pos recent))
  · exact congrArg Host.Outcome.next ((State.gotAck_unheld up ha gone).trans (if_neg (Nat.not_lt.mpr never)))
  · exact congrArg Host.Outcome.next ((State.gotNak_oldest up ha some_ oldest).trans (State.startReplay_starts (by simpa using few)))
  · exact congrArg Host.Outcome.next ((State.gotNak_oldest up ha some_ oldest).trans (State.startReplay_breaks (by simpa using many)))
  · obtain ⟨y, row, held, replays⟩ := State.gotNak_later up ha some_ later
    refine ⟨_, congrArg Host.Outcome.next (row.trans (State.startReplay_starts ?_)), ?_, ?_, ?_⟩
    · simp [replays, State.replayMax_pos]
    · simp [held]
    · simp
    · simp [replays]
  · exact congrArg Host.Outcome.next ((State.gotNak_unheld up ha gone).trans (if_pos recent))
  · exact congrArg Host.Outcome.next ((State.gotNak_unheld up ha gone).trans (if_neg (Nat.not_le.mpr never)))
  · exact congrArg Host.Outcome.next ((State.replayExpiry_oldest up hh).trans (State.startReplay_starts few))
  · exact congrArg Host.Outcome.next ((State.replayExpiry_oldest up hh).trans (State.startReplay_breaks many))

/-! ### Flow control -/

/-- Settles O32: each row is one branch of its operation, and a port's own fields change alone. -/
theorem flowControl : Obligations.FlowControl := by
  intro s p mask v up
  refine ⟨⟨_, congrArg Host.Outcome.next (if_neg (by simp [up])), ?_, fun q hq => ?_⟩, ⟨_, congrArg Host.Outcome.next (if_neg (by simp [up])), ?_,
    fun q hq => ?_⟩, fun hv off low => ?_, fun t0 ht => ⟨fun early => ?_, fun off due => ?_⟩, fun owed => ?_, fun clear_ => ?_⟩
  · simp
  · simp [hq]
  · simp
  · simp [hq]
  · refine congrArg Host.Outcome.next ?_
    simp [State.xoffRepeat, up, hv, off, low]
  · refine congrArg Host.Outcome.next ?_
    simp [State.xoffTimeout, ht, Nat.not_le.mpr early]
  · refine congrArg Host.Outcome.next ?_
    simp [State.xoffTimeout, ht, up, off, due]
  · refine congrArg Host.Outcome.next ?_
    simp [State.ackTimer, up, owed, State.sendAck]
  · refine congrArg Host.Outcome.next ?_
    simp [State.ackTimer, up, clear_]

end Sys2Proof.Machine
end

section
/-! PROOFS. The states of Trellis ports (Table 9.2) and the packets that they take (R274 to R281). -/

namespace Sys2Proof.Machine

/-! ### What the steps of training leave alone -/

@[simp] theorem State.countRx_linkKeys (s : State) (p v n k q : Nat) : (s.countRx p v n k).linkKeys q = s.linkKeys q := by simp [State.linkKeys]

theorem State.ctl_sec (s : State) (p : Nat) (c : Ctl) : (s.ctl p c).sec = s.sec := (State.ctl_frame rfl (Frame.refl 6307840 s)).same .sec rfl

/-- Two states whose ports and keys are the same. -/
structure State.SameLinks (s u : State) : Prop where
  tlk : u.tlk = s.tlk
  sec : u.sec = s.sec

namespace State.SameLinks

variable {s u v : State}

theorem refl (s : State) : s.SameLinks s := ⟨rfl, rfl⟩
theorem trans (h : s.SameLinks u) (k : u.SameLinks v) : s.SameLinks v := ⟨k.tlk.trans h.tlk, k.sec.trans h.sec⟩
theorem ctl (h : s.SameLinks u) (p : Nat) (c : Ctl) : s.SameLinks (u.ctl p c) := h.trans ⟨u.ctl_tlk p c, u.ctl_sec p c⟩
theorem countRx (h : s.SameLinks u) (p v n k : Nat) : s.SameLinks (u.countRx p v n k) := h.trans ⟨by simp, by simp⟩

theorem foldl {α : Type} (h : s.SameLinks u) (l : List α) {f : State → α → State} (step : ∀ w a, s.SameLinks w → s.SameLinks (f w a)) :
    s.SameLinks (l.foldl f u) := by
  induction l generalizing u with
  | nil => exact h
  | cons a r ih => exact ih (step _ a h)

theorem probes (h : s.SameLinks u) (p : Nat) (stamps : List Nat) : s.SameLinks (u.probes p stamps) := by
  have drawn : s.SameLinks u.draw.2 := h.trans ⟨rfl, rfl⟩
  unfold State.probes
  dsimp only
  exact foldl (foldl drawn _ fun _ _ hw => hw.ctl ..) _ fun _ _ hw => hw.ctl ..

theorem port (h : s.SameLinks u) (p : Nat) : u.port p = s.port p := State.port_congr h.tlk p

theorem negotiate (h : s.SameLinks u) (p versions : Nat) (a b c : Bool) : u.negotiate p versions a b c = s.negotiate p versions a b c := by
  unfold State.negotiate State.linkKeys
  rw [h.port, h.sec]

end State.SameLinks

/-- The state in which the negotiation is made: what was received is counted, and CAPS sent (Table 9.3). -/
def State.capsSent (s : State) (p : Nat) (trips stamps : List Nat) : State :=
  ((List.range (1 + trips.length + stamps.length)).foldl (fun s _ => s.countRx p 3 1) s).ctl p
    (.caps (if (s.port p).offers == 2 then 3 else 1)
      (b2n (s.linkKeys p).installed + 2 * b2n (s.port p).encReq + 4 * b2n (s.linkKeys p).installed) (s.linkKeys p).tx0.ctr (s.linkKeys p).tx1.ctr)

theorem State.capsSent_same (s : State) (p : Nat) (trips stamps : List Nat) : s.SameLinks (s.capsSent p trips stamps) :=
  (State.SameLinks.foldl (.refl s) _ fun _ _ h => h.countRx ..).ctl ..

/-- A port as it comes UP (R271): the version and encryption agreed, the headroom of its LOOP, and nothing in flight. -/
def Port.trained (x : Port) (tl : Nat) (enc : Bool) (loopNs : Nat) : Port :=
  { x with state := .up, tl := tl, enc := enc, loopNs := loopNs, head := headroom loopNs, allocUse := x.alloc, attempt := 0
           xoffRx := 0, xoffTx := 0, xoffAt := [], e := 0, sinceAck := 0, unacked := false, nakSent := false
           next := 0, held := [], replay := none, replays := 0, rx := [] }

section
variable {s : State} {p versions c0 c1 : Nat} {trips stamps : List Nat} {pe pr pk : Bool}

/-- The end of a training or of a retrain attempt, by what the negotiation agrees on. -/
theorem State.trainEnd_eq (st : (s.port p).state = .training ∨ (s.port p).state = .retrain) :
    s.trainEnd p versions trips stamps pe pr pk c0 c1 =
      match s.negotiate p versions pe pr pk with
      | .inr c => (s.capsSent p trips stamps).attemptFail p c
      | .inl (tl, enc) =>
        if !(s.port p).fits (trips.foldl max 0) then ((s.capsSent p trips stamps).probes p stamps).attemptFail p 10
        else ((((s.capsSent p trips stamps).probes p stamps).setKeys p fun k =>
          { k with rx0 := { k.rx0 with ctr := c0 }, rx1 := { k.rx1 with ctr := c1 } }).setPort p
            fun x => x.trained tl enc (trips.foldl max 0)).agentLinks := by
  have training : ((s.port p).state != .training && (s.port p).state != .retrain) = false := by
    obtain h | h := st <;> simp [h]
  rw [← (s.capsSent_same p trips stamps).negotiate]
  exact if_neg (by rw [training]; exact Bool.false_ne_true)

/-- A full training that fails takes the port DOWN with its cause. -/
theorem State.attemptFail_training {u : State} (st : (u.port p).state = .training) (c : Nat) :
    u.attemptFail p c = u.setPort p fun x => { x with state := .down, cause := c % 16 } := by
  simp [State.attemptFail, State.trainFail, st]

/-- One that agrees on a version and whose LOOP fits brings the port UP. -/
theorem State.trainEnd_up {tl : Nat} {enc : Bool} (st : (s.port p).state = .training ∨ (s.port p).state = .retrain)
    (agreed : s.negotiate p versions pe pr pk = .inl (tl, enc)) (fits : (s.port p).fits (trips.foldl max 0) = true) :
    ∃ u : State, s.trainEnd p versions trips stamps pe pr pk c0 c1 =
      (u.setPort p fun x => x.trained tl enc (trips.foldl max 0)).agentLinks ∧ ∀ q, u.port q = s.port q := by
  rw [State.trainEnd_eq st, agreed]
  simp only [fits, Bool.not_true, Bool.false_eq_true, if_false]
  exact ⟨_, rfl, ((s.capsSent_same p trips stamps).probes p stamps).port⟩

/-- A full training that agrees on nothing, or whose LOOP does not fit, takes the port DOWN. -/
theorem State.trainEnd_fails {c : Nat} (st : (s.port p).state = .training)
    (fails : (s.negotiate p versions pe pr pk = .inr c ∧ c < 16) ∨
      ((∃ y, s.negotiate p versions pe pr pk = .inl y) ∧ (s.port p).fits (trips.foldl max 0) = false ∧ c = 10)) :
    ∃ u : State, s.trainEnd p versions trips stamps pe pr pk c0 c1 = (u.setPort p fun x => { x with state := .down, cause := c }) ∧
      ∀ q, u.port q = s.port q := by
  rw [State.trainEnd_eq (.inl st)]
  obtain ⟨refused, small⟩ | ⟨⟨y, agreed⟩, fits, rfl⟩ := fails
  · have same := s.capsSent_same p trips stamps
    rw [refused]
    refine ⟨_, (State.attemptFail_training (same.port p ▸ st) c).trans ?_, same.port⟩
    rw [Nat.mod_eq_of_lt small]
  · have same := (s.capsSent_same p trips stamps).probes p stamps
    rw [agreed]
    simp only [fits, Bool.not_false, if_true]
    exact ⟨_, State.attemptFail_training (same.port p ▸ st) 10, same.port⟩

/-- A retrain attempt fails: the next one begins. -/
theorem State.retrainFail_next {cause : Nat} (st : (s.port p).state = .retrain) (other : cause < 10 ∨ 12 < cause)
    (few : (s.port p).attempt < 4) (early : s.tick < (s.port p).brokeAt + RETRAIN_TICKS) :
    s.retrainFail p cause = s.setPort p fun x => { x with attempt := x.attempt + 1 } := by
  have keeps : ¬ (10 ≤ cause ∧ cause ≤ 12) := by omega
  simp [State.retrainFail, st, keeps, few, early]

/-- The last one: the port is DOWN. -/
theorem State.retrainFail_last {cause : Nat} (st : (s.port p).state = .retrain) (other : cause < 10 ∨ 12 < cause)
    (last : 4 ≤ (s.port p).attempt ∨ (s.port p).brokeAt + RETRAIN_TICKS ≤ s.tick) :
    s.retrainFail p cause = (s.setPort p fun x => { x with state := .down }).raiseTlk p 2 (s.port p).cause := by
  have keeps : ¬ (10 ≤ cause ∧ cause ≤ 12) := by omega
  have ends : ¬ ((s.port p).attempt < 4 ∧ s.tick < (s.port p).brokeAt + RETRAIN_TICKS) := by omega
  simp [State.retrainFail, st, keeps, ends]

@[simp] theorem State.raiseTlk_port (u : State) (n c q : Nat) : (u.raiseTlk p n c).port q = u.port q :=
  State.port_congr (by simp [State.raiseTlk]) q

/-- A break of an UP port whose tags are not at fault (R290). -/
theorem State.breakLink_retrains {cause : Nat} (up : s.portUp p = true) (notTag : cause ≠ 5) :
    s.breakLink p cause = ((((s.loseTraffic p).setPort p fun x =>
      { x with state := .retrain, cause := cause, attempt := 1, brokeAt := (s.loseTraffic p).tick, xoffRx := 0, xoffTx := 0 }).bump
        blkTLK (0x05C0 + 4 * p)).raiseTlk p 0 cause).agentLinks := by
  simp [State.breakLink, up, notTag]

theorem State.trainStart_down (st : (s.port p).state = .down) (hub : hubOfPort p ∉ s.mir.hubsLost) (cellar : s.cellar = false)
    (live : s.failedPart = false) (settled : s.glb.change = .none) : s.trainStart p = s.setPort p fun x => { x with state := .training } := by
  simp [State.trainStart, st, hub, cellar, live, settled]

end

/-- Settles O34: the equation of each operation on a port, and `State.SameLinks` for what it sends and counts. -/
theorem portsChangeState : Obligations.PortsChangeState := by
  intro s fn p cause
  refine ⟨fun st hub cellar live settled => ⟨congrArg Host.Outcome.next (State.trainStart_down st hub cellar live settled), fun may hp => ?_⟩,
    fun st => ?_, ?_, ?_, fun st other => ⟨fun few early => ?_, fun last => ?_⟩, fun up low high notTag => ?_, fun may hp => ⟨?_, fun on down => ?_,
      fun on up => ?_, fun off => ?_⟩⟩
  · refine congrArg Host.Outcome.next ((if_pos ?_).trans (State.trainStart_down st hub cellar live settled))
    simp [may, hp]
  · refine congrArg Host.Outcome.next ?_
    simp [State.trainFail, st]
  · intro versions trips stamps pe pr pk c0 c1 tl enc st agreed fits
    obtain ⟨u, row, port⟩ := State.trainEnd_up (c0 := c0) (c1 := c1) (stamps := stamps) st agreed fits
    refine ⟨_, congrArg Host.Outcome.next row, ?_, ?_, ?_, ?_, ?_, ?_, ?_, ?_, fun q hq => ?_⟩
    case refine_9 => rw [State.port_setPort, if_neg hq, port]
    all_goals rw [State.port_setPort, if_pos rfl]; rfl
  · intro versions trips stamps pe pr pk c0 c1 x st fails
    obtain ⟨u, row, port⟩ := State.trainEnd_fails (c0 := c0) (c1 := c1) (stamps := stamps) st fails
    exact ⟨_, congrArg Host.Outcome.next row, by simp [port], fun q hq => by simp [hq, port]⟩
  · exact congrArg Host.Outcome.next (State.retrainFail_next st other few early)
  · exact ⟨_, congrArg Host.Outcome.next (State.retrainFail_last st other last), by simp⟩
  · refine ⟨_, congrArg Host.Outcome.next ((if_pos ?_).trans (State.breakLink_retrains up notTag)), ?_, ?_, ?_, ?_⟩
    · simp [low, high]
    all_goals simp
  · refine congrArg Host.Outcome.next ?_
    simp [may, hp]
  · refine congrArg Host.Outcome.next ?_
    simp [may, hp, on, State.portDisable, down]
  · refine congrArg Host.Outcome.next ?_
    simp [may, hp, on, State.portDisable, up]
  · refine congrArg Host.Outcome.next ?_
    simp [may, hp, State.portEnable, off]

end Sys2Proof.Machine
end

section
/-! PROOFS. Flits as they are received (R272 to R275, R281, R282, R285): a control flit as it is sent spells itself, and a packet in sequence is the
command that it spells. -/

namespace Sys2Proof.Machine

/-! ### The CRC -/

theorem crcBits_lt {c : Nat} (k : Nat) (h : c < 2 ^ 32) : crcBits k c < 2 ^ 32 := by
  induction k generalizing c with
  | zero => exact h
  | succ k ih =>
    refine ih ?_
    split
    · exact Nat.xor_lt_two_pow (by omega) (by omega)
    · omega

theorem crcFold_lt {c : Nat} (bs : List Byte) (h : c < 2 ^ 32) : crcFold c bs < 2 ^ 32 := by
  induction bs generalizing c with
  | nil => exact h
  | cons b r ih =>
    have byte : b.toNat < 2 ^ 32 := Nat.lt_of_lt_of_le b.isLt (by decide)
    exact ih (crcBits_lt 8 (Nat.xor_lt_two_pow h byte))

theorem crc32c_lt (bs : List Byte) : crc32c bs < 2 ^ 32 := Nat.xor_lt_two_pow (crcFold_lt bs (by decide)) (by decide)

/-! ### Flits with their CRC in place -/

section
variable {bs : List Byte}

theorem length_withCrc (h : 8 ≤ bs.length) : (withCrc bs).length = bs.length := by
  simp only [withCrc, List.length_append, List.length_take, List.length_drop, length_leBytes]
  omega

theorem take_withCrc (h : 8 ≤ bs.length) : (withCrc bs).take 4 = bs.take 4 := by
  rw [withCrc, List.append_assoc, List.take_append_of_le_length (by simp; omega), List.take_take]
  rfl

/-- Bytes 0 to 7 make room for the CRC; the others stay. -/
theorem drop_withCrc (h : 8 ≤ bs.length) {k : Nat} (hk : 8 ≤ k) : (withCrc bs).drop k = bs.drop k := by
  have head : (bs.take 4 ++ leBytes 4 (flitCrc bs)).length = 8 := by simp [length_leBytes]; omega
  rw [withCrc, List.drop_append, head, List.drop_of_length_le (by omega), List.nil_append, List.drop_drop]
  congr 1
  omega

theorem crcGood_withCrc (h : 64 ≤ bs.length) (flits : bs.length % 64 = 0) : crcGood (withCrc bs) = true := by
  have crc : flitCrc (withCrc bs) = flitCrc bs := by
    simp only [flitCrc, take_withCrc (bs := bs) (by omega), drop_withCrc (bs := bs) (by omega) (Nat.le_refl 8)]
  have field : num (withCrc bs) 4 4 = flitCrc bs := by
    have four : (bs.take 4).length = 4 := by simp; omega
    rw [num, cut, withCrc, List.append_assoc, List.drop_append, List.drop_of_length_le (by omega), List.nil_append, four, Nat.sub_self,
      List.drop_zero, List.take_append_of_le_length (by simp [length_leBytes]), List.take_of_length_le (by simp [length_leBytes]),
      leNat_leBytes]
    exact Nat.mod_eq_of_lt (crc32c_lt _)
  simp [crcGood, length_withCrc (bs := bs) (by omega), h, flits, crc, field]

/-- A field of a flit with its CRC that lies past it. -/
theorem num_withCrc (h : 8 ≤ bs.length) {a : Nat} (ha : 8 ≤ a) (n : Nat) : num (withCrc bs) a n = num bs a n := by
  simp only [num, cut, drop_withCrc h ha]

theorem num_withCrc_head (h : 8 ≤ bs.length) : num (withCrc bs) 0 4 = num bs 0 4 := by
  simp only [num, cut, List.drop_zero, take_withCrc h]

end

/-! ### Control flits -/

/-- The number in a control flit's header: its SEQ field and its KIND (Table 9.12). -/
theorem linkWord_ctl {seq kind : Nat} (hs : seq < 4096) (hk : kind < 16) : linkWord seq false 0 0 3 kind = 65536 * seq + 48 + kind := by
  simp only [linkWord, place, b2n, Bool.false_eq_true, if_false]
  omega

/-- A flit before its CRC: the header word, room for the CRC, and fields. -/
def plainCtl (w : Nat) (fields : List Byte) : List Byte := padTo 64 0 (leBytes 4 w ++ [0, 0, 0, 0] ++ fields)

theorem length_plainCtl (w : Nat) (fields : List Byte) : (plainCtl w fields).length = 64 := length_padTo ..

theorem num_plainCtl_head {w : Nat} (hw : w < 2 ^ 32) (fields : List Byte) : num (plainCtl w fields) 0 4 = w := by
  have head : (plainCtl w fields).take 4 = leBytes 4 w := by
    simp [plainCtl, padTo, leBytes]
  rw [num, cut, List.drop_zero, head, leNat_leBytes]
  exact Nat.mod_eq_of_lt hw

/-- The mask of an XOFF or XON. -/
theorem num_plainCtl_mask (w m : Nat) : num (plainCtl w (leBytes 1 m)) 8 1 = m % 256 := by
  have field : cut (plainCtl w (leBytes 1 m)) 8 1 = leBytes 1 m := by
    simp [plainCtl, padTo, leBytes, cut]
  rw [num, field, leNat_leBytes, Nat.pow_one]

section
variable {s : State} {p seq kind : Nat} {fields : List Byte}

/-- What a port that is UP makes of a good control flit, by its KIND. -/
theorem State.ctlIn_good (up : s.portUp p = true) (hs : seq < 4096) (hk : kind < 16) :
    s.ctlIn p (withCrc (plainCtl (linkWord seq false 0 0 3 kind) fields)) false =
      match (generalizing := false) kind with
      | 1 => s.gotAck p seq
      | 2 => s.gotNak p seq
      | 3 => s.gotXoff p (num (plainCtl (linkWord seq false 0 0 3 kind) fields) 8 1)
      | 4 => s.gotXon p (num (plainCtl (linkWord seq false 0 0 3 kind) fields) 8 1)
      | _ => s.bump blkTLK (0x0500 + 4 * p) := by
  have len := length_plainCtl (linkWord seq false 0 0 3 kind) fields
  have word := linkWord_ctl hs hk
  have head : num (withCrc (plainCtl (linkWord seq false 0 0 3 kind) fields)) 0 4 = 65536 * seq + 48 + kind := by
    rw [num_withCrc_head (by omega), num_plainCtl_head (by omega), word]
  have hseq : (rxHead (withCrc (plainCtl (linkWord seq false 0 0 3 kind) fields))).seq = seq := by
    simp only [rxHead, head, bits]
    omega
  have hvc : (rxHead (withCrc (plainCtl (linkWord seq false 0 0 3 kind) fields))).vc = 3 := by
    simp only [rxHead, head, bits]
    omega
  have hlen : (rxHead (withCrc (plainCtl (linkWord seq false 0 0 3 kind) fields))).len = 0 := by
    simp only [rxHead, head, bits]
    omega
  have hkind : (rxHead (withCrc (plainCtl (linkWord seq false 0 0 3 kind) fields))).kind = kind := by
    simp only [rxHead, head, bits]
    omega
  unfold State.ctlIn
  simp only [up, length_withCrc (bs := plainCtl (linkWord seq false 0 0 3 kind) fields) (by omega), len,
    crcGood_withCrc (bs := plainCtl (linkWord seq false 0 0 3 kind) fields) (by omega) (by omega), hseq, hvc, hlen, hkind,
    num_withCrc (bs := plainCtl (linkWord seq false 0 0 3 kind) fields) (by omega) (Nat.le_refl 8)]
  rfl

theorem State.ctlIn_bad {bs : List Byte} (up : s.portUp p = true) (bad : crcGood bs = false) :
    s.ctlIn p bs false = s.bump blkTLK (0x0500 + 4 * p) := by
  simp [State.ctlIn, up, bad]

end

/-! ### Packets -/

section
variable {bs : List Byte}

theorem length_leWords (n v : Nat) : (leWords n v).length = n := by
  induction n generalizing v with
  | zero => rfl
  | succ n ih => simp [leWords, ih]

/-- The words of a packet's data fill its data flits. -/
theorem flits_dataWords (good : crcGood bs = true) : 1 + ceilDiv (dataWords bs).length 16 = bs.length / 64 := by
  simp only [crcGood, Bool.and_eq_true, decide_eq_true_eq, beq_iff_eq] at good
  simp only [dataWords, length_leWords, ceilDiv]
  omega

theorem flits_data (good : crcGood bs = true) : 1 + ceilDiv (bs.drop 64).length 64 = bs.length / 64 := by
  simp only [crcGood, Bool.and_eq_true, decide_eq_true_eq, beq_iff_eq] at good
  simp only [List.length_drop, ceilDiv]
  omega

/-- The command that a packet spells arrives on its VC with its flits. -/
theorem exec_rxCommand {s : State} {p : Nat} {h : RxHead} {c : Instr} (good : crcGood bs = true) (len : h.len + 1 = bs.length / 64)
    (hc : rxCommand p h bs = some c) : exec c s = .next (s.arrive p h.vc (bs.length / 64) c) := by
  have words := flits_dataWords good
  have data := flits_data good
  unfold rxCommand at hc
  dsimp only at hc
  split at hc
  · next hv =>
    generalize num bs 32 1 % 16 = req at hc
    by_cases flits : h.len = if req = 1 ∨ req = 2 then 1 else 0
    · rw [if_neg (by simp [flits])] at hc
      rw [hv, ← len, flits]
      split at hc
      case h_9 => exact absurd hc (by simp)
      all_goals obtain rfl := Option.some.inj hc; rfl
    · rw [if_pos (by simpa using flits)] at hc
      exact absurd hc (by simp)
  · next hv =>
    rw [hv, ← words]
    split at hc <;> (obtain rfl := Option.some.inj hc; rfl)
  · next hv =>
    rw [hv, ← words]
    obtain rfl := Option.some.inj hc
    rfl
  · next hv =>
    rw [hv, ← data]
    obtain rfl := Option.some.inj hc
    rfl
  · exact absurd hc (by simp)

end

section
variable {s : State} {p : Nat} {bs : List Byte} {bad : Bool}

/-- Bytes that are bad in themselves (R281). -/
theorem State.rawIn_garbled (hp : p < 16) (up : s.portUp p = true)
    (h : bad = true ∨ crcGood bs = false ∨ (rxHead bs).len + 1 ≠ bs.length / 64) : s.rawIn p bs false bad = s.garbled p := by
  have wrong : (bad || !crcGood bs || (rxHead bs).len + 1 != bs.length / 64) = true := by
    obtain h | h | h := h <;> simp [h]
  simp [State.rawIn, Nat.not_le.mpr hp, up, wrong]

/-- Whole flits with a good CRC and the LEN that arrived. -/
structure GoodFlits (bs : List Byte) : Prop where
  crc : crcGood bs = true
  len : (rxHead bs).len + 1 = bs.length / 64

/-- An ENC or a LEN that breaks the protocol (Table 9.13). -/
theorem State.rawIn_breaks (hp : p < 16) (up : s.portUp p = true) (good : GoodFlits bs)
    (h : (rxHead bs).enc ≠ (s.port p).enc ∨ (s.port p).maxFlits < bs.length / 64) : s.rawIn p bs false false = s.breakLink p 6 := by
  have wrong : ((rxHead bs).enc != (s.port p).enc || Decidable.decide ((s.port p).maxFlits < bs.length / 64)) = true := by
    obtain h | h := h <;> simp [h]
  simp only [State.rawIn, Nat.not_le.mpr hp, up, good.crc, good.len, wrong]
  simp

/-- A packet that the link's version and encryption allow. -/
structure State.FitsLink (s : State) (p : Nat) (bs : List Byte) : Prop extends GoodFlits bs where
  enc : (rxHead bs).enc = (s.port p).enc
  flits : bs.length / 64 ≤ (s.port p).maxFlits

/-- One out of sequence is a duplicate or lost by its SEQ (R282). -/
theorem State.rawIn_discard (hp : p < 16) (up : s.portUp p = true) (fits : s.FitsLink p bs) (seq : (rxHead bs).seq ≠ (s.port p).e) :
    s.rawIn p bs false false = s.discard p (rxHead bs).seq := by
  simp [State.rawIn, Nat.not_le.mpr hp, up, fits.crc, fits.len, fits.enc, Nat.not_lt.mpr fits.flits, seq]

/-- A packet in sequence with nothing wrong in its header. -/
structure State.InSequence (s : State) (p : Nat) (bs : List Byte) : Prop extends s.FitsLink p bs where
  seq : (rxHead bs).seq = (s.port p).e
  rsv : (rxHead bs).rsv = 0
  kind : (rxHead bs).kind = 0
  vc : (rxHead bs).vc ≠ 3

theorem State.rawIn_clear {c : Instr} (hp : p < 16) (up : s.portUp p = true) (next : s.InSequence p bs) (clear_ : (s.port p).enc = false)
    (hc : rxCommand p (rxHead bs) bs = some c) : s.rawIn p bs false false = s.arrive p (rxHead bs).vc (bs.length / 64) c := by
  simp [State.rawIn, Nat.not_le.mpr hp, up, next.crc, next.len, next.enc, Nat.not_lt.mpr next.flits, next.seq, next.rsv, next.kind, next.vc, clear_,
    hc]

theorem State.rawIn_badTag (hp : p < 16) (up : s.portUp p = true) (next : s.InSequence p bs) (enc : (s.port p).enc = true)
    (bad : unlock (if (rxHead bs).keysel = 0 then (s.linkKeys p).rx0 else (s.linkKeys p).rx1) bs = none) :
    s.rawIn p bs false false =
      ((s.setKeys p fun k => { k with rxSel := (rxHead bs).keysel }).bump blkTLK (0x0500 + 4 * p)).breakLink p 5 := by
  simp [State.rawIn, Nat.not_le.mpr hp, up, next.crc, next.len, next.enc, Nat.not_lt.mpr next.flits, next.seq, next.rsv, next.kind, next.vc, enc,
    bad]

/-! ### Duplicates and lost packets -/

theorem State.lost_first (h : (s.port p).nakSent = false) :
    s.lost p = (s.setPort p fun x => { x with nakSent := true, unacked := false, sinceAck := 0 }).ctl p (.nak (s.port p).e) := by
  simp [State.lost, h]

theorem State.lost_again (h : (s.port p).nakSent = true) : s.lost p = s := by simp [State.lost, h]

section
variable {seq behind : Nat}

theorem State.discard_duplicate (hb : behind = ((s.port p).e + 4096 - seq % 4096) % 4096) (some_ : 0 < behind) (near : behind ≤ 2047) :
    s.discard p seq = (s.bump blkTLK (0x0580 + 4 * p)).ackDup p := by
  subst hb
  exact if_pos (by simpa using ⟨some_, near⟩)

theorem State.discard_lost (hb : behind = ((s.port p).e + 4096 - seq % 4096) % 4096) (far : 2047 < behind) : s.discard p seq = s.lost p := by
  subst hb
  exact if_neg (by simp only [Bool.and_eq_true, decide_eq_true_eq]; omega)

/-- A SEQ behind the one expected is not it. -/
theorem seq_of_behind {e : Nat} (hb : behind = (e + 4096 - seq % 4096) % 4096) (some_ : 0 < behind) : seq ≠ e := by omega

end

end

/-- Settles O33: `State.rawIn` by the first thing wrong with the bytes, and `State.ctlIn_good` for a control flit as `Ctl.wire` sends it. -/
theorem badPacketsAreDiscarded : Obligations.BadPacketsAreDiscarded := by
  refine ⟨?_, fun s p seq mask bs up hseq hmask => ⟨?_, ?_, ?_, ?_, fun bad => congrArg Host.Outcome.next (State.ctlIn_bad up bad)⟩⟩
  · rintro s p n bs bad h rfl rfl hp up
    refine ⟨fun wrong => ⟨fun first => ?_, fun again => ?_⟩, fun crc len => ⟨fun breaks => ?_, fun enc flits => ⟨fun behind hb =>
      ⟨fun some_ near fresh => ?_, fun some_ near again => ?_, fun far first => ?_, fun far again => ?_⟩, fun seq rsv kind vc => ⟨fun clear_ c hc => ?_,
        fun enc_ bad => ?_⟩⟩⟩⟩
    · refine congrArg Host.Outcome.next ((State.rawIn_garbled hp up wrong).trans ((State.lost_first (by simpa using first)).trans ?_))
      simp
    · exact congrArg Host.Outcome.next ((State.rawIn_garbled hp up wrong).trans (State.lost_again (by simpa using again)))
    · exact congrArg Host.Outcome.next (State.rawIn_breaks hp up ⟨crc, len⟩ breaks)
    all_goals have fits : s.FitsLink p bs := ⟨⟨crc, len⟩, enc, flits⟩
    · refine congrArg Host.Outcome.next ((State.rawIn_discard hp up fits (seq_of_behind hb some_)).trans
        ((State.discard_duplicate hb some_ near).trans ?_))
      simp [State.ackDup, fresh]
    · refine congrArg Host.Outcome.next ((State.rawIn_discard hp up fits (seq_of_behind hb some_)).trans
        ((State.discard_duplicate hb some_ near).trans ?_))
      simp [State.ackDup, again]
    · exact congrArg Host.Outcome.next ((State.rawIn_discard hp up fits (seq_of_behind hb (by omega))).trans
        ((State.discard_lost hb far).trans (State.lost_first first)))
    · exact congrArg Host.Outcome.next ((State.rawIn_discard hp up fits (seq_of_behind hb (by omega))).trans
        ((State.discard_lost hb far).trans (State.lost_again again)))
    · rw [exec_rxCommand crc len hc]
      exact congrArg Host.Outcome.next (State.rawIn_clear hp up ⟨fits, seq, rsv, kind, vc⟩ clear_ hc)
    · exact congrArg Host.Outcome.next (State.rawIn_badTag hp up ⟨fits, seq, rsv, kind, vc⟩ enc_ bad)
  · exact congrArg Host.Outcome.next (State.ctlIn_good (kind := 1) (fields := []) up hseq (by decide))
  · exact congrArg Host.Outcome.next (State.ctlIn_good (kind := 2) (fields := []) up hseq (by decide))
  · have row := State.ctlIn_good (kind := 3) (fields := leBytes 1 (mask % 8)) up (seq := 0) (by decide) (by decide)
    refine congrArg Host.Outcome.next (row.trans (congrArg (s.gotXoff p) ?_))
    rw [num_plainCtl_mask]
    omega
  · have row := State.ctlIn_good (kind := 4) (fields := leBytes 1 (mask % 8)) up (seq := 0) (by decide) (by decide)
    refine congrArg Host.Outcome.next (row.trans (congrArg (s.gotXon p) ?_))
    rw [num_plainCtl_mask]
    omega

/-! ### Packets accepted and taken -/

/-- The two states differ in a port's acceptance alone: what MTR and the rest of the part see is the same. -/
structure State.SameBeyond (s u : State) : Prop where
  eng : u.eng = s.eng
  dir : u.dir = s.dir
  mem : u.mem = s.mem
  trt : u.trt = s.trt
  mir : u.mir = s.mir

theorem State.SameBeyond.of_frame {s u : State} {m : Nat} (h : Frame m s u)
    (hm : ∀ p ∈ [Part.eng, .dir, .mem, .trt, .mir], m.testBit p.no = false) : s.SameBeyond u := by
  simp only [List.forall_mem_cons] at hm
  obtain ⟨eng, dir, mem, trt, mir, -⟩ := hm
  exact ⟨h.same .eng eng, h.same .dir dir, h.same .mem mem, h.same .trt trt, h.same .mir mir⟩

section
variable {s : State} {p v flits : Nat}

/-- The receive key's counter rises (R294). -/
def State.keyUsed (s : State) (p : Nat) : State :=
  s.setKeys p fun c => if c.rxSel = 0 then { c with rx0 := { c.rx0 with ctr := c.rx0.ctr + 1 } } else { c with rx1 := { c.rx1 with ctr := c.rx1.ctr + 1 } }

/-- A packet that fits is accepted: E advances, and the ACK that is due by then is sent (R281). -/
theorem State.accept_room (up : s.portUp p = true) (len : flits ≤ (s.port p).maxFlits) (room : flits ≤ (s.port p).free v) :
    ∃ u : State, s.accept p v flits = (u, true) ∧ (u.port p).e = ((s.port p).e + 1) % 4096 ∧ s.SameBeyond u := by
  have accepted : s.accept p v flits =
      (let t := s.setPort p fun x =>
          { x with e := (x.e + 1) % 4096, unacked := true, nakSent := false, sinceAck := x.sinceAck + flits }
        let t := if (s.port p).enc then t.keyUsed p else t
        (if 256 ≤ (t.port p).sinceAck then t.sendAck p else t, true)) := by
    unfold State.accept
    simp only [up, Nat.not_lt.mpr len, Nat.not_lt.mpr room, Bool.not_true, Bool.false_eq_true, if_false]
    rfl
  rw [accepted]
  dsimp only
  generalize hk : (if (s.port p).enc then _ else _ : State) = t
  have advanced : (t.port p).e = ((s.port p).e + 1) % 4096 ∧ s.SameBeyond t := by
    subst hk
    split <;> exact ⟨by simp [State.keyUsed, State.setKeys, State.port], rfl, rfl, rfl, rfl, rfl⟩
  refine ⟨_, rfl, ?_⟩
  obtain ⟨e, same⟩ := advanced
  split
  · have sent := State.SameBeyond.of_frame (State.sendAck_frame (p := p) rfl (Frame.refl 6308864 t)) (by decide)
    exact ⟨by simp [State.sendAck, e], sent.eng.trans same.eng, sent.dir.trans same.dir, sent.mem.trans same.mem, sent.trt.trans same.trt,
      sent.mir.trans same.mir⟩
  · exact ⟨e, same⟩

end

/-- Settles O35: acceptance advances E (`State.accept_room`), and MTR takes the packet or drops it by the agent's route. -/
theorem packetsAreTaken : Obligations.PacketsAreTaken := by
  intro s c p a v flits f hc hp up len room calm
  obtain ⟨u, accepted, e, same⟩ := State.accept_room up len room
  have arrives : s.arrive p v flits c = u.packetIn c v flits := by
    simp [State.arrive, Nat.not_le.mpr hp, accepted, same.mir, calm]
  have row : exec c s = .next (u.takeIn p a v flits f) := by
    obtain ⟨tid, ws, rfl, rfl, rfl, rfl⟩ | ⟨tid, ws, rfl, rfl, rfl, rfl⟩ | ⟨tid, ws, rfl, rfl, rfl, rfl⟩ | ⟨tag, st, d, rfl, rfl, rfl, rfl⟩ := hc <;>
      exact congrArg Host.Outcome.next arrives
  have ports : (u.countRx p v flits).route a = s.route a := by simp [State.route, same.trt]
  have parts : ((u.countRx p v flits).port p).e = ((s.port p).e + 1) % 4096 ∧ (u.countRx p v flits).eng = s.eng ∧
      (u.countRx p v flits).dir = s.dir ∧ (u.countRx p v flits).mem = s.mem := by
    simp [e, same.eng, same.dir, same.mem]
  refine ⟨fun some_ small listed => ⟨_, row.trans (congrArg Host.Outcome.next ?_), parts⟩,
    fun strange => ⟨_, row.trans (congrArg Host.Outcome.next ?_), parts⟩⟩
  · have taken : ¬ ((a = 0 ∨ 127 < a) ∨ bit (s.route a).ports p = false) := by simp [listed]; omega
    simp [State.takeIn, State.take, ports, taken]
  · have dropped : (a = 0 ∨ 127 < a) ∨ bit (s.route a).ports p = false := or_assoc.mpr strange
    simp [State.takeIn, State.take, ports, dropped]

end Sys2Proof.Machine
end

section
/-! PROOFS. Meters, schedulers and gate lists (R354 to R364). -/

namespace Sys2Proof.Machine

/-! ### Fields of a record written by its old value -/

theorem State.setSch_congr {s : State} {q : Nat} {f g : SchPort → SchPort} (h : f (s.schPort q) = g (s.schPort q)) :
    s.setSch q f = s.setSch q g := by
  unfold State.setSch State.onSch Tbl.modD
  unfold State.schPort at h
  simp only [h]

/-! ### METER_SET, SCHED_SET and GATE_LIST_LOAD -/

section
variable {s : State} {fn : Nat} {p : Packet}

theorem firstIdx_none {α : Type} {f : α → Bool} {l : List α} (h : ∀ a ∈ l, f a = false) : firstIdx f l = none := by
  have all : l.takeWhile (fun a => !f a) = l := by
    induction l with
    | nil => rfl
    | cons a l ih =>
      obtain ⟨ha, hl⟩ := List.forall_mem_cons.mp h
      rw [List.takeWhile_cons_of_pos (by rw [ha]; rfl), ih hl]
  simp [firstIdx, all]

theorem meterFault_bypass (h : bit (p.dw 6) 0 = false) : meterFault p = none := by simp [meterFault, h]

theorem meterFault_good (agent : p.fld 2 6 0 ≠ 0) (cir : p.fld 3 15 0 ≠ 0) (pir : p.fld 3 15 0 ≤ p.fld 3 31 16) (cbs : 2048 ≤ p.fld 4 23 0)
    (pbs : p.fld 4 23 0 ≤ p.fld 5 23 0) : meterFault p = none := by
  simp [meterFault, agent, cir, Nat.not_lt.mpr pir, Nat.not_lt.mpr cbs, Nat.not_lt.mpr pbs]

theorem State.doMeterSet_bypass (hp : s.isProvider fn = true) (agent : p.fld 2 6 0 ≠ 0) (off : bit (p.dw 6) 0 = false) :
    s.doMeterSet (issuer fn p) p = (s.setMeter (p.fld 2 6 0) fun m => { m with active := false, tc := 0, tp := 0 }).answer (issuer fn p) .ok := by
  have provider : s.provider (issuer fn p) = true := hp
  simp [State.doMeterSet, provider, meterFault_bypass off, agent, off]

theorem State.doMeterSet_arms (hp : s.isProvider fn = true) (agent : p.fld 2 6 0 ≠ 0) (on : bit (p.dw 6) 0 = true) (good : meterFault p = none) :
    s.doMeterSet (issuer fn p) p = (s.setMeter (p.fld 2 6 0) fun _ =>
      { active := true, home := s.homeHub (p.fld 2 6 0), cir := p.fld 3 15 0, pir := p.fld 3 31 16, cbs := p.fld 4 23 0,
        pbs := p.fld 5 23 0, tc := if (s.meter (p.fld 2 6 0)).active then min (p.fld 4 23 0) (s.meter (p.fld 2 6 0)).tc else 0,
        tp := if (s.meter (p.fld 2 6 0)).active then min (p.fld 5 23 0) (s.meter (p.fld 2 6 0)).tp else 0 }).answer (issuer fn p) .ok := by
  have provider : s.provider (issuer fn p) = true := hp
  simp [State.doMeterSet, provider, good, agent, on]

theorem schedWeights_eq (p : Packet) : schedWeights p = [p.fld 4 7 0, p.fld 4 15 8, p.fld 4 23 16, p.fld 4 31 24] := rfl

theorem State.doSchedSet_port (hp : s.isProvider fn = true) (ofPort : bit (p.dw 3) 31 = true) (known : p.fld 2 6 0 ≤ 23)
    (some_ : 0 ∉ schedWeights p) :
    s.doSchedSet (issuer fn p) p = (s.setSch (p.fld 2 6 0) fun q => { q with weights := schedWeights p }).answer (issuer fn p) .ok := by
  have provider : s.provider (issuer fn p) = true := hp
  simp [State.doSchedSet, schedFault, provider, ofPort, Nat.not_lt.mpr known, some_]

theorem State.doSchedSet_agent (hp : s.isProvider fn = true) (ofAgent : bit (p.dw 3) 31 = false) (agent : p.fld 2 6 0 ≠ 0)
    (weight : p.fld 3 7 0 ≠ 0) :
    s.doSchedSet (issuer fn p) p =
      (s.onSch fun c => { c with subs := Tbl.put c.subs (p.fld 2 6 0) (p.fld 3 10 8, p.fld 3 7 0) }).answer (issuer fn p) .ok := by
  have provider : s.provider (issuer fn p) = true := hp
  simp [State.doSchedSet, schedFault, provider, ofAgent, agent, weight]

theorem State.doGateListLoad_good (hp : s.isProvider fn = true) (known : p.fld 2 4 0 ≤ 23) (short : p.fld 3 8 0 ≤ 256)
    (len : p.len = 8 + p.fld 3 8 0) (good : ∀ w ∈ gateWords p, bits w 23 8 ≠ 0 ∧ bits w 31 24 = 0) :
    s.doGateListLoad (issuer fn p) p = (s.setSch (p.fld 2 4 0) fun x =>
      { x with pendingList := some { entries := (gateWords p).map fun w => (bits w 7 0, bits w 23 8), base := p.addr 4 } }).answer
        (issuer fn p) .ok := by
  have provider : s.provider (issuer fn p) = true := hp
  have words : firstIdx (fun w => bits w 23 8 == 0 || bits w 31 24 != 0) (gateWords p) = none :=
    firstIdx_none fun w hw => by simp [(good w hw).1, (good w hw).2]
  simp [State.doGateListLoad, gateFault, provider, Nat.not_lt.mpr known, Nat.not_lt.mpr short, len, words]

end

/-! ### Step 5 of a boundary on a port's gates -/

section
variable {s w : State} {q : Nat}

theorem State.gateSync_list (s : State) (q : Nat) :
    ((s.gateSync q).schPort q).oper = (s.schPort q).oper ∧ ((s.gateSync q).schPort q).pendingList = (s.schPort q).pendingList := by
  unfold State.gateSync
  rw [State.schPort_setSch, if_pos rfl]
  split <;> exact ⟨rfl, rfl⟩

/-- A pending list takes over at its cycle start (R362). -/
theorem State.gateStart_switches {g : GateList} (hg : (s.schPort q).pendingList = some g) (start : g.starts s.glb.time.now = true) :
    ((s.gateStart q).schPort q).oper = g ∧ ((s.gateStart q).schPort q).pendingList = none := by
  have switched : s.gateStart q = (((s.setSch q fun x => { x with left := x.left - 1, expire := false }).setSch q fun x =>
      { x with oper := g, pendingList := none }).gateSync q) := by
    simp [State.gateStart, State.gateSwitch, hg, start]
  rw [switched, (State.gateSync_list _ q).1, (State.gateSync_list _ q).2]
  simp

/-- Where no pending list starts, the entry in force stays or gives way to the next one. -/
theorem State.gateStart_entry (hw : w = s.setSch q fun x => { x with left := x.left - 1, expire := false })
    (waits : ∀ g, (s.schPort q).pendingList = some g → g.starts s.glb.time.now = false) :
    s.gateStart q =
      if !(s.schPort q).expire || (s.schPort q).oper.entries.isEmpty || (s.schPort q).left - 1 != 0 then w
      else if (s.schPort q).resync then w.gateSync q
      else w.setSch q fun x => { x with
        entry := ((s.schPort q).entry + 1) % (s.schPort q).oper.entries.length
        left := ((s.schPort q).oper.entries.getD (((s.schPort q).entry + 1) % (s.schPort q).oper.entries.length) (0xFF, 1)).2
        gates := ((s.schPort q).oper.entries.getD (((s.schPort q).entry + 1) % (s.schPort q).oper.entries.length) (0xFF, 1)).1 } := by
  subst hw
  have notDue : (match (s.schPort q).pendingList with | some g => g.starts s.glb.time.now | none => false) = false := by
    split
    · next g hg => exact waits g hg
    · rfl
  unfold State.gateStart
  simp only [State.schPort_setSch, if_true, State.setSch_glb]
  rw [if_neg (by rw [Bool.not_eq_true]; exact notDue)]

end

/-- Settles O42: the provider's rows by their field checks, each command's operation where they pass, and `State.gateStart_entry`. -/
theorem metersWeightsAndGatesAreSet : Obligations.MetersWeightsAndGatesAreSet := by
  intro s fn p
  refine ⟨?_, ⟨meterFault_bypass, meterFault_good⟩, fun ho hp agent => ⟨fun on good => ?_, fun off => ?_⟩,
    fun ho hp => ⟨fun port known w0 w1 w2 w3 => ?_, fun ofAgent agent weight => ?_⟩, fun ho hp known short len good => ?_,
    fun q => ⟨fun hq => ?_, fun hq => ?_⟩, fun q w hw => ⟨fun g hg start => State.gateStart_switches hg start, fun waits => ⟨fun stays => ?_,
      fun e ends left synced next => ?_⟩⟩⟩
  · intro op c fault hmem hb
    simp only [List.mem_cons, Prod.mk.injEq, List.not_mem_nil, or_false] at hmem
    obtain ⟨rfl, rfl, rfl⟩ | ⟨rfl, rfl, rfl⟩ | ⟨rfl, rfl, rfl⟩ | ⟨rfl, rfl, rfl⟩ | ⟨rfl, rfl, rfl⟩ := hmem
    · exact State.row_provider hb.opcode (by decide) (begins_meterSet hb) (fun _ _ => refused_meterSet hb) (by simp [fieldFault, hb.opcode])
    · exact State.row_provider hb.opcode (by decide) (begins_schedSet hb) (fun _ _ => refused_schedSet hb) (by simp [fieldFault, hb.opcode])
    · exact State.row_provider hb.opcode (by decide) (begins_gateListLoad hb) (fun _ _ => refused_gateListLoad hb) (by simp [fieldFault, hb.opcode])
    · exact State.row_provider hb.opcode (by decide) (begins_routeSet hb) (fun _ _ => refused_routeSet hb) (by simp [fieldFault, hb.opcode])
    · exact State.row_provider hb.opcode (by decide) (begins_mcastGroupSet hb) (fun _ _ => refused_mcastGroupSet hb)
        (by simp [fieldFault, hb.opcode])
  · exact (State.applyDue_cmd ho).trans (State.doMeterSet_arms hp agent on good)
  · exact (State.applyDue_cmd ho).trans (State.doMeterSet_bypass hp agent off)
  · exact (State.applyDue_cmd ho).trans (State.doSchedSet_port hp port known
      (by simp [schedWeights_eq, Ne.symm w0, Ne.symm w1, Ne.symm w2, Ne.symm w3]))
  · exact (State.applyDue_cmd ho).trans (State.doSchedSet_agent hp ofAgent agent weight)
  · exact (State.applyDue_cmd ho).trans (State.doGateListLoad_good hp known short len good)
  · exact congrArg Host.Outcome.next (if_neg (Nat.not_le.mpr hq))
  · exact congrArg Host.Outcome.next (if_pos hq)
  · rw [State.gateStart_entry hw waits, if_pos]
    obtain h | h | h := stays
    · simp [h]
    · simp [h]
    · have more : (s.schPort q).left - 1 ≠ 0 := by omega
      simp [more]
  · have entries : (s.schPort q).oper.entries ≠ [] := by
      intro none_
      simp [none_] at next
    rw [State.gateStart_entry hw waits, if_neg (by simp [ends, entries]; omega), if_neg (by simp [synced]), hw]
    refine State.setSch_congr ?_
    simp [List.getD_eq_getElem?_getD, next]

end Sys2Proof.Machine
end

section
/-! PROOFS. Routes, groups, table owners, telemetry and the start of packets (R298 to R316, R110, R283, R356). -/

namespace Sys2Proof.Machine

/-! ### Lists -/

/-- What one step of a fold establishes, and every step keeps, holds at the end. -/
theorem foldl_reaches {α β : Type} {f : β → α → β} {I P : β → Prop} (inv : ∀ u a, I u → I (f u a)) {l : List α}
    (keeps : ∀ u, ∀ b ∈ l, I u → P u → P (f u b)) {a : α} (ha : a ∈ l) (hit : ∀ u, I u → P (f u a)) {u : β} (hu : I u) : P (l.foldl f u) := by
  have kept : ∀ (r : List α), (∀ b ∈ r, b ∈ l) → ∀ u : β, I u → P u → P (r.foldl f u) := by
    intro r
    induction r with
    | nil => exact fun _ _ _ hp => hp
    | cons b r ih =>
      exact fun sub u hi hp => ih (fun c hc => sub c (List.mem_cons_of_mem _ hc)) _ (inv u b hi) (keeps u b (sub b List.mem_cons_self) hi hp)
  obtain ⟨before, after, rfl⟩ := List.append_of_mem ha
  rw [List.foldl_append, List.foldl_cons]
  have reached : I (before.foldl f u) := List.foldlRecOn before f hu fun u hi b _ => inv u b hi
  exact kept after (fun b hb => by simp [hb]) _ (inv _ a reached) (hit _ reached)

theorem find?_range_eq {f : Nat → Bool} {n k : Nat} (hk : k < n) (before : ∀ j, j < k → f j = false) (at_ : f k = true) :
    (List.range n).find? f = some k := by
  rw [List.find?_range_eq_some]
  exact ⟨at_, List.mem_range.mpr hk, fun j hj => by simp [before j hj]⟩

theorem find?_range_none {f : Nat → Bool} {n : Nat} (h : ∀ j, j < n → f j = false) : (List.range n).find? f = none :=
  List.find?_eq_none.mpr fun j hj => by simp [h j (List.mem_range.mp hj)]

/-! ### ROUTE_SET and MCAST_GROUP_SET -/

section
variable {s : State} {fn : Nat} {p : Packet}

theorem State.doRouteSet_good (hp : s.isProvider fn = true) (some_ : 0 < p.fld 2 7 0) (small : p.fld 2 7 0 ≤ 127) (ports : p.fld 3 23 0 < 65536)
    (pref : p.fld 4 4 0 = 31 ∨ bit (p.fld 3 23 0) (p.fld 4 4 0) = true) :
    s.doRouteSet (issuer fn p) p = if s.hostAgent (p.fld 2 7 0) then s.answer (issuer fn p) .malformed 2
      else (s.putRoute (p.fld 2 7 0) (p.fld 3 23 0) (p.fld 4 4 0)).answer (issuer fn p) .ok := by
  have provider : s.provider (issuer fn p) = true := hp
  have fields : routeFault p = none := by
    have high : p.fld 3 23 0 / 65536 = 0 := Nat.div_eq_of_lt ports
    unfold routeFault
    rw [if_neg (by simp; omega), if_neg (by simp [high]), if_neg (by simpa [Decidable.or_iff_not_imp_left] using pref)]
  simp [State.doRouteSet, provider, fields, State.malformed]

/-- A route replaced, and the agent's meter moved where its home hub changes (R346). -/
def State.routed (s : State) (a ports pref : Nat) : State :=
  let t := s.setRoute a fun r => { r with ports := ports, pref := pref }
  if s.homeHub a != t.homeHub a then t.setMeter a fun m => { m with home := t.homeHub a, tc := 0, tp := 0 } else t

theorem State.putRoute_eq (s : State) (a ports pref : Nat) : s.putRoute a ports pref = (s.routed a ports pref).agentLink a := rfl

theorem State.routed_route (s : State) (a ports pref k : Nat) :
    (s.routed a ports pref).route k = if k = a then { s.route a with ports := ports, pref := pref } else s.route k := by
  unfold State.routed
  dsimp only
  split <;> exact State.route_setRoute ..

theorem State.routed_meter_self (s : State) (a ports pref : Nat) : (s.routed a ports pref).meter a = s.meter a ∨
    ((s.routed a ports pref).meter a).tc = 0 ∧ ((s.routed a ports pref).meter a).tp = 0 := by
  unfold State.routed
  dsimp only
  split
  · exact .inr (by simp [State.meter, State.setMeter])
  · exact .inl rfl

theorem State.routed_meter_ne (s : State) {a ports pref k : Nat} (hk : k ≠ a) : (s.routed a ports pref).meter k = s.meter k := by
  unfold State.routed
  dsimp only
  split
  · simp [State.meter, State.setMeter, hk]
  · rfl

theorem State.routed_mem (s : State) (a ports pref : Nat) : (s.routed a ports pref).mem = s.mem ∧ (s.routed a ports pref).dir = s.dir := by
  unfold State.routed
  dsimp only
  split <;> exact ⟨rfl, rfl⟩

/-- Is member `k` of a group one that may not be named there (R306)? -/
def State.badMember (s : State) (p : Packet) (k : Nat) : Bool :=
  if bit (p.fld 3 23 0) k then (mcastMembers p).getD k 0 == 0 || 127 < (mcastMembers p).getD k 0 ||
    !bit (s.route ((mcastMembers p).getD k 0)).ports k
  else (mcastMembers p).getD k 0 != 0

/-- The group that a packet of MCAST_GROUP_SET gives. -/
def mcastGroup (p : Packet) : Group := { owner := p.fld 3 29 24, mask := p.fld 3 23 0, members := mcastMembers p }

theorem State.doMcastGroupSet_eq (hp : s.isProvider fn = true) :
    s.doMcastGroupSet (issuer fn p) p =
      match (List.range 16).find? (s.badMember p) with
      | some k => s.answer (issuer fn p) .malformed (4 + k / 4)
      | none => (s.onTrt fun t => { t with groups := Tbl.put t.groups (p.fld 2 7 0) (mcastGroup p) }).answer (issuer fn p) .ok := by
  exact if_neg (by simp [show s.provider (issuer fn p) = true from hp])

end

/-! ### Peaks -/

/-- A VC's peak set to its depth now (R313). -/
def State.peakSet (s : State) (p v : Nat) : State :=
  s.onTrt fun t => { t with peaks := Tbl.put t.peaks (4 * p + v) (satAt 65535 (s.qdepth p v)) }

theorem satAt_eq_min (top n : Nat) : satAt top n = min top n := by
  unfold satAt
  split <;> omega

/-- What clearing peaks leaves alone. -/
def State.PeaksOnly (s u : State) : Prop := u.sch = s.sch ∧ u.tlk = s.tlk ∧ u.trt.routes = s.trt.routes

theorem State.PeaksOnly.peakSet {s u : State} (h : s.PeaksOnly u) (p v : Nat) : s.PeaksOnly (u.peakSet p v) := h

theorem State.PeaksOnly.qdepth {s u : State} (h : s.PeaksOnly u) (p v : Nat) : u.qdepth p v = s.qdepth p v := by
  simp [State.qdepth, State.schPort, h.1]

theorem State.peakClear_only (s : State) (ports : Nat) : s.PeaksOnly (s.peakClear ports) :=
  List.foldlRecOn _ _ (show s.PeaksOnly s from ⟨rfl, rfl, rfl⟩) fun _ h p _ => List.foldlRecOn _ _ h fun _ h v _ => h.peakSet p v

theorem State.peakClear_peak (s : State) {ports q v : Nat} (hq : q < 24) (hv : v < 4) (named : bit ports q = true) :
    Tbl.find (s.peakClear ports).trt.peaks (4 * q + v) = some (min 65535 (s.qdepth q v)) := by
  have keeps : ∀ (p' : Nat) (u : State), ∀ v' ∈ List.range 4, s.PeaksOnly u →
      Tbl.find u.trt.peaks (4 * q + v) = some (min 65535 (s.qdepth q v)) →
      Tbl.find (u.peakSet p' v').trt.peaks (4 * q + v) = some (min 65535 (s.qdepth q v)) := by
    intro p' u v' hv' only found
    have small := List.mem_range.mp hv'
    by_cases same : 4 * q + v = 4 * p' + v'
    · obtain ⟨rfl, rfl⟩ : q = p' ∧ v = v' := by omega
      simp [State.peakSet, only.qdepth, satAt_eq_min]
    · simp [State.peakSet, same, found]
  unfold State.peakClear
  refine foldl_reaches (I := s.PeaksOnly) (a := q) (P := fun u => Tbl.find u.trt.peaks (4 * q + v) = some (min 65535 (s.qdepth q v)))
    (fun u p' h => List.foldlRecOn _ _ h fun _ h v' _ => h.peakSet p' v')
    (fun u p' _ only found => ?_) ?_ (fun u only => ?_) ⟨rfl, rfl, rfl⟩
  · have both := List.foldlRecOn (motive := fun w => s.PeaksOnly w ∧ Tbl.find w.trt.peaks (4 * q + v) = some (min 65535 (s.qdepth q v)))
      (List.range 4) (fun w v' => w.peakSet p' v') ⟨only, found⟩ fun w hw v' hv' => ⟨hw.1.peakSet p' v', keeps p' w v' hv' hw.1 hw.2⟩
    exact both.2
  · simp [maskBits, hq, named]
  · refine foldl_reaches (I := s.PeaksOnly) (a := v) (P := fun u => Tbl.find u.trt.peaks (4 * q + v) = some (min 65535 (s.qdepth q v)))
      (fun w v' h => h.peakSet q v') (keeps q) (List.mem_range.mpr hv) (fun w h => ?_) only
    simp [State.peakSet, h.qdepth, satAt_eq_min]

/-! ### The start of a packet -/

section
variable {s : State} {q l : Nat}

@[simp] theorem State.setKeys_port (s : State) (p q : Nat) (f : LinkKeys → LinkKeys) : (s.setKeys p f).port q = s.port q := rfl

/-- A new packet as a port holds it (R280): under its next number, and formed into flits. -/
def State.asHeld (s : State) (q : Nat) (k : Pkt) : HeldPkt :=
  { seq := (s.port q).next, keysel := (s.linkKeys q).sel, p := k
    wire := k.wire (s.port q).next (s.linkKeys q).sel (if (s.port q).enc then some (s.linkKeys q).tx else none) }

/-- A new packet on a Trellis port takes the port's next number, is held, and leaves as its flits. -/
theorem State.transmit_sends (s : State) (q : Nat) (k : Pkt) :
    (∀ x, (s.transmit q k).port x =
      if x = q then { s.port q with next := ((s.port q).next + 1) % 4096, held := (s.port q).held ++ [s.asHeld q k] } else s.port x) ∧
      (s.transmit q k).out = .packet q (s.asHeld q k).seq (s.asHeld q k).keysel k (s.asHeld q k).wire :: s.out ∧
      (s.transmit q k).sch = s.sch := by
  unfold State.transmit
  dsimp only
  generalize hk : (if (s.port q).enc then _ else _ : State) = t
  have keyed : (∀ x, t.port x =
      if x = q then { s.port q with next := ((s.port q).next + 1) % 4096, held := (s.port q).held ++ [s.asHeld q k] } else s.port x) ∧
      t.out = s.out ∧ t.sch = s.sch := by
    subst hk
    cases enc : (s.port q).enc <;> refine ⟨fun x => ?_, rfl, rfl⟩ <;> simp [State.asHeld, enc]
  obtain ⟨port, out, sch⟩ := keyed
  exact ⟨fun x => (State.port_congr (by simp) x).trans (port x), by simp [out, State.asHeld], by simp [sch]⟩

/-- A replayed packet starts ahead of any new one, as it was sent (R283). -/
theorem State.packetStart_replay {n : Nat} {h : HeldPkt} (hq : q < 16) (up : s.portUp q = true) (replay : (s.port q).replay = some n)
    (held : (s.port q).held.find? (fun h => h.seq == n) = some h) (free : s.vcHeld q h.p.vc = false) :
    s.packetStart q l = (s.setPort q fun x =>
      { x with replay := if (h.seq + 1) % 4096 == x.next then none else some ((h.seq + 1) % 4096) }).emit (.packet q h.seq h.keysel h.p h.wire) := by
  simp [State.packetStart, hq, up, replay, held, free]

theorem State.packetStart_new {k : Pkt} {sq : SchPort} (hq : q < 16) (up : s.portUp q = true) (fresh : (s.port q).replay = none)
    (chosen : s.choose q 0 = some (k, sq)) (room : s.canSend q k = true) (body : ∀ r, k.body ≠ .dmsg r) :
    s.packetStart q l = (s.setSch q fun _ => sq).transmit q k := by
  have row : s.packetStart q l = s.startNew q 0 := by simp [State.packetStart, hq, up, fresh]
  rw [row]
  unfold State.startNew
  simp only [chosen, hq, if_true, room, Bool.not_true, Bool.false_eq_true, if_false]

/-- On a host link that is up the chosen TLP leaves (R355). -/
theorem State.packetStart_host {k : Pkt} {sq : SchPort} {tlp : HostTlp} (low : 16 ≤ q) (high : q < 24)
    (up : (s.link (4 * (q - 16) + l)).state = .up) (chosen : s.choose q l = some (k, sq)) (body : k.body = .tlp tlp) :
    ∃ t : State, s.packetStart q l = t ∧ t.schPort q = sq ∧ t.out = .tlp tlp (s.tdiStream tlp.fn) :: s.out ∧ t.mem = s.mem := by
  refine ⟨_, rfl, ?_⟩
  have row : s.packetStart q l = ((s.setSch q fun _ => sq).countTx q k.vc k.flits k.tlps).emit
      (.tlp tlp (((s.setSch q fun _ => sq).countTx q k.vc k.flits k.tlps).tdiStream tlp.fn)) := by
    simp [State.packetStart, Nat.not_lt.mpr low, high, up, State.startNew, chosen, body]
  have stream : ((s.setSch q fun _ => sq).countTx q k.vc k.flits k.tlps).tdiStream tlp.fn = s.tdiStream tlp.fn := by
    simp [State.tdiStream, State.func, State.func?, State.link]
  rw [row, stream]
  refine ⟨?_, by simp, by simp⟩
  simp [State.schPort]

end

/-- Settles O43: each command's checks in their order, `State.routed`, the folds of `State.peakClear`, and what `State.packetStart` sends. -/
theorem routesTelemetryAndPackets : Obligations.RoutesTelemetryAndPackets := by
  intro s fn p a
  refine ⟨?_, ?_, fun owner f may => ⟨fun ha => ?_, fun _ _ known => ?_, fun _ _ unknown => ?_, ?_, ?_, ?_⟩, fun q l hq up =>
    ⟨fun h n replay held free => congrArg Host.Outcome.next (State.packetStart_replay hq up replay held free), ?_⟩, ?_⟩
  · rintro ho hp rfl some_ small ports pref
    have row := (State.applyDue_cmd ho).trans (State.doRouteSet_good hp some_ small ports pref)
    refine ⟨fun host => row.trans (if_pos host), fun other => ⟨s.routed (p.fld 2 7 0) (p.fld 3 23 0) (p.fld 4 4 0),
      row.trans (if_neg (by simp [other])), ?_, ?_, fun k hk => ?_, fun k hk => State.routed_meter_ne s hk, State.routed_meter_self ..,
      (State.routed_mem ..).1, (State.routed_mem ..).2⟩⟩ <;> rw [State.routed_route]
    · rw [if_pos rfl]
    · rw [if_pos rfl]
    · rw [if_neg hk]
  · rintro g ho hp rfl
    have row := (State.applyDue_cmd ho).trans (State.doMcastGroupSet_eq hp)
    refine ⟨fun good => row.trans ?_, fun k hk before named unrouted => row.trans ?_⟩
    · rw [find?_range_none fun k hk => ?_]
      · rfl
      · cases named : bit (p.fld 3 23 0) k with
        | true =>
          obtain ⟨some_, small, routed⟩ := (good k hk).1 named
          simp only [State.badMember, named, if_true, routed, Bool.not_true, Bool.or_false, Bool.or_eq_false_iff, beq_eq_false_iff_ne,
            decide_eq_false_iff_not]
          omega
        | false =>
          simp only [State.badMember, named, Bool.false_eq_true, if_false, (good k hk).2 named]
          rfl
    · have good : ∀ i, i < k → s.badMember p i = false := fun i hi => by
        simp only [State.badMember, before i hi, Bool.false_eq_true, if_false]
        rfl
      have bad : s.badMember p k = true := by
        simp only [State.badMember, named, if_true, unrouted, Bool.not_false, Bool.or_true]
      rw [find?_range_eq hk good bad]
  · refine ⟨s.onXlt fun x => { x with ownerField := Tbl.put x.ownerField a (owner % 256) }, congrArg Host.Outcome.next ?_, rfl, rfl⟩
    simp [may, State.ownerWrite, Nat.not_le.mpr ha]
  · exact if_pos known
  · exact if_neg (by rw [Bool.not_eq_true]; exact unknown)
  · exact congrArg Host.Outcome.next (if_pos may)
  · exact congrArg Host.Outcome.next (if_pos may)
  · refine ⟨_, congrArg Host.Outcome.next (if_pos may), State.port_congr (s.peakClear_only owner).2.1, fun q v hq hv named =>
      s.peakClear_peak hq hv named, (s.peakClear_only owner).2.2⟩
  · intro k sq w fresh chosen room body hw
    obtain ⟨port, out, sch⟩ := (s.setSch q fun _ => sq).transmit_sends q k
    subst hw
    refine ⟨_, congrArg Host.Outcome.next (State.packetStart_new hq up fresh chosen room body), ?_, ?_, ?_, out, fun x hx => ?_⟩
    · simp [State.schPort, sch]
    · rw [port, if_pos rfl]
      rfl
    · rw [port, if_pos rfl]
      rfl
    · rw [port, if_neg hx]
      rfl
  · intro q l k sq tlp low high up chosen body
    obtain ⟨t, row, facts⟩ := State.packetStart_host low high up chosen body
    exact ⟨t, congrArg Host.Outcome.next row, facts⟩

end Sys2Proof.Machine
end

section
/-! PROOFS. Tenants (R405, R412 to R414): their creation, their update, their removal, and the scrubs that end it. -/

namespace Sys2Proof.Machine

/-! ### A part that a fold leaves alone -/

/-- What every step of a fold leaves alone, the fold leaves alone. -/
theorem foldl_same {α β γ : Type} (g : β → γ) {f : β → α → β} (h : ∀ u a, g (f u a) = g u) (l : List α) (u : β) : g (l.foldl f u) = g u := by
  induction l generalizing u with
  | nil => rfl
  | cons a r ih => exact (ih _).trans (h u a)

/-! ### TENANT_CREATE -/

theorem State.tenantOf_other {s : State} {a : Nat} (h : s.hostAgent a = false) : s.tenantOf a = Tbl.getD s.sec.agentTenant a 0 := by
  have none_ : s.fnsOf a = [] := by simpa [State.hostAgent] using h
  simp [State.tenantOf, none_]

theorem State.emptyTables_frame_self (s : State) (a : Nat) : Frame 32776 s (s.emptyTables a) := State.emptyTables_frame rfl (Frame.refl 32776 s)

/-- An agent given to a tenant, its tables emptied (Table 14.5). -/
def State.giveAgent (s : State) (t a : Nat) : State :=
  (s.onSec fun c => { c with agentTenant := Tbl.put c.agentTenant a t }).emptyTables a

section
variable (s : State) (t a : Nat)

theorem State.giveAgent_sec : (s.giveAgent t a).sec = { s.sec with agentTenant := Tbl.put s.sec.agentTenant a t } :=
  (State.emptyTables_frame_self _ a).same .sec rfl

theorem State.giveAgent_pci : (s.giveAgent t a).pci = s.pci := (State.emptyTables_frame_self _ a).same .pci rfl
theorem State.giveAgent_mem : (s.giveAgent t a).mem = s.mem := (State.emptyTables_frame_self _ a).same .mem rfl
theorem State.giveAgent_rgn : (s.giveAgent t a).rgn = s.rgn := (State.emptyTables_frame_self _ a).same .rgn rfl
theorem State.giveAgent_tenant (k : Nat) : (s.giveAgent t a).tenant k = s.tenant k := by simp [State.tenant, State.giveAgent_sec]

end

/-- The agents that are not yet the tenant's given to it. -/
def State.giveAgents (s : State) (t : Nat) (as_ : List Nat) : State := (as_.filter fun a => s.tenantOf a != t).foldl (fun s a => s.giveAgent t a) s

section
variable (s : State) (t : Nat) (as_ : List Nat)

theorem State.giveAgents_pci : (s.giveAgents t as_).pci = s.pci := foldl_same State.pci (fun u a => u.giveAgent_pci t a) _ s
theorem State.giveAgents_mem : (s.giveAgents t as_).mem = s.mem := foldl_same State.mem (fun u a => u.giveAgent_mem t a) _ s
theorem State.giveAgents_rgn : (s.giveAgents t as_).rgn = s.rgn := foldl_same State.rgn (fun u a => u.giveAgent_rgn t a) _ s
theorem State.giveAgents_tenant (k : Nat) : (s.giveAgents t as_).tenant k = s.tenant k :=
  foldl_same (fun u => State.tenant u k) (fun u a => u.giveAgent_tenant t a k) _ s

theorem State.tenantOf_congr {s u : State} (hp : u.pci = s.pci) (hs : u.sec = s.sec) (a : Nat) : u.tenantOf a = s.tenantOf a := by
  cases s; cases u; cases hp; cases hs; rfl

/-- Every agent named is the tenant's afterwards. -/
theorem State.giveAgents_tenantOf {s : State} {t a : Nat} {as_ : List Nat} (ha : a ∈ as_) (other : s.hostAgent a = false) :
    (s.giveAgents t as_).tenantOf a = t := by
  have hosts : (s.giveAgents t as_).hostAgent a = false := by
    simpa [State.hostAgent, State.fnsOf, State.giveAgents_pci] using other
  rw [State.tenantOf_other hosts]
  have keeps : ∀ (u : State) (b : Nat), Tbl.getD u.sec.agentTenant a 0 = t → Tbl.getD (u.giveAgent t b).sec.agentTenant a 0 = t := by
    intro u b h
    rw [State.giveAgent_sec, Tbl.getD_put]
    split
    · rfl
    · exact h
  by_cases mine : s.tenantOf a = t
  · rw [State.tenantOf_other other] at mine
    exact List.foldlRecOn (motive := fun u => Tbl.getD u.sec.agentTenant a 0 = t) _ _ mine fun u h b _ => keeps u b h
  · have listed : a ∈ as_.filter fun a => s.tenantOf a != t := List.mem_filter.mpr ⟨ha, bne_iff_ne.mpr mine⟩
    refine foldl_reaches (I := fun _ => True) (P := fun u => Tbl.getD u.sec.agentTenant a 0 = t) (fun _ _ _ => trivial) (fun u b _ _ h => keeps u b h)
      listed (fun u _ => ?_) trivial
    rw [State.giveAgent_sec, Tbl.getD_put, if_pos rfl]

end

/-- A tenant's slot written and its agents given to it. -/
theorem State.given {s b : State} {t : Nat} {as_ : List Nat} (pci : b.pci = s.pci) (hosts : ∀ a ∈ as_, s.hostAgent a = false) :
    (b.giveAgents t as_).change.tenant t = b.tenant t ∧ (∀ a ∈ as_, (b.giveAgents t as_).change.tenantOf a = t) ∧
      (b.giveAgents t as_).change.mem = b.mem ∧ (b.giveAgents t as_).change.rgn = b.rgn := by
  refine ⟨?_, fun a ha => ?_, (State.change_mem _).trans (State.giveAgents_mem ..), (State.change_rgn _).trans (State.giveAgents_rgn ..)⟩
  · rw [← State.giveAgents_tenant b t as_ t, State.tenant, State.change_sec]
    rfl
  · have other : b.hostAgent a = false := by simpa [State.hostAgent, State.fnsOf, pci] using hosts a ha
    exact (State.tenantOf_congr (State.change_pci _) (State.change_sec _) a).trans (State.giveAgents_tenantOf ha other)

/-- May these agents become a tenant's (Table 14.5, orders 4 to 6)? -/
def State.mayGive (s : State) (t : Nat) (as_ : List Nat) : Prop :=
  ∀ a ∈ as_, a ≠ 0 ∧ s.hostAgent a = false ∧ (s.tenantOf a = t ∨ s.tenantOf a = 0 ∧ s.agentFree a = true)

section
variable {s : State} {fn : Nat} {p : Packet}

/-- TENANT_CREATE with what it may ask for: a new tenant in an EMPTY slot, or the update of a live one, and then its agents. -/
theorem State.doTenantCreate_good (hp : s.isProvider fn = true) (ht : p.fld 2 5 0 ≠ 0)
    (slot : bit p.flags 0 = false ∧ (s.tenant (p.fld 2 5 0)).state = .empty ∨
      bit p.flags 0 = true ∧ ((s.tenant (p.fld 2 5 0)).state = .active ∨ (s.tenant (p.fld 2 5 0)).state = .rotating))
    (agents : s.mayGive (p.fld 2 5 0) (maskBits 128 (mask128 p 5))) :
    s.doTenantCreate (issuer fn p) p =
      (((if bit p.flags 0 then s.setTenant (p.fld 2 5 0) fun x => { x with quota := p.fld 3 19 0 }
        else s.drawKey.2.setTenant (p.fld 2 5 0) fun x =>
          { state := .active, gen := (x.gen + 1) % 256, genAt := s.tick, quota := p.fld 3 19 0, key := s.drawKey.1 }).giveAgents
            (p.fld 2 5 0) (maskBits 128 (mask128 p 5))).change).answer (issuer fn p) .ok := by
  have provider : s.provider (issuer fn p) = true := hp
  have noHost : ((maskBits 128 (mask128 p 5)).any fun a => a == 0 || s.hostAgent a) = false :=
    List.any_eq_false.mpr fun a ha => by simp [(agents a ha).1, (agents a ha).2.1]
  have noOther : ((maskBits 128 (mask128 p 5)).any fun a => s.tenantOf a != 0 && s.tenantOf a != p.fld 2 5 0) = false :=
    List.any_eq_false.mpr fun a ha => by
      obtain ⟨-, -, h | ⟨h, -⟩⟩ := agents a ha <;> simp [h]
  have noBusy : ((maskBits 128 (mask128 p 5)).any fun a => s.tenantOf a == 0 && !s.agentFree a) = false :=
    List.any_eq_false.mpr fun a ha => by
      obtain ⟨-, -, h | ⟨h, free⟩⟩ := agents a ha
      · simp [h, ht]
      · simp [free]
  have notBusy : (!bit p.flags 0 && (s.tenant (p.fld 2 5 0)).state != .empty) = false := by
    obtain ⟨h, e⟩ | ⟨h, e⟩ := slot <;> simp [h, e]
  have live : (bit p.flags 0 && !((s.tenant (p.fld 2 5 0)).state == .active || (s.tenant (p.fld 2 5 0)).state == .rotating)) = false := by
    obtain ⟨h, e⟩ | ⟨h, e | e⟩ := slot <;> simp [h, e]
  unfold State.doTenantCreate
  dsimp only
  rw [if_neg (by simp [provider]), if_neg (by simpa using ht), if_neg (ne_true_of_eq_false notBusy), if_neg (ne_true_of_eq_false live),
    if_neg (ne_true_of_eq_false noHost), if_neg (ne_true_of_eq_false noOther), if_neg (ne_true_of_eq_false noBusy)]
  rfl

end

/-! ### TENANT_REMOVE -/

/-- Ending a removed tenant's region changes of SEC its binder alone. -/
theorem State.cutRegion_tenants (s : State) (rid : Nat) : (s.cutRegion rid).sec.tenants = s.sec.tenants := by
  unfold State.cutRegion
  extract_lets g s1 s2 s3 s4 s5 s6
  have h1 : s1.sec = s.sec := (State.stopRack_frame rfl (Frame.refl 2156862 s)).same .sec rfl
  have h2 : s2.sec = s1.sec := by
    unfold s2
    split
    · exact (State.closeCmd_frame rfl (Frame.refl 256 _)).same .sec rfl
    · rfl
  have h3 : s3.sec = s2.sec := (State.stopData_frame rfl (Frame.refl 2124564 s2)).same .sec rfl
  have h4 : s4.sec = s3.sec := foldl_same State.sec (fun u i => (State.scrubPend_frame rfl (Frame.refl 2158356 u)).same .sec rfl) _ s3
  have h5 : s5.sec = s4.sec := foldl_same State.sec (fun u x => (State.dropScrub_frame rfl (Frame.refl 18 u)).same .sec rfl) _ s4
  have h6 : s6.sec.tenants = s5.sec.tenants := rfl
  simp [h1, h2, h3, h4, h5, h6]

theorem State.removeStart_drains (s : State) (t : Nat) (i : Issuer) : ∃ r : Removal, ((s.removeStart t i).tenant t).state = .draining ∧
    Tbl.find (s.removeStart t i).sec.removals t = some r ∧ r.step = 3 ∧ r.by_ = some i ∧ r.agents = s.agentsOf t := by
  unfold State.removeStart
  extract_lets agents fns rids units cmds s1 s2 s3 s4 ms s5 s6 s7 s8 r
  have h2 : (s2.tenant t).state = .draining := by simp [s2, State.tenant, State.setTenant]
  have h3 : s3.sec = s2.sec := by
    refine foldl_same State.sec (fun u a => ?_) _ s2
    rfl
  have h4 : s4.sec = s3.sec := (State.stopJobs_frame rfl (Frame.refl 2156860 s3)).same .sec rfl
  have h5 : s5.sec = s4.sec := by
    refine foldl_same State.sec (fun u m => ?_) _ s4
    exact (State.stopJobs_frame rfl (Frame.refl 2156860 u)).same .sec rfl
  have h6 : s6.sec = s5.sec := rfl
  have h7 : s7.sec.tenants = s6.sec.tenants := foldl_same (fun u => u.sec.tenants) (fun u r => u.cutRegion_tenants r) _ s6
  have h8 : s8.sec = s7.sec := by
    refine foldl_same State.sec (fun u a => ?_) _ s7
    dsimp only
    refine ((State.clearAgent_frame rfl (Frame.refl 10547031 _)).same .sec rfl).trans ?_
    exact foldl_same State.sec (fun v r => (State.detach_frame rfl (Frame.refl 10547031 v)).same .sec rfl) _ u
  refine ⟨r, ?_, by simp, rfl, rfl, rfl⟩
  have same : s8.sec.tenants = s2.sec.tenants := by rw [h8, h7, h6, h5, h4, h3]
  simpa [State.tenant, same] using h2

/-! ### The scrubs that end a removal -/

theorem State.pageFreed_dir (s : State) (i : Nat) : (s.pageFreed i).dir = (s.setEntry i fun e => { gen := e.gen }).dir := by
  unfold State.pageFreed
  dsimp only
  split <;> rfl

theorem State.pageFreed_entry (s : State) (i k : Nat) : (s.pageFreed i).entry k = if k = i then { gen := (s.entry i).gen } else s.entry k := by
  rw [State.entry, State.pageFreed_dir]
  exact State.entry_setEntry ..

theorem State.pageFreed_mem (s : State) (i : Nat) : (s.pageFreed i).mem = s.mem := by
  unfold State.pageFreed
  dsimp only
  split <;> rfl

theorem State.pageScrubDone_done {s : State} {i : Nat} (st : (s.entry i).state = .scrubPending) (done : s.actDone (.pageScrub i) = true) :
    s.pageScrubDone i = ((s.dropAct (.pageScrub i)).pageFreed i).change := by
  simp [State.pageScrubDone, st, done]

theorem State.providers_congr {s u : State} (h : u.pci = s.pci) : u.providers = s.providers := by
  cases s; cases u; cases h; rfl

/-- The end of a removal once its last page and its last region are scrubbed (R413). -/
theorem State.tenantScrubDone_ends {s : State} {t : Nat} {r : Removal} (hr : Tbl.find s.sec.removals t = some r) (step : r.step = 9)
    (pages : s.scrubPages t = []) (scrubs : ∀ rid ∈ s.regionsOf t, ∀ x ∈ s.scrubsOf rid fun w => w == .destroy, s.actDone (.scrub x.1) = true) :
    ∃ u : State, s.tenantScrubDone t = u.event s.providers 0x0031 (leBytes 1 t) ∧ (u.tenant t).state = .empty ∧ u.mem = s.mem := by
  have all : (((s.regionsOf t).flatMap fun rid => s.scrubsOf rid fun w => w == .destroy).all fun x => s.actDone (.scrub x.1)) = true := by
    simpa [List.all_eq_true] using scrubs
  unfold State.tenantScrubDone
  simp only [hr, step, pages, all, bne_self_eq_false, List.isEmpty_nil, Bool.not_true, Bool.or_self, Bool.false_eq_true, if_false]
  generalize hv : List.foldl (fun s (x : Nat × Scrub) => State.dropScrub s x.1) _ _ = v
  generalize hu : List.foldl (fun s rid => State.freeRegion s rid) _ _ = u
  have dropped : v.mem = s.mem ∧ v.pci = s.pci := by
    subst hv
    exact ⟨foldl_same State.mem (fun w x => (State.dropScrub_frame rfl (Frame.refl 18 w)).same .mem rfl) _ s,
      foldl_same State.pci (fun w x => (State.dropScrub_frame rfl (Frame.refl 18 w)).same .pci rfl) _ s⟩
  have freed : u.mem = v.mem ∧ u.pci = v.pci := by
    subst hu
    exact ⟨foldl_same State.mem (fun w x => (State.freeRegion_frame rfl (Frame.refl 32902 w)).same .mem rfl) _ v,
      foldl_same State.pci (fun w x => (State.freeRegion_frame rfl (Frame.refl 32902 w)).same .pci rfl) _ v⟩
  generalize hw : State.onSec (State.setTenant u t _) _ = w
  have ended : (w.tenant t).state = .empty ∧ w.mem = s.mem ∧ w.pci = s.pci := by
    subst hw
    exact ⟨by simp [State.tenant, State.setTenant], freed.1.trans dropped.1, freed.2.trans dropped.2⟩
  obtain ⟨empty, mem, pci⟩ := ended
  rw [State.providers_congr pci]
  exact ⟨_, rfl, by simpa [State.tenant] using empty, by simp [mem]⟩

/-- Settles O44: `State.doTenantCreate_good`, `State.removeStart_drains`, and what the scrubs of a removed tenant leave. -/
theorem tenantsComeAndGo : Obligations.TenantsComeAndGo := by
  intro s fn p t
  refine ⟨?_, ?_, ?_, fun page st done => ?_, fun r hr step pages scrubs => ?_⟩
  · intro op c hmem hb
    simp only [List.mem_cons, Prod.mk.injEq, List.not_mem_nil, or_false] at hmem
    have rows : ∀ fault, fieldFault p = fault → (s.isProvider fn = false → exec c s = .next (s.begun.answer (issuer fn p) .deniedRights)) ∧
        (∀ d, s.isProvider fn = true → fault = some d → exec c s = .next (s.begun.answer (issuer fn p) .malformed d)) ∧
        (s.isProvider fn = true → fault = none → exec c s = .next (s.begun.later (.cmd fn p))) := by
      obtain ⟨rfl, rfl⟩ | ⟨rfl, rfl⟩ := hmem
      · exact fun fault => State.row_provider hb.opcode (by decide) (begins_tenantCreate hb) (fun _ _ => refused_tenantCreate hb)
      · exact fun fault => State.row_provider hb.opcode (by decide) (begins_tenantRemove hb) (fun _ _ => refused_tenantRemove hb)
    have fields : fieldFault p = if p.fld 2 5 0 == 0 then some 2 else none := by
      obtain ⟨rfl, rfl⟩ | ⟨rfl, rfl⟩ := hmem <;> simp [fieldFault, hb.opcode]
    obtain ⟨denied, malformed, begins⟩ := rows _ fields
    exact ⟨denied, fun hp zero => malformed 2 hp (by simp [zero]), fun hp some_ => begins hp (by simp [some_])⟩
  · rintro ho hp rfl ht
    have provider : s.provider (issuer fn p) = true := hp
    refine ⟨fun fresh used => (State.applyDue_cmd ho).trans ?_, fun up idle rot => (State.applyDue_cmd ho).trans ?_, fun agents => ⟨fun fresh empty => ?_,
      fun up live => ?_⟩⟩
    · simp [State.lutikOp, State.doTenantCreate, provider, ht, fresh, used, State.busy]
    · simp [State.lutikOp, State.doTenantCreate, provider, ht, up, idle, rot, State.malformed]
    · have row := State.doTenantCreate_good hp ht (.inl ⟨fresh, empty⟩) agents
      rw [if_neg (ne_true_of_eq_false fresh)] at row
      obtain ⟨tenant, given, mem, rgn⟩ := State.given (s := s) (b := s.drawKey.2.setTenant (p.fld 2 5 0) fun x =>
        { state := .active, gen := (x.gen + 1) % 256, genAt := s.tick, quota := p.fld 3 19 0, key := s.drawKey.1 }) (t := p.fld 2 5 0) rfl
        fun a ha => (agents a ha).2.1
      refine ⟨_, s.drawKey.1, (State.applyDue_cmd ho).trans row, tenant.trans ?_, rfl, given, mem, rgn⟩
      simp [State.tenant, State.setTenant, State.drawKey, State.draw]
    · have row := State.doTenantCreate_good hp ht (.inr ⟨up, live⟩) agents
      rw [if_pos up] at row
      obtain ⟨tenant, given, mem, rgn⟩ := State.given (s := s) (b := s.setTenant (p.fld 2 5 0) fun x => { x with quota := p.fld 3 19 0 })
        (t := p.fld 2 5 0) rfl fun a ha => (agents a ha).2.1
      refine ⟨_, (State.applyDue_cmd ho).trans row, tenant.trans ?_, given, mem, rgn⟩
      simp [State.tenant, State.setTenant]
  · rintro ho hp rfl ht
    have provider : s.provider (issuer fn p) = true := hp
    refine ⟨fun gone => (State.applyDue_cmd ho).trans ?_, fun drains => (State.applyDue_cmd ho).trans ?_, fun live => ?_⟩
    · obtain h | h := gone <;> simp [State.lutikOp, State.doTenantRemove, provider, h, State.malformed]
    · simp [State.lutikOp, State.doTenantRemove, provider, ht, drains, State.busy]
    · have row : s.applyDue (.cmd fn p) = s.removeStart (p.fld 2 5 0) (issuer fn p) := by
        refine (State.applyDue_cmd ho).trans ?_
        obtain h | h := live <;> simp [State.lutikOp, State.doTenantRemove, provider, ht, h]
      rw [row]
      exact s.removeStart_drains ..
  · refine ⟨_, congrArg Host.Outcome.next (State.pageScrubDone_done st done), ?_, fun k hk => ?_, ?_⟩
    · simp [State.pageFreed_entry]
    · simp [State.pageFreed_entry, hk]
    · simp [State.pageFreed_mem]
  · obtain ⟨u, row, facts⟩ := State.tenantScrubDone_ends hr step pages scrubs
    exact ⟨u, congrArg Host.Outcome.next row, facts⟩

end Sys2Proof.Machine
end

section
/-! PROOFS. Keys (R407 to R411, R415), bindings of weights (R416 to R419) and the mailbox (R402 to R404). -/

namespace Sys2Proof.Machine

/-! ### The sweep of a rotation -/

/-- The rotation that runs is a tenant's, and the tenants stand as they were. -/
def State.Rotates (T : Tbl Tenant) (t : Nat) (i : Issuer) (u : State) : Prop :=
  u.sec.tenants = T ∧ ∃ r : Rotation, u.sec.rot = some r ∧ r.tenant = t ∧ r.by_ = i

section
variable {T : Tbl Tenant} {t : Nat} {i : Issuer} {u : State}

theorem State.Rotates.cut (h : State.Rotates T t i u) (f : Rotation → Tbl Nat) :
    State.Rotates T t i (u.onSec fun c => { c with rot := c.rot.map fun r => { r with cut := f r } }) := by
  obtain ⟨tenants, r, hr, rt, by_⟩ := h
  exact ⟨tenants, { r with cut := f r }, by simp [hr], rt, by_⟩

theorem State.Rotates.sweepRound (h : State.Rotates T t i u) : State.Rotates T t i u.sweepRound := by
  refine List.foldlRecOn (motive := State.Rotates T t i) _ _ h fun v hv k _ => ?_
  dsimp only
  split
  · exact hv
  · exact hv.cut _

theorem State.Rotates.sweepFeed (h : State.Rotates T t i u) (fuel : Nat) : State.Rotates T t i (u.sweepFeed fuel) := by
  induction fuel generalizing u with
  | zero => exact h
  | succ n ih =>
    unfold State.sweepFeed
    split
    · exact h
    · dsimp only
      split
      · exact h.sweepRound
      · exact ih h.sweepRound

end

section
variable {s : State} {i : Issuer} {p : Packet}

theorem State.doKeyRotate_denied (hp : s.provider i = false) (other : (s.func i.fn).tenant ≠ p.fld 2 5 0) :
    s.doKeyRotate i p = s.answer i .deniedRights := by
  simp [State.doKeyRotate, hp, other, State.denied]

/-- What KEY_ROTATE meets from a function that may ask for it, in the order of R410. -/
theorem State.doKeyRotate_eq (may : s.provider i = true ∨ (s.func i.fn).tenant = p.fld 2 5 0) :
    s.doKeyRotate i p =
      if !s.tenantExists (p.fld 2 5 0) then s.answer i .malformed 2
      else if (s.tenant (p.fld 2 5 0)).state != .active then s.answer i .busy 1
      else if s.sec.rot.isSome then s.answer i .busy 2
      else
        ((((s.drawKey.2.setTenant (p.fld 2 5 0) fun x =>
          { x with state := .rotating, gen := (x.gen + 1) % 256, genAt := s.tick, key := s.drawKey.1, old := x.key }).onSec fun c =>
            { c with rot := some { tenant := p.fld 2 5 0, by_ := i } }).addAct { work := .sweep (p.fld 2 5 0), cls := .mgmt }).sweepFeed 20).answerR16
              i .accepted := by
  have allowed : (!s.provider i && (s.func i.fn).tenant != p.fld 2 5 0) = false := by
    obtain h | h := may <;> simp [h]
  unfold State.doKeyRotate
  dsimp only
  rw [if_neg (ne_true_of_eq_false allowed)]
  rfl

/-- A rotation that starts: the tenant ROTATING under a new key, its old one kept beside it, and the sweep begun. -/
theorem State.doKeyRotate_starts (may : s.provider i = true ∨ (s.func i.fn).tenant = p.fld 2 5 0) (exists_ : s.tenantExists (p.fld 2 5 0) = true)
    (active : (s.tenant (p.fld 2 5 0)).state = .active) (idle : s.sec.rot = none) :
    ∃ (u : State) (r : Rotation), s.doKeyRotate i p = u.answerR16 i .accepted ∧
      u.tenant (p.fld 2 5 0) = { s.tenant (p.fld 2 5 0) with
        state := .rotating, gen := ((s.tenant (p.fld 2 5 0)).gen + 1) % 256, genAt := s.tick, key := s.drawKey.1, old := (s.tenant (p.fld 2 5 0)).key } ∧
      u.sec.rot = some r ∧ r.tenant = p.fld 2 5 0 ∧ r.by_ = i ∧ u.mem = s.mem ∧ u.dir = s.dir := by
  rw [State.doKeyRotate_eq may]
  simp only [exists_, active, idle, Bool.not_true, Bool.false_eq_true, if_false, bne_self_eq_false, Option.isSome_none]
  generalize hv : State.addAct _ _ = v
  have begun : State.Rotates v.sec.tenants (p.fld 2 5 0) i v := by
    subst hv
    exact ⟨rfl, _, rfl, rfl, rfl⟩
  obtain ⟨tenants, r, rot, tenant, by_⟩ := begun.sweepFeed 20
  have fed := State.sweepFeed_frame (s := v) (fuel9 := 20) rfl (Frame.refl 144 v)
  have kept : v.mem = s.mem ∧ v.dir = s.dir := by subst hv; exact ⟨rfl, rfl⟩
  refine ⟨_, r, rfl, ?_, rot, tenant, by_, (fed.same .mem rfl).trans kept.1, (fed.same .dir rfl).trans kept.2⟩
  rw [State.tenant, tenants]
  subst hv
  simp [State.setTenant, State.tenant, State.drawKey, State.draw, State.addAct]

@[simp] theorem State.dropAct_sec (s : State) (w : Work) : (s.dropAct w).sec = s.sec := rfl

/-- The state in which a sweep's end is reported (Table 14.7): ACTIVE, the old key's time begun, and OK. -/
def State.swept (s : State) (t : Nat) (by_ : Issuer) : State :=
  (((s.dropAct (.sweep t)).onSec fun c => { c with rot := none, oldKey := Tbl.put c.oldKey t s.tick }).setTenant t fun x =>
    { x with state := .active }).answerR16 by_ .ok

@[simp] theorem State.swept_tenant (s : State) (t : Nat) (by_ : Issuer) : (s.swept t by_).tenant t = { s.tenant t with state := .active } := by
  simp [State.swept, State.tenant, State.setTenant]

/-- The functions that KEY_ROTATED goes to (Table 14.7): the provider's, and the tenant's. -/
def State.rotatedFns (s : State) (t : Nat) : List Nat := s.providers ++ (s.fnsOfTenant t).filter fun fn => !s.isProvider fn

/-- A sweep's end is reported to those functions. -/
theorem State.sweepDone_ends {r : Rotation} {t : Nat} (hr : s.sec.rot = some r) (mine : r.tenant = t) (over_ : s.sweepOver r = true) :
    s.sweepDone t = (s.swept t r.by_).event ((s.swept t r.by_).rotatedFns t) 0x0032 (leBytes 1 t ++ leBytes 1 (s.tenant t).gen) := by
  rw [show (s.tenant t).gen = ((s.swept t r.by_).tenant t).gen by simp]
  unfold State.sweepDone
  rw [hr]
  exact if_neg (by simp [mine, over_])

end

/-! ### The key of a line -/

theorem State.lineKey_owned {s : State} {pa r t : Nat} (hr : s.regionOf pa = some r) (ho : (s.region r).owner = t) :
    s.lineKey pa = if (s.tenant t).state == .rotating && s.front (stackOf pa) ≤ offOf pa then (s.tenant t).old else (s.tenant t).key := by
  subst ho
  simp only [State.lineKey, hr]

/-! ### BIND_WEIGHTS -/

theorem mem_insertBy {α : Type} (key : α → Nat) (a : α) (l : List α) : a ∈ insertBy key a l := by
  induction l with
  | nil => exact List.mem_singleton.mpr rfl
  | cons b r ih =>
    unfold insertBy
    split
    · exact List.mem_cons_self
    · exact List.mem_cons_of_mem _ ih

section
variable {s : State} {i : Issuer} {p : Packet}

theorem State.doBindWeights_reads {b : Binder} (may : s.mayRegion i (s.region (p.fld 2 11 0)).owner = true)
    (idle : Tbl.find s.sec.binders (p.fld 2 11 0) = none) (hb : b = { by_ := i, buf := p.dw 4 + 2 ^ 32 * p.dw 5, len := p.fld 3 15 0 })
    (readable : b.readable = true) :
    s.doBindWeights i p = ((s.answerR16 i .accepted).onSec fun c =>
      { c with binders := Tbl.put c.binders (p.fld 2 11 0) b, binding := insertBy id (p.fld 2 11 0) c.binding }).bundleAsk (p.fld 2 11 0) b := by
  subst hb
  unfold State.doBindWeights
  dsimp only
  rw [if_neg (by simp [may]), if_neg (by simp [idle]), if_pos readable]

end

/-- Settles O45: the refusals of `State.doKeyRotate` in their order, the sweep's invariant `State.Rotates`, and `State.lineKey_owned`. The functions
that KEY_ROTATED goes to are the provider's and the tenant's (`State.sweepDone_ends`). -/
theorem keysRotateAndWeightsBind : Obligations.KeysRotateAndWeightsBind := by
  intro s fn p t
  refine ⟨fun hb => ?_, fun hb => ?_, ?_, fun r hr => ⟨fun waits => congrArg Host.Outcome.next ?_, fun mine over_ => ?_⟩,
    fun at_ ha => ⟨fun early => congrArg Host.Outcome.next ?_, fun due => congrArg Host.Outcome.next ?_⟩, fun pa r hr ho => ?_, ?_⟩
  · exact begins_keyRotate hb (State.beginRefusal_none hb.opcode (by decide) (by decide) (by simp [fieldFault, hb.opcode]))
  · exact begins_bindWeights hb (State.beginRefusal_none hb.opcode (by decide) (by decide) (by simp [fieldFault, hb.opcode]))
  · rintro ho rfl
    have row : s.applyDue (.cmd fn p) = s.doKeyRotate (issuer fn p) p := State.applyDue_cmd ho
    refine ⟨fun hp other => row.trans (State.doKeyRotate_denied hp other), fun may => ?_⟩
    have eq := row.trans (State.doKeyRotate_eq may)
    refine ⟨fun gone => eq.trans (if_pos (by simp [gone])), fun known idle => eq.trans ?_, fun known active runs => eq.trans ?_,
      fun known active none_ => ?_⟩
    · rw [if_neg (by simp [known]), if_pos (by simpa using idle)]
    · rw [if_neg (by simp [known]), if_neg (by simp [active]), if_pos runs]
    · obtain ⟨u, r, starts, tenant, rot⟩ := State.doKeyRotate_starts (i := issuer fn p) may known active none_
      exact ⟨u, r, s.drawKey.1, row.trans starts, tenant, rfl, rot⟩
  · unfold State.sweepDone
    rw [hr]
    refine if_pos ?_
    obtain h | h := waits <;> simp [h]
  · refine ⟨s.swept t r.by_, _, congrArg Host.Outcome.next (State.sweepDone_ends hr mine over_), ?_, s.swept_tenant t r.by_, ?_, ?_⟩ <;>
      simp [State.swept, State.setTenant]
  · simp [State.oldKeyGone, ha, early]
  · simp [State.oldKeyGone, ha, Nat.not_lt.mpr due]
  · rw [State.lineKey_owned hr ho]
    refine ⟨fun other => by simp [other], fun rot low => by simp [Nat.not_le.mpr low], fun rot high => by simp [rot, high]⟩
  · rintro b ho rfl hb
    have row : s.applyDue (.cmd fn p) = s.doBindWeights (issuer fn p) p := State.applyDue_cmd ho
    refine ⟨fun may => row.trans ?_, fun may runs => row.trans ?_, fun may idle readable => ⟨_, row.trans (State.doBindWeights_reads may idle hb readable),
      ?_, ?_, ?_, ?_, ?_⟩⟩
    · simp [State.doBindWeights, may, State.denied]
    · simp [State.doBindWeights, may, runs, State.busy]
    · simp
    · simp [mem_insertBy]
    all_goals simp

/-! ### The mailbox -/

section
variable {s : State} {l : Nat} {req : List Byte} {f : State → State}

theorem State.doe_short (open_ : s.doeOpen l = true) (len : req.length ≤ 65536) : s.doe l req f = f s := by
  simp [State.doe, open_, Nat.not_lt.mpr len]

theorem State.doe_long (open_ : s.doeOpen l = true) (len : 65536 < req.length) : s.doe l req f = s.setSpdm l fun x => { x with doeErr := true } := by
  simp [State.doe, open_, len]

theorem State.pqSign_short (open_ : s.doeOpen l = true) (len : req.length ≤ 65536) :
    s.pqSign l req = match (s.spdmOf l).signed with
      | none => s.spdmError l 0x04
      | some t => s.emit (.spdm l 0x7E (Config.signQ t)) := State.doe_short open_ len

/-- A request code of no capability is refused; any other is answered in its session (R402). -/
theorem State.spdmRequest_unknown {code : Nat} (open_ : s.doeOpen l = true) (len : req.length ≤ 65536) (unknown : code ∉ spdmCodes) :
    s.spdmRequest l code req = s.spdmError l 0x07 :=
  (State.doe_short open_ len).trans (if_pos (by simpa using unknown))

section
variable {q dir num salt : Nat} {key : List Byte}

/-- The keys of a port with one of them programmed: direction 0 is TX, 1 RX (R415). -/
def LinkKeys.program (x : LinkKeys) (dir num : Nat) (k : LinkKey) : LinkKeys :=
  if dir = 0 then (if num = 0 then { x with tx0 := k } else { x with tx1 := k })
  else (if num = 0 then { x with rx0 := k } else { x with rx1 := k })

theorem LinkKeys.program_key (x : LinkKeys) (dir num : Nat) (k : LinkKey) :
    (if dir = 0 then (if num = 0 then (x.program dir num k).tx0 else (x.program dir num k).tx1)
      else (if num = 0 then (x.program dir num k).rx0 else (x.program dir num k).rx1)) = k := by
  unfold LinkKeys.program
  by_cases hd : dir = 0 <;> by_cases hn : num = 0 <;> simp [hd, hn]

theorem LinkKeys.program_sel (x : LinkKeys) (dir num : Nat) (k : LinkKey) : (x.program dir num k).sel = x.sel := by
  unfold LinkKeys.program
  split <;> split <;> rfl

theorem State.keyProg_eq (open_ : s.doeOpen l = true) (hq : q < 16) (hd : dir < 2) (hn : num < 2) (hk : key.length = 32) :
    s.keyProg l q dir num key salt =
      if !s.keySession l then s.spdmError l 0x04
      else if dir == 0 && (s.linkKeys q).sel == num then s.spdmError l 0x01
      else (s.setKeys q fun x => x.program dir num { set := true, key := key, salt := salt % 2 ^ 32, ctr := 0 }).emit (.spdm l 0x7E []) := by
  refine (State.doe_short open_ (Nat.zero_le _)).trans ?_
  have fields : ¬ (16 ≤ q || 2 ≤ dir || 2 ≤ num || key.length != 32) = true := by simp [hk]; omega
  dsimp only
  rw [if_neg fields]
  obtain _ | dir := dir <;> obtain _ | num := num <;> rfl

theorem State.keyGo_eq (open_ : s.doeOpen l = true) (hq : q < 16) (hn : num < 2) :
    s.keyGo l q num = if !s.keySession l then s.spdmError l 0x04
      else (s.setKeys q fun x => { x with sel := num }).emit (.spdm l 0x7E []) := by
  refine (State.doe_short open_ (Nat.zero_le _)).trans ?_
  have fields : ¬ (16 ≤ q || 2 ≤ num) = true := by simp; omega
  rw [if_neg fields]

end

end

/-- Settles O46: `State.doe` says what an open mailbox does with a request, and the rest is each request's own branch. The SPDM codes and error codes
are the model's (assumption logs 90, 91 and 92). -/
theorem mailboxesAnswer : Obligations.MailboxesAnswer := by
  intro s l req open_
  refine ⟨fun long => congrArg Host.Outcome.next (State.doe_long open_ long), fun short => congrArg Host.Outcome.next (State.doe_short open_ short),
    fun short => ⟨fun none_ => congrArg Host.Outcome.next ?_, fun x some_ => congrArg Host.Outcome.next ?_⟩,
    fun off len => congrArg Host.Outcome.next (State.doe_short open_ (Nat.zero_le _)),
    fun code short => ⟨fun unknown => congrArg Host.Outcome.next (State.spdmRequest_unknown open_ short unknown), ?_, ?_, ?_⟩,
    fun q dir num key salt hq hd hn hk => ⟨fun shut => ?_, fun secured sending inUse => ?_, fun secured other => ?_⟩,
    fun q num hq hn => ⟨fun shut => ?_, fun secured => ?_⟩⟩
  · rw [State.pqSign_short open_ short, none_]
  · rw [State.pqSign_short open_ short, some_]
  · rintro rfl
    exact congrArg Host.Outcome.next (State.doe_short open_ short)
  · rintro rfl
    exact congrArg Host.Outcome.next (State.doe_short open_ short)
  · rintro rfl
    exact congrArg Host.Outcome.next (State.doe_short open_ short)
  · refine congrArg Host.Outcome.next ((State.keyProg_eq open_ hq hd hn hk).trans ?_)
    simp [shut]
  · refine congrArg Host.Outcome.next ((State.keyProg_eq open_ hq hd hn hk).trans ?_)
    simp [secured, sending, inUse]
  · have free : (dir == 0 && (s.linkKeys q).sel == num) = false := by
      obtain h | h := other <;> simp [h]
    have row := State.keyProg_eq (salt := salt) open_ hq hd hn hk
    rw [if_neg (by simp [secured]), if_neg (ne_true_of_eq_false free)] at row
    have keys : ∀ x k, (((s.setKeys q fun x => x.program dir num k).emit (.spdm l 0x7E [])).linkKeys x) =
        if x = q then (s.linkKeys q).program dir num k else s.linkKeys x := fun x k => by simp [State.linkKeys, State.setKeys]
    refine ⟨_, congrArg Host.Outcome.next row, ?_, ?_, fun x hx => ?_, rfl⟩ <;> rw [keys]
    · rw [if_pos rfl]
      exact LinkKeys.program_key ..
    · rw [if_pos rfl]
      exact LinkKeys.program_sel ..
    · rw [if_neg hx]
  · refine congrArg Host.Outcome.next ((State.keyGo_eq open_ hq hn).trans ?_)
    simp [shut]
  · refine congrArg Host.Outcome.next ((State.keyGo_eq open_ hq hn).trans ?_)
    simp [secured]

end Sys2Proof.Machine
end

section
/-! PROOFS. Power (SPEC: R454 to R468, R520 to R526). -/

namespace Sys2Proof.Machine

/-! ### CONTRACT_LOAD -/

/-- The packet's own fields are right where its number of entries, its length and its START are. -/
theorem contractFault_none {p : Packet} (one : 0 < p.fld 6 5 0) (most : p.fld 6 5 0 ≤ 60) (len : p.len = 8 + 2 * p.fld 6 5 0)
    (aligned : p.addr 4 % MIN_NS = 0) : contractFault p = none := by
  have hn : (p.fld 6 5 0 == 0 || Decidable.decide (60 < p.fld 6 5 0) || p.len != 8 + 2 * p.fld 6 5 0) = false := by
    simp only [len, bne_self_eq_false, Bool.or_false, Bool.or_eq_false_iff, beq_eq_false_iff_ne, decide_eq_false_iff_not]
    omega
  have ha : (p.addr 4 % MIN_NS != 0) = false := by simp [aligned]
  exact (if_neg (ne_true_of_eq_false hn)).trans (if_neg (ne_true_of_eq_false ha))

section
variable {s : State} {fn : Nat} {p : Packet}

theorem State.contractCheck_none (fields : contractFault p = none) (late : s.pwr.minute.start ≤ p.addr 4)
    (joined : s.pwr.contract = [] ∨ p.addr 4 ≤ s.contractEnd) (near : p.addr 4 + p.fld 6 5 0 * MIN_NS ≤ s.pwr.minute.start + 60 * MIN_NS)
    (ok : ∀ e ∈ packetEntries p (p.addr 4) (p.fld 6 5 0), e.ok = true) : s.contractCheck p = none := by
  have good : firstIdx (fun e => !Entry.ok e) (packetEntries p (p.addr 4) (p.fld 6 5 0)) = none :=
    firstIdx_none fun e he => by simp [ok e he]
  have place : (Decidable.decide (p.addr 4 < s.pwr.minute.start) || (!s.pwr.contract.isEmpty && Decidable.decide (s.contractEnd < p.addr 4))) = false := by
    rcases joined with h | h <;> simp [h, late]
  simp only [State.contractCheck, fields, good, place]
  simp [Nat.not_lt.mpr near]

theorem State.doContractLoad_refused {d : Nat} (hp : s.isProvider fn = true) (hd : s.contractCheck p = some d) :
    s.doContractLoad (issuer fn p) p = s.answer (issuer fn p) .malformed d := by
  simp [State.doContractLoad, show s.provider (issuer fn p) = true from hp, hd, State.malformed]

/-- A CONTRACT_LOAD that passes: the entries from its START are the new ones (R457), and one for the minute in force takes it over
(R458). -/
theorem State.doContractLoad_loads {start : Nat} {es : List Entry} (hp : s.isProvider fn = true) (passes : s.contractCheck p = none)
    (hstart : start = p.addr 4) (hes : es = packetEntries p start (p.fld 6 5 0)) :
    ∃ t : State, s.doContractLoad (issuer fn p) p = t.answer (issuer fn p) .ok ∧
      t.pwr.contract = (s.pwr.contract.filter fun e => e.start < start) ++ es ∧
      (start = s.pwr.minute.start → t.pwr.inForce = es.headD {} ∧ t.pwr.holding = false) ∧
      (start ≠ s.pwr.minute.start → t.pwr.inForce = s.pwr.inForce ∧ t.pwr.holding = s.pwr.holding) := by
  subst hstart hes
  have provider : s.provider (issuer fn p) = true := hp
  simp only [State.doContractLoad, provider, passes]
  by_cases now : p.addr 4 = s.pwr.minute.start <;> simp [now]
  · exact ⟨_, rfl, rfl, rfl, rfl⟩
  · exact ⟨_, rfl, rfl, rfl, rfl⟩

/-! ### POWER_READ -/

/-- POWER_READ at its row: the history is the provider's (R466), and its buffer's alignment is asked of every form (assumption log
105). -/
theorem State.row_powerRead (h : s.Begins fn p 0x0702) :
    (s.isProvider fn = false → bit (p.dw 2) 0 = true → exec (.powerRead fn p) s = .next (s.begun.answer (issuer fn p) .deniedRights)) ∧
    ((s.isProvider fn = true ∨ bit (p.dw 2) 0 = false) → p.addr 4 % 64 ≠ 0 →
      exec (.powerRead fn p) s = .next (s.begun.answer (issuer fn p) .malformed 4)) ∧
    ((s.isProvider fn = true ∨ bit (p.dw 2) 0 = false) → p.addr 4 % 64 = 0 → exec (.powerRead fn p) s = .next (s.begun.later (.cmd fn p))) := by
  have ho : p.op = 0x0702 := h.opcode
  have fields : fieldFault p = if p.addr 4 % 64 != 0 then some 4 else none := by simp [fieldFault, ho]
  have open_ (hg : s.isProvider fn = true ∨ bit (p.dw 2) 0 = false) :
      (!s.provider (issuer fn p) && (providerOps.contains p.op || (p.op == 0x0702 && bit (p.dw 2) 0))) = false := by
    rcases hg with hg | hg
    · simp [show s.provider (issuer fn p) = true from hg]
    · simp [ho, hg, providerOps]
  refine ⟨fun hp hb => refused_powerRead h ?_, fun hg ha => refused_powerRead h ?_, fun hg ha => begins_powerRead h ?_⟩
  · simp [State.beginRefusal, show s.provider (issuer fn p) = false from hp, ho, hb]
  · rw [State.beginRefusal, open_ hg, fields]
    simp [ha]
  · rw [State.beginRefusal, open_ hg, fields]
    simp [ha]

theorem State.doPowerRead_other (ha : p.addr 4 % 64 = 0) (hp : s.isProvider fn = false) (hb : bit (p.dw 2) 0 = false) :
    s.doPowerRead (issuer fn p) p = s.answer (issuer fn p) .ok 0 (round5 s.pwr.lastS % 65536) := by
  have other : s.provider (issuer fn p) = false := hp
  simp [State.doPowerRead, other, hb, ha, place]

theorem State.doPowerRead_provider (ha : p.addr 4 % 64 = 0) (hp : s.isProvider fn = true) :
    s.doPowerRead (issuer fn p) p =
      (if bit (p.dw 2) 0 = true then s.hostWrite fn 3 (p.addr 4)
        (padTo 256 0 (leBytes 8 s.pwr.p10At ++ leBytes 8 0 ++ s.pwr.p10s.reverse.flatMap (leBytes 2))) else s).answer (issuer fn p) .ok 0
        (place (s.pwr.p10s.headD 0) 16 0 + place s.pwr.level 5 16 + place (stageOf s.pwr.level) 3 21 + place s.pwr.inForce.idx 8 24)
        s.pwr.minute.joules := by
  have provider : s.provider (issuer fn p) = true := hp
  simp only [State.doPowerRead, provider, ha]
  cases bit (p.dw 2) 0 <;> rfl

end

/-! ### Measurement -/

theorem blt_eq_decide (a b : Nat) : Nat.blt a b = Decidable.decide (a < b) := by
  rw [Bool.eq_iff_iff, Nat.blt_eq, decide_eq_true_iff]

theorem State.closeIntervals_pwr (s : State) : s.closeIntervals.pwr.samples = s.pwr.samples ∧ s.closeIntervals.pwr.minute = s.pwr.minute ∧
    s.closeIntervals.pwr.vmin = s.pwr.vmin ∧ s.closeIntervals.pwr.level = s.pwr.level := by
  unfold State.closeIntervals
  extract_lets now u
  have hu : u.pwr.samples = s.pwr.samples ∧ u.pwr.minute = s.pwr.minute ∧ u.pwr.vmin = s.pwr.vmin ∧ u.pwr.level = s.pwr.level := by
    unfold u
    split
    · exact ⟨rfl, rfl, rfl, rfl⟩
    · exact ⟨rfl, rfl, rfl, rfl⟩
  split
  · exact hu
  · exact hu

theorem State.meterPower_pwr (s : State) (mw : Nat) : (s.meterPower mw).pwr.samples = (mw :: s.pwr.samples).take 100000 ∧
    (s.meterPower mw).pwr.minute.used = s.pwr.minute.used + mw ∧ (s.meterPower mw).pwr.vmin = s.pwr.vmin ∧
    (s.meterPower mw).pwr.level = s.pwr.level := by
  obtain ⟨samples, minute, vmin, level⟩ := s.closeIntervals_pwr
  rw [← samples, ← minute, ← vmin, ← level]
  exact ⟨rfl, rfl, rfl, rfl⟩

theorem State.meterVolts_pwr (s : State) (mw mv : Nat) : (s.meterVolts mw mv).pwr.samples = s.pwr.samples ∧
    (s.meterVolts mw mv).pwr.minute = s.pwr.minute ∧ (s.meterVolts mw mv).pwr.vin = mv ∧
    (s.meterVolts mw mv).pwr.low = Decidable.decide (mv < 60000) ∧ (s.meterVolts mw mv).pwr.tooHigh = Decidable.decide (80000 < mv) ∧
    (s.meterVolts mw mv).pwr.vmin = min s.pwr.vmin (mv / 10) ∧ (s.meterVolts mw mv).pwr.level = s.pwr.level := by
  unfold State.meterVolts
  extract_lets sag u
  have hu : (if sag then (u.bump blkPWR 0x050C).raise blkPWR u.mir.primary 0 20 else u).pwr = u.pwr := by split <;> simp
  rw [hu]
  exact ⟨rfl, rfl, rfl, blt_eq_decide _ _, blt_eq_decide _ _, rfl, rfl⟩

theorem State.powerSample_takes {s : State} (mw mv : Nat) (hi : s.pwr.input = true) : ∃ t : State, s.powerSample mw mv = t ∧
    t.pwr.samples = (mw :: s.pwr.samples).take 100000 ∧ t.pwr.minute.used = s.pwr.minute.used + mw ∧ t.pwr.vin = mv ∧
    t.pwr.low = Decidable.decide (mv < 60000) ∧ t.pwr.tooHigh = Decidable.decide (80000 < mv) ∧
    t.pwr.vmin = min s.pwr.vmin (mv / 10) ∧ t.pwr.level = s.pwr.level := by
  obtain ⟨samples, minute, vin, low, high, vmin, level⟩ := (s.meterPower mw).meterVolts_pwr mw mv
  obtain ⟨samples', used', vmin', level'⟩ := s.meterPower_pwr mw
  refine ⟨(s.meterPower mw).meterVolts mw mv, by simp [State.powerSample, hi], ?_⟩
  rw [samples, minute, vin, low, high, vmin, level, samples', used', vmin', level']
  exact ⟨rfl, rfl, rfl, rfl, rfl, rfl, rfl⟩

/-! ### The governor -/

@[simp] theorem State.stageChange_pwr (s : State) (old l : Nat) (f : Bool) : (s.stageChange old l f).pwr = s.pwr :=
  (State.stageChange_frame rfl (Frame.refl 2189568 s)).same .pwr rfl

theorem State.setLevel_mem (s : State) (l : Nat) (f : Bool) : (s.setLevel l f).mem = s.mem :=
  (State.setLevel_frame rfl (Frame.refl 2320656 s)).same .mem rfl

theorem State.setLevel_dir (s : State) (l : Nat) (f : Bool) : (s.setLevel l f).dir = s.dir :=
  (State.setLevel_frame rfl (Frame.refl 2320656 s)).same .dir rfl

/-- The level set is the level, and the evaluation's instant stays. -/
theorem State.setLevel_pwr (s : State) (l : Nat) (f : Bool) : (s.setLevel l f).pwr.level = l ∧ (s.setLevel l f).pwr.evalAt = s.pwr.evalAt := by
  unfold State.setLevel
  extract_lets old was s1 s2 new s3
  split
  · next h => exact ⟨by simpa [old] using (beq_iff_eq.mp h).symm, rfl⟩
  · have h3 : s3.pwr = s2.pwr := foldl_same State.pwr (fun u n => State.onEng_pwr u _) new s2
    have h2 : s2.pwr.level = s1.pwr.level ∧ s2.pwr.evalAt = s1.pwr.evalAt := by
      unfold s2
      split <;> exact ⟨rfl, rfl⟩
    rw [State.stageChange_pwr, h3, h2.1, h2.2]
    exact ⟨rfl, rfl⟩

theorem State.takePwrCtrl_level (s : State) : s.takePwrCtrl.pwr.level = s.pwr.level := by
  unfold State.takePwrCtrl
  split <;> rfl

theorem State.takePwrCtrl_now (s : State) : s.takePwrCtrl.glb.time.now = s.glb.time.now := by
  unfold State.takePwrCtrl
  split <;> rfl

/-- What an evaluation's level and floor depend on (R463, R464): the entry and the minute's account, the samples, the level and its
run, PWR_CTRL and the forcing inputs. -/
structure Pwr.SameGovernor (v w : Pwr) : Prop where
  ctrl : v.ctrl = w.ctrl
  level : v.level = w.level
  still : v.still = w.still
  inForce : v.inForce = w.inForce
  minute : v.minute = w.minute
  samples : v.samples = w.samples
  pin : v.thrFloor = w.thrFloor
  junction : v.jFloor = w.jFloor

/-- The target, written out under its name alone: an equation between applied targets makes the kernel evaluate the nanoseconds of a
minute. -/
theorem Pwr.SameGovernor.target {v w : Pwr} (h : v.SameGovernor w) (now : Nat) : v.target now = w.target now := by
  have guard : v.guard = w.guard := by simp only [Pwr.guard, h.ctrl]
  have written : Pwr.target = Pwr.target := rfl
  conv at written => rhs; delta Pwr.target
  refine (congrFun (congrFun written v) now).trans (Eq.trans ?_ (congrFun (congrFun written w) now).symm)
  rw [guard, h.minute, h.inForce]

theorem Pwr.SameGovernor.evalLevel {v w : Pwr} (h : v.SameGovernor w) (now : Nat) : v.evalLevel now = w.evalLevel now := by
  have above (t : Nat × Nat) (k : Nat) : v.above t k = w.above t k := by
    unfold Pwr.above Pwr.sum
    rw [h.samples]
  have below (t : Nat × Nat) (k : Nat) : v.below t k = w.below t k := by
    unfold Pwr.below Pwr.sum
    rw [h.samples]
  simp only [Pwr.evalLevel, h.target now, above, below, h.level, h.still]

theorem Pwr.SameGovernor.floor {v w : Pwr} (h : v.SameGovernor w) : v.floor = w.floor := by
  simp only [Pwr.floor, Pwr.thr, h.pin, h.junction, h.ctrl]

/-- An evaluation below level 19 that is made: it sets the level that the target and the floors ask for, and counts a rise. -/
theorem State.evaluate_sets {s : State} (ht : s.tick % 1024 = 0) (hb : s.glb.boot = 7) (once : s.pwr.evalAt ≠ some s.tick)
    (up : s.failedPart = false) (settled : s.mir.state ≠ .switching) (below : s.pwr.level < 19) :
    ∃ (u : State) (l : Nat) (f : Bool), l = max (s.takePwrCtrl.releaseForcing.pwr.evalLevel s.glb.time.now) s.takePwrCtrl.releaseForcing.pwr.floor ∧
      u.pwr.evalAt = some s.tick ∧ s.evaluate = if s.pwr.level < l then (u.setLevel l f).bump blkPWR 0x0500 else u.setLevel l f := by
  have go : (s.tick % 1024 != 0 || s.glb.boot != 7 || s.pwr.evalAt == some s.tick || s.failedPart || s.mir.state == .switching) = false := by
    simp [ht, hb, once, up, settled]
  unfold State.evaluate
  rw [if_neg (ne_true_of_eq_false go)]
  extract_lets u now old due u1 l0 l u2 u3
  have hold : old = s.pwr.level := s.takePwrCtrl_level
  have not19 : (old == 19) = false := by rw [hold]; simp; omega
  have hdue : due = false := by simp only [due, not19, Bool.false_and]
  have h1 : u1 = u := if_neg (ne_true_of_eq_false hdue)
  have hnow : now = s.glb.time.now := s.takePwrCtrl_now
  have same : u.pwr.SameGovernor s.takePwrCtrl.releaseForcing.pwr := ⟨rfl, rfl, rfl, rfl, rfl, rfl, rfl, rfl⟩
  have h3 : u3 = u2.setLevel l (Decidable.decide (l0 < l)) := if_neg (ne_true_of_eq_false not19)
  refine ⟨u2, l, Decidable.decide (l0 < l), ?_, ?_, ?_⟩
  · rw [← same.evalLevel, ← same.floor, ← hnow, ← h1]
  · simp only [u2, h1]
    rfl
  · rw [h3, hold]

/-- What it leaves. -/
theorem State.evaluate_below {s : State} (ht : s.tick % 1024 = 0) (hb : s.glb.boot = 7) (once : s.pwr.evalAt ≠ some s.tick)
    (up : s.failedPart = false) (settled : s.mir.state ≠ .switching) (below : s.pwr.level < 19) :
    ∃ t : State, s.evaluate = t ∧
      t.pwr.level = max (s.takePwrCtrl.releaseForcing.pwr.evalLevel s.glb.time.now) s.takePwrCtrl.releaseForcing.pwr.floor ∧
      t.pwr.evalAt = some s.tick ∧ t.mem = s.mem ∧ t.dir = s.dir := by
  have frame := State.evaluate_frame (s := s) rfl (Frame.refl 2320720 s)
  obtain ⟨u, l, f, hl, evalAt, eq⟩ := State.evaluate_sets ht hb once up settled below
  have pwr : s.evaluate.pwr = (u.setLevel l f).pwr := by
    rw [eq]
    split <;> simp
  refine ⟨s.evaluate, rfl, ?_, ?_, frame.same .mem rfl, frame.same .dir rfl⟩
  · rw [pwr, (u.setLevel_pwr l f).1, hl]
  · rw [pwr, (u.setLevel_pwr l f).2, evalAt]

/-! ### The end of a minute -/

@[simp] theorem State.logRec_pwr (s : State) (k time : Nat) (b : List Byte) : (s.logRec k time b).pwr = s.pwr :=
  (State.logRec_frame rfl (Frame.refl 2189568 s)).same .pwr rfl

@[simp] theorem State.logRec_flash (s : State) (k time : Nat) (b : List Byte) : (s.logRec k time b).flash = s.flash :=
  (State.logRec_frame rfl (Frame.refl 2189568 s)).same .flash rfl

@[simp] theorem State.skipMinutes_pwr (s : State) (m n : Nat) : (s.skipMinutes m n).pwr = s.pwr :=
  (State.skipMinutes_frame rfl (Frame.refl 2189568 s)).same .pwr rfl

@[simp] theorem State.skipMinutes_flash (s : State) (m n : Nat) : (s.skipMinutes m n).flash = s.flash :=
  (State.skipMinutes_frame rfl (Frame.refl 2189568 s)).same .flash rfl

@[simp] theorem State.takeEntry_flash (s : State) (m : Nat) : (s.takeEntry m).flash = s.flash :=
  (State.takeEntry_frame rfl (Frame.refl 2255104 s)).same .flash rfl

/-- The entry that comes into force at a minute (R456). -/
theorem State.takeEntry_pwr (s : State) (m : Nat) : (s.takeEntry m).pwr.minute = { start := m } ∧
    ((s.takeEntry m).pwr.inForce, (s.takeEntry m).pwr.holding) = entryAt s.pwr.contract m ∧ (s.takeEntry m).pwr.level = s.pwr.level := by
  unfold State.takeEntry
  rcases entryAt s.pwr.contract m with ⟨e, hold⟩
  dsimp only
  split <;> simp

/-- What happens between the end of a minute and the next entry leaves PWR and the flash alone. -/
theorem State.minuteEnd_takes {s : State} (ended : s.pwr.minute.start + MIN_NS ≤ s.glb.time.now) (hb : s.glb.boot = 7) :
    ∃ u : State, u.pwr = s.pwr ∧ u.flash = s.flash ∧
      s.minuteEnd = (u.takeEntry (s.glb.time.now / MIN_NS * MIN_NS)).saveCounters.onGlb fun g => { g with saveDue := false } := by
  have go : (Decidable.decide (s.glb.time.now < s.pwr.minute.start + MIN_NS) || s.glb.boot != 7) = false := by
    simp [hb, Nat.not_lt.mpr ended]
  unfold State.minuteEnd
  rw [if_neg (ne_true_of_eq_false go)]
  refine ⟨_, ?_, ?_, rfl⟩
  · rw [State.skipMinutes_pwr, State.logRec_pwr]
    generalize s.pwr.minute.broken s.pwr.inForce = broken
    split <;> simp
  · rw [State.skipMinutes_flash, State.logRec_flash]
    generalize s.pwr.minute.broken s.pwr.inForce = broken
    split <;> simp

/-- A minute that has ended gives way to the one that network time is in. -/
theorem State.minuteEnd_next {s : State} (next : Nat) (ended : s.pwr.minute.start + MIN_NS ≤ s.glb.time.now) (hb : s.glb.boot = 7)
    (hn : next = s.glb.time.now / MIN_NS * MIN_NS) :
    ∃ t : State, s.minuteEnd = t ∧ t.pwr.minute = { start := next } ∧
      (t.pwr.inForce, t.pwr.holding) = entryAt s.pwr.contract next ∧ t.pwr.level = s.pwr.level ∧ t.flash.block = s.flash.block + 1 := by
  obtain ⟨u, pwr, flash, eq⟩ := State.minuteEnd_takes ended hb
  rw [← hn] at eq
  obtain ⟨minute, entry, level⟩ := u.takeEntry_pwr next
  rw [pwr] at entry level
  refine ⟨_, eq, minute, entry, level, ?_⟩
  rw [← flash, ← u.takeEntry_flash next]
  rfl

/-! ### Rails -/

/-- A rail that faults in a powered part (R524): PWR reports it, PG_OUT follows, and its hub, its die, or everything goes. -/
theorem State.railFault_takes {s : State} (k : Nat) (v : State) (hk : k < 20) (hi : s.pwr.input = true) (good : s.rail k = .good)
    (awake : s.railSleep k = false)
    (hv : v = (s.onPwr fun w => { w with rails := Tbl.put w.rails k .fault }).raise blkPWR s.mir.primary 1 k) :
    ∃ u : State, u = v.onPins (fun p => { p with pgOut := v.pgNow }) ∧ u.rail k = .fault ∧
      (k = 18 → exec (.railFault k) s = .next (u.powerOff true)) ∧
      (k = 19 → s.glb.pstate ≠ .cellar → exec (.railFault k) s = .next u) ∧
      (k = 19 → s.glb.pstate = .cellar → exec (.railFault k) s = .next (u.onPwr fun w => { w with retLost := true })) ∧
      (k < 18 → s.glb.boot ≠ 7 → exec (.railFault k) s = .next u) ∧
      (2 ≤ k → k < 14 → s.glb.boot = 7 → exec (.railFault k) s = .next (u.dieFails ((k - 2) % 4))) ∧
      ((k < 2 ∨ 14 ≤ k ∧ k < 18) → s.glb.boot = 7 → exec (.railFault k) s = .next (u.hubFails (k % 2) blkPWR 0)) := by
  have go : (Decidable.decide (20 ≤ k) || !s.pwr.input || s.rail k != .good || s.railSleep k) = false := by
    simp [hi, good, awake, Nat.not_le.mpr hk]
  have glb : v.glb = s.glb := by rw [hv]; simp
  have pwr : v.pwr = { s.pwr with rails := Tbl.put s.pwr.rails k .fault } := by rw [hv]; simp
  refine ⟨_, rfl, ?_, ?_⟩
  · show Tbl.getD v.pwr.rails k .good = .fault
    rw [pwr]
    simp
  generalize hu : v.onPins (fun p => { p with pgOut := v.pgNow }) = u
  have ugl : u.glb = s.glb := by rw [← hu, ← glb]; rfl
  have eq : exec (.railFault k) s = .next (
      if k == 18 then u.powerOff true
      else if k == 19 then (if s.glb.pstate == .cellar then u.onPwr fun w => { w with retLost := true } else u)
      else if s.glb.boot != 7 then u
      else if 2 ≤ k && k < 14 then u.dieFails ((k - 2) % 4)
      else u.hubFails (k % 2) blkPWR 0) := by
    rw [← ugl, ← hu, hv]
    exact congrArg Host.Outcome.next (if_neg (ne_true_of_eq_false go))
  rw [eq]
  refine ⟨fun h => by simp [h], fun h hs => by simp [h, hs], fun h hs => by simp [h, hs], fun h hs => ?_, fun h h' hs => ?_, fun h hs => ?_⟩
  all_goals
    have h18 : (k == 18) = false := by simp; omega
    have h19 : (k == 19) = false := by simp; omega
    rw [h18, h19]
  · simp [hs]
  · simp [hs, h, h']
  · have out : (Decidable.decide (2 ≤ k) && Decidable.decide (k < 14)) = false := by simp; omega
    simp [hs, out]

/-! ### Junctions and the input -/

/-- A junction reading by its temperature (R464, Table 19.8). -/
theorem State.junction_acts {s : State} (die t0 : Nat) (u : State) (hd : die < 6) (hi : s.pwr.input = true)
    (hu : u = (s.onPwr fun w => { w with jAt := s.tick, jDue := true, jAlert := true }).onPins (fun p => { p with tempAlert := true })) :
    (t0 ≤ 100 → s.junction die t0 = s) ∧
    (100 < t0 → t0 < 103 → s.junction die t0 = s.onPwr fun w => { w with jAt := s.tick }) ∧
    (103 ≤ t0 → t0 < 115 → s.junction die t0 = u) ∧
    (115 ≤ t0 → s.junction die t0 = (u.railFault die).onPwr fun w =>
      { w with rails := (if die < 2 then [14 + die, 16 + die] else [4 + die, 8 + die]).foldl (fun r k => Tbl.put r k .fault) w.rails }) := by
  have go : (Decidable.decide (6 ≤ die) || !s.pwr.input) = false := by simp [hi, Nat.not_le.mpr hd]
  unfold State.junction
  rw [if_neg (ne_true_of_eq_false go), hu]
  refine ⟨fun h => ?_, fun h h' => ?_, fun h h' => ?_, fun h => ?_⟩
  · simp [show ¬ 100 < t0 by omega, show t0 < 103 by omega, show t0 < 115 by omega]
  · simp [h, h', show t0 < 115 by omega]
  · simp only [show 100 < t0 by omega, show ¬ t0 < 103 by omega, h', if_true, if_false]
    rfl
  · simp only [show 100 < t0 by omega, show ¬ t0 < 103 by omega, show ¬ t0 < 115 by omega, if_true, if_false]
    rfl

/-- Power-up restores every domain (R524) and boots from step 0 with the flash alone kept (the emptied memory: assumption log 9). -/
theorem State.vinRise_up {s : State} (hi : s.pwr.input = false) : ∃ t : State, s.vinRise = t ∧ t.pwr.input = true ∧ t.pwr.rails = [] ∧
    t.pins.pgOut = true ∧ t.glb.boot = 0 ∧ t.flash = s.flash ∧ t.mem = [] :=
  ⟨_, if_neg (ne_true_of_eq_false hi), rfl, rfl, rfl, rfl, rfl, rfl⟩

/-- Input lost (R526): every domain is off, and the flash keeps its counters whatever became of a program under way. -/
theorem State.inputLoss_down {s : State} (hi : s.pwr.input = true) : ∃ t : State, s.inputLoss = t ∧ t.pwr.input = false ∧
    t.pins.pgOut = false ∧ t.mem = [] ∧ t.flash.block = s.flash.block ∧ t.flash.counters = s.flash.counters := by
  have go : (!s.pwr.input) = false := by simp [hi]
  refine ⟨_, (if_neg (ne_true_of_eq_false go)), rfl, rfl, rfl, ?_⟩
  dsimp only [State.draw]
  split <;> exact ⟨rfl, rfl⟩

/-- Settles O47: each row and boundary by what its operation leaves of PWR. That POWER_READ asks its buffer's alignment of a form that
writes nothing is assumption log 105, and that the stacks read zero after the input's rise or loss is assumption log 9. -/
theorem powerIsMeteredAndThrottled : Obligations.PowerIsMeteredAndThrottled := by
  unfold Obligations.PowerIsMeteredAndThrottled
  intro s fn p
  refine ⟨fun h => ?_, fun d ho hp hd => ?_, fun n start es ho hp hn hst hes one most len aligned late joined near ok => ?_,
    fun h => State.row_powerRead h, fun ho ha => ⟨fun hp hb => ?_, fun u hp hu => ?_⟩, fun mw mv => ⟨fun hi => ?_, fun hi => ?_⟩, ⟨fun ht => ?_, ?_⟩,
    ⟨fun early => ?_, ?_⟩, fun k v hk hi good awake hv => State.railFault_takes k v hk hi good awake hv, fun low => ?_, fun low => ?_, rfl,
    fun die t0 u hd hi hu => ?_, fun hi => ?_, fun hi => ?_⟩
  · obtain ⟨denied, malformed, later⟩ := State.row_provider (s := s) (fn := fn) (p := p) (c := .contractLoad fn p) (fault := contractFault p) h.opcode
      (by decide) (begins_contractLoad h) (fun st d => refused_contractLoad h) (by simp [fieldFault, h.opcode])
    exact ⟨denied, malformed, fun hp one most len aligned => later hp (contractFault_none one most len aligned)⟩
  · exact (State.applyDue_cmd ho).trans (State.doContractLoad_refused hp hd)
  · subst hn hst hes
    have passes := State.contractCheck_none (contractFault_none one most len aligned) late joined near ok
    obtain ⟨t, eq, contract, mine, other⟩ := State.doContractLoad_loads hp passes rfl rfl
    exact ⟨t, (State.applyDue_cmd ho).trans eq, contract, mine, other⟩
  · exact (State.applyDue_cmd ho).trans (State.doPowerRead_other ha hp hb)
  · rw [hu]
    exact (State.applyDue_cmd ho).trans (State.doPowerRead_provider ha hp)
  · exact congrArg Host.Outcome.next (if_pos (by simp [hi]))
  · obtain ⟨t, eq, rest⟩ := State.powerSample_takes mw mv hi
    exact ⟨t, congrArg Host.Outcome.next eq, rest⟩
  · exact congrArg Host.Outcome.next (if_pos (by simp [ht]))
  · intro w ht hb once up settled hw below
    obtain ⟨t, eq, rest⟩ := State.evaluate_below ht hb once up settled below
    rw [hw]
    exact ⟨t, congrArg Host.Outcome.next eq, rest⟩
  · exact congrArg Host.Outcome.next (if_pos (by simp [early]))
  · intro next ended hb hn
    obtain ⟨t, eq, rest⟩ := State.minuteEnd_next next ended hb hn
    exact ⟨t, congrArg Host.Outcome.next eq, rest⟩
  · exact congrArg Host.Outcome.next (if_pos low)
  · exact congrArg Host.Outcome.next (if_neg (ne_true_of_eq_false low))
  · obtain ⟨cool, warm, hot, faults⟩ := State.junction_acts die t0 u hd hi hu
    exact ⟨fun h => congrArg Host.Outcome.next (cool h), fun h h' => congrArg Host.Outcome.next (warm h h'),
      fun h h' => congrArg Host.Outcome.next (hot h h'), fun h => congrArg Host.Outcome.next (faults h)⟩
  · obtain ⟨t, eq, rest⟩ := State.vinRise_up hi
    exact ⟨t, congrArg Host.Outcome.next eq, rest⟩
  · obtain ⟨t, eq, rest⟩ := State.inputLoss_down hi
    exact ⟨t, congrArg Host.Outcome.next eq, rest⟩

end Sys2Proof.Machine
end

section
/-! PROOFS. Network time and the log (SPEC: R473 to R487). -/

namespace Sys2Proof.Machine

/-! ### Measurements -/

@[simp] theorem State.gateStep_glb (s : State) : s.gateStep.glb = s.glb := (State.gateStep_frame rfl (Frame.refl 8192 s)).same .glb rfl

/-- A step moves the time and the next boundary alone (R480). -/
theorem State.stepBy_time (s : State) (e : Int) :
    ∃ now next, (s.stepBy e).glb = { s.glb with time := { s.glb.time with now := now, next := next } } := by
  refine ⟨addNs s.glb.time.now e, some (1280 * ceilDiv (addNs s.glb.time.now e + 1280) 1280), ?_⟩
  simp [State.stepBy]

/-- A measurement (R476): LOCKED, at this instant, with everything else of the source as it was. -/
theorem State.measure_locks (s : State) (e : Int) (src : Nat) : (s.measure e src).glb.time.state = .locked ∧
    (s.measure e src).glb.time.lastMeas = some s.tick ∧ (s.measure e src).glb.time.asked = s.glb.time.asked ∧
    (s.measure e src).glb.time.ptmOk = s.glb.time.ptmOk ∧ (s.measure e src).glb.time.ppsAt = s.glb.time.ppsAt ∧
    (s.measure e src).glb.time.pending = s.glb.time.pending := by
  unfold State.measure
  extract_lets t u
  have hu : ∃ now next, u.glb = { s.glb with time := { s.glb.time with now := now, next := next } } := by
    unfold u
    split
    · exact s.stepBy_time e
    · exact ⟨s.glb.time.now, s.glb.time.next, rfl⟩
  clear_value u
  obtain ⟨now, next, hu⟩ := hu
  simp [hu, State.tick]

/-- A PTM response in time (R475, R476). -/
theorem State.ptmAnswer_takes {s : State} {a : Nat} (src : Nat) (asked : s.glb.time.asked = some a) (inTime : s.tick < a + msTicks 1) :
    (s.ptmAnswer src).glb.time.asked = none ∧ (s.ptmAnswer src).glb.time.ptmOk = true ∧
      ((s.onTime fun t => { t with asked := none, ptmOk := true }).timeSrc = 1 →
        (s.ptmAnswer src).glb.time.state = .locked ∧ (s.ptmAnswer src).glb.time.lastMeas = some s.tick) := by
  let u := s.draw.2.onTime fun t => { t with asked := none, ptmOk := true }
  have eq : s.ptmAnswer src = if u.timeSrc != 1 then u
      else u.measure ((src : Int) - (u.glb.time.now + Config.phase s.draw.1 % 1280 : Nat)) 1 := by
    simp only [State.ptmAnswer, asked]
    exact if_neg (Nat.not_le.mpr inTime)
  have same : (s.onTime fun t => { t with asked := none, ptmOk := true }).timeSrc = u.timeSrc := rfl
  rw [same]
  by_cases h : u.timeSrc = 1
  · obtain ⟨state, last, asked', ok, -, -⟩ := u.measure_locks ((src : Int) - (u.glb.time.now + Config.phase s.draw.1 % 1280 : Nat)) 1
    have eq' : s.ptmAnswer src = u.measure _ 1 := eq.trans (if_neg (by simp [h]))
    rw [eq', asked', ok]
    exact ⟨rfl, rfl, fun _ => ⟨state, last⟩⟩
  · rw [eq, if_pos (by simp [h])]
    exact ⟨rfl, rfl, fun h' => absurd h' h⟩

/-- An edge of PPS_IN within the running tick (R477). -/
theorem State.ppsEdge_takes {s : State} (tod : Nat) (early : s.glb.time.now ≤ tod) (late : tod < s.glb.time.now + 2560) (hb : s.glb.boot = 7) :
    (s.ppsEdge tod).glb.time.ppsAt = some s.tick ∧
      ((s.onTime fun t => { t with ppsAt := some s.tick }).timeSrc = 2 → s.glb.time.state ≠ .locked →
        (s.ppsEdge tod).glb.time.state = .locked ∧ (s.ppsEdge tod).glb.time.pending = none ∧
          (s.ppsEdge tod).glb.time.lastMeas = some s.tick) := by
  have go : (Decidable.decide (tod < s.glb.time.now) || Decidable.decide (s.glb.time.now + 2560 ≤ tod) || s.glb.boot != 7) = false := by
    simp [hb, Nat.not_lt.mpr early, late]
  obtain ⟨x, hx⟩ : ∃ x, x = s.ppsEdge tod := ⟨_, rfl⟩
  rw [← hx]
  unfold State.ppsEdge at hx
  rw [if_neg (ne_true_of_eq_false go)] at hx
  extract_lets u near e t odd far w at hx
  clear_value near e odd
  have other (h : u.timeSrc ≠ 2) : x = u := hx.trans (if_pos (by simp [h]))
  have mine (h : u.timeSrc = 2) : x = _ := hx.trans (if_neg (by simp [h]))
  by_cases h : u.timeSrc = 2
  · have notFar (hs : s.glb.time.state ≠ .locked) : (far && !agree odd) = false := by
      have : (t.state == TimeState.locked) = false := beq_eq_false_iff_ne.mpr hs
      simp only [far, this, Bool.false_and]
    by_cases hf : (far && !agree odd) = true
    · rw [(mine h).trans (if_pos hf)]
      refine ⟨by simp; rfl, fun _ hs => absurd hf (by simp [notFar hs])⟩
    · have taken := (mine h).trans (if_neg hf)
      have tick : w.tick = s.tick := rfl
      have pps : w.glb.time.ppsAt = some s.tick := rfl
      cases hp : t.pending with
      | none =>
        rw [hp] at taken
        obtain ⟨state, last, -, -, ppsAt, pending⟩ := w.measure_locks e 2
        rw [taken, state, last, ppsAt, pending]
        exact ⟨pps, fun _ _ => ⟨rfl, hp, rfl⟩⟩
      | some v =>
        rw [hp] at taken
        obtain ⟨now, next, stepped⟩ := w.stepBy_time ((v : Int) - tod)
        have hpps : (w.stepBy ((v : Int) - tod)).glb.time.ppsAt = some s.tick := by rw [stepped]; exact pps
        have htick : (w.stepBy ((v : Int) - tod)).tick = s.tick := (congrArg Glb.tick stepped :)
        rw [taken]
        exact ⟨hpps, fun _ _ => ⟨rfl, rfl, congrArg some htick⟩⟩
  · rw [other h]
    exact ⟨rfl, fun h' => absurd h' h⟩

/-! ### The source lost, a time set -/

/-- The source is lost (R476). -/
theorem State.timeLost_acts {s : State} {m : Nat} (last : s.glb.time.lastMeas = some m) :
    (s.glb.time.state = .locked → 2 * max 1 s.glb.time.gap ≤ s.tick - m → s.timeLost = s.onTime fun t => { t with state := .holdover }) ∧
    (s.glb.time.state = .holdover → 781250 ≤ s.tick - m →
      s.timeLost = (s.onTime fun t => { t with state := .free }).raise blkGLB s.mir.primary 1 0) := by
  unfold State.timeLost
  simp only [last, Option.getD_some, Option.isSome_some, Bool.true_and]
  refine ⟨fun hs age => ?_, fun hs age => ?_⟩ <;> rw [hs]
  · exact if_neg (by simpa using age)
  · exact if_neg (Nat.not_lt.mpr age)

/-! ### The lifetime store (R485 to R487) -/

/-- What GLB_LIFE_SEL leaves: the item selected, whether it is valid, and its data. -/
def State.lifeShown (s : State) (v : Nat) (ok : Bool) (d : List Nat) : State :=
  s.onGlb fun g => { g with lifeSel := BitVec.ofNat 32 (place v 18 0 + place (bits v 31 31) 1 31), lifeValid := ok, lifeData := padTo 8 0 d }

theorem State.lifeSelect_empty {s : State} {v : Nat} (hb : bit v 31 = false) (empty : s.flash.block = 0) :
    s.lifeSelect v = s.lifeShown v false [] :=
  (if_neg (ne_true_of_eq_false hb)).trans (if_pos (beq_iff_eq.mpr empty))

theorem State.lifeSelect_counter {s : State} {v : Nat} (hb : bit v 31 = false) (saved : s.flash.block ≠ 0) :
    s.lifeSelect v = s.lifeShown v true [Tbl.getD s.flash.counters (bits v 17 0) 0] :=
  (if_neg (ne_true_of_eq_false hb)).trans (if_neg (by simpa using saved))

theorem State.lifeSelect_record {s : State} {v : Nat} {r : LogRec} (hb : bit v 31 = true) (hr : s.flash.log[bits v 17 0]? = some r)
    (good : r.good = true) :
    s.lifeSelect v = s.lifeShown v true ((List.range 8).map fun k => leNat ((r.bytes.drop (8 * k)).take 8)) := by
  simp only [State.lifeSelect, hb, hr, good, if_true, State.lifeShown]

/-- What it shows is in its window, and the flash is as it was. -/
theorem State.lifeShown_window (s : State) (v : Nat) (ok : Bool) (d : List Nat) : (s.lifeShown v ok d).glb.lifeValid = ok ∧
    (s.lifeShown v ok d).glb.lifeData = padTo 8 0 d ∧ (s.lifeShown v ok d).flash = s.flash :=
  ⟨rfl, rfl, State.onGlb_flash ..⟩

theorem exec_glbLifeSel {s t : State} {fn : Nat} {v : Word} (may : s.mayGlb fn = true) (h : s.lifeSelect v.toNat = t) :
    exec (.glbLifeSel fn v) s = .next t :=
  congrArg Host.Outcome.next ((if_pos may).trans h)

/-- Settles O50: each row by what its operation leaves of network time and of the flash. -/
theorem networkTimeAndTheLog : Obligations.NetworkTimeAndTheLog := by
  unfold Obligations.NetworkTimeAndTheLog
  intro s fn
  refine ⟨fun l hl low up hb => ?_, fun a asked => ⟨fun src inTime => ?_, fun h => ?_, fun h => ?_⟩, fun tod early late hb => ?_,
    fun m last => ?_, fun v may => ⟨fun h => ?_, fun h h' => ?_, fun hb empty => ?_, fun hb saved => ?_, fun r hb hr good => ?_⟩,
    fun h good => ?_, fun r rest hq hd => ?_⟩
  · subst hl
    have ready (h : s.glb.time.lastReq + s.glb.time.ptmTicks ≤ s.tick) :
        (Decidable.decide (1 < bits s.glb.time.ctrl.toNat 1 0) || (s.link (bits s.glb.time.ctrl.toNat 12 8)).state != .up ||
          Decidable.decide (s.tick < s.glb.time.lastReq + s.glb.time.ptmTicks) || s.glb.boot != 7) = false := by
      simp [up, hb, Nat.not_lt.mpr low, Nat.not_lt.mpr h]
    exact ⟨fun h => congrArg Host.Outcome.next (if_pos (by simp [h])),
      fun h => congrArg Host.Outcome.next (if_neg (ne_true_of_eq_false (ready h)))⟩
  · have frame := State.ptmAnswer_frame (s := s) (src := src) rfl (Frame.refl 10578176 s)
    obtain ⟨none_, ok, locks⟩ := State.ptmAnswer_takes src asked inTime
    exact ⟨_, rfl, none_, ok, locks, frame.same .mem rfl, frame.same .dir rfl⟩
  · refine congrArg Host.Outcome.next ?_
    simp only [State.ptmLate, asked, h, if_true]
  · refine congrArg Host.Outcome.next ?_
    simp only [State.ptmLate, asked, Nat.not_lt.mpr h, if_false]
  · have frame := State.ppsEdge_frame (s := s) (tod := tod) rfl (Frame.refl 2189568 s)
    obtain ⟨at_, locks⟩ := State.ppsEdge_takes tod early late hb
    exact ⟨_, rfl, at_, frame.same .mem rfl, frame.same .dir rfl, locks⟩
  · obtain ⟨holds, frees⟩ := State.timeLost_acts last
    exact ⟨fun hs age => congrArg Host.Outcome.next (holds hs age), fun hs age => congrArg Host.Outcome.next (frees hs age)⟩
  · have free : (s.timeSrc == 1 && s.glb.time.state == .locked) = false := by
      rcases h with h | h <;> simp [h]
    exact congrArg Host.Outcome.next ((if_pos may).trans (if_neg (ne_true_of_eq_false free)))
  · exact congrArg Host.Outcome.next ((if_pos may).trans (if_pos (by simp [h, h'])))
  · exact ⟨_, exec_glbLifeSel may (State.lifeSelect_empty hb empty), State.lifeShown_window ..⟩
  · exact ⟨_, exec_glbLifeSel may (State.lifeSelect_counter hb saved), State.lifeShown_window ..⟩
  · exact ⟨_, exec_glbLifeSel may (State.lifeSelect_record hb hr good), State.lifeShown_window ..⟩
  · refine congrArg Host.Outcome.next ?_
    unfold State.logWrite
    rcases h with h | h
    · rw [h]
    · cases s.glb.logQ <;> simp [h]
  · exact ⟨congrArg Host.Outcome.next (by simp [State.logWrite, hq, hd]), congrArg Host.Outcome.next (by simp [State.logWrite, hq, hd])⟩

end Sys2Proof.Machine
end

section
/-! PROOFS. Power states (SPEC: R497 to R502). -/

namespace Sys2Proof.Machine

section
variable {s : State} {fn : Nat}

theorem State.takeTarget_closed (t : Nat) (shut : s.targetOpen fn = false) : s.takeTarget fn t = s := if_pos (by simp [shut])

/-- TARGET 0, 1 or 3 outside G-CELLAR (Table 18.5). -/
theorem State.takeTarget_doze {t : Nat} (may : s.targetOpen fn = true) (ht : t ≠ 2) (idle : s.glb.change = .none) :
    s.takeTarget fn t = s.onGlb fun g => { g with target := t, pstate := if t = 1 then .doze else .active } := by
  by_cases h : t = 1 <;> simp [State.takeTarget, may, ht, State.onGlb, idle, h]

/-- TARGET 0, 1 or 3 during the exit names the state that READY brings (R502). -/
theorem State.takeTarget_exiting {t a : Nat} (may : s.targetOpen fn = true) (ht : t ≠ 2) (exit : s.glb.change = .exiting a) :
    s.takeTarget fn t = s.onGlb fun g => { g with target := t, change := .exiting (if t = 1 then 1 else 0) } := by
  simp [State.takeTarget, may, ht, State.onGlb, exit]

theorem State.takeTarget_cellar (may : s.targetOpen fn = true) : s.takeTarget fn 2 = s.enterCellar := by simp [State.takeTarget, may]

/-- The first cause of R499 that holds refuses the entry and leaves TARGET. -/
theorem State.enterCellar_refused (h : s.cellarRefusal ≠ 0) : s.enterCellar = s.onGlb fun g => { g with refuse := s.cellarRefusal } :=
  if_pos (by simp [h])

end

/-! ### What the links' loss leaves of GLB -/

theorem State.downLinks_glb (l : List Nat) (s : State) : (l.foldl (fun s p => s.downLink p) s).glb = s.glb :=
  foldl_same State.glb (fun u _ => (State.downLink_frame rfl (Frame.refl 2158356 u)).same .glb rfl) l s

theorem State.linkDowns_glb (l : List Nat) (s : State) : (l.foldl (fun s p => s.linkDown p) s).glb = s.glb :=
  foldl_same State.glb (fun u _ => (State.linkDown_frame rfl (Frame.refl 2158364 u)).same .glb rfl) l s

theorem State.agentLinks_glb (s : State) : s.agentLinks.glb = s.glb := (State.agentLinks_frame rfl (Frame.refl 2158364 s)).same .glb rfl

theorem State.saveCounters_glb (s : State) : s.saveCounters.glb = { s.glb with life := s.calendar } := rfl

theorem State.endGrace_glb (s : State) : s.endGrace.glb = { s.glb with grace := some (s.glb.tick + msTicks 60) } := rfl

/-- The entry to G-CELLAR begins (R500). -/
theorem State.enterCellar_begins {s : State} (free : s.cellarRefusal = 0) (idle : s.glb.change = .none) :
    s.enterCellar.glb.target = 2 ∧ s.enterCellar.glb.change = .entering ∧ s.enterCellar.glb.grace = some s.tick ∧
      s.enterCellar.mem = s.mem ∧ s.enterCellar.rgn = s.rgn := by
  have frame := State.enterCellar_frame (s := s) rfl (Frame.refl 2748188 s)
  have go : (s.cellarRefusal != 0 || s.glb.change != .none) = false := by simp [free, idle]
  have glb : ∃ life, s.enterCellar.glb = { s.glb with target := 2, change := .entering, grace := some s.tick, life := life } := by
    unfold State.enterCellar
    extract_lets c u u1 u2 u3
    rw [if_neg (ne_true_of_eq_false go)]
    have h3 : u3.glb = u2.glb := foldl_same State.glb (fun u l => by split <;> rfl) _ u2
    have h : u3.agentLinks.glb = u.glb := by rw [State.agentLinks_glb, h3, State.linkDowns_glb, State.downLinks_glb]
    refine ⟨u3.agentLinks.calendar, ?_⟩
    rw [State.saveCounters_glb, h]
    rfl
  obtain ⟨life, glb⟩ := glb
  rw [glb]
  exact ⟨rfl, rfl, rfl, frame.same .mem rfl, frame.same .rgn rfl⟩

/-! ### The entry's end, and the exit -/

theorem State.release_glb (s : State) (t : Nat) : (s.release t).glb = s.glb := (State.release_frame rfl (Frame.refl 2157312 s)).same .glb rfl

theorem State.cellarIn_waits {s : State} (h : s.glb.change ≠ .entering ∨ s.stacksIn .selfRefresh = false) : s.cellarIn = s :=
  if_pos (by rcases h with h | h <;> simp [h])

/-- Every stack is in self-refresh: the part is in G-CELLAR (R500). -/
theorem State.cellarIn_enters {s : State} (entering : s.glb.change = .entering) (asleep : s.stacksIn .selfRefresh = true) :
    s.cellarIn.glb.pstate = .cellar ∧ s.cellarIn.glb.change = .none ∧ s.cellarIn.mem = s.mem ∧ s.cellarIn.mcx = s.mcx := by
  have frame := State.cellarIn_frame (s := s) rfl (Frame.refl 2222848 s)
  have go : (s.glb.change != .entering || !s.stacksIn .selfRefresh) = false := by simp [entering, asleep]
  have eq : s.cellarIn = ((s.onMir fun m => { m with loft := s.snapshot, sent := none }).release s.tick).onGlb fun g =>
      { g with pstate := .cellar, change := .none } := if_neg (ne_true_of_eq_false go)
  refine ⟨?_, ?_, frame.same .mem rfl, frame.same .mcx rfl⟩ <;> rw [eq] <;> rfl

/-- TARGET written through the watch link begins the exit (R502). -/
theorem State.cellarOut_begins {s : State} {fn target : Nat} (may : s.mayPstate fn = true) (watch : fn = s.watchFn) (cellar : s.cellar = true)
    (idle : s.glb.change = .none) (ht : target ≠ 2) :
    ∃ t : State, s.cellarOut fn target = t ∧ t.glb.target = target ∧ t.glb.change = .exiting (if target = 1 then 1 else 0) ∧
      t.mcx = { s.mcx with wakeAt := some (s.tick + 1 + msTicks 3) } ∧ t.flt = { s.flt with rail := true, recovery := true } ∧
      t.mem = s.mem ∧ t.dir = s.dir := by
  have go : (!s.mayPstate fn || fn != s.watchFn || !s.cellar || s.glb.change != .none || target == 2) = false := by
    subst watch
    simp [may, cellar, idle, ht]
  refine ⟨_, if_neg (ne_true_of_eq_false go), rfl, ?_, rfl, rfl, rfl, rfl⟩
  by_cases h : target = 1 <;> simp [h]

theorem State.cellarOut_refused {s : State} {fn target : Nat} (h : fn ≠ s.watchFn ∨ target = 2) : s.cellarOut fn target = s :=
  if_pos (by rcases h with h | h <;> simp [h])

theorem State.retrainWatch_glb (s : State) (l : Nat) :
    (if s.isWatch l && (s.link l).state == .up then s.setLink l fun k => { k with state := .recovery }
      else if s.mayTrain l then s.setLink l fun k => { k with state := .training } else s).glb = s.glb := by
  split
  · rfl
  · split <;> rfl

/-- The exit reaches READY (Table 18.6): its power state, and the grace of R501. -/
theorem State.cellarReady_ends {s : State} {t0 : Nat} (exit : s.glb.change = .exiting t0) (kept : s.pwr.retLost = false)
    (ready : s.stacksIn .ready = true) :
    s.cellarReady.glb.pstate = (if t0 = 1 then .doze else .active) ∧ s.cellarReady.glb.change = .none ∧
      s.cellarReady.glb.grace = some (s.tick + msTicks 60) ∧ s.cellarReady.mem = s.mem := by
  have frame := State.cellarReady_frame (s := s) rfl (Frame.refl 2748380 s)
  have glb : s.cellarReady.glb = { s.glb with pstate := if t0 = 1 then .doze else .active, change := .none, grace := some (s.tick + msTicks 60) } := by
    unfold State.cellarReady
    rw [exit]
    dsimp -zeta only
    rw [if_neg (ne_true_of_eq_false kept), if_neg (by simp [ready])]
    extract_lets u u1 u2 u3
    have hu : u.glb = { s.glb with pstate := if t0 = 1 then .doze else .active, change := .none } := by
      by_cases h : t0 = 1 <;> simp [u, h]
    have h3 : u3.glb = u.glb := foldl_same State.glb State.retrainWatch_glb _ u2
    rw [State.endGrace_glb, State.onMir_glb, h3, hu]
    rfl
  rw [glb]
  exact ⟨rfl, rfl, rfl, frame.same .mem rfl⟩

/-- Settles O52: a write of TARGET settled by its value and by the change under way, the entry and the exit by the frames of what the
links' loss reaches. -/
theorem powerStatesChange : Obligations.PowerStatesChange := by
  unfold Obligations.PowerStatesChange
  intro s fn
  have asked (may : s.targetOpen fn = true) (t : Nat) : s.askTarget fn t = s.later (.pstate fn t) := if_pos may
  have turned (shut : s.targetOpen fn = false) (t : Nat) : s.askTarget fn t = s := if_neg (ne_true_of_eq_false shut)
  refine ⟨fun may =>
      ⟨congrArg Host.Outcome.next (asked may 1), congrArg Host.Outcome.next (asked may 0), congrArg Host.Outcome.next (asked may 2)⟩,
    fun shut =>
      ⟨congrArg Host.Outcome.next (turned shut 1), congrArg Host.Outcome.next (turned shut 0), congrArg Host.Outcome.next (turned shut 2), fun t0 => State.takeTarget_closed t0 shut⟩,
    fun may idle => ⟨?_, fun t0 h1 h2 => ?_, fun h => ?_, fun h => ?_⟩,
    fun a may exit t0 ht => State.takeTarget_exiting may ht exit, fun h => ?_, fun entering asleep => ?_, fun target may watch cellar idle ht => ?_,
    fun target h => ?_, fun t0 exit => ⟨fun lost => ?_, fun kept busy => ?_, fun kept ready => ?_⟩⟩
  · exact State.takeTarget_doze may (by decide) idle
  · exact (State.takeTarget_doze may h2 idle).trans (by rw [if_neg h1])
  · exact (State.takeTarget_cellar may).trans (State.enterCellar_refused h)
  · exact ⟨_, State.takeTarget_cellar may, State.enterCellar_begins h idle⟩
  · exact congrArg Host.Outcome.next (State.cellarIn_waits h)
  · exact ⟨_, rfl, State.cellarIn_enters entering asleep⟩
  · obtain ⟨t, eq, rest⟩ := State.cellarOut_begins may watch cellar idle ht
    exact ⟨t, congrArg Host.Outcome.next eq, rest⟩
  · exact congrArg Host.Outcome.next (State.cellarOut_refused h)
  · refine congrArg Host.Outcome.next ?_
    simp only [State.cellarReady, exit, lost, if_true]
  · refine congrArg Host.Outcome.next ?_
    simp [State.cellarReady, exit, kept, busy]
  · exact ⟨_, rfl, State.cellarReady_ends exit kept ready⟩

end Sys2Proof.Machine
end

section
/-! PROOFS. The host links' states change with the links' own operations alone: what follows a link's loss (R97, R334) writes records,
answers requests and stops transfers, and leaves the table of links as it is. -/

namespace Sys2Proof.Machine

/-! ### Records and messages -/

@[simp] theorem State.setFn_links (s : State) (fn : Nat) (f : Func → Func) : (s.setFn fn f).pci.links = s.pci.links := rfl

theorem State.msix_links (s : State) (fn cls vec : Nat) : (s.msix fn cls vec).pci.links = s.pci.links := by
  unfold State.msix
  extract_lets f
  split
  · rfl
  · split
    · rfl
    · exact congrArg Pci.links (s.hostTlp_pci cls 1 _)

theorem State.writeRing_links (s : State) (fn : Nat) (r : Resp) : (s.writeRing fn r).pci.links = s.pci.links := by
  simp [State.writeRing, State.msix_links]

theorem State.putRing_links (s : State) (fn : Nat) (r : Resp) : (s.putRing fn r).pci.links = s.pci.links := by
  unfold State.putRing
  split
  · rfl
  · split
    · exact s.writeRing_links fn r
    · split
      · rfl
      · exact congrArg Pci.links (s.bump_pci _ _ _)

theorem State.sendPkt_pci (s : State) (p : Nat) (k : Pkt) : (s.sendPkt p k).pci = s.pci :=
  (State.sendPkt_frame rfl (Frame.refl 10240 s)).same .pci rfl

theorem State.selectMsgPort_pci (s : State) (a : Nat) : (s.selectMsgPort a).pci = s.pci :=
  (State.selectMsgPort_frame rfl (Frame.refl 2124032 s)).same .pci rfl

theorem State.message_links (s : State) (a : Nat) (r : Resp) : (s.message a r).pci.links = s.pci.links := by
  unfold State.message
  extract_lets r' u rt k
  have hu : u.pci.links = s.pci.links := congrArg Pci.links (s.selectMsgPort_pci a)
  split
  · split
    · exact s.putRing_links _ _
    · exact congrArg Pci.links (s.bump_pci _ _ _)
  · rw [← hu]
    split
    · split
      · exact congrArg Pci.links (u.bump_pci _ _ _)
      · split
        · rfl
        · exact congrArg Pci.links (u.sendPkt_pci _ _)
    · exact congrArg Pci.links (u.bump_pci _ _ _)

/-! ### Answers -/

theorem State.winError_links (s : State) (fn pva : Nat) (st : Status) : (s.winError fn pva st).pci.links = s.pci.links := by
  simp [State.winError]

theorem State.barFinish_links (s : State) : s.barFinish.pci.links = s.pci.links := by
  unfold State.barFinish
  rcases List.partition (fun w : WinReq => w.pieces.length == w.total) s.pci.wins with ⟨done, rest⟩
  refine foldl_same (fun u : State => u.pci.links) (fun u w => ?_) done (s.onPci fun c => { c with wins := rest })
  dsimp only
  split
  · exact (congrArg Pci.links (State.hostTlp_pci _ _ _ _)).trans (u.winError_links _ _ _)
  · exact congrArg Pci.links (u.hostTlp_pci _ _ _)

theorem State.respondVia_links (s : State) (a : Nat) (v : Via) (k : Option Nat) (r : Resp) : (s.respondVia a v k r).pci.links = s.pci.links := by
  cases v with
  | trellis p x => exact congrArg Pci.links (s.sendPkt_pci _ _)
  | slot fn => exact s.putRing_links _ _
  | bar4 fn id piece =>
    simp only [State.respondVia]
    split
    · exact State.barFinish_links _
    · split
      · rfl
      · exact s.winError_links _ _ _
  | engine => rfl

theorem State.respondNow_links (s : State) (q : PReq) (k : Option Nat) (r : Resp) : (s.respondNow q k r).pci.links = s.pci.links := by
  unfold State.respondNow
  split
  · rfl
  · refine foldl_same (fun u : State => u.pci.links) (fun u v => ?_) _ s
    cases v with
    | bar4 fn id piece => exact u.respondVia_links _ _ _ _
    | trellis p x =>
      dsimp only
      split
      · exact u.respondVia_links _ _ _ _
      · rfl
    | slot fn =>
      dsimp only
      split
      · exact u.respondVia_links _ _ _ _
      · rfl
    | engine =>
      dsimp only
      split
      · exact u.respondVia_links _ _ _ _
      · rfl

theorem State.respondHeld_links (s : State) (q : PReq) (k : Option Nat) (r : Resp) : (s.respondHeld q k r).pci.links = s.pci.links := by
  unfold State.respondHeld
  split
  · exact congrArg Pci.links s.change_pci
  · exact s.respondNow_links q k r

theorem State.finish_links (s : State) (q : PReq) (page : Option Nat) (c : Bool) (k : Option Nat) (r : Resp) :
    (s.finish q page c k r).pci.links = s.pci.links := by
  unfold State.finish
  split
  · rfl
  · extract_lets r'
    split
    · exact (s.putRec q page r').respondHeld_links q k r'
    · split
      · exact s.respondHeld_links q k _
      · exact s.respondNow_links q k _

/-! ### Transfers and write-backs that stop -/

theorem State.transferEnds_links (s : State) (id : Nat) (now : Bool) : (s.transferEnds id now).pci.links = s.pci.links := by
  unfold State.transferEnds
  split
  · split
    · rfl
    · split
      · exact State.putRing_links _ _ _
      · rfl
  · rfl

theorem State.stopData_links (s : State) (p : PReq → Nat → Bool) (st : Option Status) (d : Nat) (now : Bool) :
    (s.stopData p st d now).pci.links = s.pci.links := by
  unfold State.stopData
  refine foldl_same (fun u : State => u.pci.links) (fun u t => ?_) _ s
  dsimp only
  split
  · rfl
  · exact State.transferEnds_links _ _ _

theorem State.wbAsk_links (s : State) (i : Nat) (w : WriteBack) (n : Nat) : (s.wbAsk i w n).pci.links = s.pci.links := by
  unfold State.wbAsk
  split
  · dsimp only
    exact (congrArg Pci.links (State.hostTlp_pci _ _ _ _)).trans rfl
  · dsimp only
    exact (congrArg Pci.links (State.sendPkt_pci _ _ _)).trans rfl
  · rfl

theorem State.wbPump_links (s : State) (i fuel : Nat) : (s.wbPump i fuel).pci.links = s.pci.links := by
  induction fuel generalizing s with
  | zero => rfl
  | succ k ih =>
    unfold State.wbPump
    split
    · rfl
    · extract_lets rcv n u
      split
      · rfl
      · exact (ih _).trans (s.wbAsk_links i _ n)

theorem State.startNext_links (s : State) (i : Nat) (w : Option WriteBack) : (s.startNext i w).pci.links = s.pci.links := by
  cases w with
  | none => rfl
  | some w => exact State.wbPump_links _ i 64

theorem State.stopWb_links (s : State) (i : Nat) (c : Status) (d : Nat) : (s.stopWb i c d).pci.links = s.pci.links := by
  unfold State.stopWb
  split
  · rfl
  · extract_lets u u1 u2
    have h1 : u1.pci.links = s.pci.links := (congrArg Pci.links (State.change_pci _)).trans rfl
    have h2 : u2.pci.links = u1.pci.links :=
      congrArg Pci.links ((State.event_pci _ _ _ _).trans (u1.bump_pci _ _ _))
    exact (u2.finish_links _ _ _ _ _).trans (h2.trans h1)

theorem State.breakWb_links (s : State) (i : Nat) (c : Status) (d : Nat) : (s.breakWb i c d).pci.links = s.pci.links := by
  unfold State.breakWb
  extract_lets next u
  have hu : u.pci.links = s.pci.links := s.stopWb_links i c d
  clear_value next u
  cases next with
  | none => exact hu
  | some w => exact (u.startNext_links i (some w)).trans hu

/-! ### The links of agents -/

theorem State.dropResponses_links (s : State) (a : Nat) : (s.dropResponses a).pci.links = s.pci.links :=
  foldl_same (fun u : State => u.pci.links) (fun u fn => u.setFn_links fn _) _ (s.onMir _)

theorem State.agentDown_links (s : State) (a : Nat) (flr : Bool) (torn : Status) : (s.agentDown a flr torn).pci.links = s.pci.links := by
  unfold State.agentDown
  extract_lets x u u1 u2 u3
  split
  · rfl
  · have h1 : u1.pci.links = s.pci.links := State.dropResponses_links _ a
    have h2 : u2.pci.links = u1.pci.links := foldl_same (fun u : State => u.pci.links) 
      (fun u i => (u.setEntry i fun e => { e with nextWb := none }).breakWb_links i torn 0) _ u1
    have h3 : u3.pci.links = u2.pci.links := u2.stopData_links _ _ _ _
    exact (congrArg Pci.links u3.change_pci).trans (h3.trans (h2.trans h1))

theorem State.agentUp_links (s : State) (a : Nat) : (s.agentUp a).pci.links = s.pci.links := by
  unfold State.agentUp
  extract_lets x u u1
  have hu : u1.pci.links = s.pci.links := (congrArg Pci.links (State.change_pci _)).trans rfl
  split
  · rfl
  · split
    · exact (u1.message_links a _).trans hu
    · exact hu

theorem State.agentLink_links (s : State) (a : Nat) : (s.agentLink a).pci.links = s.pci.links := by
  unfold State.agentLink
  split
  · rfl
  · split
    · exact s.agentUp_links a
    · split
      · rfl
      · exact s.agentDown_links a _ _

theorem State.agentLinks_links (s : State) : s.agentLinks.pci.links = s.pci.links := by
  unfold State.agentLinks
  generalize List.range 128 = l
  exact foldl_same (fun u : State => u.pci.links) (fun u a => u.agentLink_links a) l s

/-! ### Links that go down -/

theorem State.setLink_other (s : State) {l k : Nat} (f : PLink → PLink) (h : k ≠ l) : (s.setLink l f).link k = s.link k := by
  simp [State.setLink, State.link, Tbl.getD_upd, h]

/-- A link that the part has takes the change. -/
theorem State.setLink_self {s : State} {l : Nat} (f : PLink → PLink) (present : (s.link l).state ≠ .absent) :
    (s.setLink l f).link l = f (s.link l) := by
  cases h : Tbl.find s.pci.links l with
  | none => exact absurd (by simp [State.link, Tbl.getD, h]) present
  | some x => simp [State.setLink, State.link, Tbl.getD, h]

theorem State.link_congr {s u : State} (h : u.pci.links = s.pci.links) (l : Nat) : u.link l = s.link l := by
  simp only [State.link, h]

/-- A link that leaves UP is DOWN, and no other link changes (R334). -/
theorem State.linkDown_links (s : State) (l : Nat) (present : (s.link l).state ≠ .absent) :
    (s.linkDown l).pci.links = (s.setLink l fun k => { k with state := .down, rate := 0, width := 0 }).pci.links := by
  unfold State.linkDown
  rw [if_neg (by simp [present])]
  extract_lets u u1 u2
  have h2 : u2.pci.links = u.pci.links := by
    unfold u2
    rw [State.agentLinks_links]
    rfl
  refine (foldl_same (fun u : State => u.pci.links) (fun w e => ?_) _ u2).trans h2
  split <;> rfl

/-- A host link that leaves UP by itself is out of UP, and no other link enters it. -/
theorem State.hostDown_states (s : State) (l : Nat) : ((s.hostDown l).link l).state ≠ .up ∧
    ∀ k, (s.link k).state ≠ .up → ((s.hostDown l).link k).state ≠ .up := by
  unfold State.hostDown
  by_cases h : ((s.link l).state == .up || (s.link l).state == .recovery) = true
  · have present : (s.link l).state ≠ .absent := fun ha => by simp [ha] at h
    rw [if_pos h]
    have links (k : Nat) : ((s.linkDown l).raise blkPCI (hubOfHostPort (portOfLink l)) 0 l).link k =
        (s.setLink l fun k => { k with state := .down, rate := 0, width := 0 }).link k :=
      State.link_congr ((congrArg Pci.links (State.raise_pci _ _ _ _ _)).trans (s.linkDown_links l present)) k
    have down : ((s.setLink l fun k => { k with state := .down, rate := 0, width := 0 }).link l).state ≠ .up := by
      rw [State.setLink_self _ present]
      simp
    simp only [links]
    refine ⟨down, fun k hk => ?_⟩
    by_cases hkl : k = l
    · exact hkl ▸ down
    · rwa [State.setLink_other s _ hkl]
  · rw [if_neg h]
    refine ⟨fun hu => h (by simp [hu]), fun k hk => hk⟩

/-- Every link of a list leaves UP. -/
theorem State.hostDowns_states (ls : List Nat) (s : State) (k : Nat) (h : k ∈ ls ∨ (s.link k).state ≠ .up) :
    ((ls.foldl (fun s l => s.hostDown l) s).link k).state ≠ .up := by
  induction ls generalizing s with
  | nil => exact h.resolve_left List.not_mem_nil
  | cons l r ih =>
    obtain ⟨mine, others⟩ := s.hostDown_states l
    refine ih (s.hostDown l) ?_
    rcases h with h | h
    · rcases List.mem_cons.mp h with rfl | h
      · exact .inr mine
      · exact .inl h
    · exact .inr (others k h)

end Sys2Proof.Machine
end

section
/-! PROOFS. The references, cold resets and the cold boot (SPEC: R472, R488 to R493, R513). -/

namespace Sys2Proof.Machine

/-! ### REFCLK -/

/-- Links of a part that is READY begin to train. -/
def State.trainDowns (s : State) : State :=
  (List.range 32).foldl (fun s l => if (s.link l).state == .down && s.mayTrain l then s.setLink l fun k => { k with state := .training } else s) s

/-- One link that may train begins to, and a link that is not DOWN stays as it is. -/
theorem State.trainDown_link (s : State) (l k : Nat) (h : (s.link k).state ≠ .down) :
    (if (s.link l).state == .down && s.mayTrain l then s.setLink l fun k => { k with state := .training } else s).link k = s.link k := by
  split
  · next ht =>
    refine State.setLink_other s _ fun hkl => h ?_
    rw [hkl]
    simpa using (Bool.and_eq_true_iff.mp ht).1
  · rfl

theorem State.trainDowns_link (s : State) (k : Nat) (h : (s.link k).state ≠ .down) : s.trainDowns.link k = s.link k := by
  unfold State.trainDowns
  generalize List.range 32 = ls
  induction ls generalizing s with
  | nil => rfl
  | cons l r ih =>
    have step := s.trainDown_link l k h
    exact (ih _ (by rw [step]; exact h)).trans step

/-! ### Boot -/

/-- Both hubs pass only where both seeds were recovered (R398), so SEC raises nothing. -/
theorem State.bootHubs_both {s : State} {b : BootInfo} (both : s.bootHubs b = []) : b.erased = false ∧ b.seedA = true ∧ b.seedB = true := by
  simp only [State.bootHubs, List.append_eq_nil_iff] at both
  obtain ⟨a, b'⟩ := both
  cases he : b.erased <;> cases hA : b.seedA <;> cases hB : b.seedB <;> simp_all

theorem State.logRec_glb (s : State) (k time : Nat) (d : List Byte) : ∃ q, (s.logRec k time d).glb = { s.glb with logQ := q } := by
  unfold State.logRec
  split
  · exact ⟨s.glb.logQ, State.bump_glb ..⟩
  · exact ⟨_, rfl⟩

@[simp] theorem State.logRec_sec (s : State) (k time : Nat) (d : List Byte) : (s.logRec k time d).sec = s.sec :=
  (State.logRec_frame rfl (Frame.refl 2189568 s)).same .sec rfl

@[simp] theorem State.logRec_mir (s : State) (k time : Nat) (d : List Byte) : (s.logRec k time d).mir = s.mir :=
  (State.logRec_frame rfl (Frame.refl 2189568 s)).same .mir rfl

/-- What the boot's last steps keep of the state: which hubs stand, which images were taken, and the mode. -/
structure State.SameBoot (s u : State) : Prop where
  hubA : u.glb.hubA = s.glb.hubA
  hubB : u.glb.hubB = s.glb.hubB
  lutik : u.sec.lutikB = s.sec.lutikB
  cfg : u.sec.cfgB = s.sec.cfgB
  mode : u.mir.state = s.mir.state
  primary : u.mir.primary = s.mir.primary

theorem State.SameBoot.trans {s u t : State} (a : s.SameBoot u) (b : u.SameBoot t) : s.SameBoot t :=
  ⟨b.hubA.trans a.hubA, b.hubB.trans a.hubB, b.lutik.trans a.lutik, b.cfg.trans a.cfg, b.mode.trans a.mode, b.primary.trans a.primary⟩

theorem State.bootLife_same (s : State) : s.SameBoot s.bootLife := by
  unfold State.bootLife
  extract_lets f u
  have hu : s.SameBoot u := ⟨rfl, rfl, rfl, rfl, rfl, rfl⟩
  clear_value u
  refine hu.trans ?_
  split
  · exact ⟨by simp, by simp, by simp, by simp, by simp, by simp⟩
  · split
    · exact ⟨by simp, by simp, by simp, by simp, by simp, by simp⟩
    · exact ⟨rfl, rfl, rfl, rfl, rfl, rfl⟩

/-- Tenant 0 made ACTIVE at READY, and dual-rail checking out of its boot. -/
def State.firstTenant (s : State) (int key : XtsKey) : State :=
  (s.onSec fun c => { c with int := int, tenants := [(0, { state := .active, key := key })] }).onFlt fun f => { f with rail := false }

/-- The log record of the boot. -/
def State.bootLogged (s : State) : State :=
  s.logRec 3 s.glb.time.now (leBytes 8 (Tbl.getD s.glb.life 2 0) ++ leBytes 1 s.glb.time.state.code)

theorem State.bootReady_eq (s : State) (b : BootInfo) (e : Option (Nat × Nat × Nat)) : ∃ (u : State) (int key : XtsKey),
    s.SameBoot u ∧ u.glb.boot = 7 ∧
      s.bootReady b e = (u.firstTenant int key).bootLogged.onMir fun m => { m with loft := (u.firstTenant int key).bootLogged.snapshot } := by
  unfold State.bootReady
  extract_lets u m es u1 u2
  exact ⟨u2.drawKey.2.drawKey.2, u2.drawKey.1, u2.drawKey.2.drawKey.1, ⟨rfl, rfl, rfl, rfl, rfl, rfl⟩, rfl, rfl⟩

theorem State.bootLogged_same (s : State) : s.SameBoot s.bootLogged ∧ s.bootLogged.glb.boot = s.glb.boot ∧ s.bootLogged.sec = s.sec := by
  obtain ⟨q, glb⟩ := s.logRec_glb 3 s.glb.time.now (leBytes 8 (Tbl.getD s.glb.life 2 0) ++ leBytes 1 s.glb.time.state.code)
  have mir := s.logRec_mir 3 s.glb.time.now (leBytes 8 (Tbl.getD s.glb.life 2 0) ++ leBytes 1 s.glb.time.state.code)
  have sec := s.logRec_sec 3 s.glb.time.now (leBytes 8 (Tbl.getD s.glb.life 2 0) ++ leBytes 1 s.glb.time.state.code)
  unfold State.bootLogged
  refine ⟨⟨?_, ?_, ?_, ?_, ?_, ?_⟩, ?_, sec⟩ <;> simp only [glb, mir, sec]

/-- READY (Table 18.3): tenant 0 is ACTIVE under a key of its own. -/
theorem State.bootReady_ready (s : State) (b : BootInfo) (e : Option (Nat × Nat × Nat)) : s.SameBoot (s.bootReady b e) ∧
    (s.bootReady b e).glb.boot = 7 ∧ ∃ k : XtsKey, (s.bootReady b e).sec.tenants = [(0, { state := .active, key := k })] := by
  obtain ⟨u, int, key, same, boot, eq⟩ := s.bootReady_eq b e
  have first : u.SameBoot (u.firstTenant int key) := ⟨rfl, rfl, rfl, rfl, rfl, rfl⟩
  obtain ⟨logged, hb, sec⟩ := (u.firstTenant int key).bootLogged_same
  rw [eq]
  refine ⟨((same.trans first).trans logged).trans ⟨rfl, rfl, rfl, rfl, rfl, rfl⟩, hb.trans boot, key, ?_⟩
  exact (congrArg Sec.tenants sec).trans rfl

/-- Stacks train; with every rail good and no stack or lane found bad nothing else happens (step 4). -/
theorem State.bootStacks_sound {s : State} {b : BootInfo} (rails : s.pwr.rails = []) (trained : b.stacksFailed = []) (lanes : b.lanes = []) :
    s.bootStacks b = s.onMcx fun m => { m with stk := (List.range 16).map fun k => (k, { state := .ready }) } := by
  have good (k : Nat) (f : Mcx → Mcx) : (s.onMcx f).rail k = .good := by simp [State.rail, rails, Tbl.getD, Tbl.find]
  have sound : (RailState.good == RailState.fault) = false := rfl
  have noDie : ((List.range 4).filter fun _ => false) = [] := by decide
  simp [State.bootStacks, good, sound, trained, lanes, noDie]

theorem State.trainDowns_same (s : State) : s.trainDowns.glb = s.glb ∧ s.trainDowns.sec = s.sec ∧ s.trainDowns.mir = s.mir := by
  unfold State.trainDowns
  generalize List.range 32 = ls
  exact ⟨foldl_same State.glb (fun u l => by split <;> rfl) ls s, foldl_same State.sec (fun u l => by split <;> rfl) ls s,
    foldl_same State.mir (fun u l => by split <;> rfl) ls s⟩

/-- Steps 4 to 7 with both hubs: the images taken and the mode stand before the stacks train, the hubs before the lifetime store. -/
theorem State.bootRest_eq (s : State) (b : BootInfo) (lb cb : Bool) : ∃ (u v : State) (e : Option (Nat × Nat × Nat)),
    u.pwr = s.pwr ∧ u.sec.lutikB = lb ∧ u.sec.cfgB = cb ∧ u.mir.state = .paired ∧ u.mir.primary = 0 ∧
      v.glb.hubA = true ∧ v.glb.hubB = true ∧ v.sec = (u.bootStacks b).sec ∧ v.mir = (u.bootStacks b).mir ∧
      s.bootRest b lb cb [] = (v.bootLife.bootReady b e).trainDowns := by
  unfold State.bootRest
  extract_lets img blob raised u
  have hu : u.pwr = s.pwr ∧ u.sec.lutikB = lb ∧ u.sec.cfgB = cb := ⟨rfl, rfl, rfl⟩
  clear_value u
  obtain ⟨pwr, lutik, cfg⟩ := hu
  rcases blobFunctions blob with ⟨ls, fs⟩
  refine ⟨(u.onPci fun p => { p with divs := (List.range 8).map (fun n => (n, blob.divs.getD n 0)), links := ls, funcs := fs }).onMir fun m =>
    { m with primary := 0, state := .paired }, _, _, pwr, lutik, cfg, rfl, rfl, ?_, ?_, ?_, ?_, rfl⟩
  · rfl
  · rfl
  · rfl
  · rfl

/-- Both hubs and valid images reach READY. -/
theorem State.bootRest_ready (s : State) (b : BootInfo) (lb cb : Bool) :
    (s.bootRest b lb cb []).glb.boot = 7 ∧ (s.bootRest b lb cb []).glb.hubA = true ∧ (s.bootRest b lb cb []).glb.hubB = true ∧
      (∃ k : XtsKey, (s.bootRest b lb cb []).sec.tenants = [(0, { state := .active, key := k })]) ∧
      (s.pwr.rails = [] → b.stacksFailed = [] → b.lanes = [] → (s.bootRest b lb cb []).sec.lutikB = lb ∧ (s.bootRest b lb cb []).sec.cfgB = cb ∧
        (s.bootRest b lb cb []).mir.state = .paired ∧ (s.bootRest b lb cb []).mir.primary = 0) := by
  obtain ⟨u, v, e, pwr, lutik, cfg, mode, primary, hubA, hubB, sec, mir, eq⟩ := s.bootRest_eq b lb cb
  obtain ⟨same, boot, tenants⟩ := v.bootLife.bootReady_ready b e
  obtain ⟨glb', sec', mir'⟩ := State.trainDowns_same (v.bootLife.bootReady b e)
  have kept : v.SameBoot (v.bootLife.bootReady b e).trainDowns := (v.bootLife_same.trans same).trans
    ⟨congrArg Glb.hubA glb', congrArg Glb.hubB glb', congrArg Sec.lutikB sec', congrArg Sec.cfgB sec', congrArg Mir.state mir', congrArg Mir.primary mir'⟩
  rw [eq]
  refine ⟨(congrArg Glb.boot glb').trans boot, kept.hubA.trans hubA, kept.hubB.trans hubB, ?_, fun rails trained lanes => ?_⟩
  · obtain ⟨key, tenants⟩ := tenants
    exact ⟨key, (congrArg Sec.tenants sec').trans tenants⟩
  · rw [kept.lutik, kept.cfg, kept.mode, kept.primary, sec, mir, State.bootStacks_sound (by rw [pwr, rails]) trained lanes]
    exact ⟨lutik, cfg, mode, primary⟩

/-! ### The whole boot -/

section
variable {s : State} {b : BootInfo}

/-- A boot held at its step (R488, R513). -/
theorem State.coldBoot_holds {step err : Nat} (cold : s.glb.boot = 0) (live : s.failedPart = false) (power : s.pins.pgOut = true)
    (held : bootHold b = some (step, err)) :
    s.coldBoot b = (s.onGlb fun g => { g with strap := b.strap % 64, sysclk := true, refclk := true }).onGlb fun g =>
      { g with boot := step, bootErr := err } := by
  simp [State.coldBoot, cold, live, power, held]

theorem State.coldBoot_rest {lb cb : Bool} (cold : s.glb.boot = 0) (live : s.failedPart = false) (power : s.pins.pgOut = true)
    (goes : bootHold b = none)
    (both : (s.onGlb fun g => { g with strap := b.strap % 64, sysclk := true, refclk := true }).bootHubs b = [])
    (lutik : pickSlot b.rpmc b.lutikCtr b.lutikA.ok b.lutikB.ok b.lutikA.svn b.lutikB.svn = some lb)
    (cfg : pickSlot b.rpmc b.blobCtr (blobValid b.blobA b.flashBytes) (blobValid b.blobB b.flashBytes) b.blobA.svn b.blobB.svn = some cb) :
    s.coldBoot b = (s.onGlb fun g => { g with strap := b.strap % 64, sysclk := true, refclk := true }).bootRest b lb cb [] := by
  obtain ⟨known, seedA, seedB⟩ := State.bootHubs_both both
  simp [State.coldBoot, cold, live, power, goes, both, lutik, cfg, known, seedA, seedB]

end

/-- Settles O51: REFCLK by the states of the host links, resets and boot by what each stage leaves. That the stacks read zero after a
cold reset is assumption log 9, and that one command carries the whole boot is assumption log 114. -/
theorem resetsAndBoot : Obligations.ResetsAndBoot := by
  unfold Obligations.ResetsAndBoot
  intro s
  refine ⟨?_, fun run => ?_, fun lost => ?_, fun powered => ⟨?_, fun ns h => ?_⟩, fun off => ⟨?_, fun ns => ?_⟩, fun ns h => ?_,
    ⟨rfl, rfl, rfl, rfl, rfl⟩, fun b h => ?_, fun b cold live power => ⟨fun step err held => ?_, fun lb cb goes both lutik cfg => ?_⟩⟩
  · have frame := State.refclkLost_frame (s := s) rfl (Frame.refl 2223900 s)
    refine ⟨s.refclkLost, rfl, ?_, fun l hl => State.hostDowns_states _ _ l (.inl (List.mem_range.mpr hl)), frame.same .mem rfl⟩
    unfold State.refclkLost
    generalize List.range 32 = ls
    exact congrArg Glb.refclk (foldl_same State.glb (fun u l => (State.hostDown_frame rfl (Frame.refl 2158364 u)).same .glb rfl) ls
      (s.onGlb fun g => { g with refclk := false }))
  · exact congrArg Host.Outcome.next (if_pos run)
  · have frame := State.refclkBack_frame (s := s) rfl (Frame.refl 66048 s)
    have eq : s.refclkBack = (s.onGlb fun g => { g with refclk := true }).trainDowns := if_neg (ne_true_of_eq_false lost)
    refine ⟨s.refclkBack, rfl, ?_, frame.same .mem rfl, fun l hl h => ?_⟩
    · rw [eq]
      exact congrArg Glb.refclk (State.trainDowns_same _).1
    · rw [eq]
      exact State.trainDowns_link _ l h
  · have reset : s.sysclkLost = s.cold.onGlb fun g => { g with sysclk := false } := by simp [State.sysclkLost, State.coldReset, powered]
    exact congrArg Host.Outcome.next reset
  · exact congrArg Host.Outcome.next ((if_neg (Nat.not_lt.mpr h)).trans (if_pos powered))
  · exact congrArg Host.Outcome.next (if_pos (by simp [off]))
  · refine congrArg Host.Outcome.next ?_
    simp [State.resetPin, State.coldReset, off]
  · exact congrArg Host.Outcome.next (if_pos h)
  · exact congrArg Host.Outcome.next (if_pos (by simp [h]))
  · exact ⟨_, congrArg Host.Outcome.next (State.coldBoot_holds cold live power held), rfl, rfl, rfl, rfl⟩
  · have frame := State.coldBoot_frame (s := s) (b := b) rfl (Frame.refl 12320766 s)
    obtain ⟨boot, hubA, hubB, tenants, images⟩ :=
      (s.onGlb fun g => { g with strap := b.strap % 64, sysclk := true, refclk := true }).bootRest_ready b lb cb
    rw [← State.coldBoot_rest cold live power goes both lutik cfg] at boot hubA hubB tenants images
    exact ⟨s.coldBoot b, rfl, boot, hubA, hubB, tenants, frame.same .mem rfl, images⟩

end Sys2Proof.Machine
end

section
/-! PROOFS. BAR4 requests (SPEC: R324 to R327, R339). -/

namespace Sys2Proof.Machine

/-! ### Sets of bits -/

/-- The next number after an even one differs from it in bit 0 alone. -/
theorem testBit_succ_even {q : Nat} (even : q % 2 = 0) (j : Nat) : (q + 1).testBit j = (q.testBit j || decide (j = 0)) := by
  obtain ⟨a, rfl⟩ : ∃ a, q = 2 * a := ⟨q / 2, by omega⟩
  cases j with
  | zero => simp
  | succ m => simp [Nat.testBit_succ, show (2 * a + 1) / 2 = a by omega]

theorem bit_setBit (n k i : Nat) : bit (setBit n k) i = (bit n i || decide (i = k)) := by
  unfold setBit
  split
  · next h =>
    by_cases hik : i = k
    · simp [hik, h]
    · simp [hik]
  · next h =>
    have even : n / 2 ^ k % 2 = 0 := by
      have : n / 2 ^ k % 2 ≠ 1 := by simpa [bit] using h
      omega
    have low : n % 2 ^ k < 2 ^ k := Nat.mod_lt _ (Nat.two_pow_pos k)
    have old : n = 2 ^ k * (n / 2 ^ k) + n % 2 ^ k := (Nat.div_add_mod n (2 ^ k)).symm
    have new : n + 2 ^ k = 2 ^ k * (n / 2 ^ k + 1) + n % 2 ^ k := by
      rw [Nat.mul_succ]
      omega
    rw [bit_eq_testBit, bit_eq_testBit, new, Nat.testBit_two_pow_mul_add _ low]
    conv => rhs; rw [old, Nat.testBit_two_pow_mul_add _ low]
    by_cases hik : i < k
    · simp [hik, Nat.ne_of_lt hik]
    · have : decide (i - k = 0) = decide (i = k) := by simp only [decide_eq_decide]; omega
      simp [hik, testBit_succ_even even, this]

/-- The mask of a list has exactly the list's bits. -/
theorem bit_maskOf (l : List Nat) (i : Nat) : bit (maskOf l) i = decide (i ∈ l) := by
  have fold (n : Nat) : bit (l.foldl setBit n) i = (bit n i || decide (i ∈ l)) := by
    induction l generalizing n with
    | nil => simp
    | cons k r ih => simp [ih, bit_setBit, Bool.or_assoc]
  have zero : bit 0 i = false := by simp [bit]
  rw [maskOf, fold, zero, Bool.false_or]

/-! ### The lines of a write -/

theorem getD_of_lt {α : Type} {l : List α} {i : Nat} {d : α} (h : i < l.length) : l.getD i d = l[i] := by
  rw [List.getD_eq_getElem?_getD, List.getElem?_eq_getElem h, Option.getD_some]

/-- The bytes of a write, each at its place in BAR4. -/
theorem mem_mapIdx_place (off : Nat) (data : List Byte) (x : Nat × Byte) :
    x ∈ data.mapIdx (fun i b => (off + i, b)) ↔ off ≤ x.1 ∧ x.1 < off + data.length ∧ x.2 = data.getD (x.1 - off) 0 := by
  rw [List.mem_mapIdx]
  constructor
  · rintro ⟨i, hi, rfl⟩
    simp [List.getD_eq_getElem?_getD, hi]
  · rintro ⟨lo, hi, hx⟩
    have hlt : x.1 - off < data.length := by omega
    refine ⟨x.1 - off, hlt, ?_⟩
    rw [getD_of_lt hlt] at hx
    exact Prod.ext (by dsimp only; omega) hx.symm

section
variable (off k : Nat) (data : List Byte)

/-- Those of line `k`. -/
theorem mem_lineBytes (x : Nat × Byte) : x ∈ (data.mapIdx fun i b => (off + i, b)).filter (fun x => x.1 / 64 == k) ↔
    (off ≤ x.1 ∧ x.1 < off + data.length ∧ x.2 = data.getD (x.1 - off) 0) ∧ x.1 / 64 = k := by
  rw [List.mem_filter, mem_mapIdx_place, beq_iff_eq]

theorem linePiece_mask {i : Nat} (hi : i < 64) :
    bit (linePiece off k data).2 i = true ↔ off ≤ 64 * k + i ∧ 64 * k + i < off + data.length := by
  simp only [linePiece, bit_maskOf, decide_eq_true_iff, List.mem_map, mem_lineBytes]
  constructor
  · rintro ⟨x, ⟨⟨lo, hi', -⟩, line⟩, place⟩
    have : x.1 = 64 * k + i := by omega
    omega
  · rintro ⟨lo, hi'⟩
    exact ⟨(64 * k + i, data.getD (64 * k + i - off) 0), ⟨⟨lo, hi', rfl⟩, by dsimp only; omega⟩, by dsimp only; omega⟩

theorem linePiece_byte {i : Nat} (hi : i < 64) (lo : off ≤ 64 * k + i) (hi' : 64 * k + i < off + data.length) :
    (linePiece off k data).1.getD i 0 = data.getD (64 * k + i - off) 0 := by
  have there : (64 * k + i, data.getD (64 * k + i - off) 0) ∈ (data.mapIdx fun i b => (off + i, b)).filter (fun x => x.1 / 64 == k) :=
    (mem_lineBytes off k data _).mpr ⟨⟨lo, hi', rfl⟩, by dsimp only; omega⟩
  cases found : ((data.mapIdx fun i b => (off + i, b)).filter (fun x => x.1 / 64 == k)).find? fun x => x.1 % 64 == i with
  | none => exact absurd (List.find?_eq_none.mp found _ there) (by simp; omega)
  | some x =>
    obtain ⟨⟨-, -, byte⟩, line⟩ := (mem_lineBytes off k data x).mp (List.mem_of_find?_eq_some found)
    have place : x.1 % 64 = i := by simpa using List.find?_some found
    have at_ : x.1 = 64 * k + i := by omega
    simp only [linePiece]
    rw [getD_of_lt (by simpa using hi), List.getElem_map, List.getElem_range, found, Option.map_some, Option.getD_some, byte, at_]

end

/-! ### What a BAR4 access meets -/

section
variable {s : State} {fn : Nat} {tb : Bool}

/-- The gate of a BAR4 access, for a function whose link is UP in a part that serves. -/
structure State.AtBar (s : State) (fn : Nat) : Prop where
  serving : s.serving = true
  known : s.fnExists fn = true
  link : (s.link (s.func fn).link).state = .up

theorem State.AtBar.dead (h : s.AtBar fn) (dead : s.barLive fn = false) : s.barGate fn tb = 1 := by
  simp [State.barGate, h.serving, h.known, h.link, dead]

theorem State.AtBar.rejected (h : s.AtBar fn) (live : s.barLive fn = true) (run : (s.func fn).tdi = .run) (plain : tb = false) :
    s.barGate fn tb = 2 := by
  simp [State.barGate, h.serving, h.known, h.link, live, run, plain]

theorem State.AtBar.ownerless (h : s.AtBar fn) (live : s.barLive fn = true) (passes : (s.func fn).tdi ≠ .run ∨ tb = true)
    (none_ : (s.func fn).agent = 0) : s.barGate fn tb = 3 := by
  rcases passes with p | p <;> simp [State.barGate, h.serving, h.known, h.link, live, p, none_]

theorem State.AtBar.handled (h : s.AtBar fn) (live : s.barLive fn = true) (passes : (s.func fn).tdi ≠ .run ∨ tb = true)
    (agent : (s.func fn).agent ≠ 0) : s.barGate fn tb = 4 := by
  rcases passes with p | p <;> simp [State.barGate, h.serving, h.known, h.link, live, p, agent]

end

/-! ### A request refused at the gate, and one handled -/

section
variable (s : State) (fn id : Nat)

theorem State.barRefuse_dead : s.barRefuse fn 1 (some id) = s.hostTlp 0 1 (.cpl fn id 1 []) ∧ s.barRefuse fn 1 none = s := ⟨rfl, rfl⟩

theorem State.barRefuse_rejected :
    s.barRefuse fn 2 (some id) = (s.bump blkPCI (0x0880 + 4 * (s.func fn).link)).hostTlp 0 1 (.cpl fn id 1 []) ∧
    s.barRefuse fn 2 none = s.bump blkPCI (0x0880 + 4 * (s.func fn).link) := ⟨rfl, rfl⟩

theorem State.barRefuse_failed :
    s.barRefuse fn 3 (some id) = (s.bump blkPCI (0x0800 + 4 * (s.func fn).link)).hostTlp 0 1 (.cpl fn id 1 []) ∧
    s.barRefuse fn 3 none = s.bump blkPCI (0x0800 + 4 * (s.func fn).link) := ⟨rfl, rfl⟩

end

section
variable {s : State} {fn : Nat} {tb : Bool} {g : Nat}

theorem State.bar_refused (hg : s.barGate fn tb = g) (h0 : (g == 0) = false) (h4 : (g != 4) = true) (off len id op width : Nat) (data : List Byte) :
    s.barRead fn off len id tb = (s.hostRx fn 0 0).barRefuse fn g (some id) ∧
    s.barWrite fn off data tb = (s.hostRx fn 0 data.length).barRefuse fn g none ∧
    s.barAtomic fn off op width id data tb = (s.hostRx fn 0 data.length).barRefuse fn g (some id) := by
  simp [State.barRead, State.barWrite, State.barAtomic, hg, h0, h4]

variable (handled : s.barGate fn tb = 4)
include handled

theorem State.barRead_handled (off len id : Nat) : s.barRead fn off len id tb =
    if len = 0 then (s.hostRx fn 0 0).hostTlp 0 1 (.cpl fn id 0 [])
    else (List.range ((off + len - 1) / 64 + 1 - off / 64)).foldl (fun s k =>
      s.admitIn (s.func fn).agent (.bar4 fn id k) .load { pva := s.barPva fn ((off / 64 + k) * 64) })
      ((s.hostRx fn 0 0).onPci fun c => { c with wins := c.wins ++
        [{ fn := fn, id := id, off := off, len := len, total := (off + len - 1) / 64 + 1 - off / 64, at_ := (s.hostRx fn 0 0).tick }] }) := by
  simp only [State.barRead, handled]
  rfl

theorem State.barWrite_handled (off : Nat) (data : List Byte) : s.barWrite fn off data tb =
    if data.isEmpty then s.hostRx fn 0 data.length
    else (List.range ((off + data.length - 1) / 64 + 1 - off / 64)).foldl (fun s k =>
      s.admitIn (s.func fn).agent (.bar4 fn (2 ^ 32) k) .store { pva := s.barPva fn ((off / 64 + k) * 64),
                                                                 mask := (linePiece off (off / 64 + k) data).2,
                                                                 data := (linePiece off (off / 64 + k) data).1 }) (s.hostRx fn 0 data.length) := by
  simp only [State.barWrite, handled]
  rfl

theorem State.barAtomic_refused (off op width id : Nat) (data : List Byte) (bad : barAtop op width = none) :
    s.barAtomic fn off op width id data tb = (s.hostRx fn 0 data.length).barRefuse fn 3 (some id) := by
  simp only [State.barAtomic, handled, bad]
  rfl

theorem State.barAtomic_handled (off op width id a : Nat) (wide : Bool) (data : List Byte) (good : barAtop op width = some (a, wide)) :
    s.barAtomic fn off op width id data tb =
      let u := (s.hostRx fn 0 data.length).onPci fun c => { c with wins := c.wins ++
        [{ fn := fn, id := id, off := off, len := width, atomic := true, total := 1, at_ := (s.hostRx fn 0 data.length).tick }] }
      u.admitIn (u.func fn).agent (.bar4 fn id 0) .atomic
        { pva := u.barPva fn off, atop := a, wide := wide
          operands := if a = 2 then padTo 16 0 (data.take width) ++ padTo 16 0 (data.drop width) else padTo 32 0 data } := by
  simp only [State.barAtomic, handled, good]
  rfl

end

/-- Settles O53: the gate by its cases, the lines of a request by the model's own cut. That an AtomicOp of a size R325 refuses is counted
and answered as a failed access is assumption log 131, that arrivals count as packets is log 11, and what a request meets at the gate rests
on log 81. -/
theorem windowRequestsAreCut : Obligations.WindowRequestsAreCut := by
  unfold Obligations.WindowRequestsAreCut
  intro s fn off len id op width data tb r v hr hv serving known link
  subst hr hv
  have bar : s.AtBar fn := ⟨serving, known, link⟩
  refine ⟨fun dead => ?_, fun live run plain => ?_, fun live passes none_ => ?_, fun live passes agent => ?_,
    fun k i hi => ⟨linePiece_mask off k data hi, linePiece_byte off k data hi⟩⟩
  · obtain ⟨read, write, atomic⟩ := State.bar_refused (bar.dead (tb := tb) dead) rfl rfl off len id op width data
    rw [(State.barRefuse_dead _ fn id).1] at read atomic
    rw [(State.barRefuse_dead _ fn id).2] at write
    exact ⟨congrArg Host.Outcome.next read, congrArg Host.Outcome.next write, congrArg Host.Outcome.next atomic⟩
  · obtain ⟨read, write, atomic⟩ := State.bar_refused (bar.rejected live run plain) rfl rfl off len id op width data
    rw [(State.barRefuse_rejected _ fn id).1] at read atomic
    rw [(State.barRefuse_rejected _ fn id).2] at write
    exact ⟨congrArg Host.Outcome.next read, congrArg Host.Outcome.next write, congrArg Host.Outcome.next atomic⟩
  · obtain ⟨read, write, atomic⟩ := State.bar_refused (bar.ownerless live passes none_) rfl rfl off len id op width data
    rw [(State.barRefuse_failed _ fn id).1] at read atomic
    rw [(State.barRefuse_failed _ fn id).2] at write
    exact ⟨congrArg Host.Outcome.next read, congrArg Host.Outcome.next write, congrArg Host.Outcome.next atomic⟩
  · have handled := bar.handled live passes agent
    refine ⟨fun empty => ?_, fun n w some_ hn hw => ?_, fun empty => ?_, fun n some_ hn => ?_, fun w u hw hu => ⟨fun h8 h2 => ?_, fun hw' h2 => ?_⟩, fun bad => ?_⟩
    · exact congrArg Host.Outcome.next ((State.barRead_handled handled off len id).trans (if_pos empty))
    · subst hw hn
      exact congrArg Host.Outcome.next ((State.barRead_handled handled off len id).trans (if_neg (Nat.ne_of_gt some_)))
    · exact congrArg Host.Outcome.next ((State.barWrite_handled handled off data).trans (if_pos (by simp [empty])))
    · subst hn
      exact congrArg Host.Outcome.next ((State.barWrite_handled handled off data).trans (if_neg (by simpa using some_)))
    · subst hu hw
      have good : barAtop op width = some (op, false) := by simp [barAtop, h8, show op < 3 by omega]
      refine congrArg Host.Outcome.next ((State.barAtomic_handled handled off op width id op false data good).trans ?_)
      rw [if_neg (show op ≠ 2 by omega)]
    · subst hu hw h2
      have good : barAtop 2 width = some (2, width == 16) := by rcases hw' with rfl | rfl <;> rfl
      exact congrArg Host.Outcome.next (State.barAtomic_handled handled off 2 width id 2 _ data good)
    · have none_ : barAtop op width = none := by
        unfold barAtop
        rw [if_neg (by omega), if_neg (by omega)]
      exact congrArg Host.Outcome.next ((State.barAtomic_refused handled off op width id data none_).trans (State.barRefuse_failed _ fn id).1)

end Sys2Proof.Machine
end

section
/-! PROOFS. What the host answers late, and FUNC_BIND (SPEC: R326, R329, R332, R333). -/

namespace Sys2Proof.Machine

/-! ### A parked BAR4 request -/

theorem State.winError_kept (s : State) (fn pva : Nat) (st : Status) : (s.winError fn pva st).pci.wins = s.pci.wins ∧
    (s.winError fn pva st).mem = s.mem ∧ ((s.func? fn).isSome = true → ((s.winError fn pva st).func fn).winErr = true) := by
  unfold State.winError
  extract_lets u
  have pci : (u.bump blkPCI (0x0800 + 4 * (u.func fn).link)).pci = u.pci := u.bump_pci _ _ _
  refine ⟨(congrArg Pci.wins pci).trans rfl, by simp [u], fun known => ?_⟩
  have func : (u.bump blkPCI (0x0800 + 4 * (u.func fn).link)).func fn = u.func fn :=
    congrArg (fun c : Pci => (Tbl.find c.funcs fn).getD {}) pci
  rw [func, State.func_setFn_self known]

section
variable {s : State} {fn id : Nat} {w : WinReq}

theorem State.winTimeout_early (found : (s.pci.wins.find? fun w => w.fn == fn && w.id == id) = some w) (early : s.tick < w.at_ + s.winWait) :
    s.winTimeout fn id = s := by
  simp only [State.winTimeout, found, early, if_true]

/-- One parked for WIN_WAIT_MS is forgotten, its error kept, and the host told with Completer Abort (R326). -/
theorem State.winTimeout_late (found : (s.pci.wins.find? fun w => w.fn == fn && w.id == id) = some w) (late : w.at_ + s.winWait ≤ s.tick) :
    ∃ u : State, s.winTimeout fn id = u.hostTlp 0 1 (.cpl fn id 2 []) ∧ (∀ x ∈ u.pci.wins, ¬ (x.fn = fn ∧ x.id = id)) ∧
      ((s.func? fn).isSome = true → (u.func fn).winErr = true) ∧ u.mem = s.mem := by
  unfold State.winTimeout
  rw [found]
  dsimp -zeta only
  rw [if_neg (Nat.not_lt.mpr late)]
  extract_lets u1 ok bad first st u2 u3
  obtain ⟨wins, mem, error⟩ := u2.winError_kept fn (u2.barPva fn ((w.off / 64 + first) * 64)) st
  refine ⟨u3, rfl, fun x hx => ?_, error, mem⟩
  rw [wins] at hx
  rintro ⟨hf, hi⟩
  simpa [hf, hi] using (List.mem_filter.mp hx).2

end

/-! ### Reads of the host -/

/-- The kind of traffic that a read's completions count as. -/
def HostRead.traffic (r : HostRead) : Nat := match r.why with | .bundle _ _ => 1 | _ => 2

section
variable {s : State} {tag : Nat} {r : HostRead} (found : (s.pci.reads.find? fun r => r.tag == tag) = some r)
include found

/-- Data in full serves the read (R329). -/
theorem State.readCompletion_whole {data : List Byte} (enough : r.len ≤ data.length) (some_ : 0 < r.len) :
    s.readCompletion tag 0 data = ((s.hostRx r.fn r.traffic data.length).onPci fun c =>
      { c with reads := c.reads.filter fun x => x.tag != tag }).readData r (data.take r.len) := by
  have whole : (data.take r.len).length = r.len := by simp [enough]
  have here : ¬ (data.take r.len).isEmpty = true := by
    rw [List.isEmpty_iff_length_eq_zero, whole]
    omega
  unfold State.readCompletion
  rw [found]
  dsimp only
  rw [if_neg (by decide), if_neg here]
  simp only [whole, if_true]
  rfl

/-- Data in part leaves the rest of the read outstanding. -/
theorem State.readCompletion_part {data : List Byte} (short : data.length < r.len) (some_ : data ≠ []) :
    s.readCompletion tag 0 data = ((s.hostRx r.fn r.traffic data.length).onPci fun c =>
      { c with reads := c.reads.map fun x => if x.tag == tag then r.rest data.length else x }).readData r data := by
  have all : data.take r.len = data := List.take_of_length_le (by omega)
  unfold State.readCompletion
  rw [found]
  dsimp only
  rw [all, if_neg (by decide), if_neg (by simpa using some_)]
  simp only [Nat.ne_of_lt short, if_false]
  rfl

/-- An error status fails the read, and a poisoned completion is raised. -/
theorem State.readCompletion_failed {status : Nat} {data : List Byte} (error : status ≠ 0) :
    s.readCompletion tag status data =
      (if status = 3 then ((s.hostRx r.fn r.traffic data.length).onPci fun c =>
          { c with reads := c.reads.filter fun x => x.tag != tag }).raise blkPCI (hubOfHostPort (portOfLink (s.func r.fn).link)) 3 (s.func r.fn).link
        else (s.hostRx r.fn r.traffic data.length).onPci fun c =>
          { c with reads := c.reads.filter fun x => x.tag != tag }).readFail r .internal 0x000101 := by
  unfold State.readCompletion
  rw [found]
  dsimp only
  rw [if_pos (by simpa using error)]
  by_cases h : status = 3
  · subst h
    rfl
  · rw [if_neg h, if_neg (by simpa using h)]
    rfl

theorem State.readTimeout_early (early : s.tick < r.at_ + s.ctoTicks) : s.readTimeout tag = s := by
  simp only [State.readTimeout, found, early, if_true]

theorem State.readTimeout_late (late : r.at_ + s.ctoTicks ≤ s.tick) :
    s.readTimeout tag = (((s.onPci fun c => { c with reads := c.reads.filter fun x => x.tag != tag }).bump blkPCI
      (0x0900 + 4 * (s.func r.fn).link)).raise blkPCI (hubOfHostPort (portOfLink (s.func r.fn).link)) 2 (s.func r.fn).link).readFail r .timeout 0 := by
  simp only [State.readTimeout, found, Nat.not_lt.mpr late, if_false]

end

/-! ### FUNC_BIND -/

section
variable {s : State} {fn : Nat} {p : Packet}

/-- FUNC_BIND's refusals of its fields (R332, R333): neither route nor sibling function forbids the agent. -/
theorem State.doFuncBind_free (provider : s.isProvider fn = true) (known : s.fnExists (p.fld 2 7 0) = true)
    (own : s.isProvider (p.fld 2 7 0) = false ∨ p.fld 3 21 16 = 0)
    (free : p.fld 3 6 0 = 0 ∨ (s.hostAgent (p.fld 3 6 0) = true ∨ (s.route (p.fld 3 6 0)).ports % 65536 = 0) ∧
      ∀ g ∈ s.fnsOf (p.fld 3 6 0), g ≠ p.fld 2 7 0 → s.fnPort g = s.fnPort (p.fld 2 7 0) ∧ (s.func g).tenant = p.fld 3 21 16) :
    s.doFuncBind (issuer fn p) p =
      if (s.func (p.fld 2 7 0)).tdi != .unlocked then s.busy (issuer fn p) 1
      else if p.fld 3 21 16 != (s.func (p.fld 2 7 0)).tenant && s.fnBusy (p.fld 2 7 0) then s.busy (issuer fn p) 2
      else (s.bind (p.fld 2 7 0) (p.fld 3 6 0) (p.fld 3 21 16)).answer (issuer fn p) .ok := by
  have mine : s.provider (issuer fn p) = true := provider
  have other : (s.isProvider (p.fld 2 7 0) && p.fld 3 21 16 != 0) = false := by rcases own with h | h <;> simp [h]
  have agrees : (p.fld 3 6 0 != 0 && ((!s.hostAgent (p.fld 3 6 0) && (s.route (p.fld 3 6 0)).ports % 65536 != 0) ||
      ((s.fnsOf (p.fld 3 6 0)).filter fun g => g != p.fld 2 7 0).any fun g =>
        s.fnPort g != s.fnPort (p.fld 2 7 0) || (s.func g).tenant != p.fld 3 21 16)) = false := by
    rcases free with h | ⟨route, siblings⟩
    · simp [h]
    · have none_ : ((s.fnsOf (p.fld 3 6 0)).filter fun g => g != p.fld 2 7 0).any (fun g =>
          s.fnPort g != s.fnPort (p.fld 2 7 0) || (s.func g).tenant != p.fld 3 21 16) = false := by
        rw [List.any_eq_false]
        intro g hg
        obtain ⟨mem, ne⟩ := List.mem_filter.mp hg
        obtain ⟨port, tenant⟩ := siblings g mem (by simpa using ne)
        simp [port, tenant]
      rcases route with h | h <;> simp [h, none_]
  simp only [State.doFuncBind, mine, known, other, agrees]
  rfl

theorem State.bind_freed {g t : Nat} (known : s.fnExists g = true) (none_ : (s.func g).agent = 0) :
    (s.bind g 0 t).func g = { s.func g with agent := 0, tenant := t } := by
  have there : (s.func? g).isSome = true := by
    unfold State.fnExists at known
    cases h : s.func? g with
    | none => simp [h] at known
    | some f => rfl
  have eq : s.bind g 0 t = (s.setFn g fun f => { f with agent := 0, tenant := t }).change := by simp [State.bind, none_]
  rw [eq]
  exact (congrArg (fun c : Pci => (Tbl.find c.funcs g).getD {}) (State.change_pci _)).trans (State.func_setFn_self there)

end

/-- Settles O54: a parked request and a read by their deadlines, FUNC_BIND by its checks in the order of R332. -/
theorem hostReadsEnd : Obligations.HostReadsEnd := by
  unfold Obligations.HostReadsEnd
  intro s fn p tag id data
  refine ⟨fun w found => ⟨fun early => ?_, fun late => ?_⟩, fun none_ => ?_, fun none_ => ⟨?_, ?_⟩, fun r l v found hl hv => ?_, fun h => ?_,
    fun ho provider => ⟨fun gone => ?_, fun known mine tenant => ?_, ?_⟩⟩
  · exact congrArg Host.Outcome.next (State.winTimeout_early found early)
  · obtain ⟨u, eq, rest⟩ := State.winTimeout_late found late
    exact ⟨u, congrArg Host.Outcome.next eq, rest⟩
  · refine congrArg Host.Outcome.next ?_
    simp only [State.winTimeout, none_]
  · refine congrArg Host.Outcome.next ?_
    simp only [State.readCompletion, none_]
  · refine congrArg Host.Outcome.next ?_
    simp only [State.readTimeout, none_]
  · subst hl hv
    exact ⟨fun enough some_ => congrArg Host.Outcome.next (State.readCompletion_whole found enough some_),
      fun short some_ => congrArg Host.Outcome.next (State.readCompletion_part found short some_),
      fun status h0 h3 => congrArg Host.Outcome.next ((State.readCompletion_failed found h0).trans (by rw [if_neg h3]; rfl)),
      congrArg Host.Outcome.next (State.readCompletion_failed found (by decide)),
      fun early => congrArg Host.Outcome.next (State.readTimeout_early found early),
      fun late => congrArg Host.Outcome.next (State.readTimeout_late found late)⟩
  · obtain ⟨denied, -, later⟩ := State.row_provider (s := s) (fn := fn) (p := p) (c := .funcBind fn p) (fault := none) h.opcode (by decide)
      (begins_funcBind h) (fun st d => refused_funcBind h) (by simp [fieldFault, h.opcode])
    exact ⟨denied, fun hp => later hp rfl⟩
  · have mine : s.provider (issuer fn p) = true := provider
    refine (State.applyDue_cmd ho).trans ?_
    simp [State.lutikOp, State.doFuncBind, mine, gone, State.malformed]
  · have provides : s.provider (issuer fn p) = true := provider
    refine (State.applyDue_cmd ho).trans ?_
    simp [State.lutikOp, State.doFuncBind, provides, known, mine, tenant, State.malformed]
  · intro f known own hf free
    subst hf
    have settled : s.applyDue (.cmd fn p) = _ := (State.applyDue_cmd ho).trans (State.doFuncBind_free provider known own free)
    refine ⟨fun locked => ?_, fun unlocked change busy => ?_, fun unlocked idle => ⟨?_, fun none_ freed => ?_⟩⟩
    · exact settled.trans (if_pos (by simpa using locked))
    · exact settled.trans ((if_neg (by simp [unlocked])).trans (if_pos (by simp [change, busy])))
    · have idle' : (p.fld 3 21 16 != (s.func (p.fld 2 7 0)).tenant && s.fnBusy (p.fld 2 7 0)) = false := by
        rcases idle with h | h <;> simp [h]
      exact settled.trans ((if_neg (by simp [unlocked])).trans (if_neg (ne_true_of_eq_false idle')))
    · exact State.bind_freed known freed

end Sys2Proof.Machine
end

section
/-! PROOFS. Functions, host links, IDE and TDISP (SPEC: R334, R337, R338, R340, R495). -/

namespace Sys2Proof.Machine

/-! ### PERST_N -/

/-- PERST_N low changes the pins by its own level alone (R495). -/
theorem State.perstLow_pins {s : State} {n : Nat} (hn : n < 8) (high : n ∉ s.pins.perst) :
    (s.perstLow n).pins = { s.pins with perst := insertBy id n s.pins.perst } := by
  have go : ¬ (Decidable.decide (8 ≤ n) || s.pins.perst.contains n) = true := by simp [high, hn]
  unfold State.perstLow
  rw [if_neg go]
  extract_lets u ls u1 pfs
  have h1 : u1.pins = u.pins := foldl_same State.pins (fun w l => (State.linkDown_frame rfl (Frame.refl 2158364 w)).same .pins rfl) ls u
  exact (foldl_same State.pins (fun w fn => (State.flr_frame rfl (Frame.refl 2124564 w)).same .pins rfl) pfs u1).trans h1

/-- Its release retrains the port's own links. -/
theorem State.perstHigh_keeps {s : State} {n : Nat} (low : n ∈ s.pins.perst) :
    (s.perstHigh n).pins.perst = s.pins.perst.filter (fun m => m != n) ∧
      (∀ k, (∀ i, i < 4 → k ≠ 4 * n + i) → (s.perstHigh n).link k = s.link k) ∧ (s.perstHigh n).pci.funcs = s.pci.funcs := by
  have go : ¬ (!s.pins.perst.contains n) = true := by simp [low]
  unfold State.perstHigh
  rw [if_neg go]
  extract_lets u
  refine List.foldlRecOn (motive := fun w : State => w.pins.perst = s.pins.perst.filter (fun m => m != n) ∧
    (∀ k, (∀ i, i < 4 → k ≠ 4 * n + i) → w.link k = s.link k) ∧ w.pci.funcs = s.pci.funcs) _ _ ⟨rfl, fun _ _ => rfl, rfl⟩ ?_
  rintro w ⟨pins, links, funcs⟩ l hl
  obtain ⟨i, hi, rfl⟩ := List.mem_map.mp hl
  split
  · exact ⟨pins, fun k hk => (State.setLink_other w _ (hk i (List.mem_range.mp hi))).trans (links k hk), funcs⟩
  · exact ⟨pins, links, funcs⟩

/-! ### Links and streams -/

theorem State.mayTrain_present {s : State} {l : Nat} (h : s.mayTrain l = true) : (s.link l).state ≠ .absent := by
  intro absent
  simp [State.mayTrain, absent] at h

/-- A link that comes UP (R318): its rate and width, those of R500 in G-CELLAR, and no other link. -/
theorem State.hostUp_up {s : State} {l : Nat} (rate width : Nat) (may : s.mayTrain l = true) :
    ∃ u : State, s.hostUp l rate width true = u.agentLinks ∧ (u.link l).state = .up ∧ (u.link l).cause = 0 ∧
      (s.cellar = false → (u.link l).rate = rate % 8 ∧ (u.link l).width = width % 32) ∧
      (s.cellar = true → (u.link l).rate = 0 ∧ (u.link l).width = 1) ∧ ∀ k, k ≠ l → u.link k = s.link k := by
  have eq : s.hostUp l rate width true = (s.setLink l fun k =>
      { k with state := .up, rate := if s.cellar then 0 else rate % 8, width := if s.cellar then 1 else width % 32, cause := 0 }).agentLinks := by
    simp [State.hostUp, may]
  refine ⟨_, eq, ?_⟩
  rw [State.setLink_self _ (State.mayTrain_present may)]
  exact ⟨rfl, rfl, fun h => by simp [h], fun h => by simp [h], fun k hk => State.setLink_other s _ hk⟩

/-- A keyed stream that loses its security is raised, and the TDI that it protects enters ERROR (R337, Table 11.8). -/
theorem State.ideFail_secure {s : State} {l stream : Nat} {x : Ide} (found : Tbl.find (s.link l).ide stream = some x) (keyed : x.keyed = true)
    (secure : x.secure = true) {u : State} (hu : u = (s.setLink l fun k =>
      { k with ide := Tbl.upd k.ide stream fun y => { y with secure := false } }).raise blkPCI (hubOfHostPort (portOfLink l)) 1 l) :
    (x.fn = none → s.ideFail l stream = u) ∧ ∀ g, x.fn = some g → s.ideFail l stream = u.tdiError g := by
  subst hu
  unfold State.ideFail
  rw [found]
  dsimp only
  rw [if_neg (by simp [keyed, secure])]
  refine ⟨fun h => ?_, fun g h => ?_⟩ <;> rw [h]

/-! ### TDISP -/

theorem State.tdiError_enters {s : State} {fn : Nat} (h : (s.func fn).tdi = .locked ∨ (s.func fn).tdi = .run) :
    s.tdiError fn = (s.setFn fn fun f => { f with tdi := .error }).agentLink (s.func fn).agent := by
  rcases h with h | h <;> simp only [State.tdiError, h]

theorem State.tdiError_idle {s : State} {fn : Nat} (notLocked : (s.func fn).tdi ≠ .locked) (notRun : (s.func fn).tdi ≠ .run) :
    s.tdiError fn = s := by
  unfold State.tdiError
  cases h : (s.func fn).tdi with
  | locked => exact absurd h notLocked
  | run => exact absurd h notRun
  | unlocked => rfl
  | error => rfl

/-! ### Configuration writes -/

section
variable {s : State} {fn kind v : Nat} (known : s.fnExists fn = true) (still : (s.func fn).reset = none)
  (link : (s.link (s.func fn).link).state = .up)
include known still link

/-- What R338 locks with the TDI puts it in ERROR when written. -/
theorem State.configWrite_locked (h : (s.func fn).tdi = .locked ∨ (s.func fn).tdi = .run) (hk : kind = 1 ∨ kind = 2 ∨ kind = 4) :
    s.configWrite fn kind v = s.tdiError fn := by
  have locked : ((kind == 1 || kind == 2 || kind == 4) && ((s.func fn).tdi == .locked || (s.func fn).tdi == .run)) = true := by
    rcases hk with rfl | rfl | rfl <;> rcases h with h | h <;> simp [h]
  simp only [State.configWrite, known, still, link, locked]
  rfl

/-- What a TDI does not lock is taken by its kind (assumption log 83). -/
theorem State.configWrite_function : s.configWrite fn 0 v = (s.setFn fn fun f => { f with bme := v % 2 == 1 }).agentLink (s.func fn).agent ∧
    s.configWrite fn 3 3 = s.setFn fn (fun f => { f with d3 := true }) ∧ s.configWrite fn 3 0 = s.setFn fn (fun f => { f with d3 := false }) ∧
    (v < 3 → s.configWrite fn 5 v = s.setFn fn fun f => { f with mps := v }) := by
  simp +contextual [State.configWrite, known, still, link]

/-- SR-IOV and MSI-X while the TDI is neither locked nor in RUN. -/
theorem State.configWrite_unlocked (notLocked : (s.func fn).tdi ≠ .locked) (notRun : (s.func fn).tdi ≠ .run) :
    ((s.func fn).vf = 0 → s.configWrite fn 1 v = (s.setFn fn fun f => { f with vfEnable := v % 2 == 1 }).agentLinks) ∧
    ((s.func fn).vf = 0 → (s.func fn).vfEnable = false → v ≤ (s.func fn).totalVfs → s.configWrite fn 2 v = s.setFn fn fun f => { f with numVfs := v }) ∧
    s.configWrite fn 4 v = s.setFn fn fun f => { f with msixEn := v % 2 == 1 } := by
  refine ⟨fun vf => ?_, fun vf off most => ?_, ?_⟩
  · simp [State.configWrite, known, still, link, notLocked, notRun, vf]
  · simp [State.configWrite, known, still, link, notLocked, notRun, vf, off, Nat.not_lt.mpr most]
  · simp [State.configWrite, known, still, link, notLocked, notRun]

end

/-- Settles O55: links by the table of links, functions, streams and TDIs by the one record that each row changes. The kinds of a
configuration write are assumption log 83, and what an FLR and a link's loss reach rests on logs 84 and 86. -/
theorem functionsAndLinksChange : Obligations.FunctionsAndLinksChange := by
  unfold Obligations.FunctionsAndLinksChange
  intro s fn n l stream kind v flit
  refine ⟨fun h => ?_, fun known still => ⟨fun vf => ?_, _, rfl, ?_⟩, fun h => ?_, fun hn high => ?_, fun high => ?_, fun low => ?_, fun h => ?_,
    fun h h' => ?_, fun h => ?_, fun h => ?_, fun h => ?_, fun x found => ⟨fun h => ?_, fun keyed secure => ⟨_, rfl, ?_, fun g hg => ?_⟩⟩,
    fun present => ⟨?_, fun h0 h8 known link => ?_⟩,
    fun known => ⟨fun unlocked still agent tenant keyed => ?_, fun h => ?_, fun h => ?_, fun h => ?_, ?_, fun h => ?_, fun h h' => ?_⟩,
    fun known still link => ?_⟩
  · exact congrArg Host.Outcome.next (if_pos (by rcases h with h | h <;> simp [h]))
  · simp [State.flrSet, vf]
  · refine congrArg Host.Outcome.next ?_
    simp [State.flr, known, still]
  · exact congrArg Host.Outcome.next (if_pos (by rcases h with h | h <;> simp [h]))
  · exact ⟨_, rfl, State.perstLow_pins hn high⟩
  · exact congrArg Host.Outcome.next (if_pos (by simp [high]))
  · exact ⟨_, rfl, State.perstHigh_keeps low⟩
  · exact congrArg Host.Outcome.next (if_pos (by rcases h with h | h <;> simp [h]))
  · exact congrArg Host.Outcome.next (if_neg (by simp [h, h']))
  · exact congrArg Host.Outcome.next (if_pos (by simp [h]))
  · exact congrArg Host.Outcome.next ((if_neg (by simp [h])).trans (if_pos rfl))
  · obtain ⟨u, eq, rest⟩ := State.hostUp_up kind v h
    exact ⟨u, congrArg Host.Outcome.next eq, rest⟩
  · refine congrArg Host.Outcome.next ?_
    unfold State.ideFail
    rw [found]
    exact if_pos (by rcases h with h | h <;> simp [h])
  · exact fun h => congrArg Host.Outcome.next ((State.ideFail_secure found keyed secure rfl).1 h)
  · exact congrArg Host.Outcome.next ((State.ideFail_secure found keyed secure rfl).2 g hg)
  · refine congrArg Host.Outcome.next ?_
    simp [State.ideKey, present]
  · refine congrArg Host.Outcome.next ?_
    simp [State.ideKey, present, Nat.not_lt.mpr h8, known, link, Nat.ne_of_gt h0]
  · exact congrArg Host.Outcome.next (if_pos (by simp [known, unlocked, still, agent, tenant, keyed]))
  · exact congrArg Host.Outcome.next (if_neg (by rcases h with h | h <;> simp [h]))
  · exact congrArg Host.Outcome.next (if_pos (by simp [known, h]))
  · exact congrArg Host.Outcome.next (if_neg (by simp [h]))
  · exact congrArg Host.Outcome.next (if_pos known)
  · exact congrArg Host.Outcome.next (State.tdiError_enters h)
  · exact congrArg Host.Outcome.next (State.tdiError_idle h h')
  · obtain ⟨master, d3, d0, payload⟩ := State.configWrite_function (v := v) known still link
    refine ⟨congrArg Host.Outcome.next master, fun notLocked notRun => ?_, fun h hk => congrArg Host.Outcome.next (State.configWrite_locked known still link h hk),
      congrArg Host.Outcome.next d3, congrArg Host.Outcome.next d0, fun hv => congrArg Host.Outcome.next (payload hv)⟩
    obtain ⟨enable, number, msix⟩ := State.configWrite_unlocked (v := v) known still link notLocked notRun
    exact ⟨fun vf => congrArg Host.Outcome.next (enable vf), fun vf off most => congrArg Host.Outcome.next (number vf off most),
      congrArg Host.Outcome.next msix⟩

end Sys2Proof.Machine
end

section
/-! PROOFS. The loft, the loss of a hub, switchover and FAILED (SPEC: R426, R440 to R449). -/

namespace Sys2Proof.Machine

/-! ### The loft -/

theorem State.loft_idle {s : State} (h : s.paired = false ∨ s.mir.sent = none) : s.loftAck = s ∧ ∀ good, s.deltaFrame good = s := by
  refine ⟨?_, fun good => if_pos (by rcases h with h | h <;> simp [h])⟩
  unfold State.loftAck
  rcases h with h | h
  · exact if_pos (by simp [h])
  · rw [h]
    exact ite_self _

theorem State.loftAck_sent {s : State} {t : Nat} {l : Loft} (paired : s.paired = true) (sent : s.mir.sent = some (t, l)) :
    s.loftAck = (s.onMir fun m => { m with loft := l, sent := none }).release t := by
  simp [State.loftAck, paired, sent]

theorem State.deltaFrame_sent {s : State} {x : Nat × Loft} (paired : s.paired = true) (sent : s.mir.sent = some x) :
    s.deltaFrame true = s.onMir (fun m => { m with frameFails := 0 }) ∧
    s.deltaFrame false = ((s.onMir fun m => { m with badFrames := m.badFrames + 1, frameFails := m.frameFails + 1 }).bump
      blkMIR 0x0508).raise blkMIR s.mir.primary 0 (s.tick % 65536) := by
  have go : ¬ (!s.paired || s.mir.sent.isNone) = true := by simp [paired, sent]
  exact ⟨if_neg go, if_neg go⟩

/-! ### The loss of a hub -/

section
variable {s : State} {h blk c : Nat}

theorem State.hubFails_standing {u v : State} (hh : h < 2) (stands : h ∉ s.mir.hubsLost) (live : s.failedPart = false)
    (hu : u = (if faultInstOk blk h && faultClass blk c == some .fatal then s.raise blk h c 0xFFFF else s)) (hv : v = (u.recross h).loseHub h) :
    s.hubFails h blk c = if v.paired && h == v.mir.primary then
      (v.onMir fun m => { m with state := .switching, cause := hubCause blk c, sent := none }).onFlt fun f => { f with rail := true, recovery := true }
      else v := by
  subst hu hv
  have go : ¬ (Decidable.decide (2 ≤ h) || s.mir.hubsLost.contains h || s.failedPart) = true := by simp [hh, stands, live]
  exact if_neg go

/-- The primary of a PAIRED part begins a switchover (steps 1 and 2 of Table 15.8). -/
theorem State.hubFails_primary {u v : State} (hh : h < 2) (stands : h ∉ s.mir.hubsLost) (live : s.failedPart = false)
    (hu : u = (if faultInstOk blk h && faultClass blk c == some .fatal then s.raise blk h c 0xFFFF else s)) (hv : v = (u.recross h).loseHub h)
    (paired : v.paired = true) (primary : h = v.mir.primary) :
    ∃ t : State, s.hubFails h blk c = t ∧ t.mir.state = .switching ∧ t.mir.cause = hubCause blk c ∧ t.mir.sent = none ∧ t.flt.rail = true ∧
      t.mem = s.mem ∧ t.rgn = s.rgn := by
  have frame := State.hubFails_frame (s := s) (h := h) (blk := blk) (c := c) rfl (Frame.refl 3211036 s)
  have eq := (State.hubFails_standing hh stands live hu hv).trans (if_pos (by simp [paired, ← primary]))
  refine ⟨_, rfl, ?_, ?_, ?_, ?_, frame.same .mem rfl, frame.same .rgn rfl⟩ <;> rw [eq] <;> rfl

end

/-! ### The loss of the standby (R442) -/

/-- Has the cause named for a standby's loss come about? -/
def State.standbyGone (s : State) (cause : Nat) : Prop :=
  cause = 1 ∨ cause = 4 ∨ cause = 5 ∨ cause = 3 ∧ (2 ≤ s.mir.frameFails ∨ 16 < s.mir.badFrames) ∨
    cause = 2 ∧ ∃ x, s.mir.sent = some x ∧ x.1 + 1 ≤ s.tick

/-- Does the delta sent wait for its acknowledgement for longer than a tick? -/
def State.deltaLate (s : State) : Bool := match s.mir.sent with | some (t, _) => t + 1 ≤ s.tick | none => false

theorem State.deltaLate_iff (s : State) : s.deltaLate = true ↔ ∃ x, s.mir.sent = some x ∧ x.1 + 1 ≤ s.tick := by
  unfold State.deltaLate
  cases s.mir.sent with
  | none => simp
  | some x => simp

def State.standbyDue (s : State) (cause : Nat) : Bool :=
  cause == 1 || (cause == 2 && s.deltaLate) || (cause == 3 && (2 ≤ s.mir.frameFails || 16 < s.mir.badFrames)) || cause == 4 || cause == 5

theorem State.standbyDue_iff (s : State) (cause : Nat) : s.standbyDue cause = true ↔ s.standbyGone cause := by
  simp only [State.standbyDue, Bool.or_eq_true, Bool.and_eq_true, beq_iff_eq, decide_eq_true_iff, State.deltaLate_iff, State.standbyGone]
  generalize (∃ x, s.mir.sent = some x ∧ x.1 + 1 ≤ s.tick) = late
  generalize (2 ≤ s.mir.frameFails ∨ 16 < s.mir.badFrames) = bad
  grind

/-- The standby's links lost, and the part SOLO. -/
def State.solo (s : State) (cause : Nat) : State :=
  (s.loseHub (1 - s.mir.primary)).onMir fun m => { m with state := .solo, cause := cause, sent := none, changes := 0 }

section
variable {s : State} {cause : Nat}

theorem State.standbyLost_eq : s.standbyLost cause =
    if !s.paired || !s.standbyDue cause || s.mir.hubsLost.contains s.mir.primary then s
    else
      let v := (s.solo cause).release (s.solo cause).tick
      let w := v.raise blkMIR v.mir.primary 1 (v.tick % 65536)
      w.event w.providers evSTANDBY_LOST (leBytes 1 (1 - s.mir.primary) ++ leBytes 1 cause) := rfl

theorem State.standbyLost_alone (h : s.paired = false ∨ s.mir.primary ∈ s.mir.hubsLost) : s.standbyLost cause = s :=
  State.standbyLost_eq.trans (if_pos (by rcases h with h | h <;> simp [h]))

theorem State.standbyLost_waits (h : ¬ s.standbyGone cause) : s.standbyLost cause = s := by
  have notDue := eq_false_of_ne_true ((not_congr (s.standbyDue_iff cause)).mpr h)
  exact State.standbyLost_eq.trans (if_pos (by simp [notDue]))

/-- The standby declared lost: the part is SOLO and everything held leaves. -/
theorem State.standbyLost_solo (paired : s.paired = true) (stands : s.mir.primary ∉ s.mir.hubsLost) (gone : s.standbyGone cause) :
    ∃ u v w : State, s.standbyLost cause = w.event w.providers evSTANDBY_LOST (leBytes 1 (1 - s.mir.primary) ++ leBytes 1 cause) ∧
      u.mir.state = .solo ∧ u.mir.cause = cause ∧ u.mir.sent = none ∧ u.mem = s.mem ∧ u.rgn = s.rgn ∧ v = u.release s.tick ∧
      w = v.raise blkMIR v.mir.primary 1 (s.tick % 65536) := by
  have due := (s.standbyDue_iff cause).mpr gone
  have lost := State.loseHub_frame (s := s) (h := 1 - s.mir.primary) rfl (Frame.refl 3211036 s)
  have tick : (s.solo cause).tick = s.tick := congrArg Glb.tick (lost.same .glb rfl)
  have released : ((s.solo cause).release s.tick).tick = s.tick := (congrArg Glb.tick ((s.solo cause).release_glb s.tick)).trans tick
  have eq := (State.standbyLost_eq (s := s) (cause := cause)).trans (if_neg (by simp [paired, due, stands]))
  rw [tick] at eq
  dsimp only at eq
  rw [released] at eq
  exact ⟨s.solo cause, _, _, eq, rfl, rfl, rfl, lost.same .mem rfl, lost.same .rgn rfl, rfl, rfl⟩

end

/-! ### The switchover (R443 to R447) -/

section
variable {s : State} {cause : Nat}

theorem State.switchover_idle (h : s.mir.state ≠ .switching ∨ (1 - s.mir.primary) ∈ s.mir.hubsLost) : s.switchover cause = s :=
  if_pos (by rcases h with h | h <;> simp [h])

/-- At boundary 1 the standby is primary with the loft's content. -/
theorem State.switchover_takes {u : State} (switching : s.mir.state = .switching) (stands : (1 - s.mir.primary) ∉ s.mir.hubsLost)
    (hu : u = (s.onMir fun m => { m with state := .solo, primary := 1 - s.mir.primary, cause := if cause = 0 then m.cause else cause,
                                         changes := 0 }).takeLoft) :
    ∃ t v : State, s.switchover cause = t ∧ t.glb = (s.lifeAdd 3).glb ∧ t.pwr = s.pwr ∧
      v = ((u.gateStep.onFlt fun f => { f with rail := false, recovery := false }).lifeAdd 3).raise blkMIR (1 - s.mir.primary) 2 ((s.tick + 1) % 65536) ∧
      t = (v.event v.providers evSWITCHOVER (leBytes 1 (1 - s.mir.primary) ++ [0, 0, 0] ++ leBytes 4 (s.tick + 1))).takeKept := by
  have go : ¬ (s.mir.state != .switching || s.mir.hubsLost.contains (1 - s.mir.primary)) = true := by simp [switching, stands]
  have taken : u.glb = s.glb ∧ u.pwr = s.pwr := by
    rw [hu]
    have frame := State.takeLoft_frame (s := s.onMir fun m =>
      { m with state := .solo, primary := 1 - s.mir.primary, cause := if cause = 0 then m.cause else cause, changes := 0 }) rfl (Frame.refl 2158526 _)
    exact ⟨frame.same .glb rfl, frame.same .pwr rfl⟩
  have hu' : (s.onMir fun m => { m with state := .solo, primary := 1 - s.mir.primary, cause := if cause == 0 then m.cause else cause,
                                        changes := 0 }).takeLoft = u := by
    rw [hu]
    simp
  obtain ⟨glb, pwr⟩ := taken
  generalize hw : u.gateStep.onFlt (fun f => { f with rail := false, recovery := false }) = w
  have wglb : w.glb = s.glb := by rw [← hw, ← glb]; exact u.gateStep_glb
  have wpwr : w.pwr = s.pwr := by
    rw [← hw, ← pwr]
    exact (State.gateStep_frame rfl (Frame.refl 8192 u)).same .pwr rfl
  have wtick : w.tick = s.tick := congrArg Glb.tick wglb
  have eq : s.switchover cause = (let v := (w.lifeAdd 3).raise blkMIR (1 - s.mir.primary) 2 ((w.tick + 1) % 65536)
      (v.event v.providers evSWITCHOVER (leBytes 1 (1 - s.mir.primary) ++ [0, 0, 0] ++ leBytes 4 (w.tick + 1))).takeKept) := by
    rw [← hw, ← hu']
    exact if_neg go
  rw [wtick] at eq
  generalize hv : (w.lifeAdd 3).raise blkMIR (1 - s.mir.primary) 2 ((s.tick + 1) % 65536) = v at eq
  have vkept : v.glb = (s.lifeAdd 3).glb ∧ v.pwr = s.pwr := by
    rw [← hv, State.raise_glb, State.raise_pwr]
    simp only [State.lifeAdd, State.onGlb_glb, State.onGlb_pwr, wglb, wpwr, and_self]
  have kept (x : State) : x.takeKept.glb = x.glb ∧ x.takeKept.pwr = x.pwr :=
    ⟨(State.takeKept_frame rfl (Frame.refl 14745471 x)).same .glb rfl, (State.takeKept_frame rfl (Frame.refl 14745471 x)).same .pwr rfl⟩
  refine ⟨_, v, eq, ?_, ?_, rfl, rfl⟩
  · rw [(kept _).1, State.event_glb, vkept.1]
  · rw [(kept _).2, State.event_pwr, vkept.2]

end

/-! ### FAILED (R448, R449) -/

section
variable {s : State} {cause : Nat}

/-- The cases of R448 that have arisen. -/
theorem State.partFailed_due (live : s.failedPart = false) {both : Bool} (hb : both = (s.mir.hubsLost.contains 0 && s.mir.hubsLost.contains 1))
    (due : cause = 1 ∧ s.glb.boot ≠ 7 ∧ both = true ∨ cause = 2 ∧ s.mir.state = .switching ∨ cause = 3 ∧ s.mir.state = .solo ∧ both = true ∨
      cause = 3 ∧ s.pwr.retLost = true ∧ s.glb.change ≠ .none ∨ cause = 4 ∧ both = true) : s.partFailed cause = s.enterFailed cause := by
  have lost (h : both = true) : 0 ∈ s.mir.hubsLost ∧ 1 ∈ s.mir.hubsLost := by simpa [hb] using h
  rcases due with ⟨rfl, boot, h⟩ | ⟨rfl, switching⟩ | ⟨rfl, solo, h⟩ | ⟨rfl, ret, change⟩ | ⟨rfl, h⟩
  · simp [State.partFailed, live, boot, lost h]
  · simp [State.partFailed, live, switching]
  · simp [State.partFailed, live, solo, lost h]
  · simp [State.partFailed, live, ret, change]
  · simp [State.partFailed, live, lost h]

theorem State.partFailed_notDue {both : Bool} (hb : both = (s.mir.hubsLost.contains 0 && s.mir.hubsLost.contains 1))
    (h : cause = 0 ∨ 4 < cause ∨ (cause = 1 ∨ cause = 4) ∧ both = false ∨ cause = 2 ∧ s.mir.state ≠ .switching) : s.partFailed cause = s := by
  subst hb
  rcases h with rfl | far | ⟨rfl | rfl, none_⟩ | ⟨rfl, still⟩
  · simp [State.partFailed]
  · obtain ⟨n, rfl⟩ : ∃ n, cause = n + 5 := ⟨cause - 5, by omega⟩
    simp [State.partFailed]
  · exact if_pos (by rw [none_]; simp)
  · exact if_pos (by rw [none_]; simp)
  · simp [State.partFailed, still]

/-- Self-refresh asked of a stack that has not failed. -/
def State.sleepStack (s : State) (k : Nat) : State := if s.stackFailed k then s else s.setStack k fun x => { x with state := .selfRefresh }

def State.Asleep (s : State) (k : Nat) : Prop := (s.stack k).state = .failed ∨ (s.stack k).state = .selfRefresh

theorem State.sleepStack_asleep (s : State) (j k : Nat) (h : k = j ∨ s.Asleep k) : (s.sleepStack j).Asleep k := by
  unfold State.sleepStack
  split
  · next failed => exact h.elim (fun e => .inl (by simpa [e, State.stackFailed] using failed)) id
  · by_cases e : k = j
    · exact .inr (by simp [e, State.setStack, State.stack])
    · have same : (s.setStack j fun x => { x with state := .selfRefresh }).stack k = s.stack k := by simp [State.setStack, State.stack, e]
      rw [State.Asleep, same]
      exact h.resolve_left e

theorem State.sleepStacks_asleep (ls : List Nat) (s : State) (k : Nat) (h : k ∈ ls ∨ s.Asleep k) : (ls.foldl State.sleepStack s).Asleep k := by
  induction ls generalizing s with
  | nil => exact h.resolve_left List.not_mem_nil
  | cons j r ih =>
    refine ih (s.sleepStack j) ?_
    rcases h with h | h
    · exact (List.mem_cons.mp h).elim (fun e => .inr (s.sleepStack_asleep j k (.inl e))) .inl
    · exact .inr (s.sleepStack_asleep j k (.inr h))

theorem State.eraseKeys_congr {u v : State} (h : u.sec = v.sec) : u.eraseKeys.sec = v.eraseKeys.sec := by
  simp only [State.eraseKeys, State.onSec_sec, h]

/-- FAILED (R449): every key overwritten, every stack in self-refresh or failed. -/
theorem State.enterFailed_keys : (s.enterFailed cause).sec = s.eraseKeys.sec ∧ ∀ k, k < 16 → (s.enterFailed cause).Asleep k := by
  unfold State.enterFailed
  extract_lets alive u u1 u2 u3 u4 u5 u6 u7 u8
  have s1 : u1.sec = s.sec := foldl_same State.sec (fun w p => (State.downLink_frame rfl (Frame.refl 2158356 w)).same .sec rfl) (List.range 16) u
  have s2 : u2.sec = u1.sec := foldl_same State.sec
    (fun w l => by
      split
      · rfl
      · exact (State.linkDown_frame rfl (Frame.refl 2158364 w)).same .sec rfl) (List.range 32) u1
  have s3 : u3.sec = u2.sec := State.onEng_sec _ _
  have s4 : u4.sec = u3.sec := foldl_same State.sec (fun w k => by split <;> rfl) (List.range 16) u3
  have asleep (k : Nat) (hk : k < 16) : u4.Asleep k := State.sleepStacks_asleep (List.range 16) u3 k (.inl (List.mem_range.mpr hk))
  clear_value u4
  have links := State.agentLinks_frame rfl (Frame.refl 2158364 u4)
  have kept : u4.agentLinks.sec = s.sec := (links.same .sec rfl).trans (s4.trans (s3.trans (s2.trans s1)))
  have s5 : u5.sec = s.eraseKeys.sec := (State.onGlb_sec _ _).trans (State.eraseKeys_congr kept)
  have m5 : u5.mcx = u4.mcx := (State.onGlb_mcx _ _).trans ((State.onSec_mcx _ _).trans (links.same .mcx rfl))
  clear_value u5
  have h6 : u6.sec = u5.sec ∧ u6.mcx = u5.mcx := by
    unfold u6
    split <;> exact ⟨rfl, rfl⟩
  have h8 : u8.sec = u6.sec ∧ u8.mcx = u6.mcx := by
    unfold u8
    split
    · exact ⟨State.raise_sec _ _ _ _ _, State.raise_mcx _ _ _ _ _⟩
    · exact ⟨rfl, rfl⟩
  clear_value u u1 u2 u3 u6 u7 u8 alive
  have eight : u8.sec = s.eraseKeys.sec ∧ u8.mcx = u4.mcx := ⟨h8.1.trans (h6.1.trans s5), h8.2.trans (h6.2.trans m5)⟩
  have rested {v : State} (hv : v.mcx = u4.mcx) (k : Nat) (hk : k < 16) : v.Asleep k := by
    have := asleep k hk
    simp only [State.Asleep, State.stack] at this ⊢
    rwa [hv]
  cases alive with
  | none => exact ⟨eight.1, rested eight.2⟩
  | some h => exact ⟨(State.event_sec _ _ _ _).trans eight.1, rested ((State.event_mcx _ _ _ _).trans eight.2)⟩

end

/-- What overwriting the keys leaves of the slots. -/
theorem State.eraseKeys_tenant (s : State) (i : Nat) :
    ((Tbl.getD s.eraseKeys.sec.tenants i {}).key = {} ∧ (Tbl.getD s.eraseKeys.sec.tenants i {}).old = {}) ∧
      (Tbl.getD s.eraseKeys.sec.tenants i {}).state = (s.tenant i).state := by
  simp only [State.eraseKeys, State.onSec_sec, State.tenant, Tbl.getD, Tbl.find_mapKV]
  cases Tbl.find s.sec.tenants i <;> simp

/-- Settles O56: the loft and its frames by what was sent, hubs and switchover by the model's own steps, FAILED by the keys and the
stacks that its fold over them leaves. -/
theorem theLoftTakesOver : Obligations.TheLoftTakesOver := by
  unfold Obligations.TheLoftTakesOver
  intro s cause h blk
  refine ⟨fun idle => ?_, fun t l paired sent => ⟨?_, ?_, ?_⟩, fun gone => ?_, fun u v hh stands live hu hv => ⟨fun spare => ?_, fun paired primary => ?_⟩,
    fun alone => ?_, fun paired stands => ⟨fun hc few good => ?_, fun hc early => ?_, fun gone => ?_⟩, fun idle => ?_, fun u switching stands hu => ?_,
    fun failed => ?_, fun both hb live => ⟨fun due => ?_, fun notDue => ?_⟩⟩
  · obtain ⟨ack, frame⟩ := State.loft_idle idle
    exact ⟨congrArg Host.Outcome.next ack, congrArg Host.Outcome.next (frame true), congrArg Host.Outcome.next (frame false)⟩
  · exact congrArg Host.Outcome.next (State.loftAck_sent paired sent)
  · exact congrArg Host.Outcome.next (State.deltaFrame_sent paired sent).1
  · exact congrArg Host.Outcome.next (State.deltaFrame_sent paired sent).2
  · exact congrArg Host.Outcome.next (if_pos (by rcases gone with g | g | g <;> simp [g]))
  · refine congrArg Host.Outcome.next ((State.hubFails_standing hh stands live hu hv).trans (if_neg ?_))
    rcases spare with h | h <;> simp [h]
  · obtain ⟨t, eq, rest⟩ := State.hubFails_primary hh stands live hu hv paired primary
    exact ⟨t, congrArg Host.Outcome.next eq, rest⟩
  · exact congrArg Host.Outcome.next (State.standbyLost_alone alone)
  · refine congrArg Host.Outcome.next (State.standbyLost_waits ?_)
    simp only [State.standbyGone, hc]
    omega
  · refine congrArg Host.Outcome.next (State.standbyLost_waits ?_)
    rintro (h | h | h | ⟨h, -⟩ | ⟨-, x, sent, late⟩)
    · omega
    · omega
    · omega
    · omega
    · exact absurd (early x sent) (Nat.not_lt.mpr late)
  · obtain ⟨u, v, w, eq, rest⟩ := State.standbyLost_solo paired stands gone
    exact ⟨u, v, w, congrArg Host.Outcome.next eq, rest⟩
  · exact congrArg Host.Outcome.next (State.switchover_idle idle)
  · obtain ⟨t, v, eq, rest⟩ := State.switchover_takes switching stands hu
    exact ⟨t, v, congrArg Host.Outcome.next eq, rest⟩
  · exact congrArg Host.Outcome.next (if_pos (by simp [failed]))
  · have frame := State.enterFailed_frame (s := s) (cause := cause) rfl (Frame.refl 2748380 s)
    obtain ⟨sec, rested⟩ := State.enterFailed_keys (s := s) (cause := cause)
    refine ⟨s.enterFailed cause, congrArg Host.Outcome.next (State.partFailed_due live hb due), ?_, ?_, ?_, ?_, fun i => ?_, frame.same .mem rfl,
      frame.same .rgn rfl, rested⟩
    · rw [sec]; rfl
    · rw [sec]; rfl
    · rw [sec]; rfl
    · rw [sec]; rfl
    · obtain ⟨⟨key, old⟩, state⟩ := s.eraseKeys_tenant i
      simp only [State.tenant, sec] at key old state ⊢
      exact ⟨key, old, state⟩
  · exact congrArg Host.Outcome.next (State.partFailed_notDue hb notDue)

end Sys2Proof.Machine
end

section
/-! PROOFS. MCX: refresh, retraining, temperature, the patrol, skew, and the failures of stacks and cellar dies (R237 to R262, R451, R452). -/

namespace Sys2Proof.Machine

/-! ### One stack of the controllers -/

/-- A stack after a change of one stack. -/
theorem State.setStack_stack (s : State) (k j : Nat) (f : Stack → Stack) :
    (s.setStack k f).stack j = if j = k then f (s.stack k) else s.stack j := by
  by_cases e : j = k <;> simp [State.setStack, State.stack, e]

@[simp] theorem State.setStack_self (s : State) (k : Nat) (f : Stack → Stack) : (s.setStack k f).stack k = f (s.stack k) := by
  simp [State.setStack_stack]

@[simp] theorem State.setStack_mem (s : State) (k : Nat) (f : Stack → Stack) : (s.setStack k f).mem = s.mem := rfl

@[simp] theorem State.setStack_tick (s : State) (k : Nat) (f : Stack → Stack) : (s.setStack k f).tick = s.tick := rfl

/-- The stacks are those of the controllers' table. -/
theorem State.stack_congr {s t : State} (h : t.mcx = s.mcx) (j : Nat) : t.stack j = s.stack j := by simp only [State.stack, h]

/-- The state of a part whose stacks have not failed or sleep is not FAILED. -/
theorem State.stackFailed_eq_false {s : State} {k : Nat} : s.stackFailed k = false ↔ (s.stack k).state ≠ .failed := by
  simp [State.stackFailed]

/-- A failed stack does not serve. -/
theorem Stack.not_served_of_failed {x : Stack} (h : x.state = .failed) : x.served = false := by simp [Stack.served, h]

/-! ### Refresh (R244, R245) -/

/-- The refresh of a boundary, counted. -/
def State.refreshed (s : State) (k t : Nat) : State := (s.setStack k fun x => { x with refAt := some t }).lifeAdd (64 + k)

theorem State.countRefresh_new {s : State} {k t : Nat} (h : (s.stack k).refAt ≠ some t) : s.countRefresh k t = s.refreshed k t :=
  if_neg (by simp [h])

theorem State.countRefresh_again {s : State} {k t : Nat} (h : (s.stack k).refAt = some t) : s.countRefresh k t = s :=
  if_pos (by simp [h])

/-- Counting a refresh changes its stack's boundary alone. -/
theorem State.countRefresh_stack (s : State) (k t j : Nat) :
    (s.countRefresh k t).stack j = if j = k then { s.stack k with refAt := some t } else s.stack j := by
  by_cases h : (s.stack k).refAt = some t
  · rw [State.countRefresh_again h]
    split
    · next e => subst e; rw [← h]
    · rfl
  · rw [State.countRefresh_new h]
    exact (State.stack_congr (State.onGlb_mcx _ _) j).trans (State.setStack_stack s k j _)

/-- What a refresh of a stack does, by the places of the last and the next boundary in its grid. -/
theorem State.refresh_cases {s : State} {k m : Nat} (hk : k < 16) (served : (s.stack k).served = true)
    (hm : m = if (s.stack k).hot then 1 else 3) :
    ((s.tick + k) % m = 0 → (s.stack k).refAt ≠ some s.tick → s.refresh k = s.refreshed k s.tick) ∧
      (((s.tick + k) % m ≠ 0 ∨ (s.stack k).refAt = some s.tick) → (s.tick + 1 + k) % m = 0 → s.refresh k = s.countRefresh k (s.tick + 1)) ∧
      ((s.tick + k) % m ≠ 0 → (s.tick + 1 + k) % m ≠ 0 → s.refresh k = s) := by
  have grid (t : Nat) : s.onGrid k t = ((t + k) % m == 0) := by rw [hm]; rfl
  have fits : (Decidable.decide (16 ≤ k) || !(s.stack k).served) = false := by simp [served]; omega
  simp only [State.refresh, fits, grid, Bool.false_eq_true, if_false]
  refine ⟨fun on new => ?_, fun off on => ?_, fun off off' => ?_⟩
  · rw [if_pos (by simp [on, new]), State.countRefresh_new new]
  · rw [if_neg (by rcases off with h | h <;> simp [h]), if_pos (by simp [on])]
  · rw [if_neg (by simp [off]), if_neg (by simp [off'])]

/-! ### Retraining and rate changes (R247 to R250) -/

/-- The parts that failed lanes and a failed retrain do not reach before the stack fails. -/
theorem State.retrainStart_stack (s : State) (k : Nat) (good : Bool) (ls : List Lane) : ∃ u : State,
    s.retrainStart k good ls = u.retrainFound k good ls ∧ u.mem = s.mem ∧ u.dir = s.dir ∧ u.glb.boot = s.glb.boot ∧
      (∀ j, j ≠ k → u.stack j = s.stack j) ∧
      u.stack k = { s.stack k with state := .retrain, busyTo := s.tick + 2, plan := none, refAt := some s.tick } := by
  refine ⟨_, rfl, ?_⟩
  have frame := State.countRefresh_frame (s := s.setStack k fun x => { x with state := .retrain, busyTo := s.tick + 2, plan := none }) (k := k) (t := s.tick)
    rfl (Frame.refl 65600 _)
  refine ⟨frame.same .mem rfl, frame.same .dir rfl, ?_, fun j other => ?_, ?_⟩
  · unfold State.countRefresh
    split <;> rfl
  · exact (State.countRefresh_stack _ _ _ _).trans ((if_neg other).trans ((State.setStack_stack _ _ _ _).trans (if_neg other)))
  · refine (State.countRefresh_stack _ _ _ _).trans ((if_pos rfl).trans ?_)
    rw [State.setStack_self]
    rfl

/-- A first retrain that fails is repeated for two ticks (R249). -/
theorem State.retrainBad_first {s : State} {k : Nat} (first : (s.stack k).fails = 0) :
    (s.retrainBad k).mem = s.mem ∧ (∀ j, j ≠ k → (s.retrainBad k).stack j = s.stack j) ∧
      (s.retrainBad k).stack k = { s.stack k with fails := 1, busyTo := (s.stack k).busyTo + 2 } := by
  unfold State.retrainBad
  dsimp only
  generalize hu : State.raise _ _ _ _ _ = u
  have mcx : u.mcx = s.mcx := hu ▸ State.raise_mcx _ _ _ _ _
  have mem : u.mem = s.mem := hu ▸ State.raise_mem _ _ _ _ _
  rw [if_neg (by rw [State.stack_congr mcx]; omega)]
  refine ⟨mem, fun j other => ?_, ?_⟩
  · exact (State.setStack_stack _ _ _ _).trans ((if_neg other).trans (State.stack_congr mcx j))
  · rw [State.setStack_self, State.stack_congr mcx, first]

/-- A second retrain in a row that fails is the stack's failure with cause 2 (R249). -/
theorem State.retrainBad_second {s : State} {k : Nat} (again : 1 ≤ (s.stack k).fails) : ∃ t : State,
    s.retrainBad k = t.stackFails k 2 ∧ t.mcx = s.mcx ∧ t.dir = s.dir ∧ t.mem = s.mem ∧ t.glb = s.glb := by
  unfold State.retrainBad
  dsimp only
  generalize hu : State.raise _ _ _ _ _ = u
  have mcx : u.mcx = s.mcx := hu ▸ State.raise_mcx _ _ _ _ _
  exact ⟨u, if_pos (by rw [State.stack_congr mcx]; exact again), mcx, hu ▸ State.raise_dir _ _ _ _ _, hu ▸ State.raise_mem _ _ _ _ _,
    hu ▸ State.raise_glb _ _ _ _ _⟩

/-- One lane that a retrain finds is mapped onto a spare, or fails the stack (R247). -/
theorem State.repairLanes_one {s : State} {k : Nat} {l : Lane} (stands : (s.stack k).state ≠ .failed) (new : l ∉ (s.stack k).lanes) :
    s.repairLanes k [l] =
      if ((s.stack k).lanes.filter fun y => y.ch == l.ch && y.ca == l.ca).length < (if l.ca then 1 else 2) then
        (s.setStack k fun x => { x with lanes := x.lanes ++ [l] }).raise blkSPH (dieOfStack k) 0 (k * 256 + l.ch % 256)
      else s.stackFails k 1 :=
  if_neg (by simp [stands, new])

/-- PERIODIC_RETRAIN of a retrain under way. -/
theorem State.retrain_running {s : State} {k : Nat} (hk : k < 16) (running : (s.stack k).state = .retrain) (good : Bool) (ls : List Lane) :
    s.retrain k good ls = s.retrainFound k good ls :=
  (if_neg (by omega)).trans (if_pos (by simp [running]))

/-- PERIODIC_RETRAIN of the retrain that the last boundary started. -/
theorem State.retrain_started {s : State} {k : Nat} (hk : k < 16) (ready : (s.stack k).state = .ready) (due : s.tick % 16384 = 32 + 64 * k)
    (good : Bool) (ls : List Lane) : s.retrain k good ls = s.retrainStart k good ls := by
  refine (if_neg (by omega)).trans ((if_neg (by simp [ready])).trans ((if_neg ?_).trans (if_pos ?_)))
  · have : (s.tick + 1) % 16384 ≠ 32 + 64 * k := by omega
    simp [retrainAt, this]
  · simp [retrainAt, due, ready]

/-- PERIODIC_RETRAIN of the retrain that the next boundary starts. -/
theorem State.retrain_planned {s : State} {k : Nat} (hk : k < 16) (serves : (s.stack k).state = .ready ∨ (s.stack k).state = .rateChange)
    (due : (s.tick + 1) % 16384 = 32 + 64 * k) (good : Bool) (ls : List Lane) :
    s.retrain k good ls = s.setStack k fun x => { x with plan := some (good, ls) } := by
  refine (if_neg (by omega)).trans ((if_neg ?_).trans (if_pos ?_))
  · rcases serves with h | h <;> simp [h]
  · rcases serves with h | h <;> simp [retrainAt, due, h]

/-- PERIODIC_RETRAIN where no retrain runs, starts or has started. -/
theorem State.retrain_none {s : State} {k : Nat} (still : (s.stack k).state ≠ .retrain)
    (none_due : (s.stack k).state = .failed ∨ (s.tick % 16384 ≠ 32 + 64 * k ∧ (s.tick + 1) % 16384 ≠ 32 + 64 * k)) (good : Bool) (ls : List Lane) :
    s.retrain k good ls = s := by
  unfold State.retrain
  split
  · rfl
  · rw [if_neg (by simp [still]), if_neg, if_neg]
    · rcases none_due with h | ⟨h, -⟩ <;> simp [retrainAt, h]
    · rcases none_due with h | ⟨-, h⟩ <;> simp [retrainAt, h]

/-! ### Parity errors (R249) -/

/-- A stack with the parity errors of its tick. -/
def Stack.withErrors (x : Stack) (n t : Nat) : Stack := { x with caErrs := n, caTick := t }

/-- The unscheduled retrain that eight errors in a tick start, after a retrain or a rate change that runs. -/
def State.eighthError (s : State) (k : Nat) : State :=
  match (s.stack k).state with
  | .ready => (s.setStack k fun x => { x with state := .retrain, busyTo := s.tick + 3 }).countRefresh k (s.tick + 1)
  | .retrain => s.setStack k fun x => { x with busyTo := x.busyTo + 2 }
  | _ => s.setStack k fun x => { x with plan := some (x.plan.getD (true, [])) }

/-- What parity errors make of their stack. -/
theorem State.caError_counts {s : State} {k : Nat} {ok : Bool} {old n : Nat} (hk : k < 16) (served : (s.stack k).served = true)
    (hold : old = if (s.stack k).caTick = s.tick then (s.stack k).caErrs else 0) (hn : n = old + if ok then 1 else 2) :
    ∃ u : State, u.mem = s.mem ∧ u.stack k = (s.stack k).withErrors n s.tick ∧ u.tick = s.tick ∧
      s.caError k ok = if n < 8 ∨ 8 ≤ old then u else u.eighthError k := by
  unfold State.caError
  rw [if_neg (by simp [served]; omega)]
  extract_lets m v o u
  have mcx : v.mcx = s.mcx := (State.raise_mcx _ _ _ _ _).trans (State.bump_mcx _ _ _ _)
  have tick : v.tick = s.tick := by simp only [State.tick, v, State.raise_glb, State.bump_glb]
  have ho : o = old := by simp only [o, State.stack_congr mcx, tick, hold, beq_iff_eq]
  have hm : old + m = n := hn.symm
  refine ⟨u, (State.onMcx_mem _ _).trans ((State.raise_mem _ _ _ _ _).trans (State.bump_mem _ _ _ _)), ?_, tick, ?_⟩
  · simp only [u, State.setStack_self, State.stack_congr mcx, ho, hm, tick, Stack.withErrors]
  · by_cases few : n < 8 ∨ 8 ≤ old
    · exact (if_pos (by simpa [ho, hm] using few)).trans (if_pos few).symm
    · exact (if_neg (by simpa [ho, hm] using few)).trans (if_neg few).symm

/-- The eighth parity error in a tick starts or lengthens a retrain and keeps the count. -/
theorem State.eighthError_stack (u : State) (k : Nat) :
    (u.eighthError k).mem = u.mem ∧ ((u.eighthError k).stack k).caErrs = (u.stack k).caErrs ∧
      ((u.eighthError k).stack k).caTick = (u.stack k).caTick ∧
      ((u.stack k).state = .ready → ((u.eighthError k).stack k).state = .retrain ∧ ((u.eighthError k).stack k).busyTo = u.tick + 3) ∧
      ((u.stack k).state = .retrain → ((u.eighthError k).stack k).busyTo = (u.stack k).busyTo + 2) := by
  unfold State.eighthError
  cases hx : (u.stack k).state <;> dsimp only
  case ready =>
    have kept (v : State) : (v.countRefresh k (u.tick + 1)).mem = v.mem :=
      (State.countRefresh_frame (s := v) (k := k) (t := u.tick + 1) rfl (Frame.refl 65600 v)).same .mem rfl
    simp [State.countRefresh_stack, kept]
  all_goals simp

/-! ### Temperature (R244, R259) -/

/-- What a reading below 100 °C leaves; at 100 °C and above the stack fails with cause 4. -/
theorem State.stackTemp_reading {s : State} {k : Nat} (hk : k < 16) (t : Nat) : ∃ u : State,
    (u.stack k).temp = t % 256 ∧ (u.stack k).state = (s.stack k).state ∧ (u.stack k).hotDue = ((s.stack k).hotDue || Nat.ble 86 t) ∧
      (95 < t → u.pins.tempAlert = true) ∧ (t ≤ 95 → u.pins = s.pins) ∧ u.mem = s.mem ∧ u.dir = s.dir ∧ (∀ j, j ≠ k → u.stack j = s.stack j) ∧
      s.stackTemp k t = if 100 ≤ t then u.stackFails k 4 else u := by
  unfold State.stackTemp
  rw [if_neg (by omega)]
  extract_lets u1 u2 u3
  have mcx : u3.mcx = u1.mcx ∧ u3.mem = s.mem ∧ u3.dir = s.dir := by
    unfold u3
    split
    · exact ⟨(State.raise_mcx _ _ _ _ _), (State.raise_mem _ _ _ _ _), (State.raise_dir _ _ _ _ _)⟩
    · exact ⟨rfl, rfl, rfl⟩
  obtain ⟨mcx, mem, dir⟩ := mcx
  have self : u3.stack k = _ := (State.stack_congr mcx k).trans (State.setStack_self s k _)
  refine ⟨u3, by rw [self], by rw [self], ?_, fun hot => ?_, fun cool => ?_, mem, dir, fun j other => ?_, rfl⟩
  · have warm : Decidable.decide (85 < t) = Nat.ble 86 t := Bool.eq_iff_iff.mpr (by simp; omega)
    rw [self, ← warm]
  · unfold u3
    rw [if_pos hot]
    rfl
  · unfold u3
    rw [if_neg (by omega)]
    rfl
  · exact (State.stack_congr mcx j).trans ((State.setStack_stack s k j _).trans (if_neg other))

/-! ### The symbol code and the patrol (R252 to R255) -/

/-- An entry put where the table had none and taken away again leaves the table as it was. -/
theorem Tbl.del_put {α : Type} {t : Tbl α} {k : Nat} (absent : Tbl.find t k = none) (v : α) : Tbl.del (Tbl.put t k v) k = t := by
  induction t with
  | nil => simp [Tbl.put, Tbl.del]
  | cons e r ih =>
    obtain ⟨j, w⟩ := e
    by_cases same : j = k
    · simp [Tbl.find, same] at absent
    · by_cases before : k < j
      · simp [Tbl.put, Tbl.del, same, before]
      · simp only [Tbl.find, same, before, if_false] at absent
        simp [Tbl.put, Tbl.del, same, before, ih absent]

/-- What is in a list after an insertion. -/
theorem mem_insertBy_iff {α : Type} (key : α → Nat) (a b : α) (l : List α) : b ∈ insertBy key a l ↔ b = a ∨ b ∈ l := by
  induction l with
  | nil => simp [insertBy]
  | cons c l ih =>
    unfold insertBy
    split <;> simp [ih, or_left_comm]

/-- Poisoning a line poisons that line alone. -/
theorem State.setPoison_poisoned (s : State) (line l : Nat) : (s.setPoison line).poisoned l = true ↔ l = line ∨ s.poisoned l = true := by
  unfold State.setPoison
  by_cases already : s.poisoned line = true
  · rw [if_pos already]
    constructor
    · exact .inr
    · rintro (rfl | h)
      · exact already
      · exact h
  · rw [if_neg already]
    simp [State.poisoned, mem_insertBy_iff]

/-- Poisoning a line changes the list of poisoned lines alone. -/
theorem State.setPoison_keeps (s : State) (line : Nat) : (s.setPoison line).mcx.stk = s.mcx.stk ∧ (s.setPoison line).mcx.errs = s.mcx.errs ∧
    (s.setPoison line).mem = s.mem ∧ (s.setPoison line).rgn = s.rgn ∧ (s.setPoison line).dir = s.dir := by
  unfold State.setPoison
  split <;> exact ⟨rfl, rfl, rfl, rfl, rfl⟩

/-- One symbol gone wrong in a line is corrected, counted and reported; the line is as it was. -/
theorem State.harm_corrected {s : State} {line : Nat} (clean : Tbl.find s.mcx.errs line = none) : ∃ v : State,
    (s.harm line 1).checkLine line = v.foundCe (stackOf (line * 64)) ∧ v.mem = s.mem ∧ v.mcx = s.mcx := by
  unfold State.checkLine
  have found : Tbl.find (s.harm line 1).mcx.errs line = some (1, s.fresh) := by simp [State.harm, Tbl.getD, clean]
  rw [found]
  refine ⟨_, rfl, rfl, ?_⟩
  simp [State.harm, Tbl.del_put clean]

/-- Two symbols gone wrong in a line make it uncorrectable: it is poisoned. -/
theorem State.harm_poisoned {s : State} {line : Nat} (clean : Tbl.find s.mcx.errs line = none) : ∃ v : State,
    (s.harm line 2).checkLine line = v.setPoison line ∧ v.mem = s.mem ∧ v.mcx = s.mcx ∧ v.rgn = s.rgn ∧ v.dir = s.dir := by
  unfold State.checkLine
  have found : Tbl.find (s.harm line 2).mcx.errs line = some (2, s.fresh) := by simp [State.harm, Tbl.getD, clean]
  rw [found]
  refine ⟨_, rfl, rfl, ?_, rfl, rfl⟩
  simp [State.harm, Tbl.del_put clean]

/-- A line of a stack that the patrol has read. -/
def State.patrolled (s : State) (k : Nat) : State := s.setStack k fun x => { x with patrolled := x.patrolled + 1 }

/-- A stack's controllers after the patrol has read a line in which `n` more symbols are wrong. -/
def State.patrolFound (s : State) (k line n : Nat) : State :=
  (if n == 0 then s.patrolled k else (s.patrolled k).harm line n).checkLine line

/-- The patrol's read of a line of a served stack. -/
theorem State.patrol_reads {s : State} {k line pa : Nat} (hk : k < 16) (served : (s.stack k).served = true) (inside : line * 64 < HOLE_OFF)
    (on : bits s.mcx.ctrl.toNat 23 16 ≠ 0) (hpa : pa = SLOT * k + 64 * line) (n : Nat) :
    s.patrol k line n = if (s.patrolFound k (pa / 64) n).poisoned (pa / 64) then (s.patrolFound k (pa / 64) n).patrolBad k pa
      else s.patrolFound k (pa / 64) n := by
  subst hpa
  exact if_neg (by simp [served, on]; omega)

/-- The other copy of a line is what the regions and the directory say. -/
theorem State.otherCopy_congr {s t : State} (rgn : t.rgn = s.rgn) (dir : t.dir = s.dir) (pa : Nat) : t.otherCopy pa = s.otherCopy pa := by
  cases s
  cases t
  cases rgn
  cases dir
  rfl

/-- A poisoned line of a region without another copy is reported. -/
theorem State.patrolBad_alone {s : State} {k pa : Nat} (alone : s.otherCopy pa = none) (kept : offOf pa < RSV_OFF ∨ (paIdx pa).isSome = true) :
    s.patrolBad k pa = (s.foundUe pa).raise blkMCX (dieOfStack k) 1 k := by
  have same : (s.foundUe pa).otherCopy pa = none := (State.otherCopy_congr (State.bump_rgn _ _ _ _) (State.bump_dir _ _ _ _) pa).trans alone
  unfold State.patrolBad
  dsimp only
  rw [same]
  refine if_neg ?_
  rcases kept with h | h
  · have : ¬ RSV_OFF ≤ offOf pa := by omega
    simp [this]
  · simp [Option.isSome_iff_ne_none.mp h]

/-- A poisoned line whose other copy is good is rewritten from it. -/
theorem State.patrolBad_twin {s : State} {k pa b : Nat} (twin : s.otherCopy pa = some b) (serves : s.stackFailed (stackOf b) = false)
    (good : s.poisoned (b / 64) = false) (right : Tbl.find s.mcx.errs (b / 64) = none) (aligned : pa / 64 * 64 = pa) :
    (s.patrolBad k pa).poisoned (pa / 64) = false ∧ (s.patrolBad k pa).mem = Memory.write s.mem pa (Memory.read s.mem b 64) := by
  unfold State.patrolBad
  extract_lets u
  have mcx : u.mcx = s.mcx := State.bump_mcx _ _ _ _
  have mem : u.mem = s.mem := State.bump_mem _ _ _ _
  have same : u.otherCopy pa = some b := (State.otherCopy_congr (State.bump_rgn _ _ _ _) (State.bump_dir _ _ _ _) pa).trans twin
  have serves' : u.stackFailed (stackOf b) = false := by rw [State.stackFailed, State.stack_congr mcx]; exact serves
  have good' : u.poisoned (b / 64) = false := by rw [State.poisoned, mcx]; exact good
  have clean : u.checkLine (b / 64) = u := State.checkLine_none (by rw [mcx]; exact right)
  clear_value u
  rw [same]
  simp only [serves', good', clean, Bool.false_eq_true, if_false, Bool.or_self]
  refine ⟨?_, ?_⟩
  · simp [State.poisoned, State.clearPoison, aligned]
  · simp only [State.bump_mem, State.clearPoison_mem, State.setMem_mem, mem]

/-- The place that the patrol reads: a whole line of its stack. -/
theorem patrol_place {k line pa : Nat} (hk : k < 16) (inside : line * 64 < HOLE_OFF) (hpa : pa = SLOT * k + 64 * line) :
    pa / 64 * 64 = pa ∧ stackOf pa = k := by
  simp only [HOLE_OFF, SLOT, stackOf] at *
  omega

/-! ### Skew windows (R256, R257) -/

/-- The evaluation of a window whose ratio is within its limit. -/
theorem State.skewEnd_even {s : State} {k : Nat} {w : Window} (closed : (s.stack k).closed = some w)
    (low : skewRatio w.sumP w.sumQ w.samples ≤ max 0x0100 w.limit) :
    (s.skewEnd k).mem = s.mem ∧ (∀ j, j ≠ k → (s.skewEnd k).stack j = s.stack j) ∧
      (s.skewEnd k).stack k = { s.stack k with ratio := skewRatio w.sumP w.sumQ w.samples, closed := none, skewLast := false } := by
  unfold State.skewEnd
  rw [closed]
  dsimp only
  rw [if_pos low]
  refine ⟨rfl, fun j other => ?_, ?_⟩
  · simp [State.setStack_stack, other]
  · simp

/-- A stack whose window showed a skew of a region. -/
def Stack.skewed (x : Stack) (r region : Nat) : Stack :=
  { x with ratio := r, closed := none, skewLast := true, skewRegion := region, skew := x.skew || !x.skewLast }

/-- The evaluation of a window whose ratio is above its limit: BANK_SKEW where the last one was not. -/
theorem State.skewEnd_skewed {s : State} {k r : Nat} {w : Window} (closed : (s.stack k).closed = some w)
    (hr : r = skewRatio w.sumP w.sumQ w.samples) (high : max 0x0100 w.limit < r) : ∃ t : State,
    t.mem = s.mem ∧ t.stack k = (s.stack k).skewed r w.region ∧
      s.skewEnd k = if !(!(s.stack k).skewLast) then t else
        (t.bump blkMCX (0x05C0 + 4 * k)).event (s.providers ++ ((s.fnsOfTenant (s.region w.region).owner).filter fun fn => !s.isProvider fn)) evBANK_SKEW
          (leBytes 2 w.region ++ leBytes 1 k ++ leBytes 1 (s.region w.region).hash ++ leBytes 2 r) := by
  subst hr
  unfold State.skewEnd
  rw [closed]
  dsimp only
  rw [if_neg (by omega)]
  refine ⟨_, ?_, ?_, rfl⟩
  · rfl
  · simp [Stack.skewed]

/-! ### Failed stacks and dies (R246, R260, R262, R452) -/

/-- A failure of a stack that no boundary is already to settle is recorded, or before READY settled at once (R246). -/
theorem State.stackFails_new {s : State} {k : Nat} (hk : k < 16) (stands : s.stackFailed k = false) (new : ∀ c, Due.stack k c ∉ s.dir.due)
    (cause : Nat) : s.stackFails k cause = if s.glb.boot != 7 then s.failStacks [k] cause else s.later (.stack k cause) := by
  refine if_neg fun bad => ?_
  simp only [stands, Bool.or_eq_true, decide_eq_true_eq, Bool.false_eq_true, or_false] at bad
  rcases bad with high | waits
  · omega
  · obtain ⟨x, mem, this_one⟩ := List.any_eq_true.mp waits
    cases x
    case stack j c => exact new c (beq_iff_eq.mp this_one ▸ mem)
    all_goals exact absurd this_one Bool.false_ne_true

/-- The failure of a stack that has failed is nothing new. -/
theorem State.stackFails_again {s : State} {k : Nat} (failed : s.stackFailed k = true) (cause : Nat) : s.stackFails k cause = s :=
  if_pos (by simp [failed])

/-- A stack that has failed (Table 8.9): what waited in its queues is gone. -/
def Stack.dead (cause : Nat) (x : Stack) : Stack :=
  { x with state := .failed, cause := cause, plan := none, rateEnd := false, bankQ := [], holdQ := [], bridgeQ := [], win := {}, closed := none }

/-- Stacks changed one after another, each by a change that a second time makes no difference. -/
theorem State.setStacks_stack {f : Stack → Stack} (twice : ∀ x, f (f x) = f x) (ks : List Nat) (s : State) (j : Nat) :
    (ks.foldl (fun s k => s.setStack k f) s).stack j = if j ∈ ks then f (s.stack j) else s.stack j := by
  induction ks generalizing s with
  | nil => rfl
  | cons k ks ih =>
    rw [List.foldl_cons, ih]
    by_cases e : j = k
    · subst e
      simp [twice]
    · simp [State.setStack_stack, e]

/-- Stacks fail together: each that had not becomes FAILED with the cause, no other changes, and no byte. -/
theorem State.failStacks_stack (s : State) (ks : List Nat) (cause j : Nat) :
    (s.failStacks ks cause).stack j =
      if j ∈ ks.filter (fun k => k < 16 && !s.stackFailed k) then (s.stack j).dead cause else s.stack j := by
  unfold State.failStacks
  extract_lets fs u v w lost x
  split
  · next none_left =>
    have empty : fs = [] := List.isEmpty_iff.mp none_left
    exact (if_neg (show j ∉ fs by rw [empty]; exact List.not_mem_nil)).symm
  · have hu : u.stack j = if j ∈ fs then (s.stack j).dead cause else s.stack j := State.setStacks_stack (f := Stack.dead cause) (fun _ => rfl) fs s j
    have hv : v.mcx = u.mcx := foldl_same State.mcx (fun t k => State.raise_mcx _ _ _ _ _) fs u
    have hw : w.mcx = v.mcx := foldl_same State.mcx (fun t r => (State.settleRegion_frame rfl (Frame.refl 2158526 t)).same .mcx rfl) _ v
    have hx : x.mcx = w.mcx := (State.loseLayers_frame rfl (Frame.refl 2156860 w)).same .mcx rfl
    clear_value u v w x
    have hp : x.endHit.pruneActs.mcx = x.endHit.mcx := (State.pruneActs_frame rfl (Frame.refl 16 _)).same .mcx rfl
    have he : x.endHit.mcx = x.mcx := (State.endHit_frame rfl (Frame.refl 2157374 x)).same .mcx rfl
    exact (State.stack_congr (hp.trans (he.trans (hx.trans (hw.trans hv)))) j).trans hu

/-- Stacks that fail together are FAILED. -/
theorem State.failStacks_failed {s : State} {ks : List Nat} {cause j : Nat} (mem : j ∈ ks) (hj : j < 16) :
    ((s.failStacks ks cause).stack j).state = .failed := by
  rw [State.failStacks_stack]
  split
  · rfl
  · next not_marked => simpa [mem, hj, State.stackFailed] using not_marked

/-- A cellar die that fails takes its stacks with it. -/
theorem State.failDie_stacks {s : State} {d j : Nat} (hd : d < 4) (new : d ∉ s.mir.diesLost) (hj : j < 4) :
    ((s.failDie d).stack (4 * d + j)).state = .failed := by
  unfold State.failDie
  rw [if_neg (by simp [new]; omega)]
  extract_lets s1 s2 s3 jobs s4 s5 s6 s7 s8 s9
  have failed : (s4.stack (4 * d + j)).state = .failed := State.failStacks_failed (by simp; omega) (by omega)
  have h5 : s5.mcx = s4.mcx := (State.loseLayers_frame rfl (Frame.refl 2156860 s4)).same .mcx rfl
  clear_value s4
  have h6 : s6.mcx = s5.mcx := (State.stopJobs_frame rfl (Frame.refl 2156860 s5)).same .mcx rfl
  have h7 : s7.mcx = s6.mcx := (State.moveSteps_frame rfl (Frame.refl 32 s6)).same .mcx rfl
  clear_value s5 s6 s7
  have h8 : s8.mcx = s7.mcx := foldl_same State.mcx
    (fun t e => by
      split
      · split
        · rfl
        · exact (State.rebuildOuts_frame rfl (Frame.refl 20 t)).same .mcx rfl
      · rfl) jobs s7
  have h9 : s9.mcx = s8.mcx := (State.leaveQueues_frame rfl (Frame.refl 2156860 s8)).same .mcx rfl
  clear_value s8 s9
  rw [State.stack_congr ((State.onOpu_mcx _ _).trans (h9.trans (h8.trans (h7.trans (h6.trans h5)))))]
  exact failed

/-- A die of which both bridges are lost fails (R451). -/
theorem State.bridgeLost_new {s u : State} {d h : Nat} (hd : d < 4) (hh : h < 2) (new : (d, h) ∉ s.mir.bridgesLost) (stands : d ∉ s.mir.diesLost)
    (hub : h ∉ s.mir.hubsLost) (hu : u = (s.onMir fun m => { m with bridgesLost := m.bridgesLost ++ [(d, h)] }).raise blkFLT h 0 d) :
    s.bridgeLost d h = if (d, 1 - h) ∈ s.mir.bridgesLost ∨ (1 - h) ∈ s.mir.hubsLost then u.dieFails d else u := by
  subst hu
  have other : 1 - h ≠ h := by omega
  refine (if_neg (by simp [new, stands, hub]; omega)).trans ?_
  simp [State.raise_mir, other]

/-- Settles O57: a stack by the change of its own entry, its failure and a die's by the fold that marks the stacks. That a reading acts on
a FAILED stack too is log 132, that the retrain of a boundary is planned beforehand log 123, and that a failed one is repeated at once log 66. -/
theorem stacksAreServedAndFail : Obligations.StacksAreServedAndFail := by
  unfold Obligations.StacksAreServedAndFail
  intro s k t0 cause hk
  refine ⟨fun failed => ?_, fun m count served hm hc => ?_, fun still off off' g ls => ?_, fun serves due g ls => ?_, fun ready due => ⟨?_, fun first => ?_⟩,
    fun runs again boot new => ?_, fun l n runs new hn => ⟨fun spare => ?_, fun none_left => ?_⟩, fun ok old n served hold hn => ?_,
    fun changing => ⟨fun early => ?_, fun next => ?_, fun late => ?_⟩, fun still => ?_, ?_,
    fun line pa served inside on hpa good right => ⟨?_, ?_, fun alone kept => ?_, fun b twin serves good' right' other => ?_⟩,
    fun closed => ?_, fun w r closed hr => ⟨fun low => ?_, fun high last => ?_, fun high last => ?_⟩, fun bad => ?_,
    fun low high stands new => ⟨fun boot => ?_, fun boot => ?_⟩, fun stands => ⟨?_, ?_, fun j other => ?_, ?_⟩,
    fun d => ⟨fun gone => ?_, fun hd stands new => ⟨fun boot => ?_, fun boot => ?_⟩, fun t hd stands ht => ⟨fun j hj => ?_, ?_, ?_⟩⟩,
    fun d h u hd hh new stands hub hu => ⟨fun one hubs => ?_, fun both => ?_⟩⟩
  · have state : (s.stack k).state = .failed := by simpa [State.stackFailed] using failed
    have idle : (s.stack k).served = false := Stack.not_served_of_failed state
    refine ⟨congrArg Host.Outcome.next (if_pos (by simp [idle])), congrArg Host.Outcome.next ?_, congrArg Host.Outcome.next (if_pos (by simp [state])),
      fun ok => congrArg Host.Outcome.next (if_pos (by simp [idle])), fun g ls => congrArg Host.Outcome.next (State.retrain_none ?_ (.inl state) g ls)⟩
    · rw [State.stackFails_again failed, ite_self]
    · rw [state]
      decide
  · obtain ⟨last, next, none⟩ := State.refresh_cases hk served hm
    subst hc
    refine ⟨fun on new => congrArg Host.Outcome.next (last on new), fun off on new => congrArg Host.Outcome.next ?_,
      fun off off' => congrArg Host.Outcome.next (none off off'), fun counted off => congrArg Host.Outcome.next ?_⟩
    · exact (next off on).trans (State.countRefresh_new new)
    · by_cases on : (s.tick + 1 + k) % m = 0
      · exact (next (.inl off) on).trans (State.countRefresh_again counted)
      · exact none off on
  · exact congrArg Host.Outcome.next (State.retrain_none still (.inr ⟨off, off'⟩) g ls)
  · exact congrArg Host.Outcome.next (State.retrain_planned hk serves due g ls)
  · obtain ⟨t, eq, mem, -, -, others, self⟩ := s.retrainStart_stack k true []
    exact ⟨t, congrArg Host.Outcome.next ((State.retrain_started hk ready due true []).trans eq), mem, others, self⟩
  · obtain ⟨t, eq, mem, -, -, others, self⟩ := s.retrainStart_stack k false []
    obtain ⟨mem', others', self'⟩ := State.retrainBad_first (s := t) (k := k) (by rw [self]; exact first)
    refine ⟨t.retrainBad k, congrArg Host.Outcome.next ((State.retrain_started hk ready due false []).trans eq), mem'.trans mem,
      fun j other => (others' j other).trans (others j other), ?_⟩
    rw [self', self]
  · have started : ∃ t : State, s.retrain k false [] = t.retrainBad k ∧ (t.stack k).state = .retrain ∧ 1 ≤ (t.stack k).fails ∧ t.dir = s.dir ∧
        t.mem = s.mem ∧ t.glb.boot = s.glb.boot := by
      rcases runs with ⟨ready, due⟩ | runs
      · obtain ⟨t, eq, mem, dir, hb, -, self⟩ := s.retrainStart_stack k false []
        exact ⟨t, (State.retrain_started hk ready due false []).trans eq, by rw [self], by rw [self]; exact again, dir, mem, hb⟩
      · exact ⟨s, State.retrain_running hk runs false [], runs, again, rfl, rfl, rfl⟩
    obtain ⟨t, eq, state, again, dir, mem, hb⟩ := started
    obtain ⟨u, eq', mcx', dir', mem', glb'⟩ := State.retrainBad_second again
    have state' : (u.stack k).state = .retrain := by rw [State.stack_congr mcx']; exact state
    refine ⟨u, congrArg Host.Outcome.next (eq.trans (eq'.trans ((State.stackFails_new hk ?_ ?_ 2).trans (if_neg ?_)))), state', dir'.trans dir, mem'.trans mem⟩
    · rw [State.stackFailed_eq_false, state']
      decide
    · rw [dir', dir]
      exact new
    · rw [glb', hb, boot]
      decide
  · refine congrArg Host.Outcome.next ((State.retrain_running hk runs true [l]).trans
      ((State.repairLanes_one (by rw [runs]; decide) new).trans (if_pos ?_)))
    rw [← hn]
    exact spare
  · refine congrArg Host.Outcome.next ((State.retrain_running hk runs true [l]).trans
      ((State.repairLanes_one (by rw [runs]; decide) new).trans (if_neg ?_)))
    rw [← hn]
    exact Nat.not_lt.mpr none_left
  · obtain ⟨u, mem, self, tick, eq⟩ := State.caError_counts hk served hold hn
    obtain ⟨mem', errs', tick', ready', retrain'⟩ := u.eighthError_stack k
    by_cases few : n < 8 ∨ 8 ≤ old
    · refine ⟨u, congrArg Host.Outcome.next (eq.trans (if_pos few)), by rw [self]; rfl, by rw [self]; rfl, mem, fun _ => by rw [self]; exact ⟨rfl, rfl⟩, ?_, ?_⟩ <;>
        · intros
          omega
    · refine ⟨u.eighthError k, congrArg Host.Outcome.next (eq.trans (if_neg few)), by rw [errs', self]; rfl, by rw [tick', self]; rfl, mem'.trans mem,
        fun stays => absurd stays few, fun _ _ ready => ?_, fun _ _ runs => ?_⟩
      · rw [← tick]
        exact ready' (by rw [self]; exact ready)
      · exact (retrain' (by rw [self]; exact runs)).trans (by rw [self]; rfl)
  · exact congrArg Host.Outcome.next (if_pos (by simp [early]))
  · refine congrArg Host.Outcome.next ((if_neg ?_).trans (if_pos (by omega)))
    simp [changing]
    omega
  · refine congrArg Host.Outcome.next ((if_neg ?_).trans (if_neg (by omega)))
    simp [changing]
    omega
  · exact congrArg Host.Outcome.next (if_pos (by simp [still]))
  · obtain ⟨u, temp, state, hot, alert, pins, mem, dir, others, eq⟩ := s.stackTemp_reading hk t0
    exact ⟨u, temp, state, hot, alert, pins, mem, dir, others, fun cool => congrArg Host.Outcome.next (eq.trans (if_neg (by omega))),
      fun high => congrArg Host.Outcome.next (eq.trans (if_pos high))⟩
  · refine congrArg Host.Outcome.next ((State.patrol_reads hk served inside on hpa 0).trans ?_)
    have found : s.patrolFound k (pa / 64) 0 = s.patrolled k := State.checkLine_none right
    rw [found]
    exact if_neg (by rw [show (s.patrolled k).poisoned (pa / 64) = false from good]; decide)
  · obtain ⟨v, eq, mem, mcx⟩ := State.harm_corrected (s := s.patrolled k) (line := pa / 64) right
    obtain ⟨aligned, place⟩ := patrol_place hk inside hpa
    rw [aligned, place] at eq
    have found : s.patrolFound k (pa / 64) 1 = v.foundCe k := eq
    have clean : (v.foundCe k).poisoned (pa / 64) = false := by
      simp only [State.poisoned, State.foundCe, State.raise_mcx, State.bump_mcx, mcx]
      exact good
    refine ⟨v, congrArg Host.Outcome.next ((State.patrol_reads hk served inside on hpa 1).trans ?_), mem, by rw [mcx]; rfl, by rw [mcx]; exact right⟩
    rw [found]
    exact if_neg (by rw [clean]; decide)
  · obtain ⟨v, eq, mem, mcx, rgn, dir⟩ := State.harm_poisoned (s := s.patrolled k) (line := pa / 64) right
    obtain ⟨-, -, mem', rgn', dir'⟩ := v.setPoison_keeps (pa / 64)
    have found : s.patrolFound k (pa / 64) 2 = v.setPoison (pa / 64) := eq
    have poisoned : (v.setPoison (pa / 64)).poisoned (pa / 64) = true := (State.setPoison_poisoned v _ _).mpr (.inl rfl)
    refine ⟨v.setPoison (pa / 64), congrArg Host.Outcome.next ((State.patrol_reads hk served inside on hpa 2).trans ?_), poisoned, mem'.trans mem⟩
    rw [found, if_pos poisoned]
    exact State.patrolBad_alone ((State.otherCopy_congr (rgn'.trans rgn) (dir'.trans dir) pa).trans alone) kept
  · obtain ⟨v, eq, mem, mcx, rgn, dir⟩ := State.harm_poisoned (s := s.patrolled k) (line := pa / 64) right
    obtain ⟨stk', errs', mem', rgn', dir'⟩ := v.setPoison_keeps (pa / 64)
    obtain ⟨aligned, -⟩ := patrol_place hk inside hpa
    have found : s.patrolFound k (pa / 64) 2 = v.setPoison (pa / 64) := eq
    have poisoned : (v.setPoison (pa / 64)).poisoned (pa / 64) = true := (State.setPoison_poisoned v _ _).mpr (.inl rfl)
    have states (j : Nat) : ((v.setPoison (pa / 64)).stack j).state = (s.stack j).state := by
      simp only [State.stack, stk', mcx]
      exact State.setStack_state s k j _ fun _ => rfl
    have good_twin : (v.setPoison (pa / 64)).poisoned (b / 64) = false := by
      rw [Bool.eq_false_iff]
      intro h
      rcases (State.setPoison_poisoned v _ _).mp h with e | h
      · exact other e
      · rw [State.poisoned, mcx] at h
        exact absurd h (Bool.eq_false_iff.mp good')
    obtain ⟨healed, written⟩ := State.patrolBad_twin (s := v.setPoison (pa / 64)) (k := k)
      ((State.otherCopy_congr (rgn'.trans rgn) (dir'.trans dir) pa).trans twin)
      ((State.stackFailed_congr states (stackOf b)).trans serves) good_twin (by rw [errs', mcx]; exact right') aligned
    refine ⟨_, congrArg Host.Outcome.next ((State.patrol_reads hk served inside on hpa 2).trans (by rw [found, if_pos poisoned])), healed, ?_⟩
    rw [written, mem'.trans mem]
    rfl
  · refine congrArg Host.Outcome.next ?_
    unfold State.skewEnd
    rw [closed]
  · subst hr
    obtain ⟨mem, others, self⟩ := State.skewEnd_even closed low
    exact ⟨s.skewEnd k, rfl, mem, others, self⟩
  · obtain ⟨t, mem, self, eq⟩ := State.skewEnd_skewed closed hr high
    refine ⟨t, congrArg Host.Outcome.next (eq.trans (if_pos (by simp [last]))), mem, ?_⟩
    simp [self, Stack.skewed, last]
  · obtain ⟨t, mem, self, eq⟩ := State.skewEnd_skewed closed hr high
    refine ⟨t, _, congrArg Host.Outcome.next (eq.trans (if_neg (by simp [last]))), mem, rfl, ?_⟩
    simp [self, Stack.skewed, last]
  · exact congrArg Host.Outcome.next (if_neg (by simp; omega))
  · exact congrArg Host.Outcome.next ((if_pos (by simp [low, high])).trans ((State.stackFails_new hk stands new cause).trans (if_neg (by simp [boot]))))
  · exact congrArg Host.Outcome.next ((if_pos (by simp [low, high])).trans ((State.stackFails_new hk stands new cause).trans (if_pos (by simp [boot]))))
  · exact State.failStacks_failed (List.mem_singleton.mpr rfl) hk
  · refine congrArg Stack.cause ((State.failStacks_stack s [k] cause k).trans (if_pos ?_))
    simp [hk, stands]
  · exact (State.failStacks_stack s [k] cause j).trans (if_neg (by simp [other]))
  · exact (State.failStacks_frame rfl (Frame.refl 2158590 s)).same .mem rfl
  · refine congrArg Host.Outcome.next (if_pos ?_)
    rcases gone with h | h | h <;> simp [h]
  · exact congrArg Host.Outcome.next ((if_neg (by simp [stands, new]; omega)).trans (if_neg (by simp [boot])))
  · exact congrArg Host.Outcome.next ((if_neg (by simp [stands, new]; omega)).trans (if_pos (by simp [boot])))
  · rw [ht]
    exact State.failDie_stacks hd stands hj
  · have split : s.failDie d = _ := if_neg (by simp [stands]; omega)
    exact ⟨_, ht.trans split⟩
  · rw [ht]
    exact (State.failDie_frame rfl (Frame.refl 2158590 s)).same .mem rfl
  · exact congrArg Host.Outcome.next ((State.bridgeLost_new hd hh new stands hub hu).trans (if_neg (by simp [one, hubs])))
  · exact congrArg Host.Outcome.next ((State.bridgeLost_new hd hh new stands hub hu).trans (if_pos both))

end Sys2Proof.Machine
end

section
/-! PROOFS. The tick boundary: what the closing tick accepted is settled, the count rises by one, and network time goes on (R5, R8, R21, R480). -/

namespace Sys2Proof.Machine

/-! ### What of GLB only the count of a boundary moves -/

/-- The tick count, the boot's step, and network time with its next boundary and a set that waits. -/
def Glb.clock (g : Glb) : Nat × Nat × Nat × Option Nat × Option Nat := (g.tick, g.boot, g.time.now, g.time.next, g.time.pending)

def State.clock (s : State) : Nat × Nat × Nat × Option Nat × Option Nat := s.glb.clock

theorem State.clock_congr {s t : State} (h : t.glb = s.glb) : t.clock = s.clock := congrArg Glb.clock h

theorem Glb.clock_life (g : Glb) (l : Tbl Nat) : { g with life := l }.clock = g.clock := rfl

theorem State.lifeAdd_clock (s : State) (i n : Nat) : (s.lifeAdd i n).clock = s.clock := rfl

theorem State.countRefresh_clock (s : State) (k t : Nat) : (s.countRefresh k t).clock = s.clock := by
  unfold State.countRefresh
  split <;> rfl

theorem State.setReg_clock (s : State) (off v : Nat) : (s.setReg off v).clock = s.clock := by
  unfold State.setReg
  split <;> rfl

/-- Values written in the closing tick move neither the count nor network time (R8). -/
theorem State.writesTick_clock (s : State) : s.writesTick.clock = s.clock := by
  have regs : s.regsTick.clock = s.clock := foldl_same State.clock (f := fun (u : State) (e : Nat × Nat) => u.setReg e.1 e.2)
    (fun u e => State.setReg_clock u e.1 e.2) s.glb.regNext s
  have fns (u : State) : u.fnRegsTick.clock = u.clock := State.clock_congr ((State.fnRegsTick_frame rfl (Frame.refl 768 u)).same .glb rfl)
  have freeze (u : State) : u.freezeTick.clock = u.clock := State.clock_congr ((State.freezeTick_frame rfl (Frame.refl 2048 u)).same .glb rfl)
  have users (u : State) : u.usersTick.clock = u.clock := State.clock_congr ((State.usersTick_frame rfl (Frame.refl 32 u)).same .glb rfl)
  have ovf (u : State) : u.ovfTick.clock = u.clock := State.clock_congr ((State.ovfTick_frame rfl (Frame.refl 2113536 u)).same .glb rfl)
  exact (ovf _).trans ((users _).trans ((freeze _).trans ((fns _).trans regs)))

/-- The entry to G-CELLAR leaves the count and network time (R499, R500). -/
theorem State.enterCellar_clock (s : State) : s.enterCellar.clock = s.clock := by
  unfold State.enterCellar
  extract_lets c u u1 u2 u3
  split
  · rfl
  · have h3 : u3.glb = u2.glb := foldl_same State.glb (fun w l => by split <;> rfl) _ u2
    have h2 : u2.glb = u1.glb := State.linkDowns_glb _ u1
    have h1 : u1.glb = u.glb := State.downLinks_glb _ u
    have h0 : u.clock = s.clock := rfl
    clear_value u u1 u2 u3
    have kept : u3.agentLinks.clock = u.clock := State.clock_congr ((State.agentLinks_glb u3).trans (h3.trans (h2.trans h1)))
    have saved : u3.agentLinks.saveCounters.clock = u3.agentLinks.clock := (congrArg Glb.clock (State.saveCounters_glb _)).trans (Glb.clock_life _ _)
    exact saved.trans (kept.trans h0)

theorem State.takeTarget_clock (s : State) (fn t : Nat) : (s.takeTarget fn t).clock = s.clock := by
  unfold State.takeTarget
  split
  · rfl
  · split
    · exact State.enterCellar_clock s
    · cases hc : s.glb.change <;> simp [State.clock, Glb.clock, hc]

/-- What waited for the boundary leaves the count and network time. -/
theorem State.applyDue_clock (s : State) (x : Due) : (s.applyDue x).clock = s.clock := by
  cases x
  case req q => exact State.clock_congr ((State.dueReq_frame rfl (Frame.refl 10547031 s)).same .glb rfl)
  case cmd fn p => exact State.clock_congr ((State.applyCmd_frame rfl (Frame.refl 10682367 s)).same .glb rfl)
  case owner a f => exact State.clock_congr ((State.ownerApply_frame rfl (Frame.refl 8 s)).same .glb rfl)
  case expire i => exact State.clock_congr ((State.expireAt_frame rfl (Frame.refl 10547031 s)).same .glb rfl)
  case hold b => exact State.clock_congr ((State.setHold_frame rfl (Frame.refl 49152 s)).same .glb rfl)
  case faultEnd slot seq => exact State.clock_congr ((State.faultEnd_frame rfl (Frame.refl 2156860 s)).same .glb rfl)
  case pstate fn t => exact State.takeTarget_clock s fn t
  case flr fn => exact State.clock_congr ((State.flrApply_frame rfl (Frame.refl 10551167 s)).same .glb rfl)
  case stack k c => exact State.clock_congr ((State.failStacks_frame rfl (Frame.refl 2158590 s)).same .glb rfl)
  case die d => exact State.clock_congr ((State.failDie_frame rfl (Frame.refl 2158590 s)).same .glb rfl)

/-- What a boundary settles first (R5): in order, the deadlines last, and HOLD after all. -/
theorem State.dueTick_eq (s : State) : s.dueTick =
    ((s.dir.due.filter (fun x => !x.isExpire) ++ s.dir.due.filter Due.isExpire).foldl (fun w x => w.applyDue x) (s.onDir fun d => { d with due := [] })).fatalTick := by
  unfold State.dueTick
  rw [List.partition_eq_filter_filter]
  rfl

theorem State.dirTick_clock (s : State) (live : Bool) : (s.dirTick live).clock = s.clock := by
  have due : s.dueTick.clock = s.clock := by
    rw [State.dueTick_eq]
    exact foldl_same State.clock State.applyDue_clock _ (s.onDir fun d => { d with due := [] })
  unfold State.dirTick
  extract_lets u
  split
  · have parked := (State.parkedTick_frame rfl (Frame.refl 10547031 u)).same .glb rfl
    have regions := (State.regionsTick_frame rfl (Frame.refl 10547031 u.parkedTick)).same .glb rfl
    have delta := (State.sendDelta_frame rfl (Frame.refl 6351104 u.parkedTick.regionsTick)).same .glb rfl
    exact (State.clock_congr (delta.trans (regions.trans parked))).trans due
  · exact due

/-! ### The count and network time -/

/-- Network time at a boundary (R478, R480): a set that waits moves time alone. -/
theorem State.timeTick_glb (s : State) : s.timeTick.glb.tick = s.tick ∧ s.timeTick.glb.boot = s.glb.boot ∧
    (s.glb.time.pending = none → s.timeTick.glb.time.now = s.glb.time.next.getD (s.glb.time.now + 1280) ∧ s.timeTick.glb.time.next = none) := by
  unfold State.timeTick
  extract_lets u
  cases hp : s.glb.time.pending with
  | none =>
    have pending : u.glb.time.pending = none := hp
    rw [pending]
    exact ⟨rfl, rfl, fun _ => ⟨rfl, rfl⟩⟩
  | some v =>
    have pending : u.glb.time.pending = some v := hp
    rw [pending]
    dsimp only
    split
    · exact ⟨rfl, rfl, nofun⟩
    · obtain ⟨now, next, eq⟩ := State.stepBy_time (u.onTime fun t => { t with pending := none }) ((v : Int) - u.glb.time.now)
      refine ⟨?_, ?_, nofun⟩ <;>
        · rw [eq]
          rfl

theorem State.secondsTick_clock (s : State) : s.secondsTick.clock = s.clock := by
  unfold State.secondsTick
  generalize List.range 16 = l
  split
  · rfl
  · exact foldl_same State.clock (f := fun s k => (s.lifeAdd (16 + k) (b2n (s.stack k).sec85)).lifeAdd (32 + k) (b2n (s.stack k).sec95))
      (fun _ _ => rfl) l ((s.lifeAdd 0).lifeAdd 1 (b2n s.cellar))

/-- The count rises by one, and network time goes on. -/
theorem State.countTick_glb (s : State) : s.countTick.glb.tick = s.tick + 1 ∧ s.countTick.glb.boot = s.glb.boot ∧
    (s.glb.time.pending = none → s.countTick.glb.time.now = s.glb.time.next.getD (s.glb.time.now + 1280) ∧ s.countTick.glb.time.next = none) := by
  unfold State.countTick
  extract_lets u
  have kept : u.timeTick.secondsTick.ageTick.latchTick.dupTick.clock = u.timeTick.clock := by
    have age := (State.ageTick_frame rfl (Frame.refl 4 u.timeTick.secondsTick)).same .glb rfl
    have latch := (State.latchTick_frame rfl (Frame.refl 1048576 u.timeTick.secondsTick.ageTick)).same .glb rfl
    exact (State.clock_congr (latch.trans age)).trans (State.secondsTick_clock _)
  obtain ⟨tick, boot, time⟩ := u.timeTick_glb
  simp only [State.clock, Glb.clock, Prod.mk.injEq] at kept
  obtain ⟨tick', boot', now', next', -⟩ := kept
  exact ⟨tick'.trans tick, boot'.trans boot, fun none_waits => ⟨now'.trans (time none_waits).1, next'.trans (time none_waits).2⟩⟩

/-! ### The stacks and the power of a boundary -/

theorem State.retrainFound_clock (s : State) (k : Nat) (good : Bool) (ls : List Lane) : (s.retrainFound k good ls).clock = s.clock := by
  have lanes : (s.repairLanes k ls).glb = s.glb := (State.repairLanes_frame rfl (Frame.refl 2158590 s)).same .glb rfl
  have bad := (State.retrainBad_frame (k := k) rfl (Frame.refl 10547198 (s.repairLanes k ls))).same .glb rfl
  unfold State.retrainFound
  split
  · exact State.clock_congr lanes
  · exact State.clock_congr (bad.trans lanes)

theorem State.retrainStart_clock (s : State) (k : Nat) (good : Bool) (ls : List Lane) : (s.retrainStart k good ls).clock = s.clock :=
  (State.retrainFound_clock _ k good ls).trans (State.countRefresh_clock _ k s.tick)

theorem State.stackTick_clock (s : State) : s.stackTick.clock = s.clock := by
  have ends := State.clock_congr ((State.busyEnds_frame rfl (Frame.refl 64 s)).same .glb rfl)
  have starts (u : State) : u.busyStarts.clock = u.clock := by
    unfold State.busyStarts
    generalize List.range 16 = l
    extract_lets wake v
    have hv : v.clock = u.clock := foldl_same State.clock (fun w k => by
      dsimp only
      split
      · exact State.retrainStart_clock _ _ _ _
      · split
        · split
          · exact State.retrainStart_clock _ _ _ _
          · rfl
        · rfl) l u
    split
    · exact hv
    · exact hv
  exact (State.clock_congr ((State.sleepTick_frame rfl (Frame.refl 64 s.busyEnds.busyStarts)).same .glb rfl)).trans ((starts _).trans ends)

theorem State.setLevel_clock (s : State) (l : Nat) (forced : Bool) : (s.setLevel l forced).clock = s.clock := by
  have stage (u : State) (old : Nat) : (u.stageChange old l forced).clock = u.clock := by
    unfold State.stageChange
    split
    · rfl
    · dsimp only
      generalize hv : State.event _ _ _ _ = v
      have glb : v.glb = u.glb := hv ▸ State.event_glb _ _ _ _
      obtain ⟨q, eq⟩ := v.logRec_glb 2 v.glb.time.now (leBytes 8 v.tick ++ leBytes 1 (stageOf old) ++ leBytes 1 (stageOf l) ++ leBytes 1 l ++ leBytes 1 (b2n forced))
      exact (congrArg Glb.clock eq).trans (State.clock_congr glb)
  unfold State.setLevel
  extract_lets old was u v new w
  split
  · rfl
  · have moved : w.clock = v.clock := foldl_same State.clock (f := fun s n => s.setUnit n fun u => { u with moving := true }) (fun _ _ => rfl) new v
    have rate : v.clock = u.clock := by
      unfold v
      split <;> rfl
    exact (stage w old).trans (moved.trans rate)

theorem State.pwrTick_clock (s : State) : s.pwrTick.clock = s.clock := by
  unfold State.pwrTick
  extract_lets u thr u1 u2 u3 st u4 u5 low
  have h : u.clock = s.clock := State.clock_congr ((State.closeIntervals_frame rfl (Frame.refl 131072 s)).same .glb rfl)
  split
  · exact h
  · have h2 : u2.clock = u1.clock := State.setLevel_clock _ _ _
    have h3 : u3.clock = u2.clock := State.clock_congr ((State.rateTick_frame rfl (Frame.refl 131136 u2)).same .glb rfl)
    have h1 : u1.clock = u.clock := rfl
    clear_value u u1 u2 u3
    exact h3.trans (h2.trans (h1.trans h))

/-! ### The boundary -/

/-- A boundary after its count: retraining and power, then what is live. -/
def State.afterCount (s : State) (live : Bool) : State :=
  let s := (if s.failedPart then s else s.stackTick).pwrTick
  let s := if live then s.liveTick else if s.failedPart then s else s.tempTick.flrTick
  s.signalTick.lutikRound

theorem State.afterCount_clock (s : State) (live : Bool) : (s.afterCount live).clock = s.clock := by
  unfold State.afterCount
  extract_lets u v
  have hu : u.clock = s.clock := by
    refine (State.pwrTick_clock _).trans ?_
    split
    · rfl
    · exact State.stackTick_clock s
  have hv : v.glb = u.glb := by
    unfold v
    split
    · exact (State.liveTick_frame rfl (Frame.refl 10551295 u)).same .glb rfl
    · split
      · rfl
      · have temp := (State.tempTick_frame rfl (Frame.refl 64 u)).same .glb rfl
        exact ((State.flrTick_frame rfl (Frame.refl 2157498 u.tempTick)).same .glb rfl).trans temp
  clear_value u v
  have signal := (State.signalTick_frame rfl (Frame.refl 11008 v)).same .glb rfl
  have lutik := (State.lutikRound_frame rfl (Frame.refl 2124036 v.signalTick)).same .glb rfl
  exact (State.clock_congr (lutik.trans (signal.trans hv))).trans hu

/-- A boundary of a READY part: what the closing tick accepted, the count, and the tick that begins. -/
theorem State.tickBoundary_ready {s : State} (powered : s.powered = true) (boot : s.glb.boot = 7) : s.tickBoundary =
    if s.mir.state == .switching then s.countTick.stackTick.tempTick
    else ((s.writesTick.dirTick (!s.failedPart && !s.cellar)).countTick).afterCount (!s.failedPart && !s.cellar) :=
  if_neg (by simp [powered, boot])

/-- A boundary of a READY part counts, and network time goes on. -/
theorem State.tickBoundary_counts {s : State} (powered : s.powered = true) (boot : s.glb.boot = 7) :
    s.tickBoundary.tick = s.tick + 1 ∧ s.tickBoundary.glb.boot = 7 ∧
      (s.glb.time.pending = none →
        s.tickBoundary.glb.time.now = s.glb.time.next.getD (s.glb.time.now + 1280) ∧ s.tickBoundary.glb.time.next = none) := by
  have counted : ∃ u : State, u.clock = s.clock ∧ s.tickBoundary.clock = u.countTick.clock := by
    rw [State.tickBoundary_ready powered boot]
    split
    · have temp := State.clock_congr ((State.tempTick_frame rfl (Frame.refl 64 s.countTick.stackTick)).same .glb rfl)
      exact ⟨s, rfl, temp.trans (State.stackTick_clock _)⟩
    · exact ⟨_, (State.dirTick_clock _ _).trans (State.writesTick_clock s), State.afterCount_clock _ _⟩
  obtain ⟨u, same, eq⟩ := counted
  obtain ⟨tick, hb, time⟩ := u.countTick_glb
  simp only [State.clock, Glb.clock, Prod.mk.injEq] at same eq
  obtain ⟨tick0, boot0, now0, next0, pending0⟩ := same
  obtain ⟨tick1, boot1, now1, next1, -⟩ := eq
  rw [boot0, boot] at hb
  simp only [State.tick, tick0] at tick ⊢
  rw [pending0, now0, next0] at time
  exact ⟨tick1.trans tick, boot1.trans hb, fun idle => ⟨now1.trans (time idle).1, next1.trans (time idle).2⟩⟩

end Sys2Proof.Machine
end

section
/-! PROOFS. The register windows (R11, R63, R509, R510, R530 to R538): the gate of an access, reads and their latches, writes, and the reads of SMBus. -/

namespace Sys2Proof.Machine

/-! ### The gate of an access -/

/-- An access of a function that is not there, or whose link is not UP, has no effect. -/
theorem State.regGated_absent {s : State} {fn : Nat} {bar0 tbit read : Bool} {f : State → State} (h : s.regGate fn bar0 tbit = 0) :
    s.regGated fn bar0 tbit read f = s := by
  simp [State.regGated, h]

/-- A read of a function whose BAR is not live is an Unsupported Request. -/
theorem State.regGated_refused {s : State} {fn : Nat} {bar0 tbit : Bool} {f : State → State} (h : s.regGate fn bar0 tbit = 1) :
    s.regGated fn bar0 tbit true f = s.emit .regUr := by
  simp [State.regGated, h]

/-- A read without the T bit of a function in RUN is counted and an Unsupported Request. -/
theorem State.regGated_untrusted {s : State} {fn : Nat} {bar0 tbit : Bool} {f : State → State} (h : s.regGate fn bar0 tbit = 2) :
    s.regGated fn bar0 tbit true f = (s.bump blkPCI (0x0880 + 4 * (s.func fn).link)).emit .regUr := by
  simp [State.regGated, h]

/-! ### Reads -/

/-- A tenant function of tenant 0 reads no register that is not every function's (R538). -/
theorem State.tenantRead_denied {s : State} {fn a : Nat} (on : s.windowOn (a / 0x100000) = true) (there : (s.bar2Reg a).isSome = true)
    (low : s.highOf a = false) (other : everyFn (a / 0x100000) (a % 0x100000) = false) (none_of : (s.func fn).tenant = 0) :
    s.tenantRead fn a = (0, true) := by
  have found : (s.bar2Reg a).isNone = false := by simpa using there
  simp [State.tenantRead, low, on, found, other, none_of]

/-- What the provider reads through its view, where no vintage is latched (R537). -/
theorem State.viewValue_provider {s : State} {fn a : Nat} (prov : s.isProvider fn = true) (ha : a = (s.func fn).viewAddr % 2 ^ 25 / 4 * 4)
    (plain : ¬ (a = 0x80000C ∧ s.windowOn blkRGN = true)) :
    s.viewValue fn = (s.provRead a, s.setFn fn fun f => { f with viewDenied := false }) := by
  subst ha
  have no_latch : (s.isProvider fn && ((s.func fn).viewAddr % 2 ^ 25 / 4 * 4 == 0x80000C) && s.windowOn blkRGN) = false := by
    rw [Bool.eq_false_iff]
    intro h
    simp only [Bool.and_eq_true, beq_iff_eq] at h
    exact plain ⟨h.1.2, h.2⟩
  unfold State.viewValue
  dsimp only
  rw [if_neg (Bool.eq_false_iff.mp no_latch), if_pos prov]

/-- What a function of tenant 0 that is not the provider's reads through its view: nothing, and it is denied (R538). -/
theorem State.viewValue_denied {s : State} {fn a : Nat} (prov : s.isProvider fn = false) (ha : a = (s.func fn).viewAddr % 2 ^ 25 / 4 * 4)
    (denied : s.tenantRead fn a = (0, true)) : s.viewValue fn = (0, s.setFn fn fun f => { f with viewDenied := true }) := by
  subst ha
  simp only [State.viewValue, prov, Bool.false_and, Bool.false_eq_true, if_false, denied]

/-- A read of the low word of a 64-bit register keeps its high word (R532). -/
theorem State.lowVal_wide {s : State} {fn bar off x : Nat} (plain : ¬ (bar = 0 ∧ off = 0x88)) (found : s.regOf fn bar off = some (true, x)) :
    s.lowVal fn bar off = (s.onGlb fun g => { g with hiLatch := Tbl.put g.hiLatch (latchKey fn bar off + 4) (x / 2 ^ 32) }).emit (.regData (x % 2 ^ 32)) := by
  refine (if_neg (by simpa using plain)).trans ?_
  rw [found]

/-- A read of a 32-bit register, or of the low word's place where none is. -/
theorem State.lowVal_narrow {s : State} {fn bar off : Nat} (plain : ¬ (bar = 0 ∧ off = 0x88)) :
    (∀ x, ¬ (bar = 2 ∧ off = 0x80000C) → s.regOf fn bar off = some (false, x) → s.lowVal fn bar off = s.emit (.regData x)) ∧
      (s.regOf fn bar off = none → s.lowVal fn bar off = s.emit (.regData 0)) := by
  refine ⟨fun x no_latch found => ?_, fun found => ?_⟩
  · refine (if_neg (by simpa using plain)).trans ?_
    rw [found]
    dsimp only
    rw [if_neg (by simpa using no_latch)]
  · refine (if_neg (by simpa using plain)).trans ?_
    rw [found]

/-! ### Writes -/

/-- The RW 64-bit registers of BAR0, as their two words find them (R532). -/
theorem State.regAt_held {s : State} {fn base : Nat} (h : base = 0x20 ∨ base = 0x1020 ∨ base = 0x1040) :
    s.regAt fn 0 (base + 4) = some (base, true) := by
  rcases h with rfl | rfl | rfl <;> rfl

/-- The low word of an RW 64-bit register is held (R532). -/
theorem State.write64_low {s : State} {fn base : Nat} (h : base = 0x20 ∨ base = 0x1020 ∨ base = 0x1040) (v : Nat) :
    s.write64Word fn base false v = s.onGlb fun g => { g with loHold := Tbl.put g.loHold (latchKey fn 0 base) (v % 2 ^ 32) } :=
  (if_pos (by rcases h with rfl | rfl | rfl <;> rfl)).trans (if_neg Bool.false_ne_true)

/-- The high word writes the register with the low word that was held. -/
theorem State.write64_high {s : State} {fn base low : Nat} (h : base = 0x20 ∨ base = 0x1020 ∨ base = 0x1040)
    (held : Tbl.find s.glb.loHold (latchKey fn 0 base) = some low) (v : Nat) :
    s.write64Word fn base true v =
      (s.onGlb fun g => { g with loHold := Tbl.del g.loHold (latchKey fn 0 base) }).write0 fn base (low + 2 ^ 32 * (v % 2 ^ 32)) := by
  refine (if_pos (by rcases h with rfl | rfl | rfl <;> rfl)).trans ((if_pos rfl).trans ?_)
  rw [held]
  rfl

/-- A write of the high word's place of an RW 64-bit register. -/
theorem State.regWrite_high {s : State} {fn base : Nat} (h : base = 0x20 ∨ base = 0x1020 ∨ base = 0x1040) (v : Nat) :
    s.regWrite fn 0 (base + 4) 4 v = s.write64Word fn base true v := by
  have at_high : s.regAt fn 0 (base + 4) = some (base, true) := State.regAt_held h
  unfold State.regWrite
  rw [at_high]
  rcases h with rfl | rfl | rfl <;> rfl

/-- A write of BAR2 to no register does nothing; of a wrong width or alignment it is an access error; else it writes the register. -/
theorem State.regWrite_bar2 (s : State) (fn off width v : Nat) :
    (s.regAt fn 2 off = none → s.regWrite fn 2 off width v = s) ∧
      (∀ base, s.regAt fn 2 off = some (base, false) → (off % 4 ≠ 0 ∨ width ≠ 4) → s.regWrite fn 2 off width v = s.accessErr (s.fnHub fn) off) ∧
      (∀ base, s.regAt fn 2 off = some (base, false) → off % 4 = 0 → s.regWrite fn 2 off 4 v = s.write2 fn off (v % 2 ^ 32)) := by
  refine ⟨fun absent => ?_, fun base found wrong => ?_, fun base found aligned => ?_⟩ <;> refine (if_neg (by simp)).trans ((if_neg (by simp)).trans ?_)
  · rw [absent]
  · rw [found]
    refine if_pos ?_
    rcases wrong with h | h <;> simp [h]
  · rw [found]
    exact (if_neg (by simp [aligned])).trans (if_pos rfl)

/-- The registers whose value applies later have an offset of their own, a multiple of 4. -/
theorem laterRegs_find : ∀ r ∈ laterRegs, laterRegs.find? (fun x => x.1 == r.1) = some r ∧ r.1 % 4 = 0 := by decide

/-- A write of a register whose value applies later waits for the boundary (R8). -/
theorem State.write2_later {s : State} {r : Nat × Nat} (mem : r ∈ laterRegs) (fn v : Nat) :
    s.write2 fn r.1 v = s.onGlb fun g => { g with regNext := g.regNext ++ [(r.1, maskAnd v r.2)] } := by
  unfold State.write2
  rw [(laterRegs_find r mem).1]

/-- RGN_SEL takes its value at once. -/
theorem State.write2_regionSelect (s : State) (fn v : Nat) : s.write2 fn 0x800000 v = s.onRgn fun r => { r with sel := v % 4096 } := rfl

/-! ### SMBus (R509) -/

/-- A block that SMBus reads: GLB, FLT or PWR. -/
def smbusBlock (off : Nat) : Prop := off / 0x100000 = blkGLB ∨ off / 0x100000 = blkFLT ∨ off / 0x100000 = blkPWR

/-- A read by SMBus in one of the three windows goes to them. -/
theorem State.smbus_inside {s : State} {off : Nat} (powered : s.powered = true) (boot : s.glb.boot ≠ 0) (inside : smbusBlock off) :
    (off % 4 ≠ 0 → (s.bar2Reg (off / 4 * 4)).isSome = true → s.smbus off true = (s.accessErr s.mir.primary off).emit (.smbus (leBytes 4 0))) ∧
      (off % 4 = 0 → ∃ t : State, s.smbus off true = t ∧ t.out = .smbus (leBytes 4 (s.provRead off % 2 ^ 32)) :: s.out ∧ t.mem = s.mem) := by
  have go : (!true || !s.powered || s.glb.boot == 0) = false := by simp [powered, boot]
  have served : (off / 0x100000 != blkGLB && off / 0x100000 != blkFLT && off / 0x100000 != blkPWR || Decidable.decide (0x01400000 ≤ off)) = false := by
    have below : ¬ 0x01400000 ≤ off := by
      simp only [smbusBlock, blkGLB, blkFLT, blkPWR] at inside
      omega
    rcases inside with h | h | h <;> simp [h, below]
  refine ⟨fun odd there => ?_, fun aligned => ?_⟩
  · exact (if_neg (Bool.eq_false_iff.mp go)).trans ((if_neg (Bool.eq_false_iff.mp served)).trans (if_pos (by simp [odd, there])))
  · refine ⟨_, (if_neg (Bool.eq_false_iff.mp go)).trans ((if_neg (Bool.eq_false_iff.mp served)).trans (if_neg (by simp [aligned]))), ?_, ?_⟩
    · dsimp only
      split
      · split <;> rfl
      · rfl
    · dsimp only
      split
      · split <;> rfl
      · rfl

/-- A write of the low word of an RW 64-bit register, as it passes its gate. -/
theorem State.lowWrite_open {s : State} {fn base : Nat} {tb : Bool} (gate : s.regGate fn true tb = 4) (h : base = 0x20 ∨ base = 0x1020 ∨ base = 0x1040)
    (v : Nat) : s.lowWrite fn 0 base v tb = s.write64Word fn base false v :=
  (State.regGated_open gate).trans (if_pos (by rcases h with rfl | rfl | rfl <;> rfl))

/-- Settles O58: an access by its gate and the register that it reaches, a boundary by what it settles first and by the clock that every other
part of it keeps. The instruction codes of JTAG are log 118, what SMBus reads and writes logs 119 to 122. -/
theorem registersReadAndWrite : Obligations.RegistersReadAndWrite := by
  unfold Obligations.RegistersReadAndWrite
  intro s fn off width v dv tb
  have next {t u : State} (h : t = u) : (Host.Outcome.next t : Host.Outcome State Fault Refusal) = .next u := congrArg Host.Outcome.next h
  refine ⟨fun gate => ?_, fun gate => ?_, fun u gate hu => ?_, ⟨fun gate => ?_, fun gate => ?_, fun gate prov on => ?_⟩, fun gate out => ?_,
    fun a gate served ha => ⟨fun prov plain => ?_, fun tenant on there low other none_of => ?_⟩,
    fun bar gate plain => ⟨fun x found => ?_, fun x no_latch found => ?_, fun found => ?_⟩,
    fun base gate h => ⟨?_, fun held => ?_⟩,
    fun gate => ⟨fun absent => ?_, fun base found wrong => ?_, fun r mem found => ?_, fun found => ?_⟩,
    fun h u hu => ?_, fun off_line ok => ?_, ?_, fun powered boot => ⟨fun glb flt pwr => ?_, fun odd there inside => ?_, fun aligned inside => ?_⟩,
    fun code on => ⟨fun none_of => ?_, fun powered boot stands still test => ?_⟩, fun idle => ?_, fun powered boot => ?_, ?_,
    fun u first last hf hl hu => ?_⟩
  · exact ⟨next (State.regGated_absent gate), next (State.regGated_absent gate), next (State.regGated_absent gate), next (State.regGated_absent gate)⟩
  · exact ⟨next (State.regGated_refused gate), next (State.regGated_refused gate), next (State.regGated_closed (Nat.le_of_eq gate)), next (State.regGated_closed (Nat.le_of_eq gate))⟩
  · subst hu
    exact ⟨next (State.regGated_untrusted gate), next (State.regGated_untrusted gate), next (State.regGated_tdisp gate), next (State.regGated_tdisp gate)⟩
  · exact next (State.regGated_absent gate)
  · exact next (State.regGated_refused gate)
  · exact next ((State.regGated_open gate).trans (if_neg (by simp [prov, on])))
  · exact next ((State.regGated_open gate).trans (if_pos (by simp [out])))
  · refine next ((State.regGated_open gate).trans ((if_neg (by simp [served])).trans ?_))
    rw [State.viewValue_provider prov ha plain]
  · refine next ((State.regGated_open gate).trans ((if_neg (by simp [served])).trans ?_))
    rw [State.viewValue_denied tenant ha (State.tenantRead_denied on there low other none_of)]
  · refine ⟨_, next ((State.regGated_open gate).trans (State.lowVal_wide plain found)), rfl, ?_, rfl⟩
    simp
  · exact next ((State.regGated_open gate).trans ((State.lowVal_narrow plain).1 x no_latch found))
  · exact next ((State.regGated_open gate).trans ((State.lowVal_narrow plain).2 found))
  · refine next ((State.lowWrite_open gate h v.toNat).trans ((State.write64_low h v.toNat).trans ?_))
    rw [Nat.mod_eq_of_lt v.isLt]
  · exact next ((State.regGated_open gate).trans ((State.regWrite_high h dv.toNat).trans (State.write64_high h held dv.toNat)))
  · exact next ((State.regGated_open gate).trans ((State.regWrite_bar2 s fn off width dv.toNat).1 absent))
  · exact next ((State.regGated_open gate).trans ((State.regWrite_bar2 s fn off width dv.toNat).2.1 base found wrong))
  · exact next ((State.regGated_open gate).trans (((State.regWrite_bar2 s fn r.1 4 dv.toNat).2.2 r.1 found (laterRegs_find r mem).2).trans
      (State.write2_later mem fn _)))
  · refine next ((State.regGated_open gate).trans (((State.regWrite_bar2 s fn 0x800000 4 dv.toNat).2.2 _ found rfl).trans
      ((State.write2_regionSelect s fn _).trans ?_)))
    rw [Nat.mod_mod_of_dvd _ (by decide)]
  · have err : s.accessErr h off = u := by
      rw [hu, State.accessErr]
      simp
    exact ⟨next err, next (congrArg (fun t => State.emit t (.regData 0)) err)⟩
  · refine next (if_pos ?_)
    rcases off_line with h | h <;> simp [h]
  · exact next (if_pos rfl)
  · exact next ((if_neg (by simp [powered, boot])).trans (if_pos (by simp [glb, flt, pwr])))
  · exact next ((State.smbus_inside powered boot inside).1 odd there)
  · obtain ⟨t, eq, out, mem⟩ := (State.smbus_inside powered boot inside).2 aligned
    exact ⟨t, next eq, out, mem⟩
  · refine next (if_pos ?_)
    rcases none_of with h | h | ⟨h, strap⟩
    · simp [h]
    · simp [h]
    · have : code ≠ 1 := by omega
      simp [strap, this]
  · have steady : (s.mir.state == .switching) = false := by simpa using stands
    refine next ((if_neg ?_).trans ?_)
    · rcases test with h | ⟨h, strap⟩
      · simp [powered, h]
      · have : code ≠ 0 := by omega
        simp [powered, strap, this]
    · simp [boot, steady, still]
  · refine next (if_pos ?_)
    rcases idle with h | h <;> simp [h]
  · obtain ⟨tick, hb, time⟩ := State.tickBoundary_counts powered boot
    exact ⟨_, rfl, tick, hb, time⟩
  · refine ⟨fun t => (t.parkedTick.regionsTick.sendDelta.countTick).afterCount true, fun w powered boot stands live awake => next ?_⟩
    rw [State.tickBoundary_ready powered boot, if_neg (by simp [stands]), live, awake]
    rfl
  · subst hf hl hu
    exact State.dueTick_eq s

end Sys2Proof.Machine
end

section
/-! PROOFS. The job table and the models (R136 to R142, R209 to R224): jobs and steps submitted, asked for and aborted, and layers placed. -/

namespace Sys2Proof.Machine

/-! ### One job of the table -/

/-- A job after a change of that job. -/
theorem State.setJob_job (s : State) (a id : Nat) (f : Job → Job) : (s.setJob a id f).job? a id = (s.job? a id).map f := by
  simp [State.setJob, State.job?]

/-- The table of jobs is the engines'. -/
theorem State.job_congr {s t : State} (h : t.eng = s.eng) (a id : Nat) : t.job? a id = s.job? a id := by simp only [State.job?, h]

/-- A new job in the table, and the others as they were. -/
theorem State.enterJob_job (s : State) (j : Job) : (s.enterJob j).job? j.agent j.jobid = some j ∧
    (∀ k, k ≠ jobKey j.agent j.jobid → Tbl.find (s.enterJob j).eng.jobs k = Tbl.find s.eng.jobs k) ∧
    (s.enterJob j).mem = s.mem ∧ (s.enterJob j).dir = s.dir ∧ (s.enterJob j).opu = s.opu := by
  have frame := State.enterJob_frame (s := s) (j := j) rfl (Frame.refl 32784 s)
  refine ⟨?_, fun k other => ?_, frame.same .mem rfl, frame.same .dir rfl, frame.same .opu rfl⟩ <;> simp [State.enterJob, State.job?, *]

/-! ### A descriptor received (R136 to R140) -/

/-- A JOBID that is live joins its job. -/
theorem State.reissue_live {s : State} {a id : Nat} {i : Issuer} {j : Job} (live : s.job? a id = some j) : ∃ t : State,
    s.reissue a id (some i, none) = some (t.answerR16 i .accepted) ∧
      t.job? a id = some { j with waiters := j.waiters ++ [(some i, none)] } ∧ t.mem = s.mem := by
  unfold State.reissue
  rw [live]
  exact ⟨_, rfl, by rw [State.setJob_job, live]; rfl, rfl⟩

/-- A JOBID that is recorded is answered again. -/
theorem State.reissue_recorded {s : State} {a id : Nat} {i : Issuer} {x : JobRec} (gone : s.job? a id = none) (kept : s.jobRec? a id = some x) :
    s.reissue a id (some i, none) = some (s.answerR16 i x.status x.detail x.res0 x.res1) := by
  unfold State.reissue
  rw [gone]
  dsimp only
  rw [kept]
  rfl

/-- A JOBID that is neither is new. -/
theorem State.reissue_new {s : State} {a id : Nat} {w : Option Issuer × Option Nat} (gone : s.job? a id = none) (unknown : s.jobRec? a id = none) :
    s.reissue a id w = none := by
  unfold State.reissue
  rw [gone]
  dsimp only
  rw [unknown]

/-- A new job that nothing refuses is accepted. -/
theorem State.acceptJob_answers (s : State) (j : Job) {i : Issuer} (own : j.by_ = some i) :
    s.acceptJob j = (s.enterJob j).answerR16 i .accepted := by
  unfold State.acceptJob
  rw [own]

/-- The job that a descriptor asks for. -/
def State.newJob (s : State) (a : Nat) (i : Issuer) (desc : List Word) : Job :=
  { agent := a, jobid := bits ((desc.getD 1 0).toNat) 15 0, by_ := some i, desc := desc, acceptedAt := s.tick }

/-- A descriptor received, by what stands under its JOBID. -/
theorem State.submitJob_cases {s : State} {a : Nat} {i : Issuer} {desc : List Word} :
    (∀ t, s.reissue a (s.newJob a i desc).jobid (some i, none) = some t → s.submitJob a (some i, none) desc = t) ∧
      (s.reissue a (s.newJob a i desc).jobid (some i, none) = none →
        (∀ st d, s.descRefusal (s.newJob a i desc) false = some (st, d) → s.submitJob a (some i, none) desc = s.answer i st d) ∧
        (s.descRefusal (s.newJob a i desc) false = none → s.jobsFull a = true → s.submitJob a (some i, none) desc = s.answer i .busy) ∧
        (s.descRefusal (s.newJob a i desc) false = none → s.jobsFull a = false → (s.newJob a i desc).op ≠ 4 →
          s.submitJob a (some i, none) desc = (s.enterJob (s.newJob a i desc)).answerR16 i .accepted)) := by
  refine ⟨fun t known => ?_, fun fresh => ⟨fun st d refused => ?_, fun good full => ?_, fun good room plain => ?_⟩⟩
  all_goals
    unfold State.submitJob
    extract_lets j
    have hj : j = s.newJob a i desc := rfl
    clear_value j
    subst hj
  · rw [known]
  · rw [fresh]
    dsimp only [Option.isNone]
    rw [refused]
    rfl
  · rw [fresh]
    dsimp only [Option.isNone]
    rw [good]
    exact if_pos full
  · rw [fresh]
    dsimp only [Option.isNone]
    rw [good]
    have not_rack : (s.newJob a i desc).isRack = false := by simp [Job.isRack, plain]
    exact (if_neg (Bool.eq_false_iff.mp room)).trans ((if_neg (Bool.eq_false_iff.mp not_rack)).trans (State.acceptJob_answers s _ rfl))

/-! ### A job stopped (R141, Table 5.8) -/

/-- Dropping the measures that no engine has taken leaves the jobs and what runs. -/
theorem State.dropMeasures_runs (s : State) (w v : Work) : (s.dropMeasures w).eng.jobs = s.eng.jobs ∧ (s.dropMeasures w).workRuns v = s.workRuns v := by
  refine ⟨rfl, ?_⟩
  simp only [State.workRuns, State.dropMeasures, State.dropParked, State.onDir_eng, State.onEng_eng, Tbl.mapKV, List.any_map]
  rfl

theorem State.workRuns_congr {s t : State} (h : t.eng.units = s.eng.units) (w : Work) : t.workRuns w = s.workRuns w := by
  simp only [State.workRuns, h]

/-- A live job of which a measure runs is STOPPING with its status, and keeps what named it. -/
theorem State.stopJob_runs {s : State} {a id d : Nat} {j : Job} {st : Status} (found : s.job? a id = some j)
    (live : j.state = .queued ∨ j.state = .running ∨ j.state = .faulted) (runs : s.workRuns j.work = true) :
    ∃ k : Job, (s.stopJob a id st d).job? a id = some k ∧ k.state = .stopping ∧ k.status = st ∧ k.detail = d ∧ k.aborts = j.aborts ∧
      (s.stopJob a id st d).mem = s.mem := by
  have frame := State.stopJob_frame (s := s) (agent := a) (jobid := id) (st := st) (detail := d) (silent := false) rfl (Frame.refl 2156860 s)
  have stopped : ∃ k : Job, (s.stopJob a id st d).job? a id = some k ∧ k.state = .stopping ∧ k.status = st ∧ k.detail = d ∧ k.aborts = j.aborts := by
    unfold State.stopJob
    rw [found]
    dsimp -zeta only
    rw [if_neg (by rcases live with h | h | h <;> simp [h])]
    extract_lets u v w x
    have eng1 : u.eng = s.eng := (State.leaveFaults_frame rfl (Frame.refl 8 s)).same .eng rfl
    obtain ⟨jobs2, runs2⟩ := u.dropMeasures_runs j.work j.work
    have eng3 : w.eng = v.eng := foldl_same State.eng (f := fun (w : State) (o : Nat × OutAcc) => w.freeStage o.2)
      (fun w o => (State.freeStage_frame rfl (Frame.refl 32 w)).same .eng rfl) j.outs v
    clear_value u w
    have found3 : w.job? a id = some j := by
      rw [State.job_congr eng3, State.job?, jobs2, eng1]
      exact found
    have found4 : x.job? a id = (some j).map _ := (State.setJob_job w a id _).trans (congrArg (Option.map _) found3)
    have still : x.workRuns j.work = true := by
      have same : x.workRuns j.work = w.workRuns j.work := State.workRuns_congr rfl _
      rw [same, State.workRuns_congr (congrArg Eng.units eng3), runs2, State.workRuns_congr (congrArg Eng.units eng1)]
      exact runs
    clear_value x
    rw [if_pos (by rw [still]; rfl)]
    have kept : x.change.job? a id = x.job? a id := State.job_congr ((State.change_frame rfl (Frame.refl 32768 x)).same .eng rfl) a id
    exact ⟨_, kept.trans found4, rfl, rfl, rfl, rfl⟩
  obtain ⟨k, eq, state, status, detail, aborts⟩ := stopped
  exact ⟨k, eq, state, status, detail, aborts, frame.same .mem rfl⟩

/-! ### The job commands at their boundary -/

/-- JOB_SUBMIT from a function with an agent, by its LENGTH. -/
theorem State.doJobSubmit_agent {s : State} {fn : Nat} {p : Packet} (agent : (s.func fn).agent ≠ 0) :
    (¬(p.len = 36 ↔ 0x20 ≤ p.fld 4 7 0 ∧ p.fld 4 7 0 ≤ 0x3F) → s.doJobSubmit (issuer fn p) p = s.answer (issuer fn p) .malformed 1) ∧
      ((p.len = 36 ↔ 0x20 ≤ p.fld 4 7 0 ∧ p.fld 4 7 0 ≤ 0x3F) →
        s.doJobSubmit (issuer fn p) p = s.submitJob (s.func fn).agent (some (issuer fn p), none) (p.words.drop 4)) := by
  have has : ((s.func fn).agent == 0) = false := by simpa using agent
  have fits : ((p.len == 36) != (Decidable.decide (0x20 ≤ p.fld 4 7 0) && Decidable.decide (p.fld 4 7 0 ≤ 0x3F))) = true ↔
      ¬(p.len = 36 ↔ 0x20 ≤ p.fld 4 7 0 ∧ p.fld 4 7 0 ≤ 0x3F) := by
    rw [bne_iff_ne, ne_eq, Bool.eq_iff_iff]
    simp
  exact ⟨fun bad => (if_neg (Bool.eq_false_iff.mp has)).trans (if_pos (fits.mpr bad)),
    fun good => (if_neg (Bool.eq_false_iff.mp has)).trans (if_neg fun bad => fits.mp bad good)⟩

/-- JOB_QUERY and JOB_ABORT ask first whether the function may name jobs of the agent (R141). -/
theorem State.doJobQuery_may {s : State} {i : Issuer} {p : Packet} (may : s.mayJob i (p.fld 2 7 0) = true) :
    (∀ j, s.job? (p.fld 2 7 0) (p.fld 3 15 0) = some j → s.doJobQuery i p = s.answer i .ok 0 j.state.code (j.tilesDone % 65536)) ∧
      (∀ x, s.job? (p.fld 2 7 0) (p.fld 3 15 0) = none → s.jobRec? (p.fld 2 7 0) (p.fld 3 15 0) = some x →
        s.doJobQuery i p = s.answer i .ok 0 (4 + 256 * x.status.code) (x.res1 % 65536)) ∧
      (s.job? (p.fld 2 7 0) (p.fld 3 15 0) = none → s.jobRec? (p.fld 2 7 0) (p.fld 3 15 0) = none → s.doJobQuery i p = s.answer i .malformed 2) := by
  refine ⟨fun j live => ?_, fun x gone kept => ?_, fun gone unknown => ?_⟩ <;> refine (if_neg (by simp [may])).trans ?_
  · rw [live]
  · rw [gone]
    dsimp only
    rw [kept]
    rfl
  · rw [gone]
    dsimp only
    rw [unknown]
    rfl

/-- JOB_ABORT of a job that is not live. -/
theorem State.doJobAbort_gone {s : State} {i : Issuer} {p : Packet} (may : s.mayJob i (p.fld 2 7 0) = true)
    (gone : s.job? (p.fld 2 7 0) (p.fld 3 15 0) = none) :
    s.doJobAbort i p = if (s.jobRec? (p.fld 2 7 0) (p.fld 3 15 0)).isSome then s.answerR16 i .ok else s.answer i .malformed 2 := by
  refine (if_neg (by simp [may])).trans ?_
  rw [gone]
  rfl

/-- JOB_ABORT of a live job that is no RACK notes its issuer and stops it with TIMEOUT. -/
theorem State.doJobAbort_live {s : State} {i : Issuer} {p : Packet} {j : Job} (may : s.mayJob i (p.fld 2 7 0) = true)
    (live : s.job? (p.fld 2 7 0) (p.fld 3 15 0) = some j) (plain : j.isRack = false) :
    s.doJobAbort i p =
      (s.setJob (p.fld 2 7 0) (p.fld 3 15 0) fun j => { j with aborts := j.aborts ++ [i] }).stopJob (p.fld 2 7 0) (p.fld 3 15 0) .timeout 1 := by
  refine (if_neg (by simp [may])).trans ?_
  rw [live]
  have found := (State.setJob_job s (p.fld 2 7 0) (p.fld 3 15 0) fun j => { j with aborts := j.aborts ++ [i] }).trans (congrArg (Option.map _) live)
  have still : ({ j with aborts := j.aborts ++ [i] } : Job).isRack = false := plain
  simp only [State.abortJob, found, Option.map_some, still, Bool.false_eq_true, if_false]

/-- Settles O36: a command by what stands under its JOBID in the job table, an abort by the job that stopping leaves there. -/
theorem jobsAreAcceptedAndAnswered : Obligations.JobsAreAcceptedAndAnswered := by
  unfold Obligations.JobsAreAcceptedAndAnswered
  intro s fn p a id
  refine ⟨fun hb => ?_, fun hb => ?_, fun hb => ?_, fun ho none_of => ?_, fun ho agent bad => ?_,
    fun ho ha agent hid good => ⟨fun j live => ?_, fun x gone kept => ?_, fun j hj plain gone unknown => ?_⟩,
    fun ho ha hid => ⟨fun may => ?_, fun j may live => ?_, fun x may gone kept => ?_, fun may gone unknown => ?_⟩,
    fun ho ha hid => ⟨fun may => ?_, fun may gone unknown => ?_, fun x may gone kept => ?_, fun j may live plain ja jid state runs => ?_⟩⟩
  · exact begins_jobSubmit hb (State.beginRefusal_none hb.opcode (by decide) (by decide) (by simp [fieldFault, hb.opcode]))
  · exact begins_jobAbort hb (State.beginRefusal_none hb.opcode (by decide) (by decide) (by simp [fieldFault, hb.opcode]))
  · exact begins_jobQuery hb (State.beginRefusal_none hb.opcode (by decide) (by decide) (by simp [fieldFault, hb.opcode]))
  · exact (State.applyDue_cmd ho).trans (if_pos (beq_iff_eq.mpr none_of))
  · exact (State.applyDue_cmd ho).trans ((State.doJobSubmit_agent agent).1 bad)
  · subst ha hid
    obtain ⟨t, known, joined, mem⟩ := State.reissue_live (i := issuer fn p) live
    have name : (s.newJob (s.func fn).agent (issuer fn p) (p.words.drop 4)).jobid = p.fld 5 15 0 := by simp [State.newJob, Packet.fld, Packet.dw]
    exact ⟨t, (State.applyDue_cmd ho).trans (((State.doJobSubmit_agent agent).2 good).trans (State.submitJob_cases.1 _ (by rw [name]; exact known))),
      joined, mem⟩
  · subst ha hid
    have name : (s.newJob (s.func fn).agent (issuer fn p) (p.words.drop 4)).jobid = p.fld 5 15 0 := by simp [State.newJob, Packet.fld, Packet.dw]
    exact (State.applyDue_cmd ho).trans (((State.doJobSubmit_agent agent).2 good).trans
      (State.submitJob_cases.1 _ (by rw [name]; exact State.reissue_recorded gone kept)))
  · have name : (s.newJob a (issuer fn p) (p.words.drop 4)).jobid = p.fld 5 15 0 := by simp [State.newJob, Packet.fld, Packet.dw]
    have same : j = s.newJob a (issuer fn p) (p.words.drop 4) := by
      rw [hj, hid, ← name]
      rfl
    have submitted : s.applyDue (.cmd fn p) = s.submitJob a (some (issuer fn p), none) (p.words.drop 4) := by
      rw [ha] at agent ⊢
      exact (State.applyDue_cmd ho).trans ((State.doJobSubmit_agent agent).2 good)
    rw [hid] at gone unknown
    obtain ⟨refused, full, room⟩ := (State.submitJob_cases (s := s) (a := a) (i := issuer fn p) (desc := p.words.drop 4)).2
      (State.reissue_new (by rw [name]; exact gone) (by rw [name]; exact unknown))
    rw [← same] at refused full room
    refine ⟨fun st d h => submitted.trans (refused st d h), fun h hf => submitted.trans (full h hf), fun h hf => ?_⟩
    obtain ⟨entered, others, mem, dir, -⟩ := s.enterJob_job j
    rw [hj] at entered others
    exact ⟨s.enterJob j, submitted.trans (room h hf plain), by rw [hj]; exact entered, mem, dir, by rw [hj]; exact others⟩
  · subst ha hid
    exact (State.applyDue_cmd ho).trans (if_pos (by simp [may]))
  · subst ha hid
    exact (State.applyDue_cmd ho).trans ((State.doJobQuery_may may).1 j live)
  · subst ha hid
    exact (State.applyDue_cmd ho).trans ((State.doJobQuery_may may).2.1 x gone kept)
  · subst ha hid
    exact (State.applyDue_cmd ho).trans ((State.doJobQuery_may may).2.2 gone unknown)
  · subst ha hid
    exact (State.applyDue_cmd ho).trans (if_pos (by simp [may]))
  · subst ha hid
    exact (State.applyDue_cmd ho).trans ((State.doJobAbort_gone may gone).trans (if_neg (by simp [unknown])))
  · subst ha hid
    exact (State.applyDue_cmd ho).trans ((State.doJobAbort_gone may gone).trans (if_pos (by simp [kept])))
  · subst ha hid
    rw [(State.applyDue_cmd ho).trans (State.doJobAbort_live may live plain)]
    have found := (State.setJob_job s (p.fld 2 7 0) (p.fld 3 15 0) fun j => { j with aborts := j.aborts ++ [issuer fn p] }).trans
      (congrArg (Option.map _) live)
    exact State.stopJob_runs found state ((State.workRuns_congr rfl _).trans runs)

end Sys2Proof.Machine
end

section
/-! PROOFS. Layers placed in a model and decode steps begun (R212, R223, R224). -/

namespace Sys2Proof.Machine

/-! ### Models -/

/-- A model after a change of one model. -/
theorem State.setModel_model (s : State) (m k : Nat) (f : Model → Model) :
    (s.setModel m f).model k = if k = m then f (s.model m) else s.model k := by
  by_cases e : k = m <;> simp [State.setModel, State.model, e]

/-- The models are the units' own. -/
theorem State.model_congr {s t : State} (h : t.opu = s.opu) (m : Nat) : t.model m = s.model m := by simp only [State.model, h]

/-- A command on a model asks first whether there is one, and then whether its function may command it (R211). -/
theorem State.onModel_cases {s : State} {i : Issuer} {p : Packet} {users : Nat} {f : Nat → Model → State} :
    ((s.model (p.fld 2 3 0)).state = .free → s.onModel i p users f = s.answer i .malformed 2) ∧
      ((s.model (p.fld 2 3 0)).state ≠ .free → s.mayModel i (s.model (p.fld 2 3 0)).owner users = false → s.onModel i p users f = s.answer i .deniedRights) ∧
      ((s.model (p.fld 2 3 0)).state ≠ .free → s.mayModel i (s.model (p.fld 2 3 0)).owner users = true →
        s.onModel i p users f = f (p.fld 2 3 0) (s.model (p.fld 2 3 0))) :=
  ⟨fun free => if_pos (by simp [free]), fun used may => (if_neg (by simp [used])).trans (if_pos (by simp [may])),
    fun used may => (if_neg (by simp [used])).trans (if_neg (by simp [may]))⟩

/-! ### LAYER_PLACE (R212, Table 7.5) -/

/-- The layer that a LAYER_PLACE describes. -/
def placedLayer (p : Packet) : Layer :=
  { die := p.fld 3 13 12, wreg := p.fld 4 11 0, kvreg := if bit (p.dw 3) 15 then none else some (p.fld 4 23 12)
    recipe := (List.range (p.fld 3 22 16)).map fun j => (p.words.drop (8 + 8 * j)).take 8 }

/-- LAYER_PLACE where there is no model, or not one that its function may command. -/
theorem State.doLayerPlace_not {s : State} {i : Issuer} {p : Packet} :
    ((s.model (p.fld 2 3 0)).state = .free → s.doLayerPlace i p = s.answer i .malformed 2) ∧
      ((s.model (p.fld 2 3 0)).state ≠ .free → s.mayModel i (s.model (p.fld 2 3 0)).owner 0 = false → s.doLayerPlace i p = s.answer i .deniedRights) :=
  ⟨State.onModel_cases.1, State.onModel_cases.2.1⟩

/-- LAYER_PLACE on a model that its function may command. -/
theorem State.doLayerPlace_may {s : State} {i : Issuer} {p : Packet} (used : (s.model (p.fld 2 3 0)).state ≠ .free)
    (may : s.mayModel i (s.model (p.fld 2 3 0)).owner 0 = true) :
    (∀ st d, s.placeRefusal p (p.fld 2 3 0) (s.model (p.fld 2 3 0)) = some (st, d) → s.doLayerPlace i p = s.answer i st d) ∧
      (s.placeRefusal p (p.fld 2 3 0) (s.model (p.fld 2 3 0)) = none → s.doLayerPlace i p = ((s.setModel (p.fld 2 3 0) fun x =>
        { x with placed := Tbl.put x.placed (p.fld 3 8 0) (placedLayer p),
                 state := if ((Tbl.put x.placed (p.fld 3 8 0) (placedLayer p)).filter fun l => !l.2.lost).length = x.layers then .ready else x.state }).change).answerR16
          i .ok) := by
  refine ⟨fun st d refused => ?_, fun good => ?_⟩ <;> refine (State.onModel_cases.2.2 used may).trans ?_
  · rw [refused]
  · rw [good]
    rfl

/-! ### DECODE_STEP (R223, R224) -/

/-- The decode step that a command describes. -/
def stepOf (dw : Nat → Nat) : StepRun :=
  { model := dw 2 % 16, inPva := dw 4 + 2 ^ 32 * bits (dw 5) 19 0, outPva := dw 6 + 2 ^ 32 * bits (dw 7) 19 0
    seqs := (List.range (bits (dw 3) 20 16)).map fun i => (bits (dw (8 + i)) 11 0, bits (dw (8 + i)) 31 12) }

/-- The entry of the job table for a new step. -/
def State.newStep (s : State) (a : Nat) (i : Issuer) (dw : Nat → Nat) : Job :=
  { agent := a, jobid := bits (dw 3) 15 0, by_ := some i, acceptedAt := s.tick, step := some (stepOf dw) }

/-- A decode step under a new JOBID is refused by R224, or enters the table and is ACCEPTED. -/
theorem State.submitStep_new {s : State} {a : Nat} {i : Issuer} {dw : Nat → Nat} (gone : s.job? a (bits (dw 3) 15 0) = none)
    (unknown : s.jobRec? a (bits (dw 3) 15 0) = none) :
    (∀ st d, s.stepRefusal a dw = some (st, d) → s.submitStep a (some i, none) dw = s.answer i st d) ∧
      (s.stepRefusal a dw = none → s.submitStep a (some i, none) dw = (s.enterJob (s.newStep a i dw)).answerR16 i .accepted) := by
  have fresh : s.reissue a (bits (dw 3) 15 0) (some i, none) = none := State.reissue_new gone unknown
  refine ⟨fun st d refused => ?_, fun good => ?_⟩
  · unfold State.submitStep
    dsimp only
    rw [fresh]
    dsimp only
    rw [refused]
    rfl
  · unfold State.submitStep
    dsimp only
    rw [fresh]
    dsimp only
    rw [good]
    exact State.acceptJob_answers s (s.newStep a i dw) rfl

/-- Settles O41: LAYER_PLACE by the model that its command finds, DECODE_STEP by the job that it enters. -/
theorem layersArePlacedAndStepsBegin : Obligations.LayersArePlacedAndStepsBegin := by
  unfold Obligations.LayersArePlacedAndStepsBegin
  intro s fn p
  refine ⟨fun hb => ⟨fun bad => ?_, fun good => ?_⟩, fun hb => ⟨fun bad => ?_, fun good => ?_⟩,
    fun m ho hm => ⟨fun free => ?_, fun used may => ?_, fun st d used may refused => ?_, fun l used may good hl => ?_⟩, fun ho none_of => ?_,
    fun a id ho ha agent hid gone unknown => ?_⟩
  · exact refused_layerPlace hb (State.beginRefusal_fields hb.opcode (by decide) (by decide) (by simp [fieldFault, hb.opcode, bad]))
  · exact begins_layerPlace hb (State.beginRefusal_none hb.opcode (by decide) (by decide) (by simp [fieldFault, hb.opcode, good]))
  · exact refused_decodeStep hb (State.beginRefusal_fields hb.opcode (by decide) (by decide) (by simp [fieldFault, hb.opcode, bad]))
  · exact begins_decodeStep hb (State.beginRefusal_none hb.opcode (by decide) (by decide) (by simp [fieldFault, hb.opcode, good]))
  · subst hm
    exact (State.applyDue_cmd ho).trans (State.doLayerPlace_not.1 free)
  · subst hm
    exact (State.applyDue_cmd ho).trans (State.doLayerPlace_not.2 used may)
  · subst hm
    exact (State.applyDue_cmd ho).trans ((State.doLayerPlace_may used may).1 st d refused)
  · subst hm hl
    generalize hu : (s.setModel (p.fld 2 3 0) fun x =>
        { x with placed := Tbl.put x.placed (p.fld 3 8 0) (placedLayer p),
                 state := if ((Tbl.put x.placed (p.fld 3 8 0) (placedLayer p)).filter fun l => !l.2.lost).length = x.layers then .ready else x.state }) = u
    have placed := (State.applyDue_cmd ho).trans ((State.doLayerPlace_may used may).2 good)
    rw [hu] at placed
    have frame := State.change_frame (s := u) rfl (Frame.refl 32768 u)
    have models (k : Nat) : u.change.model k = u.model k := State.model_congr (frame.same .opu rfl) k
    refine ⟨u.change, placed, ?_, ?_, fun k other => ?_, (frame.same .mem rfl).trans ?_, (frame.same .rgn rfl).trans ?_⟩
    · rw [models, ← hu, State.setModel_model, if_pos rfl]
      rfl
    · rw [models, ← hu, State.setModel_model, if_pos rfl]
    · rw [models, ← hu, State.setModel_model, if_neg other]
    · rw [← hu]
      rfl
    · rw [← hu]
      rfl
  · exact (State.applyDue_cmd ho).trans (if_pos (beq_iff_eq.mpr none_of))
  · subst ha hid
    have has : ((s.func fn).agent == 0) = false := by simpa using agent
    have submitted : s.applyDue (.cmd fn p) = s.submitStep (s.func fn).agent (some (issuer fn p), none) p.dw :=
      (State.applyDue_cmd ho).trans (if_neg (Bool.eq_false_iff.mp has))
    obtain ⟨refused, room⟩ := State.submitStep_new (i := issuer fn p) (dw := p.dw) gone unknown
    refine ⟨fun st d h => submitted.trans (refused st d h), fun good => ?_⟩
    obtain ⟨entered, -, mem, -, opu⟩ := s.enterJob_job (s.newStep (s.func fn).agent (issuer fn p) p.dw)
    exact ⟨_, _, stepOf p.dw, submitted.trans (room good), entered, rfl, rfl, rfl, rfl, rfl, rfl, mem, opu⟩

end Sys2Proof.Machine
end

section
/-! PROOFS. Measures and engines (R22, R134, R152, R409, R496): what a completed measure stores, and how engines leave and return. -/

namespace Sys2Proof.Machine

/-! ### One engine -/

/-- An engine after a change of that engine. -/
theorem State.setUnit_self (s : State) (n : Nat) (f : EngUnit → EngUnit) : (s.setUnit n f).unit n = f (s.unit n) := by
  simp [State.setUnit, State.unit]

/-- The engines are the units of ENG. -/
theorem State.unit_congr {s t : State} (h : t.eng.units = s.eng.units) (n : Nat) : t.unit n = s.unit n := by simp only [State.unit, h]

/-- The end of a job changes no engine. -/
theorem State.finishJob_units (s : State) (a id : Nat) : (s.finishJob a id).eng.units = s.eng.units := by
  unfold State.finishJob
  cases found : s.job? a id with
  | none => rfl
  | some j =>
    dsimp -zeta only
    extract_lets u v w x y
    have hu : u.eng = s.eng := foldl_same State.eng (f := fun (w : State) (o : Nat × OutAcc) => w.freeStage o.2)
      (fun w o => (State.freeStage_frame rfl (Frame.refl 32 w)).same .eng rfl) j.outs s
    have hv : v.eng = u.eng := by
      unfold v
      split
      · exact (State.freeStore_frame rfl (Frame.refl 32 u)).same .eng rfl
      · rfl
    have hx : x.eng.units = w.eng.units := by
      unfold x
      split
      · rfl
      · refine (congrArg Eng.units (foldl_same State.eng
          (f := fun (t : State) (k : Option Issuer × Option Nat) => t.jobAnswer a id k j.status j.detail j.res0 j.res1)
          (fun t k => (State.jobAnswer_frame rfl (Frame.refl 43264 t)).same .eng rfl) ((j.by_, j.port) :: j.waiters) (w.jobRecord j))).trans rfl
    have hy : y.eng = x.eng := foldl_same State.eng (f := fun (t : State) (i : Issuer) => t.answerR16 i .ok)
      (fun t i => (State.answerR16_frame rfl (Frame.refl 43264 t)).same .eng rfl) j.aborts x
    have hw : w.eng.units = v.eng.units := rfl
    clear_value u v w x y
    refine (congrArg Eng.units ((State.syncCheck_frame rfl (Frame.refl 10504 _)).same .eng rfl)).trans (.trans (congrArg Eng.units ?_)
      ((congrArg Eng.units hy).trans (hx.trans (hw.trans (congrArg Eng.units (hv.trans hu))))))
    split
    · refine ((State.unloadCheck_frame rfl (Frame.refl 43296 _)).same .eng rfl).trans ?_
      split
      · exact State.bump_eng _ _ _ _
      · rfl
    · rfl

/-! ### What a completed measure stores -/

/-- The operands of a run whose generation is not live are the tenants' and the tick's. -/
theorem State.deadSides_congr {s t : State} (sec : t.sec = s.sec) (glb : t.glb = s.glb) (r : Run) : t.deadSides r = s.deadSides r := by
  cases s
  cases t
  cases sec
  cases glb
  rfl

/-- An engine that completes its measure is free before the measure takes effect. -/
def State.freed (s : State) (n : Nat) : State := (s.setUnit n fun u => { u with running := none }).bump blkENG (0x0500 + 4 * (n / 64))

theorem State.freed_running (s : State) (n : Nat) : ((s.freed n).unit n).running = none := by
  have eng : (s.freed n).eng = (s.setUnit n fun u => { u with running := none }).eng := State.bump_eng _ _ _ _
  rw [State.unit_congr (congrArg Eng.units eng), State.setUnit_self]

theorem State.freed_deadSides (s : State) (n : Nat) (r : Run) : (s.freed n).deadSides r = s.deadSides r :=
  State.deadSides_congr (State.bump_sec _ _ _ _) (State.bump_glb _ _ _ _) r

theorem State.freed_mem (s : State) (n : Nat) : (s.freed n).mem = s.mem := State.bump_mem _ _ _ _

theorem State.freed_calm {s : State} (h : Calm s) (n : Nat) : Calm (s.freed n) := h.congr (State.bump_mcx _ _ _ _) (State.bump_rgn _ _ _ _)

/-- A measure whose tags are live takes its effect by its kind; one with a dead tag is dropped (R409). -/
theorem State.completeMeasure_eq {s : State} {n : Nat} {r : Run} (h : Calm s) (running : (s.unit n).running = some r) :
    (s.deadSides r ≠ [] → s.completeMeasure n = (s.freed n).retireRun r (s.deadSides r)) ∧
      (s.deadSides r = [] → (r.m.kind = .zero ∨ r.m.kind = .copy) → s.completeMeasure n = (s.freed n).doneInternal r) := by
  unfold State.completeMeasure
  rw [running]
  dsimp only
  rw [← State.freed.eq_1, s.freed_deadSides n r]
  refine ⟨fun dead => ?_, fun live kind => ?_⟩
  · exact if_pos (by simp [dead])
  · refine (if_neg (by simp [live])).trans ?_
    rw [State.checkReads_calm (State.freed_calm h n)]
    rcases kind with k | k <;> rw [k]

/-- A measure that is dropped stores nothing. -/
theorem State.retireRun_mem {s : State} (h : Calm s) (w : Memory.wf s.mem = true) (r : Run) (dead : List (Nat × List (Nat × Nat))) (a : Nat) :
    Memory.get (s.retireRun r dead).mem a = Memory.get s.mem a :=
  (State.retireRun_measured (rs := []) h dead).stores.out w a (fun _ hx => absurd hx List.not_mem_nil)

/-- Work that has come on a measure changes no engine. -/
theorem State.actStep_units (s : State) (m : Meas) : (s.actStep m).eng.units = s.eng.units := rfl

/-- Runs zeroed one after another read zero. -/
theorem State.zeroRuns_get {s : State} (h : Calm s) (w : Memory.wf s.mem = true) (l : List (List (Nat × Nat))) (a : Nat) :
    Memory.get (l.foldl (fun s rs => s.writeCells rs []) s).mem a =
      if ∃ x ∈ l.flatMap id, x.1 ≤ a ∧ a < x.1 + x.2 then 0 else Memory.get s.mem a := by
  induction l generalizing s with
  | nil => simp
  | cons rs l ih =>
    rw [List.foldl_cons, State.writeCells_calm h, ih (State.setMem_calm h _) (scatterCells_wf w)]
    rw [State.setMem_mem, scatterCells_nil w]
    have parts (x : Nat × Nat) : x ∈ (rs :: l).flatMap id ↔ x ∈ rs ∨ x ∈ l.flatMap id := by simp
    by_cases later : ∃ x ∈ l.flatMap id, x.1 ≤ a ∧ a < x.1 + x.2
    · obtain ⟨x, hx, bounds⟩ := later
      rw [if_pos ⟨x, hx, bounds⟩, if_pos ⟨x, (parts x).mpr (.inr hx), bounds⟩]
    · rw [if_neg later]
      refine ite_congr (propext ⟨fun ⟨x, hx, bounds⟩ => ⟨x, (parts x).mpr (.inl hx), bounds⟩, fun ⟨x, hx, bounds⟩ => ?_⟩) (fun _ => rfl) (fun _ => rfl)
      rcases (parts x).mp hx with hx | hx
      · exact ⟨x, hx, bounds⟩
      · exact absurd ⟨x, hx, bounds⟩ later

/-- One run's cells written over one run of the same length are a copy. -/
theorem scatterCells_copy (m : Memory) (pa pb k : Nat) : scatterCells m 0 [(pb, k)] (gatherCells m 0 [(pa, k)]) = Memory.copy m pa pb k := by
  have below : ∀ c ∈ Memory.cells m pa k, c.1 < k := by
    intro c hc
    obtain ⟨d, hd, rfl⟩ := List.mem_map.mp hc
    have := (List.mem_filter.mp hd).2
    simp only [Bool.and_eq_true, decide_eq_true_eq] at this
    show d.1 - pa < k
    omega
  simp only [gatherCells, scatterCells, Memory.copy, List.append_nil, Nat.zero_add, Prod.eta, List.map_id', Nat.sub_zero, Nat.zero_le,
    decide_true, Bool.true_and]
  congr 1
  exact List.filter_eq_self.mpr fun c hc => decide_eq_true (below c hc)

/-- A copy from one run to another in a calm pool. -/
theorem State.copyRun_mem {s : State} (h : Calm s) {r : Run} {pa pb k : Nat} (rd : r.rd = [[(pa, k)]]) (wr : r.wr = [[(pb, k)]]) (wr2 : r.wr2 = []) :
    s.copyRun r = s.setMem (Memory.copy s.mem pa pb k) := by
  have calm := State.setMem_calm h (Memory.copy s.mem pa pb k)
  simp only [State.copyRun, State.srcCells, rd, wr, wr2, List.append_nil, List.flatMap_cons, List.flatMap_nil, id_eq, List.foldl_cons, List.foldl_nil,
    List.isEmpty_cons, Bool.false_eq_true, if_false, List.zip_cons_cons, List.zip_nil_right, scatterCells_copy]
  rw [State.copyPoison_calm calm, State.forward_calm calm]

/-- A value found in a table is listed in it. -/
theorem Tbl.mem_of_find {α : Type} {t : Tbl α} {k : Nat} {v : α} (found : Tbl.find t k = some v) : (k, v) ∈ t := by
  induction t with
  | nil => simp [Tbl.find] at found
  | cons e r ih =>
    obtain ⟨j, w⟩ := e
    unfold Tbl.find at found
    split at found
    · next same =>
      obtain rfl := Option.some.inj found
      exact same ▸ List.mem_cons_self
    · split at found
      · simp at found
      · exact List.mem_cons_of_mem _ (ih found)

/-- In a calm pool no region is being racked. -/
theorem Calm.notRacked {s : State} (h : Calm s) (rid : Nat) : (s.region rid).rack = none := by
  unfold State.region Tbl.getD
  cases found : Tbl.find s.rgn.regions rid with
  | none => rfl
  | some g => exact h.racks (rid, g) (Tbl.mem_of_find found)

theorem State.rackCopied_calm {s : State} (h : Calm s) (rid old n : Nat) : s.rackCopied rid old n = s := by
  unfold State.rackCopied
  rw [h.notRacked]

/-- With no region racked the end of a racking changes no engine. -/
theorem State.rackEnd_calm {s : State} (h : Calm s) (rid : Nat) : (s.rackEnd rid).eng.units = s.eng.units := by
  unfold State.rackEnd
  split
  · rfl
  · rw [h.notRacked]
    dsimp only
    split
    · exact State.finishJob_units s _ _
    · rfl

/-- A completed zeroing measure. -/
theorem State.doneInternal_zero {s : State} {r : Run} (kind : r.m.kind = .zero) :
    s.doneInternal r = ((r.wr ++ r.wr2).foldl (fun s rs => s.writeCells rs []) s).actStep r.m := by
  unfold State.doneInternal
  rw [kind]

/-- A completed zeroing measure leaves its destination zero and changes no engine. -/
theorem State.doneInternal_zeroes {s : State} (h : Calm s) (w : Memory.wf s.mem = true) {r : Run} (kind : r.m.kind = .zero) :
    (s.doneInternal r).eng.units = s.eng.units ∧
      ∀ x ∈ (r.wr ++ r.wr2).flatMap id, ∀ a, x.1 ≤ a → a < x.1 + x.2 → Memory.get (s.doneInternal r).mem a = 0 := by
  rw [State.doneInternal_zero kind]
  refine ⟨(State.actStep_units _ r.m).trans (congrArg Eng.units (foldl_same State.eng (f := fun (s : State) (rs : List (Nat × Nat)) => s.writeCells rs [])
    (fun u rs => (State.writeCells_frame rfl (Frame.refl 65 u)).same .eng rfl) (r.wr ++ r.wr2) s)), fun x hx a lo hi => ?_⟩
  have read := State.zeroRuns_get h w (r.wr ++ r.wr2) a
  rw [if_pos ⟨x, hx, lo, hi⟩] at read
  exact read

/-- A completed copying measure makes its destination read as its source did and changes no engine. -/
theorem State.doneInternal_copies {s : State} (h : Calm s) (w : Memory.wf s.mem = true) {r : Run} {pa pb k : Nat} (kind : r.m.kind = .copy)
    (rd : r.rd = [[(pa, k)]]) (wr : r.wr = [[(pb, k)]]) (wr2 : r.wr2 = []) :
    (s.doneInternal r).eng.units = s.eng.units ∧ ∀ i, i < k → Memory.get (s.doneInternal r).mem (pb + i) = Memory.get s.mem (pa + i) := by
  have copied := State.copyRun_mem h rd wr wr2
  have read (i : Nat) (hi : i < k) : Memory.get (Memory.copy s.mem pa pb k) (pb + i) = Memory.get s.mem (pa + i) :=
    (Memory.get_copy w pa pb k (pb + i)).2 i rfl hi
  unfold State.doneInternal
  rw [kind]
  cases hw : r.m.work
  case rack rid =>
    dsimp only
    rw [copied]
    have calm : Calm ((s.setMem (Memory.copy s.mem pa pb k)).actStep r.m) := h.congr rfl rfl
    rw [State.rackCopied_calm calm]
    refine ⟨State.rackEnd_calm calm rid, fun i hi => ?_⟩
    rw [show State.mem (State.rackEnd _ rid) = _ from (State.rackEnd_frame rfl (Frame.refl 2156858 _)).same .mem rfl]
    exact read i hi
  all_goals
    dsimp only
    rw [copied]
    exact ⟨rfl, read⟩

/-- Settles O37: a measure with a dead tag through what its dropping stores, any other through the stores of its effect. -/
theorem measuresStoreInTheirDestinations : Obligations.MeasuresStoreInTheirDestinations := by
  unfold Obligations.MeasuresStoreInTheirDestinations
  intro s n
  refine ⟨fun idle => congrArg Host.Outcome.next ?_, fun r w errs poison racks running => ?_⟩
  · unfold State.completeMeasure
    rw [idle]
  · have calm : Calm s := ⟨errs, poison, racks⟩
    have wf : Memory.wf (s.freed n).mem = true := by rw [s.freed_mem]; exact w
    obtain ⟨dropped, done⟩ := State.completeMeasure_eq calm running
    refine ⟨s.completeMeasure n, rfl, fun a out => (State.completeMeasure_stores calm n running).out w a out, fun dead a => ?_,
      fun live kind => ?_, fun pa pb k live kind rd wr wr2 => ?_⟩
    · rw [dropped dead, State.retireRun_mem (State.freed_calm calm n) wf, s.freed_mem]
    · obtain ⟨units, zeroes⟩ := State.doneInternal_zeroes (State.freed_calm calm n) wf kind
      rw [done live (.inl kind)]
      exact ⟨by rw [State.unit_congr units, State.freed_running], zeroes⟩
    · obtain ⟨units, copies⟩ := State.doneInternal_copies (State.freed_calm calm n) wf kind rd wr wr2
      rw [done live (.inr kind)]
      refine ⟨by rw [State.unit_congr units, State.freed_running], fun i hi => ?_⟩
      rw [copies i hi, s.freed_mem]

/-! ### Engines leave and return -/

/-- A fault of an engine in service, by the measure that it ran (R152). -/
theorem State.engFault_faults {s v : State} {n : Nat} (hn : n < 256) (serves : (s.unit n).failed = false)
    (hv : v = (s.setUnit n fun u => { u with failed := true, offline := true, moving := true, testLeft := none, running := none }).raise
      blkENG (n / 64) 0 n) (after : Bool) :
    ((s.unit n).running = none → s.engFault n after = v) ∧
      (∀ r, (s.unit n).running = some r → r.m.work.job? = none →
        s.engFault n after = if v.dropped r.m.work then v.workEnds r.m.work else v.rerun n r.meas) ∧
      (∀ r w, (s.unit n).running = some r → r.m.work.job? = some w →
        s.engFault n after = if after && !r.wr.isEmpty then (v.tornWrite r).stopJob w.1 w.2 .internal 0x000E01 else v.rerun n r.meas) := by
  subst hv
  have go : (Decidable.decide (256 ≤ n) || (s.unit n).failed) = false := by simp [serves]; omega
  refine ⟨fun idle => ?_, fun r running internal => ?_, fun r w running job => ?_⟩ <;> refine (if_neg (Bool.eq_false_iff.mp go)).trans ?_
  · rw [idle]
  · rw [running]
    dsimp only
    rw [internal]
  · rw [running]
    dsimp only
    rw [job]

/-- Settles O38: ENG_OFFLINE, reset and self-test by the engine's own entry, a fault by what the engine ran. -/
theorem enginesLeaveAndReturn : Obligations.EnginesLeaveAndReturn := by
  unfold Obligations.EnginesLeaveAndReturn
  intro s fn n after hn
  refine ⟨fun may => ⟨fun on => ?_, fun off good => ?_, fun off bad => ?_⟩, fun tested => ⟨?_, ?_⟩, fun v serves hv => ?_⟩
  · exact congrArg Host.Outcome.next (if_neg (by simp [may, on]; omega))
  · exact congrArg Host.Outcome.next (if_neg (by simp [may, off, good]; omega))
  · exact congrArg Host.Outcome.next (if_pos (by simp [bad]))
  · refine congrArg Host.Outcome.next ?_
    unfold State.selfTestEnd
    rw [tested]
    rfl
  · refine congrArg Host.Outcome.next ?_
    unfold State.selfTestEnd
    rw [tested]
    rfl
  · obtain ⟨idle, internal, jobs⟩ := State.engFault_faults hn serves hv after
    refine ⟨fun none_runs => congrArg Host.Outcome.next (idle none_runs), fun r running again => congrArg Host.Outcome.next ?_,
      fun r running none_of gone => congrArg Host.Outcome.next ?_, fun r a id running job late written w errs poison racks => ?_⟩
    · rcases again with ⟨none_of, kept⟩ | ⟨some_of, early⟩
      · exact (internal r running none_of).trans (if_neg (by simp [kept]))
      · obtain ⟨x, job⟩ := Option.ne_none_iff_exists'.mp some_of
        refine (jobs r x running job).trans (if_neg ?_)
        rcases early with h | h <;> simp [h]
    · exact (internal r running none_of).trans (if_pos gone)
    · have calm : Calm v := by
        subst hv
        exact Calm.congr ⟨errs, poison, racks⟩ (State.raise_mcx _ _ _ _ _) (State.raise_rgn _ _ _ _ _)
      have mem : v.mem = s.mem := by
        subst hv
        exact State.raise_mem _ _ _ _ _
      refine ⟨v.tornWrite r, congrArg Host.Outcome.next ((jobs r (a, id) running job).trans (if_pos (by simp [late, written]))), fun b out => ?_⟩
      rw [(State.tornWrite_measured calm).stores.out (by rw [mem]; exact w) b out, mem]

end Sys2Proof.Machine
end

section
/-! PROOFS. Racking (R172 to R174): what is written while a page is copied, the switch of a page, the leaf rewrite, and the end. -/

namespace Sys2Proof.Machine

/-! ### Writes while a page is copied (R172) -/

/-- What is written to a page with one place to go to is copied there, whatever becomes of its poison. -/
theorem State.forward_mem {s : State} {b : Bool} {x : Nat × Nat} {f : Nat × Nat × Nat}
    (one : (s.rgn.regions.flatMap fun e => s.forwards e.2 x.1 x.2) = [f]) : (s.forward b x).mem = Memory.copy s.mem f.1 f.2.1 f.2.2 := by
  unfold State.forward
  rw [one, List.foldl_cons, List.foldl_nil]
  dsimp only
  split
  · exact (State.copyPoison_frame rfl (Frame.refl 64 _)).same .mem rfl
  · rfl

/-! ### Entries and regions -/

/-- An entry after a change of one entry. -/
theorem State.setEntry_entry (s : State) (i j : Nat) (f : DirEntry → DirEntry) :
    (s.setEntry i f).entry j = if j = i then f (s.entry i) else s.entry j := by
  by_cases e : j = i <;> simp [State.setEntry, State.entry, e]

/-- The entries are the directory's. -/
theorem State.entry_congr {s t : State} (h : t.dir.entries = s.dir.entries) (i : Nat) : t.entry i = s.entry i := by simp only [State.entry, h]

/-- A region after a change of that region. -/
theorem State.setRegion_self (s : State) (r : Nat) (f : Region → Region) : (s.setRegion r f).region r = f (s.region r) := by
  simp [State.setRegion, State.region]

/-- The regions are those of the pool. -/
theorem State.region_congr {s t : State} (h : t.rgn.regions = s.rgn.regions) (r : Nat) : t.region r = s.region r := by simp only [State.region, h]

/-- Two entries of one page: the state, the grants and the generation of one are those of the other. -/
def DirEntry.SameGrants (x y : DirEntry) : Prop := x.state = y.state ∧ x.holder = y.holder ∧ x.sharers = y.sharers ∧ x.gen = y.gen

/-! ### The switch of a page (R173) -/

/-- The names of an index in a region's entries and in the agents' records. -/
def State.renamed (s : State) (rid old new : Nat) : State := s.onDir fun d =>
  { d with
    entries := Tbl.mapKV d.entries fun _ x => if x.region != rid then x else
      { x with link := if x.link == some old then some new else x.link
               cow := x.cow.map fun w => if w.src == old then { w with src := new } else w }
    agents := Tbl.mapKV d.agents fun _ a => { a with recs := a.recs.map (IdemRec.moved old new) } }

/-- Renaming an index leaves every entry's state, grants and generation. -/
theorem State.renamed_grants (s : State) (rid old new i : Nat) : ((s.renamed rid old new).entry i).SameGrants (s.entry i) := by
  simp only [State.entry, State.renamed, State.onDir_dir, Tbl.getD, Tbl.find_mapKV]
  cases Tbl.find s.dir.entries i with
  | none => exact ⟨rfl, rfl, rfl, rfl⟩
  | some x =>
    simp only [Option.map_some, Option.getD_some]
    split <;> exact ⟨rfl, rfl, rfl, rfl⟩

/-- A copied page that nothing holds back switches: its entry moves whole, and its old index becomes FREE. -/
theorem State.rackSwitch_switches {s : State} {rid page : Nat} {r : Rack} {c : RackPage} (racked : (s.region rid).rack = some r)
    (copied : r.copying.find? (fun c => c.old == page && c.left == 0) = some c) (moves : c.new_ ≠ page) (noWb : (s.entry page).wb = none)
    (noCow : (s.entry page).cow = none) (quiet : s.pageQuiet page (s.region rid).pageSize = true) : ∃ u : State,
    s.rackSwitch rid page = u.reopen c.new_ ∧ (u.entry c.new_).SameGrants (s.entry page) ∧ (u.entry page).state = .free ∧ u.mem = s.mem := by
  unfold State.rackSwitch
  extract_lets g e home
  rw [racked]
  dsimp -zeta only
  rw [copied]
  dsimp -zeta only
  extract_lets t u v w x y
  rw [if_neg (by simp [e, noWb, noCow, g, quiet])]
  have ht : t.entry c.new_ = s.entry page ∧ t.entry page = DirEntry.freed (s.entry page) := by
    constructor
    · rw [State.setEntry_entry, if_neg moves, State.setEntry_entry, if_pos rfl]
    · rw [State.setEntry_entry, if_pos rfl, State.setEntry_entry, if_neg (Ne.symm moves)]
  have hu : u = t.renamed rid page c.new_ := rfl
  have hv : v.dir = u.dir ∧ v.mem = u.mem := by
    unfold v
    clear_value home
    split
    · split
      · split <;> exact ⟨rfl, rfl⟩
      · exact ⟨rfl, rfl⟩
    · exact ⟨rfl, rfl⟩
  have hw : w.dir.entries = v.dir.entries ∧ w.mem = v.mem := ⟨rfl, rfl⟩
  have hy : y.dir = w.dir ∧ y.mem = w.mem := ⟨rfl, rfl⟩
  have tm : t.mem = s.mem := rfl
  have um : u.mem = t.mem := rfl
  clear_value t u v w x y
  have scrubbed : (y.change.rackScrub rid).dir = y.dir ∧ (y.change.rackScrub rid).mem = y.mem := by
    have frame := State.rackScrub_frame (rid := rid) rfl (Frame.refl 18 y.change)
    have change := State.change_frame rfl (Frame.refl 32768 y)
    exact ⟨(frame.same .dir rfl).trans (change.same .dir rfl), (frame.same .mem rfl).trans (change.same .mem rfl)⟩
  have entries (i : Nat) : (y.change.rackScrub rid).entry i = u.entry i :=
    State.entry_congr ((congrArg Dir.entries (scrubbed.1.trans hy.1)).trans (hw.1.trans (congrArg Dir.entries hv.1))) i
  refine ⟨y.change.rackScrub rid, rfl, ?_, ?_, scrubbed.2.trans (hy.2.trans (hw.2.trans (hv.2.trans (um.trans tm))))⟩
  · rw [entries, hu]
    exact ht.1 ▸ t.renamed_grants rid page c.new_ c.new_
  · rw [entries, hu]
    exact (t.renamed_grants rid page c.new_ page).1.trans (by rw [ht.2]; rfl)

/-- A page that is not copied, or not wholly, does not switch. -/
theorem State.rackSwitch_waits {s : State} {rid page : Nat} {r : Rack} (racked : (s.region rid).rack = some r)
    (busy : ∀ c ∈ r.copying, c.old = page → c.left ≠ 0) : s.rackSwitch rid page = s := by
  have none_done : r.copying.find? (fun c => c.old == page && c.left == 0) = none :=
    List.find?_eq_none.mpr fun c mem => by simpa using busy c mem
  unfold State.rackSwitch
  dsimp only
  rw [racked]
  dsimp only
  rw [none_done]

/-! ### The leaf rewrite (R174) -/

/-- Dropping cached translations leaves the leaves. -/
theorem State.cacheDrops_leaves (s : State) (as : List Nat) :
    (as.foldl (fun s a => s.cacheDrop a 0 (2 ^ 52)) s).xlt.l0 = s.xlt.l0 ∧ (as.foldl (fun s a => s.cacheDrop a 0 (2 ^ 52)) s).xlt.l1 = s.xlt.l1 := by
  have leaves := foldl_same (fun t : State => (t.xlt.l0, t.xlt.l1)) (f := fun (s : State) (a : Nat) => s.cacheDrop a 0 (2 ^ 52))
    (fun t a => foldl_same (fun t : State => (t.xlt.l0, t.xlt.l1)) (fun _ _ => rfl) [0, 1] t) as s
  exact Prod.mk.inj leaves

/-- A leaf of the region with its new frame, any other as it is. -/
def Leaf.rewritten (rid size : Nat) (r : Rack) (l : Leaf) : Leaf := if l.region == rid then l.renamed r size else l

/-- Once every page has switched, the rewrite gives every leaf of the region its new frame. -/
theorem State.rackRewrite_rewrites {s : State} {rid : Nat} {r : Rack} (racked : (s.region rid).rack = some r) (first : r.rewritten = false)
    (goes : r.ending = none) (none_left : r.todo = []) (none_copied : r.copying = []) :
    ((s.rackRewrite rid).region rid).rack = some { r with rewritten := true } ∧ (s.rackRewrite rid).mem = s.mem ∧
      (s.rackRewrite rid).xlt.l0 = Tbl.mapKV s.xlt.l0 (fun _ l => l.rewritten rid (s.region rid).pageSize r) ∧
      (s.rackRewrite rid).xlt.l1 = Tbl.mapKV s.xlt.l1 (fun _ l => l.rewritten rid (s.region rid).pageSize r) := by
  have mem := (State.rackRewrite_frame (s := s) (rid := rid) rfl (Frame.refl 2156830 s)).same .mem rfl
  refine ⟨?_, mem, ?_⟩ <;> clear mem
  all_goals
    unfold State.rackRewrite
    extract_lets g
    rw [racked]
    dsimp -zeta only
    rw [if_neg (by simp [first, goes, none_left, none_copied])]
    extract_lets fix u v w x
    have hw : w.xlt = v.xlt := (State.rehome_frame rfl (Frame.refl 20 v)).same .xlt rfl
    have hc : x.change.rgn = x.rgn ∧ x.change.xlt = x.xlt :=
      have change := State.change_frame rfl (Frame.refl 32768 x)
      ⟨change.same .rgn rfl, change.same .xlt rfl⟩
  · have told := foldl_same State.rgn (f := fun (s : State) (a : Nat) =>
      s.event (s.ownerFns a) evRACKED (leBytes 2 rid ++ leBytes 1 a ++ leBytes 1 g.hash ++ leBytes 1 g.placeMode))
      (fun t a => State.event_rgn _ _ _ _) (g.acl.map Prod.fst) x.change
    rw [State.region_congr (congrArg Rgn.regions (told.trans hc.1)) rid]
    exact congrArg Region.rack (State.setRegion_self w rid _)
  · have told := foldl_same State.xlt (f := fun (s : State) (a : Nat) =>
      s.event (s.ownerFns a) evRACKED (leBytes 2 rid ++ leBytes 1 a ++ leBytes 1 g.hash ++ leBytes 1 g.placeMode))
      (fun t a => State.event_xlt _ _ _ _) (g.acl.map Prod.fst) x.change
    obtain ⟨l0, l1⟩ := u.cacheDrops_leaves (g.acl.map Prod.fst)
    have kept : x.xlt = w.xlt := rfl
    rw [told, hc.2, kept, hw]
    exact ⟨l0, l1⟩

/-! ### The end (R174) -/

/-- Bins marked are marked. -/
theorem Region.onBins_marked {g : Region} {is : List Nat} {f : RBin → RBin} {k : Nat} {b : RBin} (listed : k ∈ is)
    (found : (g.onBins is f).bins[k]? = some b) : ∃ c, b = f c := by
  simp only [Region.onBins, List.getElem?_mapIdx, Option.map_eq_some_iff] at found
  obtain ⟨c, -, rfl⟩ := found
  exact ⟨c, if_pos (by simpa using listed)⟩

/-- Once the old bins are scrubbed they are released, and the job ends. -/
theorem State.rackDone_releases {s : State} {rid id : Nat} {r : Rack} {sc : Scrub} {rest : List (Nat × Scrub)} (racked : (s.region rid).rack = some r)
    (scrub : (s.scrubsOf rid fun w => w == .rackOld) = (id, sc) :: rest) (rewritten : r.rewritten = true) (done : s.actDone (.scrub id) = true) :
    ∃ t : State, s.rackDone rid = t.finishJob r.agent r.jobid ∧ (t.region rid).rack = none ∧ t.mem = s.mem ∧
      ∀ k ∈ r.oldBins, ∀ b, (t.region rid).bins[k]? = some b → b.gone = true := by
  unfold State.rackDone
  extract_lets g
  rw [racked]
  dsimp -zeta only
  rw [scrub]
  dsimp -zeta only
  rw [if_neg (by simp [rewritten, done])]
  extract_lets u whole v w
  have hu : u.mem = s.mem := (State.dropScrub_frame rfl (Frame.refl 18 s)).same .mem rfl
  have hv : v.mem = u.mem := (State.change_frame rfl (Frame.refl 32768 _)).same .mem rfl
  have hr : w.region rid = _ := (State.region_congr (congrArg Rgn.regions ((State.change_frame rfl (Frame.refl 32768 _)).same .rgn rfl)) rid).trans
    (State.setRegion_self u rid _)
  refine ⟨w, rfl, by rw [hr], hv.trans hu, fun k listed b found => ?_⟩
  rw [hr] at found
  obtain ⟨c, rfl⟩ := Region.onBins_marked (g := u.region rid) (f := fun b => { b with gone := true }) listed found
  rfl

/-- Settles O39: a write through the copy that forwarding makes, a switch by the entries that it moves, the rewrite by the leaves and the
end by the bins that it marks. -/
theorem rackingMovesPages : Obligations.RackingMovesPages := by
  unfold Obligations.RackingMovesPages
  refine ⟨fun s b x f w one => ⟨fun i hi => ?_, fun a out => ?_⟩, fun s rid page r racked =>
    ⟨fun c copied moves noWb noCow quiet => ?_, fun busy => ?_, fun first goes none_left none_copied => ?_, fun id sc rest scrub rewritten done => ?_⟩⟩
  · rw [State.forward_mem one]
    exact (Memory.get_copy w _ _ _ _).2 i rfl hi
  · rw [State.forward_mem one]
    exact (Memory.get_copy w _ _ _ _).1 out
  · obtain ⟨u, eq, ⟨state, holder, sharers, gen⟩, free, mem⟩ := State.rackSwitch_switches racked copied moves noWb noCow quiet
    exact ⟨u, congrArg Host.Outcome.next eq, state, holder, sharers, gen, free, mem⟩
  · exact congrArg Host.Outcome.next (State.rackSwitch_waits racked busy)
  · exact ⟨s.rackRewrite rid, rfl, State.rackRewrite_rewrites racked first goes none_left none_copied⟩
  · obtain ⟨t, eq, rest⟩ := State.rackDone_releases racked scrub rewritten done
    exact ⟨t, congrArg Host.Outcome.next eq, rest⟩

end Sys2Proof.Machine
end
